-- ==== Sys2Proof/Word.lean ====
section
/-! DEFINITION. The word types of the PN1536 register space and of its packets. -/

namespace Sys2Proof

/-- One register word of the BAR0 space (R131: accesses are of one 32-bit DWORD). -/
abbrev Word := BitVec 32

/-- One byte of a packet, a mailbox slot or the Mere frame store. -/
abbrev Byte := BitVec 8

end Sys2Proof
end

