-- ==== Sys2Proof/Syntax.lean ====
section
/-! DEFINITION. The commands of the PN1536: one constructor for each row of the table of operations and
events, with the operands that the row's rules speak of.  Where a rule judges something outside the part (a
signature, a signal, a measured value), the operand carries what was found. -/

namespace Sys2Proof

/-- A request of the Igkix protocol as the firmware takes it (R96): the port it came on, the P0 slot or the
sender (IPv4 address × 65,536 + UDP port) that its response goes to, its tag and its TLV bytes. -/
structure Req where
  port : Fin 5
  src : Nat
  tag : Nat
  payload : List Byte
  deriving DecidableEq, Repr

/-- One change that the active seat mirrors to its partner (R463), or one value of a snapshot (R476). -/
inductive LiveItem
  /-- A completed register write: BAR0 offset and word. -/
  | write (offset value : Nat)
  /-- A commit: target frame, groups, port (0xFF: BAR0) and tag. -/
  | commit (target groups port tag : Nat)
  /-- A take-list admission; it supersedes the entry of the same destination and frame (R222). -/
  | enlist (dest source frame port tag : Nat)
  /-- A pending entry leaves the list unapplied. -/
  | cancel (dest frame port tag : Nat)
  /-- A route joins a held salvo. -/
  | prepare (salvo dest source port tag : Nat)
  /-- A held salvo's routes are freed. -/
  | discard (salvo : Nat)
  /-- A held salvo's routes become pending for a frame. -/
  | fire (salvo frame port tag : Nat)
  /-- A destination range becomes protected by a port, or unprotected (0xFF). -/
  | protect (first count port : Nat)
  /-- An auto-changeover decision: the source the destination goes to, and whether it is the backup. -/
  | changeover (dest source : Nat) (backup : Bool)
  /-- A value of a snapshot. -/
  | snapshot (offset value : Nat)
  deriving DecidableEq, Repr


/-- What a checkpoint holds (R466). -/
structure Checkpoint where
  epoch : Nat
  /-- The highest LIVE CSEQ issued before T0, and the CRC-32C of the items since the previous cut. -/
  cut : Nat
  crc : Nat
  peat : Nat
  peatValid : Nat
  parent : Nat
  iface : Nat
  servo : Nat
  rate : Nat
  stepPend : Nat
  ledgerEpoch : Nat
  /-- The ledgers that were faulted at the last T3: identity and imbalance. -/
  ledgers : List (Nat × Int)
  frame : Nat
  deriving DecidableEq, Repr

/-- The body of a KEEPALIVE (R459): role and TAKEOVER_OK, claim state, LATH_RUN, health level, frame number, TIME in ns, and the
next key index once it is announced (R461). -/
structure CswKeep where
  role : Fin 5
  takeoverOk : Bool
  claim : Bool
  lath : Bool
  health : Fin 4
  frame : BitVec 48
  time : Nat
  next : Option (BitVec 32)
  deriving DecidableEq, Repr

/-- What a Causeway frame carries, by its CLASS (R459). -/
inductive CswBody
  /-- CLASS 0. -/
  | keepalive (k : CswKeep)
  /-- CLASS 1: one Igkix packet of port P3. -/
  | control (bytes : List Byte)
  /-- CLASS 2: one live item. -/
  | live (item : LiveItem)
  /-- CLASS 3: a checkpoint. -/
  | checkpoint (content : Checkpoint)
  /-- CLASS 4: epoch, frame number, and the CRC-32C of the checkpoint frames of the epoch. -/
  | marker (epoch frame crc : Nat)
  /-- CLASS 5: the output seal of one line. -/
  | outSeal (dest frame line value : Nat)
  /-- CLASS 6: the sender's TIME (2⁻¹⁶ ns), and its REF_STATUS.LOOP and SELECTED (R351, R462). -/
  | time (stamp loop selected : Nat)
  /-- CLASS 7: a request to yield, with its cause: 0 verdict 1, 1 no marker, 2 health FAILED (R473). -/
  | yieldReq (cause : Nat)
  /-- CLASS 8: the results of a blame check: the destination and its slot, whether witness and ingest agree, and the ingest seals; no
  seals when the check begins (R471). -/
  | blame (dest slot : Nat) (agree : Bool) (seals : List Nat)
  /-- CLASS 9: seat and salt (R461). -/
  | hello (seat : Nat) (salt : List Byte)
  deriving DecidableEq, Repr

/-- One ANC packet of a line: whether it lies in the Y stream, and its words from the ancillary data flag to the checksum. -/
structure AncPacket where
  luma : Bool
  words : List Nat
  deriving DecidableEq, Repr

/-- The content words of a line: its ANC packets in order of arrival, and its active words (R184). -/
structure LineWords where
  anc : List AncPacket
  active : List Nat
  deriving DecidableEq, Repr

/-- A destination line at egress: its number, and the words that a plane builds where it does not build the source line as it is
(R210, R213). -/
structure VoteLine where
  number : Nat
  faultA : Option LineWords
  faultB : Option LineWords
  deriving DecidableEq, Repr

/-- A line of a source slot's stream as ingest receives it (R183).  `words` are the words of the line's content as
ingest takes them, `witness` those that the input witness sees (R471). -/
structure LineIn where
  /-- The CORE cycles from the command before it to the start of the line. -/
  wait : Nat
  /-- It starts with a valid EAV. -/
  eav : Bool
  /-- The line number it carries, 0 for none. -/
  number : Nat
  /-- XYZ words whose protection bits fail, and whether a line CRC is in error. -/
  xyz : Nat
  crc : Bool
  /-- An early EAV truncates it (R190). -/
  damaged : Bool
  words : LineWords
  witness : LineWords
  deriving DecidableEq, Repr

/-- The end of a complete source frame (R188): the FORMAT and RATE that its TRS timing and payload ID show, and whether the payload ID
disagrees with the raster. -/
structure FrameIn where
  fmt : Nat
  rate : Nat
  pidMismatch : Bool
  deriving DecidableEq, Repr

/-- The CRCs of a guarded region over one head frame where the head or the witness renderer did not draw what was composed: the head's and the
witness's (R262). -/
structure GuardIn where
  head : Nat
  region : Nat
  own : Nat
  witness : Nat
  deriving DecidableEq, Repr

/-- What an ECC error in Mere meets, by the table of R210. -/
inductive MereHit
  /-- Active or ANC words of a frame: egress finds it by the seal. -/
  | content
  /-- A line header: the slot and the line. -/
  | header (slot : Fin 1536) (line : Nat)
  /-- A proxy read for a tile of a head. -/
  | proxy (tile : Fin 1024)
  /-- A composition: egress finds it by the seal. -/
  | composition
  /-- The staging of a transmit context, with the number of packets that the error affects. -/
  | staging (context : Fin 2048) (packets : Nat)
  | other
  deriving DecidableEq, Repr

/-- A received character after 8b/10b decoding (R153): a code violation, a control character by its code (K28.5 is 0xBC, K27.7
0xFB, K28.1 0x3C, K23.7 0xF7, K28.0 0x1C, K29.7 0xFD), or a data byte. -/
inductive LaneChar
  | bad
  | ctl (k : Byte)
  | dat (b : Byte)
  deriving DecidableEq, Repr

/-- A FOM reading of a receive lane (R166, R168): the reading, whether the CDR is locked, whether only K28.5 arrived in the
interval, and the CTLE setting and DFE taps that adaptation reached. -/
structure FomIn where
  fom : Byte
  cdr : Bool
  idle : Bool
  ctle : Fin 16
  taps : Nat
  deriving DecidableEq, Repr

/-- A UDP datagram as it arrives on a management port: the addresses, whether it is a fragment, and its payload (R90). -/
structure Datagram where
  srcAddr : BitVec 32
  srcPort : BitVec 16
  dstAddr : BitVec 32
  dstPort : BitVec 16
  fragment : Bool
  bytes : List Byte
  deriving DecidableEq, Repr

/-- An access of a bus master: internal address, bytes of each beat, beats, and a write's words (R77, R78); the byte enables of a host's
request of one DWORD (R131); the beats that are still to come when the next command is carried out (R83, R86); the CORE cycles that the
master has waited for the target, and the other masters that wait for it, with theirs (R82). -/
structure Access where
  addr : Nat
  size : Nat
  beats : Nat
  write : Bool
  words : List Nat
  enables : BitVec 4 := 15
  left : Nat := 0
  waited : Nat := 0
  rivals : List (Fin 8 × Nat) := []
  deriving DecidableEq, Repr

/-- What the host writes or reads in PCI Express configuration space, or writes in the MSI-X table (R130, R141). -/
inductive PciConfig
  /-- Memory Space Enable of the command register. -/
  | memory (on : Bool)
  /-- A word of the six base address registers. -/
  | bar (k : Fin 6) (value : BitVec 32)
  /-- The power state: D0 or D3hot. -/
  | power (hot : Bool)
  /-- A W1C write of the AER uncorrectable error status, and a write of its mask. -/
  | aerClear (value : BitVec 32)
  | aerMask (value : BitVec 32)
  /-- A read of the configuration word at four times `word`. -/
  | read (word : Fin 1024)
  /-- Bus Master Enable of the command register. -/
  | busMaster (on : Bool)
  /-- MSI-X message control: enable and function mask. -/
  | msix (enable functionMask : Bool)
  /-- A vector of the MSI-X table in BAR0: message address, message data and vector control. -/
  | vector (n : Fin 64) (address data control : Nat)
  deriving DecidableEq, Repr

/-- The levels of FS and SD at the rising and at the falling edge of a BCLK cycle (R377). -/
structure BclkCycle where
  fsRise : Bool
  sdRise : Bool
  fsFall : Bool
  sdFall : Bool
  deriving DecidableEq, Repr

/-- A pin frame of an audio port (R375, R378): the CORE cycles from the command before to the FS edge that ends it, its BCLK cycles, and FS
against its nominal frequency in ppb. -/
structure PortFrame where
  wait : Nat
  cycles : List BclkCycle
  ppb : Int
  deriving DecidableEq, Repr

/-- What the loop measured in a second (R361, R362): the control value at its end and its mean, in units of 2⁻¹⁶ ppb; the
magnitudes of the frequency error (2⁻¹⁶ ppb) and of the phase error (2⁻¹⁶ ns) to the selected input. -/
structure LoopIn where
  value : Int
  mean : Int
  freq : Nat
  phase : Nat
  deriving DecidableEq, Repr

/-- A frame offered for transmit: its length with FCS before padding, the bytes of it that stand in the transmit FIFO, and for a
PTP event message its sequenceId and messageType. -/
structure TxIn where
  length : Nat
  fifo : Nat
  event : Option (Nat × Nat)
  deriving DecidableEq, Repr

/-- What a link came up with on a management port (R292): 1000BASE-KX or 10GBASE-KR, Clause 74 FEC in use, and whether the
peer's base page advertised 1000BASE-KX. -/
structure MgtLink where
  kr : Bool
  fec74 : Bool
  peerKx : Bool
  deriving DecidableEq, Repr

/-- A link that comes up: for how many ms every lane has held its locks (R276), and what it came up with on a management port. -/
structure LinkIn where
  held : Nat
  mgt : MgtLink
  deriving DecidableEq, Repr

/-- A sample row data segment of ST 2110-20: whether it lies in the second field, its row in the frame or field, its offset in the row in
samples, and its pgroups (R304, R313). -/
structure Srd where
  second : Bool
  row : Nat
  offset : Nat
  data : List Byte
  deriving DecidableEq, Repr

/-- The payload of a media packet (R300): the segments of a video packet, the ANC packets of an ANC packet with their lines, or the
samples of an audio packet as bytes. -/
structure RtpBody where
  srds : List Srd
  anc : List (Nat × AncPacket)
  audio : List Byte
  deriving DecidableEq, Repr

/-- A UDP datagram as IP media flow matching and validation see it (R303–R306): its addresses, whether its IPv4 header is good and it
is no fragment, whether its UDP checksum is right, its RTP header and its payload. -/
structure RtpIn where
  srcIp : Nat
  dstIp : Nat
  dstPort : Nat
  headerOk : Bool
  udpOk : Bool
  version : Nat
  pt : Nat
  ssrc : Nat
  seq : Nat
  ts : Nat
  marker : Bool
  body : RtpBody
  deriving DecidableEq, Repr

/-- A line whose playout begins (R308): the gang member it is of, its number, whether an uncorrectable error met it in
the receive store or in Mere (R309), and the words that the input witness sees (R471). -/
structure PlayIn where
  member : Fin 16
  number : Nat
  damaged : Bool
  witness : LineWords
  deriving DecidableEq, Repr

/-- A packet of a transmit context that its schedule names (R313–R315): its frame's number and its index in the frame or field; whether it
is of the second field; and for audio the 48 kHz count of its first sample. -/
structure PktIn where
  frame : Nat
  index : Nat
  second : Bool
  sample : Nat
  deriving DecidableEq, Repr

/-- A PTP message as an interface receives it (R333): versionPTP, whether messageLength lies within the frame, messageType,
domainNumber, twoStepFlag, sequenceId, sourcePortIdentity (80 bits), the correctionField in 2⁻¹⁶ ns, the timestamp that it carries in
ns, whether it is addressed to this clock (Delay_Resp), logMessageInterval, and the dataset of an Announce. -/
structure PtpMsg where
  version : Nat
  whole : Bool
  typ : Nat
  domain : Nat
  twoStep : Bool
  seq : Nat
  source : Nat
  corr : Int
  stamp : Nat
  mine : Bool
  logInterval : Int
  gm : Nat
  priority1 : Nat
  clockClass : Nat
  accuracy : Nat
  variance : Nat
  priority2 : Nat
  steps : Nat
  deriving DecidableEq, Repr

/-- What an Ethernet frame carries, by the tables of R281: a PAUSE of some quanta, another MAC control opcode, a PTP message, an
IPv4 UDP datagram as flow matching and as the CMD block see it, ARP, ICMP or IGMP, or anything else. -/
inductive EthBody
  | pause (quanta : BitVec 16)
  | control
  | ptp (x : PtpMsg)
  | udp (flow : RtpIn) (dgram : Datagram)
  | lath
  | other
  deriving DecidableEq, Repr

/-- The SecTAG of a protected frame (R296): whether it is valid, its AN and PN, and whether the ICV verifies. -/
structure SecTag where
  valid : Bool
  an : Fin 4
  pn : Nat
  icvOk : Bool
  deriving DecidableEq, Repr

/-- A Causeway frame as a link delivers it (R458–R461): the link, its CSEQ, its length in bytes from destination address to FCS,
whether its FCS is right, and its SecTAG. -/
structure CswHead where
  link : Fin 2
  cseq : BitVec 32
  length : Nat
  fcsOk : Bool
  tag : Option SecTag
  deriving DecidableEq, Repr

/-- The four time stamps of an exchange of TIME frames, in 2⁻¹⁶ ns (R462): sent and answered here (`t1`, `t4`), received and sent
at the partner (`t2`, `t3`); and the partner's REF_STATUS.LOOP and SELECTED (R351). -/
structure TimeIn where
  t1 : Nat
  t2 : Nat
  t3 : Nat
  t4 : Nat
  loop : Fin 8
  selected : Fin 8
  deriving DecidableEq, Repr

/-- A frame as a MAC receives it (R278, R281): its length, and that without SecTAG and ICV; FEC codewords of it that were corrected
and that could not be; a PCS error code; whether its FCS is right; the destination address; TPID and VID of its VLAN tag; its SecTAG;
what it carries; and the bytes that wait in the receive buffer, not yet taken by the stage behind it. -/
structure EthIn where
  length : Nat
  inner : Nat
  corrected : Nat
  uncorrected : Nat
  pcsError : Bool
  fcsOk : Bool
  dst : Nat
  vlan : Option (Nat × Nat)
  secTag : Option SecTag
  body : EthBody
  waiting : Nat
  deriving DecidableEq, Repr

/-- A job of a logical engine's list, by engine and entry (R443). -/
structure FenJob where
  engine : Fin 256
  entry : Fin 64
  deriving DecidableEq, Repr

/-- How a self-test slice ends (R497): PASS, FAIL, or a memory failure that is soft-repaired, in a Mere row or in an on-die array: its
array identifier, and the row or column. -/
inductive SliceResult
  | pass
  | fail
  | repair (mere : Bool) (array row : Nat)
  deriving DecidableEq, Repr

/-- A result of power-on logic BIST that is not PASS (R485, R486): the partition, the unit of a per-unit partition (else 0xFFFF), and
whether the test reached its pattern count (FAIL) or not (INCOMPLETE). -/
structure PostIn where
  partition : Fin 40
  unit : Nat
  complete : Bool
  deriving DecidableEq, Repr

/-- A Benram image (R65): its 512-byte header, and the bytes that follow it. -/
structure ImageIn where
  header : List Byte
  body : List Byte
  deriving DecidableEq, Repr

/-- What step 10 finds (R372, R374): the frequency of XO_IN in Hz, and the REF and XO registers that the board record of the image names, by
their offset from 0x0080_0000, with their words; where the record stands in the image, and how, is open. -/
structure Step10In where
  xoHz : Nat
  board : List (Fin 0x200 × Word)
  deriving DecidableEq, Repr

/-- What the start-up steps that follow an accepted push find (R68): what step 10 finds, and the step that does not complete (0 for none). -/
structure BootRest where
  ten : Step10In
  stuck : Nat
  deriving DecidableEq, Repr

/-- What the steps of a Lath restart find (R72): the two flash slots, and the step that does not complete (0 for none). -/
structure RestartIn where
  slots : List ImageIn
  stuck : Nat
  deriving DecidableEq, Repr

/-- What the start-up steps 1–10 find (R59, R61): the SEAT strap, the trim banks, the lock bits, the logic BIST results that are not
PASS and the pattern counts, an HBM stack that does not train, working SRAM, the soft repairs (in a Mere row or not, array, row or
column), the units that memory BIST retires (pool, unit), the key store's integrity, the two flash slots, what step 10
finds, and the step that does not complete (0 for none); the repair banks with an uncorrectable error (REPAIR0–REPAIR3, 4 HBM_REPAIR),
and the public-key hashes that manufacture fused (R491). -/
structure BootIn where
  seat : Fin 2
  trimOk : Bool
  repairBad : List (Fin 5)
  keyHashes : List (List Byte)
  locks : BitVec 18
  post : List PostIn
  patterns : List Nat
  badStack : Option (Fin 2)
  sramOk : Bool
  repairs : List (Bool × Nat × Nat)
  retired : List (Fin 4 × Nat)
  keysOk : Bool
  slots : List ImageIn
  ten : Step10In
  stuck : Nat
  deriving DecidableEq, Repr

/-- What the head frames that start at a frame tick meet: the identities found in Mere where they differ from those expected, by tile,
the tiles whose read met an uncorrectable error (R247, R255), and the guards of the head frames that end (R262). -/
structure TickIn where
  found : List (Nat × Nat)
  errors : List Nat
  guards : List GuardIn
  deriving DecidableEq, Repr

/-- A job that converts the samples of a serial port, and the ratio that its converter has steered to, in 2⁻³² pin frames for each block
(R380); none where the job's own instructions move the words (R442). -/
structure PortJob where
  port : Fin 24
  engine : Fin 256
  entry : Fin 64
  ratio : Option Nat
  deriving DecidableEq, Repr

/-- The results of a meter slot's measurement of a block (R419, R420): TRUE_PEAK, and the loudness values that are due. -/
structure MeterIn where
  slot : Fin 16384
  truePeak : BitVec 16
  momentary : Option (BitVec 16)
  short : Option (BitVec 16)
  integrated : Option (BitVec 16)
  deriving DecidableEq, Repr

/-- The loudness values of a group that are due (R421). -/
structure GroupIn where
  group : Fin 128
  momentary : Option (BitVec 16)
  short : Option (BitVec 16)
  integrated : Option (BitVec 16)
  deriving DecidableEq, Repr

/-- What a block tick finds (R51, R401, R443): the BLOCK jobs that completed in the block that ends, as engine and entry, without their
instructions having been commanded one by one; the cycles that engines were busy; the packets that playout reaches, by receive context; the port
jobs; and the measurements. -/
structure BlockIn where
  done : List (Fin 256 × Fin 64)
  busy : List (Fin 256 × Nat)
  playout : List (Nat × List Nat)
  ports : List PortJob
  meters : List MeterIn
  groups : List GroupIn
  deriving DecidableEq, Repr

/-- An edge that a REF pin samples (R352): the pin, and whether the edge falls. -/
structure PinEdge where
  pin : Fin 4
  falling : Bool
  deriving DecidableEq, Repr

/-- The place of an outcome that the model computes from its state (log entry 351): it carries nothing. -/
abbrev Computed := Unit

/-- The operations and events of the part, one for each row of `spec/opcode_table.json`. -/
inductive Instr
  /-- REGISTER_WRITE (R2): A write to a register field that has no row of its own acts by its access type, subject to the lease check. -/
  | registerWrite (m : Fin 8) (word : Fin 16777216) (v : Word)
  /-- SHADOW_WRITE (R47): A write to an SH field loads the shadow copy, subject to bandwidth and granule admission. -/
  | shadowWrite (m : Fin 8) (word : Fin 16777216) (v : Word)
  /-- READ_CLEAR (R5): A read of an RC field returns the value and clears the field. -/
  | readClear (m : Fin 8) (word : Fin 16777216)
  /-- LATCHING_READ (R137): A read of the lowest register of a split 64-bit value latches the higher words for that master. -/
  | latchingRead (m : Fin 8) (word : Fin 16777216)
  /-- BAR2_WRITE (R132): A host write to Mere through BAR2 takes effect only while P0 holds the MERE lease. -/
  | bar2Write (off : BitVec 35) (bytes : List Byte)
  /-- TICK_START (R36): A write of TICK_CTRL.START loads TIME from the preset when PTP time is not valid and arms the tick start. -/
  | tickStart (m : Fin 8) (v : Word)
  /-- TICK_STOP (R53): A write of TICK_CTRL.STOP stops the tick at the end of the frame in progress or cancels a waiting start. -/
  | tickStop (m : Fin 8) (v : Word)
  /-- TICK_CFG_WRITE (R52): A write to TICK_CFG changes house and block rate only while the tick is stopped. -/
  | tickCfgWrite (m : Fin 8) (v : Word)
  /-- TICK_COMMIT_GO (R43): A write of TICK_COMMIT with GO issues a commit of the named groups for the target frame. -/
  | tickCommitGo (m : Fin 8) (v : Word)
  /-- FRAME_TICK (R39): At T0 the epoch increments, pending commits apply and take-list entries for the frame are armed. -/
  | frameTick (x : TickIn)
  /-- CUTOFF (R41): The cutoff of the frame passes, after which takes for the frame complete LATE. -/
  | cutoff
  /-- HALF_FRAME (R39): At half-frame phase T2 ends and the commit marker of the epoch is sent. -/
  | halfFrame
  /-- LEDGER_LATCH (R28): At the start of T3 every ledger counter is latched and the Lath checks each equation. -/
  | ledgerLatch (unchecked : Nat)
  /-- BLOCK_TICK (R51): At the audio block tick overrunning jobs are abandoned and BLOCK jobs of the new block are dispatched. -/
  | blockTick (x : BlockIn)
  /-- TICK_RESTART (R542): The first frame tick after a start settles pending commits, takes and held changes as LATE or pending. -/
  | tickRestart (x : TickIn)
  /-- RENUMBER_TICK (R37): The first frame tick after a time step renumbers frames and shifts every pending target by D. -/
  | renumberTick (x : TickIn)
  /-- TICK_HALT (R38): The tick stops at the end of the frame in progress after a STOP or a synthesiser lock loss. -/
  | tickHalt
  /-- LOSS_OF_LOCK (R31): A PLL or synthesiser loses lock with the consequence stated for its domain. -/
  | lossOfLock (domain : Fin 18) (inst : Nat) (bursts : List Nat)
  /-- COMMIT (R43): Command 0x0510 issues a commit of the named groups for a target frame. -/
  | commit (q : Req)
  /-- TICK_STATUS_GET (R544): Command 0x0511 returns frame number, epoch, cutoff and TIME_VALID. -/
  | tickStatusGet (q : Req)
  /-- TIME_PRESET (R36): Command 0x0512 loads TICK_TIME_PRESET while the tick is stopped. -/
  | timePreset (q : Req)
  /-- POR_ASSERT (R72): POR_N low resets the whole device. -/
  | porAssert
  /-- POR_RELEASE (R59): The rise of POR_N starts the start-up sequence of steps 1 to 10. -/
  | porRelease (x : BootIn)
  /-- BOOT_WATCHDOG (R60): A start-up step watchdog expires and the device enters BOOT_FAIL. -/
  | bootWatchdog
  /-- BOOT_PUSH (R68): A write of BOOT_PUSH with GO submits a host-pushed image chunk. -/
  | bootPush (m : Fin 8) (v : Word) (chunk : List Byte) (x : BootRest)
  /-- BOOT_TICK_START (R69): Step 11 starts the tick when the loop locks or 10 s after step 10. -/
  | bootTickStart
  /-- CAUSEWAY_TRAINING_END (R70): Causeway training ends up or timed out and the first role is taken. -/
  | causewayTrainingEnd
  /-- SEAT_B_CLAIM_WAIT (R70): Seat B's wait of 3 frame ticks ends and its first role is taken. -/
  | seatBClaimWait
  /-- TOP_RESET_DEVICE (R72): A guarded write of TOP_RESET KIND 1 makes a device reset. -/
  | topResetDevice (m : Fin 8) (v : Word)
  /-- TOP_RESET_LATH (R72): A guarded write of TOP_RESET KIND 2 makes a Lath restart. -/
  | topResetLath (m : Fin 8) (v : Word) (bursts : List Nat)
  /-- RESET (R72): Command 0x0102 requests a device reset or a Lath restart. -/
  | reset (q : Req) (bursts : List Nat)
  /-- PERST (R57): PERST_N, hot reset or link down resets the PCI Express block and the P0 mailbox. -/
  | perst (bursts : List Nat)
  /-- LOCKSTEP_MISMATCH (R72): A Lath lockstep mismatch makes a Lath restart. -/
  | lockstepMismatch (bursts : List Nat)
  /-- LATH_WATCHDOG (R72): The Lath watchdog expires and makes a Lath restart. -/
  | lathWatchdog (bursts : List Nat)
  /-- LATH_RESTART_DONE (R72): A Lath restart completes and the firmware resumes from the registers in effect. -/
  | lathRestartDone (x : RestartIn)
  /-- IDENTIFY (R75): Command 0x0101 returns identity, revision, status and role. -/
  | identify (q : Req)
  /-- SUMP_ACCESS (R80): An undecoded access is answered with DECODE_ERR by the sump. -/
  | sumpAccess (m : Fin 8) (x : Access)
  /-- BUS_SUMP_CLEAR (R80): Clearing BUS_SUMP_INFO.VALID re-arms capture and zeroes OVERFLOW. -/
  | busSumpClear (m : Fin 8) (v : Word)
  /-- TARGET_ERROR (R79): An access a target cannot accept is answered with TARGET_ERR and has no effect. -/
  | targetError (m : Fin 8) (x : Access)
  /-- TARGET_TIMEOUT (R84): A target that does not respond within BUS_TIMEOUT is answered for and marked hung. -/
  | targetTimeout (m : Fin 8) (x : Access)
  /-- LATE_TARGET_RESPONSE (R84): A response arriving after the timeout is discarded and counted. -/
  | lateTargetResponse (target : Fin 9)
  /-- REMAP (R85): A write of BUS_CTRL.REMAP places working SRAM in the low window. -/
  | remap (m : Fin 8) (v : Word)
  /-- P0_DOORBELL (R93): A write of CMD_P0_DOORBELL hands request slot k to the PN1536. -/
  | p0Doorbell (slot : Fin 64) (bytes : List Byte)
  /-- RSP_READY_CLEAR (R93): Clearing a CMD_P0_RSP_READY bit returns or refills the response slot. -/
  | rspReadyClear (hi : Bool) (v : Word)
  /-- MGMT_DATAGRAM (R99): An Igkix datagram arrives on P1 or P2 and is checked in order. -/
  | mgmtDatagram (port : Fin 2) (x : Datagram)
  /-- UART_PACKET (R91): A SLIP-framed Igkix packet arrives on P4. -/
  | uartPacket (bytes : List Byte)
  /-- HELD_CHANGE_WRITE (R109): In the second half of frame N−1 the firmware writes and commits held changes for frame N. -/
  | heldChangeWrite
  /-- LEASE_TIMEOUT (R119): No renewal for CMD_LEASE_CFG.TIMEOUT ends all of the port's leases. -/
  | leaseTimeout (port : Fin 5)
  /-- NOP (R129): Command 0x0103 returns the current frame number. -/
  | nop (q : Req)
  /-- PORT_STATUS_GET (R129): Command 0x0104 returns port status and ledger counters. -/
  | portStatusGet (q : Req)
  /-- PORT_KEY_SET (R104): Command 0x0105 loads a new key for P1, P2 or P3. -/
  | portKeySet (q : Req)
  /-- NOTIFY_SUBSCRIBE (R129): Command 0x0106 subscribes the sender to event groups. -/
  | notifySubscribe (q : Req)
  /-- GPIO_CONFIG (R124): Command 0x0110 configures a GPIO pin. -/
  | gpioConfig (q : Req)
  /-- GPIO_SET (R124): Command 0x0111 sets GPIO output bits. -/
  | gpioSet (q : Req)
  /-- GPIO_GET (R124): Command 0x0112 returns GPIO level, chatter and stuck bits. -/
  | gpioGet (q : Req)
  /-- PROTECT (R121): Command 0x0220 protects a destination range for the issuing port. -/
  | protect (q : Req)
  /-- UNPROTECT (R123): Command 0x0221 ends protection, by the holder or by P0 with FORCE. -/
  | unprotect (q : Req)
  /-- PROTECT_GET (R129): Command 0x0222 returns the holder of each destination. -/
  | protectGet (q : Req)
  /-- LEASE_TAKE (R115): Command 0x0901 grants an expert lease on named units. -/
  | leaseTake (q : Req)
  /-- LEASE_RENEW (R119): Command 0x0902 restarts the lease timeout. -/
  | leaseRenew (q : Req)
  /-- LEASE_RELEASE (R119): Command 0x0903 releases named units. -/
  | leaseRelease (q : Req)
  /-- LEASE_STATUS (R544): Command 0x0904 returns the holder of each unit. -/
  | leaseStatus (q : Req)
  /-- CSR_READ (R118): Command 0x0910 reads consecutive register words. -/
  | csrRead (q : Req)
  /-- CSR_WRITE (R118): Command 0x0911 writes consecutive register words in held units. -/
  | csrWrite (q : Req)
  /-- ACCEPTED_EDGE (R125): A GPIO level change with no debounce window open is accepted as an edge. -/
  | acceptedEdge (pin : Fin 32) (level : Bool)
  /-- DEBOUNCE_WINDOW_END (R125): A debounce window closes and a differing level is accepted as a new edge. -/
  | debounceWindowEnd (pin : Fin 32)
  /-- CHATTER_WINDOW_END (R126): A 100 ms edge-count window ends and chatter is declared or ended. -/
  | chatterWindowEnd
  /-- STUCK_TIME_EXPIRY (R127): A pin active longer than STUCK_TIME is declared stuck. -/
  | stuckTimeExpiry (pin : Fin 32)
  /-- ACTIVE_LOW_WRITE (R548): A change of ACTIVE_LOW changes the active state without an edge. -/
  | activeLowWrite (m : Fin 8) (pin : Fin 32) (v : Word)
  /-- GPIO_ARM_WRITE (R124): A W1S write of GPIO_ARM arms a START pin. -/
  | gpioArmWrite (m : Fin 8) (v : Word)
  /-- EVT_STATUS_WRITE (R141): A W1C write of EVT_STATUS clears bits and re-signals a still-pending group. -/
  | evtStatusWrite (m : Fin 8) (g : Fin 32) (v : Word)
  /-- EVT_INT_EN_WRITE (R141): A write of EVT_INT_EN changes pending and re-signals a still-pending group. -/
  | evtIntEnWrite (m : Fin 8) (g : Fin 32) (v : Word)
  /-- COALESCE_WINDOW_END (R147): A source's coalesce window ends and its held raises are written as one record. -/
  | coalesceWindowEnd (event : Fin 1024)
  /-- EVT_LOG_RD_HOST_WRITE (R150): A write of the host reader index advances it, clamped and never backwards. -/
  | evtLogRdHostWrite (m : Fin 8) (v : Word)
  /-- HOST_READER_WRITE (R150): A change of EVT_CTRL.HOST_READER makes the host index active or inactive. -/
  | hostReaderWrite (m : Fin 8) (v : Word)
  /-- PCIE_LINK_EVENT (R143): The PCI Express link changes state and pending groups are signalled at link-up. -/
  | pcieLinkEvent (up : Bool) (speed : Fin 8) (width : Fin 16)
  /-- OUTBOUND_ACCESS (R133): An access to the host-memory range is translated or answered with TARGET_ERR. -/
  | outboundAccess (m : Fin 8) (x : Access) (answer : List Nat)
  /-- EVENT_LOG_READ (R144): Command 0x0120 returns log records from a sequence number. -/
  | eventLogRead (q : Req)
  /-- EVENT_COUNTS_GET (R151): Command 0x0121 returns the four event ledger terms. -/
  | eventCountsGet (q : Req)
  /-- REED_SUPERFRAME (R165): A Reed superframe is received, checked and handed to ingest. -/
  | reedSuperframe (lane : Fin 392) (start : Nat) (groups : List Nat)
  /-- FOM_READING (R166): The lane's 1 ms figure-of-merit reading drives receive state transitions. -/
  | fomReading (lane : Fin 392) (f : FomIn)
  /-- LANE_TRAINING_START (R166): After 10 ms in DOWN with signal and RX_EN the lane enters TRAINING. -/
  | laneTrainingStart (lane : Fin 392)
  /-- TRAINING_TIMEOUT (R166): 200 ms in TRAINING sends the lane DOWN. -/
  | trainingTimeout (lane : Fin 392)
  /-- ALIGNMENT_TIMEOUT (R166): 50 ms in ALIGNING with AUTO_ALIGN sends the lane DOWN. -/
  | alignmentTimeout (lane : Fin 392)
  /-- LOSS_OF_SIGNAL (R166): Loss of signal sends a receive lane DOWN. -/
  | lossOfSignal (lane : Fin 392)
  /-- CDR_UNLOCK (R166): CDR loss of lock sends a receive lane DOWN. -/
  | cdrUnlock (lane : Fin 392)
  /-- RATE_TRY_END (R169): 10 ms at one detect rate without lock moves to the next rate. -/
  | rateTryEnd (lane : Fin 384)
  /-- RETRAIN (R166): A write of RETRAIN sends the lane DOWN with cause 7. -/
  | retrain (m : Fin 8) (lane : Fin 384) (v : Word)
  /-- BITSLIP (R170): A write of BITSLIP moves the character boundary by one UI. -/
  | bitslip (m : Fin 8) (lane : Fin 384) (v : Word) (comma : Bool)
  /-- LCM_SEND (R161): A write of LCM_SEND sends the vendor message once. -/
  | lcmSend (m : Fin 8) (lane : Fin 384) (v : Word)
  /-- REED_SUPERFRAME_SEND (R174): A transmit lane sends the next superframe with ROLE and IDENT fragments. -/
  | reedSuperframeSend (lane : Fin 384) (content : Computed)
  /-- TXGRP_RESUME (R176): A transmit group resumes superframes at its new rate after its IDLE period. -/
  | txgrpResume (group : Fin 16)
  /-- INGEST_LINE (R183): Ingest parses a line, computes its seal and measures the offset at EAV. -/
  | ingestLine (slot : Fin 1536) (l : LineIn)
  /-- NO_TRS_TIMEOUT (R189): 4 line periods without a valid EAV make the slot lost. -/
  | noTrsTimeout (slot : Fin 1536)
  /-- SOURCE_FRAME_END (R191): A complete source frame updates monitors, lock counts and proxies. -/
  | sourceFrameEnd (slot : Fin 1536) (f : FrameIn)
  /-- RESKIM (R201): A write of RESKIM returns a fallen-back slot to the skim path. -/
  | reskim (m : Fin 8) (slot : Fin 1536) (v : Word)
  /-- MERE_ECC_ERROR (R210): A Mere access meets a corrected or uncorrectable ECC error. -/
  | mereEccError (stack : Fin 2) (corrected : Bool) (offset : Nat) (hit : MereHit)
  /-- MERE_RETRAIN_FAIL (R211): A failed PHY retrain takes Mere out of service. -/
  | mereRetrainFail (stack : Fin 2)
  /-- MERE_ECC_ADDR_CLEAR (R210): Clearing MERE_ECC_ADDR.VALID re-arms error capture. -/
  | mereEccAddrClear (m : Fin 8) (v : Word)
  /-- XPT_INJECT (R216): A write of XPT_INJECT with GO corrupts the next COUNT lines in one plane. -/
  | xptInject (m : Fin 8) (v : Word)
  /-- SEAL_VOTE (R16): Egress compares both planes' lines with the seal and sends, corrects or counts. -/
  | sealVote (dest : Fin 1536) (l : VoteLine)
  /-- SLUICE_SWITCH (R18): At a destination's switch line its sluice applies the armed take or changeover. -/
  | sluiceSwitch (dest : Fin 1536) (anc space : Computed)
  /-- TAKE (R221): Command 0x0201 takes a source to a destination range for a frame. -/
  | take (q : Req)
  /-- SALVO (R225): Command 0x0202 takes a set of routes with one effective frame. -/
  | salvo (q : Req)
  /-- SALVO_PREPARE (R228): Command 0x0203 stores a held salvo under an identity. -/
  | salvoPrepare (q : Req)
  /-- SALVO_FIRE (R228): Command 0x0204 moves a held salvo into the pending state. -/
  | salvoFire (q : Req)
  /-- SALVO_DISCARD (R228): Command 0x0205 frees a held salvo's entries. -/
  | salvoDiscard (q : Req)
  /-- TAKE_CANCEL (R230): Command 0x0206 cancels pending takes for a range and frame. -/
  | takeCancel (q : Req)
  /-- TAKE_LIST_GET (R544): Command 0x0207 returns pending take-list entries. -/
  | takeListGet (q : Req)
  /-- TRIGGER_BIND (R229): Command 0x0208 binds a GPIO pin to a held salvo. -/
  | triggerBind (q : Req)
  /-- DEST_CONFIG (R547): Command 0x0210 configures destinations of a range. -/
  | destConfig (q : Req)
  /-- SOURCE_CONFIG (R547): Command 0x0211 configures source slots. -/
  | sourceConfig (q : Req)
  /-- CHANGEOVER_CONFIG (R237): Command 0x0212 configures auto-changeover of destinations. -/
  | changeoverConfig (q : Req)
  /-- DEST_STATUS_GET (R544): Command 0x0213 returns destination status and seal counts. -/
  | destStatusGet (q : Req)
  /-- SOURCE_STATUS_GET (R544): Command 0x0214 returns slot status and monitors. -/
  | sourceStatusGet (q : Req)
  /-- GENERATOR_CONFIG (R243): Command 0x0215 configures a generator. -/
  | generatorConfig (q : Req)
  /-- COMPOSITION_COMPLETE (R247): A head completes the composition of a frame into its buffer. -/
  | compositionComplete (head : Fin 16)
  /-- SCALER_FAILURE (R253): A tile scaler fails with no spare and its tiles show screed. -/
  | scalerFailure (scaler : Fin 256)
  /-- CONVERTER_FAILURE (R272): A physical converter fails. -/
  | converterFailure (unit : Fin 68)
  /-- CNV_LUT_DATA_WRITE (R269): A write of CNV_LUT_DATA stores a LUT entry or is refused. -/
  | cnvLutDataWrite (m : Fin 8) (c : Fin 64) (v : Word)
  /-- HEAD_CONFIG (R246): Command 0x0601 configures a multiviewer head. -/
  | headConfig (q : Req)
  /-- TILE_CONFIG (R252): Command 0x0602 configures a tile. -/
  | tileConfig (q : Req)
  /-- CORNICE_CONFIG (R258): Command 0x0603 configures a tile's cornice. -/
  | corniceConfig (q : Req)
  /-- GUARD_CONFIG (R263): Command 0x0604 configures a guarded region. -/
  | guardConfig (q : Req)
  /-- CSET_CONFIG (R266): Command 0x0605 sets a head's conversion set. -/
  | csetConfig (q : Req)
  /-- HEAD_STATUS_GET (R544): Command 0x0606 returns head, tile and guard status. -/
  | headStatusGet (q : Req)
  /-- CONVERTER_CONFIG (R267): Command 0x0610 configures an inline converter. -/
  | converterConfig (q : Req)
  /-- CONVERTER_LUT_LOAD (R269): Command 0x0611 loads LUT entries into a bank not in use. -/
  | converterLutLoad (q : Req)
  /-- CONVERTER_STATUS_GET (R544): Command 0x0612 returns converter status and counts. -/
  | converterStatusGet (q : Req)
  /-- MAC_FRAME_RX (R281): A received Ethernet frame is checked in order and delivered or counted. -/
  | macFrameRx (inst : Fin 34) (x : EthIn)
  /-- PAUSE_QUANTUM_END (R285): The pause timer decreases at the end of each quantum. -/
  | pauseQuantumEnd (inst : Fin 34)
  /-- MAC_FRAME_TX (R289): A MAC starts a frame once TX_START blocks or the whole frame are in its FIFO. -/
  | macFrameTx (inst : Fin 34) (x : TxIn)
  /-- TRANSMIT_UNDERRUN (R290): The transmit FIFO empties mid-frame and the frame is ended with a bad FCS. -/
  | transmitUnderrun (inst : Fin 34) (x : TxIn)
  /-- LINK_UP (R276): All lanes of an instance hold lock for HOLD_MS and the link comes up. -/
  | linkUp (inst : Fin 34) (lane : Fin 8) (x : LinkIn)
  /-- LINK_DOWN (R276): A lane loses lock and the instance's link goes down. -/
  | linkDown (inst : Fin 34) (lane : Fin 8) (bursts : List Nat)
  /-- IGNORE_PAUSE_WRITE (R286): Writing IGNORE_PAUSE to 1 ends a pause at once. -/
  | ignorePauseWrite (m : Fin 8) (inst : Fin 34) (v : Word)
  /-- TX_START_WRITE (R291): A write of TX_START lowers or sets the transmit start threshold. -/
  | txStartWrite (m : Fin 8) (inst : Fin 32) (v : Word)
  /-- UTILISATION_WINDOW (R293): A 1 s utilisation window ends and may downshift a management port. -/
  | utilisationWindow (port : Fin 2) (sent received : Nat)
  /-- UPSHIFT (R294): A downshifted port's queue exceeds UPSHIFT_KB and it renegotiates. -/
  | upshift (port : Fin 2)
  /-- RENEG_TIMEOUT (R295): A link not up 2 s after a downshift or upshift is lost. -/
  | renegTimeout (port : Fin 2)
  /-- SA_INSTALL (R297): A write of MGT_SA_CTRL with GO installs a MACsec SA. -/
  | saInstall (m : Fin 8) (port : Fin 2) (v : Word)
  /-- LEG_TIMEOUT (R307): A receive leg with no valid packet within LEG_MS goes down. -/
  | legTimeout (context : Fin 2048) (leg : Fin 2)
  /-- FLOW_LOSS_TIMEOUT (R307): A context with no used packet for LOSS_MS enters LOST. -/
  | flowLossTimeout (context : Fin 2048)
  /-- LINE_PLAYOUT (R308): Playout of a received IP video line begins. -/
  | linePlayout (context : Fin 2048) (qs : List Nat) (anc : List Nat) (l : PlayIn)
  /-- PACKET_SCHEDULE (R315): A transmit packet's scheduled time arrives at its pacer. -/
  | packetSchedule (context : Fin 2048) (p : PktIn)
  /-- IGMP_QUERY (R319): An IGMP query is received on an instance. -/
  | igmpQuery (inst : Fin 32) (version : Nat) (group : Nat) (maxResp : Nat)
  /-- QUERY_RESPONSE_DUE (R319): A current-state report is sent within the query's Max Resp Time. -/
  | queryResponseDue (inst : Fin 32)
  /-- IGMP_REPORT_REPEAT (R319): A state-change report is repeated once at a random point within 1 s. -/
  | igmpReportRepeat (inst : Fin 32)
  /-- RX_FLOW_CONFIG (R300): Command 0x0401 configures a receive flow context. -/
  | rxFlowConfig (q : Req)
  /-- TX_FLOW_CONFIG (R313): Command 0x0402 configures a transmit flow context. -/
  | txFlowConfig (q : Req)
  /-- INSTANCE_CONFIG (R314): Command 0x0403 configures an instance's address, tag and DSCP. -/
  | instanceConfig (q : Req)
  /-- FLOW_STATUS_GET (R544): Command 0x0404 returns flow context status and counts. -/
  | flowStatusGet (q : Req)
  /-- IGMP_STATUS_GET (R544): Command 0x0405 returns an instance's membership records. -/
  | igmpStatusGet (q : Req)
  /-- PTP_MESSAGE_RX (R333): A received PTP message is checked and delivered with its timestamp to the servo. -/
  | ptpMessageRx (port : Fin 34) (x : PtpMsg)
  /-- ANNOUNCE_TIMEOUT (R326): An Announce loses qualification and the parent is chosen again. -/
  | announceTimeout (iface : Fin 4)
  /-- SYNC_TIMEOUT (R341): No Sync used for 3 announce intervals sends the servo to HOLDOVER. -/
  | syncTimeout
  /-- DELAY_REQ_SEND (R324): An interface sends a Delay_Req. -/
  | delayReqSend (iface : Fin 4)
  /-- TXQ_POP (R344): A read of PTP_TXQ_POP removes the oldest timestamp entry. -/
  | txqPop (m : Fin 8) (queue : Fin 10)
  /-- PHC_ADJ_GO (R335): A write of PTP_PHC_CTRL.ADJ_GO adjusts the PHC unless the step rules refuse it. -/
  | phcAdjGo (m : Fin 8) (v : Word)
  /-- STEP_ACCEPT_WRITE (R339): A write of PTP_STEP_CTRL.ACCEPT applies the pending step. -/
  | stepAcceptWrite (m : Fin 8) (v : Word)
  /-- STEP_LIMIT_WRITE (R339): Raising PTP_STEP_LIMIT above the pending step ends STEP_PENDING. -/
  | stepLimitWrite (m : Fin 8) (v : Word)
  /-- PTP_CONFIG (R347): Command 0x0520 sets domain and step limit. -/
  | ptpConfig (q : Req)
  /-- PTP_IF_CONFIG (R347): Command 0x0521 configures a PTP interface. -/
  | ptpIfConfig (q : Req)
  /-- PTP_STATUS_GET (R544): Command 0x0522 returns PTP status and interface offsets. -/
  | ptpStatusGet (q : Req)
  /-- PTP_STEP_ACCEPT (R347): Command 0x0523 accepts the pending step, checked against EXPECT. -/
  | ptpStepAccept (q : Req)
  /-- ACTIVITY_TIMEOUT (R352): A REF pin's next edge is more than 1.5 periods late and the input goes inactive. -/
  | activityTimeout (pin : Fin 4)
  /-- PTP_WRITE_TIMEOUT (R351): No write of RATE or ADJ for 4 s makes the PTP input not ready. -/
  | ptpWriteTimeout
  /-- FREQUENCY_GATE (R353): A frequency gate ends with a reading that moves the input's state. -/
  | frequencyGate (input : Fin 7) (reading : Int)
  /-- SOAK_END (R354): SOAK_S seconds in SOAKING make the input QUALIFIED. -/
  | soakEnd (input : Fin 7)
  /-- SELECTOR_EVALUATION (R356): Every 1 ms the selector chooses an input and the loop changes state. -/
  | selectorEvaluation
  /-- LOOP_SECOND (R362): Each second the loop's lock criteria, average and holdover timer are evaluated. -/
  | loopSecond (x : LoopIn)
  /-- PEAT_UPDATE (R366): The firmware computes and writes the peat average once per second. -/
  | peatUpdate
  /-- PHASE_ADJUST_GO (R368): A write of REF_PHASE_CTRL with GO slews or steps the output phase. -/
  | phaseAdjustGo (m : Fin 8) (v : Word)
  /-- SLEW_COMPLETE (R368): The remaining phase has been slewed out. -/
  | slewComplete
  /-- REF_INPUT_CONFIG (R374): Command 0x0530 configures a reference input. -/
  | refInputConfig (q : Req)
  /-- REF_LOOP_CONFIG (R374): Command 0x0531 configures the loop and limits. -/
  | refLoopConfig (q : Req)
  /-- REF_STATUS_GET (R544): Command 0x0532 returns reference status. -/
  | refStatusGet (q : Req)
  /-- REF_PHASE_ADJUST (R368): Command 0x0533 adjusts the output phase. -/
  | refPhaseAdjust (q : Req)
  /-- REF_FORCE (R360): Command 0x0534 forces or releases an input. -/
  | refForce (q : Req)
  /-- XO_TRIM_SET (R373): Command 0x0535 sets the oscillator trim. -/
  | xoTrimSet (q : Req)
  /-- APORT_FRAME (R383): A pin frame of an audio port completes, moving acquisition, slot phase and mask. -/
  | aportFrame (port : Fin 24) (x : PortFrame)
  /-- FS_TIMEOUT (R378): No FS edge for 2 frame periods sends the port to CLOCK_LOST. -/
  | fsTimeout (port : Fin 24) (cycles : List BclkCycle)
  /-- PORT_CFG_WRITE (R379): A write of APT_PORT_CFG changing more than EN is discarded unless STOPPED. -/
  | portCfgWrite (m : Fin 8) (port : Fin 24) (v : Word)
  /-- PORT_RESTART (R385): A write of RESTART fades, empties and restarts the port with φ 0. -/
  | portRestart (m : Fin 8) (port : Fin 24) (v : Word)
  /-- MASK_WRITE (R386): A write of APT_PORT_MASK loads the pending mask. -/
  | maskWrite (m : Fin 8) (port : Fin 24) (v : Word)
  /-- MUTE_WRITE (R389): A write of APT_PORT_MUTE requests mute changes at a zero crossing. -/
  | muteWrite (m : Fin 8) (port : Fin 24) (v : Word)
  /-- ZC_TIMEOUT (R389): No zero crossing within ZC_TIMEOUT_MS starts the fade at once. -/
  | zcTimeout (port : Fin 24) (channel : Fin 32)
  /-- GROUP_ARM (R393): A write of ARM arms an audio port group. -/
  | groupArm (m : Fin 8) (group : Fin 8) (v : Word) (offsets : Computed)
  /-- GROUP_FIRE (R392): A write of FIRE triggers an armed group with START_SRC 4. -/
  | groupFire (m : Fin 8) (group : Fin 8) (v : Word)
  /-- GROUP_START (R395): At the leader's start FS edge the armed members start. -/
  | groupStart (group : Fin 8)
  /-- APORT_CONFIG (R376): Command 0x0350 configures an audio port. -/
  | aportConfig (q : Req)
  /-- APORT_MUTE (R389): Command 0x0351 sets mute bits of selected channels. -/
  | aportMute (q : Req)
  /-- APORT_GROUP_CONFIG (R392): Command 0x0352 sets a group's start trigger. -/
  | aportGroupConfig (q : Req)
  /-- APORT_ARM (R393): Command 0x0353 arms a group. -/
  | aportArm (q : Req) (offsets : Computed)
  /-- APORT_START (R392): Command 0x0354 fires an armed group. -/
  | aportStart (q : Req)
  /-- APORT_RESTART (R385): Command 0x0355 restarts a port. -/
  | aportRestart (q : Req)
  /-- APORT_STATUS_GET (R544): Command 0x0356 returns port status and counts. -/
  | aportStatusGet (q : Req)
  /-- LOUD_RESET_WRITE (R420): A write of AMX_LOUD_RESET with GO resets integrated loudness. -/
  | loudResetWrite (m : Fin 8) (v : Word)
  /-- MIX_SET (R407): Command 0x0301 replaces a destination channel's tap list. -/
  | mixSet (q : Req)
  /-- TAP_GAIN (R410): Command 0x0302 sets, adds or removes one tap. -/
  | tapGain (q : Req)
  /-- ROUTE (R20): Command 0x0303 gives each destination one unity tap. -/
  | route (q : Req)
  /-- MIX_GET (R544): Command 0x0304 returns the taps in effect. -/
  | mixGet (q : Req)
  /-- DEST_MUTE (R412): Command 0x0305 mutes or unmutes destination channels. -/
  | destMute (q : Req)
  /-- AMX_STATUS_GET (R415): Command 0x0306 returns list state and overrun counts. -/
  | amxStatusGet (q : Req)
  /-- METER_ENABLE (R418): Command 0x0310 allocates a meter slot for a channel. -/
  | meterEnable (q : Req)
  /-- METER_DISABLE (R418): Command 0x0311 removes a meter user. -/
  | meterDisable (q : Req)
  /-- METER_GET (R422): Command 0x0312 returns meter results. -/
  | meterGet (q : Req)
  /-- LOUDNESS_RESET (R420): Command 0x0313 resets integrated loudness. -/
  | loudnessReset (q : Req)
  /-- FEN_NOP (R429): Instruction NOP does nothing. -/
  | fenNop (u : Fin 272)
  /-- MAC2 (R431): Instruction MAC2 performs two multiply-accumulates. -/
  | mac2 (u : Fin 272)
  /-- MAC (R431): Instruction MAC multiplies and accumulates into an accumulator. -/
  | mac (u : Fin 272)
  /-- CLR (R433): Instruction CLR clears the named accumulators. -/
  | clr (u : Fin 272)
  /-- WB (R432): Instruction WB writes back an accumulator rounded and saturated. -/
  | wb (u : Fin 272)
  /-- MFS (R428): Instruction MFS reads a special register. -/
  | mfs (u : Fin 272)
  /-- MTS (R441): Instruction MTS writes a special register. -/
  | mts (u : Fin 272)
  /-- ALU (R430): Instruction ALU performs the function named by FN. -/
  | alu (u : Fin 272)
  /-- SHF (R430): Instruction SHF shifts a register. -/
  | shf (u : Fin 272)
  /-- LDI (R430): Instruction LDI loads an immediate half. -/
  | ldi (u : Fin 272)
  /-- LD (R437): Instruction LD loads a word through a pointer and steps it. -/
  | ld (u : Fin 272)
  /-- ST (R437): Instruction ST stores a word through a pointer and steps it. -/
  | st (u : Fin 272)
  /-- LD2 (R429): Instruction LD2 loads two words through two pointers. -/
  | ld2 (u : Fin 272)
  /-- SETP (R437): Instruction SETP writes one pointer field. -/
  | setp (u : Fin 272)
  /-- MAXI (R439): Instruction MAXI keeps the maximum and its index. -/
  | maxi (u : Fin 272)
  /-- MINI (R439): Instruction MINI keeps the minimum and its index. -/
  | mini (u : Fin 272)
  /-- REP (R435): Instruction REP starts a repeat block counted from a register. -/
  | rep (u : Fin 272)
  /-- REPK (R435): Instruction REPK starts a repeat block with a constant count. -/
  | repk (u : Fin 272)
  /-- REPR (R436): Instruction REPR starts a repeat block that shifts the window. -/
  | repr (u : Fin 272)
  /-- BRK (R435): Instruction BRK ends the innermost repeat block. -/
  | brk (u : Fin 272)
  /-- BR (R435): Instruction BR branches on a condition, ending blocks it leaves. -/
  | br (u : Fin 272)
  /-- CALL (R435): Instruction CALL branches and sets LR. -/
  | call (u : Fin 272)
  /-- RET (R428): Instruction RET jumps to LR. -/
  | ret (u : Fin 272)
  /-- RETI (R440): Instruction RETI returns to the interrupted level and bank. -/
  | reti (u : Fin 272)
  /-- SWI (R447): Instruction SWI traps to level 2 or 3. -/
  | swi (u : Fin 272)
  /-- GATHER (R442): Instruction GATHER starts a read from the channel store. -/
  | gather (u : Fin 272)
  /-- SCATTER (R442): Instruction SCATTER starts a write to the channel store. -/
  | scatter (u : Fin 272)
  /-- GATHER_COMPLETE (R442): An outstanding gather or scatter completes. -/
  | gatherComplete (u : Fin 272) (index : Fin 4) (words : List Word)
  /-- WAITG (R442): Instruction WAITG stalls until few enough operations are outstanding. -/
  | waitg (u : Fin 272)
  /-- JEND (R443): Instruction JEND ends the job. -/
  | jend (u : Fin 272)
  /-- BACKGROUND_DISPATCH (R443): A BACKGROUND job is dispatched when no FRAME job is pending. -/
  | backgroundDispatch (l : Fin 256)
  /-- SWAP (R426): A logical engine moves to another unit once its state has been copied. -/
  | swap (l : Fin 256) (dst : Fin 272)
  /-- FEN_UNIT_FAILURE (R427): A Fen unit fails and its engine moves to a spare without a copy. -/
  | fenUnitFailure (u : Fin 272) (byMemory : Bool) (spare : Fin 272) (ports : List (Fin 24)) (slots : List (Fin 16384))
  /-- HALT_WRITE (R449): A write of FEN_ENG_CTRL.HALT stops a unit starting jobs. -/
  | haltWrite (m : Fin 8) (u : Fin 272) (v : Word)
  /-- GUARD_OVF_CLEAR (R433): Clearing FEN_ENG_STATUS.GUARD_OVF re-arms the event. -/
  | guardOvfClear (m : Fin 8) (u : Fin 272) (v : Word)
  /-- PM_WINDOW_WRITE (R449): A write to program memory through the window is taken only while halted. -/
  | pmWindowWrite (m : Fin 8) (u : Fin 272) (word : Fin 4096) (v : Word)
  /-- CAUSEWAY_SUPERFRAME (R458): A link superframe is received and its delimited frames extracted. -/
  | causewaySuperframe (link : Fin 2)
  /-- KEEPALIVE (R459): A KEEPALIVE frame from the partner is accepted. -/
  | keepalive (h : CswHead) (k : CswKeep)
  /-- CONTROL (R459): A CONTROL frame carries an Igkix packet of P3. -/
  | control (h : CswHead) (bytes : List Byte)
  /-- LIVE (R464): A live item is applied by the standby in CSEQ order. -/
  | live (h : CswHead) (item : LiveItem)
  /-- CHECKPOINT (R466): A checkpoint fragment is written to the receiving bank. -/
  | checkpoint (h : CswHead) (epoch : BitVec 32) (bytes : List Byte) (content : Option Checkpoint)
  /-- MARKER (R467): A MARKER arrives and the epoch is committed if all conditions hold. -/
  | marker (h : CswHead) (epoch : BitVec 32) (crc : BitVec 32)
  /-- MARKER_DEADLINE (R467): No marker by half-frame + 100 µs discards the epoch. -/
  | markerDeadline
  /-- SEAL (R470): A received output seal is compared with the standby's own. -/
  | sealRx (h : CswHead) (dest : Fin 1536) (frame : BitVec 48) (first : BitVec 16) (seals : List Word)
  /-- TIME (R462): A TIME frame gives link delay and partner time offset. -/
  | time (h : CswHead) (x : TimeIn)
  /-- YIELD_REQ (R473): An ACTIVE seat receiving YIELD_REQ drops its claim and becomes OFFLINE. -/
  | yieldReq (h : CswHead)
  /-- BLAME (R472): A BLAME frame delivers the partner's results and the verdict may be reached. -/
  | blame (h : CswHead) (dest : Fin 1536) (slot : BitVec 11) (agree : Bool) (seals : List Nat)
  /-- BLAME_TIMEOUT (R471): After 8 frames a missing seat's results count as disagreeing. -/
  | blameTimeout
  /-- HELLO (R461): A HELLO at link-up delivers the partner's seat and salt. -/
  | hello (h : CswHead) (salt : List Byte)
  /-- KEEPALIVE_SEND (R459): Every 100 µs each seat sends a KEEPALIVE on both links. -/
  | keepaliveSend
  /-- TIME_SEND (R462): Every 1 ms each seat sends a TIME frame. -/
  | timeSend
  /-- KEEPALIVE_TIMEOUT (R460): No KEEPALIVE on a link for 1 ms stops it counting and may take the Causeway down. -/
  | keepaliveTimeout (link : Fin 2)
  /-- ACT_CLAIM_IN_CHANGE (R455): A filtered change of ACT_CLAIM_IN changes the role. -/
  | actClaimInChange (level : Bool)
  /-- DUAL_ACTIVE_TIMEOUT (R480): Seat B, ACTIVE and seeing the claim for 1 ms, becomes ISOLATED. -/
  | dualActiveTimeout
  /-- CLAIM_SILENCE_TIMEOUT (R455): Claim and Causeway silent for 3 frame ticks without veto make the seat ACTIVE. -/
  | claimSilenceTimeout
  /-- LATH_LOSS_TIMEOUT (R473): No marker for LATH_LOSS_MS while keepalives continue sends YIELD_REQ. -/
  | lathLossTimeout
  /-- OFFSET_EXCESS (R477): A time offset above 200 ns for 1 s returns a STANDBY seat to SYNCING. -/
  | offsetExcess
  /-- VETO_EXPIRY (R479): A veto's time ends. -/
  | vetoExpiry
  /-- PEER_CONFIG_TIMEOUT (R484): No OK within 100 ms makes the active seat apply REDUNDANCY_CONFIG alone. -/
  | peerConfigTimeout
  /-- ROLE_STATUS (R484): Command 0x0701 reports role and handles VETO and REQUEST. -/
  | roleStatus (q : Req)
  /-- SWITCHOVER (R455): Command 0x0702 hands the role to the partner at a target frame tick. -/
  | switchover (q : Req)
  /-- REDUNDANCY_CONFIG (R484): Command 0x0703 applies CSW_CFG and CSW_TIMING to both seats. -/
  | redundancyConfig (q : Req)
  /-- BLAME_STATUS (R544): Command 0x0704 returns CSW_BLAME and CSW_DIVERGE. -/
  | blameStatus (q : Req)
  /-- TAKEOVER_REPORT_GET (R475): Command 0x0705 returns the takeover report. -/
  | takeoverReportGet (q : Req)
  /-- RESYNC_REQUEST (R476): Command 0x0780 makes the active seat send a full snapshot. -/
  | resyncRequest (q : Req)
  /-- RESYNC_DONE (R477): Command 0x0781 marks the end of the snapshot. -/
  | resyncDone (q : Req)
  /-- PEER_CONFIG (R484): Command 0x0782 writes the partner's CSW words. -/
  | peerConfig (q : Req)
  /-- SLICE_START (R496): A rolling self-test slice starts on a unit that serves nothing. -/
  | sliceStart (pool : Fin 4) (unit : Fin 2048)
  /-- SLICE_END (R497): A slice reaches its pattern count and records PASS or FAIL. -/
  | sliceEnd (pool : Fin 4) (r : SliceResult)
  /-- UNIT_RESTORE (R499): A unit whose slice aborted is restored as an idle spare. -/
  | unitRestore (pool : Fin 4)
  /-- EFUSE_WORD_WRITE (R494): One eFuse word is programmed and read back. -/
  | efuseWordWrite (readsBack : Bool)
  /-- NONCE_EXPIRY (R493): The live nonce expires 60 s after issue. -/
  | nonceExpiry
  /-- BYPASS (R501): JTAG instruction BYPASS. -/
  | bypass
  /-- IDCODE (R501): JTAG instruction IDCODE returns the identification code. -/
  | idcode
  /-- SAMPLE_PRELOAD (R501): JTAG instruction SAMPLE/PRELOAD. -/
  | samplePreload (levels : List Bool)
  /-- EXTEST (R502): JTAG test-mode instruction EXTEST zeroises keys and enters test mode. -/
  | extest
  /-- EXTEST_PULSE (R502): JTAG test-mode instruction EXTEST_PULSE. -/
  | extestPulse
  /-- EXTEST_TRAIN (R502): JTAG test-mode instruction EXTEST_TRAIN. -/
  | extestTrain
  /-- SCAN_ENTER (R502): JTAG test-mode instruction SCAN_ENTER asserts scan enable after zeroising. -/
  | scanEnter
  /-- MBIST_RUN (R502): JTAG test-mode instruction MBIST_RUN. -/
  | mbistRun
  /-- DEBUG (R504): JTAG instruction DEBUG gives access as bus master 7 unless locked. -/
  | debug
  /-- TAP_RESET (R503): A TAP reset leaves TEST_LATCH set. -/
  | tapReset
  /-- BIST_STATUS_GET (R544): Command 0x0801 returns BIST results and counts. -/
  | bistStatusGet (q : Req)
  /-- ROLL_CONFIG (R495): Command 0x0802 configures rolling self-test. -/
  | rollConfig (q : Req)
  /-- REPAIR_STATUS_GET (R544): Command 0x0803 returns repair status. -/
  | repairStatusGet (q : Req)
  /-- EFUSE_NONCE_GET (R493): Command 0x0804 issues a new live nonce. -/
  | efuseNonceGet (q : Req) (nonce : BitVec 128)
  /-- EFUSE_PROGRAM (R492): Command 0x0805 checks a signed record and programs eFuse. -/
  | efuseProgram (q : Req) (keyOk sigOk : Computed)
  /-- HLT_TRIG_WRITE (R508): A W1C write of HLT_TRIG clears trigger bits whose conditions have ended. -/
  | hltTrigWrite (m : Fin 8) (v : Word)
  /-- TJ_TIMEOUT (R507): The hottest sensor above 105 °C for 1 s sets the TJ trigger. -/
  | tjTimeout (tj : Int)
  /-- WEAR_SECOND (R519): At the end of each second the wear count grows by its weight. -/
  | wearSecond (mean tj hbmA hbmB : Int)
  /-- HEALTH_STATUS_GET (R544): Command 0x0810 returns health status. -/
  | healthStatusGet (q : Req)
  /-- HEALTH_CLEAR (R508): Command 0x0811 clears trigger bits as a W1C write. -/
  | healthClear (q : Req)
  /-- HEALTH_CONFIG (R507): Command 0x0812 sets health thresholds. -/
  | healthConfig (q : Req)
  /-- WEAR_SET (R520): Command 0x0813 restores the wear count once per power-on. -/
  | wearSet (q : Req)
  /-- LEDGER_STATUS_GET (R513): Command 0x0814 returns the ledger epoch, status and fault entries. -/
  | ledgerStatusGet (q : Req)
  /-- LEDGER_READ (R513): Command 0x0815 returns a ledger's latched terms. -/
  | ledgerRead (q : Req)
  /-- RAIL_EXCURSION (R528): A rail outside nominal ±5 % for 1 µs sets its TOP_VMON bit. -/
  | railExcursion (rail : Fin 8)
  /-- THERMAL_TRIP (R531): A sensor at its trip temperature for 1 ms makes a device reset held until cool. -/
  | thermalTrip (sensor : Fin 18)
  /-- THERMAL_RECOVERY (R531): All sensors fall below the release temperatures and start-up begins again. -/
  | thermalRecovery (x : BootIn)
  /-- I2C_READ (R534): An I²C transaction reads one 4-byte register of the permitted ranges. -/
  | i2cRead (off : Word)
  /-- RELOCK (R32): A PLL or disciplined synthesiser regains lock, its CLK_STATUS lock bit is set, and the firmware may restart the tick. -/
  | relock (domain : Fin 18) (restart : Bool)
  /-- REF_PIN_EDGE (R352): A sampled edge arrives on a REF pin; it is time-stamped, judged early or on time for activity, and may give the build-out phase of R363. -/
  | refPinEdge (x : PinEdge)
  /-- SIGNAL_DETECTED (R166): Signal detection appears on a Reed or Causeway receive lane in DOWN and, with RX_EN and 10 ms in DOWN already past, the lane enters TRAINING. -/
  | signalDetected (lane : Fin 392)
  /-- LATH_READER_ADVANCE (R148): The Lath advances EVT_LOG_RD_LATH past records it has read, which may end a full log and raise EVT_LOG_RESUMED. -/
  | lathReaderAdvance (count : Nat)
  /-- FEN_RELOAD_DONE (R427): The firmware's reload of a replacement Fen unit's program memory completes, and the engine's jobs stop counting as overrun. -/
  | fenReloadDone (l : Fin 256) (image : List Word)
  /-- PCI_CONFIG_WRITE (R130): The host writes PCI Express configuration space, such as Bus Master Enable or MSI-X enable, changing PCI_LINK_STATUS and outbound translation. -/
  | pciConfigWrite (x : PciConfig)
  /-- TJ_CONDITION_END (R507): The hottest die sensor falls back to 105.0 °C or below and HLT_TJ is raised as the condition stops holding. -/
  | tjConditionEnd (tj : Int)
  deriving DecidableEq, Repr

end Sys2Proof
end

