-- ==== Sys2Proof/WellFormed.lean ====
section
/-! DEFINITION. What the operands of a command must satisfy beyond their types, for the command to stand for something that can
happen.  No meaning depends on it. -/

namespace Sys2Proof

/-- A request: a 16-bit tag, a P0 slot or a sender of 48 bits, and a payload within its port's limit (R89, R96). -/
def Req.wf (q : Req) : Bool :=
  q.tag < 2 ^ 16 && (if q.port = 0 then q.src < 64 else q.src < 2 ^ 48) &&
    q.payload.length ≤ (if q.port = 0 then 4080 else if q.port = 4 then 1024 else 1424)

/-- A live item names destinations, sources, frames and registers that exist (R463). -/
def LiveItem.wf : LiveItem → Bool
  | .write o v | .snapshot o v => o % 4 == 0 && o < 2 ^ 26 && v < 2 ^ 32
  | .commit t g p k => t < 2 ^ 48 && g < 2 ^ 12 && p < 256 && k < 2 ^ 16
  | .enlist d s f p k => d < 1536 && s < 1568 && f < 2 ^ 48 && p < 5 && k < 2 ^ 16
  | .cancel d f p k => d < 1536 && f < 2 ^ 48 && p < 5 && k < 2 ^ 16
  | .prepare _ d s p k => d < 1536 && s < 1568 && p < 5 && k < 2 ^ 16
  | .discard _ => true
  | .fire _ f p k => f < 2 ^ 48 && p < 5 && k < 2 ^ 16
  | .protect a n p => a + n ≤ 1536 && p < 256
  | .changeover d s _ => d < 1536 && s < 1568

/-- A checkpoint's words fit their widths (R466). -/
def Checkpoint.wf (c : Checkpoint) : Bool :=
  c.epoch < 2 ^ 32 && c.cut < 2 ^ 32 && c.crc < 2 ^ 32 && c.peat < 2 ^ 32 && c.peatValid < 2 && c.parent < 2 ^ 64 && c.iface < 4 &&
    c.servo < 8 && c.rate < 2 ^ 32 && c.frame < 2 ^ 48 && c.ledgers.length ≤ 64

/-- A bus access: beats of 1 to 16 bytes, those of a burst of 16, and a write's words for them (R77, R78); the masters that wait beside
it, each once (R82). -/
def Access.wf (x : Access) : Bool :=
  [1, 2, 4, 8, 16].contains x.size && 1 ≤ x.beats && (x.beats == 1 || x.size == 16) && x.left < x.beats && x.addr % x.size == 0 &&
    x.addr < 2 ^ 40 && x.words.all (· < 2 ^ 32) && (x.rivals.map (·.1)).eraseDups.length == x.rivals.length

/-- A datagram fits an Ethernet frame's UDP payload. -/
def Datagram.wf (x : Datagram) : Bool := x.bytes.length ≤ 65507

/-- Words of 10 bits (R184). -/
def LineWords.wf (l : LineWords) : Bool :=
  l.active.all (· < 1024) && l.anc.all fun p => p.words.all (· < 1024)

/-- A line at ingest. -/
def LineIn.wf (l : LineIn) : Bool := l.number < 2048 && l.words.wf && l.witness.wf

/-- A line that plays out. -/
def PlayIn.wf (l : PlayIn) : Bool := 1 ≤ l.number && l.number < 2048 && l.witness.wf

/-- A line at egress. -/
def VoteLine.wf (l : VoteLine) : Bool :=
  l.number < 2048 && l.faultA.all LineWords.wf && l.faultB.all LineWords.wf

/-- A source frame: a known format and a rate code (R188). -/
def FrameIn.wf (f : FrameIn) : Bool :=
  [0x01, 0x02, 0x10, 0x11, 0x12, 0x20, 0x21, 0x22, 0x30, 0x40, 0x50].contains f.fmt && f.rate ≤ 10

/-- Tiles, heads and regions that exist (R247, R262). -/
def TickIn.wf (x : TickIn) : Bool :=
  x.found.all (fun e => e.1 < 1024 && e.2 < 2048) && x.errors.all (· < 1024) &&
    x.guards.all fun g => g.head < 16 && g.region < 64 && g.own < 2 ^ 32 && g.witness < 2 ^ 32

/-- Receive contexts that exist, and ratios of 64 bits (R300, R380). -/
def BlockIn.wf (x : BlockIn) : Bool := x.playout.all (·.1 < 2048) && x.ports.all fun j => j.ratio.all (· < 2 ^ 64)

/-- An image has a header of 512 bytes (R65). -/
def ImageIn.wf (x : ImageIn) : Bool := x.header.length == 512 && x.body.length ≤ 8388096

/-- A start-up: two flash slots, a step that exists, and four fused hashes of 48 bytes (R59, R66). -/
def BootIn.wf (x : BootIn) : Bool :=
  x.slots.all ImageIn.wf && x.slots.length ≤ 2 && x.stuck ≤ 10 && x.patterns.length ≤ 40 && x.keyHashes.length ≤ 4 &&
    x.keyHashes.all fun h => h.length == 48

/-- Addresses of 64 bits, words of 32 (R141). -/
def PciConfig.wf : PciConfig → Bool
  | .vector _ a x c => a < 2 ^ 64 && x < 2 ^ 32 && c < 2 ^ 32
  | .busMaster _ | .msix _ _ | .memory _ | .bar _ _ | .power _ | .aerClear _ | .aerMask _ | .read _ => true

/-- A PTP message's fields fit their widths (R333). -/
def PtpMsg.wf (x : PtpMsg) : Bool :=
  x.version < 16 && x.typ < 16 && x.domain < 256 && x.seq < 2 ^ 16 && x.source < 2 ^ 80 && x.stamp < 2 ^ 80 && x.gm < 2 ^ 64

/-- What a frame carries. -/
def EthBody.wf : EthBody → Bool
  | .ptp x => x.wf
  | .udp f x => f.srcIp < 2 ^ 32 && f.dstIp < 2 ^ 32 && f.dstPort < 2 ^ 16 && f.pt < 128 && f.body.anc.all (fun p => p.1 < 2048 && p.2.words.all (· < 1024)) && x.wf
  | .pause _ | .control | .lath | .other => true

/-- A received frame (R278). -/
def EthIn.wf (x : EthIn) : Bool := x.dst < 2 ^ 48 && (if x.secTag.isSome then x.inner ≤ x.length && x.length ≤ x.inner + 32 else x.inner == x.length) && x.body.wf

/-- A frame to send: at most 9,600 bytes stand in the FIFO as in the frame. -/
def TxIn.wf (x : TxIn) : Bool := x.fifo ≤ x.length && x.event.all fun e => e.1 < 2 ^ 16 && e.2 < 16

/-- A packet to send. -/
def PktIn.wf (p : PktIn) : Bool := p.frame < 2 ^ 48

/-- DFE taps of 32 bits (R168). -/
def FomIn.wf (f : FomIn) : Bool := f.taps < 2 ^ 32

/-- The command's operands are within what can happen. -/
def Instr.wf : Instr → Bool
  | .bar2Write off bytes => off.toNat + bytes.length ≤ 2 ^ 35
  | .frameTick x => x.wf
  | .blockTick x => x.wf
  | .tickRestart x => x.wf
  | .renumberTick x => x.wf
  | .commit q => q.wf
  | .tickStatusGet q => q.wf
  | .timePreset q => q.wf
  | .porRelease x => x.wf
  | .bootPush _ _ chunk x => chunk.length ≤ 262144 && x.stuck ≤ 9
  | .reset q _ => q.wf
  | .lathRestartDone x => x.slots.all ImageIn.wf
  | .identify q => q.wf
  | .sumpAccess _ x => x.wf
  | .targetError _ x => x.wf
  | .targetTimeout _ x => x.wf
  | .p0Doorbell _ bytes => bytes.length ≤ 4096
  | .mgmtDatagram _ x => x.wf
  | .nop q => q.wf
  | .portStatusGet q => q.wf
  | .portKeySet q => q.wf
  | .notifySubscribe q => q.wf
  | .gpioConfig q => q.wf
  | .gpioSet q => q.wf
  | .gpioGet q => q.wf
  | .protect q => q.wf
  | .unprotect q => q.wf
  | .protectGet q => q.wf
  | .leaseTake q => q.wf
  | .leaseRenew q => q.wf
  | .leaseRelease q => q.wf
  | .leaseStatus q => q.wf
  | .csrRead q => q.wf
  | .csrWrite q => q.wf
  | .outboundAccess _ x _ => x.wf
  | .eventLogRead q => q.wf
  | .eventCountsGet q => q.wf
  | .reedSuperframe _ _ groups => groups.all (· < 1024)
  | .fomReading _ f => f.wf
  | .ingestLine _ l => l.wf
  | .sourceFrameEnd _ f => f.wf
  | .sealVote _ l => l.wf
  | .take q => q.wf
  | .salvo q => q.wf
  | .salvoPrepare q => q.wf
  | .salvoFire q => q.wf
  | .salvoDiscard q => q.wf
  | .takeCancel q => q.wf
  | .takeListGet q => q.wf
  | .triggerBind q => q.wf
  | .destConfig q => q.wf
  | .sourceConfig q => q.wf
  | .changeoverConfig q => q.wf
  | .destStatusGet q => q.wf
  | .sourceStatusGet q => q.wf
  | .generatorConfig q => q.wf
  | .headConfig q => q.wf
  | .tileConfig q => q.wf
  | .corniceConfig q => q.wf
  | .guardConfig q => q.wf
  | .csetConfig q => q.wf
  | .headStatusGet q => q.wf
  | .converterConfig q => q.wf
  | .converterLutLoad q => q.wf
  | .converterStatusGet q => q.wf
  | .macFrameRx _ x => x.wf
  | .macFrameTx _ x => x.wf
  | .transmitUnderrun _ x => x.wf
  | .linePlayout _ _ _ l => l.wf
  | .packetSchedule _ p => p.wf
  | .igmpQuery _ version group _ => version ≤ 3 && group < 2 ^ 32
  | .rxFlowConfig q => q.wf
  | .txFlowConfig q => q.wf
  | .instanceConfig q => q.wf
  | .flowStatusGet q => q.wf
  | .igmpStatusGet q => q.wf
  | .ptpMessageRx _ x => x.wf
  | .ptpConfig q => q.wf
  | .ptpIfConfig q => q.wf
  | .ptpStatusGet q => q.wf
  | .ptpStepAccept q => q.wf
  | .refInputConfig q => q.wf
  | .refLoopConfig q => q.wf
  | .refStatusGet q => q.wf
  | .refPhaseAdjust q => q.wf
  | .refForce q => q.wf
  | .xoTrimSet q => q.wf
  | .aportConfig q => q.wf
  | .aportMute q => q.wf
  | .aportGroupConfig q => q.wf
  | .aportArm q _ => q.wf
  | .aportStart q => q.wf
  | .aportRestart q => q.wf
  | .aportStatusGet q => q.wf
  | .mixSet q => q.wf
  | .tapGain q => q.wf
  | .route q => q.wf
  | .mixGet q => q.wf
  | .destMute q => q.wf
  | .amxStatusGet q => q.wf
  | .meterEnable q => q.wf
  | .meterDisable q => q.wf
  | .meterGet q => q.wf
  | .loudnessReset q => q.wf
  | .live _ item => item.wf
  | .checkpoint _ _ _ content => content.all Checkpoint.wf
  | .hello _ salt => salt.length == 16
  | .roleStatus q => q.wf
  | .switchover q => q.wf
  | .redundancyConfig q => q.wf
  | .blameStatus q => q.wf
  | .takeoverReportGet q => q.wf
  | .resyncRequest q => q.wf
  | .resyncDone q => q.wf
  | .peerConfig q => q.wf
  | .bistStatusGet q => q.wf
  | .rollConfig q => q.wf
  | .repairStatusGet q => q.wf
  | .efuseNonceGet q _ => q.wf
  | .efuseProgram q _ _ => q.wf
  | .healthStatusGet q => q.wf
  | .healthClear q => q.wf
  | .healthConfig q => q.wf
  | .wearSet q => q.wf
  | .ledgerStatusGet q => q.wf
  | .ledgerRead q => q.wf
  | .thermalRecovery x => x.wf
  | .pciConfigWrite x => x.wf
  | .registerWrite _ _ _ | .shadowWrite _ _ _ | .readClear _ _ | .latchingRead _ _ | .tickStart _ _ | .tickStop _ _
  | .tickCfgWrite _ _ | .tickCommitGo _ _ | .cutoff | .halfFrame | .ledgerLatch _ | .tickHalt | .lossOfLock _ _ _ | .porAssert
  | .bootWatchdog | .bootTickStart | .causewayTrainingEnd | .seatBClaimWait | .topResetDevice _ _ | .topResetLath _ _ _
  | .perst _ | .lockstepMismatch _ | .lathWatchdog _ | .busSumpClear _ _ | .lateTargetResponse _ | .remap _ _
  | .rspReadyClear _ _ | .uartPacket _ | .heldChangeWrite | .leaseTimeout _ | .acceptedEdge _ _ | .debounceWindowEnd _
  | .chatterWindowEnd | .stuckTimeExpiry _ | .activeLowWrite _ _ _ | .gpioArmWrite _ _ | .evtStatusWrite _ _ _
  | .evtIntEnWrite _ _ _ | .coalesceWindowEnd _ | .evtLogRdHostWrite _ _ | .hostReaderWrite _ _ | .pcieLinkEvent _ _ _
  | .laneTrainingStart _ | .trainingTimeout _ | .alignmentTimeout _ | .lossOfSignal _ | .cdrUnlock _ | .rateTryEnd _
  | .retrain _ _ _ | .bitslip _ _ _ _ | .lcmSend _ _ _ | .reedSuperframeSend _ _ | .txgrpResume _ | .noTrsTimeout _
  | .reskim _ _ _ | .mereEccError _ _ _ _ | .mereRetrainFail _ | .mereEccAddrClear _ _ | .xptInject _ _ | .sluiceSwitch _ _ _
  | .compositionComplete _ | .scalerFailure _ | .converterFailure _ | .cnvLutDataWrite _ _ _ | .pauseQuantumEnd _
  | .linkUp _ _ _ | .linkDown _ _ _ | .ignorePauseWrite _ _ _ | .txStartWrite _ _ _ | .utilisationWindow _ _ _ | .upshift _
  | .renegTimeout _ | .saInstall _ _ _ | .legTimeout _ _ | .flowLossTimeout _ | .queryResponseDue _ | .igmpReportRepeat _
  | .announceTimeout _ | .syncTimeout | .delayReqSend _ | .txqPop _ _ | .phcAdjGo _ _ | .stepAcceptWrite _ _
  | .stepLimitWrite _ _ | .activityTimeout _ | .ptpWriteTimeout | .frequencyGate _ _ | .soakEnd _ | .selectorEvaluation
  | .loopSecond _ | .peatUpdate | .phaseAdjustGo _ _ | .slewComplete | .aportFrame _ _ | .fsTimeout _ _ | .portCfgWrite _ _ _
  | .portRestart _ _ _ | .maskWrite _ _ _ | .muteWrite _ _ _ | .zcTimeout _ _ | .groupArm _ _ _ _ | .groupFire _ _ _
  | .groupStart _ | .loudResetWrite _ _ | .fenNop _ | .mac2 _ | .mac _ | .clr _ | .wb _ | .mfs _ | .mts _ | .alu _ | .shf _
  | .ldi _ | .ld _ | .st _ | .ld2 _ | .setp _ | .maxi _ | .mini _ | .rep _ | .repk _ | .repr _ | .brk _ | .br _ | .call _
  | .ret _ | .reti _ | .swi _ | .gather _ | .scatter _ | .gatherComplete _ _ _ | .waitg _ | .jend _ | .backgroundDispatch _
  | .swap _ _ | .fenUnitFailure _ _ _ _ _ | .haltWrite _ _ _ | .guardOvfClear _ _ _ | .pmWindowWrite _ _ _ _
  | .causewaySuperframe _ | .keepalive _ _ | .control _ _ | .marker _ _ _ | .markerDeadline | .sealRx _ _ _ _ _ | .time _ _
  | .yieldReq _ | .blame _ _ _ _ _ | .blameTimeout | .keepaliveSend | .timeSend | .keepaliveTimeout _ | .actClaimInChange _
  | .dualActiveTimeout | .claimSilenceTimeout | .lathLossTimeout | .offsetExcess | .vetoExpiry | .peerConfigTimeout
  | .sliceStart _ _ | .sliceEnd _ _ | .unitRestore _ | .efuseWordWrite _ | .nonceExpiry | .bypass | .idcode | .samplePreload _
  | .extest | .extestPulse | .extestTrain | .scanEnter | .mbistRun | .debug | .tapReset | .hltTrigWrite _ _ | .tjTimeout _
  | .wearSecond _ _ _ _ | .railExcursion _ | .thermalTrip _ | .i2cRead _ | .relock _ _ | .refPinEdge _ | .signalDetected _
  | .lathReaderAdvance _ | .fenReloadDone _ _ | .tjConditionEnd _ => true

end Sys2Proof
end

