-- ==== Sys2Proof/Decode.lean ====
section
/-! DEFINITION. The command that a word spells.  No row of `spec/opcode_table.json` gives bits: the block takes commands, not words,
and the instruction words of the Fen engines are decoded where a unit runs them (`Machine/Fen.lean`). -/

namespace Sys2Proof

/-- The command that the bits `w` spell: none, since no row has bits. -/
def decodeTableWord (_nbits _w : Nat) : Option Instr := none

end Sys2Proof
end

