-- ==== Sys2Proof/Machine/Memory.lean ====
section
/-! DEFINITION. Bytes by address, in one canonical form: the addresses rise strictly, and no listed byte equals what an address that
is not listed reads as. -/

namespace Sys2Proof.Machine

abbrev Memory := List Host.Cell

/-- What an address that is not listed reads as: memory BIST leaves Mere cleared (log entry 40). -/
def Memory.unlisted : Byte := 0

/-- The byte at an address. -/
def Memory.read : Memory → Nat → Byte
  | [], _ => Memory.unlisted
  | c :: m, a => if c.1 = a then c.2 else Memory.read m a

/-- The address `a` is below every listed one. -/
def Memory.above (a : Nat) : Memory → Bool
  | [] => true
  | c :: _ => a < c.1

/-- The canonical form. -/
def Memory.wf : Memory → Bool
  | [] => true
  | c :: m => c.2 != Memory.unlisted && Memory.above c.1 m && Memory.wf m

/-- Write one byte. -/
def Memory.write : Memory → Nat → Byte → Memory
  | [], a, b => if b = Memory.unlisted then [] else [(a, b)]
  | c :: m, a, b =>
    if c.1 < a then c :: Memory.write m a b
    else if c.1 = a then (if b = Memory.unlisted then m else (a, b) :: m)
    else if b = Memory.unlisted then c :: m else (a, b) :: c :: m

/-- Write bytes from an address on, those that lie below `limit`. -/
def Memory.writeBytes (limit : Nat) : Memory → Nat → List Byte → Memory
  | m, _, [] => m
  | m, a, b :: bs => Memory.writeBytes limit (if a < limit then Memory.write m a b else m) (a + 1) bs

/-- `n` bytes from address `a` on. -/
def Memory.bytes : Nat → Nat → Memory → List Byte
  | 0, _, _ => []
  | n + 1, a, m =>
    let m := m.dropWhile fun c => c.1 < a
    match m with
    | [] => Memory.unlisted :: Memory.bytes n (a + 1) []
    | c :: rest => if c.1 = a then c.2 :: Memory.bytes n (a + 1) rest else Memory.unlisted :: Memory.bytes n (a + 1) (c :: rest)

end Sys2Proof.Machine
end

