-- ==== Sys2Proof/Machine/Map.lean ====
section
/-! DEFINITION. Sparse tables of per-instance values: a field number, an instance number and a value.
A value that is not listed is the field's default, so that equal contents are equal data. -/

namespace Sys2Proof.Machine

/-- One listed value. -/
structure Cell where
  fld : Nat
  inst : Nat
  val : Nat
  deriving DecidableEq, Repr

/-- A table of values, rising by field number and then by instance number. -/
abbrev Map := List Cell

/-- The cell's key stands before the key `(f, i)`. -/
def Cell.before (c : Cell) (f i : Nat) : Bool :=
  c.fld < f || (c.fld == f && c.inst < i)

/-- The listed value of `(f, i)`. -/
def Map.find? : Map → Nat → Nat → Option Nat
  | [], _, _ => none
  | c :: m, f, i => if c.fld = f ∧ c.inst = i then some c.val else Map.find? m f i

/-- List `v` for `(f, i)`. -/
def Map.put : Map → Nat → Nat → Nat → Map
  | [], f, i, v => [⟨f, i, v⟩]
  | c :: m, f, i, v =>
    if c.fld = f ∧ c.inst = i then ⟨f, i, v⟩ :: m
    else if c.before f i then c :: Map.put m f i v
    else ⟨f, i, v⟩ :: c :: m

/-- List nothing for `(f, i)`. -/
def Map.drop (m : Map) (f i : Nat) : Map :=
  m.filter fun c => !(c.fld == f && c.inst == i)

/-- Store `v` for `(f, i)` whose unlisted value is `d`. -/
def Map.store (m : Map) (f i v d : Nat) : Map :=
  if v = d then m.drop f i else m.put f i v

/-- The instances for which field `f` lists a value, rising. -/
def Map.insts (m : Map) (f : Nat) : List Nat :=
  (m.filter fun c => c.fld == f).map Cell.inst

/-- The keys rise strictly. -/
def Map.sorted : Map → Bool
  | [] => true
  | [_] => true
  | c :: e :: m => c.before e.fld e.inst && Map.sorted (e :: m)

/-- The access types of R2, and the two that the tables of the register chapters add: a value the
hardware computes when it is read, and a 32-bit count whose 64-bit ledger copy is kept. -/
inductive Acc
  | rw | ro | wo | w1c | w1s | rc | sh
  | view
  deriving DecidableEq, Repr

/-- A register field of the manual (or a hidden value the manual implies, with no register). -/
structure Fld where
  id : Nat
  width : Nat
  lsb : Nat
  acc : Acc
  /-- The value at reset, by instance. -/
  dflt : Nat → Nat

/-- A ledger count: 64 bits (R27), of which a register shows the low 32 (R517). -/
structure Ctr where
  id : Nat

/-- What a register word shows at some of its bits. -/
inductive Part
  | fld (f : Fld)
  | cnt (c : Ctr)

/-- A register of the BAR0 space: its base offset, the stride and count of each index, and its parts
(R135, R136).  `first` is the instance number of the first one. -/
structure Reg where
  name : String
  base : Nat
  dims : List (Nat × Nat)
  first : Nat
  parts : List Part

/-- The instance that `off` names, counted from 0, for the strides and counts in `dims`. -/
def Reg.indexIn : List (Nat × Nat) → Nat → Option Nat
  | [], off => if off = 0 then some 0 else none
  | (stride, count) :: rest, off =>
    let k := off / stride
    if k < count then
      match Reg.indexIn rest (off % stride) with
      | some j => some (k * (rest.foldl (fun n d => n * d.2) 1) + j)
      | none => none
    else none

/-- The instance of the register that lies at BAR0 offset `off`. -/
def Reg.at? (r : Reg) (off : Nat) : Option Nat :=
  if r.base ≤ off then (Reg.indexIn r.dims (off - r.base)).map (r.first + ·) else none

end Sys2Proof.Machine
end

