-- ==== Sys2Proof/Machine/Hidden.lean ====
section
/-! DEFINITION. State that the manual's rules imply and for which it gives no register: counts of time and
of consecutive occurrences, one latched value or timer per instance (`H.`), and the ledger counts that only
the LDG directory shows (`K.`).  Each starts at the value given here (log entry 3). -/

namespace Sys2Proof.Machine

/-! ### 06: state that spec/06_registers_and_events.md implies -/

/-- MSI-X enabled in the host's configuration space (R141). -/
def H.msixEnable : Fld := ⟨5000, 1, 0, .ro, fun _ => 0⟩
/-- the MSI-X function mask of configuration space (R141). -/
def H.msixFunctionMask : Fld := ⟨5001, 1, 0, .ro, fun _ => 0⟩
/-- low word of a vector's message address in the MSI-X table (R141). -/
def H.msixAddrLo : Fld := ⟨5002, 32, 0, .ro, fun _ => 0⟩
/-- high word of a vector's message address (R141). -/
def H.msixAddrHi : Fld := ⟨5003, 32, 0, .ro, fun _ => 0⟩
/-- message data of a vector (R141). -/
def H.msixData : Fld := ⟨5004, 32, 0, .ro, fun _ => 0⟩
/-- vector control word, bit 0 the mask bit (PCI Express Base: masked at reset) (R141). -/
def H.msixControl : Fld := ⟨5005, 32, 0, .ro, fun _ => 1⟩

/-! ### 02: state that spec/02_clocks_and_tick.md implies -/

/-- commits accepted (R49). -/
def K.COMMITS_ACCEPTED : Ctr := ⟨3000⟩
/-- commits applied (R49). -/
def K.COMMITS_APPLIED : Ctr := ⟨3001⟩
/-- commits that completed LATE (R49). -/
def K.COMMITS_LATE : Ctr := ⟨3002⟩
/-- commits that completed SUPERSEDED (R49). -/
def K.COMMITS_SUPERSEDED : Ctr := ⟨3003⟩
/-- commits that completed LEASED (R49). -/
def K.COMMITS_LEASED : Ctr := ⟨3004⟩
/-- commits cancelled at a takeover (R49). -/
def K.COMMITS_CANCELLED : Ctr := ⟨3005⟩

/-! ### 05: state that spec/05_igkix_commands.md implies -/

/-- the port that protects a destination, 0xFF none (R121). -/
def H.protectedBy : Fld := ⟨5006, 8, 0, .ro, fun _ => 255⟩

/-! ### 09: state that spec/09_crosspoint_and_sluice.md implies -/

/-- the destination's main source (R239). -/
def H.destMain : Fld := ⟨5007, 11, 0, .ro, fun _ => 2047⟩
/-- the destination's source is lost (its loss policy holds while it is enabled) (R235). -/
def H.destLost : Fld := ⟨5008, 1, 0, .ro, fun _ => 1⟩
/-- the lost source was fit at the T0 of the frame in progress (R236). -/
def H.destResume : Fld := ⟨5009, 1, 0, .ro, fun _ => 0⟩
/-- main and backup were unfit at the last T3 (R238). -/
def H.destBothUnfit : Fld := ⟨5010, 1, 0, .ro, fun _ => 0⟩
/-- consecutive T3s at which the main was fit (R238). -/
def H.destRevertRun : Fld := ⟨5011, 32, 0, .ro, fun _ => 0⟩
/-- black lines of a new format are sent up to the switch line (R232). -/
def H.destBlack : Fld := ⟨5012, 1, 0, .ro, fun _ => 0⟩
/-- epoch + 1 of the frame whose switch line has passed (R217). -/
def H.destSwitched : Fld := ⟨5013, 33, 0, .ro, fun _ => 0⟩
/-- ANC packets into egress (R245). -/
def K.EGR_ANC_IN : Ctr := ⟨3006⟩
/-- ANC packets out of egress (R245). -/
def K.EGR_ANC_OUT : Ctr := ⟨3007⟩
/-- audio packets removed for EMBED_GROUPS (R245). -/
def K.EGR_AUD_EMBED_REMOVED : Ctr := ⟨3008⟩

/-! ### 04: state that spec/04_bus_matrix.md implies -/

/-- transaction IDs a master holds (R88). -/
def H.busOutstanding : Fld := ⟨5014, 8, 0, .ro, fun _ => 0⟩
/-- transaction IDs a master has issued (R88). -/
def K.BUS_ISSUED : Ctr := ⟨3009⟩
/-- transactions of a master that completed (R88). -/
def K.BUS_COMPLETED : Ctr := ⟨3010⟩
/-- responses that came after the matrix had answered (R84). -/
def K.BUS_LATE_RESPONSES : Ctr := ⟨3011⟩

/-! ### 08: state that spec/08_ingest_and_mere.md implies -/

/-- the seal of the slot's last line (R184). -/
def H.ingSeal : Fld := ⟨5015, 32, 0, .ro, fun _ => 0⟩
/-- ingest's own line count (R183). -/
def H.ingCount : Fld := ⟨5016, 11, 0, .ro, fun _ => 0⟩
/-- the last line number that differed from the count (R183). -/
def H.ingLastNum : Fld := ⟨5017, 11, 0, .ro, fun _ => 0⟩
/-- the CORE cycle of the last valid EAV (R189). -/
def H.ingEav : Fld := ⟨5018, 64, 0, .ro, fun _ => 0⟩
/-- four line periods have passed without a valid EAV (R189). -/
def H.ingNoTrs : Fld := ⟨5019, 1, 0, .ro, fun _ => 0⟩
/-- FORMAT of the last complete frame (R188). -/
def H.ingDetFmt : Fld := ⟨5020, 8, 0, .ro, fun _ => 0⟩
/-- RATE of the last complete frame (R188). -/
def H.ingDetRate : Fld := ⟨5021, 4, 0, .ro, fun _ => 0⟩
/-- FORMAT of the consecutive frames that count towards locking (R188). -/
def H.ingRunFmt : Fld := ⟨5022, 8, 0, .ro, fun _ => 0⟩
/-- RATE of those frames (R188). -/
def H.ingRunRate : Fld := ⟨5023, 4, 0, .ro, fun _ => 0⟩
/-- how many of them there are (R188). -/
def H.ingRun : Fld := ⟨5024, 8, 0, .ro, fun _ => 0⟩
/-- FORMAT from which cause 4 is judged, 0 for none (R189). -/
def H.ingRefFmt : Fld := ⟨5025, 8, 0, .ro, fun _ => 0⟩
/-- RATE from which cause 4 is judged (R189). -/
def H.ingRefRate : Fld := ⟨5026, 4, 0, .ro, fun _ => 0⟩
/-- FORMAT last locked (R188). -/
def H.ingLastFmt : Fld := ⟨5027, 8, 0, .ro, fun _ => 0⟩
/-- RATE last locked (R188). -/
def H.ingLastRate : Fld := ⟨5028, 4, 0, .ro, fun _ => 0⟩
/-- the last frame needed more than FRAME_PAGES pages (R189). -/
def H.ingOversize : Fld := ⟨5029, 1, 0, .ro, fun _ => 0⟩
/-- the last EAV fell outside the skim window (R198). -/
def H.ingOutside : Fld := ⟨5030, 1, 0, .ro, fun _ => 0⟩
/-- an EAV of the frame in progress fell outside the skim window (R188). -/
def H.ingWinBad : Fld := ⟨5031, 1, 0, .ro, fun _ => 0⟩
/-- lines of the frame in progress counted in CRC_ERR (R191). -/
def H.ingCrcLines : Fld := ⟨5032, 16, 0, .ro, fun _ => 0⟩
/-- a frame was completed into the Mere ring since the slot was enabled (R235). -/
def H.ingStored : Fld := ⟨5033, 1, 0, .ro, fun _ => 0⟩
/-- BLACK_RUN as of the last frame (R191). -/
def H.ingBlack : Fld := ⟨5034, 16, 0, .ro, fun _ => 0⟩
/-- FREEZE_RUN as of the last frame (R191). -/
def H.ingFreeze : Fld := ⟨5035, 16, 0, .ro, fun _ => 0⟩
/-- SILENCE_RUN as of the last frame (R191). -/
def H.ingSilence : Fld := ⟨5036, 16, 0, .ro, fun _ => 0⟩
/-- the monitors whose event was raised since their run was last 0 (R191). -/
def H.ingRaised : Fld := ⟨5037, 4, 0, .ro, fun _ => 0⟩
/-- one more than the digest of the last frame, 0 for none (R191). -/
def H.ingDigest : Fld := ⟨5038, 33, 0, .ro, fun _ => 0⟩
/-- one more than the frame that extraction has reached in the Mere ring, 0 before the first (R194). -/
def H.ingAudK : Fld := ⟨5039, 64, 0, .ro, fun _ => 0⟩
/-- the line that it has reached there (R194). -/
def H.ingAudLine : Fld := ⟨5040, 16, 0, .ro, fun _ => 0⟩
/-- the groups whose sample rate differs from BLOCK_RATE (R192). -/
def H.ingBadGroups : Fld := ⟨5041, 8, 0, .ro, fun _ => 0⟩
/-- the frames, that in progress counted, since an LTC arrived: 2 in its own, 1 in the next, 0 later (R183). -/
def H.ingLtc : Fld := ⟨5042, 2, 0, .ro, fun _ => 0⟩
/-- extraction runs (R196). -/
def H.ingExtract : Fld := ⟨5043, 1, 0, .ro, fun _ => 0⟩
/-- one more than the mask of the groups present before the last loss, 0 when there was none (R196). -/
def H.ingOldGroups : Fld := ⟨5044, 9, 0, .ro, fun _ => 0⟩
/-- TIME (2^-16 ns) at which the last proxy set was completed, plus 1; 0 for none (R204). -/
def H.ingProxyTime : Fld := ⟨5045, 80, 0, .ro, fun _ => 0⟩
/-- the proxy set completed last (R204). -/
def H.ingProxySet : Fld := ⟨5046, 1, 0, .ro, fun _ => 0⟩
/-- the count of source frames in the proxy header (R257). -/
def H.ingProxyCount : Fld := ⟨5047, 16, 0, .ro, fun _ => 0⟩
/-- the Reed receive sub-channel is lost (R172). -/
def H.feedLost : Fld := ⟨5048, 1, 0, .ro, fun _ => 1⟩
/-- SRC_LOCK of the Reed receive sub-channel (R174). -/
def H.feedLock : Fld := ⟨5049, 1, 0, .ro, fun _ => 0⟩
/-- uncorrectable Mere errors in the frame in progress (R211). -/
def H.mereErrors : Fld := ⟨5050, 32, 0, .ro, fun _ => 0⟩
/-- the crosspoint takes the locked slot's lines (R189, R201, R543) (R543). -/
def H.ingVisible : Fld := ⟨5051, 1, 0, .ro, fun _ => 0⟩

/-! ### 05: state that spec/05_igkix_commands.md implies -/

/-- the CORE cycle of a port's last LEASE_TAKE or LEASE_RENEW (R119). -/
def H.leaseTime : Fld := ⟨5052, 64, 0, .ro, fun _ => 0⟩

/-! ### 18: state that spec/18_twin_redundancy.md implies -/

/-- counts changes of role or claim state, for the ROLE messages that lanes owe (R162). -/
def H.roleTurn : Fld := ⟨5053, 32, 0, .ro, fun _ => 0⟩
/-- the LIVE CSEQ of the last mirrored write to a shadow copy of a commit group (R475). -/
def H.groupSeq : Fld := ⟨5054, 32, 0, .ro, fun _ => 0⟩

/-! ### 16: state that spec/16_audio_matrix.md implies -/

/-- free tap-table units are below 8,192 (R408). -/
def H.amxLow : Fld := ⟨5055, 1, 0, .ro, fun _ => 0⟩
/-- a mix job of the block in progress: 1 in progress, 2 overrun already (R415). -/
def H.mixOpen : Fld := ⟨5056, 2, 0, .ro, fun _ => 0⟩
/-- consecutive overruns of a destination channel, and from 65,536 on of a source channel (R382), up to 4 (R51). -/
def H.overRun : Fld := ⟨5057, 3, 0, .ro, fun _ => 0⟩
/-- a METER_ENABLE command uses the meter slot (R418). -/
def H.meterCmd : Fld := ⟨5058, 1, 0, .ro, fun _ => 0⟩
/-- that command asked for loudness (R418). -/
def H.meterCmdLoud : Fld := ⟨5059, 1, 0, .ro, fun _ => 0⟩

/-! ### 10: state that spec/10_multiviewer_and_converters.md implies -/

/-- 1 + 16 × shares + read units that the last check of the tile admitted, 0 once in effect (R252). -/
def H.tilePlan : Fld := ⟨5060, 10, 0, .ro, fun _ => 0⟩
/-- one more than the SOURCE of the tile's last snapshot (R256). -/
def H.tileSource : Fld := ⟨5061, 11, 0, .ro, fun _ => 0⟩
/-- head frames waited for a new source's first proxy set (R256). -/
def H.tileWait : Fld := ⟨5062, 5, 0, .ro, fun _ => 0⟩
/-- consecutive late frames (R255). -/
def H.tileRun : Fld := ⟨5063, 16, 0, .ro, fun _ => 0⟩
/-- the tile has drawn a picture of its source (R255). -/
def H.tilePicture : Fld := ⟨5064, 1, 0, .ro, fun _ => 0⟩
/-- the firmware has assigned the tile a scaler (R253). -/
def H.tileScaled : Fld := ⟨5065, 1, 0, .ro, fun _ => 0⟩
/-- the cornice meter is drawn as stale (R260). -/
def H.meterStale : Fld := ⟨5066, 1, 0, .ro, fun _ => 0⟩
/-- consecutive matching frames of a failing region (R262). -/
def H.guardRun : Fld := ⟨5067, 4, 0, .ro, fun _ => 0⟩
/-- the region is drawn as hatch (R262). -/
def H.guardHatch : Fld := ⟨5068, 1, 0, .ro, fun _ => 0⟩
/-- a composition is in progress (R247). -/
def H.mvComposing : Fld := ⟨5069, 1, 0, .ro, fun _ => 0⟩
/-- the frame of the head's composition (R248). -/
def H.mvFrame : Fld := ⟨5070, 48, 0, .ro, fun _ => 0⟩
/-- the composition buffer in use (R247). -/
def H.mvBuffer : Fld := ⟨5071, 1, 0, .ro, fun _ => 0⟩
/-- the composition buffer that readout sends (R247). -/
def H.mvSent : Fld := ⟨5072, 1, 0, .ro, fun _ => 0⟩
/-- a composition has been completed since the head was enabled (R247). -/
def H.mvReady : Fld := ⟨5073, 1, 0, .ro, fun _ => 0⟩
/-- the head has completed a composition since reset (R235). -/
def H.mvDone : Fld := ⟨5074, 1, 0, .ro, fun _ => 0⟩
/-- the logical scaler is faulted (R253). -/
def H.scalerFault : Fld := ⟨5075, 1, 0, .ro, fun _ => 0⟩
/-- a physical scaler is under rolling self-test (R253). -/
def H.scalerTest : Fld := ⟨5076, 1, 0, .ro, fun _ => 0⟩
/-- the physical converter has failed, or is retired (R272). -/
def H.cnvFailed : Fld := ⟨5077, 1, 0, .ro, fun _ => 0⟩
/-- the physical converter is under rolling self-test (R272). -/
def H.cnvTest : Fld := ⟨5078, 1, 0, .ro, fun _ => 0⟩
/-- one more than the unit that replaces the converter's failed one at the next T0 (R272). -/
def H.cnvSwap : Fld := ⟨5079, 7, 0, .ro, fun _ => 0⟩
/-- CNV_CFG as the destination frame in progress has it (R270). -/
def H.cnvLive : Fld := ⟨5080, 32, 0, .ro, fun _ => 2047⟩
/-- LUT and matrix entries: ((converter × 2 + bank) × 7 + table) × 4096 + index (R268). -/
def H.cnvLut : Fld := ⟨5081, 14, 0, .ro, fun _ => 0⟩

/-! ### 07: state that spec/07_reed_lanes.md implies -/

/-- signal is detected on the receive lane (R166). -/
def H.reedSignal : Fld := ⟨5082, 1, 0, .ro, fun _ => 0⟩
/-- the CDR of the receive lane is locked (R166). -/
def H.reedCdr : Fld := ⟨5083, 1, 0, .ro, fun _ => 0⟩
/-- the CORE cycle of the receive lane's last change of state (R166). -/
def H.reedSince : Fld := ⟨5084, 64, 0, .ro, fun _ => 0⟩
/-- consecutive good FOM readings (R166). -/
def H.reedGood : Fld := ⟨5085, 16, 0, .ro, fun _ => 0⟩
/-- consecutive superframes accepted with consecutive SEQ (R166). -/
def H.reedRun : Fld := ⟨5086, 8, 0, .ro, fun _ => 0⟩
/-- consecutive expected starts that failed check 2 (R166). -/
def H.reedBad : Fld := ⟨5087, 8, 0, .ro, fun _ => 0⟩
/-- superframes discarded in the reading interval (R166). -/
def H.reedDiscards : Fld := ⟨5088, 16, 0, .ro, fun _ => 0⟩
/-- one more than the SEQ of the last accepted superframe, 0 for none since alignment (R165). -/
def H.reedSeq : Fld := ⟨5089, 17, 0, .ro, fun _ => 0⟩
/-- superframes discarded since the last accepted one (R182). -/
def H.reedMissed : Fld := ⟨5090, 16, 0, .ro, fun _ => 0⟩
/-- one more than (start − 1,024 × SEQ) mod 2²⁶ of the last accepted superframe, in characters, 0 for none (R177). -/
def H.reedOffset : Fld := ⟨5091, 27, 0, .ro, fun _ => 0⟩
/-- the rate code that TRAINING tries (R169). -/
def H.reedTry : Fld := ⟨5092, 2, 0, .ro, fun _ => 3⟩
/-- the CORE cycle at which it began to try that rate (R169). -/
def H.reedTrySince : Fld := ⟨5093, 64, 0, .ro, fun _ => 0⟩
/-- one more than the superframes missing in the last GAP marker (R171). -/
def H.reedGap : Fld := ⟨5094, 17, 0, .ro, fun _ => 0⟩
/-- how many UI the character boundary was moved by BITSLIP (R170). -/
def H.reedSlip : Fld := ⟨5095, 8, 0, .ro, fun _ => 0⟩
/-- SEQ of the transmit lane's next superframe (R174). -/
def H.txSeq : Fld := ⟨5096, 16, 0, .ro, fun _ => 0⟩
/-- the transmit group sends IDLE for a change of rate (R176). -/
def H.txIdle : Fld := ⟨5097, 1, 0, .ro, fun _ => 0⟩
/-- the CORE cycle at which it began (R176). -/
def H.txIdleSince : Fld := ⟨5098, 64, 0, .ro, fun _ => 0⟩
/-- the transmit PLL group is unlocked (R31). -/
def H.txPllLost : Fld := ⟨5099, 1, 0, .ro, fun _ => 0⟩
/-- words queued for a transmit sub-channel (R182). -/
def H.txQueue : Fld := ⟨5100, 32, 0, .ro, fun _ => 0⟩
/-- one more than the rate that the sub-channel's format does not fit, 0 when it fits (R176). -/
def H.txOver : Fld := ⟨5101, 3, 0, .ro, fun _ => 0⟩
/-- one more than the CORE cycle of the lane's last ROLE message (R162). -/
def H.txRoleAt : Fld := ⟨5102, 64, 0, .ro, fun _ => 0⟩
/-- one more than the CORE cycle of the lane's last IDENT message (R162). -/
def H.txIdentAt : Fld := ⟨5103, 64, 0, .ro, fun _ => 0⟩
/-- the role turn of the lane's last ROLE message (R162). -/
def H.txTurn : Fld := ⟨5104, 32, 0, .ro, fun _ => 0⟩
/-- message counter of the lane's next link-control message (R161). -/
def H.lcmCounter : Fld := ⟨5105, 8, 0, .ro, fun _ => 0⟩
/-- LCM_SEND waits (R161). -/
def H.lcmPending : Fld := ⟨5106, 1, 0, .ro, fun _ => 0⟩
/-- sets of link-control fragments that ended (R182). -/
def K.REED_LCM_SETS : Ctr := ⟨3012⟩
/-- the REASON last raised since the bundle's four lanes are up (R177). -/
def H.bundleTold : Fld := ⟨5107, 2, 0, .ro, fun _ => 0⟩

/-! ### 21: state that spec/21_package_power_electrical.md implies -/

/-- the SEAT strap: 0 seat A, 1 seat B (R451). -/
def H.pinSeat : Fld := ⟨5108, 1, 0, .ro, fun _ => 0⟩

/-! ### 06: state that spec/06_registers_and_events.md implies -/

/-- a message is owed to every group that was pending at the first link-up after a PCI Express reset (R143). -/
def H.msixOwed : Fld := ⟨5109, 1, 0, .ro, fun _ => 0⟩
/-- no link-up since the last PCI Express reset (R143). -/
def H.pciWasReset : Fld := ⟨5110, 1, 0, .ro, fun _ => 0⟩

/-! ### 04: state that spec/04_bus_matrix.md implies -/

/-- the sticky error bit of the JTAG debug status (R81). -/
def H.debugError : Fld := ⟨5111, 1, 0, .ro, fun _ => 0⟩

/-! ### 03: state that spec/03_startup.md implies -/

/-- the sum of the lengths of the image chunks accepted (R68). -/
def H.pushOffset : Fld := ⟨5112, 32, 0, .ro, fun _ => 0⟩

/-! ### 15: state that spec/15_audio_ports.md implies -/

/-- consecutive pin frames that meet the condition of ACQUIRING (R378). -/
def H.aptRun : Fld := ⟨5113, 8, 0, .ro, fun _ => 0⟩
/-- one more than the CORE cycle of the port's last FS edge (R378). -/
def H.aptEdge : Fld := ⟨5114, 64, 0, .ro, fun _ => 0⟩
/-- the port waits for the FS edge at which a restart resumes (R385). -/
def H.aptRestart : Fld := ⟨5115, 1, 0, .ro, fun _ => 0⟩
/-- the member runs on its own ratio (R397). -/
def H.aptDrift : Fld := ⟨5116, 1, 0, .ro, fun _ => 0⟩
/-- the port's FIFO fills to its target, and nothing leaves it yet (R385). -/
def H.aptFill : Fld := ⟨5117, 1, 0, .ro, fun _ => 0⟩
/-- the ratio of the port's converter, in 2⁻³² pin frames for each block (R380). -/
def H.aptRatio : Fld := ⟨5118, 64, 0, .ro, fun _ => 0⟩
/-- the part of a pin frame that the converter has run on, in 2⁻³² (R380). -/
def H.aptFrac : Fld := ⟨5119, 32, 0, .ro, fun _ => 0⟩
/-- the pin frames that the converter moved at the last block tick (R380). -/
def H.aptMoved : Fld := ⟨5120, 32, 0, .ro, fun _ => 0⟩
/-- the gain of a port channel (32 × port + channel), in sixteenths (R389). -/
def H.aptGain : Fld := ⟨5121, 5, 0, .ro, fun _ => 0⟩
/-- its fade: 0 none, 1 out, 2 in (R389). -/
def H.aptFade : Fld := ⟨5122, 2, 0, .ro, fun _ => 0⟩
/-- what waits for a zero crossing: 0 nothing, 1 a fade out, 2 a fade in (R389). -/
def H.aptWait : Fld := ⟨5123, 2, 0, .ro, fun _ => 0⟩
/-- the CORE cycle at which it began to wait (R389). -/
def H.aptSince : Fld := ⟨5124, 64, 0, .ro, fun _ => 0⟩
/-- the channel's last sample (R388). -/
def H.aptLast : Fld := ⟨5125, 32, 0, .ro, fun _ => 0⟩
/-- one more than the CORE second of the port's last zero-crossing timeout event (R389). -/
def H.aptZcSecond : Fld := ⟨5126, 64, 0, .ro, fun _ => 0⟩
/-- one more than the TIME (ns) of the group's trigger, 0 when none waits for its start edge (R395). -/
def H.aptTrigger : Fld := ⟨5127, 80, 0, .ro, fun _ => 0⟩

/-! ### 05: state that spec/05_igkix_commands.md implies -/

/-- the sampled level of the ball (R124). -/
def H.gpioBall : Fld := ⟨5128, 1, 0, .ro, fun _ => 0⟩
/-- the level after the last accepted edge (R125). -/
def H.gpioPin : Fld := ⟨5129, 1, 0, .ro, fun _ => 0⟩
/-- one more than the CORE cycle at which the debounce window closes, 0 when none is open (R125). -/
def H.gpioWindow : Fld := ⟨5130, 64, 0, .ro, fun _ => 0⟩
/-- accepted edges in the chatter window in progress (R126). -/
def H.gpioEdges : Fld := ⟨5131, 32, 0, .ro, fun _ => 0⟩
/-- consecutive quiet chatter windows (R126). -/
def H.gpioQuiet : Fld := ⟨5132, 4, 0, .ro, fun _ => 0⟩
/-- one more than the CORE cycle since which the pin has been active (R127). -/
def H.gpioActive : Fld := ⟨5133, 64, 0, .ro, fun _ => 0⟩

/-! ### 14: state that spec/14_reference_and_holdover.md implies -/

/-- one more than the CORE cycle of the REF pin's last sampled edge, 0 for none (R352). -/
def H.refEdge : Fld := ⟨5134, 64, 0, .ro, fun _ => 0⟩
/-- the CORE cycle at which the gate in progress of an input began (R353). -/
def H.refGate : Fld := ⟨5135, 64, 0, .ro, fun _ => 0⟩
/-- consecutive correct nominal periods of the REF pin, 2 standing for 2 or more (R352). -/
def H.refGood : Fld := ⟨5136, 2, 0, .ro, fun _ => 0⟩
/-- the CORE cycle at which the input entered SOAKING (R354). -/
def H.refSoak : Fld := ⟨5137, 64, 0, .ro, fun _ => 0⟩
/-- the build-out B of the input, signed, in units of 2⁻¹⁶ ns (R363). -/
def H.refBuild : Fld := ⟨5138, 80, 0, .ro, fun _ => 0⟩
/-- the selected input's phase was measured since its selection (R363). -/
def H.refMeasured : Fld := ⟨5139, 1, 0, .ro, fun _ => 0⟩
/-- one more than the CORE cycle of the last write of PTP_PHC_RATE or PTP_PHC_ADJ, 0 for none (R351). -/
def H.refPhcWrite : Fld := ⟨5140, 64, 0, .ro, fun _ => 0⟩
/-- two inputs of the best rank disagree, and RANK_CONFLICT was raised (R357). -/
def H.refConflict : Fld := ⟨5141, 1, 0, .ro, fun _ => 0⟩
/-- consecutive seconds that meet the lock criteria (R362). -/
def H.refLockRun : Fld := ⟨5142, 8, 0, .ro, fun _ => 0⟩
/-- the loop has been LOCKED since reset (R361). -/
def H.refEverLocked : Fld := ⟨5143, 1, 0, .ro, fun _ => 0⟩
/-- the loop was LOCKED at the last whole second and has stayed so (R366). -/
def H.refSteady : Fld := ⟨5144, 1, 0, .ro, fun _ => 0⟩
/-- one more than the CORE cycle of the last write of REF_PEAT, 0 for none (R366). -/
def H.refPeatAt : Fld := ⟨5145, 64, 0, .ro, fun _ => 0⟩
/-- the slew rate in use, in ns per second (R370). -/
def H.refSlewRate : Fld := ⟨5146, 16, 0, .ro, fun _ => 500⟩
/-- the CORE cycle up to which the output phase has been slewed (R368). -/
def H.refSlewAt : Fld := ⟨5147, 64, 0, .ro, fun _ => 0⟩
/-- what was slewed since the remainder was last 0, signed, in units of 2⁻¹⁶ ns (R368). -/
def H.refSlewDone : Fld := ⟨5148, 80, 0, .ro, fun _ => 0⟩
/-- the holdover timer in ns, up to that cycle (R367). -/
def H.refHoldNs : Fld := ⟨5149, 64, 0, .ro, fun _ => 0⟩
/-- the CORE cycle up to which the holdover timer has run (R367). -/
def H.refHoldAt : Fld := ⟨5150, 64, 0, .ro, fun _ => 0⟩
/-- the partner's REF_STATUS.LOOP, as its last TIME frame gave it (R351). -/
def H.refPeerLoop : Fld := ⟨5151, 3, 0, .ro, fun _ => 0⟩
/-- the partner's REF_STATUS.SELECTED (R351). -/
def H.refPeerSel : Fld := ⟨5152, 3, 0, .ro, fun _ => 7⟩
/-- the duty of XO_CTL at the last change of TRIM (R373). -/
def H.xoDuty : Fld := ⟨5153, 16, 0, .ro, fun _ => 32768⟩
/-- the CORE cycle of that change (R373). -/
def H.xoSince : Fld := ⟨5154, 64, 0, .ro, fun _ => 0⟩
/-- the phase ledger: requested, a signed sum in units of 2⁻¹⁶ ns (R371). -/
def K.PHASE_REQUESTED : Ctr := ⟨3013⟩
/-- the phase ledger: stepped (R371). -/
def K.PHASE_STEPPED : Ctr := ⟨3014⟩
/-- the phase ledger: slewed (R371). -/
def K.PHASE_SLEWED : Ctr := ⟨3015⟩
/-- the phase ledger: refused (R371). -/
def K.PHASE_REFUSED : Ctr := ⟨3016⟩

/-! ### 13: state that spec/13_ptp.md implies -/

/-- the PHC at the last change of its rate or value, in units of 2⁻¹⁶ × 10⁻⁹ ns (R334). -/
def H.phcBase : Fld := ⟨5155, 176, 0, .ro, fun _ => 0⟩
/-- the CORE cycle of that change (R334). -/
def H.phcCore : Fld := ⟨5156, 64, 0, .ro, fun _ => 0⟩
/-- one more than the CORE cycle in which the PHC was last adjusted (R335). -/
def H.phcMovedAt : Fld := ⟨5157, 64, 0, .ro, fun _ => 0⟩
/-- the PHC before the adjustments of that cycle, in 2⁻¹⁶ ns (R335). -/
def H.phcBefore : Fld := ⟨5158, 128, 0, .ro, fun _ => 0⟩

/-! ### 11: state that spec/11_media_mac.md implies -/

/-- the time, in units of 10 ps of CORE time, at which the frame sent last ends (media instances 0–31, then M0 and M1) (R285). -/
def H.macBusy : Fld := ⟨5159, 96, 0, .ro, fun _ => 0⟩
/-- quanta left in the pause timer, or waiting to be loaded (R285). -/
def H.pauseTimer : Fld := ⟨5160, 16, 0, .ro, fun _ => 0⟩
/-- the time, in units of 10 ps, from which the next quantum counts (R285). -/
def H.pauseFrom : Fld := ⟨5161, 96, 0, .ro, fun _ => 0⟩
/-- frames in the Lath control queue of media ports 0–7, then of M0 and M1 (R281). -/
def H.macCtlQueue : Fld := ⟨5162, 7, 0, .ro, fun _ => 0⟩
/-- consecutive utilisation windows below 5 % (R293). -/
def H.macIdle : Fld := ⟨5163, 8, 0, .ro, fun _ => 0⟩
/-- MAX_FRAME before its last change (R279). -/
def H.maxFrameWas : Fld := ⟨5164, 14, 0, .ro, fun _ => 0⟩
/-- one more than the time, in units of 10 ps, of the last change of MAX_FRAME (R279). -/
def H.maxFrameAt : Fld := ⟨5165, 96, 0, .ro, fun _ => 0⟩
/-- one more than the CORE cycle of the last change of TX_START (R291). -/
def H.txStartCycle : Fld := ⟨5166, 64, 0, .ro, fun _ => 0⟩
/-- TX_START before that cycle (R291). -/
def H.txStartOld : Fld := ⟨5167, 6, 0, .ro, fun _ => 0⟩
/-- the value that an underrun of that cycle raised it to, 0 without one (R291). -/
def H.txStartRaised : Fld := ⟨5168, 6, 0, .ro, fun _ => 0⟩
/-- the value that a write of that cycle stored, 0 without one (R291). -/
def H.txStartWritten : Fld := ⟨5169, 6, 0, .ro, fun _ => 0⟩
/-- the CORE cycle at which the renegotiation began (R295). -/
def H.macReneg : Fld := ⟨5170, 64, 0, .ro, fun _ => 0⟩
/-- one more than the AN of the transmit SA, 0 for none (R297). -/
def H.macTxSa : Fld := ⟨5171, 3, 0, .ro, fun _ => 0⟩
/-- its key (R297). -/
def H.macTxKey : Fld := ⟨5172, 256, 0, .ro, fun _ => 0⟩
/-- the receive SA with that AN is installed: 4 × port + AN (R297). -/
def H.macRxSa : Fld := ⟨5173, 1, 0, .ro, fun _ => 0⟩
/-- its key (R297). -/
def H.macRxKey : Fld := ⟨5174, 256, 0, .ro, fun _ => 0⟩
/-- the lowest packet number above every one accepted under it (R296). -/
def H.macRxPn : Fld := ⟨5175, 32, 0, .ro, fun _ => 1⟩
/-- one more than the CORE second of the port's last MACsec drop event (R296). -/
def H.macSecDrop : Fld := ⟨5176, 64, 0, .ro, fun _ => 0⟩

/-! ### 12: state that spec/12_ip_media.md implies -/

/-- one more than the CORE second of the transmit context's last IPM_PACE_LATE (R316). -/
def H.ipmLateSecond : Fld := ⟨5177, 64, 0, .ro, fun _ => 0⟩

/-! ### 13: state that spec/13_ptp.md implies -/

/-- one more than the CORE second of the queue's last PTP_TXQ_OVERFLOW (R345). -/
def H.txqSecond : Fld := ⟨5178, 64, 0, .ro, fun _ => 0⟩

/-! ### 12: state that spec/12_ip_media.md implies -/

/-- the sequence number of the transmit context's next packet (R314). -/
def H.ipmTxSeq : Fld := ⟨5179, 32, 0, .ro, fun _ => 0⟩

/-! ### 13: state that spec/13_ptp.md implies -/

/-- offsets of the selected interface since the servo's state began or since the last one above 100 ns, that one included, up to 17 (R341). -/
def H.ptpGood : Fld := ⟨5180, 5, 0, .ro, fun _ => 0⟩
/-- PTP time is valid: LOCKED was entered since reset (R341). -/
def H.ptpValid : Fld := ⟨5181, 1, 0, .ro, fun _ => 0⟩

/-! ### 17: state that spec/17_fen_engines.md implies -/

/-- CORE second + 1 of the engine's last FEN_FOLD (R438). -/
def H.fenFoldSecond : Fld := ⟨5182, 64, 0, .ro, fun _ => 0⟩
/-- the engine's unit awaits the reload of its program memory (R427). -/
def H.fenReload : Fld := ⟨5183, 1, 0, .ro, fun _ => 0⟩
/-- a BLOCK job of the block in progress that was abandoned by a trap, or could not start (R447). -/
def H.jobLost : Fld := ⟨5184, 1, 0, .ro, fun _ => 0⟩

/-! ### 20: state that spec/20_health_and_ledgers.md implies -/

/-- the hottest die sensor has stayed above 105 degrees for 1 s and still does (R507). -/
def H.tjHot : Fld := ⟨5185, 1, 0, .ro, fun _ => 0⟩
/-- key load failed at step 6 (R61). -/
def H.keyFail : Fld := ⟨5186, 1, 0, .ro, fun _ => 0⟩
/-- the tick has stopped under R38 and has not restarted (R38). -/
def H.tickLost : Fld := ⟨5187, 1, 0, .ro, fun _ => 0⟩
/-- BIST_TAP_STATUS.TEST_LATCH; only a power-on reset clears it (R503). -/
def H.testLatch : Fld := ⟨5188, 1, 0, .ro, fun _ => 0⟩
/-- the stack's refresh rate is doubled (R530). -/
def H.hbmFast : Fld := ⟨5189, 1, 0, .ro, fun _ => 0⟩
/-- ledgers that the check of this frame left unchecked (R42). -/
def H.t3Left : Fld := ⟨5190, 16, 0, .ro, fun _ => 0⟩

/-! ### 03: state that spec/03_startup.md implies -/

/-- POR_N is low, or has not risen since the reset state (R72). -/
def H.porLow : Fld := ⟨5191, 1, 0, .ro, fun _ => 1⟩
/-- the device is held in reset after a thermal trip (R531). -/
def H.tripHeld : Fld := ⟨5192, 1, 0, .ro, fun _ => 0⟩
/-- the CORE cycle of the rise of POR_N, or of the last device reset (R71). -/
def H.bootAt : Fld := ⟨5193, 64, 0, .ro, fun _ => 0⟩
/-- the CORE cycle at which step 10 began (R69). -/
def H.step10At : Fld := ⟨5194, 64, 0, .ro, fun _ => 0⟩
/-- the boot ROM waits for a host push (R68). -/
def H.pushState : Fld := ⟨5195, 1, 0, .ro, fun _ => 0⟩
/-- BOOT_POLICY as step 1 read it (R67). -/
def H.policyUsed : Fld := ⟨5196, 2, 0, .ro, fun _ => 0⟩
/-- the cause of the Lath restart in progress (R72). -/
def H.lathCause : Fld := ⟨5197, 4, 0, .ro, fun _ => 0⟩
/-- seat B waits 3 frame ticks for its first role (R70). -/
def H.seatWait : Fld := ⟨5198, 1, 0, .ro, fun _ => 0⟩
/-- frame ticks that seat B has waited (R70). -/
def H.seatTicks : Fld := ⟨5199, 2, 0, .ro, fun _ => 0⟩

/-! ### 20: state that spec/20_health_and_ledgers.md implies -/

/-- line-buffer credits that a plane has issued (R511). -/
def K.FABRIC_ISSUED : Ctr := ⟨3017⟩
/-- credits returned to a plane (R511). -/
def K.FABRIC_RETURNED : Ctr := ⟨3018⟩
/-- LEDGER_FAULT was raised since the firmware last evaluated its triggers (R507). -/
def H.ledgerFault : Fld := ⟨5200, 1, 0, .ro, fun _ => 0⟩

/-! ### 04: state that spec/04_bus_matrix.md implies -/

/-- the master whose turn it is at a target row, 9 the sump (R82). -/
def H.busTurn : Fld := ⟨5201, 3, 0, .ro, fun _ => 0⟩
/-- the grants that it has had in this turn (R82). -/
def H.busUsed : Fld := ⟨5202, 4, 0, .ro, fun _ => 0⟩

/-! ### 03: state that spec/03_startup.md implies -/

/-- the firmware has enabled the reference block (R69). -/
def H.refOn : Fld := ⟨5203, 1, 0, .ro, fun _ => 0⟩
/-- the step that a Lath restart is at: 7 or 8 (R60). -/
def H.restartStep : Fld := ⟨5204, 4, 0, .ro, fun _ => 7⟩
/-- ENTRY of the running image (R65). -/
def H.lathEntry : Fld := ⟨5205, 32, 0, .ro, fun _ => 0⟩
/-- the repair banks that the last step 1 ignored, REPAIR0–REPAIR3 and bit 4 HBM_REPAIR (R61). -/
def H.repairIgnored : Fld := ⟨5206, 5, 0, .ro, fun _ => 0⟩

/-! ### 06: state that spec/06_registers_and_events.md implies -/

/-- Memory Space Enable of the command register (R130). -/
def H.pciMemory : Fld := ⟨5207, 1, 0, .ro, fun _ => 0⟩
/-- the address bits that the host has written in a base address register word (R130). -/
def H.pciBar : Fld := ⟨5208, 32, 0, .ro, fun _ => 0⟩
/-- the function is in D3hot (R130). -/
def H.pciHot : Fld := ⟨5209, 1, 0, .ro, fun _ => 0⟩
/-- AER uncorrectable error status (R131). -/
def H.pciAer : Fld := ⟨5210, 32, 0, .ro, fun _ => 0⟩
/-- AER uncorrectable error mask (R131). -/
def H.pciAerMask : Fld := ⟨5211, 32, 0, .ro, fun _ => 0⟩

/-! ### 07: state that spec/07_reed_lanes.md implies -/

/-- the state that the receive lane left at its last change, the first one of its CORE cycle (R167). -/
def H.reedFrom : Fld := ⟨5212, 3, 0, .ro, fun _ => 0⟩
/-- the CORE cycle since which it had been in that state (R167). -/
def H.reedPrev : Fld := ⟨5213, 64, 0, .ro, fun _ => 0⟩
/-- the CORE cycle from which the 50 ms in ALIGNING count (R168). -/
def H.reedAlign : Fld := ⟨5214, 64, 0, .ro, fun _ => 0⟩
/-- one more than the start of the last accepted superframe, in characters, 0 for none since alignment (R165). -/
def H.reedStart : Fld := ⟨5215, 64, 0, .ro, fun _ => 0⟩
/-- one more than the time, in characters, up to which the receiver has followed the running disparity (R153). -/
def H.reedNext : Fld := ⟨5216, 64, 0, .ro, fun _ => 0⟩
/-- the running disparity there: 1 positive (R153). -/
def H.reedPlus : Fld := ⟨5217, 1, 0, .ro, fun _ => 0⟩
/-- one more than the CORE cycle in which the bundle was lost (R178). -/
def H.bundleLostAt : Fld := ⟨5218, 64, 0, .ro, fun _ => 0⟩
/-- the running disparity of the transmit lane: 1 positive (R153). -/
def H.txPlus : Fld := ⟨5219, 1, 0, .ro, fun _ => 0⟩
/-- the words that the destination's word rate has made due and no superframe has carried, in units of 1/100,100 word (R175). -/
def H.txCredit : Fld := ⟨5220, 40, 0, .ro, fun _ => 0⟩

/-! ### 08: state that spec/08_ingest_and_mere.md implies -/

/-- a GAP marker has interrupted the line in progress of the slot (R190). -/
def H.ingGap : Fld := ⟨5221, 1, 0, .ro, fun _ => 0⟩

end Sys2Proof.Machine
end

