-- ==== Sys2Proof/Config.lean ====
section
/-! DEFINITION. The values the manual leaves open: constants without a body, so that nothing can be
proved about their value.  Each is named in a row of `notes/assumptions`. -/

namespace Sys2Proof

/-- Sample (or, towards a pin, frame) `i` of a block that a port's converter makes of the samples of the block `now` after those of the block
`before`, at a ratio in 2⁻³² pin frames for each block (R380): the manual bounds the filter and does not give its coefficients (log entry
344). -/
opaque Config.resampled (ratio : Nat) (before now : List Int) (i : Nat) : Int

/-- A value the manual leaves open, the `n`-th one that a run draws (`Dev.free` counts them). -/
opaque Config.freeNat : Nat → Nat

/-- The maker code and the serial number that the PN1536 puts into IDENT (R161 gives no numbers). -/
opaque Config.identMaker : Nat
opaque Config.identSerial : Nat

/-- Where LDG_DIR puts instance 0 of a ledger class, and how far its instances lie apart (R514 gives no numbers). -/
opaque Config.ledgerBase : Nat → Nat
opaque Config.ledgerStride : Nat → Nat

/-- The die identifier in eFuse (R491). -/
opaque Config.dieId : Nat

/-- The keys in the key store: those of P1–P3 (1–3), the boot keys of M0 and M1 (4, 5) and the Causeway key (6). -/
opaque Config.keyStore : Nat → List Byte

/-- The bytes of the boot ROM, and those of the SPI flash as the matrix reads them (R77 gives neither). -/
opaque Config.romByte : Nat → Byte
opaque Config.flashByte : Nat → Byte

/-- A magnitude in dBFS as a signed Q8.8 number, whose rounding R419 and R422 leave open. -/
opaque Config.dbfs : Nat → Nat

/-- A sample attenuated by 6 dB, whose factor and rounding R51 leaves open. -/
opaque Config.down6dB : Int → Int

/-- The word of a generator's 100 % bars (1), 75 % bars (2) or luma ramp (3), by FORMAT, RATE and place in the line (XPT_GEN_CFG names the
patterns and gives no words). -/
opaque Config.patternWord (pattern fmt rate index : Nat) : Nat

/-- The granule of the shared pool that holds a part of a slot's frame, by slot, frame buffer and page (R202, R203 leave its place
open). -/
opaque Config.granule (slot buffer page : Nat) : Nat

/-- The words of 4:4:4 12-bit pgroups, and the pgroups of such words, by ST 425-1 and ST 2110-20 (the spec names both and gives neither
mapping). -/
opaque Config.words444 (pgroups : List Byte) : List Nat
opaque Config.bytes444 (words : List Nat) : List Byte

/-- What a multiviewer head draws where R253–R266 give no numbers, as colours in MV_SCREED's layout: a tile's scaled and converted proxy
(preset, proxy bytes, its width and height, the tile's width and height, the point); a label (0) or timecode (1); a meter (KIND, value, stale,
which); an alarm's word; and the red of the alarm frame and the yellow of hatch. -/
opaque Config.scaled (preset : Nat) (picture : List Byte) (pw ph w h x y : Nat) : Nat
opaque Config.drawnText (chars : List Byte) (kind w h x y : Nat) : Option Nat
opaque Config.drawnMeter (kind value : Nat) (stale : Bool) (index w h x y : Nat) : Option Nat
opaque Config.drawnAlarm (alarm w h x y : Nat) : Option Nat
opaque Config.alarmRed : Nat
opaque Config.yellow75 : Nat

/-- The active words that a preset makes of a line's (R265 names standards and gives no numbers). -/
opaque Config.presetLine (preset : Nat) (words : List Nat) : List Nat

/-- Stages 1 and 5 of a converter on a line (R268 names the matrices and gives neither their scale nor what chroma odd picture elements take). -/
opaque Config.lineToRgb (bt2020 full : Bool) (words : List Nat) : List (Nat × Nat × Nat)
opaque Config.rgbToLine (bt2020 full : Bool) (elements : List (Nat × Nat × Nat)) : List Nat

/-- A quarter and a 4,096th rounded, and what follows the last entry of a LUT, which R268 leaves open. -/
opaque Config.quarter : Int → Int
opaque Config.by4096 : Int → Int
opaque Config.lutBeyond : Nat → Nat

end Sys2Proof
end

