-- ==== Sys2Proof/Machine/Fields.lean ====
section
/-! DEFINITION. The register fields and counts of the manual's register tables, by their names there:
`F.REGISTER_FIELD` a field, `C.REGISTER` a count.  Each names its width, its lowest bit, its access type
(R2) and its value at reset.  The numbers are the model's own. -/

namespace Sys2Proof.Machine

/-- The default weights of the bus masters (R76). -/
def busWeight (m : Nat) : Nat := [8, 4, 4, 2, 8, 2, 2, 1].getD m 1

/-- The reset values of REF_IN_CFG by input (spec/14). -/
def refEn (i : Nat) : Nat := [0, 0, 0, 0, 1, 0, 0].getD i 0
def refRank (i : Nat) : Nat := [1, 2, 3, 4, 0, 6, 7].getD i 0
def refAlign (i : Nat) : Nat := [0, 0, 0, 0, 1, 0, 1].getD i 0
def refBw (i : Nat) : Nat := [1, 1, 1, 1, 2, 1, 3].getD i 0
def refSoak (i : Nat) : Nat := [10, 10, 10, 10, 0, 10, 10].getD i 0

/-- Palette entries 1 and 2 reset to red and green and the others to black (spec/10); their code values
are PRESUMED to be those of ITU-R BT.709 at 10 bits, narrow range (log entry 8). -/
def paletteY (i : Nat) : Nat := if i % 16 = 1 then 250 else if i % 16 = 2 then 691 else 64
def paletteCb (i : Nat) : Nat := if i % 16 = 1 then 409 else if i % 16 = 2 then 167 else 512
def paletteCr (i : Nat) : Nat := if i % 16 = 1 then 960 else if i % 16 = 2 then 105 else 512

/-! ### 03: the registers of spec/03_startup.md -/

-- TOP_ID (R7)
def F.TOP_ID_VENDOR : Fld := ⟨1, 12, 20, .ro, fun _ => 1253⟩
def F.TOP_ID_PART : Fld := ⟨2, 16, 4, .ro, fun _ => 5430⟩
def F.TOP_ID_STEPPING : Fld := ⟨3, 4, 0, .ro, fun _ => 1⟩
-- TOP_REV (R7)
def F.TOP_REV_ROM_VER : Fld := ⟨4, 8, 8, .ro, fun _ => 3⟩
def F.TOP_REV_MAJOR : Fld := ⟨5, 4, 4, .ro, fun _ => 2⟩
def F.TOP_REV_STEPPING : Fld := ⟨6, 4, 0, .ro, fun _ => 1⟩
-- TOP_STATUS (R71)
def F.TOP_STATUS_KEYS_VALID : Fld := ⟨7, 1, 4, .ro, fun _ => 0⟩
def F.TOP_STATUS_WINDOWS_OPEN : Fld := ⟨8, 1, 3, .ro, fun _ => 0⟩
def F.TOP_STATUS_LATH_RUN : Fld := ⟨9, 1, 2, .ro, fun _ => 0⟩
def F.TOP_STATUS_BOOT_FAIL : Fld := ⟨10, 1, 1, .ro, fun _ => 0⟩
def F.TOP_STATUS_READY : Fld := ⟨11, 1, 0, .ro, fun _ => 0⟩
-- TOP_RESET (R72)
def F.TOP_RESET_GUARD : Fld := ⟨12, 8, 24, .wo, fun _ => 0⟩
def F.TOP_RESET_KIND : Fld := ⟨13, 2, 0, .wo, fun _ => 0⟩
-- TOP_RESET_CAUSE (R72)
def F.TOP_RESET_CAUSE_DOMAIN : Fld := ⟨14, 8, 16, .ro, fun _ => 0⟩
def F.TOP_RESET_CAUSE_LATH_RESTARTS : Fld := ⟨15, 8, 8, .ro, fun _ => 0⟩
def F.TOP_RESET_CAUSE_CAUSE : Fld := ⟨16, 4, 0, .ro, fun _ => 0⟩

/-! ### 21: the registers of spec/21_package_power_electrical.md -/

-- TOP_VMON (R528)
def F.TOP_VMON_RAILS : Fld := ⟨17, 8, 0, .ro, fun _ => 0⟩
-- TOP_THERM (R531)
def F.TOP_THERM_HBM_B : Fld := ⟨18, 16, 16, .ro, fun _ => 0⟩
def F.TOP_THERM_HBM_A : Fld := ⟨19, 16, 0, .ro, fun _ => 0⟩

/-! ### 03: the registers of spec/03_startup.md -/

-- BOOT_STATUS (R61)
def F.BOOT_STATUS_FAIL_CODE : Fld := ⟨20, 8, 24, .ro, fun _ => 0⟩
def F.BOOT_STATUS_STEP : Fld := ⟨21, 4, 16, .ro, fun _ => 0⟩
def F.BOOT_STATUS_IMAGE_SRC : Fld := ⟨22, 2, 6, .ro, fun _ => 0⟩
def F.BOOT_STATUS_FALLBACK : Fld := ⟨23, 1, 5, .ro, fun _ => 0⟩
-- BOOT_FAIL_DETAIL (R61)
def F.BOOT_FAIL_DETAIL_DETAIL : Fld := ⟨24, 32, 0, .ro, fun _ => 0⟩
-- BOOT_TIME (R71)
def F.BOOT_TIME_MS : Fld := ⟨25, 32, 0, .ro, fun _ => 0⟩
-- BOOT_IMAGE_SVN (R66)
def F.BOOT_IMAGE_SVN_MIN_SVN : Fld := ⟨26, 16, 16, .ro, fun _ => 0⟩
def F.BOOT_IMAGE_SVN_SVN : Fld := ⟨27, 16, 0, .ro, fun _ => 0⟩
-- BOOT_PUSH (R68)
def F.BOOT_PUSH_GO : Fld := ⟨28, 1, 31, .wo, fun _ => 0⟩
def F.BOOT_PUSH_LAST : Fld := ⟨29, 1, 30, .rw, fun _ => 0⟩
def F.BOOT_PUSH_LENGTH : Fld := ⟨30, 19, 0, .rw, fun _ => 0⟩
-- BOOT_PUSH_OFFSET (R68)
def F.BOOT_PUSH_OFFSET_OFFSET : Fld := ⟨31, 32, 0, .rw, fun _ => 0⟩
-- BOOT_PUSH_STATUS (R68)
def F.BOOT_PUSH_STATUS_STATE : Fld := ⟨32, 2, 0, .ro, fun _ => 0⟩

/-! ### 04: the registers of spec/04_bus_matrix.md -/

-- BUS_CTRL (R85)
def F.BUS_CTRL_REMAP : Fld := ⟨33, 1, 0, .w1s, fun _ => 0⟩
-- BUS_TIMEOUT (R84)
def F.BUS_TIMEOUT_CYCLES : Fld := ⟨34, 16, 0, .rw, fun _ => 4096⟩
-- BUS_ARB (R82)
def F.BUS_ARB_STARVE : Fld := ⟨35, 16, 0, .rw, fun _ => 256⟩
-- BUS_HUNG (R84)
def F.BUS_HUNG_TARGETS : Fld := ⟨36, 16, 0, .ro, fun _ => 0⟩
-- BUS_SUMP_ADDR_LO (R80)
def F.BUS_SUMP_ADDR_LO_ADDR : Fld := ⟨37, 32, 0, .ro, fun _ => 0⟩
-- BUS_SUMP_ADDR_HI (R80)
def F.BUS_SUMP_ADDR_HI_ADDR : Fld := ⟨38, 8, 0, .ro, fun _ => 0⟩
-- BUS_SUMP_INFO (R80)
def F.BUS_SUMP_INFO_VALID : Fld := ⟨39, 1, 31, .w1c, fun _ => 0⟩
def F.BUS_SUMP_INFO_OVERFLOW : Fld := ⟨40, 15, 16, .ro, fun _ => 0⟩
def F.BUS_SUMP_INFO_WRITE : Fld := ⟨41, 1, 8, .ro, fun _ => 0⟩
def F.BUS_SUMP_INFO_BEATS : Fld := ⟨42, 5, 3, .ro, fun _ => 0⟩
def F.BUS_SUMP_INFO_MASTER : Fld := ⟨43, 3, 0, .ro, fun _ => 0⟩
-- BUS_WEIGHT (R76)
def F.BUS_WEIGHT_WEIGHT : Fld := ⟨44, 4, 0, .rw, busWeight⟩
-- BUS_ON_BEHALF (R86)
def C.BUS_ON_BEHALF : Ctr := ⟨1⟩

/-! ### 06: the registers of spec/06_registers_and_events.md -/

-- PCI_LINK_STATUS (R143)
def F.PCI_LINK_STATUS_BME : Fld := ⟨45, 1, 8, .ro, fun _ => 0⟩
def F.PCI_LINK_STATUS_WIDTH : Fld := ⟨46, 4, 4, .ro, fun _ => 0⟩
def F.PCI_LINK_STATUS_SPEED : Fld := ⟨47, 3, 1, .ro, fun _ => 0⟩
def F.PCI_LINK_STATUS_UP : Fld := ⟨48, 1, 0, .ro, fun _ => 0⟩
-- PCI_OB_BASE_LO (R133)
def F.PCI_OB_BASE_LO_BASE : Fld := ⟨49, 20, 12, .rw, fun _ => 0⟩
-- PCI_OB_BASE_HI (R133)
def F.PCI_OB_BASE_HI_BASE : Fld := ⟨50, 32, 0, .rw, fun _ => 0⟩
-- PCI_OB_CTRL (R133)
def F.PCI_OB_CTRL_EN : Fld := ⟨51, 1, 0, .rw, fun _ => 0⟩
-- EVT_STATUS (R138)
def F.EVT_STATUS_RAISED : Fld := ⟨52, 32, 0, .w1c, fun _ => 0⟩
-- EVT_INT_EN (R140)
def F.EVT_INT_EN_EN : Fld := ⟨53, 32, 0, .rw, fun _ => 0⟩
-- EVT_ROUTE (R141)
def F.EVT_ROUTE_COALESCE_US : Fld := ⟨54, 16, 16, .rw, fun _ => 1000⟩
def F.EVT_ROUTE_INTN_EN : Fld := ⟨55, 1, 9, .rw, fun _ => 0⟩
def F.EVT_ROUTE_MSIX_EN : Fld := ⟨56, 1, 8, .rw, fun _ => 1⟩
def F.EVT_ROUTE_VECTOR : Fld := ⟨57, 6, 0, .rw, fun i => i⟩
-- EVT_GROUP_PENDING (R140)
def F.EVT_GROUP_PENDING_PENDING : Fld := ⟨58, 32, 0, .view, fun _ => 0⟩
-- EVT_CTRL (R150)
def F.EVT_CTRL_HOST_READER : Fld := ⟨59, 1, 0, .rw, fun _ => 0⟩
-- EVT_LOG_WR (R144)
def F.EVT_LOG_WR_WR : Fld := ⟨60, 32, 0, .view, fun _ => 0⟩
-- EVT_LOG_RD_HOST (R150)
def F.EVT_LOG_RD_HOST_RD : Fld := ⟨61, 32, 0, .rw, fun _ => 0⟩
-- EVT_LOG_RD_LATH (R148)
def F.EVT_LOG_RD_LATH_RD : Fld := ⟨62, 32, 0, .view, fun _ => 0⟩
-- EVT_LOG_STATUS (R148)
def F.EVT_LOG_STATUS_FULL : Fld := ⟨63, 1, 31, .view, fun _ => 0⟩
def F.EVT_LOG_STATUS_HELD_SOURCES : Fld := ⟨64, 11, 0, .view, fun _ => 0⟩
-- EVT_LOG (R144)
def F.EVT_LOG_WORD : Fld := ⟨65, 32, 0, .view, fun _ => 0⟩

/-! ### 05: the registers of spec/05_igkix_commands.md -/

-- CMD_PORT_CTRL (R115)
def F.CMD_PORT_CTRL_LEASE_ALLOW : Fld := ⟨66, 1, 1, .rw, fun i => if i = 3 then 0 else 1⟩
def F.CMD_PORT_CTRL_ENABLE : Fld := ⟨67, 1, 0, .rw, fun i => if i = 0 ∨ i = 4 then 1 else 0⟩
-- CMD_PORT_STATUS (R103)
def F.CMD_PORT_STATUS_PENDING : Fld := ⟨68, 16, 16, .view, fun _ => 0⟩
def F.CMD_PORT_STATUS_NOTIFY_DROPPED : Fld := ⟨69, 8, 8, .view, fun _ => 0⟩
def F.CMD_PORT_STATUS_SENDERS : Fld := ⟨70, 5, 3, .view, fun _ => 0⟩
def F.CMD_PORT_STATUS_KEY_EXHAUSTED : Fld := ⟨71, 1, 2, .view, fun _ => 0⟩
def F.CMD_PORT_STATUS_KEY_VALID : Fld := ⟨72, 1, 1, .view, fun _ => 0⟩
def F.CMD_PORT_STATUS_UP : Fld := ⟨73, 1, 0, .view, fun _ => 0⟩
-- CMD_RECEIVED (R128)
def C.CMD_RECEIVED : Ctr := ⟨2⟩
-- CMD_MALFORMED (R128)
def C.CMD_MALFORMED : Ctr := ⟨3⟩
-- CMD_AUTH_FAILED (R128)
def C.CMD_AUTH_FAILED : Ctr := ⟨4⟩
-- CMD_REPLAYED (R128)
def C.CMD_REPLAYED : Ctr := ⟨5⟩
-- CMD_OVERFLOWED (R128)
def C.CMD_OVERFLOWED : Ctr := ⟨6⟩
-- CMD_UDP_PORT (R89)
def F.CMD_UDP_PORT_PORT : Fld := ⟨74, 16, 0, .rw, fun _ => 19040⟩
-- CMD_UART_CFG (R91)
def F.CMD_UART_CFG_BAUD : Fld := ⟨75, 2, 0, .rw, fun _ => 0⟩
-- CMD_LEASE_CFG (R119)
def F.CMD_LEASE_CFG_TIMEOUT : Fld := ⟨76, 16, 0, .rw, fun _ => 100⟩
-- CMD_LEASE_HOLDER (R115)
def F.CMD_LEASE_HOLDER_HOLDER : Fld := ⟨77, 3, 0, .ro, fun _ => 7⟩
-- CMD_UNLEASED_WR (R117)
def C.CMD_UNLEASED_WR : Ctr := ⟨7⟩

/-! ### 02: the registers of spec/02_clocks_and_tick.md -/

-- CLK_STATUS (R32)
def F.CLK_STATUS_LOCK : Fld := ⟨78, 18, 0, .ro, fun _ => 0⟩
-- TICK_CFG (R52)
def F.TICK_CFG_BLOCK_RATE : Fld := ⟨79, 1, 4, .rw, fun _ => 0⟩
def F.TICK_CFG_HOUSE_RATE : Fld := ⟨80, 4, 0, .rw, fun _ => 7⟩
-- TICK_CTRL (R53)
def F.TICK_CTRL_STOP : Fld := ⟨81, 1, 1, .wo, fun _ => 0⟩
def F.TICK_CTRL_START : Fld := ⟨82, 1, 0, .wo, fun _ => 0⟩
-- TICK_STATUS (R39)
def F.TICK_STATUS_T3_OPEN : Fld := ⟨83, 1, 5, .ro, fun _ => 0⟩
def F.TICK_STATUS_T2_OPEN : Fld := ⟨84, 1, 4, .ro, fun _ => 0⟩
def F.TICK_STATUS_T1_OPEN : Fld := ⟨85, 1, 3, .ro, fun _ => 0⟩
def F.TICK_STATUS_TIME_VALID : Fld := ⟨86, 1, 1, .ro, fun _ => 0⟩
def F.TICK_STATUS_RUN : Fld := ⟨87, 1, 0, .ro, fun _ => 0⟩
-- TICK_FRAME_LO (R33)
def F.TICK_FRAME_LO_FRAME : Fld := ⟨88, 32, 0, .view, fun _ => 0⟩
-- TICK_FRAME_HI (R33)
def F.TICK_FRAME_HI_FRAME : Fld := ⟨89, 16, 0, .view, fun _ => 0⟩
-- TICK_EPOCH (R39)
def F.TICK_EPOCH_EPOCH : Fld := ⟨90, 32, 0, .ro, fun _ => 0⟩
-- TICK_CUTOFF (R40)
def F.TICK_CUTOFF_CYCLES : Fld := ⟨91, 32, 0, .ro, fun _ => 0⟩
-- TICK_COMMIT_FRAME_LO (R45)
def F.TICK_COMMIT_FRAME_LO_TARGET : Fld := ⟨92, 32, 0, .rw, fun _ => 0⟩
-- TICK_COMMIT_FRAME_HI (R45)
def F.TICK_COMMIT_FRAME_HI_TARGET : Fld := ⟨93, 16, 0, .rw, fun _ => 0⟩
-- TICK_COMMIT (R43)
def F.TICK_COMMIT_GO : Fld := ⟨94, 1, 31, .wo, fun _ => 0⟩
def F.TICK_COMMIT_GROUPS : Fld := ⟨95, 12, 0, .rw, fun _ => 0⟩
-- TICK_COMMIT_STATUS (R43)
def F.TICK_COMMIT_STATUS_APPLIED_EPOCH : Fld := ⟨96, 16, 16, .ro, fun _ => 0⟩
def F.TICK_COMMIT_STATUS_STATE : Fld := ⟨97, 3, 8, .ro, fun _ => 0⟩
def F.TICK_COMMIT_STATUS_PENDING : Fld := ⟨98, 5, 0, .view, fun _ => 0⟩
-- TICK_BLOCK_LO (R34)
def F.TICK_BLOCK_LO_BLOCK : Fld := ⟨99, 32, 0, .view, fun _ => 0⟩
-- TICK_BLOCK_HI (R34)
def F.TICK_BLOCK_HI_BLOCK : Fld := ⟨100, 16, 0, .view, fun _ => 0⟩
-- TICK_BLK_OVERRUN (R51)
def C.TICK_BLK_OVERRUN : Ctr := ⟨8⟩
-- TICK_TIME_PRESET_LO (R36)
def F.TICK_TIME_PRESET_LO_NS : Fld := ⟨101, 32, 0, .rw, fun _ => 0⟩
-- TICK_TIME_PRESET_MID (R36)
def F.TICK_TIME_PRESET_MID_NS : Fld := ⟨102, 32, 0, .rw, fun _ => 0⟩

/-! ### 14: the registers of spec/14_reference_and_holdover.md -/

-- REF_CTRL (R360)
def F.REF_CTRL_FORCE_EN : Fld := ⟨103, 1, 11, .rw, fun _ => 0⟩
def F.REF_CTRL_FORCE_IN : Fld := ⟨104, 3, 8, .rw, fun _ => 0⟩
def F.REF_CTRL_REVERTIVE : Fld := ⟨105, 1, 0, .sh, fun _ => 1⟩
-- REF_STATUS (R356)
def F.REF_STATUS_QUALIFIED : Fld := ⟨106, 7, 16, .view, fun _ => 0⟩
def F.REF_STATUS_PEAT_FRESH : Fld := ⟨107, 1, 14, .view, fun _ => 0⟩
def F.REF_STATUS_HOLD_SRC : Fld := ⟨108, 2, 12, .ro, fun _ => 0⟩
def F.REF_STATUS_FORCED : Fld := ⟨109, 1, 11, .ro, fun _ => 0⟩
def F.REF_STATUS_STANDBY : Fld := ⟨110, 3, 8, .ro, fun _ => 7⟩
def F.REF_STATUS_SELECTED : Fld := ⟨111, 3, 4, .ro, fun _ => 7⟩
def F.REF_STATUS_SWITCHING : Fld := ⟨112, 1, 3, .ro, fun _ => 0⟩
def F.REF_STATUS_LOOP : Fld := ⟨113, 3, 0, .ro, fun _ => 0⟩
-- REF_LIMITS (R355)
def F.REF_LIMITS_REJECT_PPB : Fld := ⟨114, 16, 16, .sh, fun _ => 5000⟩
def F.REF_LIMITS_ACCEPT_PPB : Fld := ⟨115, 16, 0, .sh, fun _ => 2000⟩
-- REF_AGREE (R357)
def F.REF_AGREE_AGREE_PPB : Fld := ⟨116, 16, 0, .sh, fun _ => 500⟩
-- REF_LOCK_CFG (R362)
def F.REF_LOCK_CFG_LOCK_S : Fld := ⟨117, 8, 16, .rw, fun _ => 4⟩
def F.REF_LOCK_CFG_LOCK_NS : Fld := ⟨118, 16, 0, .rw, fun _ => 50⟩
-- REF_SLEW (R364)
def F.REF_SLEW_NS_PER_S : Fld := ⟨119, 16, 0, .rw, fun _ => 500⟩
-- REF_HOLDOVER_SPEC (R367)
def F.REF_HOLDOVER_SPEC_SECONDS : Fld := ⟨120, 24, 0, .rw, fun _ => 3600⟩
-- REF_HOLDOVER_TIME (R367)
def F.REF_HOLDOVER_TIME_SECONDS : Fld := ⟨121, 32, 0, .ro, fun _ => 0⟩
-- REF_CTRL_VALUE (R361)
def F.REF_CTRL_VALUE_VALUE : Fld := ⟨122, 32, 0, .ro, fun _ => 0⟩
-- REF_AVG_1S (R366)
def F.REF_AVG_1S_VALUE : Fld := ⟨123, 32, 0, .ro, fun _ => 0⟩
-- REF_PEAT (R366)
def F.REF_PEAT_VALUE : Fld := ⟨124, 32, 0, .rw, fun _ => 0⟩
-- REF_PEAT_CTRL (R366)
def F.REF_PEAT_CTRL_PEAT_VALID : Fld := ⟨125, 1, 31, .rw, fun _ => 0⟩
def F.REF_PEAT_CTRL_AVG_VALID : Fld := ⟨126, 1, 30, .ro, fun _ => 0⟩
def F.REF_PEAT_CTRL_PEAT_AGE_MS : Fld := ⟨127, 16, 0, .ro, fun _ => 65535⟩
-- REF_PHASE_ADJ_LO (R368)
def F.REF_PHASE_ADJ_LO_FRAC : Fld := ⟨128, 16, 16, .rw, fun _ => 0⟩
-- REF_PHASE_ADJ_MID (R368)
def F.REF_PHASE_ADJ_MID_NS : Fld := ⟨129, 32, 0, .rw, fun _ => 0⟩
-- REF_PHASE_ADJ_HI (R368)
def F.REF_PHASE_ADJ_HI_NS : Fld := ⟨130, 32, 0, .rw, fun _ => 0⟩
-- REF_PHASE_CTRL (R368)
def F.REF_PHASE_CTRL_STEP : Fld := ⟨131, 1, 1, .rw, fun _ => 0⟩
def F.REF_PHASE_CTRL_GO : Fld := ⟨132, 1, 0, .wo, fun _ => 0⟩
-- REF_PHASE_REMAIN_LO (R368)
def F.REF_PHASE_REMAIN_LO_FRAC : Fld := ⟨133, 16, 16, .ro, fun _ => 0⟩
-- REF_PHASE_REMAIN_MID (R368)
def F.REF_PHASE_REMAIN_MID_NS : Fld := ⟨134, 32, 0, .ro, fun _ => 0⟩
-- REF_PHASE_REMAIN_HI (R368)
def F.REF_PHASE_REMAIN_HI_NS : Fld := ⟨135, 32, 0, .ro, fun _ => 0⟩
-- REF_SLOT_SEL (R348)
def F.REF_SLOT_SEL_SLOT : Fld := ⟨136, 11, 0, .sh, fun _ => 0⟩
-- XO_CFG (R373)
def F.XO_CFG_TRIM : Fld := ⟨137, 16, 16, .rw, fun _ => 32768⟩
-- XO_STATUS (R372)
def F.XO_STATUS_SRC : Fld := ⟨138, 1, 4, .ro, fun _ => 0⟩
def F.XO_STATUS_FREQ : Fld := ⟨139, 2, 0, .ro, fun _ => 0⟩
-- REF_IN_CFG (R354)
def F.REF_IN_CFG_EN : Fld := ⟨140, 1, 31, .sh, refEn⟩
def F.REF_IN_CFG_RANK : Fld := ⟨141, 3, 28, .sh, refRank⟩
def F.REF_IN_CFG_TYPE : Fld := ⟨142, 3, 24, .sh, fun _ => 0⟩
def F.REF_IN_CFG_LVDS : Fld := ⟨143, 1, 23, .sh, fun _ => 0⟩
def F.REF_IN_CFG_FALLING : Fld := ⟨144, 1, 22, .sh, fun _ => 0⟩
def F.REF_IN_CFG_ALIGN : Fld := ⟨145, 1, 21, .sh, refAlign⟩
def F.REF_IN_CFG_BW : Fld := ⟨146, 2, 16, .sh, refBw⟩
def F.REF_IN_CFG_SOAK_S : Fld := ⟨147, 16, 0, .sh, refSoak⟩
-- REF_IN_SYNC (R350)
def F.REF_IN_SYNC_RATE : Fld := ⟨148, 4, 16, .sh, fun _ => 7⟩
def F.REF_IN_SYNC_LINES : Fld := ⟨149, 12, 0, .sh, fun _ => 1125⟩
-- REF_IN_DELAY (R364)
def F.REF_IN_DELAY_NS : Fld := ⟨150, 32, 0, .sh, fun _ => 0⟩
-- REF_IN_STATUS (R354)
def F.REF_IN_STATUS_SOAK_LEFT : Fld := ⟨151, 16, 16, .ro, fun _ => 0⟩
def F.REF_IN_STATUS_FAIL_CAUSE : Fld := ⟨152, 4, 4, .ro, fun _ => 1⟩
def F.REF_IN_STATUS_PHASE : Fld := ⟨153, 1, 3, .ro, fun _ => 0⟩
def F.REF_IN_STATUS_ACTIVE : Fld := ⟨154, 1, 2, .ro, fun _ => 0⟩
def F.REF_IN_STATUS_STATE : Fld := ⟨155, 2, 0, .ro, fun _ => 0⟩
-- REF_IN_FREQ (R353)
def F.REF_IN_FREQ_VALUE : Fld := ⟨156, 32, 0, .ro, fun _ => 0⟩
-- REF_IN_PHASE (R363)
def F.REF_IN_PHASE_VALUE : Fld := ⟨157, 32, 0, .ro, fun _ => 0⟩
-- REF_IN_LOSSES (R354)
def C.REF_IN_LOSSES : Ctr := ⟨9⟩

/-! ### 13: the registers of spec/13_ptp.md -/

-- PTP_CFG (R323)
def F.PTP_CFG_DOMAIN : Fld := ⟨158, 8, 0, .rw, fun _ => 127⟩
-- PTP_STATUS (R341)
def F.PTP_STATUS_GM_VALID : Fld := ⟨159, 1, 6, .ro, fun _ => 0⟩
def F.PTP_STATUS_IF_SEL : Fld := ⟨160, 2, 4, .ro, fun _ => 0⟩
def F.PTP_STATUS_SET : Fld := ⟨161, 1, 3, .ro, fun _ => 0⟩
def F.PTP_STATUS_SERVO : Fld := ⟨162, 3, 0, .ro, fun _ => 0⟩
-- PTP_STEP_LIMIT (R337)
def F.PTP_STEP_LIMIT_NS : Fld := ⟨163, 32, 0, .rw, fun _ => 1000⟩
-- PTP_STEP_CTRL (R339)
def F.PTP_STEP_CTRL_ACCEPT : Fld := ⟨164, 1, 0, .wo, fun _ => 0⟩
-- PTP_STEP_PEND_LO (R337)
def F.PTP_STEP_PEND_LO_FRAC : Fld := ⟨165, 16, 16, .ro, fun _ => 0⟩
-- PTP_STEP_PEND_MID (R337)
def F.PTP_STEP_PEND_MID_NS : Fld := ⟨166, 32, 0, .ro, fun _ => 0⟩
-- PTP_STEP_PEND_HI (R337)
def F.PTP_STEP_PEND_HI_NS : Fld := ⟨167, 32, 0, .ro, fun _ => 0⟩
-- PTP_PHC_LO (R334)
def F.PTP_PHC_LO_FRAC : Fld := ⟨168, 16, 16, .view, fun _ => 0⟩
def F.PTP_PHC_LO_SEC_HI : Fld := ⟨169, 16, 0, .view, fun _ => 0⟩
-- PTP_PHC_MID (R334)
def F.PTP_PHC_MID_NS : Fld := ⟨170, 32, 0, .view, fun _ => 0⟩
-- PTP_PHC_HI (R334)
def F.PTP_PHC_HI_SEC : Fld := ⟨171, 32, 0, .view, fun _ => 0⟩
-- PTP_PHC_RATE (R334)
def F.PTP_PHC_RATE_RATE : Fld := ⟨172, 32, 0, .rw, fun _ => 0⟩
-- PTP_PHC_ADJ_LO (R335)
def F.PTP_PHC_ADJ_LO_FRAC : Fld := ⟨173, 16, 16, .rw, fun _ => 0⟩
-- PTP_PHC_ADJ_MID (R335)
def F.PTP_PHC_ADJ_MID_NS : Fld := ⟨174, 32, 0, .rw, fun _ => 0⟩
-- PTP_PHC_ADJ_HI (R335)
def F.PTP_PHC_ADJ_HI_NS : Fld := ⟨175, 32, 0, .rw, fun _ => 0⟩
-- PTP_PHC_CTRL (R335)
def F.PTP_PHC_CTRL_ADJ_GO : Fld := ⟨176, 1, 0, .wo, fun _ => 0⟩
-- PTP_GM_ID_LO (R326)
def F.PTP_GM_ID_LO_ID : Fld := ⟨177, 32, 0, .ro, fun _ => 0⟩
-- PTP_GM_ID_HI (R326)
def F.PTP_GM_ID_HI_ID : Fld := ⟨178, 32, 0, .ro, fun _ => 0⟩
-- PTP_IF_CFG (R324)
def F.PTP_IF_CFG_EN : Fld := ⟨179, 1, 31, .rw, fun _ => 0⟩
def F.PTP_IF_CFG_BIND : Fld := ⟨180, 6, 16, .rw, fun _ => 0⟩
def F.PTP_IF_CFG_TRANSPORT : Fld := ⟨181, 1, 15, .rw, fun _ => 0⟩
def F.PTP_IF_CFG_ONE_STEP_TX : Fld := ⟨182, 1, 14, .rw, fun _ => 0⟩
def F.PTP_IF_CFG_RANK : Fld := ⟨183, 4, 8, .rw, fun _ => 0⟩
-- PTP_IF_ASYM (R330)
def F.PTP_IF_ASYM_A : Fld := ⟨184, 32, 0, .rw, fun _ => 0⟩
-- PTP_IF_FIXED (R329)
def F.PTP_IF_FIXED_TX : Fld := ⟨185, 16, 16, .view, fun _ => 0⟩
def F.PTP_IF_FIXED_RX : Fld := ⟨186, 16, 0, .view, fun _ => 0⟩
-- PTP_IF_STATUS (R327)
def F.PTP_IF_STATUS_STATE : Fld := ⟨187, 2, 0, .ro, fun _ => 0⟩
-- PTP_IF_OFFSET_LO (R330)
def F.PTP_IF_OFFSET_LO_OFFSET : Fld := ⟨188, 32, 0, .ro, fun _ => 0⟩
-- PTP_IF_OFFSET_HI (R330)
def F.PTP_IF_OFFSET_HI_OFFSET : Fld := ⟨189, 32, 0, .ro, fun _ => 0⟩
-- PTP_IF_MPD (R330)
def F.PTP_IF_MPD_MPD : Fld := ⟨190, 32, 0, .ro, fun _ => 0⟩
-- PTP_IF_RX_ALL (R346)
def C.PTP_IF_RX_ALL : Ctr := ⟨10⟩
-- PTP_IF_RX_USED (R346)
def C.PTP_IF_RX_USED : Ctr := ⟨11⟩
-- PTP_IF_RX_UNBOUND (R346)
def C.PTP_IF_RX_UNBOUND : Ctr := ⟨12⟩
-- PTP_IF_RX_MALFORMED (R346)
def C.PTP_IF_RX_MALFORMED : Ctr := ⟨13⟩
-- PTP_IF_RX_DOMAIN (R346)
def C.PTP_IF_RX_DOMAIN : Ctr := ⟨14⟩
-- PTP_IF_RX_NOT_PARENT (R346)
def C.PTP_IF_RX_NOT_PARENT : Ctr := ⟨15⟩
-- PTP_IF_RX_FOLLOW_UP (R346)
def C.PTP_IF_RX_FOLLOW_UP : Ctr := ⟨16⟩
-- PTP_TXQ_POP (R344)
def F.PTP_TXQ_POP_VALID : Fld := ⟨191, 1, 31, .view, fun _ => 0⟩
def F.PTP_TXQ_POP_PORT : Fld := ⟨192, 6, 24, .view, fun _ => 0⟩
def F.PTP_TXQ_POP_SEQ_ID : Fld := ⟨193, 16, 8, .view, fun _ => 0⟩
def F.PTP_TXQ_POP_MSG_TYPE : Fld := ⟨194, 4, 4, .view, fun _ => 0⟩
-- PTP_TXQ_NS (R344)
def F.PTP_TXQ_NS_NS : Fld := ⟨195, 32, 0, .ro, fun _ => 0⟩
-- PTP_TXQ_SEC (R344)
def F.PTP_TXQ_SEC_SEC : Fld := ⟨196, 32, 0, .ro, fun _ => 0⟩
-- PTP_TXQ_SECHI (R344)
def F.PTP_TXQ_SECHI_SEC_HI : Fld := ⟨197, 16, 16, .ro, fun _ => 0⟩
def F.PTP_TXQ_SECHI_FRAC : Fld := ⟨198, 16, 0, .ro, fun _ => 0⟩
-- PTP_TXQ_CAPTURED (R346)
def C.PTP_TXQ_CAPTURED : Ctr := ⟨17⟩
-- PTP_TXQ_READ (R346)
def C.PTP_TXQ_READ : Ctr := ⟨18⟩
-- PTP_TXQ_OVERFLOWED (R346)
def C.PTP_TXQ_OVERFLOWED : Ctr := ⟨19⟩
-- PTP_TXQ_PENDING (R346)
def F.PTP_TXQ_PENDING_PENDING : Fld := ⟨199, 7, 0, .view, fun _ => 0⟩

/-! ### 05: the registers of spec/05_igkix_commands.md -/

-- GPIO_CFG (R124)
def F.GPIO_CFG_DEBOUNCE_US : Fld := ⟨200, 16, 8, .rw, fun _ => 2000⟩
def F.GPIO_CFG_OPEN_DRAIN : Fld := ⟨201, 1, 4, .rw, fun _ => 0⟩
def F.GPIO_CFG_ACTIVE_LOW : Fld := ⟨202, 1, 3, .rw, fun _ => 0⟩
def F.GPIO_CFG_FUNC : Fld := ⟨203, 3, 0, .rw, fun _ => 0⟩
-- GPIO_TALLY (R124)
def F.GPIO_TALLY_SRC : Fld := ⟨204, 11, 16, .rw, fun _ => 0⟩
def F.GPIO_TALLY_DEST : Fld := ⟨205, 11, 0, .rw, fun _ => 0⟩
-- GPIO_TIMING (R126)
def F.GPIO_TIMING_STUCK_TIME : Fld := ⟨206, 16, 16, .rw, fun _ => 600⟩
def F.GPIO_TIMING_CHATTER_LIMIT : Fld := ⟨207, 16, 0, .rw, fun _ => 1000⟩
-- GPIO_LEVEL (R124)
def F.GPIO_LEVEL_LEVEL : Fld := ⟨208, 32, 0, .ro, fun _ => 0⟩
-- GPIO_OUT (R124)
def F.GPIO_OUT_OUT : Fld := ⟨209, 32, 0, .rw, fun _ => 0⟩
-- GPIO_CHATTER (R126)
def F.GPIO_CHATTER_CHATTER : Fld := ⟨210, 32, 0, .ro, fun _ => 0⟩
-- GPIO_STUCK (R127)
def F.GPIO_STUCK_STUCK : Fld := ⟨211, 32, 0, .ro, fun _ => 0⟩
-- GPIO_ARM (R124)
def F.GPIO_ARM_ARM : Fld := ⟨212, 32, 0, .w1s, fun _ => 0⟩

/-! ### 20: the registers of spec/20_health_and_ledgers.md -/

-- HLT_STATUS (R505)
def F.HLT_STATUS_WEAR_VALID : Fld := ⟨213, 1, 3, .ro, fun _ => 0⟩
def F.HLT_STATUS_REPLACE : Fld := ⟨214, 1, 2, .view, fun _ => 0⟩
def F.HLT_STATUS_LEVEL : Fld := ⟨215, 2, 0, .view, fun _ => 0⟩
-- HLT_TRIG (R507)
def F.HLT_TRIG_TRIG : Fld := ⟨216, 14, 0, .w1c, fun _ => 0⟩
-- HLT_SPARE_LOW (R507)
def F.HLT_SPARE_LOW_MERE_RETIRED : Fld := ⟨217, 8, 24, .rw, fun _ => 8⟩
def F.HLT_SPARE_LOW_SCALER : Fld := ⟨218, 8, 16, .rw, fun _ => 2⟩
def F.HLT_SPARE_LOW_CNV : Fld := ⟨219, 8, 8, .rw, fun _ => 1⟩
def F.HLT_SPARE_LOW_FEN : Fld := ⟨220, 8, 0, .rw, fun _ => 4⟩
-- HLT_RATE (R507)
def F.HLT_RATE_CE_PER_H : Fld := ⟨221, 16, 16, .rw, fun _ => 1000⟩
def F.HLT_RATE_PLANE_PER_H : Fld := ⟨222, 16, 0, .rw, fun _ => 10⟩
-- HLT_WEAR_CFG (R507)
def F.HLT_WEAR_CFG_SERVICE_PCT : Fld := ⟨223, 8, 0, .rw, fun _ => 90⟩
-- HLT_TJ (R507)
def F.HLT_TJ_TJ_PEAK : Fld := ⟨224, 16, 16, .rc, fun _ => 0⟩
def F.HLT_TJ_TJ : Fld := ⟨225, 16, 0, .ro, fun _ => 0⟩
-- HLT_WEAR_LO (R519)
def F.HLT_WEAR_LO_WEAR : Fld := ⟨226, 32, 0, .ro, fun _ => 0⟩
-- HLT_WEAR_HI (R519)
def F.HLT_WEAR_HI_WEAR : Fld := ⟨227, 32, 0, .ro, fun _ => 0⟩
-- LDG_EPOCH (R514)
def F.LDG_EPOCH_EPOCH : Fld := ⟨228, 32, 0, .ro, fun _ => 0⟩
-- LDG_STATUS (R513)
def F.LDG_STATUS_TABLE_FULL : Fld := ⟨229, 1, 31, .ro, fun _ => 0⟩
def F.LDG_STATUS_FAULTED : Fld := ⟨230, 7, 16, .view, fun _ => 0⟩
def F.LDG_STATUS_UNCHECKED : Fld := ⟨231, 16, 0, .ro, fun _ => 0⟩
-- LDG_CHECKED_LO (R513)
def F.LDG_CHECKED_LO_FRAME : Fld := ⟨232, 32, 0, .ro, fun _ => 0⟩
-- LDG_CHECKED_HI (R513)
def F.LDG_CHECKED_HI_FRAME : Fld := ⟨233, 32, 0, .ro, fun _ => 0⟩
-- LDG_FAULT_ID (R513)
def F.LDG_FAULT_ID_ID : Fld := ⟨234, 32, 0, .view, fun _ => 0⟩
-- LDG_FAULT_IMB_LO (R513)
def F.LDG_FAULT_IMB_LO_IMB : Fld := ⟨235, 32, 0, .view, fun _ => 0⟩
-- LDG_FAULT_IMB_HI (R513)
def F.LDG_FAULT_IMB_HI_IMB : Fld := ⟨236, 32, 0, .view, fun _ => 0⟩
-- LDG_FAULT_FRAME (R513)
def F.LDG_FAULT_FRAME_FRAME : Fld := ⟨237, 32, 0, .view, fun _ => 0⟩
-- LDG_DIR_BASE (R514)
def F.LDG_DIR_BASE_BASE : Fld := ⟨238, 32, 0, .view, fun _ => 0⟩
-- LDG_DIR_STRIDE (R514)
def F.LDG_DIR_STRIDE_STRIDE : Fld := ⟨239, 32, 0, .view, fun _ => 0⟩

/-! ### 19: the registers of spec/19_self_test_and_repair.md -/

-- BIST_POST (R487)
def F.BIST_POST_PATTERNS : Fld := ⟨240, 16, 16, .ro, fun _ => 0⟩
def F.BIST_POST_RETIRED : Fld := ⟨241, 8, 8, .ro, fun _ => 0⟩
def F.BIST_POST_RESULT : Fld := ⟨242, 2, 0, .ro, fun _ => 0⟩
-- BIST_ROLL_CFG (R495)
def F.BIST_ROLL_CFG_EN : Fld := ⟨243, 1, 31, .rw, fun _ => 1⟩
def F.BIST_ROLL_CFG_PERIOD_H : Fld := ⟨244, 16, 0, .rw, fun _ => 24⟩
-- BIST_SLICES_STARTED (R500)
def C.BIST_SLICES_STARTED : Ctr := ⟨20⟩
-- BIST_SLICES_PASS (R500)
def C.BIST_SLICES_PASS : Ctr := ⟨21⟩
-- BIST_SLICES_FAIL (R500)
def C.BIST_SLICES_FAIL : Ctr := ⟨22⟩
-- BIST_SLICES_INCOMPLETE (R500)
def C.BIST_SLICES_INCOMPLETE : Ctr := ⟨23⟩
-- BIST_POOL (R495)
def F.BIST_POOL_UNIT : Fld := ⟨245, 9, 16, .ro, fun _ => 511⟩
def F.BIST_POOL_SLICE : Fld := ⟨246, 8, 8, .ro, fun _ => 0⟩
def F.BIST_POOL_STATE : Fld := ⟨247, 2, 0, .ro, fun _ => 0⟩
-- BIST_TAP_STATUS (R503)
def F.BIST_TAP_STATUS_DEBUG_LOCK : Fld := ⟨248, 1, 1, .view, fun _ => 0⟩
def F.BIST_TAP_STATUS_TEST_LATCH : Fld := ⟨249, 1, 0, .view, fun _ => 0⟩
-- RPR_STATUS (R491)
def F.RPR_STATUS_EFUSE_FREE : Fld := ⟨250, 10, 12, .ro, fun _ => 1024⟩
def F.RPR_STATUS_SOFT_UNBURNED : Fld := ⟨251, 12, 0, .ro, fun _ => 0⟩
-- RPR_HBM (R491)
def F.RPR_HBM_HARD_FREE : Fld := ⟨252, 8, 16, .ro, fun _ => 128⟩
def F.RPR_HBM_SOFT : Fld := ⟨253, 12, 0, .ro, fun _ => 0⟩
-- RPR_DIE_ID_LO (R491)
def F.RPR_DIE_ID_LO_ID : Fld := ⟨254, 32, 0, .view, fun _ => 0⟩
-- RPR_DIE_ID_HI (R491)
def F.RPR_DIE_ID_HI_ID : Fld := ⟨255, 32, 0, .view, fun _ => 0⟩

/-! ### 18: the registers of spec/18_twin_redundancy.md -/

-- CSW_CFG (R484)
def F.CSW_CFG_RESYNC_AFTER : Fld := ⟨256, 8, 8, .rw, fun _ => 8⟩
def F.CSW_CFG_MACSEC_EN : Fld := ⟨257, 1, 2, .rw, fun _ => 1⟩
def F.CSW_CFG_AUTO_TAKEOVER : Fld := ⟨258, 1, 1, .rw, fun _ => 1⟩
def F.CSW_CFG_EN : Fld := ⟨259, 1, 0, .rw, fun _ => 0⟩
-- CSW_TIMING (R484)
def F.CSW_TIMING_DIVERGE_LINES : Fld := ⟨260, 8, 16, .rw, fun _ => 4⟩
def F.CSW_TIMING_LATH_LOSS_MS : Fld := ⟨261, 16, 0, .rw, fun _ => 1500⟩
-- CSW_ROLE (R453)
def F.CSW_ROLE_CAUSE : Fld := ⟨262, 4, 24, .ro, fun _ => 0⟩
def F.CSW_ROLE_TAKEOVER_OK : Fld := ⟨263, 1, 12, .ro, fun _ => 0⟩
def F.CSW_ROLE_VETO : Fld := ⟨264, 1, 11, .ro, fun _ => 0⟩
def F.CSW_ROLE_CAUSEWAY_UP : Fld := ⟨265, 1, 10, .ro, fun _ => 0⟩
def F.CSW_ROLE_CLAIM_IN : Fld := ⟨266, 1, 9, .ro, fun _ => 0⟩
def F.CSW_ROLE_CLAIM_OUT : Fld := ⟨267, 1, 8, .ro, fun _ => 0⟩
def F.CSW_ROLE_SEAT : Fld := ⟨268, 1, 3, .view, fun _ => 0⟩
def F.CSW_ROLE_ROLE : Fld := ⟨269, 3, 0, .ro, fun _ => 4⟩
-- CSW_LINK_STATUS (R457)
def F.CSW_LINK_STATUS_SKEW : Fld := ⟨270, 4, 8, .ro, fun _ => 0⟩
def F.CSW_LINK_STATUS_LANE_UP : Fld := ⟨271, 4, 4, .ro, fun _ => 0⟩
def F.CSW_LINK_STATUS_COUNTED : Fld := ⟨272, 1, 1, .ro, fun _ => 0⟩
def F.CSW_LINK_STATUS_UP : Fld := ⟨273, 1, 0, .ro, fun _ => 0⟩
-- CSW_EPOCH_COMMITTED (R467)
def F.CSW_EPOCH_COMMITTED_EPOCH : Fld := ⟨274, 32, 0, .ro, fun _ => 0⟩
-- CSW_EPOCH_FRAME_LO (R467)
def F.CSW_EPOCH_FRAME_LO_FRAME : Fld := ⟨275, 32, 0, .ro, fun _ => 0⟩
-- CSW_EPOCH_FRAME_HI (R467)
def F.CSW_EPOCH_FRAME_HI_FRAME : Fld := ⟨276, 32, 0, .ro, fun _ => 0⟩
-- CSW_MIRROR_STATUS (R467)
def F.CSW_MIRROR_STATUS_DISCARD_RUN : Fld := ⟨277, 16, 16, .ro, fun _ => 0⟩
def F.CSW_MIRROR_STATUS_LAST_DISCARD : Fld := ⟨278, 4, 4, .ro, fun _ => 0⟩
def F.CSW_MIRROR_STATUS_BANK : Fld := ⟨279, 1, 1, .ro, fun _ => 0⟩
def F.CSW_MIRROR_STATUS_SYNCED : Fld := ⟨280, 1, 0, .ro, fun _ => 0⟩
-- CSW_TIME_OFFSET_LO (R462)
def F.CSW_TIME_OFFSET_LO_OFFSET : Fld := ⟨281, 32, 0, .ro, fun _ => 0⟩
-- CSW_TIME_OFFSET_HI (R462)
def F.CSW_TIME_OFFSET_HI_OFFSET : Fld := ⟨282, 32, 0, .ro, fun _ => 0⟩
-- CSW_LINK_DELAY (R462)
def F.CSW_LINK_DELAY_DELAY : Fld := ⟨283, 32, 0, .ro, fun _ => 0⟩
-- CSW_FR_TX (R483)
def C.CSW_FR_TX : Ctr := ⟨24⟩
-- CSW_FR_RX (R483)
def C.CSW_FR_RX : Ctr := ⟨25⟩
-- CSW_FR_USED (R483)
def C.CSW_FR_USED : Ctr := ⟨26⟩
-- CSW_FR_DUP (R483)
def C.CSW_FR_DUP : Ctr := ⟨27⟩
-- CSW_FR_RUNT (R483)
def C.CSW_FR_RUNT : Ctr := ⟨28⟩
-- CSW_FR_OVERSIZE (R483)
def C.CSW_FR_OVERSIZE : Ctr := ⟨29⟩
-- CSW_FR_FCS (R483)
def C.CSW_FR_FCS : Ctr := ⟨30⟩
-- CSW_FR_MACSEC (R483)
def C.CSW_FR_MACSEC : Ctr := ⟨31⟩
-- CSW_FR_DELIM (R483)
def C.CSW_FR_DELIM : Ctr := ⟨32⟩
-- CSW_EPOCHS_BEGUN (R483)
def C.CSW_EPOCHS_BEGUN : Ctr := ⟨33⟩
-- CSW_EPOCHS_COMMITTED (R483)
def C.CSW_EPOCHS_COMMITTED : Ctr := ⟨34⟩
-- CSW_EPOCHS_DISCARDED (R483)
def C.CSW_EPOCHS_DISCARDED : Ctr := ⟨35⟩
-- CSW_SEAL_RX (R483)
def C.CSW_SEAL_RX : Ctr := ⟨36⟩
-- CSW_SEAL_MATCH (R483)
def C.CSW_SEAL_MATCH : Ctr := ⟨37⟩
-- CSW_SEAL_MISMATCH (R483)
def C.CSW_SEAL_MISMATCH : Ctr := ⟨38⟩
-- CSW_SEAL_UNCMP (R483)
def C.CSW_SEAL_UNCMP : Ctr := ⟨39⟩
-- CSW_LIVE_RX (R483)
def C.CSW_LIVE_RX : Ctr := ⟨40⟩
-- CSW_LIVE_APPLIED (R483)
def C.CSW_LIVE_APPLIED : Ctr := ⟨41⟩
-- CSW_LIVE_LATE (R483)
def C.CSW_LIVE_LATE : Ctr := ⟨42⟩
-- CSW_BLAME (R472)
def F.CSW_BLAME_BUSY : Fld := ⟨284, 1, 31, .ro, fun _ => 0⟩
def F.CSW_BLAME_DEST : Fld := ⟨285, 11, 16, .ro, fun _ => 0⟩
def F.CSW_BLAME_VERDICT : Fld := ⟨286, 4, 0, .ro, fun _ => 0⟩
-- CSW_KEY (R461)
def F.CSW_KEY_TX_N : Fld := ⟨287, 32, 0, .ro, fun _ => 0⟩
-- CSW_LANE_STATUS (R457)
def F.CSW_LANE_STATUS_DEG_DISC : Fld := ⟨288, 1, 25, .view, fun _ => 0⟩
def F.CSW_LANE_STATUS_DEG_FOM : Fld := ⟨289, 1, 24, .view, fun _ => 0⟩
def F.CSW_LANE_STATUS_POS : Fld := ⟨290, 4, 20, .view, fun _ => 0⟩
def F.CSW_LANE_STATUS_SRC_LOCK : Fld := ⟨291, 4, 16, .view, fun _ => 0⟩
def F.CSW_LANE_STATUS_OCC : Fld := ⟨292, 4, 12, .view, fun _ => 0⟩
def F.CSW_LANE_STATUS_TX_STATE : Fld := ⟨293, 2, 10, .view, fun _ => 0⟩
def F.CSW_LANE_STATUS_COMMA_ALIGNED : Fld := ⟨294, 1, 9, .view, fun _ => 0⟩
def F.CSW_LANE_STATUS_IDLE_SEEN : Fld := ⟨295, 1, 8, .view, fun _ => 0⟩
def F.CSW_LANE_STATUS_RATE : Fld := ⟨296, 2, 6, .view, fun _ => 0⟩
def F.CSW_LANE_STATUS_CAUSE : Fld := ⟨297, 3, 3, .view, fun _ => 0⟩
def F.CSW_LANE_STATUS_RX_STATE : Fld := ⟨298, 3, 0, .view, fun _ => 0⟩
-- CSW_LANE_EYE (R457)
def F.CSW_LANE_EYE_CTLE : Fld := ⟨299, 4, 16, .view, fun _ => 0⟩
def F.CSW_LANE_EYE_FOM_MIN : Fld := ⟨300, 8, 8, .view, fun _ => 255⟩
def F.CSW_LANE_EYE_FOM : Fld := ⟨301, 8, 0, .view, fun _ => 0⟩
-- CSW_LANE_DFE (R457)
def F.CSW_LANE_DFE_TAPS : Fld := ⟨302, 30, 0, .view, fun _ => 0⟩
-- CSW_LANE_TXEQ (R457)
def F.CSW_LANE_TXEQ_POST : Fld := ⟨303, 4, 8, .rw, fun _ => 4⟩
def F.CSW_LANE_TXEQ_PRE : Fld := ⟨304, 4, 4, .rw, fun _ => 0⟩
def F.CSW_LANE_TXEQ_SWING : Fld := ⟨305, 4, 0, .rw, fun _ => 8⟩
-- CSW_DIVERGE (R470)
def F.CSW_DIVERGE_DIVERGENT : Fld := ⟨306, 32, 0, .ro, fun _ => 0⟩

/-! ### 07: the registers of spec/07_reed_lanes.md -/

-- REED_LANE_CFG (R166)
def F.REED_LANE_CFG_RX_RATE : Fld := ⟨307, 2, 2, .sh, fun _ => 0⟩
def F.REED_LANE_CFG_TX_EN : Fld := ⟨308, 1, 1, .sh, fun _ => 0⟩
def F.REED_LANE_CFG_RX_EN : Fld := ⟨309, 1, 0, .sh, fun _ => 0⟩
-- REED_LANE_CTRL (R166)
def F.REED_LANE_CTRL_LCM_SEND : Fld := ⟨310, 1, 6, .wo, fun _ => 0⟩
def F.REED_LANE_CTRL_ADAPT_FREEZE : Fld := ⟨311, 1, 5, .rw, fun _ => 0⟩
def F.REED_LANE_CTRL_TX_INVERT : Fld := ⟨312, 1, 4, .rw, fun _ => 0⟩
def F.REED_LANE_CTRL_RX_INVERT : Fld := ⟨313, 1, 3, .rw, fun _ => 0⟩
def F.REED_LANE_CTRL_BITSLIP : Fld := ⟨314, 1, 2, .wo, fun _ => 0⟩
def F.REED_LANE_CTRL_RETRAIN : Fld := ⟨315, 1, 1, .wo, fun _ => 0⟩
def F.REED_LANE_CTRL_AUTO_ALIGN : Fld := ⟨316, 1, 0, .rw, fun _ => 1⟩
-- REED_LANE_STATUS (R166)
def F.REED_LANE_STATUS_DEG_DISC : Fld := ⟨317, 1, 25, .ro, fun _ => 0⟩
def F.REED_LANE_STATUS_DEG_FOM : Fld := ⟨318, 1, 24, .ro, fun _ => 0⟩
def F.REED_LANE_STATUS_POS : Fld := ⟨319, 4, 20, .ro, fun _ => 0⟩
def F.REED_LANE_STATUS_SRC_LOCK : Fld := ⟨320, 4, 16, .ro, fun _ => 0⟩
def F.REED_LANE_STATUS_OCC : Fld := ⟨321, 4, 12, .ro, fun _ => 0⟩
def F.REED_LANE_STATUS_TX_STATE : Fld := ⟨322, 2, 10, .ro, fun _ => 0⟩
def F.REED_LANE_STATUS_COMMA_ALIGNED : Fld := ⟨323, 1, 9, .ro, fun _ => 0⟩
def F.REED_LANE_STATUS_IDLE_SEEN : Fld := ⟨324, 1, 8, .ro, fun _ => 0⟩
def F.REED_LANE_STATUS_RATE : Fld := ⟨325, 2, 6, .ro, fun _ => 0⟩
def F.REED_LANE_STATUS_CAUSE : Fld := ⟨326, 3, 3, .ro, fun _ => 0⟩
def F.REED_LANE_STATUS_RX_STATE : Fld := ⟨327, 3, 0, .ro, fun _ => 0⟩
-- REED_LANE_EYE (R168)
def F.REED_LANE_EYE_CTLE : Fld := ⟨328, 4, 16, .ro, fun _ => 0⟩
def F.REED_LANE_EYE_FOM_MIN : Fld := ⟨329, 8, 8, .rc, fun _ => 255⟩
def F.REED_LANE_EYE_FOM : Fld := ⟨330, 8, 0, .ro, fun _ => 0⟩
-- REED_LANE_DFE (R168)
def F.REED_LANE_DFE_TAPS : Fld := ⟨331, 30, 0, .ro, fun _ => 0⟩
-- REED_LANE_TXEQ (R152)
def F.REED_LANE_TXEQ_POST : Fld := ⟨332, 4, 8, .rw, fun _ => 4⟩
def F.REED_LANE_TXEQ_PRE : Fld := ⟨333, 4, 4, .rw, fun _ => 0⟩
def F.REED_LANE_TXEQ_SWING : Fld := ⟨334, 4, 0, .rw, fun _ => 8⟩
-- REED_SF_FRAMED (R182)
def C.REED_SF_FRAMED : Ctr := ⟨43⟩
-- REED_SF_ACCEPTED (R182)
def C.REED_SF_ACCEPTED : Ctr := ⟨44⟩
-- REED_DISC_CODE (R182)
def C.REED_DISC_CODE : Ctr := ⟨45⟩
-- REED_DISC_FRAMING (R182)
def C.REED_DISC_FRAMING : Ctr := ⟨46⟩
-- REED_DISC_HEADER (R182)
def C.REED_DISC_HEADER : Ctr := ⟨47⟩
-- REED_DISC_LENGTH (R182)
def C.REED_DISC_LENGTH : Ctr := ⟨48⟩
-- REED_DISC_PCRC (R182)
def C.REED_DISC_PCRC : Ctr := ⟨49⟩
-- REED_SEQ_MISSING (R182)
def C.REED_SEQ_MISSING : Ctr := ⟨50⟩
-- REED_LCM_ACCEPTED (R182)
def C.REED_LCM_ACCEPTED : Ctr := ⟨51⟩
-- REED_LCM_DISCARDED (R182)
def C.REED_LCM_DISCARDED : Ctr := ⟨52⟩
-- REED_TX_WORDS_IN (R182)
def C.REED_TX_WORDS_IN : Ctr := ⟨53⟩
-- REED_TX_WORDS_SENT (R182)
def C.REED_TX_WORDS_SENT : Ctr := ⟨54⟩
-- REED_TX_WORDS_DROPPED (R182)
def C.REED_TX_WORDS_DROPPED : Ctr := ⟨55⟩
-- REED_LCM_RX_IDENT (R161)
def F.REED_LCM_RX_IDENT_WORD : Fld := ⟨335, 32, 0, .ro, fun _ => 0⟩
-- REED_LCM_RX_SUBCH (R161)
def F.REED_LCM_RX_SUBCH_WORD : Fld := ⟨336, 32, 0, .ro, fun _ => 0⟩
-- REED_LCM_RX_VENDOR (R161)
def F.REED_LCM_RX_VENDOR_WORD : Fld := ⟨337, 32, 0, .ro, fun _ => 0⟩
-- REED_LANE_LCM_TX (R161)
def F.REED_LANE_LCM_TX_WORD : Fld := ⟨338, 32, 0, .rw, fun _ => 0⟩
-- REED_LCM_RX_ROLE (R161)
def F.REED_LCM_RX_ROLE_WORD : Fld := ⟨339, 32, 0, .ro, fun _ => 0⟩
-- REED_TXGRP_CFG (R176)
def F.REED_TXGRP_CFG_RATE : Fld := ⟨340, 2, 0, .sh, fun _ => 3⟩
-- REED_BUNDLE_EN (R177)
def F.REED_BUNDLE_EN_EN : Fld := ⟨341, 32, 0, .sh, fun _ => 0⟩
-- REED_BUNDLE_STATUS (R177)
def F.REED_BUNDLE_STATUS_LOSSES : Fld := ⟨342, 16, 16, .ro, fun _ => 0⟩
def F.REED_BUNDLE_STATUS_REASON : Fld := ⟨343, 2, 12, .ro, fun _ => 0⟩
def F.REED_BUNDLE_STATUS_SKEW : Fld := ⟨344, 4, 8, .ro, fun _ => 0⟩
def F.REED_BUNDLE_STATUS_LOST_MASK : Fld := ⟨345, 4, 4, .ro, fun _ => 0⟩
def F.REED_BUNDLE_STATUS_STATE : Fld := ⟨346, 2, 0, .ro, fun _ => 0⟩
-- REED_DEG_CFG (R166)
def F.REED_DEG_CFG_DEG_DISCARDS : Fld := ⟨347, 8, 0, .rw, fun _ => 2⟩

/-! ### 08: the registers of spec/08_ingest_and_mere.md -/

-- ING_SLOT_CFG (R186)
def F.ING_SLOT_CFG_FEED_INDEX : Fld := ⟨348, 11, 16, .sh, fun i => i⟩
def F.ING_SLOT_CFG_FEED_KIND : Fld := ⟨349, 2, 8, .sh, fun _ => 1⟩
def F.ING_SLOT_CFG_GANG : Fld := ⟨350, 2, 4, .sh, fun _ => 0⟩
def F.ING_SLOT_CFG_PATH : Fld := ⟨351, 2, 1, .sh, fun _ => 0⟩
def F.ING_SLOT_CFG_ENABLE : Fld := ⟨352, 1, 0, .sh, fun _ => 0⟩
-- ING_SLOT_CTRL (R201)
def F.ING_SLOT_CTRL_RESKIM : Fld := ⟨353, 1, 0, .wo, fun _ => 0⟩
-- ING_SLOT_STATUS (R188)
def F.ING_SLOT_STATUS_GROUPS : Fld := ⟨354, 8, 24, .ro, fun _ => 0⟩
def F.ING_SLOT_STATUS_AUDIO_RATE_MISMATCH : Fld := ⟨355, 1, 22, .ro, fun _ => 0⟩
def F.ING_SLOT_STATUS_FELL_BACK : Fld := ⟨356, 1, 21, .ro, fun _ => 0⟩
def F.ING_SLOT_STATUS_PID_MISMATCH : Fld := ⟨357, 1, 20, .ro, fun _ => 0⟩
def F.ING_SLOT_STATUS_RATE : Fld := ⟨358, 4, 16, .ro, fun _ => 0⟩
def F.ING_SLOT_STATUS_FORMAT : Fld := ⟨359, 8, 8, .ro, fun _ => 0⟩
def F.ING_SLOT_STATUS_LOSS_CAUSE : Fld := ⟨360, 4, 4, .ro, fun _ => 0⟩
def F.ING_SLOT_STATUS_ON_SKIM : Fld := ⟨361, 1, 3, .ro, fun _ => 0⟩
def F.ING_SLOT_STATUS_STATE : Fld := ⟨362, 3, 0, .ro, fun _ => 0⟩
-- ING_SLOT_PHASE (R198)
def F.ING_SLOT_PHASE_DELTA_US : Fld := ⟨363, 16, 16, .ro, fun _ => 0⟩
def F.ING_SLOT_PHASE_OFFSET : Fld := ⟨364, 16, 0, .ro, fun _ => 32768⟩
-- ING_SLOT_MON (R191)
def F.ING_SLOT_MON_FREEZE_RUN : Fld := ⟨365, 16, 16, .ro, fun _ => 0⟩
def F.ING_SLOT_MON_BLACK_RUN : Fld := ⟨366, 16, 0, .ro, fun _ => 0⟩
-- ING_SLOT_MON2 (R191)
def F.ING_SLOT_MON2_SILENCE_RUN : Fld := ⟨367, 16, 16, .ro, fun _ => 0⟩
def F.ING_SLOT_MON2_CRC_RATE : Fld := ⟨368, 16, 0, .ro, fun _ => 0⟩
-- ING_SLOT_SILMASK (R191)
def F.ING_SLOT_SILMASK_MASK : Fld := ⟨369, 32, 0, .rw, fun _ => 0⟩
-- ING_SLOT_PID (R183)
def F.ING_SLOT_PID_PID : Fld := ⟨370, 32, 0, .ro, fun _ => 0⟩
-- ING_SLOT_TC (R183)
def F.ING_SLOT_TC_TC : Fld := ⟨371, 32, 0, .ro, fun _ => 4294967295⟩
-- ING_LINES_IN (R212)
def C.ING_LINES_IN : Ctr := ⟨56⟩
-- ING_LINES_GOOD (R212)
def C.ING_LINES_GOOD : Ctr := ⟨57⟩
-- ING_LINES_DAMAGED (R212)
def C.ING_LINES_DAMAGED : Ctr := ⟨58⟩
-- ING_LINES_DISCARDED (R212)
def C.ING_LINES_DISCARDED : Ctr := ⟨59⟩
-- ING_CRC_ERR (R183)
def C.ING_CRC_ERR : Ctr := ⟨60⟩
-- ING_ANC_CSUM_ERR (R183)
def C.ING_ANC_CSUM_ERR : Ctr := ⟨61⟩
-- ING_FRAMES_DONE (R212)
def C.ING_FRAMES_DONE : Ctr := ⟨62⟩
-- ING_FRAMES_DELIVERED (R212)
def C.ING_FRAMES_DELIVERED : Ctr := ⟨63⟩
-- ING_FRAMES_DROPPED (R212)
def C.ING_FRAMES_DROPPED : Ctr := ⟨64⟩
-- ING_FRAMES_REPEATED (R199)
def C.ING_FRAMES_REPEATED : Ctr := ⟨65⟩
-- ING_EXTRACT_SLIP (R193)
def C.ING_EXTRACT_SLIP : Ctr := ⟨66⟩
-- ING_MON_CFG (R191)
def F.ING_MON_CFG_SILENCE_LEVEL : Fld := ⟨372, 16, 16, .rw, fun _ => 32⟩
def F.ING_MON_CFG_BLACK_CHROMA : Fld := ⟨373, 6, 10, .rw, fun _ => 16⟩
def F.ING_MON_CFG_BLACK_LEVEL : Fld := ⟨374, 10, 0, .rw, fun _ => 80⟩
-- ING_MON_EVT (R191)
def F.ING_MON_EVT_FREEZE_EVT : Fld := ⟨375, 16, 16, .rw, fun _ => 50⟩
def F.ING_MON_EVT_BLACK_EVT : Fld := ⟨376, 16, 0, .rw, fun _ => 50⟩
-- ING_MON_EVT2 (R191)
def F.ING_MON_EVT2_SILENCE_EVT : Fld := ⟨377, 16, 16, .rw, fun _ => 50⟩
def F.ING_MON_EVT2_CRC_EVT : Fld := ⟨378, 16, 0, .rw, fun _ => 10⟩
-- ING_LOCK_CFG (R188)
def F.ING_LOCK_CFG_LOCK_FRAMES : Fld := ⟨379, 4, 0, .rw, fun _ => 2⟩
-- MERE_STATUS (R211)
def F.MERE_STATUS_IN_SERVICE : Fld := ⟨380, 1, 2, .ro, fun _ => 0⟩
def F.MERE_STATUS_STACK_B_OK : Fld := ⟨381, 1, 1, .ro, fun _ => 0⟩
def F.MERE_STATUS_STACK_A_OK : Fld := ⟨382, 1, 0, .ro, fun _ => 0⟩
-- MERE_BW_LIMIT (R206)
def F.MERE_BW_LIMIT_LIMIT : Fld := ⟨383, 17, 0, .view, fun _ => 0⟩
-- MERE_BW_RESERVED (R206)
def F.MERE_BW_RESERVED_RESERVED : Fld := ⟨384, 17, 0, .view, fun _ => 0⟩
-- MERE_BW_CLAIMED (R206)
def F.MERE_BW_CLAIMED_CLAIMED : Fld := ⟨385, 17, 0, .view, fun _ => 0⟩
-- MERE_BW_REFUSED (R207)
def C.MERE_BW_REFUSED : Ctr := ⟨67⟩
-- MERE_POOL (R202)
def F.MERE_POOL_RETIRED : Fld := ⟨386, 12, 16, .ro, fun _ => 0⟩
def F.MERE_POOL_FREE : Fld := ⟨387, 12, 0, .view, fun _ => 0⟩
-- MERE_ECC_CE_A (R210)
def C.MERE_ECC_CE_A : Ctr := ⟨68⟩
-- MERE_ECC_CE_B (R210)
def C.MERE_ECC_CE_B : Ctr := ⟨69⟩
-- MERE_ECC_UE_A (R210)
def C.MERE_ECC_UE_A : Ctr := ⟨70⟩
-- MERE_ECC_UE_B (R210)
def C.MERE_ECC_UE_B : Ctr := ⟨71⟩
-- MERE_ECC_ADDR_LO (R210)
def F.MERE_ECC_ADDR_LO_ADDR : Fld := ⟨388, 32, 0, .ro, fun _ => 0⟩
-- MERE_ECC_ADDR_HI (R210)
def F.MERE_ECC_ADDR_HI_VALID : Fld := ⟨389, 1, 31, .w1c, fun _ => 0⟩
def F.MERE_ECC_ADDR_HI_ADDR : Fld := ⟨390, 3, 0, .ro, fun _ => 0⟩
-- MERE_SLOT_CFG (R200)
def F.MERE_SLOT_CFG_FRAME_PAGES : Fld := ⟨391, 8, 16, .sh, fun _ => 96⟩
def F.MERE_SLOT_CFG_DELAY : Fld := ⟨392, 4, 4, .sh, fun _ => 1⟩
def F.MERE_SLOT_CFG_DEPTH : Fld := ⟨393, 4, 0, .sh, fun _ => 3⟩
-- MERE_SLOT_STATUS (R203)
def F.MERE_SLOT_STATUS_FRAMES_HELD : Fld := ⟨394, 4, 16, .ro, fun _ => 0⟩
def F.MERE_SLOT_STATUS_GRANULES : Fld := ⟨395, 12, 0, .view, fun _ => 0⟩
-- MERE_DEST_CFG (R205)
def F.MERE_DEST_CFG_READ_RESV : Fld := ⟨396, 1, 0, .sh, fun _ => 1⟩

/-! ### 09: the registers of spec/09_crosspoint_and_sluice.md -/

-- XPT_DEST_CFG (R231)
def F.XPT_DEST_CFG_LOSS_POLICY : Fld := ⟨397, 2, 28, .sh, fun _ => 0⟩
def F.XPT_DEST_CFG_GANG : Fld := ⟨398, 2, 26, .sh, fun _ => 0⟩
def F.XPT_DEST_CFG_FOLLOW : Fld := ⟨399, 1, 25, .sh, fun _ => 1⟩
def F.XPT_DEST_CFG_ENABLE : Fld := ⟨400, 1, 24, .sh, fun _ => 0⟩
def F.XPT_DEST_CFG_RATE : Fld := ⟨401, 4, 20, .sh, fun _ => 0⟩
def F.XPT_DEST_CFG_FORMAT : Fld := ⟨402, 8, 12, .sh, fun _ => 0⟩
-- XPT_DEST_STATUS (R235)
def F.XPT_DEST_STATUS_SOURCE : Fld := ⟨403, 11, 21, .ro, fun _ => 2047⟩
def F.XPT_DEST_STATUS_ON_BACKUP : Fld := ⟨404, 1, 20, .ro, fun _ => 0⟩
def F.XPT_DEST_STATUS_MISMATCH : Fld := ⟨405, 1, 19, .ro, fun _ => 0⟩
def F.XPT_DEST_STATUS_SRC_LOST : Fld := ⟨406, 1, 18, .view, fun _ => 0⟩
def F.XPT_DEST_STATUS_PLANE : Fld := ⟨407, 1, 17, .ro, fun _ => 0⟩
def F.XPT_DEST_STATUS_ENABLED : Fld := ⟨408, 1, 16, .view, fun _ => 0⟩
def F.XPT_DEST_STATUS_FORMAT : Fld := ⟨409, 8, 8, .ro, fun _ => 0⟩
def F.XPT_DEST_STATUS_RATE : Fld := ⟨410, 4, 4, .ro, fun _ => 0⟩
-- XPT_AC_CFG (R237)
def F.XPT_AC_CFG_BACKUP : Fld := ⟨411, 11, 21, .sh, fun _ => 2047⟩
def F.XPT_AC_CFG_REVERTIVE : Fld := ⟨412, 1, 16, .sh, fun _ => 0⟩
def F.XPT_AC_CFG_TRIG : Fld := ⟨413, 5, 8, .sh, fun _ => 1⟩
def F.XPT_AC_CFG_AC_EN : Fld := ⟨414, 1, 0, .sh, fun _ => 0⟩
-- XPT_AC_THRESH (R237)
def F.XPT_AC_THRESH_SILENCE_FR : Fld := ⟨415, 8, 24, .sh, fun _ => 50⟩
def F.XPT_AC_THRESH_ERR_RATE : Fld := ⟨416, 8, 16, .sh, fun _ => 10⟩
def F.XPT_AC_THRESH_FREEZE_FR : Fld := ⟨417, 8, 8, .sh, fun _ => 50⟩
def F.XPT_AC_THRESH_BLACK_FR : Fld := ⟨418, 8, 0, .sh, fun _ => 50⟩
-- XPT_AC_REVERT (R238)
def F.XPT_AC_REVERT_REVERT_FRAMES : Fld := ⟨419, 16, 0, .sh, fun _ => 250⟩
-- XPT_SEAL_VOTED (R215)
def C.XPT_SEAL_VOTED : Ctr := ⟨72⟩
-- XPT_SEAL_AGREE (R214)
def C.XPT_SEAL_AGREE : Ctr := ⟨73⟩
-- XPT_SEAL_CORRECTED (R214)
def C.XPT_SEAL_CORRECTED : Ctr := ⟨74⟩
-- XPT_SEAL_SHADOW_FAIL (R214)
def C.XPT_SEAL_SHADOW_FAIL : Ctr := ⟨75⟩
-- XPT_SEAL_ESCAPED (R214)
def C.XPT_SEAL_ESCAPED : Ctr := ⟨76⟩
-- XPT_SEAL_UNCORR_MERE (R214)
def C.XPT_SEAL_UNCORR_MERE : Ctr := ⟨77⟩
-- XPT_SEAL_UNCORR_SKIM (R214)
def C.XPT_SEAL_UNCORR_SKIM : Ctr := ⟨78⟩
-- XPT_TAKES_APPLIED (R224)
def C.XPT_TAKES_APPLIED : Ctr := ⟨79⟩
-- XPT_TL_STATUS (R230)
def F.XPT_TL_STATUS_HELD : Fld := ⟨420, 13, 16, .view, fun _ => 0⟩
def F.XPT_TL_STATUS_USED : Fld := ⟨421, 13, 0, .view, fun _ => 0⟩
-- XPT_TL_ADMITTED (R230)
def C.XPT_TL_ADMITTED : Ctr := ⟨80⟩
-- XPT_TL_APPLIED (R230)
def C.XPT_TL_APPLIED : Ctr := ⟨81⟩
-- XPT_TL_SUPERSEDED (R230)
def C.XPT_TL_SUPERSEDED : Ctr := ⟨82⟩
-- XPT_TL_CANCELLED (R230)
def C.XPT_TL_CANCELLED : Ctr := ⟨83⟩
-- XPT_TL_REFUSED_ARM (R230)
def C.XPT_TL_REFUSED_ARM : Ctr := ⟨84⟩
-- XPT_GEN_CFG (R243)
def F.XPT_GEN_CFG_FORMAT : Fld := ⟨422, 8, 16, .sh, fun _ => 32⟩
def F.XPT_GEN_CFG_RATE : Fld := ⟨423, 4, 12, .sh, fun _ => 7⟩
def F.XPT_GEN_CFG_LEVEL : Fld := ⟨424, 8, 4, .sh, fun _ => 128⟩
def F.XPT_GEN_CFG_PATTERN : Fld := ⟨425, 3, 1, .sh, fun _ => 0⟩
def F.XPT_GEN_CFG_ENABLE : Fld := ⟨426, 1, 0, .sh, fun _ => 0⟩
-- XPT_TRIG (R229)
def F.XPT_TRIG_EN : Fld := ⟨427, 1, 31, .rw, fun _ => 0⟩
def F.XPT_TRIG_SALVO_ID : Fld := ⟨428, 6, 0, .rw, fun _ => 0⟩
-- XPT_INJECT (R216)
def F.XPT_INJECT_GO : Fld := ⟨429, 1, 31, .wo, fun _ => 0⟩
def F.XPT_INJECT_PLANE : Fld := ⟨430, 1, 30, .rw, fun _ => 0⟩
def F.XPT_INJECT_COUNT : Fld := ⟨431, 8, 16, .rw, fun _ => 0⟩
def F.XPT_INJECT_DEST : Fld := ⟨432, 11, 0, .rw, fun _ => 0⟩
-- EGR_DEST_CFG (R240)
def F.EGR_DEST_CFG_EMBED_GROUPS : Fld := ⟨433, 8, 0, .sh, fun _ => 0⟩
-- EGR_ANC_DROPPED (R242)
def C.EGR_ANC_DROPPED : Ctr := ⟨85⟩
-- EGR_AUD_PKT_REMOVED (R241)
def C.EGR_AUD_PKT_REMOVED : Ctr := ⟨86⟩

/-! ### 10: the registers of spec/10_multiviewer_and_converters.md -/

-- MV_HEAD_CFG (R246)
def F.MV_HEAD_CFG_FORMAT : Fld := ⟨434, 8, 16, .sh, fun _ => 32⟩
def F.MV_HEAD_CFG_RATE : Fld := ⟨435, 4, 12, .sh, fun _ => 7⟩
def F.MV_HEAD_CFG_LATE_HOLD : Fld := ⟨436, 4, 4, .sh, fun _ => 3⟩
def F.MV_HEAD_CFG_ENABLE : Fld := ⟨437, 1, 0, .sh, fun _ => 0⟩
-- MV_HEAD_STATUS (R252)
def F.MV_HEAD_STATUS_SHARES : Fld := ⟨438, 9, 23, .view, fun _ => 0⟩
def F.MV_HEAD_STATUS_READ_UNITS : Fld := ⟨439, 8, 15, .view, fun _ => 0⟩
def F.MV_HEAD_STATUS_TILES : Fld := ⟨440, 7, 8, .view, fun _ => 0⟩
def F.MV_HEAD_STATUS_GUARD_FAIL : Fld := ⟨441, 1, 2, .view, fun _ => 0⟩
def F.MV_HEAD_STATUS_SCALER_FAULT : Fld := ⟨442, 1, 1, .ro, fun _ => 0⟩
def F.MV_HEAD_STATUS_RUN : Fld := ⟨443, 1, 0, .ro, fun _ => 0⟩
-- MV_SCREED (R258)
def F.MV_SCREED_CR : Fld := ⟨444, 10, 20, .sh, fun _ => 512⟩
def F.MV_SCREED_CB : Fld := ⟨445, 10, 10, .sh, fun _ => 512⟩
def F.MV_SCREED_Y : Fld := ⟨446, 10, 0, .sh, fun _ => 64⟩
-- MV_TALLY (R259)
def F.MV_TALLY_PVW_DEST : Fld := ⟨447, 11, 16, .sh, fun _ => 2047⟩
def F.MV_TALLY_PGM_DEST : Fld := ⟨448, 11, 0, .sh, fun _ => 2047⟩
-- MV_TILES_DUE (R273)
def C.MV_TILES_DUE : Ctr := ⟨87⟩
-- MV_TILES_DRAWN (R273)
def C.MV_TILES_DRAWN : Ctr := ⟨88⟩
-- MV_TILES_HELD (R273)
def C.MV_TILES_HELD : Ctr := ⟨89⟩
-- MV_TILES_SCREED (R273)
def C.MV_TILES_SCREED : Ctr := ⟨90⟩
-- MV_TILES_HATCHED (R273)
def C.MV_TILES_HATCHED : Ctr := ⟨91⟩
-- MV_COMPOSE_OVERRUN (R248)
def C.MV_COMPOSE_OVERRUN : Ctr := ⟨92⟩
-- MV_GUARD_FAILS (R262)
def C.MV_GUARD_FAILS : Ctr := ⟨93⟩
-- MV_PROXY_ERR (R264)
def C.MV_PROXY_ERR : Ctr := ⟨94⟩
-- MV_CSET (R266)
def F.MV_CSET_PRESET : Fld := ⟨449, 4, 0, .sh, fun _ => 0⟩
-- MV_PALETTE (R258)
def F.MV_PALETTE_CR : Fld := ⟨450, 10, 20, .sh, paletteCr⟩
def F.MV_PALETTE_CB : Fld := ⟨451, 10, 10, .sh, paletteCb⟩
def F.MV_PALETTE_Y : Fld := ⟨452, 10, 0, .sh, paletteY⟩
-- MV_TILE_POS (R249)
def F.MV_TILE_POS_Y : Fld := ⟨453, 12, 16, .sh, fun _ => 0⟩
def F.MV_TILE_POS_X : Fld := ⟨454, 12, 0, .sh, fun _ => 0⟩
-- MV_TILE_SIZE (R249)
def F.MV_TILE_SIZE_H : Fld := ⟨455, 12, 16, .sh, fun _ => 0⟩
def F.MV_TILE_SIZE_W : Fld := ⟨456, 12, 0, .sh, fun _ => 0⟩
-- MV_TILE_SRC (R250)
def F.MV_TILE_SRC_EN : Fld := ⟨457, 1, 31, .sh, fun _ => 0⟩
def F.MV_TILE_SRC_CSET : Fld := ⟨458, 3, 28, .sh, fun _ => 0⟩
def F.MV_TILE_SRC_PROXY_SEL : Fld := ⟨459, 2, 24, .sh, fun _ => 0⟩
def F.MV_TILE_SRC_PRIORITY : Fld := ⟨460, 6, 16, .sh, fun _ => 0⟩
def F.MV_TILE_SRC_SOURCE : Fld := ⟨461, 11, 0, .sh, fun _ => 0⟩
-- MV_TILE_CORNICE (R258)
def F.MV_TILE_CORNICE_ALARM_EN : Fld := ⟨462, 6, 24, .sh, fun _ => 63⟩
def F.MV_TILE_CORNICE_METERS : Fld := ⟨463, 5, 16, .sh, fun _ => 0⟩
def F.MV_TILE_CORNICE_TC_EN : Fld := ⟨464, 1, 15, .sh, fun _ => 0⟩
def F.MV_TILE_CORNICE_LABEL_EN : Fld := ⟨465, 1, 14, .sh, fun _ => 0⟩
def F.MV_TILE_CORNICE_TALLY_EN : Fld := ⟨466, 1, 13, .sh, fun _ => 1⟩
def F.MV_TILE_CORNICE_BORDER_W : Fld := ⟨467, 3, 10, .sh, fun _ => 2⟩
def F.MV_TILE_CORNICE_BORDER_COL : Fld := ⟨468, 4, 0, .sh, fun _ => 0⟩
-- MV_TILE_STATUS (R254)
def F.MV_TILE_STATUS_PROXY_IN_USE : Fld := ⟨469, 2, 30, .ro, fun _ => 0⟩
def F.MV_TILE_STATUS_FALLBACK : Fld := ⟨470, 1, 29, .ro, fun _ => 0⟩
def F.MV_TILE_STATUS_LATE_MARK : Fld := ⟨471, 1, 28, .ro, fun _ => 0⟩
def F.MV_TILE_STATUS_HELD : Fld := ⟨472, 4, 24, .ro, fun _ => 0⟩
def F.MV_TILE_STATUS_ALARMS : Fld := ⟨473, 6, 16, .ro, fun _ => 0⟩
def F.MV_TILE_STATUS_SCALER : Fld := ⟨474, 8, 8, .ro, fun _ => 0⟩
def F.MV_TILE_STATUS_SHARES : Fld := ⟨475, 4, 4, .ro, fun _ => 0⟩
def F.MV_TILE_STATUS_READ_UNITS : Fld := ⟨476, 4, 0, .ro, fun _ => 0⟩
-- MV_TILE_METER (R260)
def F.MV_TILE_METER_KIND : Fld := ⟨477, 2, 30, .sh, fun _ => 0⟩
def F.MV_TILE_METER_SPACE : Fld := ⟨478, 1, 29, .sh, fun _ => 0⟩
def F.MV_TILE_METER_CHANNEL : Fld := ⟨479, 16, 0, .sh, fun _ => 0⟩
-- MV_TILE_LABEL (R258)
def F.MV_TILE_LABEL_CHARS : Fld := ⟨480, 32, 0, .sh, fun _ => 0⟩
-- MV_GUARD_POS (R262)
def F.MV_GUARD_POS_Y : Fld := ⟨481, 12, 16, .sh, fun _ => 0⟩
def F.MV_GUARD_POS_X : Fld := ⟨482, 12, 0, .sh, fun _ => 0⟩
-- MV_GUARD_SIZE (R262)
def F.MV_GUARD_SIZE_H : Fld := ⟨483, 12, 16, .sh, fun _ => 0⟩
def F.MV_GUARD_SIZE_W : Fld := ⟨484, 12, 0, .sh, fun _ => 0⟩
-- MV_GUARD_CTRL (R262)
def F.MV_GUARD_CTRL_EN : Fld := ⟨485, 1, 31, .sh, fun _ => 0⟩
def F.MV_GUARD_CTRL_HATCH_ON_FAIL : Fld := ⟨486, 1, 30, .sh, fun _ => 0⟩
def F.MV_GUARD_CTRL_FAILING : Fld := ⟨487, 1, 29, .ro, fun _ => 0⟩
def F.MV_GUARD_CTRL_OVERLAP : Fld := ⟨488, 1, 28, .ro, fun _ => 0⟩
def F.MV_GUARD_CTRL_CLEAR_FRAMES : Fld := ⟨489, 4, 0, .sh, fun _ => 2⟩
-- MV_GUARD_SIG (R262)
def F.MV_GUARD_SIG_SIG : Fld := ⟨490, 32, 0, .ro, fun _ => 0⟩
-- MV_STALE (R260)
def F.MV_STALE_STALE_BLOCKS : Fld := ⟨491, 8, 0, .rw, fun _ => 6⟩
-- MV_SCALER_POOL (R253)
def F.MV_SCALER_POOL_RETIRED : Fld := ⟨492, 9, 16, .ro, fun _ => 0⟩
def F.MV_SCALER_POOL_FREE : Fld := ⟨493, 9, 0, .view, fun _ => 0⟩
-- CNV_CFG (R267)
def F.CNV_CFG_EN : Fld := ⟨494, 1, 31, .sh, fun _ => 0⟩
def F.CNV_CFG_FAULT_ACTION : Fld := ⟨495, 1, 30, .sh, fun _ => 0⟩
def F.CNV_CFG_GANG : Fld := ⟨496, 2, 28, .sh, fun _ => 0⟩
def F.CNV_CFG_BANK : Fld := ⟨497, 1, 27, .sh, fun _ => 0⟩
def F.CNV_CFG_PRESET : Fld := ⟨498, 4, 20, .sh, fun _ => 0⟩
def F.CNV_CFG_IN_2020 : Fld := ⟨499, 1, 19, .sh, fun _ => 0⟩
def F.CNV_CFG_OUT_2020 : Fld := ⟨500, 1, 18, .sh, fun _ => 0⟩
def F.CNV_CFG_IN_FULL : Fld := ⟨501, 1, 17, .sh, fun _ => 0⟩
def F.CNV_CFG_OUT_FULL : Fld := ⟨502, 1, 16, .sh, fun _ => 0⟩
def F.CNV_CFG_DEST : Fld := ⟨503, 11, 0, .sh, fun _ => 2047⟩
-- CNV_STATUS (R272)
def F.CNV_STATUS_PHYS : Fld := ⟨504, 7, 16, .ro, fun i => i⟩
def F.CNV_STATUS_FAULT : Fld := ⟨505, 1, 2, .ro, fun _ => 0⟩
def F.CNV_STATUS_ATTACHED : Fld := ⟨506, 1, 1, .view, fun _ => 0⟩
def F.CNV_STATUS_BANK_IN_EFFECT : Fld := ⟨507, 1, 0, .view, fun _ => 0⟩
-- CNV_LUT_ADDR (R269)
def F.CNV_LUT_ADDR_BANK : Fld := ⟨508, 1, 31, .rw, fun _ => 0⟩
def F.CNV_LUT_ADDR_TABLE : Fld := ⟨509, 3, 16, .rw, fun _ => 0⟩
def F.CNV_LUT_ADDR_INDEX : Fld := ⟨510, 12, 0, .rw, fun _ => 0⟩
-- CNV_LUT_DATA (R269)
def F.CNV_LUT_DATA_ENTRY : Fld := ⟨511, 14, 0, .wo, fun _ => 0⟩
-- CNV_LINES_IN (R273)
def C.CNV_LINES_IN : Ctr := ⟨95⟩
-- CNV_LINES_CONVERTED (R273)
def C.CNV_LINES_CONVERTED : Ctr := ⟨96⟩
-- CNV_LINES_PASSED (R273)
def C.CNV_LINES_PASSED : Ctr := ⟨97⟩
-- CNV_LUT_REFUSED (R269)
def C.CNV_LUT_REFUSED : Ctr := ⟨98⟩

/-! ### 11: the registers of spec/11_media_mac.md -/

-- ETH_PORT_CFG (R274)
def F.ETH_PORT_CFG_MODE : Fld := ⟨512, 2, 1, .sh, fun _ => 0⟩
def F.ETH_PORT_CFG_ENABLE : Fld := ⟨513, 1, 0, .sh, fun _ => 0⟩
-- ETH_PORT_STATUS (R276)
def F.ETH_PORT_STATUS_MODE : Fld := ⟨514, 2, 8, .view, fun _ => 0⟩
def F.ETH_PORT_STATUS_LANE_LOCK : Fld := ⟨515, 8, 0, .ro, fun _ => 0⟩
-- ETH_LINK_HOLD (R276)
def F.ETH_LINK_HOLD_HOLD_MS : Fld := ⟨516, 16, 0, .rw, fun _ => 100⟩
-- ETH_ADDR_LO (R278)
def F.ETH_ADDR_LO_ADDR : Fld := ⟨517, 32, 0, .rw, fun _ => 0⟩
-- ETH_ADDR_HI (R278)
def F.ETH_ADDR_HI_ADDR : Fld := ⟨518, 16, 0, .rw, fun _ => 0⟩
-- ETH_TX_START (R289)
def F.ETH_TX_START_STEPS : Fld := ⟨519, 6, 0, .rw, fun _ => 4⟩
-- ETH_HASH (R282)
def F.ETH_HASH_BITS : Fld := ⟨520, 32, 0, .rw, fun _ => 0⟩
-- ETH_RX_FRAMES (R299)
def C.ETH_RX_FRAMES : Ctr := ⟨99⟩
-- ETH_RX_DELIVERED (R299)
def C.ETH_RX_DELIVERED : Ctr := ⟨100⟩
-- ETH_RX_MAC_CTRL (R299)
def C.ETH_RX_MAC_CTRL : Ctr := ⟨101⟩
-- ETH_RX_PHY_ERR (R299)
def C.ETH_RX_PHY_ERR : Ctr := ⟨102⟩
-- ETH_RX_RUNT (R299)
def C.ETH_RX_RUNT : Ctr := ⟨103⟩
-- ETH_RX_OVERSIZE (R299)
def C.ETH_RX_OVERSIZE : Ctr := ⟨104⟩
-- ETH_RX_FCS_ERR (R299)
def C.ETH_RX_FCS_ERR : Ctr := ⟨105⟩
-- ETH_RX_FILTERED (R299)
def C.ETH_RX_FILTERED : Ctr := ⟨106⟩
-- ETH_RX_VLAN_DROP (R299)
def C.ETH_RX_VLAN_DROP : Ctr := ⟨107⟩
-- ETH_RX_CTRL_UNSUP (R299)
def C.ETH_RX_CTRL_UNSUP : Ctr := ⟨108⟩
-- ETH_RX_QUEUE_DROP (R299)
def C.ETH_RX_QUEUE_DROP : Ctr := ⟨109⟩
-- ETH_RX_MACSEC_DROP (R299)
def C.ETH_RX_MACSEC_DROP : Ctr := ⟨110⟩
-- ETH_TX_FRAMES_IN (R299)
def C.ETH_TX_FRAMES_IN : Ctr := ⟨111⟩
-- ETH_TX_SENT (R299)
def C.ETH_TX_SENT : Ctr := ⟨112⟩
-- ETH_TX_UNDERRUN (R299)
def C.ETH_TX_UNDERRUN : Ctr := ⟨113⟩
-- ETH_TX_OVERSIZE (R299)
def C.ETH_TX_OVERSIZE : Ctr := ⟨114⟩
-- ETH_TX_LINK_DROP (R299)
def C.ETH_TX_LINK_DROP : Ctr := ⟨115⟩
-- ETH_TX_PN_DROP (R299)
def C.ETH_TX_PN_DROP : Ctr := ⟨116⟩
-- ETH_PAUSE_FRAMES (R299)
def C.ETH_PAUSE_FRAMES : Ctr := ⟨117⟩
-- ETH_PAUSE_QUANTA_RX (R299)
def C.ETH_PAUSE_QUANTA_RX : Ctr := ⟨118⟩
-- ETH_PAUSE_QUANTA_SERVED (R299)
def C.ETH_PAUSE_QUANTA_SERVED : Ctr := ⟨119⟩
-- ETH_PAUSE_QUANTA_CANCELLED (R299)
def C.ETH_PAUSE_QUANTA_CANCELLED : Ctr := ⟨120⟩
-- ETH_PAUSE_QUANTA_IGNORED (R299)
def C.ETH_PAUSE_QUANTA_IGNORED : Ctr := ⟨121⟩
-- ETH_FEC_CORR_CW (R299)
def C.ETH_FEC_CORR_CW : Ctr := ⟨122⟩
-- ETH_FEC_UNCORR_CW (R299)
def C.ETH_FEC_UNCORR_CW : Ctr := ⟨123⟩
-- ETH_MAC_CFG (R279)
def F.ETH_MAC_CFG_MAX_FRAME : Fld := ⟨521, 14, 16, .rw, fun _ => 1522⟩
def F.ETH_MAC_CFG_UNTAGGED_EN : Fld := ⟨522, 1, 2, .rw, fun _ => 1⟩
def F.ETH_MAC_CFG_BCAST_EN : Fld := ⟨523, 1, 1, .rw, fun _ => 1⟩
def F.ETH_MAC_CFG_IGNORE_PAUSE : Fld := ⟨524, 1, 0, .rw, fun _ => 0⟩
-- ETH_MAC_STATUS (R285)
def F.ETH_MAC_STATUS_TX_START_NOW : Fld := ⟨525, 6, 8, .view, fun _ => 4⟩
def F.ETH_MAC_STATUS_PAUSED : Fld := ⟨526, 1, 2, .view, fun _ => 0⟩
def F.ETH_MAC_STATUS_LINK : Fld := ⟨527, 1, 1, .ro, fun _ => 0⟩
def F.ETH_MAC_STATUS_VALID : Fld := ⟨528, 1, 0, .view, fun _ => 0⟩
-- ETH_VLAN (R281)
def F.ETH_VLAN_EN : Fld := ⟨529, 1, 31, .rw, fun _ => 0⟩
def F.ETH_VLAN_VID : Fld := ⟨530, 12, 0, .rw, fun _ => 0⟩
-- MGT_CFG (R298)
def F.MGT_CFG_MAX_FRAME : Fld := ⟨531, 14, 16, .rw, fun _ => 1522⟩
def F.MGT_CFG_DOWNSHIFT_EN : Fld := ⟨532, 1, 3, .rw, fun _ => 1⟩
def F.MGT_CFG_BCAST_EN : Fld := ⟨533, 1, 2, .rw, fun _ => 1⟩
def F.MGT_CFG_IGNORE_PAUSE : Fld := ⟨534, 1, 1, .rw, fun _ => 0⟩
def F.MGT_CFG_EN : Fld := ⟨535, 1, 0, .rw, fun _ => 0⟩
-- MGT_STATUS (R293)
def F.MGT_STATUS_RENEG : Fld := ⟨536, 1, 7, .ro, fun _ => 0⟩
def F.MGT_STATUS_DOWNSHIFTED : Fld := ⟨537, 1, 6, .ro, fun _ => 0⟩
def F.MGT_STATUS_PEER_KX : Fld := ⟨538, 1, 5, .ro, fun _ => 0⟩
def F.MGT_STATUS_FEC74 : Fld := ⟨539, 1, 4, .ro, fun _ => 0⟩
def F.MGT_STATUS_PAUSED : Fld := ⟨540, 1, 3, .view, fun _ => 0⟩
def F.MGT_STATUS_SPEED : Fld := ⟨541, 2, 1, .ro, fun _ => 0⟩
def F.MGT_STATUS_LINK : Fld := ⟨542, 1, 0, .ro, fun _ => 0⟩
-- MGT_IPV4 (R283)
def F.MGT_IPV4_IPV4 : Fld := ⟨543, 32, 0, .rw, fun _ => 0⟩
-- MGT_SHIFT_CFG (R294)
def F.MGT_SHIFT_CFG_UPSHIFT_KB : Fld := ⟨544, 16, 0, .rw, fun _ => 32⟩
-- MGT_MACSEC_CFG (R296)
def F.MGT_MACSEC_CFG_REPLAY_WIN : Fld := ⟨545, 16, 16, .rw, fun _ => 0⟩
def F.MGT_MACSEC_CFG_EN : Fld := ⟨546, 1, 0, .rw, fun _ => 1⟩
-- MGT_SAK_DATA (R297)
def F.MGT_SAK_DATA_KEY : Fld := ⟨547, 32, 0, .wo, fun _ => 0⟩
-- MGT_SA_CTRL (R297)
def F.MGT_SA_CTRL_GO : Fld := ⟨548, 1, 31, .wo, fun _ => 0⟩
def F.MGT_SA_CTRL_DIR : Fld := ⟨549, 1, 8, .rw, fun _ => 0⟩
def F.MGT_SA_CTRL_AN : Fld := ⟨550, 2, 0, .rw, fun _ => 0⟩
-- MGT_TX_PN (R297)
def F.MGT_TX_PN_PN : Fld := ⟨551, 32, 0, .ro, fun _ => 0⟩

/-! ### 12: the registers of spec/12_ip_media.md -/

-- IPM_RX_CFG (R300)
def F.IPM_RX_CFG_EN : Fld := ⟨552, 1, 31, .sh, fun _ => 0⟩
def F.IPM_RX_CFG_ESSENCE : Fld := ⟨553, 3, 28, .sh, fun _ => 0⟩
def F.IPM_RX_CFG_SAMPLING : Fld := ⟨554, 1, 27, .sh, fun _ => 0⟩
def F.IPM_RX_CFG_SSRC_EN : Fld := ⟨555, 1, 26, .sh, fun _ => 0⟩
def F.IPM_RX_CFG_FORMAT : Fld := ⟨556, 8, 16, .sh, fun _ => 0⟩
def F.IPM_RX_CFG_RATE : Fld := ⟨557, 4, 12, .sh, fun _ => 0⟩
def F.IPM_RX_CFG_PTIME : Fld := ⟨558, 2, 10, .sh, fun _ => 0⟩
def F.IPM_RX_CFG_PT : Fld := ⟨559, 7, 0, .sh, fun _ => 96⟩
-- IPM_RX_LEG_SRC (R303)
def F.IPM_RX_LEG_SRC_SRC_IP : Fld := ⟨560, 32, 0, .sh, fun _ => 0⟩
-- IPM_RX_LEG_DST (R303)
def F.IPM_RX_LEG_DST_DST_IP : Fld := ⟨561, 32, 0, .sh, fun _ => 0⟩
-- IPM_RX_LEG_CTRL (R303)
def F.IPM_RX_LEG_CTRL_LEG_EN : Fld := ⟨562, 1, 31, .sh, fun _ => 0⟩
def F.IPM_RX_LEG_CTRL_INST : Fld := ⟨563, 5, 16, .sh, fun i => 16 * (i % 2)⟩
def F.IPM_RX_LEG_CTRL_UDP_PORT : Fld := ⟨564, 16, 0, .sh, fun _ => 5004⟩
-- IPM_RX_TIMING (R306)
def F.IPM_RX_TIMING_MERGE_US : Fld := ⟨565, 14, 16, .sh, fun _ => 1000⟩
def F.IPM_RX_TIMING_PLAYOUT_US : Fld := ⟨566, 14, 0, .sh, fun _ => 1000⟩
-- IPM_RX_AUD (R300)
def F.IPM_RX_AUD_CHAN_BASE : Fld := ⟨567, 16, 16, .sh, fun _ => 0⟩
def F.IPM_RX_AUD_CHANNELS : Fld := ⟨568, 7, 0, .sh, fun _ => 0⟩
-- IPM_RX_LINK (R310)
def F.IPM_RX_LINK_LINK : Fld := ⟨569, 11, 0, .sh, fun _ => 2047⟩
-- IPM_RX_SSRC (R304)
def F.IPM_RX_SSRC_SSRC : Fld := ⟨570, 32, 0, .sh, fun _ => 0⟩
-- IPM_RX_STATUS (R307)
def F.IPM_RX_STATUS_SKEW_US : Fld := ⟨571, 16, 16, .view, fun _ => 32768⟩
def F.IPM_RX_STATUS_LAST_INVALID : Fld := ⟨572, 4, 8, .ro, fun _ => 0⟩
def F.IPM_RX_STATUS_BLUE_UP : Fld := ⟨573, 1, 5, .ro, fun _ => 0⟩
def F.IPM_RX_STATUS_RED_UP : Fld := ⟨574, 1, 4, .ro, fun _ => 0⟩
def F.IPM_RX_STATUS_STATE : Fld := ⟨575, 2, 0, .ro, fun _ => 0⟩
-- IPM_RX_LEG_RX (R322)
def C.IPM_RX_LEG_RX : Ctr := ⟨124⟩
-- IPM_RX_LEG_VALID (R322)
def C.IPM_RX_LEG_VALID : Ctr := ⟨125⟩
-- IPM_RX_LEG_INVALID (R322)
def C.IPM_RX_LEG_INVALID : Ctr := ⟨126⟩
-- IPM_RX_USED (R322)
def C.IPM_RX_USED : Ctr := ⟨127⟩
-- IPM_RX_DUPLICATE (R322)
def C.IPM_RX_DUPLICATE : Ctr := ⟨128⟩
-- IPM_RX_LATE (R322)
def C.IPM_RX_LATE : Ctr := ⟨129⟩
-- IPM_RX_OVERFLOW (R322)
def C.IPM_RX_OVERFLOW : Ctr := ⟨130⟩
-- IPM_RX_SEQ_MISSING (R306)
def C.IPM_RX_SEQ_MISSING : Ctr := ⟨131⟩
-- IPM_RX_ANC_UNPLACED (R310)
def C.IPM_RX_ANC_UNPLACED : Ctr := ⟨132⟩
-- IPM_TX_CFG (R313)
def F.IPM_TX_CFG_EN : Fld := ⟨576, 1, 31, .sh, fun _ => 0⟩
def F.IPM_TX_CFG_ESSENCE : Fld := ⟨577, 3, 28, .sh, fun _ => 0⟩
def F.IPM_TX_CFG_SAMPLING : Fld := ⟨578, 1, 27, .sh, fun _ => 0⟩
def F.IPM_TX_CFG_TYPE : Fld := ⟨579, 2, 24, .sh, fun _ => 0⟩
def F.IPM_TX_CFG_DEST : Fld := ⟨580, 11, 12, .sh, fun _ => 0⟩
def F.IPM_TX_CFG_PTIME : Fld := ⟨581, 2, 10, .sh, fun _ => 0⟩
def F.IPM_TX_CFG_PT : Fld := ⟨582, 7, 0, .sh, fun _ => 96⟩
-- IPM_TX_LEG_DST (R313)
def F.IPM_TX_LEG_DST_DST_IP : Fld := ⟨583, 32, 0, .sh, fun _ => 0⟩
-- IPM_TX_LEG_PORT (R313)
def F.IPM_TX_LEG_PORT_SRC_PORT : Fld := ⟨584, 16, 16, .sh, fun _ => 0⟩
def F.IPM_TX_LEG_PORT_DST_PORT : Fld := ⟨585, 16, 0, .sh, fun _ => 0⟩
-- IPM_TX_LEG_CTRL (R313)
def F.IPM_TX_LEG_CTRL_LEG_EN : Fld := ⟨586, 1, 31, .sh, fun _ => 0⟩
def F.IPM_TX_LEG_CTRL_INST : Fld := ⟨587, 5, 16, .sh, fun i => 16 * (i % 2)⟩
-- IPM_TX_AUD (R300)
def F.IPM_TX_AUD_CHAN_BASE : Fld := ⟨588, 16, 16, .sh, fun _ => 0⟩
def F.IPM_TX_AUD_CHANNELS : Fld := ⟨589, 7, 0, .sh, fun _ => 0⟩
-- IPM_TX_SSRC (R314)
def F.IPM_TX_SSRC_SSRC : Fld := ⟨590, 32, 0, .sh, fun _ => 0⟩
-- IPM_TX_LEG_MADE (R322)
def C.IPM_TX_LEG_MADE : Ctr := ⟨133⟩
-- IPM_TX_LEG_SENT (R322)
def C.IPM_TX_LEG_SENT : Ctr := ⟨134⟩
-- IPM_TX_LEG_DROP (R322)
def C.IPM_TX_LEG_DROP : Ctr := ⟨135⟩
-- IPM_TX_STAGE_ERR (R317)
def C.IPM_TX_STAGE_ERR : Ctr := ⟨136⟩
-- IPM_TX_PACE_LATE (R316)
def C.IPM_TX_PACE_LATE : Ctr := ⟨137⟩
-- IPM_INST_IPV4 (R314)
def F.IPM_INST_IPV4_IPV4 : Fld := ⟨591, 32, 0, .rw, fun _ => 0⟩
-- IPM_INST_TX (R314)
def F.IPM_INST_TX_VLAN_EN : Fld := ⟨592, 1, 31, .rw, fun _ => 0⟩
def F.IPM_INST_TX_PCP : Fld := ⟨593, 3, 12, .rw, fun _ => 0⟩
def F.IPM_INST_TX_VID : Fld := ⟨594, 12, 0, .rw, fun _ => 0⟩
-- IPM_INST_DSCP (R314)
def F.IPM_INST_DSCP_DSCP_ANC : Fld := ⟨595, 6, 16, .rw, fun _ => 34⟩
def F.IPM_INST_DSCP_DSCP_AUD : Fld := ⟨596, 6, 8, .rw, fun _ => 46⟩
def F.IPM_INST_DSCP_DSCP_VID : Fld := ⟨597, 6, 0, .rw, fun _ => 34⟩
-- IPM_INST_OFFERED (R322)
def C.IPM_INST_OFFERED : Ctr := ⟨138⟩
-- IPM_INST_MATCHED (R322)
def C.IPM_INST_MATCHED : Ctr := ⟨139⟩
-- IPM_INST_UNMATCHED (R322)
def C.IPM_INST_UNMATCHED : Ctr := ⟨140⟩
-- IPM_INST_IP_BAD (R322)
def C.IPM_INST_IP_BAD : Ctr := ⟨141⟩
-- IPM_INST_IGMP_REPORTS (R319)
def C.IPM_INST_IGMP_REPORTS : Ctr := ⟨142⟩
-- IPM_INST_IGMP_OLD_QUERIER (R320)
def C.IPM_INST_IGMP_OLD_QUERIER : Ctr := ⟨143⟩
-- IPM_TIMEOUT (R307)
def F.IPM_TIMEOUT_LOSS_MS : Fld := ⟨598, 8, 16, .rw, fun _ => 40⟩
def F.IPM_TIMEOUT_LEG_MS : Fld := ⟨599, 8, 0, .rw, fun _ => 10⟩
-- IPM_STORE (R312)
def F.IPM_STORE_FREE : Fld := ⟨600, 18, 0, .view, fun _ => 0⟩

/-! ### 15: the registers of spec/15_audio_ports.md -/

-- APT_PORT_CFG (R375)
def F.APT_PORT_CFG_EN : Fld := ⟨601, 1, 31, .rw, fun _ => 0⟩
def F.APT_PORT_CFG_DIR : Fld := ⟨602, 1, 30, .rw, fun _ => 0⟩
def F.APT_PORT_CFG_FMT : Fld := ⟨603, 2, 28, .rw, fun _ => 0⟩
def F.APT_PORT_CFG_SLOTS : Fld := ⟨604, 2, 26, .rw, fun _ => 0⟩
def F.APT_PORT_CFG_WIDTH : Fld := ⟨605, 2, 24, .rw, fun _ => 2⟩
def F.APT_PORT_CFG_FS_NOM : Fld := ⟨606, 3, 21, .rw, fun _ => 1⟩
def F.APT_PORT_CFG_BCLK_FALL : Fld := ⟨607, 1, 20, .rw, fun _ => 0⟩
def F.APT_PORT_CFG_DATA_DELAY : Fld := ⟨608, 1, 19, .rw, fun _ => 1⟩
def F.APT_PORT_CFG_OUT_HIZ : Fld := ⟨609, 1, 18, .rw, fun _ => 0⟩
def F.APT_PORT_CFG_GROUP : Fld := ⟨610, 4, 12, .rw, fun _ => 0⟩
-- APT_PORT_MASK (R386)
def F.APT_PORT_MASK_MASK : Fld := ⟨611, 32, 0, .rw, fun _ => 0⟩
-- APT_PORT_MASK_EFF (R386)
def F.APT_PORT_MASK_EFF_MASK : Fld := ⟨612, 32, 0, .ro, fun _ => 0⟩
-- APT_PORT_CTRL (R385)
def F.APT_PORT_CTRL_RESTART : Fld := ⟨613, 1, 0, .wo, fun _ => 0⟩
-- APT_PORT_MUTE (R389)
def F.APT_PORT_MUTE_MUTE : Fld := ⟨614, 32, 0, .rw, fun _ => 0⟩
-- APT_PORT_MUTE_EFF (R390)
def F.APT_PORT_MUTE_EFF_MUTE : Fld := ⟨615, 32, 0, .ro, fun _ => 0⟩
-- APT_PORT_STATUS (R378)
def F.APT_PORT_STATUS_PHASE : Fld := ⟨616, 5, 27, .ro, fun _ => 0⟩
def F.APT_PORT_STATUS_SWAP_SUSPECT : Fld := ⟨617, 1, 26, .ro, fun _ => 0⟩
def F.APT_PORT_STATUS_LEADER : Fld := ⟨618, 1, 25, .view, fun _ => 0⟩
def F.APT_PORT_STATUS_ACQ_CAUSE : Fld := ⟨619, 4, 4, .ro, fun _ => 0⟩
def F.APT_PORT_STATUS_STATE : Fld := ⟨620, 4, 0, .ro, fun _ => 0⟩
-- APT_PORT_FS (R378)
def F.APT_PORT_FS_PPB : Fld := ⟨621, 32, 0, .ro, fun _ => 0⟩
-- APT_RECEIVED (R399)
def C.APT_RECEIVED : Ctr := ⟨144⟩
-- APT_DELIVERED (R399)
def C.APT_DELIVERED : Ctr := ⟨145⟩
-- APT_DROPPED (R399)
def C.APT_DROPPED : Ctr := ⟨146⟩
-- APT_ZERO_INSERTED (R399)
def C.APT_ZERO_INSERTED : Ctr := ⟨147⟩
-- APT_QUEUED (R399)
def C.APT_QUEUED : Ctr := ⟨148⟩
-- APT_SLIPS (R384)
def C.APT_SLIPS : Ctr := ⟨149⟩
-- APT_ZC_TIMEOUTS (R389)
def C.APT_ZC_TIMEOUTS : Ctr := ⟨150⟩
-- APT_COUNT_ERRORS (R383)
def C.APT_COUNT_ERRORS : Ctr := ⟨151⟩
-- APT_GROUP_CTRL (R392)
def F.APT_GROUP_CTRL_ARM : Fld := ⟨622, 1, 31, .w1s, fun _ => 0⟩
def F.APT_GROUP_CTRL_FIRE : Fld := ⟨623, 1, 30, .wo, fun _ => 0⟩
def F.APT_GROUP_CTRL_START_SRC : Fld := ⟨624, 3, 20, .rw, fun _ => 0⟩
def F.APT_GROUP_CTRL_PIN : Fld := ⟨625, 5, 0, .rw, fun _ => 0⟩
-- APT_GROUP_STATUS (R391)
def F.APT_GROUP_STATUS_LEADER : Fld := ⟨626, 5, 24, .ro, fun _ => 31⟩
def F.APT_GROUP_STATUS_RUNNING : Fld := ⟨627, 24, 0, .view, fun _ => 0⟩
-- APT_GROUP_MISSED (R395)
def F.APT_GROUP_MISSED_MISSED : Fld := ⟨628, 24, 0, .ro, fun _ => 0⟩
-- APT_GROUP_TIME_LO (R395)
def F.APT_GROUP_TIME_LO_NS : Fld := ⟨629, 32, 0, .ro, fun _ => 0⟩
-- APT_GROUP_TIME_HI (R395)
def F.APT_GROUP_TIME_HI_NS : Fld := ⟨630, 32, 0, .ro, fun _ => 0⟩
-- APT_GROUP_INDEX_LO (R395)
def F.APT_GROUP_INDEX_LO_INDEX : Fld := ⟨631, 32, 0, .ro, fun _ => 0⟩
-- APT_GROUP_INDEX_HI (R395)
def F.APT_GROUP_INDEX_HI_INDEX : Fld := ⟨632, 16, 0, .ro, fun _ => 0⟩
-- APT_ZC_CFG (R389)
def F.APT_ZC_CFG_ZC_TIMEOUT_MS : Fld := ⟨633, 8, 0, .rw, fun _ => 10⟩

/-! ### 16: the registers of spec/16_audio_matrix.md -/

-- AMX_DEST_LIST (R407)
def F.AMX_DEST_LIST_COUNT : Fld := ⟨634, 13, 17, .sh, fun _ => 0⟩
def F.AMX_DEST_LIST_FIRST : Fld := ⟨635, 17, 0, .sh, fun _ => 0⟩
-- AMX_DEST_RAMP (R410)
def F.AMX_DEST_RAMP_MUTE : Fld := ⟨636, 1, 31, .sh, fun _ => 0⟩
def F.AMX_DEST_RAMP_RAMP_LEN : Fld := ⟨637, 16, 0, .sh, fun _ => 0⟩
-- AMX_METER_CFG (R418)
def F.AMX_METER_CFG_EN : Fld := ⟨638, 1, 31, .rw, fun _ => 0⟩
def F.AMX_METER_CFG_SPACE : Fld := ⟨639, 1, 30, .rw, fun _ => 0⟩
def F.AMX_METER_CFG_LOUD_EN : Fld := ⟨640, 1, 29, .rw, fun _ => 0⟩
def F.AMX_METER_CFG_WEIGHT : Fld := ⟨641, 1, 28, .rw, fun _ => 0⟩
def F.AMX_METER_CFG_PEAK_IDX : Fld := ⟨642, 5, 23, .ro, fun _ => 0⟩
def F.AMX_METER_CFG_GROUP : Fld := ⟨643, 7, 16, .rw, fun _ => 0⟩
def F.AMX_METER_CFG_CHANNEL : Fld := ⟨644, 16, 0, .rw, fun _ => 0⟩
-- AMX_METER_PEAK (R419)
def F.AMX_METER_PEAK_TRUE_PEAK : Fld := ⟨645, 16, 16, .ro, fun _ => 32768⟩
def F.AMX_METER_PEAK_PEAK : Fld := ⟨646, 16, 0, .ro, fun _ => 32768⟩
-- AMX_METER_LOUD (R420)
def F.AMX_METER_LOUD_SHORT : Fld := ⟨647, 16, 16, .ro, fun _ => 32768⟩
def F.AMX_METER_LOUD_MOMENTARY : Fld := ⟨648, 16, 0, .ro, fun _ => 32768⟩
-- AMX_METER_STAT (R422)
def F.AMX_METER_STAT_INTEGRATED : Fld := ⟨649, 16, 16, .ro, fun _ => 32768⟩
def F.AMX_METER_STAT_UPDATED : Fld := ⟨650, 16, 0, .ro, fun _ => 0⟩
-- AMX_JOB_RANGE (R415)
def F.AMX_JOB_RANGE_LAST : Fld := ⟨651, 16, 16, .ro, fun _ => 0⟩
def F.AMX_JOB_RANGE_FIRST : Fld := ⟨652, 16, 0, .ro, fun _ => 0⟩
-- AMX_JOB_ENGINE (R415)
def F.AMX_JOB_ENGINE_VALID : Fld := ⟨653, 1, 31, .ro, fun _ => 0⟩
def F.AMX_JOB_ENGINE_ENGINE : Fld := ⟨654, 8, 0, .ro, fun _ => 0⟩
-- AMX_JOB_BLOCKS_DUE (R424)
def C.AMX_JOB_BLOCKS_DUE : Ctr := ⟨152⟩
-- AMX_JOB_BLOCKS_DONE (R424)
def C.AMX_JOB_BLOCKS_DONE : Ctr := ⟨153⟩
-- AMX_JOB_BLOCKS_OVERRUN (R424)
def C.AMX_JOB_BLOCKS_OVERRUN : Ctr := ⟨154⟩
-- AMX_LGROUP_LOUD (R421)
def F.AMX_LGROUP_LOUD_SHORT : Fld := ⟨655, 16, 16, .ro, fun _ => 32768⟩
def F.AMX_LGROUP_LOUD_MOMENTARY : Fld := ⟨656, 16, 0, .ro, fun _ => 32768⟩
-- AMX_LGROUP_INT (R421)
def F.AMX_LGROUP_INT_INTEGRATED : Fld := ⟨657, 16, 16, .ro, fun _ => 32768⟩
def F.AMX_LGROUP_INT_MEMBERS : Fld := ⟨658, 6, 0, .view, fun _ => 0⟩
-- AMX_LOUD_RESET (R420)
def F.AMX_LOUD_RESET_GO : Fld := ⟨659, 1, 31, .wo, fun _ => 0⟩
def F.AMX_LOUD_RESET_GROUP : Fld := ⟨660, 1, 30, .rw, fun _ => 0⟩
def F.AMX_LOUD_RESET_INDEX : Fld := ⟨661, 14, 0, .rw, fun _ => 0⟩

/-! ### 17: the registers of spec/17_fen_engines.md -/

-- FEN_MAP (R425)
def F.FEN_MAP_VALID : Fld := ⟨662, 1, 31, .ro, fun _ => 1⟩
def F.FEN_MAP_PHYS : Fld := ⟨663, 9, 0, .ro, fun i => i⟩
-- FEN_POOL (R425)
def F.FEN_POOL_RETIRED : Fld := ⟨664, 9, 16, .ro, fun _ => 0⟩
def F.FEN_POOL_FREE : Fld := ⟨665, 9, 0, .view, fun _ => 0⟩
-- FEN_SCHED (R446)
def F.FEN_SCHED_BLOCK_BUDGET : Fld := ⟨666, 20, 0, .rw, fun _ => 400000⟩
-- FEN_JOB (R443)
def F.FEN_JOB_EN : Fld := ⟨667, 1, 31, .rw, fun _ => 0⟩
def F.FEN_JOB_CLASS : Fld := ⟨668, 2, 28, .rw, fun _ => 0⟩
def F.FEN_JOB_ENTRY : Fld := ⟨669, 13, 0, .rw, fun _ => 0⟩
-- FEN_JOB_ARG (R443)
def F.FEN_JOB_ARG_ARG : Fld := ⟨670, 14, 0, .rw, fun _ => 0⟩
-- FEN_JOBS_DUE (R450)
def C.FEN_JOBS_DUE : Ctr := ⟨155⟩
-- FEN_JOBS_DONE (R450)
def C.FEN_JOBS_DONE : Ctr := ⟨156⟩
-- FEN_JOBS_OVERRUN (R450)
def C.FEN_JOBS_OVERRUN : Ctr := ⟨157⟩
-- FEN_JOBS_TRAPPED (R450)
def C.FEN_JOBS_TRAPPED : Ctr := ⟨158⟩
-- FEN_BUSY_MAX (R446)
def F.FEN_BUSY_MAX_CYCLES : Fld := ⟨671, 32, 0, .rc, fun _ => 0⟩
-- FEN_GUARD_OVF_CNT (R433)
def C.FEN_GUARD_OVF_CNT : Ctr := ⟨159⟩
-- FEN_FOLDS (R438)
def C.FEN_FOLDS : Ctr := ⟨160⟩
-- FEN_TRAPS (R447)
def C.FEN_TRAPS : Ctr := ⟨161⟩
-- FEN_VREC (R445)
def F.FEN_VREC_WORD : Fld := ⟨672, 32, 0, .ro, fun _ => 0⟩
-- FEN_ENG_CTRL (R449)
def F.FEN_ENG_CTRL_HALT : Fld := ⟨673, 1, 0, .rw, fun _ => 0⟩
-- FEN_ENG_STATUS (R425)
def F.FEN_ENG_STATUS_GUARD_OVF : Fld := ⟨674, 1, 31, .w1c, fun _ => 0⟩
def F.FEN_ENG_STATUS_LOGICAL : Fld := ⟨675, 9, 16, .ro, fun n => if n < 256 then n else 0x1FF⟩
def F.FEN_ENG_STATUS_USE : Fld := ⟨676, 3, 8, .ro, fun n => if n < 256 then 1 else 0⟩
def F.FEN_ENG_STATUS_HALTED : Fld := ⟨677, 1, 4, .view, fun _ => 0⟩
def F.FEN_ENG_STATUS_LEVEL : Fld := ⟨678, 2, 2, .view, fun _ => 0⟩
def F.FEN_ENG_STATUS_RUN : Fld := ⟨679, 1, 0, .view, fun _ => 0⟩
-- FEN_PAGE (R449)
def F.FEN_PAGE_PAGE : Fld := ⟨680, 3, 0, .rw, fun _ => 0⟩
-- FEN_TRAP (R447)
def F.FEN_TRAP_CAUSE : Fld := ⟨681, 4, 28, .ro, fun _ => 0⟩
def F.FEN_TRAP_LEVEL : Fld := ⟨682, 2, 24, .ro, fun _ => 0⟩
def F.FEN_TRAP_PC : Fld := ⟨683, 13, 0, .ro, fun _ => 0⟩
-- FEN_PTR (R437)
def F.FEN_PTR_WORD : Fld := ⟨684, 32, 0, .view, fun _ => 0⟩
-- FEN_WINDOW (R449)
def F.FEN_WINDOW_WORD : Fld := ⟨685, 32, 0, .view, fun _ => 0⟩

/-! ### 16: the registers of spec/16_audio_matrix.md -/

-- TAP_GAIN (R407)
def F.TAP_GAIN_GAIN : Fld := ⟨686, 32, 0, .sh, fun _ => 0⟩
-- TAP_SRC (R407)
def F.TAP_SRC_SOURCE : Fld := ⟨687, 16, 0, .sh, fun _ => 0⟩

/-- The commit group (R43) of a shadowed field, by its number: the group of its register window (R135). -/
def groupOf (id : Nat) : Option Nat :=
  if 105 ≤ id ∧ id ≤ 150 then some 10 else
  if 307 ≤ id ∧ id ≤ 341 then some 0 else
  if 348 ≤ id ∧ id ≤ 352 then some 1 else
  if 391 ≤ id ∧ id ≤ 396 then some 2 else
  if 397 ≤ id ∧ id ≤ 426 then some 3 else
  if 433 ≤ id ∧ id ≤ 433 then some 4 else
  if 434 ≤ id ∧ id ≤ 489 then some 5 else
  if 494 ≤ id ∧ id ≤ 503 then some 6 else
  if 512 ≤ id ∧ id ≤ 513 then some 11 else
  if 552 ≤ id ∧ id ≤ 590 then some 7 else
  if 634 ≤ id ∧ id ≤ 637 then some 8 else
  if 686 ≤ id ∧ id ≤ 687 then some 9 else
  none

/-- The shadowed fields (R2). -/
def shFields : List Fld :=
  [F.REF_CTRL_REVERTIVE, F.REF_LIMITS_REJECT_PPB, F.REF_LIMITS_ACCEPT_PPB, F.REF_AGREE_AGREE_PPB, F.REF_SLOT_SEL_SLOT, F.REF_IN_CFG_EN, F.REF_IN_CFG_RANK, F.REF_IN_CFG_TYPE] ++
  [F.REF_IN_CFG_LVDS, F.REF_IN_CFG_FALLING, F.REF_IN_CFG_ALIGN, F.REF_IN_CFG_BW, F.REF_IN_CFG_SOAK_S, F.REF_IN_SYNC_RATE, F.REF_IN_SYNC_LINES, F.REF_IN_DELAY_NS] ++
  [F.REED_LANE_CFG_RX_RATE, F.REED_LANE_CFG_TX_EN, F.REED_LANE_CFG_RX_EN, F.REED_TXGRP_CFG_RATE, F.REED_BUNDLE_EN_EN, F.ING_SLOT_CFG_FEED_INDEX, F.ING_SLOT_CFG_FEED_KIND, F.ING_SLOT_CFG_GANG] ++
  [F.ING_SLOT_CFG_PATH, F.ING_SLOT_CFG_ENABLE, F.MERE_SLOT_CFG_FRAME_PAGES, F.MERE_SLOT_CFG_DELAY, F.MERE_SLOT_CFG_DEPTH, F.MERE_DEST_CFG_READ_RESV, F.XPT_DEST_CFG_LOSS_POLICY, F.XPT_DEST_CFG_GANG] ++
  [F.XPT_DEST_CFG_FOLLOW, F.XPT_DEST_CFG_ENABLE, F.XPT_DEST_CFG_RATE, F.XPT_DEST_CFG_FORMAT, F.XPT_AC_CFG_BACKUP, F.XPT_AC_CFG_REVERTIVE, F.XPT_AC_CFG_TRIG, F.XPT_AC_CFG_AC_EN] ++
  [F.XPT_AC_THRESH_SILENCE_FR, F.XPT_AC_THRESH_ERR_RATE, F.XPT_AC_THRESH_FREEZE_FR, F.XPT_AC_THRESH_BLACK_FR, F.XPT_AC_REVERT_REVERT_FRAMES, F.XPT_GEN_CFG_FORMAT, F.XPT_GEN_CFG_RATE, F.XPT_GEN_CFG_LEVEL] ++
  [F.XPT_GEN_CFG_PATTERN, F.XPT_GEN_CFG_ENABLE, F.EGR_DEST_CFG_EMBED_GROUPS, F.MV_HEAD_CFG_FORMAT, F.MV_HEAD_CFG_RATE, F.MV_HEAD_CFG_LATE_HOLD, F.MV_HEAD_CFG_ENABLE, F.MV_SCREED_CR] ++
  [F.MV_SCREED_CB, F.MV_SCREED_Y, F.MV_TALLY_PVW_DEST, F.MV_TALLY_PGM_DEST, F.MV_CSET_PRESET, F.MV_PALETTE_CR, F.MV_PALETTE_CB, F.MV_PALETTE_Y] ++
  [F.MV_TILE_POS_Y, F.MV_TILE_POS_X, F.MV_TILE_SIZE_H, F.MV_TILE_SIZE_W, F.MV_TILE_SRC_EN, F.MV_TILE_SRC_CSET, F.MV_TILE_SRC_PROXY_SEL, F.MV_TILE_SRC_PRIORITY] ++
  [F.MV_TILE_SRC_SOURCE, F.MV_TILE_CORNICE_ALARM_EN, F.MV_TILE_CORNICE_METERS, F.MV_TILE_CORNICE_TC_EN, F.MV_TILE_CORNICE_LABEL_EN, F.MV_TILE_CORNICE_TALLY_EN, F.MV_TILE_CORNICE_BORDER_W, F.MV_TILE_CORNICE_BORDER_COL] ++
  [F.MV_TILE_METER_KIND, F.MV_TILE_METER_SPACE, F.MV_TILE_METER_CHANNEL, F.MV_TILE_LABEL_CHARS, F.MV_GUARD_POS_Y, F.MV_GUARD_POS_X, F.MV_GUARD_SIZE_H, F.MV_GUARD_SIZE_W] ++
  [F.MV_GUARD_CTRL_EN, F.MV_GUARD_CTRL_HATCH_ON_FAIL, F.MV_GUARD_CTRL_CLEAR_FRAMES, F.CNV_CFG_EN, F.CNV_CFG_FAULT_ACTION, F.CNV_CFG_GANG, F.CNV_CFG_BANK, F.CNV_CFG_PRESET] ++
  [F.CNV_CFG_IN_2020, F.CNV_CFG_OUT_2020, F.CNV_CFG_IN_FULL, F.CNV_CFG_OUT_FULL, F.CNV_CFG_DEST, F.ETH_PORT_CFG_MODE, F.ETH_PORT_CFG_ENABLE, F.IPM_RX_CFG_EN] ++
  [F.IPM_RX_CFG_ESSENCE, F.IPM_RX_CFG_SAMPLING, F.IPM_RX_CFG_SSRC_EN, F.IPM_RX_CFG_FORMAT, F.IPM_RX_CFG_RATE, F.IPM_RX_CFG_PTIME, F.IPM_RX_CFG_PT, F.IPM_RX_LEG_SRC_SRC_IP] ++
  [F.IPM_RX_LEG_DST_DST_IP, F.IPM_RX_LEG_CTRL_LEG_EN, F.IPM_RX_LEG_CTRL_INST, F.IPM_RX_LEG_CTRL_UDP_PORT, F.IPM_RX_TIMING_MERGE_US, F.IPM_RX_TIMING_PLAYOUT_US, F.IPM_RX_AUD_CHAN_BASE, F.IPM_RX_AUD_CHANNELS] ++
  [F.IPM_RX_LINK_LINK, F.IPM_RX_SSRC_SSRC, F.IPM_TX_CFG_EN, F.IPM_TX_CFG_ESSENCE, F.IPM_TX_CFG_SAMPLING, F.IPM_TX_CFG_TYPE, F.IPM_TX_CFG_DEST, F.IPM_TX_CFG_PTIME] ++
  [F.IPM_TX_CFG_PT, F.IPM_TX_LEG_DST_DST_IP, F.IPM_TX_LEG_PORT_SRC_PORT, F.IPM_TX_LEG_PORT_DST_PORT, F.IPM_TX_LEG_CTRL_LEG_EN, F.IPM_TX_LEG_CTRL_INST, F.IPM_TX_AUD_CHAN_BASE, F.IPM_TX_AUD_CHANNELS] ++
  [F.IPM_TX_SSRC_SSRC, F.AMX_DEST_LIST_COUNT, F.AMX_DEST_LIST_FIRST, F.AMX_DEST_RAMP_MUTE, F.AMX_DEST_RAMP_RAMP_LEN, F.TAP_GAIN_GAIN, F.TAP_SRC_SOURCE]

end Sys2Proof.Machine
end

