-- ==== Sys2Proof/Machine/State.lean ====
section
/-! DEFINITION. The state of the block: every register, queue, buffer, counter, mode and pin the manual
gives it, and the queue of waiting commands. -/

namespace Sys2Proof.Machine

/-- No command stops the block: every one has an effect, or is answered or discarded by a rule.  The type is
empty, so that no path can fault. -/
inductive Fault
  deriving DecidableEq, Repr

/-- Why a command is not given a meaning. -/
inductive Refusal
  /-- Raised by `exec` for a command that the model does not describe yet; safe, since nothing is claimed. -/
  | notModelled (mnemonic : String)
  deriving DecidableEq, Repr

/-- The matrix's answer to an access (R77–R81). -/
inductive Answer
  /-- A read's words. -/
  | data (words : List Nat)
  /-- A write done. -/
  | done
  /-- DECODE_ERR on every beat, with the words of the read beats (R80). -/
  | decodeErr (words : List Nat)
  /-- TARGET_ERR on every beat (R79). -/
  | targetErr
  /-- To the host, in place of either: its read completes as a Completer Abort (R81). -/
  | completerAbort
  deriving DecidableEq, Repr

/-- Why the matrix answers an access with an error (R79, R80, R84). -/
inductive BusErr
  | decode
  | target
  deriving DecidableEq, Repr

/-- A frame on APn_SD (R375, R377, R398): whether its bits change on the rising edge of BCLK, the BCLK cycles from the FS edge to the first
bit, the width of a slot, and the slots' bits, most significant first; none for a slot at high impedance. -/
structure SerialOut where
  rising : Bool
  delay : Nat
  width : Nat
  slots : List (Option Nat)
  deriving DecidableEq, Repr

/-- A Delay_Req (R325, R332): its interface, sequenceId, originTimestamp in 2⁻¹⁶ ns and domain; whether its UDP checksum is 0; over UDP its
source and destination address, destination port and DSCP; and its destination MAC address. -/
structure DelayReqOut where
  iface : Nat
  seq : Nat
  origin : Nat
  domain : Nat
  noChecksum : Bool
  udp : Option (Nat × Nat × Nat × Nat)
  dstMac : Nat
  deriving DecidableEq, Repr

/-- An IGMPv3 report (R319): source and destination address, TTL, the Router Alert option, DSCP, the VLAN tag's PCP and VID, and its record's
type, group and sources. -/
structure IgmpOut where
  srcIp : Nat
  dstIp : Nat
  ttl : Nat
  routerAlert : Bool
  dscp : Nat
  vlan : Option (Nat × Nat)
  kind : Nat
  group : Nat
  sources : List Nat
  deriving DecidableEq, Repr

/-- A packet of a transmit context as its legs send it (R313, R314): the extended sequence number, the timestamp, the marker bit, payload
type and SSRC, the addresses and UDP ports, the VLAN tag's PCP and VID, the DSCP, and the payload. -/
structure RtpOut where
  seq : Nat
  ts : Nat
  marker : Bool
  pt : Nat
  ssrc : Nat
  dstMac : Nat
  srcIp : Nat
  dstIp : Nat
  srcPort : Nat
  dstPort : Nat
  vlan : Option (Nat × Nat)
  dscp : Nat
  body : RtpBody
  deriving DecidableEq, Repr

/-- What the device sends or drives, in the order it does so. -/
inductive Out
  /-- An MSI-X message: vector, address and data of the table (R141). -/
  | msix (vector address data : Nat)
  /-- An Igkix packet on P1–P4 toward a sender (R90, R96). -/
  | igkix (port dst : Nat) (bytes : List Byte)
  /-- The answer to an access of a bus master. -/
  | bus (master : Nat) (answer : Answer)
  /-- A target, as a row of R77 (9 the sump), is granted to one of the masters that wait for it (R82). -/
  | grant (target master : Nat)
  /-- An AER error message: the bit of the uncorrectable error status (R81, R131). -/
  | aer (bit : Nat)
  /-- A configuration read's word (R130). -/
  | config (value : Nat)
  /-- Boot ROM status on the service UART: the step, and FAIL_CODE (R58, R91). -/
  | bootText (step code : Nat)
  /-- A Causeway frame with its CLASS and CSEQ, and the AN and PN that protect it, on every link that is UP (R459, R461). -/
  | causeway (cls cseq : Nat) (sa : Option (Nat × Nat)) (body : CswBody)
  /-- A line leaves egress: destination, line, the plane it came from (0 A, 1 B, 2 the previous frame), its output seal
  (R16, R469) and its words (R185, R240). -/
  | line (dest number plane value : Nat) (words : List Nat)
  /-- An access that outbound translation sends to the host: host address, write, a write's words (R133). -/
  | host (address : Nat) (write : Bool) (words : List Nat)
  /-- A transmit lane sends a superframe: its 1,024 code groups (R153, R154). -/
  | superframe (lane : Nat) (groups : List Nat)
  /-- A packet of a transmit leg (2 × context + leg) leaves (R313, R314). -/
  | rtp (leg : Nat) (packet : RtpOut)
  /-- An output port sends a frame on its data pin (R375). -/
  | serial (port : Nat) (frame : SerialOut)
  /-- An IGMPv3 report of one group leaves an instance (R319). -/
  | igmp (inst : Nat) (report : IgmpOut)
  /-- A Delay_Req leaves a PTP interface (R324, R332). -/
  | delayReq (m : DelayReqOut)
  /-- The test access port shifts out a word (R501). -/
  | tdo (value : Nat)
  /-- The I²C port answers a read (R534). -/
  | i2c (value : Nat)
  deriving DecidableEq, Repr


/-- The two counts of time: CORE cycles since power-on (a duration only, spec/02) and TIME in units of
2⁻¹⁶ ns since the ST 2059-1 epoch. -/
structure Clock where
  core : Nat
  time16 : Nat
  deriving DecidableEq, Repr

/-- A burst in progress: its master and target row, what the matrix decoded it to (the target row, or 2 for the low window while it is
working SRAM), its first address, beats of `size` bytes, those to come, and a write's bytes (R83, R86). -/
structure Burst where
  master : Nat
  target : Nat
  place : Nat
  addr : Nat
  size : Nat
  beats : Nat
  left : Nat
  write : Bool
  bytes : List Byte
  deriving DecidableEq, Repr

/-- Who issued a commit (R46, R49, R120). -/
inductive Issuer
  /-- A BAR0 write of TICK_COMMIT, the `n`-th one: the host, with P0's leases (R117). -/
  | bar0 (n : Nat)
  /-- A COMMIT command of a port, with its tag and the sender it answers. -/
  | command (port tag src : Nat)
  /-- The firmware, for the configuration changes it holds for the target frame (R109). -/
  | firmware (frame port tag : Nat)
  /-- The partner's, through a live item (R464). -/
  | mirror (port tag : Nat)
  deriving DecidableEq, Repr

/-- A pending commit (R43–R46): target frame (0: the next tick), the groups still named, the issuer. -/
structure Commit where
  target : Nat
  groups : Nat
  issuer : Issuer
  /-- It named no group when it was issued, and so is never superseded (R43). -/
  empty : Bool
  /-- The CSEQ of its live item, for the takeover (R474). -/
  cseq : Nat
  deriving DecidableEq, Repr

/-- One shadow write: field, instance, value. -/
structure ShadowWrite where
  fld : Nat
  inst : Nat
  val : Nat
  deriving DecidableEq, Repr

/-- A configuration change that the firmware holds for a target frame (R109). -/
structure HeldChange where
  frame : Nat
  port : Nat
  tag : Nat
  src : Nat
  opcode : Nat
  writes : List ShadowWrite
  /-- The shadow copies are written and committed; the change stands (R116). -/
  written : Bool
  deriving DecidableEq, Repr

/-- The frame tick (R33–R53). -/
structure Tick where
  /-- A START waits for its TIME instant (R53). -/
  waiting : Bool
  /-- The cause with which the tick stops at the end of the frame in progress: 0 STOP, else the domain. -/
  stopping : Option Nat
  /-- The number of the frame in progress. -/
  frame : Nat
  /-- The CORE cycle and the TIME (2⁻¹⁶ ns) of its T0. -/
  t0Core : Nat
  t0Time : Nat
  /-- TIME was stepped in the frame in progress: the next tick renumbers (R37). -/
  stepped : Bool
  /-- The numbers, by R33 and R34, of the next frame tick and of the next block tick that TIME reaches. -/
  next : Nat
  nextBlock : Nat
  /-- The house rate under which the pending targets were numbered (R542). -/
  rateOfTargets : Nat
  /-- HOUSE_RATE and BLOCK_RATE of the running tick (R50, R52). -/
  block : Nat
  /-- How many commits BAR0 has issued; TICK_COMMIT_STATUS describes the last. -/
  bar0Issued : Nat
  commits : List Commit
  changes : List HeldChange
  deriving DecidableEq, Repr

/-- One raise of an event: its number, arguments, TIME in ns and TIME_VALID (R138, R144). -/
structure Raise where
  num : Nat
  args : List Nat
  time : Nat
  valid : Nat
  deriving DecidableEq, Repr

/-- An event source's LAST and HELD, with the held raise (R146). -/
structure Source where
  num : Nat
  last : Option Nat
  held : Nat
  raise : Raise
  deriving DecidableEq, Repr

/-- One record of the event log (R144). -/
structure LogRecord where
  seq : Nat
  coalesced : Nat
  raise : Raise
  deriving DecidableEq, Repr

/-- The event system (R138–R151). -/
structure Events where
  /-- The events whose EVT_STATUS bit is set, rising. -/
  status : List Nat
  /-- The sources that have logged or hold a raise, by number. -/
  sources : List Source
  /-- The log, latest record first. -/
  log : List LogRecord
  wr : Nat
  rdHost : Nat
  rdLath : Nat
  full : Bool
  raised : Nat
  logged : Nat
  coalesced : Nat
  /-- The raises of the cycle in progress, latest first; they are logged at its end in the order of R139. -/
  buffer : List Raise
  /-- MSI-X vectors whose PBA bit is set (R141). -/
  pba : List Nat
  /-- PCI_OB_ERR was raised since the last change of PCI_LINK_STATUS (R133). -/
  obErr : Bool
  /-- TIME in ns at which the log last stopped being full (R147). -/
  resumed : Nat
  deriving DecidableEq, Repr

/-- A tracked sender of a port (R101). -/
structure Sender where
  port : Nat
  src : Nat
  high : Nat
  /-- Bit k is set when counter `high - k` was accepted. -/
  window : Nat
  deriving DecidableEq, Repr

/-- A packet in a port's input queue (R99, R106). -/
structure Packet where
  port : Nat
  stamp : Nat
  src : Nat
  opcode : Nat
  tag : Nat
  payload : List Byte
  /-- The key of its port when it was replaced since the packet was accepted (R104). -/
  key : Option (List Byte)
  deriving DecidableEq, Repr

/-- A tag handed to the firmware whose final response is not yet sent (R105). -/
structure PendingTag where
  port : Nat
  tag : Nat
  opcode : Nat
  src : Nat
  /-- The key under which it completes, when the port's key was replaced since (R104). -/
  key : Option (List Byte)
  deriving DecidableEq, Repr

/-- A subscriber of event notifications (R129). -/
structure Subscriber where
  port : Nat
  src : Nat
  groups : Nat
  /-- The second of CORE time in which `sent` counts. -/
  second : Nat
  sent : Nat
  deriving DecidableEq, Repr

/-- A response that waits for its P0 slot's bit to be cleared (R94). -/
structure SlotWait where
  slot : Nat
  bytes : List Byte
  final : Bool
  deriving DecidableEq, Repr

/-- A port's key and its transmit counter (R100, R103). -/
structure PortKey where
  key : Option (List Byte)
  tx : Nat
  exhausted : Bool
  /-- The CORE second in which AUTH_FAIL and REPLAYED responses are counted, and how many were sent (R102). -/
  second : Nat
  refusals : Nat
  /-- An AUTH_FAIL and a REPLAYED were already raised in that second. -/
  authRaised : Bool
  replayRaised : Bool
  deriving DecidableEq, Repr

/-- The command block (R89–R113). -/
structure Command where
  keys : List PortKey
  senders : List Sender
  queue : List Packet
  tags : List PendingTag
  subs : List Subscriber
  /-- The P0 request slots the PN1536 owns (R93). -/
  owned : List Nat
  /-- The contents of the request and response slots, by slot. -/
  requests : List (Nat × List Byte)
  responses : List (Nat × List Byte)
  /-- The bits of CMD_P0_RSP_READY, and the slots whose ready response is final. -/
  ready : List Nat
  readyFinal : List Nat
  waits : List SlotWait
  /-- Ledger counts of R128 by port: tags issued, tags completed, packets accepted. -/
  issued : List Nat
  completed : List Nat
  accepted : List Nat
  /-- Completions of P0 tags discarded at a PCI Express reset (R73). -/
  discarded : Nat
  dropped : List Nat
  /-- CONTROL frames of P3: the last CSEQ, and how many frames were sent in all and since the link came up (R459, R461). -/
  controlSeq : Nat
  controlTx : Nat
  controlPn : Nat
  deriving DecidableEq, Repr

/-- A higher word that a read of the lowest register latched for a master (R137). -/
structure Latch where
  master : Nat
  offset : Nat
  value : Nat
  deriving DecidableEq, Repr

/-- No tick: its reset state. -/
def Tick.reset : Tick :=
  { waiting := false, stopping := none, frame := 0, t0Core := 0, t0Time := 0, stepped := false, next := 0, nextBlock := 0,
    rateOfTargets := 7, block := 0, bar0Issued := 0, commits := [], changes := [] }

/-- Nothing raised, nothing logged. -/
def Events.reset : Events :=
  { status := [], sources := [], log := [], wr := 0, rdHost := 0, rdLath := 0, full := false, raised := 0,
    logged := 0, coalesced := 0, buffer := [], pba := [], obErr := false, resumed := 0 }

/-- No key, no counter. -/
def PortKey.reset : PortKey :=
  { key := none, tx := 0, exhausted := false, second := 0, refusals := 0, authRaised := false,
    replayRaised := false }

/-- No key loaded, nothing received. -/
def Command.reset : Command :=
  { keys := List.replicate 5 PortKey.reset, senders := [], queue := [], tags := [], subs := [], owned := [],
    requests := [], responses := [], ready := [], readyFinal := [], waits := [],
    issued := List.replicate 5 0, completed := List.replicate 5 0, accepted := List.replicate 5 0,
    discarded := 0, dropped := List.replicate 5 0, controlSeq := 0, controlTx := 0, controlPn := 0 }

/-- One record of the takeover report (R475). -/
structure ReportRecord where
  kind : Nat
  port : Nat
  tag : Nat
  first : Nat
  second : Nat
  frame : Nat
  deriving DecidableEq, Repr

/-- The takeover report (R475). -/
structure Report where
  cause : Nat
  flags : Nat
  epoch : Nat
  epochFrame : Nat
  frame : Nat
  records : List ReportRecord
  overflow : Nat
  deriving DecidableEq, Repr

/-- The epoch that a standby is receiving (R467). -/
structure EpochRx where
  epoch : Nat
  /-- The CRC-32C over the checkpoint frames received, and the fragments' content so far. -/
  crc : Nat
  content : Option Checkpoint
  /-- No frame of it was missing. -/
  whole : Bool
  deriving DecidableEq, Repr

/-- A blame check (R471): the destination, its slot, the frame it began in, the source frames left to watch (4: the first has
not begun), whether witness and ingest agreed so far and the ingest seals, latest first; then each seat's results. -/
structure Blame where
  dest : Nat
  slot : Nat
  began : Nat
  left : Nat
  started : Bool
  agree : Bool
  found : List Nat
  own : Option (Bool × List Nat)
  peer : Option (Bool × List Nat)
  deriving DecidableEq, Repr

/-- An action applied or admitted since the last committed epoch, for the takeover report (R474, R475). -/
structure Unconfirmed where
  cseq : Nat
  record : ReportRecord
  deriving DecidableEq, Repr

/-- An output seal that this seat computed, for the comparison of R470. -/
structure OwnSeal where
  dest : Nat
  frame : Nat
  line : Nat
  value : Nat
  deriving DecidableEq, Repr

/-- A destination whose seals mismatched of late (R470): the frame of the last mismatch, how many there were in it and the first
line, and how many consecutive frames had one. -/
structure Divergence where
  dest : Nat
  frame : Nat
  count : Nat
  line : Nat
  run : Nat
  deriving DecidableEq, Repr

/-- A Causeway lane's superframe: SEQ, FIRST and its 1,000 data bytes (R457). -/
structure LaneSf where
  seq : Nat
  first : Nat
  bytes : List Byte
  deriving DecidableEq, Repr

/-- A REDUNDANCY_CONFIG that waits (R484): the tag of its PEER_CONFIG, the two words, its own port, tag and sender, and the CORE cycle
of the limit. -/
structure PeerWait where
  sent : Nat
  cfg : Nat
  timing : Nat
  port : Nat
  tag : Nat
  src : Nat
  limit : Nat
  deriving DecidableEq, Repr

/-- The Causeway and the redundancy state (R451–R484). -/
structure Csw where
  /-- The last CSEQ sent and the last one used, by CLASS (R459). -/
  txSeq : List Nat
  rxSeq : List Nat
  /-- The CRC-32C, before its final inversion, of the live items since the cut of the last checkpoint sent, and of those since the last
  T0. -/
  txCrc : Nat
  sinceTick : Nat
  /-- The cut at the last T0: the highest LIVE CSEQ before it, and `txCrc` as it stood. -/
  cutSeq : Nat
  cutCrc : Nat
  /-- The checkpoint sent in this frame: its epoch and the CRC-32C of its frames. -/
  sent : Option (Nat × Nat)
  /-- The live items applied since the last cut that is known, with their CSEQ, oldest first; and whether it is known. -/
  applied : List (Nat × LiveItem)
  cutKnown : Bool
  /-- The CSEQ of the committed checkpoint's cut. -/
  committedCut : Nat
  /-- The last superframe accepted on each of the eight lanes, until its link superframe is taken: SEQ, FIRST and the data bytes
  (R457); none after a discard. -/
  laneIn : List (Option LaneSf)
  /-- The bytes of the stream from the delimiter of a frame in reception on, by link (R458); none after a loss, until a link
  superframe says where the next delimiter starts. -/
  stream : List (Option (List Byte))
  /-- Frames extracted from the stream that no command has judged yet, by link. -/
  arrived : List Nat
  /-- The SEQ of the last link superframe, by link. -/
  linkSeq : List (Option Nat)
  /-- The CORE cycle of the last KEEPALIVE accepted, by link (R460). -/
  alive : List (Option Nat)
  /-- The CORE cycle at which the last marker came (R473). -/
  markerAt : Nat
  /-- Own and partner's HELLO salts (R461). -/
  salt : List Byte
  peerSalt : List Byte
  /-- The Causeway key, the SAK that this seat sends with, and those of SAs n and n + 1 that the receiver keeps installed (R461). -/
  key : List Byte
  txSak : List Byte
  rxSak : List Byte
  rxSakNext : List Byte
  /-- The transmit packet number, the receiver's SA index, and the announced next index with its cycle. -/
  txPn : Nat
  rxN : Nat
  announced : Option Nat
  /-- The CORE cycles of the last KEEPALIVE and TIME sent. -/
  keepAt : Option Nat
  timeAt : Option Nat
  /-- The partner's last KEEPALIVE. -/
  peer : Option CswKeep
  receiving : Option EpochRx
  banks : List (Option Checkpoint)
  report : Option Report
  unconfirmed : List Unconfirmed
  blame : Option Blame
  /-- Destinations whose blame check waits (R471). -/
  blameQueue : List Nat
  /-- Destinations that had verdict 5, and those that had verdict 6, since the last resynchronisation began (R472). -/
  unresolved : List Nat
  noBlame : List Nat
  /-- Consecutive epochs discarded for a cause other than a missing marker (R468). -/
  badRun : Nat
  /-- Verdict 2 holds TAKEOVER_OK at 0 until STANDBY is entered again (R472). -/
  barred : Bool
  /-- A YIELD_REQ without a verdict was sent since STANDBY was entered (R473). -/
  yieldAsked : Bool
  /-- Destinations with mismatching seals of late (R470). -/
  diverging : List Divergence
  /-- Frames since STANDBY was last entered. -/
  standbySince : Nat
  /-- The CORE cycle at which a veto ends (R479). -/
  vetoEnd : Option Nat
  /-- Consecutive frame ticks with the claim and the Causeway silent (R455). -/
  silentTicks : Nat
  /-- The CORE cycle since which both claims stood, and since which the time offset exceeded 200 ns. -/
  dualSince : Option Nat
  offsetSince : Option Nat
  /-- A SWITCHOVER waits for this frame (R484), with its request. -/
  switchover : Option (Nat × Nat × Nat × Nat)
  /-- The REDUNDANCY_CONFIGs that wait for the partner's OK, oldest first (R484). -/
  peerWaits : List PeerWait
  /-- RESYNC_REQUEST is still to be sent (R476). -/
  askPending : Bool
  /-- The partner asked for a snapshot (R476); RESYNC_DONE was applied; epochs and frames since (R477). -/
  snapshotAsked : Bool
  resyncDone : Option Nat
  committedSince : Bool
  framesSince : Nat
  /-- A whole frame was compared without a mismatch since STANDBY was entered; a mismatch in this frame. -/
  mismatchInFrame : Bool
  compared : Nat
  /-- The grandmaster mirrored from the partner, and the one last raised as not visible (R468). -/
  mirroredParent : Option Nat
  parentTold : Option Nat
  /-- The seat's own output seals of the last frames, latest first (R470). -/
  seals : List OwnSeal
  deriving DecidableEq, Repr

/-- No link, no partner. -/
def Csw.reset : Csw :=
  { txSeq := List.replicate 10 0, rxSeq := List.replicate 10 0, txCrc := 0xFFFFFFFF, sinceTick := 0xFFFFFFFF, cutSeq := 0,
    cutCrc := 0xFFFFFFFF, sent := none, applied := [], cutKnown := true, committedCut := 0, laneIn := List.replicate 8 none,
    stream := [none, none], arrived := [0, 0], linkSeq := [none, none], alive := [none, none], markerAt := 0,
    salt := [], peerSalt := [], key := [], txSak := [], rxSak := [], rxSakNext := [], txPn := 0, rxN := 0, announced := none, keepAt := none, timeAt := none, peer := none,
    receiving := none, banks := [none, none], report := none,
    unconfirmed := [], blame := none, blameQueue := [], unresolved := [], noBlame := [], badRun := 0, barred := false, yieldAsked := false,
    diverging := [], standbySince := 0, vetoEnd := none,
    silentTicks := 0, dualSince := none, offsetSince := none, switchover := none, peerWaits := [], askPending := false,
    snapshotAsked := false, resyncDone := none, committedSince := false, framesSince := 0,
    mismatchInFrame := false, compared := 0, mirroredParent := none, parentTold := none, seals := [] }

/-- One route of a take command, with the status it has reached (PENDING until it is settled). -/
structure Route where
  dest : Nat
  source : Nat
  status : Nat
  deriving DecidableEq, Repr

/-- A take command whose final response is not yet sent (R224–R226). -/
structure TakeCmd where
  /-- The model's number of it, which its entries carry. -/
  gid : Nat
  port : Nat
  tag : Nat
  src : Nat
  opcode : Nat
  frame : Nat
  /-- Its responses carry RESULTS (R226). -/
  results : Bool
  /-- Its end raises XPT_SALVO_DONE. -/
  salvo : Bool
  /-- It was fired by a trigger pin: no response, tag 0 (R229). -/
  trigger : Bool
  /-- The index of the DEST_RANGE TLV (R546). -/
  index : Nat
  routes : List Route
  deriving DecidableEq, Repr

/-- An entry of the timed take list that is pending or armed. -/
structure Entry where
  gid : Nat
  dest : Nat
  source : Nat
  frame : Nat
  armed : Bool
  /-- The CSEQ of its live item, for the takeover (R474). -/
  cseq : Nat
  port : Nat
  tag : Nat
  deriving DecidableEq, Repr

/-- A route of a held salvo (R228). -/
structure HeldRoute where
  salvo : Nat
  dest : Nat
  source : Nat
  /-- The port that created the identity, and the tag. -/
  port : Nat
  tag : Nat
  cseq : Nat
  deriving DecidableEq, Repr

/-- A changeover decided at T3 that waits for its destination's switch line (R238). -/
structure Changeover where
  dest : Nat
  source : Nat
  backup : Bool
  deriving DecidableEq, Repr

/-- A running injection: the lines left in one plane of a destination (R216). -/
structure Injection where
  dest : Nat
  plane : Nat
  left : Nat
  deriving DecidableEq, Repr

/-- A line that a destination sent, by its number: its ANC packets and its active words. -/
structure SentLine where
  dest : Nat
  number : Nat
  words : LineWords
  deriving DecidableEq, Repr

/-- The timed take list, what the sluices wait for, the active words of the line that each destination sent last (its line CRC covers
them), and the lines of the frame in progress that are staged for IP transmit (R317). -/
structure Xpt where
  nextGid : Nat
  cmds : List TakeCmd
  entries : List Entry
  held : List HeldRoute
  changeovers : List Changeover
  injections : List Injection
  sent : List SentLine
  staged : List SentLine
  deriving DecidableEq, Repr

/-- An empty take list. -/
def Xpt.reset : Xpt := ⟨0, [], [], [], [], [], [], []⟩

/-- A line of a source as Mere or the skim store holds it (R202): the gang member and the line number, the seal, the damage mark and the
content. -/
structure StoredLine where
  member : Nat
  number : Nat
  crc : Nat
  damaged : Bool
  words : LineWords
  deriving DecidableEq, Repr

/-- A source frame in a slot's Mere ring (R199): its number, the instant of its first word in units of 2⁻¹⁶
CORE cycles, whether it is complete, whether readout has taken it, for a slot fed from IP its T_a (R308), and its lines in order of
arrival. -/
structure RingFrame where
  k : Nat
  start : Nat
  done : Bool
  taken : Bool
  stamp : Nat
  lines : List StoredLine
  deriving DecidableEq, Repr

/-- The Mere ring of a slot: the number of its next frame, the frame that readout took last and whether it repeats it, its frames, oldest
first, and FORMAT, RATE and lines of the last frame that was completed (R212, R235). -/
structure Ring where
  slot : Nat
  next : Nat
  last : Option Nat
  repeated : Bool
  frames : List RingFrame
  keptFmt : Nat
  keptRate : Nat
  kept : List StoredLine
  deriving DecidableEq, Repr

/-- The CRC_ERR lines of a slot's last frames, latest first (R191). -/
structure CrcHistory where
  slot : Nat
  lines : List Nat
  deriving DecidableEq, Repr

/-- Lines of a slot. -/
structure SlotLines where
  slot : Nat
  lines : List StoredLine
  deriving DecidableEq, Repr

/-- The samples of one embedded channel in the extraction FIFO of a slot, as signed 24-bit numbers (R193). -/
structure SlotAudio where
  slot : Nat
  chan : Nat
  samples : List Int
  deriving DecidableEq, Repr

/-- A proxy set of a slot (R204): the half-size and the quarter-size picture. -/
structure Proxy where
  slot : Nat
  set : Nat
  half : List Byte
  quarter : List Byte
  deriving DecidableEq, Repr

/-- The Mere rings, the histories of the CRC monitor, the lines of the frame in progress of each source, the two-line stores of the skim
path (R198), the extraction FIFOs and the proxies. -/
structure Ing where
  rings : List Ring
  crc : List CrcHistory
  current : List SlotLines
  skim : List SlotLines
  audio : List SlotAudio
  proxies : List Proxy
  deriving DecidableEq, Repr

/-- None. -/
def Ing.reset : Ing := ⟨[], [], [], [], [], []⟩


/-- A link-control message in progress on a lane: its bytes so far, or those still to send, and the SEQ of its next fragment
(R160).  Without bytes, the fragments up to that SEQ belong to a set that is discarded already. -/
structure LcmPart where
  lane : Nat
  bytes : List Byte
  next : Nat
  deriving DecidableEq, Repr

/-- Words of a sub-channel, by 4 × lane + sub-channel. -/
structure SubWords where
  sub : Nat
  words : List Nat
  deriving DecidableEq, Repr

/-- The link-control messages in progress, the words that the receivers handed ingest last (R171), and the transmit FIFOs
(R175). -/
structure Reed where
  rx : List LcmPart
  tx : List LcmPart
  handed : List SubWords
  fifo : List SubWords
  deriving DecidableEq, Repr

/-- None. -/
def Reed.reset : Reed := ⟨[], [], [], []⟩



/-- One tap of a ramp in progress: the source, its gain at the ramp's start and at its end (R410), in units of 2⁻²⁸. -/
structure RampTap where
  source : Nat
  g0 : Int
  g1 : Int
  deriving DecidableEq, Repr

/-- A ramp in progress: its destination channel, its length and its position in samples (R410, R411). -/
structure Ramp where
  dest : Nat
  length : Nat
  pos : Nat
  taps : List RampTap
  deriving DecidableEq, Repr

/-- A change of a list, a gain or a mute that took effect at T0 and first acts at the next block tick: the channel, and its
taps with their settled gains before the change (R410). -/
structure ListChange where
  dest : Nat
  taps : List (Nat × Int)
  deriving DecidableEq, Repr

/-- Tap-table units that await release: the channel whose ramp last uses them, the first unit and their number (R408). -/
structure Release where
  dest : Nat
  unit : Nat
  count : Nat
  deriving DecidableEq, Repr

/-- The samples of one channel in one block, as signed Q1.31 numbers (R406). -/
structure ChannelBlock where
  chan : Nat
  samples : List Int
  deriving DecidableEq, Repr

/-- What was played out in a period: samples, and the V, U and C bits of AES3 channels. -/
structure Played where
  blocks : List ChannelBlock
  flags : List ChannelBlock
  deriving DecidableEq, Repr

/-- The channel store and the ramps (R401–R412). -/
structure Amx where
  ramps : List Ramp
  changed : List ListChange
  released : List Release
  /-- The source channels of the block in progress, and those that SCATTER wrote for the next block. -/
  source : List ChannelBlock
  sourceNext : List ChannelBlock
  /-- The destination channels as delivered for the previous block, and those that SCATTER wrote for this one. -/
  dest : List ChannelBlock
  destNext : List ChannelBlock
  /-- The destination channels that the consumers play out in the period in progress; the delivered ones are in transfer to the
  consumers' buffers meanwhile (R21). -/
  playing : List ChannelBlock
  /-- The BLOCK job, as 64 × engine + entry, whose SCATTER last wrote a destination channel (R51, R442). -/
  writers : List (Nat × Nat)
  /-- The V (1), U (2) and C (4) bits beside the samples (R406), as numbers 0–7: of the source channels, and of the destination channels
  as delivered and as played out; and what the four periods before played out. -/
  flags : List ChannelBlock
  destFlags : List ChannelBlock
  playFlags : List ChannelBlock
  past : List Played
  deriving DecidableEq, Repr

/-- Silence. -/
def Amx.reset : Amx := ⟨[], [], [], [], [], [], [], [], [], [], [], [], []⟩

/-- What a tile shows in a frame (R254–R257). -/
inductive TileShow
  | drawn | held | screed | hatched
  deriving DecidableEq, Repr

/-- A meter of a tile's cornice at the snapshot (R260): KIND, the result's value, and whether it is stale. -/
structure MeterSnap where
  kind : Nat
  value : Nat
  stale : Bool
  deriving DecidableEq, Repr

/-- A tile at the snapshot (R247): its index, rectangle and priority; what it shows, and the proxy that it drew last with its size and the
preset of its conversion set; the border's colour and width; the label, and the timecode where it is drawn; the meters; and the alarms that
are drawn (R258–R261, R266). -/
structure TileSnap where
  tile : Nat
  x : Nat
  y : Nat
  w : Nat
  h : Nat
  priority : Nat
  shows : TileShow
  picture : List Byte
  width : Nat
  height : Nat
  preset : Nat
  border : Nat
  borderW : Nat
  label : Option (List Byte)
  time : Option Nat
  meters : List MeterSnap
  alarms : Nat
  deriving DecidableEq, Repr

/-- What a head composes in a frame: its format and rate, the screed and the palette as words of MV_SCREED's layout, its tiles, and the
regions that are drawn as hatch (R246–R262). -/
structure HeadSnap where
  fmt : Nat
  rate : Nat
  screed : Nat
  palette : List Nat
  tiles : List TileSnap
  hatched : List (Nat × Nat × Nat × Nat)
  deriving DecidableEq, Repr

/-- A head's two composition buffers, and what readout sent in the frame before (R247, R248). -/
structure HeadStore where
  head : Nat
  buffer0 : HeadSnap
  buffer1 : HeadSnap
  before : HeadSnap
  deriving DecidableEq, Repr


/-! ### The serial audio ports (R375–R399) -/

/-- What a port holds between its pins and its converter: the words of the FIFO, oldest first, each with its slot's bits at the top of 32
(R375, R399); of the pin's bit stream the bits of a word in progress, the BCLK edges of one, and the slot that the next word counts as
(R383); whether the stream has just started; and the words that the converter moved in the block before (R380). -/
structure PortFifo where
  words : List Nat
  bits : List Bool
  edges : Nat
  slot : Nat
  starting : Bool
  before : List Nat
  deriving DecidableEq, Repr

def PortFifo.reset : PortFifo := ⟨[], [], 0, 0, false, []⟩


/-- What a frame in a MAC's transmit queue is, where that matters: a packet of a transmit leg (2 × context + leg) with its
scheduled TIME and the lateness that R316 allows it, both in 2⁻¹⁶ ns, and the packet; or a PTP event
message with its sequenceId and messageType; or a Delay_Req with its interface and sequenceId. -/
inductive TxKind
  | plain
  | flow (leg due limit : Nat) (packet : RtpOut)
  | event (seq typ : Nat)
  | delayReq (iface seq : Nat)
  deriving DecidableEq, Repr

/-- A frame that waits to be sent: its length with FCS, the CORE time in units of 10 ps at which it was offered, and what it
is. -/
structure TxFrame where
  length : Nat
  offered : Nat
  kind : TxKind
  deriving DecidableEq, Repr

/-- The frames queued at a media instance (0–31) or at M0 or M1 (32, 33), oldest first. -/
structure MacQueue where
  inst : Nat
  frames : List TxFrame
  deriving DecidableEq, Repr

/-- An entry of a transmit timestamp queue (R343): port, sequenceId, messageType and the corrected timestamp in 2⁻¹⁶ ns. -/
structure TxStamp where
  port : Nat
  seq : Nat
  typ : Nat
  time : Nat
  deriving DecidableEq, Repr

/-- A first copy that a receive context stored: its sequence number, the CORE cycle of its arrival and its leg (R306). -/
structure RtpSeen where
  q : Nat
  at_ : Nat
  leg : Nat
  deriving DecidableEq, Repr

/-- A stored packet (R306, R308): its sequence number, its T_a or for audio its timestamp, and its content. -/
structure RxPacket where
  q : Nat
  stamp : Nat
  body : RtpBody
  deriving DecidableEq, Repr

/-- What a receive context remembers (R304–R308): the first copies, latest first; the CORE cycles of each leg's last valid packet
and of the last used one; the stored packets that playout has not passed, and the last one it has begun; the T_a of the frame
in progress of a Mere ring; T_a of the frame that line playout is in, and its last line; the red and blue skew of the CORE second in progress and of the one before; and one more than
the CORE seconds of the last IPM_INVALID and IPM_LATE. -/
structure RxCtx where
  id : Nat
  seen : List RtpSeen
  valid : List Nat
  used : Nat
  stored : List RxPacket
  played : Option Nat
  frame : Option Nat
  lineTa : Nat
  line : Nat
  second : Nat
  sum : Int
  count : Nat
  mean : Option Int
  invalidSecond : Nat
  lateSecond : Nat
  deriving DecidableEq, Repr

/-- A membership record of an instance (R319): EXCLUDE {} or INCLUDE with its sources, rising. -/
structure IgmpRec where
  inst : Nat
  group : Nat
  exclude : Bool
  sources : List Nat
  deriving DecidableEq, Repr

/-- A report that an instance owes: its IGMPv3 record type, group and sources. -/
structure IgmpReport where
  inst : Nat
  kind : Nat
  group : Nat
  sources : List Nat
  deriving DecidableEq, Repr

/-- A query that awaits its answer: the group, 0 for a general query, and the CORE cycle at which Max Resp Time ends. -/
structure IgmpAsked where
  inst : Nat
  group : Nat
  limit : Nat
  deriving DecidableEq, Repr

/-- The IP media block: receive contexts by number, memberships, state-change reports to be repeated, queries to be answered,
and the hash bins that the firmware has set, as instance and bin (R284). -/
structure Ipm where
  rx : List RxCtx
  igmp : List IgmpRec
  repeats : List IgmpReport
  asked : List IgmpAsked
  bins : List (Nat × Nat)
  deriving DecidableEq, Repr

/-- Nothing received, no membership. -/
def Ipm.reset : Ipm := ⟨[], [], [], [], []⟩


/-- A qualified Announce message (R326): the grandmaster's identity and its dataset, the sender's port identity, the sender's
logMessageInterval, and the CORE cycle of its receipt. -/
structure Announce where
  gm : Nat
  priority1 : Nat
  clockClass : Nat
  accuracy : Nat
  variance : Nat
  priority2 : Nat
  steps : Nat
  sender : Nat
  logInterval : Int
  at_ : Nat
  deriving DecidableEq, Repr

/-- A two-step Sync that waits for its Follow_Up (R331): sequenceId, t2 and correctionField in 2⁻¹⁶ ns, and whether it has been
counted. -/
structure SyncWait where
  seq : Nat
  t2 : Int
  corr : Int
  counted : Bool
  deriving DecidableEq, Repr

/-- What a PTP interface holds (R324, R330): its qualified Announces, the two-step Sync that waits, t2 − t1 − cS of its last
Sync, the CORE cycle of the last Sync used, the mean path delay once known, the sequenceId of its next Delay_Req and of
the one that is out, with t3 and t4 − cD as far as they are known, all times in 2⁻¹⁶ ns. -/
structure PtpIf where
  announces : List Announce
  sync : Option SyncWait
  forward : Option Int
  syncAt : Nat
  mpd : Option Int
  nextSeq : Nat
  reqSeq : Option Nat
  t3 : Option Int
  t4 : Option Int
  deriving DecidableEq, Repr

/-- An interface that has heard nothing. -/
def PtpIf.reset : PtpIf := ⟨[], none, none, 0, none, 0, none, none, none⟩



/-- A pointer generator: its steps are held as 12-bit fields (R428, R437). -/
structure FenPtr where
  origin : Nat
  span : Nat
  offset : Nat
  stepA : Nat
  stepB : Nat
  deriving DecidableEq, Repr

/-- A bank of a unit's registers (R428): A0–A3 as signed numbers, their guard hold (0 none, 1 + the depth of the overflow, 9 where
MTS set the HOLD bit), the repeat state by depth, and LR. -/
structure FenBank where
  acc : List Int
  hold : List Nat
  depth : Nat
  shf : Nat
  cnt : List Nat
  iter : List Nat
  beg : List Nat
  fin : List Nat
  lr : Nat
  deriving DecidableEq, Repr

def FenBank.reset : FenBank :=
  ⟨[0, 0, 0, 0], [0, 0, 0, 0], 0, 0, [0, 0, 0], [0, 0, 0], [0, 0, 0], [0, 0, 0], 0⟩

/-- An outstanding GATHER or SCATTER: the descriptor's fields and the list entry of the job that issued it (R442). -/
structure FenDesc where
  scatter : Bool
  kind : Nat
  first : Nat
  count : Nat
  samples : Nat
  dm : Nat
  line : Nat
  entry : Nat
  deriving DecidableEq, Repr

/-- A physical unit (R428–R443).  `mem` lists program memory as field 0 and data memory as field 1; `pcs` holds the next
instruction of each level; `job0` and `job1` name the list entries in progress at levels 0 and 1; `under` is the level that level 2
interrupted; `blockDue` and `frameDue` are the jobs that wait; `nextBg` is where the turn of the BACKGROUND jobs stands. -/
structure FenUnit where
  g : List Nat
  ptrs : List FenPtr
  banks : List FenBank
  guardOvf : Nat
  wbSat : Nat
  trapCause : List Nat
  trapPc : List Nat
  level : Nat
  pcs : List Nat
  job0 : Option Nat
  job1 : Option Nat
  under : Nat
  blockDue : List Nat
  frameDue : List Nat
  nextBg : Nat
  ops : List FenDesc
  mem : Map
  deriving DecidableEq, Repr

def FenUnit.reset : FenUnit :=
  { g := List.replicate 64 0, ptrs := List.replicate 8 ⟨0, 0, 0, 0, 0⟩, banks := List.replicate 3 FenBank.reset
    guardOvf := 0, wbSat := 0, trapCause := [0, 0], trapPc := [0, 0], level := 0, pcs := [0, 0, 0, 0]
    job0 := none, job1 := none, under := 0, blockDue := [], frameDue := [], nextBg := 0, ops := [], mem := [] }

/-- A kind-5 result record that waits for T3: its engine, the job's list entry, the slot and the words (R445). -/
structure FenRecord where
  engine : Nat
  entry : Nat
  slot : Nat
  words : List Nat
  deriving DecidableEq, Repr

/-- The units that differ from their reset state, by physical index, and the records of the frame in progress. -/
structure Fen where
  units : List (Nat × FenUnit)
  records : List FenRecord
  deriving DecidableEq, Repr

def Fen.reset : Fen := ⟨[], []⟩


/-- What is programmed in the eFuse banks that the field programs (R491): burned repairs (array, row or column), hard
post-package repairs (array, row), revoked key indices, the fused minimum SVN, BOOT_POLICY and DEBUG_LOCK; and the public-key hashes that
manufacture fused, by KEY_INDEX (R66, R491). -/
structure Efuse where
  repairs : List (Nat × Nat)
  hbm : List (Nat × Nat)
  revoked : List Nat
  svn : Nat
  policy : Nat
  debugLock : Nat
  keyHashes : List (List Byte)
  deriving DecidableEq, Repr

/-- Words still to program for an accepted EFUSE_PROGRAM (R494): what each adds, as a
bank number and two values, and how many are programmed; its request. -/
structure FuseWork where
  kind : Nat
  port : Nat
  tag : Nat
  src : Nat
  words : List (Nat × Nat × Nat)
  done : Nat
  deriving DecidableEq, Repr

/-- Rolling self-test of one pool (R495–R499): whether the slice in progress has failed once, the units that are not taken again
before a CORE cycle, the next slice of each unit that is not at its first, and the frame before whose tick the last slice that was
INCOMPLETE is not run again. -/
structure PoolTest where
  failed : Bool
  hold : List (Nat × Nat)
  next : List (Nat × Nat)
  wait : List (Nat × Nat)
  deriving DecidableEq, Repr

def PoolTest.reset : PoolTest := ⟨false, [], [], []⟩

/-- Self-test and repair (R485–R500): the eFuses, the soft repairs not yet burned in SRAM arrays and in Mere rows, the requests in
progress, oldest first, the live nonce with its CORE cycle of issue, the pools, and a reset that waits for an eFuse word (R74: device, cause). -/
structure Bist where
  efuse : Efuse
  soft : List (Nat × Nat)
  softHbm : List (Nat × Nat)
  work : List FuseWork
  nonce : Option (List Byte × Nat)
  pools : List PoolTest
  resetAsked : Option (Bool × Nat)
  deriving DecidableEq, Repr

/-- Nothing programmed, nothing under test. -/
def Bist.reset : Bist :=
  ⟨⟨[], [], [], 0, 0, 0, []⟩, [], [], [], none, List.replicate 4 PoolTest.reset, none⟩

/-- The test access port (R501–R504): the instruction in effect, the boundary register as last preloaded, and whether it drives
the balls or scan is enabled. -/
structure Tap where
  ir : Nat
  boundary : List Bool
  drives : Bool
  scan : Bool
  deriving DecidableEq, Repr

/-- IDCODE is the instruction after a TAP reset (IEEE 1149.1). -/
def Tap.reset : Tap := ⟨0x0001, [], false, false⟩

/-- A ledger as latched at the last T3: its identity, its terms, and by how much its left side exceeds its right (R28, R513). -/
structure LedgerLine where
  id : Nat
  terms : List Int
  excess : Int
  deriving DecidableEq, Repr

/-- An entry of the fault table (R513). -/
structure LedgerFault where
  id : Nat
  imbalance : Int
  frame : Nat
  deriving DecidableEq, Repr

/-- The counts of one TIME second for the rates of R507. -/
structure RateSecond where
  second : Nat
  plane : Nat
  ce : Nat
  deriving DecidableEq, Repr

/-- Health (R505–R520): the rates, the totals they were last taken from, the CORE cycles of the last Lath restarts, the ledgers as
latched, and the fault table, oldest entry first. -/
structure Health where
  rates : List RateSecond
  planeSeen : Nat
  ceSeen : Nat
  restarts : List Nat
  latched : List LedgerLine
  faults : List LedgerFault
  deriving DecidableEq, Repr

def Health.reset : Health := ⟨[], 0, 0, [], [], []⟩


/-- The device proper: everything but the Mere bytes and the queue of waiting commands. -/
structure Dev where
  /-- The register fields that differ from their reset values. -/
  reg : Map
  /-- The shadow copies that differ from the copy in effect: values written and not yet committed (R47). -/
  shadow : Map
  /-- The ledger counts above 0 (R27). -/
  ctr : Map
  /-- The implied values that differ from their reset values. -/
  hid : Map
  /-- CORE cycles and TIME. -/
  clock : Clock
  /-- The frame tick, the commits and the held configuration changes. -/
  tick : Tick
  /-- The event system. -/
  evt : Events
  /-- The command block. -/
  cmd : Command
  /-- What the device has sent, latest first. -/
  out : List Out
  /-- How many open values were drawn (the model's own). -/
  free : Nat
  /-- The Causeway and the redundancy state. -/
  csw : Csw
  /-- The timed take list. -/
  xpt : Xpt
  /-- The Mere rings and the CRC monitor's histories. -/
  ing : Ing
  /-- The composition buffers of the multiviewer heads (R247). -/
  mv : List HeadStore
  /-- The serial ports' FIFOs and bit streams (R375, R399). -/
  apt : List PortFifo
  /-- The channel store of the audio matrix and its ramps. -/
  amx : Amx
  /-- The link-control messages in progress on the Reed lanes. -/
  reed : Reed
  /-- The higher words that reads of split values have latched, by master (R137). -/
  latches : List Latch
  /-- The mean control values of the last 360 seconds, latest first; none for a second in which the loop was not LOCKED throughout (R366). -/
  refHist : List (Option Int)
  /-- The frames queued for transmit, by instance (R289). -/
  mac : List MacQueue
  /-- The transmit timestamp queues, oldest entry first (R343). -/
  txq : List (List TxStamp)
  /-- The receive contexts, the IGMP memberships and the hash bins of the firmware. -/
  ipm : Ipm
  /-- What the PTP interfaces have heard and measured. -/
  ptp : List PtpIf
  /-- The Fen units and their result records. -/
  fen : Fen
  /-- Self-test, repair and the eFuses. -/
  bist : Bist
  /-- The test access port. -/
  tap : Tap
  /-- The ledger check, the fault table and the rates of the health triggers. -/
  health : Health
  /-- Working SRAM, by byte offset (R77); a byte that is not listed is 0. -/
  sram : List Host.Cell
  /-- The boot scratch RAM (R77). -/
  scratch : List Host.Cell
  /-- The boot staging area, by offset from its first byte (R92). -/
  staging : List Host.Cell
  /-- The bytes of the image chunks that the boot ROM has accepted (R68). -/
  pushed : List Byte
  /-- The image that the boot ROM has accepted, until step 8 copies it (R59). -/
  image : Option ImageIn
  /-- The bursts in progress, oldest first (R83, R86). -/
  bursts : List Burst
  deriving DecidableEq, Repr

/-- The block's state.  `pending` holds the commands that are waiting, first in, first out. -/
structure State where
  dev : Dev
  /-- The Mere bytes, by byte address of the 32 GB aperture (R77, R132); a byte that is not listed is 0. -/
  mere : List Host.Cell
  pending : List Instr
  deriving DecidableEq, Repr

/-- The device at the end of a power-on reset, before start-up step 1. -/
def Dev.reset : Dev :=
  { reg := []
    shadow := []
    ctr := []
    hid := []
    clock := ⟨0, 0⟩
    tick := Tick.reset
    evt := Events.reset
    cmd := Command.reset
    out := []
    free := 0
    csw := Csw.reset
    xpt := Xpt.reset
    ing := Ing.reset
    mv := []
    apt := List.replicate 24 PortFifo.reset
    amx := Amx.reset
    reed := Reed.reset
    latches := []
    refHist := []
    mac := []
    txq := List.replicate 10 []
    ipm := Ipm.reset
    ptp := List.replicate 4 PtpIf.reset
    fen := Fen.reset
    bist := Bist.reset
    tap := Tap.reset
    health := Health.reset
    sram := []
    scratch := []
    staging := []
    pushed := []
    image := none
    bursts := [] }

/-- The machine right after reset: every register at the value its table gives, nothing waiting. -/
def State.reset : State :=
  { dev := Dev.reset
    mere := []
    pending := [] }

end Sys2Proof.Machine
end

