-- ==== Sys2Proof/Machine/Ops.lean ====
section
/-! DEFINITION. The named operations over the state: fields, counts, time, events and the event log, and the
packets the device sends. -/

namespace Sys2Proof.Machine

/-! ### Fields, shadow copies, counts -/

/-- The value in effect of field `f` of instance `i`. -/
def Dev.get (d : Dev) (f : Fld) (i : Nat := 0) : Nat := (d.reg.find? f.id i).getD (f.dflt i)

/-- Store `v` in field `f` of instance `i`, cut to the field's width. -/
def Dev.set (d : Dev) (f : Fld) (i v : Nat) : Dev :=
  { d with reg := d.reg.store f.id i (v % 2 ^ f.width) (f.dflt i) }

/-- The implied value `f` of instance `i`. -/
def Dev.hget (d : Dev) (f : Fld) (i : Nat := 0) : Nat := (d.hid.find? f.id i).getD (f.dflt i)

/-- Store the implied value `f` of instance `i`. -/
def Dev.hset (d : Dev) (f : Fld) (i v : Nat) : Dev :=
  { d with hid := d.hid.store f.id i (v % 2 ^ f.width) (f.dflt i) }

/-- The ledger count `c` of instance `i` (R27). -/
def Dev.count (d : Dev) (c : Ctr) (i : Nat := 0) : Nat := (d.ctr.find? c.id i).getD 0

/-- Count `n` more (R27: 64 bits). -/
def Dev.bump (d : Dev) (c : Ctr) (i : Nat := 0) (n : Nat := 1) : Dev :=
  { d with ctr := d.ctr.store c.id i ((d.count c i + n) % 2 ^ 64) 0 }

/-- The shadow copy of field `f` of instance `i`: the written value that waits for a commit, else the value
in effect (R47). -/
def Dev.getShadow (d : Dev) (f : Fld) (i : Nat := 0) : Nat := (d.shadow.find? f.id i).getD (d.get f i)

/-- A write reaches the shadow copy (R47); the last value written counts (R6). -/
def Dev.load (d : Dev) (f : Fld) (i v : Nat) : Dev :=
  { d with shadow := d.shadow.store f.id i (v % 2 ^ f.width) (d.get f i) }

/-- The instances of a field that differ from their reset value, rising. -/
def Dev.insts (d : Dev) (f : Fld) : List Nat := d.reg.insts f.id

/-- The instances of an implied value that differ from their reset value, rising. -/
def Dev.hinsts (d : Dev) (f : Fld) : List Nat := d.hid.insts f.id

/-- Run `f` over the items, the first one first. -/
def Dev.each {α : Type} (d : Dev) (l : List α) (f : Dev → α → Dev) : Dev := l.foldl f d

/-- The device sends `o`. -/
def Dev.emit (d : Dev) (o : Out) : Dev := { d with out := o :: d.out }

/-- A value the manual leaves open, and the device that has drawn it. -/
def Dev.fresh (d : Dev) : Nat × Dev := (Config.freeNat d.free, { d with free := d.free + 1 })

/-- Do `f`, but let it change nothing beyond the event system, the command block and what is sent.  Raising,
answering and logging are written through this, so that they leave every register, count and clock as it is. -/
def Dev.report (d : Dev) (f : Dev → Dev) : Dev :=
  let e := f d
  { d with evt := e.evt, cmd := e.cmd, out := e.out }

/-! ### Time -/

/-- TIME in whole nanoseconds. -/
def Dev.now (d : Dev) : Nat := d.clock.time16 / 65536

/-- TICK_STATUS.TIME_VALID. -/
def Dev.timeValid (d : Dev) : Nat := d.get F.TICK_STATUS_TIME_VALID

/-- `ns` nanoseconds pass.  CORE and TIME both run at 1 GHz (R31); that they keep step between two commands is
the model's choice (log entry 2). -/
def Dev.pass (d : Dev) (ns : Nat) : Dev :=
  { d with clock := ⟨d.clock.core + ns, d.clock.time16 + 65536 * ns⟩ }

/-- TIME reaches `t16` (2⁻¹⁶ ns), if it has not yet. -/
def Dev.passTo (d : Dev) (t16 : Nat) : Dev :=
  let gap := t16 - d.clock.time16
  { d with clock := ⟨d.clock.core + gap / 65536, d.clock.time16 + gap⟩ }

/-- CORE reaches cycle `c`, if it has not yet. -/
def Dev.passToCore (d : Dev) (c : Nat) : Dev := d.pass (c - d.clock.core)

/-- The tick runs (TICK_STATUS.RUN). -/
def Dev.running (d : Dev) : Bool := d.get F.TICK_STATUS_RUN == 1

/-- The firmware runs (TOP_STATUS.LATH_RUN). -/
def Dev.lathRuns (d : Dev) : Bool := d.get F.TOP_STATUS_LATH_RUN == 1

/-- The device is READY (R71). -/
def Dev.ready (d : Dev) : Bool := d.get F.TOP_STATUS_READY == 1

/-! ### Pins before READY (R58) -/

/-- The columns of R58's table, and READY. -/
inductive PinPhase
  | porLow
  | boot
  | start
  | ready
  | fail
  deriving DecidableEq, Repr

/-- The column in which the pins are: POR_N low, until Lath start, Lath start to READY, BOOT_FAIL. -/
def Dev.pinPhase (d : Dev) : PinPhase :=
  if d.get F.TOP_STATUS_BOOT_FAIL == 1 then .fail
  else if d.ready then .ready
  else if d.get F.TOP_STATUS_WINDOWS_OPEN == 1 then .start
  else if d.hget H.porLow == 1 then .porLow
  else .boot

/-- INT_N and the GPIO pins may be driven: from Lath start on, outside BOOT_FAIL. -/
def Dev.pinsDriven (d : Dev) : Bool := d.pinPhase == .start || d.pinPhase == .ready

/-- P4 takes Igkix packets: from Lath start on, and in BOOT_FAIL, where the boot ROM answers IDENTIFY (R62, R91). -/
def Dev.uartTakes (d : Dev) : Bool := d.pinsDriven || d.pinPhase == .fail

/-- The media and management transmitters may be on (R58): from Lath start on, and not in test mode (R502). -/
def Dev.mediaOn (d : Dev) : Bool := d.pinsDriven && d.hget H.testLatch == 0

/-! ### Sets held as rising lists -/

/-- `n` added to a rising list without repeats. -/
def insertNat (n : Nat) : List Nat → List Nat
  | [] => [n]
  | x :: l => if n = x then x :: l else if n < x then n :: x :: l else x :: insertNat n l

/-! ### Events: status bits and interrupts (R138–R143) -/

/-- EVT_STATUS of group `g`, as a word. -/
def Events.word (e : Events) (g : Nat) : Nat :=
  wordOfBits ((e.status.filter fun n => n / 32 == g).map (· % 32))

/-- Group `g` is pending (R140). -/
def Dev.groupPending (d : Dev) (g : Nat) : Bool :=
  d.evt.word g &&& d.get F.EVT_INT_EN_EN g != 0

/-- The pending groups (R140). -/
def Dev.pendingGroups (d : Dev) : List Nat := (List.range 32).filter d.groupPending

/-- INT_N is driven low (R58, R142). -/
def Dev.intN (d : Dev) : Bool :=
  d.pinsDriven && (List.range 32).any fun g => d.groupPending g && d.get F.EVT_ROUTE_INTN_EN g == 1

/-- A vector of the MSI-X table is masked, by its own mask bit or the function's (R141). -/
def Dev.vectorMasked (d : Dev) (v : Nat) : Bool :=
  d.hget H.msixFunctionMask == 1 || d.hget H.msixControl v % 2 == 1

/-- The function may send a message: Bus Master Enable, and D0 (PCI Express Base; log entry 314). -/
def Dev.mayMaster (d : Dev) : Bool := d.get F.PCI_LINK_STATUS_BME == 1 && d.hget H.pciHot == 0

/-- Signal MSI-X vector `v`: nothing while the link is down (R143) or MSI-X is off, the PBA bit while it is
masked or no message may be sent, else a message (R141). -/
def Dev.signal (d : Dev) (v : Nat) : Dev :=
  if d.get F.PCI_LINK_STATUS_UP == 0 || d.hget H.msixEnable == 0 then d
  else if d.vectorMasked v || !d.mayMaster then { d with evt := { d.evt with pba := insertNat v d.evt.pba } }
  else
    let pba := d.evt.pba.filter (· != v)
    { d with
      evt := { d.evt with pba := pba }
      out := .msix v (d.hget H.msixAddrHi v * 2 ^ 32 + d.hget H.msixAddrLo v) (d.hget H.msixData v) :: d.out }

/-- Signal the vector of group `g` if the group is pending and routed to MSI-X (R141). -/
def Dev.signalGroup (d : Dev) (g : Nat) : Dev :=
  if d.groupPending g && d.get F.EVT_ROUTE_MSIX_EN g == 1 then d.signal (d.get F.EVT_ROUTE_VECTOR g) else d

/-- An event is raised (R138): its status bit, its group's vector when the group becomes pending, the raised
count, and its place in the log of this cycle. -/
def Dev.raise (d : Dev) (n : Nat) (args : List Nat) : Dev := d.report fun d =>
  let was := d.groupPending (n / 32)
  let r : Raise := ⟨n, args.map (· % 2 ^ 32), d.now, d.timeValid⟩
  let d := { d with evt := { d.evt with
    status := insertNat n d.evt.status
    raised := (d.evt.raised + 1) % 2 ^ 64
    buffer := r :: d.evt.buffer } }
  if was then d else d.signalGroup (n / 32)

/-- The raise of event `n` with that first carried value, made in the CORE cycle in progress, does not take place after all. -/
def Dev.unraise (d : Dev) (n kind : Nat) : Dev :=
  match d.evt.buffer.find? fun r => r.num == n && r.args.head? == some kind with
  | some r => { d with evt := { d.evt with buffer := d.evt.buffer.erase r, raised := (d.evt.raised + (2 ^ 64 - 1)) % 2 ^ 64 } }
  | none => d

/-- The two words of a value wider than 32 bits, low word first (R145). -/
def words2 (v : Nat) : List Nat := [v % 2 ^ 32, v / 2 ^ 32 % 2 ^ 32]

/-! ### Packets the device sends (R94, R96, R103) -/

/-- A TLV (R97). -/
structure Tlv where
  typ : Nat
  val : List Byte
  deriving DecidableEq, Repr

/-- Its bytes: TYPE, LENGTH, the value, zero bytes to a multiple of 4 (R97). -/
def Tlv.bytes (t : Tlv) : List Byte := beBytes 2 t.typ ++ beBytes 2 t.val.length ++ padTo 4 t.val

/-- The TLV in which a response names an offending TLV, a port and a reason (R97). -/
def statusDetail (index port reason : Nat) : Tlv := ⟨0xFF, beBytes 2 index ++ beBytes 1 port ++ beBytes 1 reason⟩

/-- The largest PAYLOAD_LENGTH of a port (R89). -/
def payloadLimit (port : Nat) : Nat := if port = 0 then 4080 else if port = 4 then 1024 else 1424

/-- The port authenticates its packets (R89). -/
def keyed (port : Nat) : Bool := 1 ≤ port && port ≤ 3

/-- The 16 bytes of a header (R96). -/
def packetHeader (flags op tag port len status counter : Nat) : List Byte :=
  beBytes 1 1 ++ beBytes 1 flags ++ beBytes 2 op ++ beBytes 2 tag ++ beBytes 1 port ++ beBytes 1 0 ++
    beBytes 2 len ++ beBytes 2 status ++ beBytes 4 counter

/-- SLIP framing (RFC 1055) of a P4 packet (R89). -/
def slip (bs : List Byte) : List Byte :=
  [0xC0#8] ++ bs.flatMap (fun b =>
    if b = 0xC0#8 then [0xDB#8, 0xDC#8] else if b = 0xDB#8 then [0xDB#8, 0xDD#8] else [b]) ++ [0xC0#8]

/-- Item `i` of a list of port states. -/
def Command.portKey (c : Command) (p : Nat) : PortKey := c.keys.getD p PortKey.reset

/-- Change the key state of port `p`. -/
def Dev.setKey (d : Dev) (p : Nat) (f : PortKey → PortKey) : Dev :=
  { d with cmd := { d.cmd with keys := d.cmd.keys.modify p f } }

/-- The entry of a slot replaced. -/
def setSlot (l : List (Nat × List Byte)) (k : Nat) (bs : List Byte) : List (Nat × List Byte) :=
  (k, bs) :: l.filter (fun e => e.1 != k)

/-- A response reaches P0 slot `k`: it is written before the ready bit is set and CMD_P0_RESPONSE raised; while
the bit is still set it waits (R93, R94).  While the mailbox target is hung no response reaches its slot (R84). -/
def Dev.toSlot (d : Dev) (k : Nat) (bs : List Byte) (final : Bool) : Dev :=
  if bit (d.get F.BUS_HUNG_TARGETS) 5 then d
  else if d.cmd.ready.contains k then { d with cmd := { d.cmd with waits := d.cmd.waits ++ [⟨k, bs, final⟩] } }
  else
    let d := { d with cmd := { d.cmd with
      responses := setSlot d.cmd.responses k bs
      ready := insertNat k d.cmd.ready
      readyFinal := if final then insertNat k d.cmd.readyFinal else d.cmd.readyFinal.filter (· != k) } }
    d.raise 967 [k]

/-- The key of a packet that the port sends: that of its tag where the port's key was replaced since the request was
accepted, else the port's (R104). -/
def Dev.keyFor (d : Dev) (p tag : Nat) : Option (List Byte) :=
  match (d.cmd.tags.find? fun t => t.port == p && t.tag == tag).bind PendingTag.key with
  | some k => some k
  | none => (d.cmd.portKey p).key

/-- The AN and PN of the next Causeway frame of a CLASS; HELLO, and a device without MACsec, sends unprotected (R461). -/
def Dev.nextSa (d : Dev) (cls : Nat) : Option (Nat × Nat) :=
  if cls = 9 ∨ d.get F.CSW_CFG_MACSEC_EN = 0 then none else some (d.get F.CSW_KEY_TX_N % 4, d.csw.txPn + d.cmd.controlPn + 1)

/-- A packet of P3 leaves in a CONTROL frame while the Causeway is up, on every link that is UP (R90, R459). -/
def Dev.sendControl (d : Dev) (bytes : List Byte) : Dev :=
  if d.get F.CSW_ROLE_CAUSEWAY_UP == 0 || d.hget H.testLatch == 1 then d
  else
    let n := (d.cmd.controlSeq + 1) % 2 ^ 32
    let k := d.get F.CSW_LINK_STATUS_UP 0 + d.get F.CSW_LINK_STATUS_UP 1
    { d with
      cmd := { d.cmd with controlSeq := n, controlTx := d.cmd.controlTx + k, controlPn := d.cmd.controlPn + 1 }
      out := .causeway 1 n (d.nextSa 1) (.control bytes) :: d.out }

/-- Send one packet on port `p`: to the P0 slot `dst`, or with the port's next transmit counter and its HMAC
trailer on P1–P3 (R100, R103), or SLIP-framed with its CRC-32C on P4 (R89).  A keyed port without a key, or
with its counter exhausted, sends nothing. -/
def Dev.transmit (d : Dev) (p dst flags op tag status : Nat) (payload : List Byte) (final : Bool) : Dev :=
  d.report fun d =>
  let flags := flags + if final then 2 else 0
  if p = 0 then d.toSlot dst (packetHeader flags op tag 0 payload.length status 0 ++ payload) final
  else if keyed p then
    let k := d.cmd.portKey p
    match d.keyFor p tag with
    | none => d
    | some key =>
      if k.exhausted then d
      else
        let n := k.tx + 1
        let m := packetHeader (flags + 4) op tag p payload.length status n ++ payload
        let d := d.setKey p fun k => { k with tx := n, exhausted := n == 0xFFFFFFFF }
        let d := if p = 3 then d.sendControl (m ++ hmac key m) else d.emit (.igkix p dst (m ++ hmac key m))
        if n == 0xFFFFFFFF then d.raise 968 [p] else d
  else
    let m := packetHeader flags op tag p payload.length status 0 ++ payload
    d.emit (.igkix p dst (slip (m ++ beBytes 4 (crc32c m))))

/-- TLVs that do not fit one packet are split into consecutive ones of the same type (R545). -/
def splitTlv (limit : Nat) : Nat → Tlv → List Tlv
  | 0, t => [t]
  | n + 1, t =>
    if t.val.length ≤ limit - 4 then [t]
    else ⟨t.typ, t.val.take ((limit - 4) / 4 * 4)⟩ ::
      splitTlv limit n ⟨t.typ, t.val.drop ((limit - 4) / 4 * 4)⟩

/-- Pack TLVs into payloads of at most `limit` bytes, in order (R545). -/
def packTlvs (limit : Nat) (ts : List Tlv) : List (List Byte) :=
  let ts := ts.flatMap fun t => splitTlv limit (t.val.length / 4) t
  let step := fun (acc : List (List Byte)) (t : Tlv) =>
    match acc with
    | [] => [t.bytes]
    | cur :: done =>
      if cur.length + t.bytes.length ≤ limit then (cur ++ t.bytes) :: done else t.bytes :: cur :: done
  match (ts.foldl step []).reverse with
  | [] => [[]]
  | ps => ps

/-- Send the payloads of one response back to back; only the last carries FINAL, and only when the response is
final (R227, R545). -/
def Dev.sendAll (d : Dev) (p dst op tag status : Nat) (final : Bool) : List (List Byte) → Dev
  | [] => d
  | [pl] => d.transmit p dst 1 op tag status pl final
  | pl :: rest => (d.transmit p dst 1 op tag status pl false).sendAll p dst op tag status final rest

/-- The entry of a list of per-port counts increased. -/
def countPort (l : List Nat) (p : Nat) : List Nat := l.modify p fun n => (n + 1) % 2 ^ 64

/-- The first tag of the port with that number leaves the pending tags. -/
def dropTag (p tag : Nat) : List PendingTag → List PendingTag
  | [] => []
  | t :: l => if t.port = p ∧ t.tag = tag then l else t :: dropTag p tag l

/-- In place of a sender: the request's tag has been completed already, and no response is sent any more (R73). -/
def noReply : Nat := 2 ^ 64

/-- A response to a request (R96, R105): its packets, and, when it is final, the end of its tag. -/
def Dev.respond (d : Dev) (p src tag op status : Nat) (ts : List Tlv) (final : Bool := true) : Dev :=
  if src == noReply then d else
  d.report fun d =>
  let d := d.sendAll p src op tag status final (packTlvs (payloadLimit p) ts)
  if final then
    { d with cmd := { d.cmd with
      tags := dropTag p tag d.cmd.tags
      completed := countPort d.cmd.completed p } }
  else d

/-! ### The event log (R144–R151) -/

/-- The window of an event's group in nanoseconds (R146). -/
def Dev.window (d : Dev) (n : Nat) : Nat := 1000 * d.get F.EVT_ROUTE_COALESCE_US (n / 32)

/-- The records the slowest active reader has not passed (R148). -/
def Dev.unread (d : Dev) : Nat :=
  let lath := serialSub 32 d.evt.wr d.evt.rdLath
  if d.get F.EVT_CTRL_HOST_READER == 1 then max lath (serialSub 32 d.evt.wr d.evt.rdHost) else lath

/-- The log is full (R148). -/
def Dev.logFull (d : Dev) : Bool := d.unread == 4096

/-- The source of event `n`. -/
def Events.source (e : Events) (n : Nat) : Source :=
  (e.sources.find? fun s => s.num == n).getD ⟨n, none, 0, ⟨n, [], 0, 0⟩⟩

/-- A source put into its place. -/
def putSource (s : Source) : List Source → List Source
  | [] => [s]
  | t :: l => if s.num = t.num then s :: l else if s.num < t.num then s :: t :: l else t :: putSource s l

/-- The sum of HELD over all sources (R151). -/
def Events.held (e : Events) : Nat := (e.sources.map Source.held).sum

/-- The window after LAST of a source has ended at `t`; one of length 0 always has (R146). -/
def Dev.windowOver (d : Dev) (s : Source) (t : Nat) : Bool :=
  match s.last with
  | none => true
  | some l => d.window s.num == 0 || l + d.window s.num ≤ t

/-- The eight words of a record (R144). -/
def LogRecord.words (r : LogRecord) : List Nat :=
  [r.raise.time % 2 ^ 32, r.raise.time / 2 ^ 32 % 2 ^ 32, r.seq,
    min r.coalesced 65535 * 65536 + r.raise.valid * 1024 + r.raise.num % 1024,
    r.raise.args.getD 0 0, r.raise.args.getD 1 0, r.raise.args.getD 2 0, r.raise.args.getD 3 0]

/-- The bytes of a record as Igkix carries it: each word big-endian, word 0 first (R144). -/
def LogRecord.bytes (r : LogRecord) : List Byte := r.words.flatMap (beBytes 4)

/-- A record is offered to one subscriber: at most 1,000 notifications a second, the rest counted in
NOTIFY_DROPPED (R129). -/
def Dev.notifyOne (d : Dev) (r : LogRecord) (s : Subscriber) : Dev :=
  if !bit s.groups (r.raise.num / 32) then d
  else
    let sec := d.clock.core / 1000000000
    let sent := if s.second = sec then s.sent else 0
    if sent < 1000 then
      let d := { d with cmd := { d.cmd with subs := d.cmd.subs.map fun (t : Subscriber) =>
        if t.port = s.port ∧ t.src = s.src then { t with second := sec, sent := sent + 1 } else t } }
      d.transmit s.port s.src 9 0x0106 0 0 (Tlv.bytes ⟨0x0101, r.bytes⟩) false
    else { d with cmd := { d.cmd with dropped := d.cmd.dropped.modify s.port fun n => min 255 (n + 1) } }

/-- The firmware notifies the subscribers of a record (R129); a stopped Lath sends nothing (R22). -/
def Dev.notify (d : Dev) (r : LogRecord) : Dev :=
  if d.lathRuns then d.cmd.subs.foldl (fun d s => d.notifyOne r s) d else d

/-- The events of a change between full and not full (R149). -/
def Dev.checkFull (d : Dev) : Dev :=
  let full := d.logFull
  if full == d.evt.full then d
  else
    let d := { d with evt := { d.evt with full := full } }
    if full then
      d.raise 14 [if serialSub 32 d.evt.wr d.evt.rdLath == 4096 then 0 else 1]
    else { d with evt := { d.evt with resumed := d.now } }.raise 15 [d.evt.held]

/-- Write one record (R144, R151). -/
def Dev.writeRecord (d : Dev) (coalesced : Nat) (r : Raise) : Dev :=
  let rec' : LogRecord := ⟨d.evt.wr, coalesced, r⟩
  let d := { d with evt := { d.evt with
    log := (rec' :: d.evt.log).take 4096
    wr := (d.evt.wr + 1) % 2 ^ 32
    logged := (d.evt.logged + 1) % 2 ^ 64
    coalesced := (d.evt.coalesced + coalesced) % 2 ^ 64
    sources := putSource { d.evt.source r.num with last := some r.time, held := 0, raise := r } d.evt.sources } }
  (d.checkFull).notify rec'

/-- Log a raise, or hold it (R146). -/
def Dev.logOrHold (d : Dev) (r : Raise) : Dev :=
  let s := d.evt.source r.num
  if !d.logFull && s.held == 0 && d.windowOver s r.time then d.writeRecord 0 r
  else { d with evt := { d.evt with sources := putSource { s with held := s.held + 1, raise := r } d.evt.sources } }

/-- The sources that hold raises and whose window has ended, in the order in which they qualified, which none does before the log stopped
being full, and those of one instant in ascending event number (R147). -/
def Dev.dueSources (d : Dev) : List Source :=
  let ends := fun (s : Source) => max d.evt.resumed ((s.last.getD 0) + d.window s.num)
  sortBy (fun a b => ends a < ends b || (ends a == ends b && a.num ≤ b.num))
    (d.evt.sources.filter fun s => s.held > 0 && d.windowOver s d.now)

/-- Write the held raises whose window has ended (R147). -/
def Dev.drain (d : Dev) : Dev :=
  d.dueSources.foldl (fun d s => if d.logFull then d else d.writeRecord (s.held - 1) s.raise) d

/-- The raises of the cycle are logged in ascending event order (R139), then the held ones that are due. -/
def Dev.flushOnce (d : Dev) : Dev :=
  let rs := sortBy (fun a b => a.num ≤ b.num) d.evt.buffer.reverse
  let d := { d with evt := { d.evt with buffer := [] } }
  (rs.foldl Dev.logOrHold d).drain

/-- Samples of a block at the running block rate (R50). -/
def Dev.blockSamples (d : Dev) : Nat := if d.tick.block == 1 then 32 else 16

/-- Sample `i` of a channel in a list of blocks; 0 where nothing delivers it (R403). -/
def sampleAt (bs : List ChannelBlock) (ch i : Nat) : Int :=
  ((bs.find? fun b => b.chan == ch).map fun b => b.samples.getD i 0).getD 0

/-- A leaving sample of `w` bits, rounded convergently and saturated (R406). -/
def leavingBits (w : Nat) (x : Int) : Int := saturate w (divEven x (2 ^ (32 - w)))

/-- A leaving sample of 24 bits (R406). -/
def leaving24 (x : Int) : Int := leavingBits 24 x

end Sys2Proof.Machine
end

