-- ==== Sys2Proof/Machine/Operands.lean ====
section
/-! DEFINITION. The operand forms of the Igkix commands: TLVs and their conditions (R97, R98), the order of the
checks on a request (R112), and the tags and queues a request passes (R105, R106). -/

namespace Sys2Proof.Machine

/-! ### Status codes (R111) -/

def St.ok : Nat := 0x0000
def St.pending : Nat := 0x0001
def St.superseded : Nat := 0x0002
def St.badOpcode : Nat := 0x0100
def St.badParam : Nat := 0x0101
def St.formatMismatch : Nat := 0x0102
def St.late : Nat := 0x0103
def St.protected_ : Nat := 0x0104
def St.exhausted : Nat := 0x0105
def St.bandwidth : Nat := 0x0106
def St.linebuf : Nat := 0x0107
def St.busySelftest : Nat := 0x0108
def St.notActive : Nat := 0x0109
def St.leased : Nat := 0x010A
def St.authFail : Nat := 0x0200
def St.replayed : Nat := 0x0201
def St.internalFault : Nat := 0x0300

/-! ### TLVs -/

/-- The TLVs of a payload; a TLV that overruns the payload ends them, and its index is given (R98). -/
def parseTlvs : Nat → Nat → List Byte → List Tlv × Option Nat
  | 0, _, _ => ([], none)
  | n + 1, i, bs =>
    if bs.length = 0 then ([], none)
    else
      let len := beVal (slice 2 2 bs)
      let used := 4 + (len + 3) / 4 * 4
      if bs.length < 4 ∨ bs.length < used then ([], some i)
      else
        let (ts, short) := parseTlvs n (i + 1) (bs.drop used)
        (⟨beVal (bs.take 2), slice 4 len bs⟩ :: ts, short)

/-- What a command's table says of one TLV type: mandatory, repeatable, and the values in range. -/
structure Par where
  typ : Nat
  must : Bool
  many : Bool
  ok : List Byte → Bool

/-- A value of `n` bytes whose number meets `p`. -/
def num (n : Nat) (p : Nat → Bool) (v : List Byte) : Bool := v.length == n && p (beVal v)

/-- Any number of 4 bytes. -/
def any4 : List Byte → Bool := num 4 fun _ => true

def Par.req (typ : Nat) (ok : List Byte → Bool) : Par := ⟨typ, true, false, ok⟩
def Par.opt (typ : Nat) (ok : List Byte → Bool) : Par := ⟨typ, false, false, ok⟩
def Par.reps (typ : Nat) (ok : List Byte → Bool) : Par := ⟨typ, false, true, ok⟩
/-- Mandatory and repeatable. -/
def Par.some1 (typ : Nat) (ok : List Byte → Bool) : Par := ⟨typ, true, true, ok⟩

/-- FRAME: 8 bytes, the upper 16 bits 0 (R97). -/
def Par.frame : Par := .opt 0x0001 (num 8 fun v => v < 2 ^ 48)

/-- A pair of 2-byte numbers that meet `p`. -/
def pair (p : Nat → Nat → Bool) (v : List Byte) : Bool :=
  v.length == 4 && p (beVal (v.take 2)) (beVal (v.drop 2))

/-- DEST_RANGE: a count of 1–1,536 (R97), within the 1,536 destinations. -/
def Par.dests : Par := .req 0x0002 (pair fun f c => 1 ≤ c && f + c ≤ 1536)

/-- DEST_RANGE with at most `n` destinations. -/
def Par.destsUpTo (n : Nat) : Par := .req 0x0002 (pair fun f c => 1 ≤ c && c ≤ n && f + c ≤ 1536)

/-- What a command's table and rules say before its own conditions. -/
structure Spec where
  op : Nat
  /-- The ports that accept it; on the others it completes with BAD_OPCODE. -/
  ports : List Nat := [0, 1, 2, 3, 4]
  pars : List Par := []
  /-- The lease units that the TLVs present would write (R112, R116). -/
  units : List Tlv → List Nat := fun _ => []
  /-- The port does not hold what an expert command needs (R117, R118). -/
  unheld : Dev → Nat → List Tlv → Bool := fun _ _ _ => false

/-- The first TLV of a type. -/
def tlv? (ts : List Tlv) (typ : Nat) : Option (List Byte) := (ts.find? fun t => t.typ == typ).map Tlv.val

/-- Its number, or `d` when it is absent. -/
def tlvNum (ts : List Tlv) (typ : Nat) (d : Nat := 0) : Nat := ((tlv? ts typ).map beVal).getD d

/-- The TLV is present. -/
def hasTlv (ts : List Tlv) (typ : Nat) : Bool := ts.any fun t => t.typ == typ

/-- All the values of a repeatable type, in order. -/
def tlvAll (ts : List Tlv) (typ : Nat) : List (List Byte) := (ts.filter fun t => t.typ == typ).map Tlv.val

/-- The index of the first TLV of a type (R97: counted from 0). -/
def tlvIndex (ts : List Tlv) (typ : Nat) : Nat :=
  let i := (ts.takeWhile fun t => t.typ != typ).length
  if i < ts.length then i else 0xFFFF

/-- A destination range: first and count. -/
def tlvRange (ts : List Tlv) (typ : Nat := 0x0002) : Nat × Nat :=
  let v := (tlv? ts typ).getD []
  (beVal (v.take 2), beVal (slice 2 2 v))

/-- The numbers of a range. -/
def rangeList (r : Nat × Nat) : List Nat := (List.range r.2).map (r.1 + ·)

/-- The first TLV that offends against the form of R98: of unknown type, or repeated where that is not
allowed. -/
def formFault (pars : List Par) : Nat → List Nat → List Tlv → Option Nat
  | _, _, [] => none
  | i, seen, t :: ts =>
    match pars.find? fun p => p.typ == t.typ with
    | none => some i
    | some p => if seen.contains t.typ && !p.many then some i else formFault pars (i + 1) (t.typ :: seen) ts

/-- The first TLV whose value is out of range. -/
def valueFault (pars : List Par) : Nat → List Tlv → Option Nat
  | _, [] => none
  | i, t :: ts =>
    match pars.find? fun p => p.typ == t.typ with
    | none => valueFault pars (i + 1) ts
    | some p => if p.ok t.val then valueFault pars (i + 1) ts else some i

/-- The conditions of TLV form (R98, R112): the index the response names, or none. -/
def Spec.form (sp : Spec) (ts : List Tlv) (short : Option Nat) : Option Nat :=
  match formFault sp.pars 0 [] ts with
  | some i => some i
  | none =>
    match short with
    | some i => some i
    | none => if sp.pars.all fun p => !p.must || hasTlv ts p.typ then none else some 0xFFFF

/-! ### The frame in progress (R33) -/

/-- A house rate's n and d (R33), by its HOUSE_RATE code. -/
def rateN (code : Nat) : Nat := [24000, 24, 25, 30000, 30, 50, 60000, 60, 100, 120000, 120].getD code 60
def rateD (code : Nat) : Nat := [1001, 1, 1, 1001, 1, 1, 1001, 1, 1, 1001, 1].getD code 1

/-- The house rate in effect while the tick runs, else the one the next start takes (R52). -/
def Dev.rate (d : Dev) : Nat := d.get F.TICK_CFG_HOUSE_RATE

/-- The frame number of a TIME in ns (R33). -/
def frameOf (code ns : Nat) : Nat := ns * rateN code / (rateD code * 10 ^ 9)

/-- The number of the frame in progress; while the tick is stopped, that of TIME under R33 (log entry 21). -/
def Dev.frameNow (d : Dev) : Nat := if d.running then d.tick.frame else frameOf d.rate d.now

/-- The parameters with FRAME bound to the 2²⁰ frames after frame `n` (R110). -/
def Spec.parsAt (sp : Spec) (n : Nat) : List Par := sp.pars.map fun p =>
  if p.typ = 0x0001 then { p with ok := fun v => p.ok v && beVal v ≤ n + 2 ^ 20 } else p

/-! ### The order of the checks (R112) -/

/-- The CSR target is marked hung (R84). -/
def Dev.csrHung (d : Dev) : Bool := bit (d.get F.BUS_HUNG_TARGETS) 4

/-- The engine that carries the commands of P1–P3 meets TARGET_ERR in CSR space: a command other than CSR_READ, CSR_WRITE and NOP is
concerned (R81; which commands access no register is the model's reading, log entry 311). -/
def Dev.engineStuck (d : Dev) (port op : Nat) : Bool :=
  keyed port && d.csrHung && !([0x0103, 0x0910, 0x0911].contains op)


/-- The role, as CSW_ROLE.ROLE codes it: 0 ACTIVE, 1 STANDBY, 2 SYNCING, 3 ISOLATED, 4 OFFLINE. -/
def Dev.role (d : Dev) : Nat := d.get F.CSW_ROLE_ROLE

/-- An opcode that a role other than ACTIVE permits (R113). -/
def roleFree (op : Nat) : Bool :=
  [0x0101, 0x0102, 0x0103, 0x0104, 0x0105, 0x0106, 0x0910, 0x0901, 0x0902, 0x0903, 0x0904].contains op ||
  -- the opcodes whose names end in _GET or _STATUS
  [0x0112, 0x0121, 0x0222, 0x0207, 0x0213, 0x0214, 0x0304, 0x0306, 0x0312, 0x0356, 0x0404, 0x0405, 0x0511, 0x0522,
     0x0532, 0x0606, 0x0612, 0x0701, 0x0704, 0x0705].contains op ||
  op / 256 == 8

/-- The role permits the opcode on the port (R113). -/
def Dev.rolePermits (d : Dev) (port op : Nat) : Bool :=
  port == 3 || d.role == 0 || roleFree op || (d.role == 4 && op == 0x0911)

/-- The holder of lease unit `u`: 0–4 a port, 7 free (R114). -/
def Dev.holder (d : Dev) (u : Nat) : Nat := d.get F.CMD_LEASE_HOLDER_HOLDER u

/-- What the general checks say of a request. -/
inductive Verdict
  /-- It completes with a status, and with what STATUS_DETAIL says. -/
  | refuse (status : Nat) (detail : List Tlv)
  /-- It goes to its opcode's own conditions. -/
  | accept (ts : List Tlv)

/-- BAD_PARAM with STATUS_DETAIL (R98): the TLV index, port 0xFF, a reason. -/
def badParam (index : Nat) (reason : Nat := 0) : Verdict := .refuse St.badParam [statusDetail index 0xFF reason]

/-- The checks of R112 after the tag: opcode, READY, role, TLV form, lease, TLV values. -/
def Dev.judge (d : Dev) (q : Req) (sp : Spec) : Verdict :=
  if !sp.ports.contains q.port then .refuse St.badOpcode []
  else if !d.ready && sp.op != 0x0101 then .refuse St.busySelftest []
  else if !d.rolePermits q.port sp.op then .refuse St.notActive []
  else
    let (ts, short) := parseTlvs (q.payload.length + 1) 0 q.payload
    match sp.form ts short with
    | some i => badParam i
    | none =>
      if ((sp.units ts).any fun u => d.holder u != 7) || sp.unheld d q.port ts then .refuse St.leased []
      else
        match valueFault (sp.parsAt d.frameNow) 0 ts with
        | some i => badParam i
        | none => if d.engineStuck q.port sp.op then .refuse St.internalFault [] else .accept ts

/-! ### Taking a request up (R105, R106) -/

/-- The queued packet that is next in acceptance order: the lowest time stamp, then the lowest port. -/
def headPacket : List Packet → Option Packet
  | [] => none
  | p :: l =>
    match headPacket l with
    | none => some p
    | some h => if p.stamp < h.stamp ∨ (p.stamp = h.stamp ∧ p.port ≤ h.port) then some p else some h

/-- The queued packet is this request of opcode `op`. -/
def Packet.is (p : Packet) (q : Req) (op : Nat) : Bool :=
  p.port == q.port && p.opcode == op && p.tag == q.tag && p.src == q.src && p.payload == q.payload

/-- The medium of a port is up: the PCI Express link, the link of M0 or M1 unless BOOT_FAIL keeps the management transmitters off (R58), the
Causeway; the UART always is. -/
def Dev.mediumUp (d : Dev) (p : Nat) : Bool :=
  match p with
  | 0 => d.get F.PCI_LINK_STATUS_UP == 1
  | 1 => d.get F.MGT_STATUS_LINK 0 == 1 && d.get F.TOP_STATUS_BOOT_FAIL == 0
  | 2 => d.get F.MGT_STATUS_LINK 1 == 1 && d.get F.TOP_STATUS_BOOT_FAIL == 0
  | 3 => d.get F.CSW_ROLE_CAUSEWAY_UP == 1
  | _ => true

/-- CMD_PORT_STATUS.UP: the port is enabled and its medium is up. -/
def Dev.portOpen (d : Dev) (p : Nat) : Bool := d.get F.CMD_PORT_CTRL_ENABLE p == 1 && d.mediumUp p

/-- The port accepts packets: it is up and its key is not exhausted (R103). -/
def Dev.portUp (d : Dev) (p : Nat) : Bool := d.portOpen p && !(d.cmd.portKey p).exhausted

/-- A packet counts as received and accepted, and its tag as issued (R128). -/
def Dev.acceptPacket (d : Dev) (p : Nat) : Dev :=
  { d with cmd := { d.cmd with issued := countPort d.cmd.issued p, accepted := countPort d.cmd.accepted p } }

/-- The firmware takes up a request: the head of the acceptance order when it waits in a queue, else one that
arrives at this moment while no packet waits.  Nothing is taken up while the firmware does not run, out of turn, or on a port that is
down. -/
def Dev.takeUp (d : Dev) (q : Req) (op : Nat) : Option Dev :=
  if !d.lathRuns then none
  else
    match headPacket d.cmd.queue with
    | some h => if h.is q op then some { d with cmd := { d.cmd with queue := d.cmd.queue.erase h } } else none
    | none => if d.portUp q.port then some ((d.bump C.CMD_RECEIVED q.port).acceptPacket q.port) else none

/-- Check 5 and acceptance: the packet waits in the port's queue with its time stamp (R99, R106). -/
def Dev.enqueue (d : Dev) (p src op tag : Nat) (payload : List Byte) : Dev :=
  if (d.cmd.queue.filter fun k => k.port == p).length ≥ 256 then (d.bump C.CMD_OVERFLOWED p).raise 962 [p]
  else
    let d := d.acceptPacket p
    { d with cmd := { d.cmd with queue := d.cmd.queue ++ [⟨p, d.clock.core, src, op, tag, payload, none⟩] } }

/-- A packet that its port does not take is counted as malformed (log entry 312). -/
def Dev.notTaken (d : Dev) (p : Nat) : Dev := (d.bump C.CMD_RECEIVED p).bump C.CMD_MALFORMED p

/-- A request that is not taken up: one that arrives waits in its port's queue behind the packets that came before it (R106, R107), or is
discarded where its port is down; one that waits already stays. -/
def Dev.arrives (d : Dev) (q : Req) (op : Nat) : Dev :=
  if d.cmd.queue.any fun p => p.is q op then d
  else if d.portUp q.port then (d.bump C.CMD_RECEIVED q.port).enqueue q.port q.src op q.tag q.payload
  else d.notTaken q.port

/-- A request that no tag can be held for completes at once, under `key` where its port's key was replaced since it was accepted (R104). -/
def Dev.turnAway (d : Dev) (q : Req) (op status : Nat) (ts : List Tlv) (key : Option (List Byte) := none) : Dev := d.report fun d =>
  let d := { d with cmd := { d.cmd with tags := ⟨q.port, q.tag, op, q.src, key⟩ :: d.cmd.tags } }
  let d := d.sendAll q.port q.src op q.tag status true (packTlvs (payloadLimit q.port) ts)
  { d with cmd := { d.cmd with tags := dropTag q.port q.tag d.cmd.tags, completed := countPort d.cmd.completed q.port } }

/-- The tag is pending on the port (R105). -/
def Dev.tagPending (d : Dev) (port tag : Nat) : Bool := d.cmd.tags.any fun t => t.port == port && t.tag == tag

/-- What the tag check says of a request that it stops (R105): the status, and STATUS_DETAIL. -/
def Dev.tagFault (d : Dev) (q : Req) : Option (Nat × List Tlv) :=
  if q.tag = 0 ∨ q.tag ≥ 65536 then some (St.badParam, [statusDetail 0xFFFF 0xFF 0])
  else if d.tagPending q.port q.tag then some (St.badParam, [statusDetail 0xFFFF 0xFF 1])
  else if (d.cmd.tags.filter fun t => t.port == q.port.val).length ≥ 256 then some (St.exhausted, [])
  else none

/-- A request with its tag held. -/
def Dev.holdTag (d : Dev) (q : Req) (op : Nat) (key : Option (List Byte)) : Dev :=
  { d with cmd := { d.cmd with tags := d.cmd.tags ++ [⟨q.port, q.tag, op, q.src, key⟩] } }

/-- The replaced key that the request at the head of the acceptance order carries. -/
def Dev.headKey (d : Dev) (q : Req) (op : Nat) : Option (List Byte) :=
  match headPacket d.cmd.queue with
  | some h => if h.is q op then h.key else none
  | none => none

/-- A request completes with `status` (R96). -/
def Dev.reply (d : Dev) (q : Req) (op status : Nat) (ts : List Tlv := []) : Dev :=
  d.respond q.port q.src q.tag op status ts

/-- A command of opcode `sp.op`: taken up, its tag checked (R105), the checks of R112 in order, and then its
own conditions and effect. -/
def Dev.command (d : Dev) (q : Req) (sp : Spec) (body : Dev → List Tlv → Dev) : Dev :=
  let key := d.headKey q sp.op
  match d.takeUp q sp.op with
  | none => d.arrives q sp.op
  | some d =>
    match d.tagFault q with
    | some (status, ts) => d.turnAway q sp.op status ts key
    | none =>
      let d := d.holdTag q sp.op key
      match d.judge q sp with
      | .refuse status ts => d.reply q sp.op status ts
      | .accept ts => body d ts

/-- A response value of `n` bytes in a TLV of type 0x0101 (R544). -/
def data (vs : List (List Byte)) : Tlv := ⟨0x0101, vs.flatten⟩

/-- A 4-byte value of a response (R544). -/
def w4 (v : Nat) : List Byte := beBytes 4 v

/-- An 8-byte value of a response (R544). -/
def w8 (v : Nat) : List Byte := beBytes 8 v

/-! ### The word a register shows -/

/-- The stored part of a word at the part's bits; a write-only field reads 0 (R2), a field that is computed is added by its chapter, a count shows its low 32
bits (R517). -/
def Dev.partWord (d : Dev) (i : Nat) : Part → Nat
  | .fld f => if f.acc = .wo ∨ f.acc = .view then 0 else d.get f i % 2 ^ f.width * 2 ^ f.lsb
  | .cnt c => d.count c i % 2 ^ 32

/-- The word that the stored parts of a register make; reserved bits read 0 (R3). -/
def Dev.word (d : Dev) (ps : List Part) (i : Nat) : Nat := (ps.map (d.partWord i)).sum

/-! ### Opcodes that no chapter defines, and the end of a command -/

/-- The opcodes that the chapters define (R129). -/
def opcodes : List Nat :=
  [0x0101, 0x0102, 0x0103, 0x0104, 0x0105, 0x0106, 0x0110, 0x0111, 0x0112, 0x0120, 0x0121,
   0x0201, 0x0202, 0x0203, 0x0204, 0x0205, 0x0206, 0x0207, 0x0208, 0x0210, 0x0211, 0x0212, 0x0213, 0x0214, 0x0215, 0x0220, 0x0221, 0x0222,
   0x0301, 0x0302, 0x0303, 0x0304, 0x0305, 0x0306, 0x0310, 0x0311, 0x0312, 0x0313, 0x0350, 0x0351, 0x0352, 0x0353, 0x0354, 0x0355, 0x0356,
   0x0401, 0x0402, 0x0403, 0x0404, 0x0405,
   0x0510, 0x0511, 0x0512, 0x0520, 0x0521, 0x0522, 0x0523, 0x0530, 0x0531, 0x0532, 0x0533, 0x0534, 0x0535,
   0x0601, 0x0602, 0x0603, 0x0604, 0x0605, 0x0606, 0x0610, 0x0611, 0x0612,
   0x0701, 0x0702, 0x0703, 0x0704, 0x0705, 0x0780, 0x0781, 0x0782,
   0x0801, 0x0802, 0x0803, 0x0804, 0x0805, 0x0810, 0x0811, 0x0812, 0x0813, 0x0814, 0x0815,
   0x0901, 0x0902, 0x0903, 0x0904, 0x0910, 0x0911]

/-- The packets at the head of the acceptance order whose opcode no chapter defines complete with BAD_OPCODE, after the tag check (R112,
R129); at most `n` of them. -/
def Dev.refuseOpcodes (d : Dev) : Nat → Dev
  | 0 => d
  | n + 1 =>
    match headPacket d.cmd.queue with
    | none => d
    | some p =>
      if opcodes.contains p.opcode then d
      else
        let q : Req := ⟨Fin.ofNat 5 p.port, p.src, p.tag, p.payload⟩
        let r := (d.tagFault q).getD (St.badOpcode, [])
        let d := { d with cmd := { d.cmd with queue := d.cmd.queue.erase p } }
        (d.turnAway q p.opcode r.1 r.2 p.key).refuseOpcodes n

/-- The firmware's work on the input queues that no command of the table stands for. -/
def Dev.serveQueues (d : Dev) : Dev := if d.lathRuns then d.refuseOpcodes d.cmd.queue.length else d

/-- The end of a command's cycle: the packets that the firmware refuses by their opcode, and the log's work.  Logging itself raises at most EVT_LOG_FULL or
EVT_LOG_RESUMED and CMD_KEY_EXHAUSTED, so three rounds empty the buffer. -/
def Dev.flush (d : Dev) : Dev := d.report fun d => d.serveQueues.flushOnce.flushOnce.flushOnce

/-- A command's effect on the device, and the log's work at its end. -/
def lift (f : Dev → Dev) (s : State) : Host.Outcome State Fault Refusal :=
  .next { s with dev := (f s.dev).flush }

end Sys2Proof.Machine
end

