-- ==== Sys2Proof/Machine/Commit.lean ====
section
/-! DEFINITION. Live items to the partner (R463), and the commit of shadowed fields (R43–R49) with the
configuration changes that the firmware holds for a target frame (R109, R110). -/

namespace Sys2Proof.Machine

/-! ### Live items (R459, R463, R464) -/

/-- The bytes over which the live-item CRC runs.  The manual gives no layout of an item; this one is the
model's (log entry 12). -/
def liveBytes : LiveItem → List Byte
  | .write o v => 0#8 :: (beBytes 4 o ++ beBytes 4 v)
  | .commit t g p k => 1#8 :: (beBytes 6 t ++ beBytes 2 g ++ beBytes 1 p ++ beBytes 2 k)
  | .enlist d s f p k => 2#8 :: (beBytes 2 d ++ beBytes 2 s ++ beBytes 6 f ++ beBytes 1 p ++ beBytes 2 k)
  | .cancel d f p k => 3#8 :: (beBytes 2 d ++ beBytes 6 f ++ beBytes 1 p ++ beBytes 2 k)
  | .prepare i d s p k => 4#8 :: (beBytes 1 i ++ beBytes 2 d ++ beBytes 2 s ++ beBytes 1 p ++ beBytes 2 k)
  | .discard i => 5#8 :: beBytes 1 i
  | .fire i f p k => 6#8 :: (beBytes 1 i ++ beBytes 6 f ++ beBytes 1 p ++ beBytes 2 k)
  | .protect a n p => 7#8 :: (beBytes 2 a ++ beBytes 2 n ++ beBytes 1 p)
  | .changeover d s b => 8#8 :: (beBytes 2 d ++ beBytes 2 s ++ beBytes 1 (ofBool b))
  | .snapshot o v => 9#8 :: (beBytes 4 o ++ beBytes 4 v)

/-- The Causeway is up (R460). -/
def Dev.causewayUp (d : Dev) : Bool := d.get F.CSW_ROLE_CAUSEWAY_UP == 1

/-- The Causeway links that are UP (R457). -/
def Dev.linksUp (d : Dev) : Nat := d.get F.CSW_LINK_STATUS_UP 0 + d.get F.CSW_LINK_STATUS_UP 1

/-- The next CSEQ of a CLASS (R459). -/
def Csw.nextSeq (c : Csw) (cls : Nat) : Nat := (c.txSeq.getD cls 0 + 1) % 2 ^ 32

/-- A Causeway frame of a CLASS goes out on every link that is UP, with the CLASS's next CSEQ (R459), when `on`; a device in test
mode sends nothing (R503). -/
def Dev.clinkIf (d : Dev) (on : Bool) (cls : Nat) (body : CswBody) : Dev :=
  let on := on && d.linksUp != 0 && d.hget H.testLatch == 0
  let n := d.csw.nextSeq cls
  { d with
    csw := if on then { d.csw with txSeq := d.csw.txSeq.set cls n, txPn := d.csw.txPn + ofBool (cls != 9) } else d.csw
    ctr := if on then (d.bump C.CSW_FR_TX 0 d.linksUp).ctr else d.ctr
    out := if on then .causeway cls n (d.nextSa cls) body :: d.out else d.out }

/-- A frame of the link itself: KEEPALIVE, TIME, HELLO. -/
def Dev.clink (d : Dev) (cls : Nat) (body : CswBody) : Dev := d.clinkIf true cls body

/-- A frame that needs the Causeway up. -/
def Dev.csend (d : Dev) (cls : Nat) (body : CswBody) : Dev := d.clinkIf d.causewayUp cls body

/-- The CRC-32C, before its final inversion, continued over an item. -/
def liveCrc (crc : Nat) (item : LiveItem) : Nat := (liveBytes item).foldl (crcByte 0x82F63B78) crc

/-- A change is mirrored while the role is ACTIVE and the Causeway is up: it takes the next LIVE CSEQ (R463, R464). -/
def Dev.live (d : Dev) (item : LiveItem) : Dev :=
  let e := d.clinkIf (d.role == 0 && d.causewayUp) 2 (.live item)
  let on := d.role == 0 && d.causewayUp
  { d with
    csw := if on then { e.csw with txCrc := liveCrc d.csw.txCrc item, sinceTick := liveCrc d.csw.sinceTick item } else d.csw
    ctr := e.ctr
    out := e.out }

/-! ### Shadow copies (R43, R47, R120) -/

/-- The value at reset of the shadowed field numbered `id`. -/
def shadowDflt (id i : Nat) : Nat := ((shFields.find? fun f => f.id == id).map fun f => f.dflt i).getD 0

/-- The shadow cell belongs to a group of the mask. -/
def inGroups (mask : Nat) (c : Cell) : Bool :=
  match groupOf c.fld with
  | some g => bit mask g
  | none => false

/-- Every shadow copy of the groups is copied into the copy in effect (R43). -/
def Dev.applyGroups (d : Dev) (mask : Nat) : Dev :=
  { d with
    reg := (d.shadow.filter (inGroups mask)).foldl (fun m c => m.store c.fld c.inst c.val (shadowDflt c.fld c.inst)) d.reg
    shadow := d.shadow.filter fun c => !inGroups mask c }

/-- Every shadow copy of the groups is reloaded with the value in effect (R120, R474). -/
def Dev.reloadGroups (d : Dev) (mask : Nat) : Dev :=
  { d with shadow := d.shadow.filter fun c => !inGroups mask c }

/-! ### Completing a commit -/

/-- How a commit ends. -/
inductive CommitEnd
  | applied | late | superseded | exhausted | leased | cancelled
  deriving DecidableEq, Repr

/-- TICK_COMMIT_STATUS.STATE for it. -/
def CommitEnd.state : CommitEnd → Nat
  | .applied => 2 | .late => 3 | .superseded => 4 | .exhausted => 5 | .leased => 6 | .cancelled => 7

/-- The status its command completes with (R111); a commit cancelled at a takeover completes SUPERSEDED, as the
takes of R474 do (log entry 13). -/
def CommitEnd.status : CommitEnd → Nat
  | .applied => St.ok | .late => St.late | .superseded => St.superseded | .exhausted => St.exhausted
  | .leased => St.leased | .cancelled => St.superseded

/-- The ledger term that counts it (R49). -/
def CommitEnd.count (d : Dev) : CommitEnd → Dev
  | .applied => d.bump K.COMMITS_APPLIED
  | .late => d.bump K.COMMITS_LATE
  | .superseded => d.bump K.COMMITS_SUPERSEDED
  | .leased => d.bump K.COMMITS_LEASED
  | .cancelled => d.bump K.COMMITS_CANCELLED
  | .exhausted => d

/-- A held change's command completes, while the firmware runs; while it is stopped no response is sent and the
tag stays pending (R73). -/
def Dev.changeDone (d : Dev) (h : HeldChange) (status : Nat) : Dev :=
  if d.lathRuns then d.respond h.port h.src h.tag h.opcode status [] else d

/-- The held changes of a frame that pass `p` leave the firmware and complete with `status`. -/
def Dev.endChanges (d : Dev) (p : HeldChange → Bool) (status : Nat) : Dev :=
  let hs := d.tick.changes.filter p
  let d := { d with tick := { d.tick with changes := d.tick.changes.filter fun h => !p h } }
  hs.foldl (fun d h => d.changeDone h status) d

/-- The issuer learns how its commit ended: TICK_COMMIT_STATUS when it is BAR0's most recent one, the command's
final response, or the responses of the changes the firmware committed. -/
def Dev.tellIssuer (d : Dev) (c : Commit) (e : CommitEnd) : Dev :=
  match c.issuer with
  | .bar0 n =>
    if n == d.tick.bar0Issued then
      let d := d.set F.TICK_COMMIT_STATUS_STATE 0 e.state
      if e == .applied then d.set F.TICK_COMMIT_STATUS_APPLIED_EPOCH 0 (d.get F.TICK_EPOCH_EPOCH) else d
    else d
  | .command port tag src => if d.lathRuns then d.respond port src tag 0x0510 e.status [] else d
  | .firmware frame _ _ => d.endChanges (fun h => h.written && h.frame == frame) e.status
  | .mirror _ _ => d

/-- A commit ends: its ledger term, COMMIT_LATE when it is late, and its issuer (R44, R49). -/
def Dev.commitEnds (d : Dev) (c : Commit) (e : CommitEnd) : Dev :=
  let d := e.count d
  let d := if e == .late then d.raise 33 (words2 c.target ++ [c.groups]) else d
  d.tellIssuer c e

/-! ### Issuing a commit (R43–R46) -/

/-- A later commit takes its groups away from the earlier ones; those left with no group complete SUPERSEDED
(R46).  An empty commit is never superseded (R43). -/
def Dev.takeGroups (d : Dev) (groups : Nat) : Dev :=
  let cut := fun (c : Commit) => { c with groups := c.groups &&& (0xFFF ^^^ groups) }
  let gone := (d.tick.commits.map cut).filter fun c => c.groups == 0 && !c.empty
  let d := { d with tick := { d.tick with
    commits := (d.tick.commits.map cut).filter fun c => c.groups != 0 || c.empty } }
  gone.foldl (fun d c => d.commitEnds c .superseded) d

/-- The commit's live item (R463). -/
def Commit.item (c : Commit) : LiveItem :=
  match c.issuer with
  | .bar0 _ => .commit c.target c.groups 0xFF 0
  | .command p t _ => .commit c.target c.groups p t
  | .firmware _ p t => .commit c.target c.groups p t
  | .mirror p t => .commit c.target c.groups p t

/-- A commit reaches the tick block: LATE in or after the T0 cycle of its frame (R44), refused while 16 are
pending (R46), else pending, with its groups taken from the earlier ones.  A commit that is both late and the seventeenth is LATE
(DEDUCED, log entry 302). -/
def Dev.issueCommit (d : Dev) (target groups : Nat) (issuer : Issuer) : Dev :=
  let c : Commit := ⟨target, groups, issuer, groups == 0, d.csw.nextSeq 2⟩
  if target != 0 && target ≤ d.tick.frame then (d.bump K.COMMITS_ACCEPTED).commitEnds c .late
  else if d.tick.commits.length ≥ 16 then d.tellIssuer c .exhausted
  else
    let d := (d.bump K.COMMITS_ACCEPTED).takeGroups groups
    let d := { d with tick := { d.tick with commits := d.tick.commits ++ [c] } }
    -- the frame that target 0 stands for is resolved in the item
    d.live (if target = 0 ∧ d.running then { c with target := d.tick.frame + 1 } else c).item

/-! ### Held configuration changes (R109, R110, R116) -/

/-- The commit group mask of a list of shadow writes. -/
def groupsOf (ws : List ShadowWrite) : Nat :=
  ws.foldl (fun m w => match groupOf w.fld with | some g => m ||| 2 ^ g | none => m) 0

/-- The smallest TIME in ns with frame number `f` (R33), counted in whole nanoseconds: TIME's 16-bit fraction names no earlier instant
(DEDUCED, log entry 301). -/
def frameStart (code f : Nat) : Nat := (f * rateD code * 10 ^ 9 + rateN code - 1) / rateN code

/-- The frame period in ns, rounded down. -/
def framePeriod (code : Nat) : Nat := rateD code * 10 ^ 9 / rateN code

/-- The half-frame of the frame in progress has passed (R39); while the tick is stopped, by TIME (log entry 21). -/
def Dev.pastHalf (d : Dev) : Bool :=
  if d.running then d.tick.t0Core + framePeriod d.rate / 2 ≤ d.clock.core
  else frameStart d.rate d.frameNow + framePeriod d.rate / 2 ≤ d.now

/-- The distinct target frames of the changes held and not yet written (R110). -/
def heldFrames (hs : List HeldChange) : List Nat :=
  hs.foldl (fun l h => if h.written then l else insertNat h.frame l) []

/-- A configuration change of a basic command is held for its target frame (R109): `frame` as the FRAME TLV
gives it (0: the earliest). -/
def Dev.holdChange (d : Dev) (q : Req) (op frame : Nat) (ws : List ShadowWrite) : Dev :=
  let cur := d.frameNow
  let n := if frame = 0 then (if d.pastHalf then cur + 2 else cur + 1) else frame
  if n ≤ cur ∨ (n = cur + 1 ∧ d.pastHalf) then d.reply q op St.late
  else
    let held := heldFrames d.tick.changes
    if !held.contains n && held.length ≥ 256 then d.reply q op St.exhausted
    else { d with tick := { d.tick with
      changes := d.tick.changes ++ [⟨n, q.port, q.tag, q.src, op, ws, false⟩] } }

/-- The FRAME a request names, 0 when absent. -/
def frameTlv (ts : List Tlv) : Nat := tlvNum ts 0x0001

/-- A change of configuration as a shadow write. -/
def sw (f : Fld) (i v : Nat) : ShadowWrite := ⟨f.id, i, v % 2 ^ f.width⟩

/-- The value that a shadowed field will have at frame `n`: the shadow copy where a commit that is pending for
that frame or an earlier one names the field's group, else the value in effect (R221). For the frame in progress it is
the value in effect: its T0 has passed (R43). -/
def Dev.effectiveAt (d : Dev) (n : Nat) (f : Fld) (i : Nat := 0) : Nat :=
  match groupOf f.id with
  | none => d.get f i
  | some g =>
    if d.running && n ≤ d.tick.frame then d.get f i
    else if d.tick.commits.any fun c => c.target ≤ n && bit c.groups g then d.getShadow f i else d.get f i

/-- The value that a field will have once everything held is applied: the last write among the pending shadow copies and the
changes held for that frame or an earlier one, else the value in effect. -/
def Dev.planned (d : Dev) (f : Fld) (i : Nat := 0) : Nat :=
  ((d.tick.changes.filter fun h => !h.written).foldl (fun v h =>
    h.writes.foldl (fun v w => if w.fld = f.id ∧ w.inst = i then w.val else v) v) (d.getShadow f i))

end Sys2Proof.Machine
end

