-- ==== Sys2Proof/Machine/Formats.lean ====
section
/-! DEFINITION. The formats of the ingest format table (spec/08), their switch lines (R217), the frame rates that
a house rate supports (R35), and the capacity of a Reed sub-channel (R163, R164). -/

namespace Sys2Proof.Machine

/-- The formats of the table, other than 0x00 (none detected). -/
def formats : List Nat := [0x01, 0x02, 0x10, 0x11, 0x12, 0x20, 0x21, 0x22, 0x30, 0x40, 0x50]

/-- Lines of a frame, of one member's data stream for a gang (R217). -/
def frameLines (fmt : Nat) : Nat :=
  if fmt = 0x01 then 525 else if fmt = 0x02 then 625 else if fmt = 0x10 then 750 else 1125

/-- The line at which a format switches (R217). -/
def switchLine (fmt : Nat) : Nat := if fmt = 0x01 then 10 else if fmt = 0x02 then 6 else 7

/-- The gang size that a GANG code names: 1, 2, 4 or 16 slots (R187, R233). -/
def gangSize (code : Nat) : Nat := [1, 2, 4, 16].getD code 1

/-- The divisor k of R35 between a house rate and a supported frame rate, both as HOUSE_RATE codes. -/
def divisor (house rate : Nat) : Option Nat :=
  ([(10, 10, 1), (10, 7, 2), (10, 4, 4), (10, 1, 5), (9, 9, 1), (9, 6, 2), (9, 3, 4), (9, 0, 5),
    (8, 8, 1), (8, 5, 2), (8, 2, 4), (7, 7, 1), (7, 4, 2), (6, 6, 1), (6, 3, 2), (5, 5, 1), (5, 2, 2),
    (4, 4, 1), (3, 3, 1), (2, 2, 1), (1, 1, 1), (0, 0, 1)].find? fun e =>
      e.1 == house && e.2.1 == rate).map fun e => e.2.2

/-- Ticks of a frame number `n` start a frame of the rate (R35); a rate the house rate does not support starts
none. -/
def startsFrame (house rate n : Nat) : Bool :=
  match divisor house rate with
  | some k => n % k == 0
  | none => false

/-- The smallest frame number at or after `n` that starts a frame of every divisor of the list (R220, R225);
their least common multiple divides 60. -/
def alignFrame (ks : List Nat) (n : Nat) : Nat :=
  let k := ks.foldl Nat.lcm 1
  (n + k - 1) / k * k

/-- The lowest lane rate (code 1: 4.0, 2: 8.0, 3: 16.0 Gbaud) that carries a format (R163). -/
def neededRate (fmt : Nat) : Nat :=
  if fmt = 0x01 ∨ fmt = 0x02 then 1 else if 0x10 ≤ fmt ∧ fmt ≤ 0x12 then 2 else 3

/-- The format fits a transmit group's rate (R163, R164). -/
def fits (fmt rate : Nat) : Bool := fmt == 0 || neededRate fmt ≤ rate

/-- The start of the switch line after T0, in ns rounded down, for a format at a frame rate (R217). -/
def switchStart (fmt rate : Nat) : Nat :=
  (switchLine fmt - 1) * (rateD rate * 10 ^ 9) / (rateN rate * frameLines fmt)

/-- The cutoff of a frame in CORE cycles after T0, rounded down, for a format at a frame rate: two line periods
before the start of its switch line (R40). -/
def cutoffOf (fmt rate : Nat) : Nat :=
  (switchLine fmt - 3) * (rateD rate * 10 ^ 9) / (rateN rate * frameLines fmt)

end Sys2Proof.Machine
end

