-- ==== Sys2Proof/Machine/Claims.lean ====
section
/-! DEFINITION. What a configuration claims of Mere: gangs (R187), bandwidth units (R205–R208) and pool granules
(R203, R317). -/

namespace Sys2Proof.Machine

/-- One reading of the configuration: the values in effect, the shadow copies, or either with changes that the
firmware holds. -/
abbrev View := Fld → Nat → Nat

/-- The configuration in effect. -/
def Dev.inEffect (d : Dev) : View := fun f i => d.get f i

/-- The configuration that the shadow copies hold. -/
def Dev.inShadow (d : Dev) : View := fun f i => d.getShadow f i

/-- A reading with some shadow writes on top; the last write of a field counts. -/
def View.over (v : View) (ws : List ShadowWrite) : View := fun f i =>
  ((ws.reverse.find? fun w => w.fld == f.id && w.inst == i).map ShadowWrite.val).getD (v f i)

/-- The union of rising lists. -/
def unionNat (a b : List Nat) : List Nat := a.foldr insertNat b

/-- The instances for which a field may differ from its reset value, in effect, in shadow or in `ws`. -/
def Dev.touched (d : Dev) (ws : List ShadowWrite) (f : Fld) : List Nat :=
  unionNat ((ws.filter fun w => w.fld == f.id).map ShadowWrite.inst) (unionNat (d.reg.insts f.id) (d.shadow.insts f.id))

/-! ### Gangs -/

/-- The base of the gang that slot `s` belongs to: itself unless a larger aligned gang holds it (R187, R233). -/
def gangBase (v : View) (gang : Fld) (s : Nat) : Nat :=
  match [16, 4, 2].find? fun z => s % z != 0 && gangSize (v gang (s / z * z)) == z with
  | some z => s / z * z
  | none => s

/-- A source slot's gang size, at its base. -/
def sourceGang (v : View) (s : Nat) : Nat := if s < 1536 then gangSize (v F.ING_SLOT_CFG_GANG s) else 1

/-- The slot is the base of its gang, or single. -/
def isBase (v : View) (gang : Fld) (s : Nat) : Bool := gangBase v gang s == s

/-- The slots of the gangs whose base stands in `l`, in any of the readings. -/
def gangMembers (vs : List View) (gang : Fld) (l : List Nat) : List Nat :=
  l.foldl (fun acc s =>
    let z := vs.foldl (fun z v => max z (gangSize (v gang s))) 1
    unionNat ((List.range z).map (s + ·)) acc) []

/-! ### Bandwidth (R205, R206) -/

/-- A multiviewer tile selects the source. -/
def Dev.tiled (d : Dev) (ws : List ShadowWrite) (v : View) (s : Nat) : Bool :=
  (d.touched ws F.MV_TILE_SRC_EN).any fun t => v F.MV_TILE_SRC_EN t == 1 && v F.MV_TILE_SRC_SOURCE t == s

/-- The units of a source slot. -/
def Dev.sourceUnits (d : Dev) (ws : List ShadowWrite) (v : View) (s : Nat) : Nat :=
  let b := gangBase v F.ING_SLOT_CFG_GANG s
  if v F.ING_SLOT_CFG_ENABLE b == 0 then 0
  else if v F.ING_SLOT_CFG_PATH b != 1 then 21
  else if d.tiled ws v b then 5
  else 0

/-- The transmit context carries video and is enabled. -/
def videoTx (v : View) (x : Nat) : Bool := v F.IPM_TX_CFG_EN x == 1 && v F.IPM_TX_CFG_ESSENCE x == 0

/-- The destinations that enabled video transmit contexts are bound to. -/
def Dev.boundDests (d : Dev) (ws : List ShadowWrite) (v : View) : List Nat :=
  ((d.touched ws F.IPM_TX_CFG_EN).filter (videoTx v)).foldl (fun l x => insertNat (v F.IPM_TX_CFG_DEST x) l) []

/-- The largest of a contributor's claims under several readings. -/
def largest (vs : List View) (u : View → Nat) : Nat := vs.foldl (fun m v => max m (u v)) 0

/-- The claim of a set of readings: each contributor of R205 at the largest of its claims. -/
def Dev.claim (d : Dev) (ws : List ShadowWrite) (vs : List View) : Nat :=
  let sources := gangMembers vs F.ING_SLOT_CFG_GANG
    (unionNat (d.touched ws F.ING_SLOT_CFG_ENABLE) (d.touched ws F.ING_SLOT_CFG_GANG))
  let freed := (d.touched ws F.MERE_DEST_CFG_READ_RESV).filter fun i => largest vs (· F.MERE_DEST_CFG_READ_RESV i) == 0
  let heads := d.touched ws F.MV_HEAD_CFG_ENABLE
  let bound := (vs.map (d.boundDests ws)).foldl unionNat []
  (sources.map fun s => largest vs fun v => d.sourceUnits ws v s).sum
    + 16 * (1536 - freed.length)
    + 240 * (heads.map fun h => largest vs (· F.MV_HEAD_CFG_ENABLE h)).sum
    + 16 * bound.length
    + 16 * ((d.touched ws F.IPM_TX_CFG_EN).filter fun x => vs.any (videoTx · x)).length

/-- MERE_BW_LIMIT (R206). -/
def Dev.bwLimit (d : Dev) : Nat := if d.get F.MERE_STATUS_IN_SERVICE == 1 then 64962 else 0

/-- MERE_BW_RESERVED. -/
def Dev.bwReserved (d : Dev) : Nat := d.claim [] [d.inEffect]

/-- MERE_BW_CLAIMED: each contributor from the larger of its shadow and in-effect configuration. -/
def Dev.bwClaimed (d : Dev) : Nat := d.claim [] [d.inEffect, d.inShadow]

/-! ### Pool granules (R203, R317) -/

/-- The granules that a DEPTH and FRAME_PAGES need (R203). -/
def slotGranules (depth pages : Nat) : Nat := (depth - 3) * ((pages + 15) / 16) + 3 * ((pages - 96 + 15) / 16)

/-- The granules of a slot, from the largest value of each field; a member has the Mere settings of its gang's base (R187). -/
def granulesOf (vs : List View) (s : Nat) : Nat :=
  let field := fun (f : Fld) => largest vs fun v => v f (gangBase v F.ING_SLOT_CFG_GANG s)
  slotGranules (field F.MERE_SLOT_CFG_DEPTH) (field F.MERE_SLOT_CFG_FRAME_PAGES)

/-- The staging granules of a video transmit context: one for each 3G-class member of its destination (R317). -/
def stagingOf (v : View) (x : Nat) : Nat :=
  if videoTx v x then gangSize (v F.XPT_DEST_CFG_GANG (v F.IPM_TX_CFG_DEST x)) else 0

/-- All the granules that a set of readings holds. -/
def Dev.granules (d : Dev) (ws : List ShadowWrite) (vs : List View) : Nat :=
  ((gangMembers vs F.ING_SLOT_CFG_GANG (unionNat (d.touched ws F.MERE_SLOT_CFG_DEPTH)
      (d.touched ws F.MERE_SLOT_CFG_FRAME_PAGES))).map (granulesOf vs)).sum
    + ((d.touched ws F.IPM_TX_CFG_EN).map fun x => largest vs (stagingOf · x)).sum

/-- The granules that are allocated. -/
def Dev.poolUsed (d : Dev) : Nat := d.granules [] [d.inEffect, d.inShadow]

/-- The granules of the pool that are not retired. -/
def Dev.poolSize (d : Dev) : Nat := 2048 - d.get F.MERE_POOL_RETIRED

/-- MERE_POOL.FREE. -/
def Dev.poolFree (d : Dev) : Nat := d.poolSize - d.poolUsed

/-! ### The receive store (R312) -/

/-- Blocks of 256 bytes that receive context `r` takes. -/
def Dev.storeNeed (d : Dev) (ws : List ShadowWrite) (v : View) (r : Nat) : Nat :=
  let e := v F.IPM_RX_CFG_ESSENCE r
  if v F.IPM_RX_CFG_EN r == 0 then 0
  else if e = 3 then 64
  else if e = 0 then
    let skim := (d.touched ws F.ING_SLOT_CFG_FEED_KIND).any fun s =>
      v F.ING_SLOT_CFG_FEED_KIND s == 2 && v F.ING_SLOT_CFG_FEED_INDEX s == r && v F.ING_SLOT_CFG_PATH s != 0
    if skim then 512 else 0
  else
    let bytes := if e = 2 then 4 else if v F.IPM_RX_CFG_SAMPLING r = 0 then 3 else 2
    (v F.IPM_RX_AUD_CHANNELS r * 48 * bytes * (v F.IPM_RX_TIMING_PLAYOUT_US r + 1000) + 255999) / 256000

/-- Blocks that a set of readings takes: each context at the largest of its needs, as R203 counts granules. -/
def Dev.storeBlocks (d : Dev) (ws : List ShadowWrite) (vs : List View) : Nat :=
  ((d.touched ws F.IPM_RX_CFG_EN).map fun r => largest vs fun v => d.storeNeed ws v r).sum

/-- The blocks of the receive store. -/
def storeSize : Nat := 196608

/-- IPM_STORE.FREE. -/
def Dev.storeFree (d : Dev) : Nat := storeSize - d.storeBlocks [] [d.inEffect, d.inShadow]

/-! ### The firmware's admission (R208) -/

/-- The readings that the firmware charges for a command with the writes `ws` at frame `n`: in effect, shadow, and what the shadow
copies will hold after each held change, and after the command, in the order of their frames: every value that is held is charged. -/
def Dev.charged (d : Dev) (n : Nat) (ws : List ShadowWrite) : List View :=
  let hs := (d.tick.changes.filter fun h => !h.written).map fun h => (h.frame, h.writes)
  let all := hs ++ [(n, ws)]
  let sorted := (all.foldl (fun l h => insertNat h.1 l) []).flatMap fun f => all.filter fun h => h.1 == f
  [d.inEffect, d.inShadow] ++ (List.range sorted.length).map fun k =>
    d.inShadow.over ((sorted.take (k + 1)).flatMap Prod.snd)

/-- All the writes that the readings of `charged` may show. -/
def Dev.heldWrites (d : Dev) (ws : List ShadowWrite) : List ShadowWrite :=
  (d.tick.changes.filter fun h => !h.written).flatMap HeldChange.writes ++ ws

/-- The receive store lacks the blocks (R312). -/
def Dev.storeFault (d : Dev) (n : Nat) (ws : List ShadowWrite) : Option (Nat × Nat) :=
  if d.storeBlocks (d.heldWrites ws) (d.charged n ws) > storeSize then some (St.exhausted, 0x21) else none

/-- Why the firmware turns a command's claim away: its status and reason, or none (R208). -/
def Dev.admission (d : Dev) (n : Nat) (ws : List ShadowWrite) : Option (Nat × Nat) :=
  let hw := d.heldWrites ws
  let vs := d.charged n ws
  if d.claim hw vs > d.bwLimit then some (St.bandwidth, if d.get F.MERE_STATUS_IN_SERVICE == 1 then 1 else 2)
  else if d.granules hw vs > d.poolSize then some (St.exhausted, 3)
  else d.storeFault n ws

/-- The command raises the claim: for the commands of the multiviewer, which R207 bounds and R208 does not name (log entry 20). -/
def Dev.raisesClaim (d : Dev) (n : Nat) (ws : List ShadowWrite) : Bool :=
  let hw := d.heldWrites ws
  d.claim hw (d.charged n ws) > d.claim hw (d.charged n [])

/-! ### The hardware's admission of a shadow write (R203, R207) -/

/-- What a single shadow write meets. -/
inductive Admission
  | admitted
  /-- Discarded and counted in MERE_BW_REFUSED: the claim that it would make. -/
  | bandwidth (claim : Nat)
  /-- Discarded: the slot, the granules asked and those free. -/
  | pool (slot asked free : Nat)
  /-- Discarded: the receive store lacks the blocks (R312). -/
  | store
  deriving DecidableEq, Repr

/-- The admission of writes that reach the shadow copies together. -/
def Dev.admitShadow (d : Dev) (ws : List ShadowWrite) : Admission :=
  let vs := [d.inEffect, d.inShadow.over ws]
  let claim := d.claim ws vs
  let used := d.granules ws vs
  if claim > d.bwLimit && claim > d.bwClaimed then .bandwidth claim
  else if used > d.poolUsed && used > d.poolSize then
    .pool ((ws.map ShadowWrite.inst).headD 0) (used - d.poolUsed) d.poolFree
  else if d.storeBlocks ws vs > max storeSize (d.storeBlocks [] [d.inEffect, d.inShadow]) then .store
  else .admitted

end Sys2Proof.Machine
end

