-- ==== Sys2Proof/Machine/Lines.lean ====
section
/-! DEFINITION. Lines as words: packing (R157), rasters, ANC packets and what ingest reads in them (R183, R192), the seal (R184), black
and generator lines (R190, R243), the whole picture of a gang (R187), embedded audio (R416, R417), and the words that egress regenerates
(R185). -/

namespace Sys2Proof.Machine

/-! ### Packing (R157) -/

/-- Four words of each five bytes (R157). -/
def unpackWords : List Byte → List Nat
  | a :: b :: c :: e :: f :: rest =>
    let v := beVal [a, b, c, e, f]
    [bits v 30 10, bits v 20 10, bits v 10 10, bits v 0 10] ++ unpackWords rest
  | _ => []

/-- Five bytes of each four words (R157). -/
def packWords : List Nat → List Byte
  | a :: b :: c :: e :: rest => beBytes 5 (((a * 1024 + b) * 1024 + c) * 1024 + e) ++ packWords rest
  | _ => []

/-- Five bytes of each four words, the last four completed with words of 0 (log entry 332). -/
def packAll (ws : List Nat) : List Byte := packWords (ws ++ List.replicate ((4 - ws.length % 4) % 4) 0)

/-! ### Rasters (PRESUMED, ST 125, ST 259, ST 274, ST 296, ST 424: log entry 333) -/

/-- Words per second of a format's interface at integer frame rates. -/
def wordBase (fmt : Nat) : Nat := if fmt < 0x10 then 27000000 else if fmt < 0x20 then 148500000 else 297000000

/-- Words of a line, of one member's data stream for a gang. -/
def lineLength (fmt rate : Nat) : Nat :=
  wordBase fmt * (if rateD rate = 1 then 1 else if fmt < 0x10 then 1001 else 1000) / (rateN rate * frameLines fmt)

/-- Active words of a line of the active picture. -/
def activeCount (fmt rate : Nat) : Nat :=
  if fmt = 0 then 0 else if fmt < 0x10 then 1440 else if fmt = 0x10 then 2560
  else if fmt < 0x20 ∨ rate ≥ 5 then 3840 else 7680

/-- The format is interlaced. -/
def interlaced (fmt : Nat) : Bool := fmt == 0x01 || fmt == 0x02 || fmt == 0x11

/-- The lines of the active picture, from the first of each field to its last. -/
def activeFields (fmt : Nat) : List (Nat × Nat) :=
  match fmt with
  | 0x01 => [(20, 263), (283, 525)]
  | 0x02 => [(23, 310), (336, 623)]
  | 0x10 => [(26, 745)]
  | 0x11 => [(21, 560), (584, 1123)]
  | _ => [(42, 1121)]

/-- Line `n` lies in the active picture. -/
def activeLine (fmt n : Nat) : Bool := (activeFields fmt).any fun f => f.1 ≤ n && n ≤ f.2

/-- Line `n` lies in the second field. -/
def secondField (fmt n : Nat) : Bool :=
  match fmt with
  | 0x01 => n < 4 || 265 < n
  | 0x02 => 312 < n
  | 0x11 => 563 < n
  | _ => false

/-- Words of a line outside its blanking: EAV, SAV, and above ST 259 the line number and the CRCs. -/
def lineOverhead (fmt : Nat) : Nat := if fmt < 0x10 then 8 else 24

/-! ### ANC packets (PRESUMED, ST 291-1, ST 299-1, ST 352, ST 12-2: log entry 334) -/

/-- The checksum over the words from the DID on: their sum by nine bits, and bit 9 the inverse of bit 8. -/
def ancSum (ws : List Nat) : Nat :=
  let s := (ws.map (· % 512)).sum % 512
  if s < 256 then 512 + s else s

end Sys2Proof.Machine

namespace Sys2Proof

open Machine

/-- The data identification word, and the secondary one or the data block number. -/
def AncPacket.did (p : AncPacket) : Nat := p.words.getD 3 0 % 256
def AncPacket.sdid (p : AncPacket) : Nat := p.words.getD 4 0 % 256

/-- The user data words. -/
def AncPacket.data (p : AncPacket) : List Nat := slice 6 (p.words.getD 5 0 % 256) p.words

/-- The packet's checksum is right. -/
def AncPacket.good (p : AncPacket) : Bool :=
  p.words.length == 7 + p.words.getD 5 0 % 256 && p.words.getLast? == some (ancSum (p.words.drop 3).dropLast)

/-- The ST 299 group whose audio data the packet carries, 0 for none: DID 0xE7–0xE4 for groups 1–4 and 0xA7–0xA4 for 5–8. -/
def AncPacket.dataGroup (p : AncPacket) : Nat :=
  if 0xE4 ≤ p.did ∧ p.did ≤ 0xE7 then 0xE8 - p.did else if 0xA4 ≤ p.did ∧ p.did ≤ 0xA7 then 0xAC - p.did else 0

/-- The ST 299 group that the packet controls, 0 for none: DID 0xE3–0xE0 for groups 1–4 and 0xA3–0xA0 for 5–8. -/
def AncPacket.controlGroup (p : AncPacket) : Nat :=
  if 0xE0 ≤ p.did ∧ p.did ≤ 0xE3 then 0xE4 - p.did else if 0xA0 ≤ p.did ∧ p.did ≤ 0xA3 then 0xA8 - p.did else 0

/-- The ST 299 group of an audio packet, 0 for other packets. -/
def AncPacket.group (p : AncPacket) : Nat := p.dataGroup + p.controlGroup

/-- The rate code that a control packet carries: 0 for 48 kHz, 4 for 96 kHz. -/
def AncPacket.audioRate (p : AncPacket) : Nat := p.data.getD 1 0 / 2 % 8

/-- The 24-bit sample of channel `c` (0–3) in a data packet. -/
def AncPacket.sample (p : AncPacket) (c : Nat) : Int :=
  let w := fun k => p.data.getD (2 + 4 * c + k) 0
  toSigned 24 (w 0 / 16 % 16 + w 1 % 256 * 16 + w 2 % 256 * 4096 + w 3 % 16 * 2 ^ 20)

/-- The payload ID of an ST 352 packet, byte 1 first. -/
def AncPacket.payloadId (p : AncPacket) : Option Nat :=
  if p.did = 0x41 ∧ p.sdid = 0x01 then some (beVal ((p.data.take 4).map (BitVec.ofNat 8))) else none

/-- The time code of an ATC packet as BCD hours, minutes, seconds and frames, and whether it is an LTC. -/
def AncPacket.timecode (p : AncPacket) : Option (Nat × Bool) :=
  if p.did = 0x60 ∧ p.sdid = 0x60 then
    let n := fun k m => p.data.getD (2 * k) 0 / 16 % 16 % m
    let two := fun k m => 16 * n (k + 1) m + n k 16
    some (((two 6 4 * 256 + two 4 8) * 256 + two 2 8) * 256 + two 0 4,
      (List.range 8).all fun k => p.data.getD k 0 / 8 % 2 == 0)
  else none

end Sys2Proof

namespace Sys2Proof.Machine

/-- A word of eight data bits with its parity: bit 8 makes bits 0–8 even, bit 9 is its inverse. -/
def parityWord (v : Nat) : Nat :=
  let odd := ((List.range 8).map fun k => v / 2 ^ k % 2).sum % 2 == 1
  v % 256 + if odd then 256 else 512

/-- An ANC packet of a DID, an SDID or data block number and its user data. -/
def ancPacket (luma : Bool) (did sdid : Nat) (data : List Nat) : AncPacket :=
  let body := [parityWord did, parityWord sdid, parityWord data.length] ++ data
  ⟨luma, [0, 0x3FF, 0x3FF] ++ body ++ [ancSum body]⟩

/-! ### The seal (R184) -/

/-- The bytes of content words: each 10-bit word as bits 9:8 and then bits 7:0 (log entry 25). -/
def wordBytes (ws : List Nat) : List Byte := ws.flatMap (beBytes 2)

/-- The content words of a line in the order of R184. -/
def lineContent (l : LineWords) : List Nat := l.anc.flatMap AncPacket.words ++ l.active

/-- The line seal (R184): the CRC-32C over the content words, 0 for a line with none. -/
def lineSeal (l : LineWords) : Nat := if lineContent l = [] then 0 else crc32c (wordBytes (lineContent l))

/-! ### Black lines and the generators (R190, R243) -/

/-- Active words of one chroma and one luma value; a line outside the active picture has none. -/
def flatActive (fmt rate n luma : Nat) : List Nat :=
  if activeLine fmt n then (List.range (activeCount fmt rate / 2)).flatMap fun _ => [0x200, luma] else []

/-- A black line (R190). -/
def blackLine (fmt rate n : Nat) : LineWords := ⟨[], flatActive fmt rate n 0x040⟩

/-- A generator's line (R243): black, the bars and the ramp as the pattern has them, or a flat field; it carries no ANC. -/
def patternLine (pattern level fmt rate n : Nat) : LineWords :=
  if pattern = 0 ∨ !activeLine fmt n then blackLine fmt rate n
  else if pattern = 4 then ⟨[], flatActive fmt rate n (4 * level)⟩
  else ⟨[], (List.range (activeCount fmt rate)).map fun k => Config.patternWord pattern fmt rate k % 1024⟩

/-! ### Pictures -/

/-- The luma and the chroma samples of active words: Cb Y Cr Y. -/
def lumaOf (ws : List Nat) : List Nat := (ws.zipIdx.filter fun w => w.2 % 2 == 1).map Prod.fst
def chromaOf (ws : List Nat) : List Nat := (ws.zipIdx.filter fun w => w.2 % 2 == 0).map Prod.fst

/-- Every `k`-th item from the first on. -/
def everyNth (k : Nat) {α : Type} (l : List α) : List α := (l.zipIdx.filter fun x => x.2 % k == 0).map Prod.fst

/-- The rows of a picture from its active lines, by line number: the lines of two fields alternate. -/
def pictureRows (fmt : Nat) (lines : List (Nat × List Nat)) : List (List Nat) :=
  let field := fun (f : Nat × Nat) => (List.range (f.2 + 1 - f.1)).map fun k =>
    ((lines.find? fun l => l.1 == f.1 + k).map Prod.snd).getD []
  match (activeFields fmt).map field with
  | [a, b] => (a.zip b).flatMap fun r => [r.1, r.2]
  | l => l.flatten

/-- Two rows of words taken in turn, four words (two picture elements) at a time. -/
def interleaveRow : Nat → List Nat → List Nat → List Nat
  | 0, _, _ => []
  | n + 1, a, b => a.take 4 ++ b.take 4 ++ interleaveRow n (a.drop 4) (b.drop 4)

/-- Four pictures as one of twice their size, by two-sample interleave (PRESUMED, ST 2082-10: log entry 333). -/
def interleaveFour (p : Nat → List (List Nat)) : List (List Nat) :=
  let pair := fun (a b : List (List Nat)) => List.zipWith (fun x y => interleaveRow (x.length / 4) x y) a b
  (List.zip (pair (p 0) (p 1)) (pair (p 2) (p 3))).flatMap fun r => [r.1, r.2]

/-- The whole picture of a gang of `z` members (R187, R204, R313): a pair's rows alternate, four members interleave, sixteen are four
links of four. -/
def wholePicture (z : Nat) (p : Nat → List (List Nat)) : List (List Nat) :=
  match z with
  | 2 => (List.zip (p 0) (p 1)).flatMap fun r => [r.1, r.2]
  | 4 => interleaveFour p
  | 16 => interleaveFour fun a => interleaveFour fun b => p (4 * a + b)
  | _ => p 0

/-- Averages of `w` columns and `h` rows of 10-bit samples, as 8-bit samples (R204; the rounding is a DESIGN CHOICE, log entry 335). -/
def shrink (w h : Nat) (rows : List (List Nat)) : List Byte :=
  (List.range (rows.length / h)).flatMap fun y =>
    let block := slice (y * h) h rows
    (List.range ((block.map List.length).min?.getD 0 / w)).map fun x =>
      BitVec.ofNat 8 (((block.map fun r => (slice (x * w) w r).sum).sum + 2 * w * h) / (4 * w * h))

/-- A proxy of a picture at one `k`-th of its size, as 4:2:0 8-bit: luma, Cb, Cr (R204). -/
def proxyOf (k : Nat) (rows : List (List Nat)) : List Byte :=
  let chroma := fun c => rows.map fun r => (r.zipIdx.filter fun w => w.2 % 4 == c).map Prod.fst
  shrink k k (rows.map lumaOf) ++ shrink k (2 * k) (chroma 0) ++ shrink k (2 * k) (chroma 2)

/-! ### Blanking (R242) -/

/-- The words that the blanking of a line has free in each stream, as horizontal and vertical blanking; `extra` words lengthen or shorten
it (R218).  ST 259 has one stream. -/
def blankingSpace (fmt rate n : Nat) (extra : Int) : Nat × Nat :=
  let h := ((lineLength fmt rate - activeCount fmt rate - lineOverhead fmt : Nat) + extra).toNat
  let v := if activeLine fmt n then 0 else activeCount fmt rate
  if fmt < 0x10 then (h, v) else (h / 2, v / 2)

/-- The packets that lie in each part of a line's blanking: horizontal and vertical, of the C stream and of the Y stream. -/
structure Blanking where
  hc : List Nat
  hy : List Nat
  vc : List Nat
  vy : List Nat
  deriving DecidableEq, Repr

/-- Whole packets placed in order; from the first that no longer fits on they are dropped (R242): the blanking, and how many lie in it. -/
def ancPlace (h v : Nat) (b : Blanking) : List AncPacket → Blanking × Nat
  | [] => (b, 0)
  | p :: ps =>
    let n := p.words.length
    let next := fun b => let r := ancPlace h v b ps; (r.1, r.2 + 1)
    if p.luma then
      if b.hy.length + n ≤ h then next { b with hy := b.hy ++ p.words }
      else if b.vy.length + n ≤ v then next { b with vy := b.vy ++ p.words }
      else (b, 0)
    else if b.hc.length + n ≤ h then next { b with hc := b.hc ++ p.words }
    else if b.vc.length + n ≤ v then next { b with vc := b.vc ++ p.words }
    else (b, 0)

/-! ### The words of a line at egress (R185, R240; PRESUMED, ST 292-1: log entry 333) -/

/-- Fill up to `n` words. -/
def fillTo (n fill : Nat) (ws : List Nat) : List Nat := ws ++ List.replicate (n - ws.length) fill

/-- Words of the C and of the Y stream in turn. -/
def twoStreams (c y : List Nat) : List Nat := (c.zip y).flatMap fun w => [w.1, w.2]

/-- The XYZ word of EAV (`h`) or SAV of a line. -/
def xyzWord (fmt n : Nat) (h : Bool) : Nat :=
  let f := secondField fmt n
  let v := !activeLine fmt n
  512 + 256 * ofBool f + 128 * ofBool v + 64 * ofBool h + 32 * ofBool (v != h) + 16 * ofBool (f != h) + 8 * ofBool (f != v) +
    4 * ofBool ((f != v) != h)

/-- The two line-number words. -/
def lineNumberWords (n : Nat) : List Nat :=
  let w := fun v => if v / 256 % 2 = 1 then v else v + 512
  [w (n % 128 * 4), w (n / 128 % 16 * 4)]

/-- The two words of a stream's line CRC, x¹⁸ + x⁵ + x⁴ + 1 from 0, over words sent least significant bit first. -/
def crcWords (ws : List Nat) : List Nat :=
  let c := ws.foldl (fun c w => (List.range 10).foldl (fun c _ => crcBit 0x23000 c) (c ^^^ w)) 0
  let w := fun v => if v / 256 % 2 = 1 then v else v + 512
  [w (c % 512), w (c / 512 % 512)]

/-- The words of destination line `n`: EAV, line number, CRCs, horizontal blanking, SAV and the active or vertical blanking words, the
blanking filled around its packets with 0x040 for Y and 0x200 for C (R185).  `before` are the active words of the line before it, which
the CRCs cover. -/
def outputWords (fmt rate n : Nat) (extra : Int) (b : Blanking) (active before : List Nat) : List Nat :=
  let (h, v) := blankingSpace fmt rate n extra
  let eav := [0x3FF, 0, 0, xyzWord fmt n true]
  let sav := [0x3FF, 0, 0, xyzWord fmt n false]
  if fmt = 0 then []
  else if fmt < 0x10 then
    let fill := fun k ws => ws ++ (List.range (k - ws.length)).map fun i => if (ws.length + i) % 2 = 0 then 0x200 else 0x040
    eav ++ fill h (b.hc ++ b.hy) ++ sav ++ if activeLine fmt n then active else fill v (b.vc ++ b.vy)
  else
    let head := eav ++ lineNumberWords n
    let crc := fun ws => crcWords (ws ++ head)
    let body := if activeLine fmt n then active else twoStreams (fillTo v 0x200 b.vc) (fillTo v 0x040 b.vy)
    twoStreams (head ++ crc (chromaOf before) ++ fillTo h 0x200 b.hc) (head ++ crc (lumaOf before) ++ fillTo h 0x040 b.hy) ++
      twoStreams sav sav ++ body

/-! ### Embedded audio (R416, R417) -/

/-- The number of samples in five frames at 48 kHz (R417). -/
def fiveFrames (rate : Nat) : Nat := 5 * 48000 * rateD rate / rateN rate

/-- Samples before frame `j` of five, and in it: floor((j + 1) × A ÷ 5) − floor(j × A ÷ 5) (R417). -/
def frameSamples (a j : Nat) : Nat := (j + 1) * a / 5 - j * a / 5

/-- The samples of a frame of `total` samples that line `n` carries, from the first to one past the last: they are spread over the
lines, but none lies on the line after the switch line (PRESUMED, ST 299-1: log entry 334). -/
def lineSamples (fmt total n : Nat) : Nat × Nat :=
  let lines := frameLines fmt - 1
  let sw := switchLine fmt
  if n = sw + 1 ∨ n = 0 ∨ n > lines + 1 then (0, 0)
  else
    let k := if n ≤ sw then n - 1 else n - 2
    ((k * total + lines - 1) / lines, ((k + 1) * total + lines - 1) / lines)

/-- One column's six check bits of an audio data packet, (x + 1)(x⁵ + x² + 1). -/
def eccBits (bs : List Nat) : Nat :=
  bs.foldl (fun r b => let f := (r / 32 + b) % 2; (r * 2 % 64) ^^^ (if f = 1 then 0x2F else 0)) 0

/-- The six ECC words over the words of a packet from its ADF to its last sample. -/
def eccWords (ws : List Nat) : List Nat :=
  let cols := (List.range 8).map fun k => eccBits (ws.map fun w => w / 2 ^ k % 2)
  (List.range 6).map fun i => parityWord ((cols.zipIdx.map fun c => c.1 / 2 ^ i % 2 * 2 ^ c.2).sum)

/-- The four words of a 24-bit sample. -/
def sampleWords (x : Int) : List Nat :=
  let v := ofSigned 24 x
  let p := ((List.range 24).map fun k => v / 2 ^ k % 2).sum % 2
  [v % 16 * 16, v / 16 % 256, v / 4096 % 256, v / 2 ^ 20 % 16 + 128 * p].map parityWord

/-- An audio data packet of a group: the data block number, the clock phase and the samples of its four channels. -/
def audioPacket (group block phase : Nat) (xs : List Int) : AncPacket :=
  let did := if group ≤ 4 then 0xE8 - group else 0xAC - group
  let data := [phase % 256, phase / 256 % 16 + 32 * (phase / 4096 % 2)].map parityWord ++ xs.flatMap sampleWords
  let head := [0, 0x3FF, 0x3FF, parityWord did, parityWord block, parityWord 24] ++ data
  ancPacket false did block (data ++ eccWords head)

/-- An audio control packet of a group: the audio frame number, the rate, all four channels active and no delays. -/
def controlPacket (group number rate : Nat) : AncPacket :=
  ancPacket true (if group ≤ 4 then 0xE4 - group else 0xA8 - group) 0
    (parityWord number :: parityWord (2 * rate) :: parityWord 15 :: List.replicate 8 (parityWord 0))

/-- The lines that carry the control packets: the second after the switch line of each field. -/
def controlLine (fmt n : Nat) : Bool := n == switchLine fmt + 2 || (fmt == 0x11 && n == 571)

end Sys2Proof.Machine
end

