-- ==== Sys2Proof/Machine/Store.lean ====
section
/-! DEFINITION. Where a source's lines stand until the crosspoint takes them (R15, R197–R202): the Mere rings, the two-line stores of the
skim path, and the lines of the frame in progress. -/

namespace Sys2Proof.Machine

/-- The base of the gang of slot `s`, in effect. -/
def Dev.slotBase (d : Dev) (s : Nat) : Nat := gangBase d.inEffect F.ING_SLOT_CFG_GANG s

/-- The slot is fed from IP and stored by its packets (R308, R543). -/
def Dev.ipStored (d : Dev) (s : Nat) : Bool := d.get F.ING_SLOT_CFG_FEED_KIND s == 2 && d.get F.ING_SLOT_CFG_PATH s == 0

/-- Line `n` of member `m` among some lines. -/
def findLine (ls : List StoredLine) (m n : Nat) : Option StoredLine := ls.find? fun l => l.member == m && l.number == n

/-- The lines of a slot in a list. -/
def linesOf (ls : List SlotLines) (s : Nat) : List StoredLine := ((ls.find? fun l => l.slot == s).map SlotLines.lines).getD []

/-- A slot's lines replaced. -/
def putLines (ls : List SlotLines) (s : Nat) (l : List StoredLine) : List SlotLines :=
  let rest := ls.filter fun x => x.slot != s
  if l = [] then rest else ⟨s, l⟩ :: rest

/-- Change ingest's stores. -/
def Dev.onIng (d : Dev) (f : Ing → Ing) : Dev := { d with ing := f d.ing }

/-! ### Receive contexts (R303–R310) -/

/-- A context that has received nothing. -/
def RxCtx.fresh (r : Nat) : RxCtx := ⟨r, [], [0, 0], 0, [], none, none, 0, 0, 0, 0, 0, none, 0, 0⟩

/-- What receive context `r` remembers. -/
def Dev.rx (d : Dev) (r : Nat) : RxCtx := (d.ipm.rx.find? fun c => c.id == r).getD (RxCtx.fresh r)

/-- A context's record put into its place. -/
def putRx (c : RxCtx) : List RxCtx → List RxCtx
  | [] => [c]
  | t :: l => if c.id = t.id then c :: l else if c.id < t.id then c :: t :: l else t :: putRx c l

def Dev.setRx (d : Dev) (c : RxCtx) : Dev := { d with ipm := { d.ipm with rx := putRx c d.ipm.rx } }

/-- The ANC context that is linked to a video context (R310). -/
def Dev.ancOf (d : Dev) (r : Nat) : Option Nat :=
  (d.insts F.IPM_RX_CFG_ESSENCE).find? fun k =>
    d.get F.IPM_RX_CFG_EN k == 1 && d.get F.IPM_RX_CFG_ESSENCE k == 3 && d.get F.IPM_RX_LINK_LINK k == r

/-! ### The Mere ring (R199, R202, R212) -/

/-- The ring of a slot. -/
def Dev.ring (d : Dev) (s : Nat) : Ring := (d.ing.rings.find? fun r => r.slot == s).getD ⟨s, 0, none, false, [], 0, 0, []⟩

/-- A ring put into its place. -/
def putRing (r : Ring) : List Ring → List Ring
  | [] => [r]
  | t :: l => if r.slot = t.slot then r :: l else if r.slot < t.slot then r :: t :: l else t :: putRing r l

/-- Line `n` of member `m` in frame `k` of a ring. -/
def Ring.lineAt (r : Ring) (k m n : Nat) : Option StoredLine :=
  (r.frames.find? fun f => f.k == k).bind fun f => findLine f.lines m n

/-- A line that is there and not damaged. -/
def whole (l : Option StoredLine) : Option StoredLine := l.filter fun x => !x.damaged

/-- What Mere gives for line `n` of member `m` of the frame that readout sends, and whether it is another line than that one: for a
damaged or absent line that of the source frame before it (R190).  A slot fed from IP on PATH 0 is rebuilt line by line; the frame before
is the last complete one (R308, R309). -/
def Dev.mereLine (d : Dev) (b m n : Nat) : Option StoredLine × Bool :=
  let r := d.ring b
  let (now, before) :=
    if d.ipStored b then (findLine (linesOf d.ing.current b) m n, findLine r.kept m n)
    else
      match r.last with
      | some k => (r.lineAt k m n, if k = 0 then none else r.lineAt (k - 1) m n)
      | none => (none, none)
  match whole now with
  | some l => (some l, r.repeated)
  | none => (whole before, true)

/-- The same line of the previous frame (R16). -/
def Dev.mereBefore (d : Dev) (b m n : Nat) : Option StoredLine :=
  let r := d.ring b
  if d.ipStored b then whole (findLine r.kept m n)
  else
    match r.last with
    | some (k + 1) => whole (r.lineAt k m n)
    | _ => none

/-- The line of the last complete frame in Mere (R235), while that frame is of the format asked for. -/
def Dev.keptLine (d : Dev) (b m n fmt rate : Nat) : Option StoredLine :=
  let r := d.ring b
  if r.keptFmt = fmt ∧ r.keptRate = rate then whole (findLine r.kept m n) else none

/-! ### The skim path (R190, R198) -/

/-- A line enters the two-line store of slot `s`. -/
def Dev.skimIn (d : Dev) (s : Nat) (l : StoredLine) : Dev :=
  d.onIng fun x => { x with skim := putLines x.skim s ((l :: linesOf x.skim s).take 2) }

/-- The line that the skim path gives; a damaged one is a black line instead. -/
def Dev.skimLine (d : Dev) (s n : Nat) : Option StoredLine := whole ((linesOf d.ing.skim s).find? fun l => l.number == n)

end Sys2Proof.Machine
end

