-- ==== Sys2Proof/Machine/MereMap.lean ====
section
/-! DEFINITION. Mere byte for byte (R132, R202, R204): where frames and proxies lie, what the bytes of a line are, and lines read again after
a write. -/

namespace Sys2Proof.Machine

/-- The size of the Mere aperture (R77). -/
def mereSize : Nat := 2 ^ 35

/-- Bytes of a page. -/
def pageSize : Nat := 65536

/-- The page at which page `k` of frame buffer `j` of slot `s` lies (R202): in the base frame buffers, or in a granule of the pool. -/
def framePage (s j k : Nat) : Nat :=
  if j < 3 ∧ k < 96 then 288 * s + 96 * j + k
  else
    let k := if j < 3 then k - 96 else k
    491520 + 16 * (Config.granule s j (k / 16) % 2048) + k % 16

/-- The BAR2 offset of byte `o` of frame buffer `j` of slot `s`. -/
def frameByte (s j o : Nat) : Nat := pageSize * framePage s j (o / pageSize) + o % pageSize

/-- The bytes of a stored line: a header of 16 bytes with line number, seal and damage mark (its layout is a DESIGN CHOICE, log entry 332),
then its ANC packets and its active words, packed (R202). -/
def lineImage (l : StoredLine) : List Byte :=
  beBytes 2 l.number ++ beBytes 4 l.crc ++ beBytes 1 (ofBool l.damaged) ++ List.replicate 9 0 ++ packAll (lineContent l.words)

/-- Packets with the lengths of those before and words taken from a list, and the words left. -/
def repacket : List AncPacket → List Nat → List AncPacket × List Nat
  | [], ws => ([], ws)
  | p :: ps, ws =>
    let r := repacket ps (ws.drop p.words.length)
    (⟨p.luma, ws.take p.words.length⟩ :: r.1, r.2)

/-- A stored line as its bytes have it after a write. -/
def lineOfImage (l : StoredLine) (bs : List Byte) : StoredLine :=
  let ws := (unpackWords (bs.drop 16)).take (lineContent l.words).length
  let (anc, active) := repacket l.words.anc ws
  { l with number := beVal (bs.take 2), crc := beVal (slice 2 4 bs), damaged := beVal (slice 6 1 bs) != 0, words := ⟨anc, active⟩ }

/-- A line's place in its frame buffer: after the lines of the same member that came before it. -/
def placed (ls : List StoredLine) : List (StoredLine × Nat) :=
  ls.zipIdx.map fun l => (l.1, (((ls.take l.2).filter fun x => x.member == l.1.member).map fun x => (lineImage x).length).sum)

/-- The BAR2 offsets of the bytes of a line of frame `k` of base slot `b`. -/
def Dev.linePlace (d : Dev) (b k : Nat) (l : StoredLine) (at_ : Nat) : List Nat :=
  (List.range (lineImage l).length).map fun i => frameByte (b + l.member) (k % d.get F.MERE_SLOT_CFG_DEPTH b) (at_ + i)

/-- Bytes written at places of Mere. -/
def writeAt (m : Memory) (places : List Nat) (bs : List Byte) : Memory :=
  (places.zip bs).foldl (fun m x => Memory.write m x.1 x.2) m

/-- The line that a ring's newest frame has gained is written into Mere (R202). -/
def State.storeLine (s : State) (old : Dev) (b : Nat) : State :=
  let newest := fun (d : Dev) => (d.ring b).frames.getLast?.map fun f => (f.k, f.lines.length)
  match (s.dev.ring b).frames.getLast? with
  | none => s
  | some f =>
    if newest s.dev = newest old then s
    else
      match (placed f.lines).getLast? with
      | none => s
      | some (l, at_) => { s with mere := writeAt s.mere (s.dev.linePlace b f.k l at_) (lineImage l) }

/-- The BAR2 offset of byte `o` of a proxy (R202, R204): that of a gang spans its members' proxy pages, of which `pages` from `first` on are of
this size. -/
def proxyByte (s set first pages o : Nat) : Nat :=
  let q := o / pageSize
  pageSize * (442368 + 30 * (s + q / pages) + 15 * set + first + q % pages) + o % pageSize

/-- A proxy set that was completed is written into Mere (R204). -/
def State.storeProxy (s : State) (old : Dev) (b : Nat) : State :=
  if s.dev.hget H.ingProxyCount b = old.hget H.ingProxyCount b then s
  else
    match s.dev.ing.proxies.find? fun p => p.slot == b && p.set == s.dev.hget H.ingProxySet b with
    | none => s
    | some p =>
      let m := writeAt s.mere ((List.range p.half.length).map (proxyByte b p.set 0 12)) p.half
      { s with mere := writeAt m ((List.range p.quarter.length).map (proxyByte b p.set 12 3)) p.quarter }

/-- The lines of the Mere rings as Mere has them, after bytes `off` to `off + len` were written. -/
def Dev.reload (d : Dev) (m : Memory) (off len : Nat) : Dev :=
  d.onIng fun x => { x with rings := x.rings.map fun r => { r with frames := r.frames.map fun f =>
    { f with lines := (placed f.lines).map fun l =>
      let ps := d.linePlace r.slot f.k l.1 l.2
      if ps.any fun p => off ≤ p && p < off + len then lineOfImage l.1 (ps.map (Memory.read m)) else l.1 } } }

/-- Bytes written into Mere through the aperture (R132). -/
def State.writeMere (s : State) (off : Nat) (bs : List Byte) : State :=
  let m := Memory.writeBytes mereSize s.mere off bs
  { s with mere := m, dev := s.dev.reload m off bs.length }

end Sys2Proof.Machine
end

