-- ==== Sys2Proof/Machine/RegTable.lean ====
section
/-! DEFINITION. Where the registers lie in BAR0 (R135, R136): for each window, its registers with the base
offset, strides and counts that the register tables of the owning chapter give. -/

namespace Sys2Proof.Machine

def regsTop : List Reg := [
  ⟨"TOP_ID", 0x0, [], 0, [.fld F.TOP_ID_VENDOR, .fld F.TOP_ID_PART, .fld F.TOP_ID_STEPPING]⟩,
  ⟨"TOP_REV", 0x4, [], 0, [.fld F.TOP_REV_ROM_VER, .fld F.TOP_REV_MAJOR, .fld F.TOP_REV_STEPPING]⟩,
  ⟨"TOP_STATUS", 0x8, [], 0, [.fld F.TOP_STATUS_KEYS_VALID, .fld F.TOP_STATUS_WINDOWS_OPEN, .fld F.TOP_STATUS_LATH_RUN, .fld F.TOP_STATUS_BOOT_FAIL, .fld F.TOP_STATUS_READY]⟩,
  ⟨"TOP_RESET", 0xC, [], 0, [.fld F.TOP_RESET_GUARD, .fld F.TOP_RESET_KIND]⟩,
  ⟨"TOP_RESET_CAUSE", 0x10, [], 0, [.fld F.TOP_RESET_CAUSE_DOMAIN, .fld F.TOP_RESET_CAUSE_LATH_RESTARTS, .fld F.TOP_RESET_CAUSE_CAUSE]⟩,
  ⟨"TOP_VMON", 0x14, [], 0, [.fld F.TOP_VMON_RAILS]⟩,
  ⟨"TOP_THERM", 0x18, [], 0, [.fld F.TOP_THERM_HBM_B, .fld F.TOP_THERM_HBM_A]⟩]

def regsBoot : List Reg := [
  ⟨"BOOT_STATUS", 0x100000, [], 0, [.fld F.BOOT_STATUS_FAIL_CODE, .fld F.BOOT_STATUS_STEP, .fld F.BOOT_STATUS_IMAGE_SRC, .fld F.BOOT_STATUS_FALLBACK]⟩,
  ⟨"BOOT_FAIL_DETAIL", 0x100004, [], 0, [.fld F.BOOT_FAIL_DETAIL_DETAIL]⟩,
  ⟨"BOOT_TIME", 0x100008, [], 0, [.fld F.BOOT_TIME_MS]⟩,
  ⟨"BOOT_IMAGE_SVN", 0x10000C, [], 0, [.fld F.BOOT_IMAGE_SVN_MIN_SVN, .fld F.BOOT_IMAGE_SVN_SVN]⟩,
  ⟨"BOOT_PUSH", 0x100010, [], 0, [.fld F.BOOT_PUSH_GO, .fld F.BOOT_PUSH_LAST, .fld F.BOOT_PUSH_LENGTH]⟩,
  ⟨"BOOT_PUSH_OFFSET", 0x100014, [], 0, [.fld F.BOOT_PUSH_OFFSET_OFFSET]⟩,
  ⟨"BOOT_PUSH_STATUS", 0x100018, [], 0, [.fld F.BOOT_PUSH_STATUS_STATE]⟩]

def regsBus : List Reg := [
  ⟨"BUS_CTRL", 0x200000, [], 0, [.fld F.BUS_CTRL_REMAP]⟩,
  ⟨"BUS_TIMEOUT", 0x200004, [], 0, [.fld F.BUS_TIMEOUT_CYCLES]⟩,
  ⟨"BUS_ARB", 0x200008, [], 0, [.fld F.BUS_ARB_STARVE]⟩,
  ⟨"BUS_HUNG", 0x20000C, [], 0, [.fld F.BUS_HUNG_TARGETS]⟩,
  ⟨"BUS_SUMP_ADDR_LO", 0x200010, [], 0, [.fld F.BUS_SUMP_ADDR_LO_ADDR]⟩,
  ⟨"BUS_SUMP_ADDR_HI", 0x200014, [], 0, [.fld F.BUS_SUMP_ADDR_HI_ADDR]⟩,
  ⟨"BUS_SUMP_INFO", 0x200018, [], 0, [.fld F.BUS_SUMP_INFO_VALID, .fld F.BUS_SUMP_INFO_OVERFLOW, .fld F.BUS_SUMP_INFO_WRITE, .fld F.BUS_SUMP_INFO_BEATS, .fld F.BUS_SUMP_INFO_MASTER]⟩,
  ⟨"BUS_WEIGHT", 0x200040, [(4, 8)], 0, [.fld F.BUS_WEIGHT_WEIGHT]⟩,
  ⟨"BUS_ON_BEHALF", 0x200080, [(4, 8)], 0, [.cnt C.BUS_ON_BEHALF]⟩]

def regsPci : List Reg := [
  ⟨"PCI_LINK_STATUS", 0x300000, [], 0, [.fld F.PCI_LINK_STATUS_BME, .fld F.PCI_LINK_STATUS_WIDTH, .fld F.PCI_LINK_STATUS_SPEED, .fld F.PCI_LINK_STATUS_UP]⟩,
  ⟨"PCI_OB_BASE_LO", 0x300100, [(16, 16)], 0, [.fld F.PCI_OB_BASE_LO_BASE]⟩,
  ⟨"PCI_OB_BASE_HI", 0x300104, [(16, 16)], 0, [.fld F.PCI_OB_BASE_HI_BASE]⟩,
  ⟨"PCI_OB_CTRL", 0x300108, [(16, 16)], 0, [.fld F.PCI_OB_CTRL_EN]⟩]

def regsEvt : List Reg := [
  ⟨"EVT_STATUS", 0x400000, [(4, 32)], 0, [.fld F.EVT_STATUS_RAISED]⟩,
  ⟨"EVT_INT_EN", 0x400080, [(4, 32)], 0, [.fld F.EVT_INT_EN_EN]⟩,
  ⟨"EVT_ROUTE", 0x400100, [(4, 32)], 0, [.fld F.EVT_ROUTE_COALESCE_US, .fld F.EVT_ROUTE_INTN_EN, .fld F.EVT_ROUTE_MSIX_EN, .fld F.EVT_ROUTE_VECTOR]⟩,
  ⟨"EVT_GROUP_PENDING", 0x400180, [], 0, [.fld F.EVT_GROUP_PENDING_PENDING]⟩,
  ⟨"EVT_CTRL", 0x400184, [], 0, [.fld F.EVT_CTRL_HOST_READER]⟩,
  ⟨"EVT_LOG_WR", 0x400188, [], 0, [.fld F.EVT_LOG_WR_WR]⟩,
  ⟨"EVT_LOG_RD_HOST", 0x40018C, [], 0, [.fld F.EVT_LOG_RD_HOST_RD]⟩,
  ⟨"EVT_LOG_RD_LATH", 0x400190, [], 0, [.fld F.EVT_LOG_RD_LATH_RD]⟩,
  ⟨"EVT_LOG_STATUS", 0x400194, [], 0, [.fld F.EVT_LOG_STATUS_FULL, .fld F.EVT_LOG_STATUS_HELD_SOURCES]⟩,
  ⟨"EVT_LOG", 0x440000, [(4, 32768)], 0, [.fld F.EVT_LOG_WORD]⟩]

def regsCmd : List Reg := [
  ⟨"CMD_PORT_CTRL", 0x500000, [(32, 5)], 0, [.fld F.CMD_PORT_CTRL_LEASE_ALLOW, .fld F.CMD_PORT_CTRL_ENABLE]⟩,
  ⟨"CMD_PORT_STATUS", 0x500004, [(32, 5)], 0, [.fld F.CMD_PORT_STATUS_PENDING, .fld F.CMD_PORT_STATUS_NOTIFY_DROPPED, .fld F.CMD_PORT_STATUS_SENDERS, .fld F.CMD_PORT_STATUS_KEY_EXHAUSTED, .fld F.CMD_PORT_STATUS_KEY_VALID, .fld F.CMD_PORT_STATUS_UP]⟩,
  ⟨"CMD_RECEIVED", 0x500008, [(32, 5)], 0, [.cnt C.CMD_RECEIVED]⟩,
  ⟨"CMD_MALFORMED", 0x50000C, [(32, 5)], 0, [.cnt C.CMD_MALFORMED]⟩,
  ⟨"CMD_AUTH_FAILED", 0x500010, [(32, 5)], 0, [.cnt C.CMD_AUTH_FAILED]⟩,
  ⟨"CMD_REPLAYED", 0x500014, [(32, 5)], 0, [.cnt C.CMD_REPLAYED]⟩,
  ⟨"CMD_OVERFLOWED", 0x500018, [(32, 5)], 0, [.cnt C.CMD_OVERFLOWED]⟩,
  ⟨"CMD_UDP_PORT", 0x500100, [], 0, [.fld F.CMD_UDP_PORT_PORT]⟩,
  ⟨"CMD_UART_CFG", 0x500104, [], 0, [.fld F.CMD_UART_CFG_BAUD]⟩,
  ⟨"CMD_LEASE_CFG", 0x500108, [], 0, [.fld F.CMD_LEASE_CFG_TIMEOUT]⟩,
  ⟨"CMD_LEASE_HOLDER", 0x500140, [(4, 16)], 0, [.fld F.CMD_LEASE_HOLDER_HOLDER]⟩,
  ⟨"CMD_UNLEASED_WR", 0x500180, [], 0, [.cnt C.CMD_UNLEASED_WR]⟩]

def regsClk : List Reg := [
  ⟨"CLK_STATUS", 0x600000, [], 0, [.fld F.CLK_STATUS_LOCK]⟩]

def regsTick0 : List Reg := [
  ⟨"TICK_CFG", 0x700000, [], 0, [.fld F.TICK_CFG_BLOCK_RATE, .fld F.TICK_CFG_HOUSE_RATE]⟩,
  ⟨"TICK_CTRL", 0x700004, [], 0, [.fld F.TICK_CTRL_STOP, .fld F.TICK_CTRL_START]⟩,
  ⟨"TICK_STATUS", 0x700008, [], 0, [.fld F.TICK_STATUS_T3_OPEN, .fld F.TICK_STATUS_T2_OPEN, .fld F.TICK_STATUS_T1_OPEN, .fld F.TICK_STATUS_TIME_VALID, .fld F.TICK_STATUS_RUN]⟩,
  ⟨"TICK_FRAME_LO", 0x700010, [], 0, [.fld F.TICK_FRAME_LO_FRAME]⟩,
  ⟨"TICK_FRAME_HI", 0x700014, [], 0, [.fld F.TICK_FRAME_HI_FRAME]⟩,
  ⟨"TICK_EPOCH", 0x700018, [], 0, [.fld F.TICK_EPOCH_EPOCH]⟩,
  ⟨"TICK_CUTOFF", 0x70001C, [], 0, [.fld F.TICK_CUTOFF_CYCLES]⟩,
  ⟨"TICK_COMMIT_FRAME_LO", 0x700020, [], 0, [.fld F.TICK_COMMIT_FRAME_LO_TARGET]⟩,
  ⟨"TICK_COMMIT_FRAME_HI", 0x700024, [], 0, [.fld F.TICK_COMMIT_FRAME_HI_TARGET]⟩,
  ⟨"TICK_COMMIT", 0x700028, [], 0, [.fld F.TICK_COMMIT_GO, .fld F.TICK_COMMIT_GROUPS]⟩,
  ⟨"TICK_COMMIT_STATUS", 0x70002C, [], 0, [.fld F.TICK_COMMIT_STATUS_APPLIED_EPOCH, .fld F.TICK_COMMIT_STATUS_STATE, .fld F.TICK_COMMIT_STATUS_PENDING]⟩,
  ⟨"TICK_BLOCK_LO", 0x700030, [], 0, [.fld F.TICK_BLOCK_LO_BLOCK]⟩]

def regsTick1 : List Reg := [
  ⟨"TICK_BLOCK_HI", 0x700034, [], 0, [.fld F.TICK_BLOCK_HI_BLOCK]⟩,
  ⟨"TICK_BLK_OVERRUN", 0x700038, [], 0, [.cnt C.TICK_BLK_OVERRUN]⟩,
  ⟨"TICK_TIME_PRESET_LO", 0x700040, [], 0, [.fld F.TICK_TIME_PRESET_LO_NS]⟩,
  ⟨"TICK_TIME_PRESET_MID", 0x700044, [], 0, [.fld F.TICK_TIME_PRESET_MID_NS]⟩,
  ⟨"TICK_TIME_PRESET_HI", 0x700048, [], 0, []⟩]

def regsTick : List Reg :=
  regsTick0 ++ regsTick1

def regsRef0 : List Reg := [
  ⟨"REF_CTRL", 0x800000, [], 0, [.fld F.REF_CTRL_FORCE_EN, .fld F.REF_CTRL_FORCE_IN, .fld F.REF_CTRL_REVERTIVE]⟩,
  ⟨"REF_STATUS", 0x800004, [], 0, [.fld F.REF_STATUS_QUALIFIED, .fld F.REF_STATUS_PEAT_FRESH, .fld F.REF_STATUS_HOLD_SRC, .fld F.REF_STATUS_FORCED, .fld F.REF_STATUS_STANDBY, .fld F.REF_STATUS_SELECTED, .fld F.REF_STATUS_SWITCHING, .fld F.REF_STATUS_LOOP]⟩,
  ⟨"REF_LIMITS", 0x800008, [], 0, [.fld F.REF_LIMITS_REJECT_PPB, .fld F.REF_LIMITS_ACCEPT_PPB]⟩,
  ⟨"REF_AGREE", 0x80000C, [], 0, [.fld F.REF_AGREE_AGREE_PPB]⟩,
  ⟨"REF_LOCK_CFG", 0x800010, [], 0, [.fld F.REF_LOCK_CFG_LOCK_S, .fld F.REF_LOCK_CFG_LOCK_NS]⟩,
  ⟨"REF_SLEW", 0x800014, [], 0, [.fld F.REF_SLEW_NS_PER_S]⟩,
  ⟨"REF_HOLDOVER_SPEC", 0x800018, [], 0, [.fld F.REF_HOLDOVER_SPEC_SECONDS]⟩,
  ⟨"REF_HOLDOVER_TIME", 0x80001C, [], 0, [.fld F.REF_HOLDOVER_TIME_SECONDS]⟩,
  ⟨"REF_CTRL_VALUE", 0x800020, [], 0, [.fld F.REF_CTRL_VALUE_VALUE]⟩,
  ⟨"REF_AVG_1S", 0x800024, [], 0, [.fld F.REF_AVG_1S_VALUE]⟩,
  ⟨"REF_PEAT", 0x800028, [], 0, [.fld F.REF_PEAT_VALUE]⟩,
  ⟨"REF_PEAT_CTRL", 0x80002C, [], 0, [.fld F.REF_PEAT_CTRL_PEAT_VALID, .fld F.REF_PEAT_CTRL_AVG_VALID, .fld F.REF_PEAT_CTRL_PEAT_AGE_MS]⟩]

def regsRef1 : List Reg := [
  ⟨"REF_PHASE_ADJ_LO", 0x800030, [], 0, [.fld F.REF_PHASE_ADJ_LO_FRAC]⟩,
  ⟨"REF_PHASE_ADJ_MID", 0x800034, [], 0, [.fld F.REF_PHASE_ADJ_MID_NS]⟩,
  ⟨"REF_PHASE_ADJ_HI", 0x800038, [], 0, [.fld F.REF_PHASE_ADJ_HI_NS]⟩,
  ⟨"REF_PHASE_CTRL", 0x80003C, [], 0, [.fld F.REF_PHASE_CTRL_STEP, .fld F.REF_PHASE_CTRL_GO]⟩,
  ⟨"REF_PHASE_REMAIN_LO", 0x800040, [], 0, [.fld F.REF_PHASE_REMAIN_LO_FRAC]⟩,
  ⟨"REF_PHASE_REMAIN_MID", 0x800044, [], 0, [.fld F.REF_PHASE_REMAIN_MID_NS]⟩,
  ⟨"REF_PHASE_REMAIN_HI", 0x800048, [], 0, [.fld F.REF_PHASE_REMAIN_HI_NS]⟩,
  ⟨"REF_SLOT_SEL", 0x80004C, [], 0, [.fld F.REF_SLOT_SEL_SLOT]⟩,
  ⟨"XO_CFG", 0x800050, [], 0, [.fld F.XO_CFG_TRIM]⟩,
  ⟨"XO_STATUS", 0x800054, [], 0, [.fld F.XO_STATUS_SRC, .fld F.XO_STATUS_FREQ]⟩,
  ⟨"REF_IN_CFG", 0x800100, [(32, 7)], 0, [.fld F.REF_IN_CFG_EN, .fld F.REF_IN_CFG_RANK, .fld F.REF_IN_CFG_TYPE, .fld F.REF_IN_CFG_LVDS, .fld F.REF_IN_CFG_FALLING, .fld F.REF_IN_CFG_ALIGN, .fld F.REF_IN_CFG_BW, .fld F.REF_IN_CFG_SOAK_S]⟩,
  ⟨"REF_IN_SYNC", 0x800104, [(32, 7)], 0, [.fld F.REF_IN_SYNC_RATE, .fld F.REF_IN_SYNC_LINES]⟩]

def regsRef2 : List Reg := [
  ⟨"REF_IN_DELAY", 0x800108, [(32, 7)], 0, [.fld F.REF_IN_DELAY_NS]⟩,
  ⟨"REF_IN_STATUS", 0x80010C, [(32, 7)], 0, [.fld F.REF_IN_STATUS_SOAK_LEFT, .fld F.REF_IN_STATUS_FAIL_CAUSE, .fld F.REF_IN_STATUS_PHASE, .fld F.REF_IN_STATUS_ACTIVE, .fld F.REF_IN_STATUS_STATE]⟩,
  ⟨"REF_IN_FREQ", 0x800110, [(32, 7)], 0, [.fld F.REF_IN_FREQ_VALUE]⟩,
  ⟨"REF_IN_PHASE", 0x800114, [(32, 7)], 0, [.fld F.REF_IN_PHASE_VALUE]⟩,
  ⟨"REF_IN_LOSSES", 0x800118, [(32, 7)], 0, [.cnt C.REF_IN_LOSSES]⟩]

def regsRef : List Reg :=
  regsRef0 ++ regsRef1 ++ regsRef2

def regsPtp0 : List Reg := [
  ⟨"PTP_CFG", 0x900000, [], 0, [.fld F.PTP_CFG_DOMAIN]⟩,
  ⟨"PTP_STATUS", 0x900004, [], 0, [.fld F.PTP_STATUS_GM_VALID, .fld F.PTP_STATUS_IF_SEL, .fld F.PTP_STATUS_SET, .fld F.PTP_STATUS_SERVO]⟩,
  ⟨"PTP_STEP_LIMIT", 0x900008, [], 0, [.fld F.PTP_STEP_LIMIT_NS]⟩,
  ⟨"PTP_STEP_CTRL", 0x90000C, [], 0, [.fld F.PTP_STEP_CTRL_ACCEPT]⟩,
  ⟨"PTP_STEP_PEND_LO", 0x900010, [], 0, [.fld F.PTP_STEP_PEND_LO_FRAC]⟩,
  ⟨"PTP_STEP_PEND_MID", 0x900014, [], 0, [.fld F.PTP_STEP_PEND_MID_NS]⟩,
  ⟨"PTP_STEP_PEND_HI", 0x900018, [], 0, [.fld F.PTP_STEP_PEND_HI_NS]⟩,
  ⟨"PTP_PHC_LO", 0x900020, [], 0, [.fld F.PTP_PHC_LO_FRAC, .fld F.PTP_PHC_LO_SEC_HI]⟩,
  ⟨"PTP_PHC_MID", 0x900024, [], 0, [.fld F.PTP_PHC_MID_NS]⟩,
  ⟨"PTP_PHC_HI", 0x900028, [], 0, [.fld F.PTP_PHC_HI_SEC]⟩,
  ⟨"PTP_PHC_RATE", 0x90002C, [], 0, [.fld F.PTP_PHC_RATE_RATE]⟩,
  ⟨"PTP_PHC_ADJ_LO", 0x900030, [], 0, [.fld F.PTP_PHC_ADJ_LO_FRAC]⟩]

def regsPtp1 : List Reg := [
  ⟨"PTP_PHC_ADJ_MID", 0x900034, [], 0, [.fld F.PTP_PHC_ADJ_MID_NS]⟩,
  ⟨"PTP_PHC_ADJ_HI", 0x900038, [], 0, [.fld F.PTP_PHC_ADJ_HI_NS]⟩,
  ⟨"PTP_PHC_CTRL", 0x90003C, [], 0, [.fld F.PTP_PHC_CTRL_ADJ_GO]⟩,
  ⟨"PTP_GM_ID_LO", 0x900040, [], 0, [.fld F.PTP_GM_ID_LO_ID]⟩,
  ⟨"PTP_GM_ID_HI", 0x900044, [], 0, [.fld F.PTP_GM_ID_HI_ID]⟩,
  ⟨"PTP_IF_CFG", 0x900100, [(64, 4)], 0, [.fld F.PTP_IF_CFG_EN, .fld F.PTP_IF_CFG_BIND, .fld F.PTP_IF_CFG_TRANSPORT, .fld F.PTP_IF_CFG_ONE_STEP_TX, .fld F.PTP_IF_CFG_RANK]⟩,
  ⟨"PTP_IF_ASYM", 0x900104, [(64, 4)], 0, [.fld F.PTP_IF_ASYM_A]⟩,
  ⟨"PTP_IF_FIXED", 0x900108, [(64, 4)], 0, [.fld F.PTP_IF_FIXED_TX, .fld F.PTP_IF_FIXED_RX]⟩,
  ⟨"PTP_IF_STATUS", 0x90010C, [(64, 4)], 0, [.fld F.PTP_IF_STATUS_STATE]⟩,
  ⟨"PTP_IF_OFFSET_LO", 0x900110, [(64, 4)], 0, [.fld F.PTP_IF_OFFSET_LO_OFFSET]⟩,
  ⟨"PTP_IF_OFFSET_HI", 0x900114, [(64, 4)], 0, [.fld F.PTP_IF_OFFSET_HI_OFFSET]⟩,
  ⟨"PTP_IF_MPD", 0x900118, [(64, 4)], 0, [.fld F.PTP_IF_MPD_MPD]⟩]

def regsPtp2 : List Reg := [
  ⟨"PTP_IF_RX_ALL", 0x900120, [(64, 4)], 0, [.cnt C.PTP_IF_RX_ALL]⟩,
  ⟨"PTP_IF_RX_USED", 0x900124, [(64, 4)], 0, [.cnt C.PTP_IF_RX_USED]⟩,
  ⟨"PTP_IF_RX_UNBOUND", 0x900128, [(64, 4)], 0, [.cnt C.PTP_IF_RX_UNBOUND]⟩,
  ⟨"PTP_IF_RX_MALFORMED", 0x90012C, [(64, 4)], 0, [.cnt C.PTP_IF_RX_MALFORMED]⟩,
  ⟨"PTP_IF_RX_DOMAIN", 0x900130, [(64, 4)], 0, [.cnt C.PTP_IF_RX_DOMAIN]⟩,
  ⟨"PTP_IF_RX_NOT_PARENT", 0x900134, [(64, 4)], 0, [.cnt C.PTP_IF_RX_NOT_PARENT]⟩,
  ⟨"PTP_IF_RX_FOLLOW_UP", 0x900138, [(64, 4)], 0, [.cnt C.PTP_IF_RX_FOLLOW_UP]⟩,
  ⟨"PTP_TXQ_POP", 0x900400, [(32, 10)], 0, [.fld F.PTP_TXQ_POP_VALID, .fld F.PTP_TXQ_POP_PORT, .fld F.PTP_TXQ_POP_SEQ_ID, .fld F.PTP_TXQ_POP_MSG_TYPE]⟩,
  ⟨"PTP_TXQ_NS", 0x900404, [(32, 10)], 0, [.fld F.PTP_TXQ_NS_NS]⟩,
  ⟨"PTP_TXQ_SEC", 0x900408, [(32, 10)], 0, [.fld F.PTP_TXQ_SEC_SEC]⟩,
  ⟨"PTP_TXQ_SECHI", 0x90040C, [(32, 10)], 0, [.fld F.PTP_TXQ_SECHI_SEC_HI, .fld F.PTP_TXQ_SECHI_FRAC]⟩,
  ⟨"PTP_TXQ_CAPTURED", 0x900410, [(32, 10)], 0, [.cnt C.PTP_TXQ_CAPTURED]⟩]

def regsPtp3 : List Reg := [
  ⟨"PTP_TXQ_READ", 0x900414, [(32, 10)], 0, [.cnt C.PTP_TXQ_READ]⟩,
  ⟨"PTP_TXQ_OVERFLOWED", 0x900418, [(32, 10)], 0, [.cnt C.PTP_TXQ_OVERFLOWED]⟩,
  ⟨"PTP_TXQ_PENDING", 0x90041C, [(32, 10)], 0, [.fld F.PTP_TXQ_PENDING_PENDING]⟩]

def regsPtp : List Reg :=
  regsPtp0 ++ regsPtp1 ++ regsPtp2 ++ regsPtp3

def regsGpio : List Reg := [
  ⟨"GPIO_CFG", 0xA00000, [(4, 32)], 0, [.fld F.GPIO_CFG_DEBOUNCE_US, .fld F.GPIO_CFG_OPEN_DRAIN, .fld F.GPIO_CFG_ACTIVE_LOW, .fld F.GPIO_CFG_FUNC]⟩,
  ⟨"GPIO_TALLY", 0xA00080, [(4, 32)], 0, [.fld F.GPIO_TALLY_SRC, .fld F.GPIO_TALLY_DEST]⟩,
  ⟨"GPIO_TIMING", 0xA00100, [], 0, [.fld F.GPIO_TIMING_STUCK_TIME, .fld F.GPIO_TIMING_CHATTER_LIMIT]⟩,
  ⟨"GPIO_LEVEL", 0xA00104, [], 0, [.fld F.GPIO_LEVEL_LEVEL]⟩,
  ⟨"GPIO_OUT", 0xA00108, [], 0, [.fld F.GPIO_OUT_OUT]⟩,
  ⟨"GPIO_CHATTER", 0xA0010C, [], 0, [.fld F.GPIO_CHATTER_CHATTER]⟩,
  ⟨"GPIO_STUCK", 0xA00110, [], 0, [.fld F.GPIO_STUCK_STUCK]⟩,
  ⟨"GPIO_ARM", 0xA00114, [], 0, [.fld F.GPIO_ARM_ARM]⟩]

def regsHlt : List Reg := [
  ⟨"HLT_STATUS", 0xB00000, [], 0, [.fld F.HLT_STATUS_WEAR_VALID, .fld F.HLT_STATUS_REPLACE, .fld F.HLT_STATUS_LEVEL]⟩,
  ⟨"HLT_TRIG", 0xB00004, [], 0, [.fld F.HLT_TRIG_TRIG]⟩,
  ⟨"HLT_SPARE_LOW", 0xB00008, [], 0, [.fld F.HLT_SPARE_LOW_MERE_RETIRED, .fld F.HLT_SPARE_LOW_SCALER, .fld F.HLT_SPARE_LOW_CNV, .fld F.HLT_SPARE_LOW_FEN]⟩,
  ⟨"HLT_RATE", 0xB0000C, [], 0, [.fld F.HLT_RATE_CE_PER_H, .fld F.HLT_RATE_PLANE_PER_H]⟩,
  ⟨"HLT_WEAR_CFG", 0xB00010, [], 0, [.fld F.HLT_WEAR_CFG_SERVICE_PCT]⟩,
  ⟨"HLT_TJ", 0xB00014, [], 0, [.fld F.HLT_TJ_TJ_PEAK, .fld F.HLT_TJ_TJ]⟩,
  ⟨"HLT_WEAR_LO", 0xB00018, [], 0, [.fld F.HLT_WEAR_LO_WEAR]⟩,
  ⟨"HLT_WEAR_HI", 0xB0001C, [], 0, [.fld F.HLT_WEAR_HI_WEAR]⟩]

def regsLdg : List Reg := [
  ⟨"LDG_EPOCH", 0xC00000, [], 0, [.fld F.LDG_EPOCH_EPOCH]⟩,
  ⟨"LDG_STATUS", 0xC00004, [], 0, [.fld F.LDG_STATUS_TABLE_FULL, .fld F.LDG_STATUS_FAULTED, .fld F.LDG_STATUS_UNCHECKED]⟩,
  ⟨"LDG_CHECKED_LO", 0xC00008, [], 0, [.fld F.LDG_CHECKED_LO_FRAME]⟩,
  ⟨"LDG_CHECKED_HI", 0xC0000C, [], 0, [.fld F.LDG_CHECKED_HI_FRAME]⟩,
  ⟨"LDG_FAULT_ID", 0xC00100, [(16, 64)], 0, [.fld F.LDG_FAULT_ID_ID]⟩,
  ⟨"LDG_FAULT_IMB_LO", 0xC00104, [(16, 64)], 0, [.fld F.LDG_FAULT_IMB_LO_IMB]⟩,
  ⟨"LDG_FAULT_IMB_HI", 0xC00108, [(16, 64)], 0, [.fld F.LDG_FAULT_IMB_HI_IMB]⟩,
  ⟨"LDG_FAULT_FRAME", 0xC0010C, [(16, 64)], 0, [.fld F.LDG_FAULT_FRAME_FRAME]⟩,
  ⟨"LDG_DIR_BASE", 0xC00800, [(8, 37)], 0, [.fld F.LDG_DIR_BASE_BASE]⟩,
  ⟨"LDG_DIR_STRIDE", 0xC00804, [(8, 37)], 0, [.fld F.LDG_DIR_STRIDE_STRIDE]⟩]

def regsBist : List Reg := [
  ⟨"BIST_POST", 0xD00000, [(4, 40)], 0, [.fld F.BIST_POST_PATTERNS, .fld F.BIST_POST_RETIRED, .fld F.BIST_POST_RESULT]⟩,
  ⟨"BIST_ROLL_CFG", 0xD00100, [], 0, [.fld F.BIST_ROLL_CFG_EN, .fld F.BIST_ROLL_CFG_PERIOD_H]⟩,
  ⟨"BIST_SLICES_STARTED", 0xD00120, [], 0, [.cnt C.BIST_SLICES_STARTED]⟩,
  ⟨"BIST_SLICES_PASS", 0xD00124, [], 0, [.cnt C.BIST_SLICES_PASS]⟩,
  ⟨"BIST_SLICES_FAIL", 0xD00128, [], 0, [.cnt C.BIST_SLICES_FAIL]⟩,
  ⟨"BIST_SLICES_INCOMPLETE", 0xD0012C, [], 0, [.cnt C.BIST_SLICES_INCOMPLETE]⟩,
  ⟨"BIST_POOL", 0xD00140, [(4, 4)], 0, [.fld F.BIST_POOL_UNIT, .fld F.BIST_POOL_SLICE, .fld F.BIST_POOL_STATE]⟩,
  ⟨"BIST_TAP_STATUS", 0xD00180, [], 0, [.fld F.BIST_TAP_STATUS_DEBUG_LOCK, .fld F.BIST_TAP_STATUS_TEST_LATCH]⟩]

def regsRpr : List Reg := [
  ⟨"RPR_STATUS", 0xE00000, [], 0, [.fld F.RPR_STATUS_EFUSE_FREE, .fld F.RPR_STATUS_SOFT_UNBURNED]⟩,
  ⟨"RPR_HBM", 0xE00004, [], 0, [.fld F.RPR_HBM_HARD_FREE, .fld F.RPR_HBM_SOFT]⟩,
  ⟨"RPR_DIE_ID_LO", 0xE00008, [], 0, [.fld F.RPR_DIE_ID_LO_ID]⟩,
  ⟨"RPR_DIE_ID_HI", 0xE0000C, [], 0, [.fld F.RPR_DIE_ID_HI_ID]⟩]

def regsCsw0 : List Reg := [
  ⟨"CSW_CFG", 0xF00000, [], 0, [.fld F.CSW_CFG_RESYNC_AFTER, .fld F.CSW_CFG_MACSEC_EN, .fld F.CSW_CFG_AUTO_TAKEOVER, .fld F.CSW_CFG_EN]⟩,
  ⟨"CSW_TIMING", 0xF00004, [], 0, [.fld F.CSW_TIMING_DIVERGE_LINES, .fld F.CSW_TIMING_LATH_LOSS_MS]⟩,
  ⟨"CSW_ROLE", 0xF00008, [], 0, [.fld F.CSW_ROLE_CAUSE, .fld F.CSW_ROLE_TAKEOVER_OK, .fld F.CSW_ROLE_VETO, .fld F.CSW_ROLE_CAUSEWAY_UP, .fld F.CSW_ROLE_CLAIM_IN, .fld F.CSW_ROLE_CLAIM_OUT, .fld F.CSW_ROLE_SEAT, .fld F.CSW_ROLE_ROLE]⟩,
  ⟨"CSW_LINK_STATUS", 0xF00010, [(4, 2)], 0, [.fld F.CSW_LINK_STATUS_SKEW, .fld F.CSW_LINK_STATUS_LANE_UP, .fld F.CSW_LINK_STATUS_COUNTED, .fld F.CSW_LINK_STATUS_UP]⟩,
  ⟨"CSW_EPOCH_COMMITTED", 0xF00020, [], 0, [.fld F.CSW_EPOCH_COMMITTED_EPOCH]⟩,
  ⟨"CSW_EPOCH_FRAME_LO", 0xF00024, [], 0, [.fld F.CSW_EPOCH_FRAME_LO_FRAME]⟩,
  ⟨"CSW_EPOCH_FRAME_HI", 0xF00028, [], 0, [.fld F.CSW_EPOCH_FRAME_HI_FRAME]⟩,
  ⟨"CSW_MIRROR_STATUS", 0xF0002C, [], 0, [.fld F.CSW_MIRROR_STATUS_DISCARD_RUN, .fld F.CSW_MIRROR_STATUS_LAST_DISCARD, .fld F.CSW_MIRROR_STATUS_BANK, .fld F.CSW_MIRROR_STATUS_SYNCED]⟩,
  ⟨"CSW_TIME_OFFSET_LO", 0xF00030, [], 0, [.fld F.CSW_TIME_OFFSET_LO_OFFSET]⟩,
  ⟨"CSW_TIME_OFFSET_HI", 0xF00034, [], 0, [.fld F.CSW_TIME_OFFSET_HI_OFFSET]⟩,
  ⟨"CSW_LINK_DELAY", 0xF00038, [], 0, [.fld F.CSW_LINK_DELAY_DELAY]⟩,
  ⟨"CSW_FR_TX", 0xF00040, [], 0, [.cnt C.CSW_FR_TX]⟩]

def regsCsw1 : List Reg := [
  ⟨"CSW_FR_RX", 0xF00044, [], 0, [.cnt C.CSW_FR_RX]⟩,
  ⟨"CSW_FR_USED", 0xF00048, [], 0, [.cnt C.CSW_FR_USED]⟩,
  ⟨"CSW_FR_DUP", 0xF0004C, [], 0, [.cnt C.CSW_FR_DUP]⟩,
  ⟨"CSW_FR_RUNT", 0xF00050, [], 0, [.cnt C.CSW_FR_RUNT]⟩,
  ⟨"CSW_FR_OVERSIZE", 0xF00054, [], 0, [.cnt C.CSW_FR_OVERSIZE]⟩,
  ⟨"CSW_FR_FCS", 0xF00058, [], 0, [.cnt C.CSW_FR_FCS]⟩,
  ⟨"CSW_FR_MACSEC", 0xF0005C, [], 0, [.cnt C.CSW_FR_MACSEC]⟩,
  ⟨"CSW_FR_DELIM", 0xF00060, [], 0, [.cnt C.CSW_FR_DELIM]⟩,
  ⟨"CSW_EPOCHS_BEGUN", 0xF00064, [], 0, [.cnt C.CSW_EPOCHS_BEGUN]⟩,
  ⟨"CSW_EPOCHS_COMMITTED", 0xF00068, [], 0, [.cnt C.CSW_EPOCHS_COMMITTED]⟩,
  ⟨"CSW_EPOCHS_DISCARDED", 0xF0006C, [], 0, [.cnt C.CSW_EPOCHS_DISCARDED]⟩,
  ⟨"CSW_SEAL_RX", 0xF00070, [], 0, [.cnt C.CSW_SEAL_RX]⟩]

def regsCsw2 : List Reg := [
  ⟨"CSW_SEAL_MATCH", 0xF00074, [], 0, [.cnt C.CSW_SEAL_MATCH]⟩,
  ⟨"CSW_SEAL_MISMATCH", 0xF00078, [], 0, [.cnt C.CSW_SEAL_MISMATCH]⟩,
  ⟨"CSW_SEAL_UNCMP", 0xF0007C, [], 0, [.cnt C.CSW_SEAL_UNCMP]⟩,
  ⟨"CSW_LIVE_RX", 0xF00080, [], 0, [.cnt C.CSW_LIVE_RX]⟩,
  ⟨"CSW_LIVE_APPLIED", 0xF00084, [], 0, [.cnt C.CSW_LIVE_APPLIED]⟩,
  ⟨"CSW_LIVE_LATE", 0xF00088, [], 0, [.cnt C.CSW_LIVE_LATE]⟩,
  ⟨"CSW_BLAME", 0xF000A0, [], 0, [.fld F.CSW_BLAME_BUSY, .fld F.CSW_BLAME_DEST, .fld F.CSW_BLAME_VERDICT]⟩,
  ⟨"CSW_KEY", 0xF000A4, [], 0, [.fld F.CSW_KEY_TX_N]⟩,
  ⟨"CSW_LANE_STATUS", 0xF00100, [(16, 8)], 0, [.fld F.CSW_LANE_STATUS_DEG_DISC, .fld F.CSW_LANE_STATUS_DEG_FOM, .fld F.CSW_LANE_STATUS_POS, .fld F.CSW_LANE_STATUS_SRC_LOCK, .fld F.CSW_LANE_STATUS_OCC, .fld F.CSW_LANE_STATUS_TX_STATE, .fld F.CSW_LANE_STATUS_COMMA_ALIGNED, .fld F.CSW_LANE_STATUS_IDLE_SEEN, .fld F.CSW_LANE_STATUS_RATE, .fld F.CSW_LANE_STATUS_CAUSE, .fld F.CSW_LANE_STATUS_RX_STATE]⟩,
  ⟨"CSW_LANE_EYE", 0xF00104, [(16, 8)], 0, [.fld F.CSW_LANE_EYE_CTLE, .fld F.CSW_LANE_EYE_FOM_MIN, .fld F.CSW_LANE_EYE_FOM]⟩,
  ⟨"CSW_LANE_DFE", 0xF00108, [(16, 8)], 0, [.fld F.CSW_LANE_DFE_TAPS]⟩,
  ⟨"CSW_LANE_TXEQ", 0xF0010C, [(16, 8)], 0, [.fld F.CSW_LANE_TXEQ_POST, .fld F.CSW_LANE_TXEQ_PRE, .fld F.CSW_LANE_TXEQ_SWING]⟩]

def regsCsw3 : List Reg := [
  ⟨"CSW_DIVERGE", 0xF00200, [(4, 48)], 0, [.fld F.CSW_DIVERGE_DIVERGENT]⟩]

def regsCsw : List Reg :=
  regsCsw0 ++ regsCsw1 ++ regsCsw2 ++ regsCsw3

def regsReed0 : List Reg := [
  ⟨"REED_LANE_CFG", 0x1000000, [(1048576, 4), (8192, 96)], 0, [.fld F.REED_LANE_CFG_RX_RATE, .fld F.REED_LANE_CFG_TX_EN, .fld F.REED_LANE_CFG_RX_EN]⟩,
  ⟨"REED_LANE_CTRL", 0x1000004, [(1048576, 4), (8192, 96)], 0, [.fld F.REED_LANE_CTRL_LCM_SEND, .fld F.REED_LANE_CTRL_ADAPT_FREEZE, .fld F.REED_LANE_CTRL_TX_INVERT, .fld F.REED_LANE_CTRL_RX_INVERT, .fld F.REED_LANE_CTRL_BITSLIP, .fld F.REED_LANE_CTRL_RETRAIN, .fld F.REED_LANE_CTRL_AUTO_ALIGN]⟩,
  ⟨"REED_LANE_STATUS", 0x1000008, [(1048576, 4), (8192, 96)], 0, [.fld F.REED_LANE_STATUS_DEG_DISC, .fld F.REED_LANE_STATUS_DEG_FOM, .fld F.REED_LANE_STATUS_POS, .fld F.REED_LANE_STATUS_SRC_LOCK, .fld F.REED_LANE_STATUS_OCC, .fld F.REED_LANE_STATUS_TX_STATE, .fld F.REED_LANE_STATUS_COMMA_ALIGNED, .fld F.REED_LANE_STATUS_IDLE_SEEN, .fld F.REED_LANE_STATUS_RATE, .fld F.REED_LANE_STATUS_CAUSE, .fld F.REED_LANE_STATUS_RX_STATE]⟩,
  ⟨"REED_LANE_EYE", 0x100000C, [(1048576, 4), (8192, 96)], 0, [.fld F.REED_LANE_EYE_CTLE, .fld F.REED_LANE_EYE_FOM_MIN, .fld F.REED_LANE_EYE_FOM]⟩,
  ⟨"REED_LANE_DFE", 0x1000010, [(1048576, 4), (8192, 96)], 0, [.fld F.REED_LANE_DFE_TAPS]⟩,
  ⟨"REED_LANE_TXEQ", 0x1000014, [(1048576, 4), (8192, 96)], 0, [.fld F.REED_LANE_TXEQ_POST, .fld F.REED_LANE_TXEQ_PRE, .fld F.REED_LANE_TXEQ_SWING]⟩,
  ⟨"REED_SF_FRAMED", 0x1000020, [(1048576, 4), (8192, 96)], 0, [.cnt C.REED_SF_FRAMED]⟩,
  ⟨"REED_SF_ACCEPTED", 0x1000024, [(1048576, 4), (8192, 96)], 0, [.cnt C.REED_SF_ACCEPTED]⟩,
  ⟨"REED_DISC_CODE", 0x1000028, [(1048576, 4), (8192, 96)], 0, [.cnt C.REED_DISC_CODE]⟩,
  ⟨"REED_DISC_FRAMING", 0x100002C, [(1048576, 4), (8192, 96)], 0, [.cnt C.REED_DISC_FRAMING]⟩,
  ⟨"REED_DISC_HEADER", 0x1000030, [(1048576, 4), (8192, 96)], 0, [.cnt C.REED_DISC_HEADER]⟩,
  ⟨"REED_DISC_LENGTH", 0x1000034, [(1048576, 4), (8192, 96)], 0, [.cnt C.REED_DISC_LENGTH]⟩]

def regsReed1 : List Reg := [
  ⟨"REED_DISC_PCRC", 0x1000038, [(1048576, 4), (8192, 96)], 0, [.cnt C.REED_DISC_PCRC]⟩,
  ⟨"REED_SEQ_MISSING", 0x100003C, [(1048576, 4), (8192, 96)], 0, [.cnt C.REED_SEQ_MISSING]⟩,
  ⟨"REED_LCM_ACCEPTED", 0x1000040, [(1048576, 4), (8192, 96)], 0, [.cnt C.REED_LCM_ACCEPTED]⟩,
  ⟨"REED_LCM_DISCARDED", 0x1000044, [(1048576, 4), (8192, 96)], 0, [.cnt C.REED_LCM_DISCARDED]⟩,
  ⟨"REED_TX_WORDS_IN", 0x1000048, [(1048576, 4), (8192, 96)], 0, [.cnt C.REED_TX_WORDS_IN]⟩,
  ⟨"REED_TX_WORDS_SENT", 0x100004C, [(1048576, 4), (8192, 96)], 0, [.cnt C.REED_TX_WORDS_SENT]⟩,
  ⟨"REED_TX_WORDS_DROPPED", 0x1000050, [(1048576, 4), (8192, 96)], 0, [.cnt C.REED_TX_WORDS_DROPPED]⟩,
  ⟨"REED_LCM_RX_IDENT", 0x1000060, [(1048576, 4), (8192, 96), (4, 4)], 0, [.fld F.REED_LCM_RX_IDENT_WORD]⟩,
  ⟨"REED_LCM_RX_SUBCH", 0x1000070, [(1048576, 4), (8192, 96), (4, 4)], 0, [.fld F.REED_LCM_RX_SUBCH_WORD]⟩,
  ⟨"REED_LCM_RX_VENDOR", 0x1000080, [(1048576, 4), (8192, 96), (4, 4)], 0, [.fld F.REED_LCM_RX_VENDOR_WORD]⟩,
  ⟨"REED_LANE_LCM_TX", 0x1000090, [(1048576, 4), (8192, 96), (4, 4)], 0, [.fld F.REED_LANE_LCM_TX_WORD]⟩,
  ⟨"REED_LCM_RX_ROLE", 0x10000A0, [(1048576, 4), (8192, 96), (4, 4)], 0, [.fld F.REED_LCM_RX_ROLE_WORD]⟩]

def regsReed2 : List Reg := [
  ⟨"REED_TXGRP_CFG", 0x10C0000, [(4, 16)], 0, [.fld F.REED_TXGRP_CFG_RATE]⟩,
  ⟨"REED_BUNDLE_EN", 0x10C0080, [(4, 3)], 0, [.fld F.REED_BUNDLE_EN_EN]⟩,
  ⟨"REED_BUNDLE_STATUS", 0x10C0100, [(4, 96)], 0, [.fld F.REED_BUNDLE_STATUS_LOSSES, .fld F.REED_BUNDLE_STATUS_REASON, .fld F.REED_BUNDLE_STATUS_SKEW, .fld F.REED_BUNDLE_STATUS_LOST_MASK, .fld F.REED_BUNDLE_STATUS_STATE]⟩,
  ⟨"REED_DEG_CFG", 0x10C0400, [], 0, [.fld F.REED_DEG_CFG_DEG_DISCARDS]⟩]

def regsReed : List Reg :=
  regsReed0 ++ regsReed1 ++ regsReed2

def regsIng0 : List Reg := [
  ⟨"ING_SLOT_CFG", 0x1400000, [(512, 1536)], 0, [.fld F.ING_SLOT_CFG_FEED_INDEX, .fld F.ING_SLOT_CFG_FEED_KIND, .fld F.ING_SLOT_CFG_GANG, .fld F.ING_SLOT_CFG_PATH, .fld F.ING_SLOT_CFG_ENABLE]⟩,
  ⟨"ING_SLOT_CTRL", 0x1400004, [(512, 1536)], 0, [.fld F.ING_SLOT_CTRL_RESKIM]⟩,
  ⟨"ING_SLOT_STATUS", 0x1400008, [(512, 1536)], 0, [.fld F.ING_SLOT_STATUS_GROUPS, .fld F.ING_SLOT_STATUS_AUDIO_RATE_MISMATCH, .fld F.ING_SLOT_STATUS_FELL_BACK, .fld F.ING_SLOT_STATUS_PID_MISMATCH, .fld F.ING_SLOT_STATUS_RATE, .fld F.ING_SLOT_STATUS_FORMAT, .fld F.ING_SLOT_STATUS_LOSS_CAUSE, .fld F.ING_SLOT_STATUS_ON_SKIM, .fld F.ING_SLOT_STATUS_STATE]⟩,
  ⟨"ING_SLOT_PHASE", 0x140000C, [(512, 1536)], 0, [.fld F.ING_SLOT_PHASE_DELTA_US, .fld F.ING_SLOT_PHASE_OFFSET]⟩,
  ⟨"ING_SLOT_MON", 0x1400010, [(512, 1536)], 0, [.fld F.ING_SLOT_MON_FREEZE_RUN, .fld F.ING_SLOT_MON_BLACK_RUN]⟩,
  ⟨"ING_SLOT_MON2", 0x1400014, [(512, 1536)], 0, [.fld F.ING_SLOT_MON2_SILENCE_RUN, .fld F.ING_SLOT_MON2_CRC_RATE]⟩,
  ⟨"ING_SLOT_SILMASK", 0x1400018, [(512, 1536)], 0, [.fld F.ING_SLOT_SILMASK_MASK]⟩,
  ⟨"ING_SLOT_PID", 0x140001C, [(512, 1536)], 0, [.fld F.ING_SLOT_PID_PID]⟩,
  ⟨"ING_SLOT_TC", 0x1400020, [(512, 1536)], 0, [.fld F.ING_SLOT_TC_TC]⟩,
  ⟨"ING_LINES_IN", 0x1400040, [(512, 1536)], 0, [.cnt C.ING_LINES_IN]⟩,
  ⟨"ING_LINES_GOOD", 0x1400044, [(512, 1536)], 0, [.cnt C.ING_LINES_GOOD]⟩,
  ⟨"ING_LINES_DAMAGED", 0x1400048, [(512, 1536)], 0, [.cnt C.ING_LINES_DAMAGED]⟩]

def regsIng1 : List Reg := [
  ⟨"ING_LINES_DISCARDED", 0x140004C, [(512, 1536)], 0, [.cnt C.ING_LINES_DISCARDED]⟩,
  ⟨"ING_CRC_ERR", 0x1400050, [(512, 1536)], 0, [.cnt C.ING_CRC_ERR]⟩,
  ⟨"ING_ANC_CSUM_ERR", 0x1400054, [(512, 1536)], 0, [.cnt C.ING_ANC_CSUM_ERR]⟩,
  ⟨"ING_FRAMES_DONE", 0x1400058, [(512, 1536)], 0, [.cnt C.ING_FRAMES_DONE]⟩,
  ⟨"ING_FRAMES_DELIVERED", 0x140005C, [(512, 1536)], 0, [.cnt C.ING_FRAMES_DELIVERED]⟩,
  ⟨"ING_FRAMES_DROPPED", 0x1400060, [(512, 1536)], 0, [.cnt C.ING_FRAMES_DROPPED]⟩,
  ⟨"ING_FRAMES_REPEATED", 0x1400064, [(512, 1536)], 0, [.cnt C.ING_FRAMES_REPEATED]⟩,
  ⟨"ING_EXTRACT_SLIP", 0x1400068, [(512, 1536)], 0, [.cnt C.ING_EXTRACT_SLIP]⟩,
  ⟨"ING_MON_CFG", 0x14C0000, [], 0, [.fld F.ING_MON_CFG_SILENCE_LEVEL, .fld F.ING_MON_CFG_BLACK_CHROMA, .fld F.ING_MON_CFG_BLACK_LEVEL]⟩,
  ⟨"ING_MON_EVT", 0x14C0004, [], 0, [.fld F.ING_MON_EVT_FREEZE_EVT, .fld F.ING_MON_EVT_BLACK_EVT]⟩,
  ⟨"ING_MON_EVT2", 0x14C0008, [], 0, [.fld F.ING_MON_EVT2_SILENCE_EVT, .fld F.ING_MON_EVT2_CRC_EVT]⟩,
  ⟨"ING_LOCK_CFG", 0x14C000C, [], 0, [.fld F.ING_LOCK_CFG_LOCK_FRAMES]⟩]

def regsIng : List Reg :=
  regsIng0 ++ regsIng1

def regsMere0 : List Reg := [
  ⟨"MERE_STATUS", 0x1500000, [], 0, [.fld F.MERE_STATUS_IN_SERVICE, .fld F.MERE_STATUS_STACK_B_OK, .fld F.MERE_STATUS_STACK_A_OK]⟩,
  ⟨"MERE_BW_LIMIT", 0x1500004, [], 0, [.fld F.MERE_BW_LIMIT_LIMIT]⟩,
  ⟨"MERE_BW_RESERVED", 0x1500008, [], 0, [.fld F.MERE_BW_RESERVED_RESERVED]⟩,
  ⟨"MERE_BW_CLAIMED", 0x150000C, [], 0, [.fld F.MERE_BW_CLAIMED_CLAIMED]⟩,
  ⟨"MERE_BW_REFUSED", 0x1500010, [], 0, [.cnt C.MERE_BW_REFUSED]⟩,
  ⟨"MERE_POOL", 0x1500014, [], 0, [.fld F.MERE_POOL_RETIRED, .fld F.MERE_POOL_FREE]⟩,
  ⟨"MERE_ECC_CE_A", 0x1500020, [], 0, [.cnt C.MERE_ECC_CE_A]⟩,
  ⟨"MERE_ECC_CE_B", 0x1500024, [], 0, [.cnt C.MERE_ECC_CE_B]⟩,
  ⟨"MERE_ECC_UE_A", 0x1500028, [], 0, [.cnt C.MERE_ECC_UE_A]⟩,
  ⟨"MERE_ECC_UE_B", 0x150002C, [], 0, [.cnt C.MERE_ECC_UE_B]⟩,
  ⟨"MERE_ECC_ADDR_LO", 0x1500030, [], 0, [.fld F.MERE_ECC_ADDR_LO_ADDR]⟩,
  ⟨"MERE_ECC_ADDR_HI", 0x1500034, [], 0, [.fld F.MERE_ECC_ADDR_HI_VALID, .fld F.MERE_ECC_ADDR_HI_ADDR]⟩]

def regsMere1 : List Reg := [
  ⟨"MERE_SLOT_CFG", 0x1510000, [(16, 1536)], 0, [.fld F.MERE_SLOT_CFG_FRAME_PAGES, .fld F.MERE_SLOT_CFG_DELAY, .fld F.MERE_SLOT_CFG_DEPTH]⟩,
  ⟨"MERE_SLOT_STATUS", 0x1510004, [(16, 1536)], 0, [.fld F.MERE_SLOT_STATUS_FRAMES_HELD, .fld F.MERE_SLOT_STATUS_GRANULES]⟩,
  ⟨"MERE_DEST_CFG", 0x1520000, [(4, 1536)], 0, [.fld F.MERE_DEST_CFG_READ_RESV]⟩]

def regsMere : List Reg :=
  regsMere0 ++ regsMere1

def regsXpt0 : List Reg := [
  ⟨"XPT_DEST_CFG", 0x1600000, [(64, 1536)], 0, [.fld F.XPT_DEST_CFG_LOSS_POLICY, .fld F.XPT_DEST_CFG_GANG, .fld F.XPT_DEST_CFG_FOLLOW, .fld F.XPT_DEST_CFG_ENABLE, .fld F.XPT_DEST_CFG_RATE, .fld F.XPT_DEST_CFG_FORMAT]⟩,
  ⟨"XPT_DEST_STATUS", 0x1600004, [(64, 1536)], 0, [.fld F.XPT_DEST_STATUS_SOURCE, .fld F.XPT_DEST_STATUS_ON_BACKUP, .fld F.XPT_DEST_STATUS_MISMATCH, .fld F.XPT_DEST_STATUS_SRC_LOST, .fld F.XPT_DEST_STATUS_PLANE, .fld F.XPT_DEST_STATUS_ENABLED, .fld F.XPT_DEST_STATUS_FORMAT, .fld F.XPT_DEST_STATUS_RATE]⟩,
  ⟨"XPT_AC_CFG", 0x1600008, [(64, 1536)], 0, [.fld F.XPT_AC_CFG_BACKUP, .fld F.XPT_AC_CFG_REVERTIVE, .fld F.XPT_AC_CFG_TRIG, .fld F.XPT_AC_CFG_AC_EN]⟩,
  ⟨"XPT_AC_THRESH", 0x160000C, [(64, 1536)], 0, [.fld F.XPT_AC_THRESH_SILENCE_FR, .fld F.XPT_AC_THRESH_ERR_RATE, .fld F.XPT_AC_THRESH_FREEZE_FR, .fld F.XPT_AC_THRESH_BLACK_FR]⟩,
  ⟨"XPT_AC_REVERT", 0x1600010, [(64, 1536)], 0, [.fld F.XPT_AC_REVERT_REVERT_FRAMES]⟩,
  ⟨"XPT_SEAL_VOTED", 0x1600020, [(64, 1536)], 0, [.cnt C.XPT_SEAL_VOTED]⟩,
  ⟨"XPT_SEAL_AGREE", 0x1600024, [(64, 1536)], 0, [.cnt C.XPT_SEAL_AGREE]⟩,
  ⟨"XPT_SEAL_CORRECTED", 0x1600028, [(64, 1536)], 0, [.cnt C.XPT_SEAL_CORRECTED]⟩,
  ⟨"XPT_SEAL_SHADOW_FAIL", 0x160002C, [(64, 1536)], 0, [.cnt C.XPT_SEAL_SHADOW_FAIL]⟩,
  ⟨"XPT_SEAL_ESCAPED", 0x1600030, [(64, 1536)], 0, [.cnt C.XPT_SEAL_ESCAPED]⟩,
  ⟨"XPT_SEAL_UNCORR_MERE", 0x1600034, [(64, 1536)], 0, [.cnt C.XPT_SEAL_UNCORR_MERE]⟩,
  ⟨"XPT_SEAL_UNCORR_SKIM", 0x1600038, [(64, 1536)], 0, [.cnt C.XPT_SEAL_UNCORR_SKIM]⟩]

def regsXpt1 : List Reg := [
  ⟨"XPT_TAKES_APPLIED", 0x160003C, [(64, 1536)], 0, [.cnt C.XPT_TAKES_APPLIED]⟩,
  ⟨"XPT_TL_STATUS", 0x1680000, [], 0, [.fld F.XPT_TL_STATUS_HELD, .fld F.XPT_TL_STATUS_USED]⟩,
  ⟨"XPT_TL_ADMITTED", 0x1680010, [], 0, [.cnt C.XPT_TL_ADMITTED]⟩,
  ⟨"XPT_TL_APPLIED", 0x1680014, [], 0, [.cnt C.XPT_TL_APPLIED]⟩,
  ⟨"XPT_TL_SUPERSEDED", 0x1680018, [], 0, [.cnt C.XPT_TL_SUPERSEDED]⟩,
  ⟨"XPT_TL_CANCELLED", 0x168001C, [], 0, [.cnt C.XPT_TL_CANCELLED]⟩,
  ⟨"XPT_TL_REFUSED_ARM", 0x1680020, [], 0, [.cnt C.XPT_TL_REFUSED_ARM]⟩,
  ⟨"XPT_GEN_CFG", 0x1680100, [(4, 16)], 0, [.fld F.XPT_GEN_CFG_FORMAT, .fld F.XPT_GEN_CFG_RATE, .fld F.XPT_GEN_CFG_LEVEL, .fld F.XPT_GEN_CFG_PATTERN, .fld F.XPT_GEN_CFG_ENABLE]⟩,
  ⟨"XPT_TRIG", 0x1680200, [(4, 32)], 0, [.fld F.XPT_TRIG_EN, .fld F.XPT_TRIG_SALVO_ID]⟩,
  ⟨"XPT_INJECT", 0x1680300, [], 0, [.fld F.XPT_INJECT_GO, .fld F.XPT_INJECT_PLANE, .fld F.XPT_INJECT_COUNT, .fld F.XPT_INJECT_DEST]⟩]

def regsXpt : List Reg :=
  regsXpt0 ++ regsXpt1

def regsEgr : List Reg := [
  ⟨"EGR_DEST_CFG", 0x1700000, [(64, 1536)], 0, [.fld F.EGR_DEST_CFG_EMBED_GROUPS]⟩,
  ⟨"EGR_ANC_DROPPED", 0x1700010, [(64, 1536)], 0, [.cnt C.EGR_ANC_DROPPED]⟩,
  ⟨"EGR_AUD_PKT_REMOVED", 0x1700014, [(64, 1536)], 0, [.cnt C.EGR_AUD_PKT_REMOVED]⟩]

def regsMv0 : List Reg := [
  ⟨"MV_HEAD_CFG", 0x1800000, [(16384, 16)], 0, [.fld F.MV_HEAD_CFG_FORMAT, .fld F.MV_HEAD_CFG_RATE, .fld F.MV_HEAD_CFG_LATE_HOLD, .fld F.MV_HEAD_CFG_ENABLE]⟩,
  ⟨"MV_HEAD_STATUS", 0x1800004, [(16384, 16)], 0, [.fld F.MV_HEAD_STATUS_SHARES, .fld F.MV_HEAD_STATUS_READ_UNITS, .fld F.MV_HEAD_STATUS_TILES, .fld F.MV_HEAD_STATUS_GUARD_FAIL, .fld F.MV_HEAD_STATUS_SCALER_FAULT, .fld F.MV_HEAD_STATUS_RUN]⟩,
  ⟨"MV_SCREED", 0x1800008, [(16384, 16)], 0, [.fld F.MV_SCREED_CR, .fld F.MV_SCREED_CB, .fld F.MV_SCREED_Y]⟩,
  ⟨"MV_TALLY", 0x180000C, [(16384, 16)], 0, [.fld F.MV_TALLY_PVW_DEST, .fld F.MV_TALLY_PGM_DEST]⟩,
  ⟨"MV_TILES_DUE", 0x1800020, [(16384, 16)], 0, [.cnt C.MV_TILES_DUE]⟩,
  ⟨"MV_TILES_DRAWN", 0x1800024, [(16384, 16)], 0, [.cnt C.MV_TILES_DRAWN]⟩,
  ⟨"MV_TILES_HELD", 0x1800028, [(16384, 16)], 0, [.cnt C.MV_TILES_HELD]⟩,
  ⟨"MV_TILES_SCREED", 0x180002C, [(16384, 16)], 0, [.cnt C.MV_TILES_SCREED]⟩,
  ⟨"MV_TILES_HATCHED", 0x1800030, [(16384, 16)], 0, [.cnt C.MV_TILES_HATCHED]⟩,
  ⟨"MV_COMPOSE_OVERRUN", 0x1800034, [(16384, 16)], 0, [.cnt C.MV_COMPOSE_OVERRUN]⟩,
  ⟨"MV_GUARD_FAILS", 0x1800038, [(16384, 16)], 0, [.cnt C.MV_GUARD_FAILS]⟩,
  ⟨"MV_PROXY_ERR", 0x180003C, [(16384, 16)], 0, [.cnt C.MV_PROXY_ERR]⟩]

def regsMv1 : List Reg := [
  ⟨"MV_CSET", 0x1800040, [(16384, 16), (4, 7)], 0, [.fld F.MV_CSET_PRESET]⟩,
  ⟨"MV_PALETTE", 0x1800080, [(16384, 16), (4, 16)], 0, [.fld F.MV_PALETTE_CR, .fld F.MV_PALETTE_CB, .fld F.MV_PALETTE_Y]⟩,
  ⟨"MV_TILE_POS", 0x1800400, [(16384, 16), (32, 64)], 0, [.fld F.MV_TILE_POS_Y, .fld F.MV_TILE_POS_X]⟩,
  ⟨"MV_TILE_SIZE", 0x1800404, [(16384, 16), (32, 64)], 0, [.fld F.MV_TILE_SIZE_H, .fld F.MV_TILE_SIZE_W]⟩,
  ⟨"MV_TILE_SRC", 0x1800408, [(16384, 16), (32, 64)], 0, [.fld F.MV_TILE_SRC_EN, .fld F.MV_TILE_SRC_CSET, .fld F.MV_TILE_SRC_PROXY_SEL, .fld F.MV_TILE_SRC_PRIORITY, .fld F.MV_TILE_SRC_SOURCE]⟩,
  ⟨"MV_TILE_CORNICE", 0x180040C, [(16384, 16), (32, 64)], 0, [.fld F.MV_TILE_CORNICE_ALARM_EN, .fld F.MV_TILE_CORNICE_METERS, .fld F.MV_TILE_CORNICE_TC_EN, .fld F.MV_TILE_CORNICE_LABEL_EN, .fld F.MV_TILE_CORNICE_TALLY_EN, .fld F.MV_TILE_CORNICE_BORDER_W, .fld F.MV_TILE_CORNICE_BORDER_COL]⟩,
  ⟨"MV_TILE_STATUS", 0x1800410, [(16384, 16), (32, 64)], 0, [.fld F.MV_TILE_STATUS_PROXY_IN_USE, .fld F.MV_TILE_STATUS_FALLBACK, .fld F.MV_TILE_STATUS_LATE_MARK, .fld F.MV_TILE_STATUS_HELD, .fld F.MV_TILE_STATUS_ALARMS, .fld F.MV_TILE_STATUS_SCALER, .fld F.MV_TILE_STATUS_SHARES, .fld F.MV_TILE_STATUS_READ_UNITS]⟩,
  ⟨"MV_TILE_METER", 0x1801000, [(16384, 16), (64, 64), (4, 16)], 0, [.fld F.MV_TILE_METER_KIND, .fld F.MV_TILE_METER_SPACE, .fld F.MV_TILE_METER_CHANNEL]⟩,
  ⟨"MV_TILE_LABEL", 0x1802000, [(16384, 16), (32, 64), (4, 8)], 0, [.fld F.MV_TILE_LABEL_CHARS]⟩,
  ⟨"MV_GUARD_POS", 0x1802800, [(16384, 16), (16, 64)], 0, [.fld F.MV_GUARD_POS_Y, .fld F.MV_GUARD_POS_X]⟩,
  ⟨"MV_GUARD_SIZE", 0x1802804, [(16384, 16), (16, 64)], 0, [.fld F.MV_GUARD_SIZE_H, .fld F.MV_GUARD_SIZE_W]⟩,
  ⟨"MV_GUARD_CTRL", 0x1802808, [(16384, 16), (16, 64)], 0, [.fld F.MV_GUARD_CTRL_EN, .fld F.MV_GUARD_CTRL_HATCH_ON_FAIL, .fld F.MV_GUARD_CTRL_FAILING, .fld F.MV_GUARD_CTRL_OVERLAP, .fld F.MV_GUARD_CTRL_CLEAR_FRAMES]⟩]

def regsMv2 : List Reg := [
  ⟨"MV_GUARD_SIG", 0x180280C, [(16384, 16), (16, 64)], 0, [.fld F.MV_GUARD_SIG_SIG]⟩,
  ⟨"MV_STALE", 0x1840000, [], 0, [.fld F.MV_STALE_STALE_BLOCKS]⟩,
  ⟨"MV_SCALER_POOL", 0x1840004, [], 0, [.fld F.MV_SCALER_POOL_RETIRED, .fld F.MV_SCALER_POOL_FREE]⟩]

def regsMv : List Reg :=
  regsMv0 ++ regsMv1 ++ regsMv2

def regsCnv : List Reg := [
  ⟨"CNV_CFG", 0x1900000, [(64, 64)], 0, [.fld F.CNV_CFG_EN, .fld F.CNV_CFG_FAULT_ACTION, .fld F.CNV_CFG_GANG, .fld F.CNV_CFG_BANK, .fld F.CNV_CFG_PRESET, .fld F.CNV_CFG_IN_2020, .fld F.CNV_CFG_OUT_2020, .fld F.CNV_CFG_IN_FULL, .fld F.CNV_CFG_OUT_FULL, .fld F.CNV_CFG_DEST]⟩,
  ⟨"CNV_STATUS", 0x1900004, [(64, 64)], 0, [.fld F.CNV_STATUS_PHYS, .fld F.CNV_STATUS_FAULT, .fld F.CNV_STATUS_ATTACHED, .fld F.CNV_STATUS_BANK_IN_EFFECT]⟩,
  ⟨"CNV_LUT_ADDR", 0x1900010, [(64, 64)], 0, [.fld F.CNV_LUT_ADDR_BANK, .fld F.CNV_LUT_ADDR_TABLE, .fld F.CNV_LUT_ADDR_INDEX]⟩,
  ⟨"CNV_LUT_DATA", 0x1900014, [(64, 64)], 0, [.fld F.CNV_LUT_DATA_ENTRY]⟩,
  ⟨"CNV_LINES_IN", 0x1900020, [(64, 64)], 0, [.cnt C.CNV_LINES_IN]⟩,
  ⟨"CNV_LINES_CONVERTED", 0x1900024, [(64, 64)], 0, [.cnt C.CNV_LINES_CONVERTED]⟩,
  ⟨"CNV_LINES_PASSED", 0x1900028, [(64, 64)], 0, [.cnt C.CNV_LINES_PASSED]⟩,
  ⟨"CNV_LUT_REFUSED", 0x190002C, [(64, 64)], 0, [.cnt C.CNV_LUT_REFUSED]⟩]

def regsEth0 : List Reg := [
  ⟨"ETH_PORT_CFG", 0x1A00000, [(64, 8)], 0, [.fld F.ETH_PORT_CFG_MODE, .fld F.ETH_PORT_CFG_ENABLE]⟩,
  ⟨"ETH_PORT_STATUS", 0x1A00004, [(64, 8)], 0, [.fld F.ETH_PORT_STATUS_MODE, .fld F.ETH_PORT_STATUS_LANE_LOCK]⟩,
  ⟨"ETH_LINK_HOLD", 0x1A20000, [], 0, [.fld F.ETH_LINK_HOLD_HOLD_MS]⟩,
  ⟨"ETH_ADDR_LO", 0x1A10008, [(1024, 32)], 0, [.fld F.ETH_ADDR_LO_ADDR]⟩,
  ⟨"ETH_ADDR_HI", 0x1A1000C, [(1024, 32)], 0, [.fld F.ETH_ADDR_HI_ADDR]⟩,
  ⟨"ETH_TX_START", 0x1A10010, [(1024, 32)], 0, [.fld F.ETH_TX_START_STEPS]⟩,
  ⟨"ETH_HASH", 0x1A10200, [(1024, 32), (4, 128)], 0, [.fld F.ETH_HASH_BITS]⟩,
  ⟨"ETH_RX_FRAMES", 0x1A10080, [(1024, 32)], 0, [.cnt C.ETH_RX_FRAMES]⟩,
  ⟨"ETH_RX_DELIVERED", 0x1A10084, [(1024, 32)], 0, [.cnt C.ETH_RX_DELIVERED]⟩,
  ⟨"ETH_RX_MAC_CTRL", 0x1A10088, [(1024, 32)], 0, [.cnt C.ETH_RX_MAC_CTRL]⟩,
  ⟨"ETH_RX_PHY_ERR", 0x1A1008C, [(1024, 32)], 0, [.cnt C.ETH_RX_PHY_ERR]⟩,
  ⟨"ETH_RX_RUNT", 0x1A10090, [(1024, 32)], 0, [.cnt C.ETH_RX_RUNT]⟩]

def regsEth1 : List Reg := [
  ⟨"ETH_RX_OVERSIZE", 0x1A10094, [(1024, 32)], 0, [.cnt C.ETH_RX_OVERSIZE]⟩,
  ⟨"ETH_RX_FCS_ERR", 0x1A10098, [(1024, 32)], 0, [.cnt C.ETH_RX_FCS_ERR]⟩,
  ⟨"ETH_RX_FILTERED", 0x1A1009C, [(1024, 32)], 0, [.cnt C.ETH_RX_FILTERED]⟩,
  ⟨"ETH_RX_VLAN_DROP", 0x1A100A0, [(1024, 32)], 0, [.cnt C.ETH_RX_VLAN_DROP]⟩,
  ⟨"ETH_RX_CTRL_UNSUP", 0x1A100A4, [(1024, 32)], 0, [.cnt C.ETH_RX_CTRL_UNSUP]⟩,
  ⟨"ETH_RX_QUEUE_DROP", 0x1A100A8, [(1024, 32)], 0, [.cnt C.ETH_RX_QUEUE_DROP]⟩,
  ⟨"ETH_RX_MACSEC_DROP", 0x1A100AC, [(1024, 32)], 0, [.cnt C.ETH_RX_MACSEC_DROP]⟩,
  ⟨"ETH_TX_FRAMES_IN", 0x1A100C0, [(1024, 32)], 0, [.cnt C.ETH_TX_FRAMES_IN]⟩,
  ⟨"ETH_TX_SENT", 0x1A100C4, [(1024, 32)], 0, [.cnt C.ETH_TX_SENT]⟩,
  ⟨"ETH_TX_UNDERRUN", 0x1A100C8, [(1024, 32)], 0, [.cnt C.ETH_TX_UNDERRUN]⟩,
  ⟨"ETH_TX_OVERSIZE", 0x1A100CC, [(1024, 32)], 0, [.cnt C.ETH_TX_OVERSIZE]⟩,
  ⟨"ETH_TX_LINK_DROP", 0x1A100D0, [(1024, 32)], 0, [.cnt C.ETH_TX_LINK_DROP]⟩]

def regsEth2 : List Reg := [
  ⟨"ETH_TX_PN_DROP", 0x1A100D4, [(1024, 32)], 0, [.cnt C.ETH_TX_PN_DROP]⟩,
  ⟨"ETH_PAUSE_FRAMES", 0x1A100E0, [(1024, 32)], 0, [.cnt C.ETH_PAUSE_FRAMES]⟩,
  ⟨"ETH_PAUSE_QUANTA_RX", 0x1A100E4, [(1024, 32)], 0, [.cnt C.ETH_PAUSE_QUANTA_RX]⟩,
  ⟨"ETH_PAUSE_QUANTA_SERVED", 0x1A100E8, [(1024, 32)], 0, [.cnt C.ETH_PAUSE_QUANTA_SERVED]⟩,
  ⟨"ETH_PAUSE_QUANTA_CANCELLED", 0x1A100EC, [(1024, 32)], 0, [.cnt C.ETH_PAUSE_QUANTA_CANCELLED]⟩,
  ⟨"ETH_PAUSE_QUANTA_IGNORED", 0x1A100F0, [(1024, 32)], 0, [.cnt C.ETH_PAUSE_QUANTA_IGNORED]⟩,
  ⟨"ETH_FEC_CORR_CW", 0x1A10100, [(1024, 32)], 0, [.cnt C.ETH_FEC_CORR_CW]⟩,
  ⟨"ETH_FEC_UNCORR_CW", 0x1A10104, [(1024, 32)], 0, [.cnt C.ETH_FEC_UNCORR_CW]⟩,
  ⟨"ETH_MAC_CFG", 0x1A10000, [(1024, 32)], 0, [.fld F.ETH_MAC_CFG_MAX_FRAME, .fld F.ETH_MAC_CFG_UNTAGGED_EN, .fld F.ETH_MAC_CFG_BCAST_EN, .fld F.ETH_MAC_CFG_IGNORE_PAUSE]⟩,
  ⟨"ETH_MAC_STATUS", 0x1A10004, [(1024, 32)], 0, [.fld F.ETH_MAC_STATUS_TX_START_NOW, .fld F.ETH_MAC_STATUS_PAUSED, .fld F.ETH_MAC_STATUS_LINK, .fld F.ETH_MAC_STATUS_VALID]⟩,
  ⟨"ETH_VLAN", 0x1A10040, [(1024, 32), (4, 16)], 0, [.fld F.ETH_VLAN_EN, .fld F.ETH_VLAN_VID]⟩]

def regsEth : List Reg :=
  regsEth0 ++ regsEth1 ++ regsEth2

def regsMgt0 : List Reg := [
  ⟨"ETH_ADDR_LO", 0x1B00008, [(4096, 2)], 32, [.fld F.ETH_ADDR_LO_ADDR]⟩,
  ⟨"ETH_ADDR_HI", 0x1B0000C, [(4096, 2)], 32, [.fld F.ETH_ADDR_HI_ADDR]⟩,
  ⟨"ETH_HASH", 0x1B00200, [(4096, 2), (4, 128)], 4096, [.fld F.ETH_HASH_BITS]⟩,
  ⟨"ETH_RX_FRAMES", 0x1B00080, [(4096, 2)], 32, [.cnt C.ETH_RX_FRAMES]⟩,
  ⟨"ETH_RX_DELIVERED", 0x1B00084, [(4096, 2)], 32, [.cnt C.ETH_RX_DELIVERED]⟩,
  ⟨"ETH_RX_MAC_CTRL", 0x1B00088, [(4096, 2)], 32, [.cnt C.ETH_RX_MAC_CTRL]⟩,
  ⟨"ETH_RX_PHY_ERR", 0x1B0008C, [(4096, 2)], 32, [.cnt C.ETH_RX_PHY_ERR]⟩,
  ⟨"ETH_RX_RUNT", 0x1B00090, [(4096, 2)], 32, [.cnt C.ETH_RX_RUNT]⟩,
  ⟨"ETH_RX_OVERSIZE", 0x1B00094, [(4096, 2)], 32, [.cnt C.ETH_RX_OVERSIZE]⟩,
  ⟨"ETH_RX_FCS_ERR", 0x1B00098, [(4096, 2)], 32, [.cnt C.ETH_RX_FCS_ERR]⟩,
  ⟨"ETH_RX_FILTERED", 0x1B0009C, [(4096, 2)], 32, [.cnt C.ETH_RX_FILTERED]⟩,
  ⟨"ETH_RX_VLAN_DROP", 0x1B000A0, [(4096, 2)], 32, [.cnt C.ETH_RX_VLAN_DROP]⟩]

def regsMgt1 : List Reg := [
  ⟨"ETH_RX_CTRL_UNSUP", 0x1B000A4, [(4096, 2)], 32, [.cnt C.ETH_RX_CTRL_UNSUP]⟩,
  ⟨"ETH_RX_QUEUE_DROP", 0x1B000A8, [(4096, 2)], 32, [.cnt C.ETH_RX_QUEUE_DROP]⟩,
  ⟨"ETH_RX_MACSEC_DROP", 0x1B000AC, [(4096, 2)], 32, [.cnt C.ETH_RX_MACSEC_DROP]⟩,
  ⟨"ETH_TX_FRAMES_IN", 0x1B000C0, [(4096, 2)], 32, [.cnt C.ETH_TX_FRAMES_IN]⟩,
  ⟨"ETH_TX_SENT", 0x1B000C4, [(4096, 2)], 32, [.cnt C.ETH_TX_SENT]⟩,
  ⟨"ETH_TX_UNDERRUN", 0x1B000C8, [(4096, 2)], 32, [.cnt C.ETH_TX_UNDERRUN]⟩,
  ⟨"ETH_TX_OVERSIZE", 0x1B000CC, [(4096, 2)], 32, [.cnt C.ETH_TX_OVERSIZE]⟩,
  ⟨"ETH_TX_LINK_DROP", 0x1B000D0, [(4096, 2)], 32, [.cnt C.ETH_TX_LINK_DROP]⟩,
  ⟨"ETH_TX_PN_DROP", 0x1B000D4, [(4096, 2)], 32, [.cnt C.ETH_TX_PN_DROP]⟩,
  ⟨"ETH_PAUSE_FRAMES", 0x1B000E0, [(4096, 2)], 32, [.cnt C.ETH_PAUSE_FRAMES]⟩,
  ⟨"ETH_PAUSE_QUANTA_RX", 0x1B000E4, [(4096, 2)], 32, [.cnt C.ETH_PAUSE_QUANTA_RX]⟩,
  ⟨"ETH_PAUSE_QUANTA_SERVED", 0x1B000E8, [(4096, 2)], 32, [.cnt C.ETH_PAUSE_QUANTA_SERVED]⟩]

def regsMgt2 : List Reg := [
  ⟨"ETH_PAUSE_QUANTA_CANCELLED", 0x1B000EC, [(4096, 2)], 32, [.cnt C.ETH_PAUSE_QUANTA_CANCELLED]⟩,
  ⟨"ETH_PAUSE_QUANTA_IGNORED", 0x1B000F0, [(4096, 2)], 32, [.cnt C.ETH_PAUSE_QUANTA_IGNORED]⟩,
  ⟨"ETH_FEC_CORR_CW", 0x1B00100, [(4096, 2)], 32, [.cnt C.ETH_FEC_CORR_CW]⟩,
  ⟨"ETH_FEC_UNCORR_CW", 0x1B00104, [(4096, 2)], 32, [.cnt C.ETH_FEC_UNCORR_CW]⟩,
  ⟨"MGT_CFG", 0x1B00000, [(4096, 2)], 0, [.fld F.MGT_CFG_MAX_FRAME, .fld F.MGT_CFG_DOWNSHIFT_EN, .fld F.MGT_CFG_BCAST_EN, .fld F.MGT_CFG_IGNORE_PAUSE, .fld F.MGT_CFG_EN]⟩,
  ⟨"MGT_STATUS", 0x1B00004, [(4096, 2)], 0, [.fld F.MGT_STATUS_RENEG, .fld F.MGT_STATUS_DOWNSHIFTED, .fld F.MGT_STATUS_PEER_KX, .fld F.MGT_STATUS_FEC74, .fld F.MGT_STATUS_PAUSED, .fld F.MGT_STATUS_SPEED, .fld F.MGT_STATUS_LINK]⟩,
  ⟨"MGT_IPV4", 0x1B00010, [(4096, 2)], 0, [.fld F.MGT_IPV4_IPV4]⟩,
  ⟨"MGT_SHIFT_CFG", 0x1B00018, [(4096, 2)], 0, [.fld F.MGT_SHIFT_CFG_UPSHIFT_KB]⟩,
  ⟨"MGT_MACSEC_CFG", 0x1B00020, [(4096, 2)], 0, [.fld F.MGT_MACSEC_CFG_REPLAY_WIN, .fld F.MGT_MACSEC_CFG_EN]⟩,
  ⟨"MGT_SAK_DATA", 0x1B00040, [(4096, 2), (4, 8)], 0, [.fld F.MGT_SAK_DATA_KEY]⟩,
  ⟨"MGT_SA_CTRL", 0x1B00060, [(4096, 2)], 0, [.fld F.MGT_SA_CTRL_GO, .fld F.MGT_SA_CTRL_DIR, .fld F.MGT_SA_CTRL_AN]⟩,
  ⟨"MGT_TX_PN", 0x1B00064, [(4096, 2)], 0, [.fld F.MGT_TX_PN_PN]⟩]

def regsMgt : List Reg :=
  regsMgt0 ++ regsMgt1 ++ regsMgt2

def regsIpm0 : List Reg := [
  ⟨"IPM_RX_CFG", 0x1C00000, [(128, 2048)], 0, [.fld F.IPM_RX_CFG_EN, .fld F.IPM_RX_CFG_ESSENCE, .fld F.IPM_RX_CFG_SAMPLING, .fld F.IPM_RX_CFG_SSRC_EN, .fld F.IPM_RX_CFG_FORMAT, .fld F.IPM_RX_CFG_RATE, .fld F.IPM_RX_CFG_PTIME, .fld F.IPM_RX_CFG_PT]⟩,
  ⟨"IPM_RX_LEG_SRC", 0x1C00010, [(128, 2048), (16, 2)], 0, [.fld F.IPM_RX_LEG_SRC_SRC_IP]⟩,
  ⟨"IPM_RX_LEG_DST", 0x1C00014, [(128, 2048), (16, 2)], 0, [.fld F.IPM_RX_LEG_DST_DST_IP]⟩,
  ⟨"IPM_RX_LEG_CTRL", 0x1C00018, [(128, 2048), (16, 2)], 0, [.fld F.IPM_RX_LEG_CTRL_LEG_EN, .fld F.IPM_RX_LEG_CTRL_INST, .fld F.IPM_RX_LEG_CTRL_UDP_PORT]⟩,
  ⟨"IPM_RX_TIMING", 0x1C00030, [(128, 2048)], 0, [.fld F.IPM_RX_TIMING_MERGE_US, .fld F.IPM_RX_TIMING_PLAYOUT_US]⟩,
  ⟨"IPM_RX_AUD", 0x1C00034, [(128, 2048)], 0, [.fld F.IPM_RX_AUD_CHAN_BASE, .fld F.IPM_RX_AUD_CHANNELS]⟩,
  ⟨"IPM_RX_LINK", 0x1C00038, [(128, 2048)], 0, [.fld F.IPM_RX_LINK_LINK]⟩,
  ⟨"IPM_RX_SSRC", 0x1C0003C, [(128, 2048)], 0, [.fld F.IPM_RX_SSRC_SSRC]⟩,
  ⟨"IPM_RX_STATUS", 0x1C00040, [(128, 2048)], 0, [.fld F.IPM_RX_STATUS_SKEW_US, .fld F.IPM_RX_STATUS_LAST_INVALID, .fld F.IPM_RX_STATUS_BLUE_UP, .fld F.IPM_RX_STATUS_RED_UP, .fld F.IPM_RX_STATUS_STATE]⟩,
  ⟨"IPM_RX_LEG_RX", 0x1C00048, [(128, 2048), (12, 2)], 0, [.cnt C.IPM_RX_LEG_RX]⟩,
  ⟨"IPM_RX_LEG_VALID", 0x1C0004C, [(128, 2048), (12, 2)], 0, [.cnt C.IPM_RX_LEG_VALID]⟩,
  ⟨"IPM_RX_LEG_INVALID", 0x1C00050, [(128, 2048), (12, 2)], 0, [.cnt C.IPM_RX_LEG_INVALID]⟩]

def regsIpm1 : List Reg := [
  ⟨"IPM_RX_USED", 0x1C00060, [(128, 2048)], 0, [.cnt C.IPM_RX_USED]⟩,
  ⟨"IPM_RX_DUPLICATE", 0x1C00064, [(128, 2048)], 0, [.cnt C.IPM_RX_DUPLICATE]⟩,
  ⟨"IPM_RX_LATE", 0x1C00068, [(128, 2048)], 0, [.cnt C.IPM_RX_LATE]⟩,
  ⟨"IPM_RX_OVERFLOW", 0x1C0006C, [(128, 2048)], 0, [.cnt C.IPM_RX_OVERFLOW]⟩,
  ⟨"IPM_RX_SEQ_MISSING", 0x1C00070, [(128, 2048)], 0, [.cnt C.IPM_RX_SEQ_MISSING]⟩,
  ⟨"IPM_RX_ANC_UNPLACED", 0x1C00074, [(128, 2048)], 0, [.cnt C.IPM_RX_ANC_UNPLACED]⟩,
  ⟨"IPM_TX_CFG", 0x1C40000, [(128, 2048)], 0, [.fld F.IPM_TX_CFG_EN, .fld F.IPM_TX_CFG_ESSENCE, .fld F.IPM_TX_CFG_SAMPLING, .fld F.IPM_TX_CFG_TYPE, .fld F.IPM_TX_CFG_DEST, .fld F.IPM_TX_CFG_PTIME, .fld F.IPM_TX_CFG_PT]⟩,
  ⟨"IPM_TX_LEG_DST", 0x1C40010, [(128, 2048), (16, 2)], 0, [.fld F.IPM_TX_LEG_DST_DST_IP]⟩,
  ⟨"IPM_TX_LEG_PORT", 0x1C40014, [(128, 2048), (16, 2)], 0, [.fld F.IPM_TX_LEG_PORT_SRC_PORT, .fld F.IPM_TX_LEG_PORT_DST_PORT]⟩,
  ⟨"IPM_TX_LEG_CTRL", 0x1C40018, [(128, 2048), (16, 2)], 0, [.fld F.IPM_TX_LEG_CTRL_LEG_EN, .fld F.IPM_TX_LEG_CTRL_INST]⟩,
  ⟨"IPM_TX_AUD", 0x1C40030, [(128, 2048)], 0, [.fld F.IPM_TX_AUD_CHAN_BASE, .fld F.IPM_TX_AUD_CHANNELS]⟩,
  ⟨"IPM_TX_SSRC", 0x1C40034, [(128, 2048)], 0, [.fld F.IPM_TX_SSRC_SSRC]⟩]

def regsIpm2 : List Reg := [
  ⟨"IPM_TX_LEG_MADE", 0x1C40040, [(128, 2048), (12, 2)], 0, [.cnt C.IPM_TX_LEG_MADE]⟩,
  ⟨"IPM_TX_LEG_SENT", 0x1C40044, [(128, 2048), (12, 2)], 0, [.cnt C.IPM_TX_LEG_SENT]⟩,
  ⟨"IPM_TX_LEG_DROP", 0x1C40048, [(128, 2048), (12, 2)], 0, [.cnt C.IPM_TX_LEG_DROP]⟩,
  ⟨"IPM_TX_STAGE_ERR", 0x1C40058, [(128, 2048)], 0, [.cnt C.IPM_TX_STAGE_ERR]⟩,
  ⟨"IPM_TX_PACE_LATE", 0x1C4005C, [(128, 2048)], 0, [.cnt C.IPM_TX_PACE_LATE]⟩,
  ⟨"IPM_INST_IPV4", 0x1C80000, [(64, 32)], 0, [.fld F.IPM_INST_IPV4_IPV4]⟩,
  ⟨"IPM_INST_TX", 0x1C80004, [(64, 32)], 0, [.fld F.IPM_INST_TX_VLAN_EN, .fld F.IPM_INST_TX_PCP, .fld F.IPM_INST_TX_VID]⟩,
  ⟨"IPM_INST_DSCP", 0x1C80008, [(64, 32)], 0, [.fld F.IPM_INST_DSCP_DSCP_ANC, .fld F.IPM_INST_DSCP_DSCP_AUD, .fld F.IPM_INST_DSCP_DSCP_VID]⟩,
  ⟨"IPM_INST_OFFERED", 0x1C80010, [(64, 32)], 0, [.cnt C.IPM_INST_OFFERED]⟩,
  ⟨"IPM_INST_MATCHED", 0x1C80014, [(64, 32)], 0, [.cnt C.IPM_INST_MATCHED]⟩,
  ⟨"IPM_INST_UNMATCHED", 0x1C80018, [(64, 32)], 0, [.cnt C.IPM_INST_UNMATCHED]⟩,
  ⟨"IPM_INST_IP_BAD", 0x1C8001C, [(64, 32)], 0, [.cnt C.IPM_INST_IP_BAD]⟩]

def regsIpm3 : List Reg := [
  ⟨"IPM_INST_IGMP_REPORTS", 0x1C80020, [(64, 32)], 0, [.cnt C.IPM_INST_IGMP_REPORTS]⟩,
  ⟨"IPM_INST_IGMP_OLD_QUERIER", 0x1C80024, [(64, 32)], 0, [.cnt C.IPM_INST_IGMP_OLD_QUERIER]⟩,
  ⟨"IPM_TIMEOUT", 0x1C90000, [], 0, [.fld F.IPM_TIMEOUT_LOSS_MS, .fld F.IPM_TIMEOUT_LEG_MS]⟩,
  ⟨"IPM_STORE", 0x1C90004, [], 0, [.fld F.IPM_STORE_FREE]⟩]

def regsIpm : List Reg :=
  regsIpm0 ++ regsIpm1 ++ regsIpm2 ++ regsIpm3

def regsApt0 : List Reg := [
  ⟨"APT_PORT_CFG", 0x1D00000, [(256, 24)], 0, [.fld F.APT_PORT_CFG_EN, .fld F.APT_PORT_CFG_DIR, .fld F.APT_PORT_CFG_FMT, .fld F.APT_PORT_CFG_SLOTS, .fld F.APT_PORT_CFG_WIDTH, .fld F.APT_PORT_CFG_FS_NOM, .fld F.APT_PORT_CFG_BCLK_FALL, .fld F.APT_PORT_CFG_DATA_DELAY, .fld F.APT_PORT_CFG_OUT_HIZ, .fld F.APT_PORT_CFG_GROUP]⟩,
  ⟨"APT_PORT_MASK", 0x1D00004, [(256, 24)], 0, [.fld F.APT_PORT_MASK_MASK]⟩,
  ⟨"APT_PORT_MASK_EFF", 0x1D00008, [(256, 24)], 0, [.fld F.APT_PORT_MASK_EFF_MASK]⟩,
  ⟨"APT_PORT_CTRL", 0x1D0000C, [(256, 24)], 0, [.fld F.APT_PORT_CTRL_RESTART]⟩,
  ⟨"APT_PORT_MUTE", 0x1D00010, [(256, 24)], 0, [.fld F.APT_PORT_MUTE_MUTE]⟩,
  ⟨"APT_PORT_MUTE_EFF", 0x1D00014, [(256, 24)], 0, [.fld F.APT_PORT_MUTE_EFF_MUTE]⟩,
  ⟨"APT_PORT_STATUS", 0x1D00018, [(256, 24)], 0, [.fld F.APT_PORT_STATUS_PHASE, .fld F.APT_PORT_STATUS_SWAP_SUSPECT, .fld F.APT_PORT_STATUS_LEADER, .fld F.APT_PORT_STATUS_ACQ_CAUSE, .fld F.APT_PORT_STATUS_STATE]⟩,
  ⟨"APT_PORT_FS", 0x1D0001C, [(256, 24)], 0, [.fld F.APT_PORT_FS_PPB]⟩,
  ⟨"APT_RECEIVED", 0x1D00040, [(256, 24)], 0, [.cnt C.APT_RECEIVED]⟩,
  ⟨"APT_DELIVERED", 0x1D00044, [(256, 24)], 0, [.cnt C.APT_DELIVERED]⟩,
  ⟨"APT_DROPPED", 0x1D00048, [(256, 24)], 0, [.cnt C.APT_DROPPED]⟩,
  ⟨"APT_ZERO_INSERTED", 0x1D0004C, [(256, 24)], 0, [.cnt C.APT_ZERO_INSERTED]⟩]

def regsApt1 : List Reg := [
  ⟨"APT_QUEUED", 0x1D00050, [(256, 24)], 0, [.cnt C.APT_QUEUED]⟩,
  ⟨"APT_SLIPS", 0x1D00054, [(256, 24)], 0, [.cnt C.APT_SLIPS]⟩,
  ⟨"APT_ZC_TIMEOUTS", 0x1D00058, [(256, 24)], 0, [.cnt C.APT_ZC_TIMEOUTS]⟩,
  ⟨"APT_COUNT_ERRORS", 0x1D0005C, [(256, 24)], 0, [.cnt C.APT_COUNT_ERRORS]⟩,
  ⟨"APT_GROUP_CTRL", 0x1D10020, [(32, 8)], 0, [.fld F.APT_GROUP_CTRL_ARM, .fld F.APT_GROUP_CTRL_FIRE, .fld F.APT_GROUP_CTRL_START_SRC, .fld F.APT_GROUP_CTRL_PIN]⟩,
  ⟨"APT_GROUP_STATUS", 0x1D10024, [(32, 8)], 0, [.fld F.APT_GROUP_STATUS_LEADER, .fld F.APT_GROUP_STATUS_RUNNING]⟩,
  ⟨"APT_GROUP_MISSED", 0x1D10028, [(32, 8)], 0, [.fld F.APT_GROUP_MISSED_MISSED]⟩,
  ⟨"APT_GROUP_TIME_LO", 0x1D1002C, [(32, 8)], 0, [.fld F.APT_GROUP_TIME_LO_NS]⟩,
  ⟨"APT_GROUP_TIME_HI", 0x1D10030, [(32, 8)], 0, [.fld F.APT_GROUP_TIME_HI_NS]⟩,
  ⟨"APT_GROUP_INDEX_LO", 0x1D10034, [(32, 8)], 0, [.fld F.APT_GROUP_INDEX_LO_INDEX]⟩,
  ⟨"APT_GROUP_INDEX_HI", 0x1D10038, [(32, 8)], 0, [.fld F.APT_GROUP_INDEX_HI_INDEX]⟩,
  ⟨"APT_ZC_CFG", 0x1D20000, [], 0, [.fld F.APT_ZC_CFG_ZC_TIMEOUT_MS]⟩]

def regsApt : List Reg :=
  regsApt0 ++ regsApt1

def regsAmx0 : List Reg := [
  ⟨"AMX_DEST_LIST", 0x1E00000, [(8, 65536)], 0, [.fld F.AMX_DEST_LIST_COUNT, .fld F.AMX_DEST_LIST_FIRST]⟩,
  ⟨"AMX_DEST_RAMP", 0x1E00004, [(8, 65536)], 0, [.fld F.AMX_DEST_RAMP_MUTE, .fld F.AMX_DEST_RAMP_RAMP_LEN]⟩,
  ⟨"AMX_METER_CFG", 0x1E80000, [(16, 16384)], 0, [.fld F.AMX_METER_CFG_EN, .fld F.AMX_METER_CFG_SPACE, .fld F.AMX_METER_CFG_LOUD_EN, .fld F.AMX_METER_CFG_WEIGHT, .fld F.AMX_METER_CFG_PEAK_IDX, .fld F.AMX_METER_CFG_GROUP, .fld F.AMX_METER_CFG_CHANNEL]⟩,
  ⟨"AMX_METER_PEAK", 0x1E80004, [(16, 16384)], 0, [.fld F.AMX_METER_PEAK_TRUE_PEAK, .fld F.AMX_METER_PEAK_PEAK]⟩,
  ⟨"AMX_METER_LOUD", 0x1E80008, [(16, 16384)], 0, [.fld F.AMX_METER_LOUD_SHORT, .fld F.AMX_METER_LOUD_MOMENTARY]⟩,
  ⟨"AMX_METER_STAT", 0x1E8000C, [(16, 16384)], 0, [.fld F.AMX_METER_STAT_INTEGRATED, .fld F.AMX_METER_STAT_UPDATED]⟩,
  ⟨"AMX_JOB_RANGE", 0x1EC0000, [(32, 1024)], 0, [.fld F.AMX_JOB_RANGE_LAST, .fld F.AMX_JOB_RANGE_FIRST]⟩,
  ⟨"AMX_JOB_ENGINE", 0x1EC0004, [(32, 1024)], 0, [.fld F.AMX_JOB_ENGINE_VALID, .fld F.AMX_JOB_ENGINE_ENGINE]⟩,
  ⟨"AMX_JOB_BLOCKS_DUE", 0x1EC0008, [(32, 1024)], 0, [.cnt C.AMX_JOB_BLOCKS_DUE]⟩,
  ⟨"AMX_JOB_BLOCKS_DONE", 0x1EC000C, [(32, 1024)], 0, [.cnt C.AMX_JOB_BLOCKS_DONE]⟩,
  ⟨"AMX_JOB_BLOCKS_OVERRUN", 0x1EC0010, [(32, 1024)], 0, [.cnt C.AMX_JOB_BLOCKS_OVERRUN]⟩,
  ⟨"AMX_LGROUP_LOUD", 0x1ED0000, [(16, 128)], 0, [.fld F.AMX_LGROUP_LOUD_SHORT, .fld F.AMX_LGROUP_LOUD_MOMENTARY]⟩]

def regsAmx1 : List Reg := [
  ⟨"AMX_LGROUP_INT", 0x1ED0004, [(16, 128)], 0, [.fld F.AMX_LGROUP_INT_INTEGRATED, .fld F.AMX_LGROUP_INT_MEMBERS]⟩,
  ⟨"AMX_LOUD_RESET", 0x1EE0000, [], 0, [.fld F.AMX_LOUD_RESET_GO, .fld F.AMX_LOUD_RESET_GROUP, .fld F.AMX_LOUD_RESET_INDEX]⟩]

def regsAmx : List Reg :=
  regsAmx0 ++ regsAmx1

def regsFenCommon0 : List Reg := [
  ⟨"FEN_MAP", 0x1F00000, [(4, 256)], 0, [.fld F.FEN_MAP_VALID, .fld F.FEN_MAP_PHYS]⟩,
  ⟨"FEN_POOL", 0x1F00400, [], 0, [.fld F.FEN_POOL_RETIRED, .fld F.FEN_POOL_FREE]⟩,
  ⟨"FEN_SCHED", 0x1F00404, [], 0, [.fld F.FEN_SCHED_BLOCK_BUDGET]⟩,
  ⟨"FEN_JOB", 0x1F10000, [(512, 256), (8, 64)], 0, [.fld F.FEN_JOB_EN, .fld F.FEN_JOB_CLASS, .fld F.FEN_JOB_ENTRY]⟩,
  ⟨"FEN_JOB_ARG", 0x1F10004, [(512, 256), (8, 64)], 0, [.fld F.FEN_JOB_ARG_ARG]⟩,
  ⟨"FEN_JOBS_DUE", 0x1F40000, [(32, 256)], 0, [.cnt C.FEN_JOBS_DUE]⟩,
  ⟨"FEN_JOBS_DONE", 0x1F40004, [(32, 256)], 0, [.cnt C.FEN_JOBS_DONE]⟩,
  ⟨"FEN_JOBS_OVERRUN", 0x1F40008, [(32, 256)], 0, [.cnt C.FEN_JOBS_OVERRUN]⟩,
  ⟨"FEN_JOBS_TRAPPED", 0x1F4000C, [(32, 256)], 0, [.cnt C.FEN_JOBS_TRAPPED]⟩,
  ⟨"FEN_BUSY_MAX", 0x1F40010, [(32, 256)], 0, [.fld F.FEN_BUSY_MAX_CYCLES]⟩,
  ⟨"FEN_GUARD_OVF_CNT", 0x1F40014, [(32, 256)], 0, [.cnt C.FEN_GUARD_OVF_CNT]⟩,
  ⟨"FEN_FOLDS", 0x1F40018, [(32, 256)], 0, [.cnt C.FEN_FOLDS]⟩]

def regsFenCommon1 : List Reg := [
  ⟨"FEN_TRAPS", 0x1F4001C, [(32, 256)], 0, [.cnt C.FEN_TRAPS]⟩,
  ⟨"FEN_VREC", 0x1F80000, [(64, 1536), (4, 16)], 0, [.fld F.FEN_VREC_WORD]⟩]

def regsFenCommon : List Reg :=
  regsFenCommon0 ++ regsFenCommon1

def regsFenEngine : List Reg := [
  ⟨"FEN_ENG_CTRL", 0x2000000, [(1048576, 8), (30720, 34)], 0, [.fld F.FEN_ENG_CTRL_HALT]⟩,
  ⟨"FEN_ENG_STATUS", 0x2000004, [(1048576, 8), (30720, 34)], 0, [.fld F.FEN_ENG_STATUS_GUARD_OVF, .fld F.FEN_ENG_STATUS_LOGICAL, .fld F.FEN_ENG_STATUS_USE, .fld F.FEN_ENG_STATUS_HALTED, .fld F.FEN_ENG_STATUS_LEVEL, .fld F.FEN_ENG_STATUS_RUN]⟩,
  ⟨"FEN_PAGE", 0x2000008, [(1048576, 8), (30720, 34)], 0, [.fld F.FEN_PAGE_PAGE]⟩,
  ⟨"FEN_TRAP", 0x200000C, [(1048576, 8), (30720, 34)], 0, [.fld F.FEN_TRAP_CAUSE, .fld F.FEN_TRAP_LEVEL, .fld F.FEN_TRAP_PC]⟩,
  ⟨"FEN_PTR", 0x2000040, [(1048576, 8), (30720, 34), (16, 8), (4, 4)], 0, [.fld F.FEN_PTR_WORD]⟩,
  ⟨"FEN_WINDOW", 0x2003800, [(1048576, 8), (30720, 34), (4, 4096)], 0, [.fld F.FEN_WINDOW_WORD]⟩]

def regsTap : List Reg := [
  ⟨"TAP_GAIN", 0x2800000, [(1048576, 16), (8, 131072)], 0, [.fld F.TAP_GAIN_GAIN]⟩,
  ⟨"TAP_SRC", 0x2800004, [(1048576, 16), (8, 131072)], 0, [.fld F.TAP_SRC_SOURCE]⟩]

/-- The registers of BAR0 window `k` (R135). -/
def regsOfWindow (k : Nat) : List Reg :=
  if k = 0 then regsTop else
  if k = 1 then regsBoot else
  if k = 2 then regsBus else
  if k = 3 then regsPci else
  if k = 4 then regsEvt else
  if k = 5 then regsCmd else
  if k = 6 then regsClk else
  if k = 7 then regsTick else
  if k = 8 then regsRef else
  if k = 9 then regsPtp else
  if k = 10 then regsGpio else
  if k = 11 then regsHlt else
  if k = 12 then regsLdg else
  if k = 13 then regsBist else
  if k = 14 then regsRpr else
  if k = 15 then regsCsw else
  if 16 ≤ k ∧ k ≤ 19 then regsReed else
  if k = 20 then regsIng else
  if k = 21 then regsMere else
  if k = 22 then regsXpt else
  if k = 23 then regsEgr else
  if k = 24 then regsMv else
  if k = 25 then regsCnv else
  if k = 26 then regsEth else
  if k = 27 then regsMgt else
  if k = 28 then regsIpm else
  if k = 29 then regsApt else
  if k = 30 then regsAmx else
  if k = 31 then regsFenCommon else
  if 32 ≤ k ∧ k ≤ 39 then regsFenEngine else
  if 40 ≤ k ∧ k ≤ 55 then regsTap else
  []

end Sys2Proof.Machine
end

