-- ==== Sys2Proof/Machine/Rolling.lean ====
section
/-! DEFINITION. Rolling self-test as the rest of the device meets it: units under test, the abort of a slice and the return of a
unit to its pool (R495–R499). -/

namespace Sys2Proof.Machine

/-! ### A bus master that is reset (R76, R86, R87) -/

/-- The transaction IDs that master `m` holds at most (R76). -/
def idLimit (m : Nat) : Nat := [16, 32, 8, 8, 4, 4, 8, 1].getD m 0

/-- A burst of a reset master ends: the matrix completes the beats that are left, or all have been exchanged in this cycle and it
completes normally (R86, R87). -/
def Dev.burstReset (d : Dev) (m left : Nat) : Dev :=
  if left = 0 then d.bump K.BUS_COMPLETED m else (d.bump C.BUS_ON_BEHALF m).raise 899 [m, left]

/-- A master is reset while bursts of it are in progress: those that the state holds, and those of accesses that no command stands for,
`beats` being the beats that each of them has left (R86).  A master holds no more bursts than IDs (R76). -/
def Dev.onBehalf (d : Dev) (m : Nat) (beats : List Nat) : Dev :=
  let own := d.bursts.filter fun b => b.master == m
  if own = [] ∧ beats = [] then d
  else
    let more := beats.take (idLimit m - own.length)
    let d := ({ d with bursts := d.bursts.filter fun b => b.master != m }.hset H.busOutstanding m 0).bump K.BUS_ISSUED m more.length
    d.each (own.map Burst.left ++ more) fun d n => d.burstReset m n

/-! ### Units under test -/

/-- Change the self-test block's own state. -/
def Dev.onBist (d : Dev) (f : Bist → Bist) : Dev := { d with bist := f d.bist }

/-- What rolling self-test keeps of a pool. -/
def Dev.poolTest (d : Dev) (q : Nat) : PoolTest := d.bist.pools.getD q PoolTest.reset

def Dev.onPool (d : Dev) (q : Nat) (f : PoolTest → PoolTest) : Dev :=
  d.onBist fun b => { b with pools := b.pools.modify q f }

/-- The unit under test of a pool; 0x1FF for none. -/
def Dev.poolUnit (d : Dev) (q : Nat) : Nat := d.get F.BIST_POOL_UNIT q

/-- 0 no slice runs, 1 a slice runs, 2 the unit is being restored. -/
def Dev.poolState (d : Dev) (q : Nat) : Nat := d.get F.BIST_POOL_STATE q

/-- The pool has a unit under test that is not being restored. -/
def Dev.testing (d : Dev) (q : Nat) : Bool := d.poolUnit q != 0x1FF && d.poolState q != 2

/-- The value kept for a unit. -/
def kept (l : List (Nat × Nat)) (u d : Nat) : Nat := ((l.find? fun e => e.1 == u).map Prod.snd).getD d

/-- A value is kept for a unit. -/
def keep (l : List (Nat × Nat)) (u v : Nat) : List (Nat × Nat) := (u, v) :: l.filter fun e => e.1 != u

/-- A unit is marked as under test, or as an idle spare again: its USE, or the implied value of its pool. -/
def Dev.markTest (d : Dev) (q u : Nat) (on : Bool) : Dev :=
  match q with
  | 0 => d.set F.FEN_ENG_STATUS_USE u (if on then 2 else 0)
  | 1 => d.hset H.cnvTest u (ofBool on)
  | 2 => d.hset H.scalerTest 0 (ofBool on)
  | _ => d

/-- The pool has no unit under test any more. -/
def Dev.poolIdle (d : Dev) (q : Nat) : Dev :=
  (((d.set F.BIST_POOL_UNIT q 0x1FF).set F.BIST_POOL_SLICE q 0).set F.BIST_POOL_STATE q 0).onPool q fun p => { p with failed := false }

/-- The unit under test returns to its pool as an idle spare. -/
def Dev.endTest (d : Dev) (q : Nat) : Dev :=
  if d.poolUnit q = 0x1FF then d else (d.markTest q (d.poolUnit q) false).poolIdle q

/-- The slice of the unit under test is aborted (R486, R498, R499) for master `m`: a slice that runs is recorded INCOMPLETE and is
run again from its start, no earlier than the next frame tick (R497); the unit is not taken again for 1 s, and bus master 5 is reset
(R76). -/
def Dev.abortTest (d : Dev) (q m : Nat) : Dev :=
  if !d.testing q then d
  else
    let u := d.poolUnit q
    let d := if d.poolState q = 1 then d.bump C.BIST_SLICES_INCOMPLETE else d
    ((d.set F.BIST_POOL_STATE q 2).onPool q fun p =>
      { p with
        failed := false
        hold := keep (p.hold.filter fun e => e.2 > d.clock.core) u (d.clock.core + 10 ^ 9)
        wait := [(u, d.tick.frame + 1)] }).raise 867 [q, u, m] |>.onBehalf 5 []

/-- DEBUG is the JTAG instruction in effect: bus master 7 has access.  While DEBUG_LOCK is programmed it acts as BYPASS (R504). -/
def Dev.debugOn (d : Dev) : Bool := d.tap.ir == 0x0020 && d.bist.efuse.debugLock == 0

/-- Master `m` makes an access: master 7 makes none without DEBUG (R504). -/
def Dev.access (d : Dev) (m : Nat) (f : Dev → Dev) : Dev := if m = 7 ∧ !d.debugOn then d else f d

/-- The Fen unit in whose window a BAR0 offset lies (R136). -/
def fenWindowUnit (off : Nat) : Option Nat :=
  if 0x2000000 ≤ off ∧ off < 0x2800000 ∧ off % 0x100000 / 0x7800 < 34 then
    some (34 * ((off - 0x2000000) / 0x100000) + off % 0x100000 / 0x7800)
  else none

/-- The BAR0 offset of a register of unit `n` that lies at `off` in its window (R136). -/
def fenOffset (n off : Nat) : Nat := 0x2000000 + n / 34 * 0x100000 + n % 34 * 0x7800 + off

/-- The offset addresses a unit under test (R499). -/
def Dev.underTest (d : Dev) (off : Nat) : Bool :=
  match fenWindowUnit off with
  | some u => d.get F.FEN_ENG_STATUS_USE u == 2
  | none => false

end Sys2Proof.Machine
end

