-- ==== Sys2Proof/Machine/Gate.lean ====
section
/-! DEFINITION. What a bus access to BAR0 passes before it reaches a register: the lease units of the windows (R114, R117),
the sump (R80, R81, R135), and the mirroring of completed writes (R463). -/

namespace Sys2Proof.Machine

/-- The lease unit that covers window `k` (R114). -/
def unitOfWindow (k : Nat) : Option Nat :=
  if 0x10 ≤ k ∧ k ≤ 0x13 then some 0
  else if 0x14 ≤ k ∧ k ≤ 0x19 then some (k - 0x13)
  else if k = 0x1A then some 11
  else if k = 0x1C then some 7
  else if k = 0x1D then some 12
  else if k = 0x1E then some 8
  else if 0x1F ≤ k ∧ k ≤ 0x27 then some 13
  else if 0x28 ≤ k ∧ k ≤ 0x37 then some 9
  else if k = 0x08 then some 10
  else if k = 0x09 then some 14
  else if k = 0x0A then some 15
  else none

/-- The offset lies in the MSI-X table or its PBA (R130). -/
def inMsix (off : Nat) : Bool := (0x301000 ≤ off && off < 0x301400) || (0x302000 ≤ off && off < 0x302008)

/-- The offset lies among the 64-bit copies of the ledger counts (R514). -/
def inCopies (off : Nat) : Bool := 0xC10000 ≤ off && off < 0xD00000

/-- The lease unit of a BAR0 offset. -/
def unitOf (off : Nat) : Option Nat := unitOfWindow (off / 0x100000)

/-- The register at a BAR0 offset and its instance. -/
def findReg (off : Nat) : Option (Reg × Nat) :=
  (regsOfWindow (off / 0x100000)).findSome? fun r => (r.at? off).map fun i => (r, i)

/-- The block of the offset's window defines it (R135). -/
def defined (off : Nat) : Bool := (findReg off).isSome || inMsix off || inCopies off

/-- An SH field of the register. -/
def Reg.shadowed (r : Reg) : Bool := r.parts.any fun p => match p with
  | .fld f => f.acc == .sh
  | .cnt _ => false

/-- An RW field of the register. -/
def Reg.writable (r : Reg) : Bool := r.parts.any fun p => match p with
  | .fld f => f.acc == .rw
  | .cnt _ => false

/-- The bits of a register that are mirrored: its SH and RW fields, and the words of a Fen unit's memory window (R463). -/
def Reg.mirrorMask (r : Reg) : Nat :=
  if r.base = 0x2003800 then 2 ^ 32 - 1
  else (r.parts.map fun p => match p with
    | .fld f => if f.acc == .sh || f.acc == .rw then (2 ^ f.width - 1) * 2 ^ f.lsb else 0
    | .cnt _ => 0).sum

/-- A completed write to the register is mirrored (R463). -/
def mirrored (off : Nat) (r : Reg) : Bool :=
  let k := off / 0x100000
  r.mirrorMask != 0 && (r.shadowed ||
    (r.writable && (unitOf off).isSome && k != 0x08 && k != 0x09 &&
      !(0x10 ≤ k && k ≤ 0x13 && off % 0x2000 < 0x20 && !(k == 0x10 && 0xC0000 ≤ off % 0x100000))) ||
    (0x20 ≤ k && k ≤ 0x27))

/-- The offset that a live item names: in the window of a Fen unit, the engine that the unit serves stands for the unit (R463). -/
def Dev.mirrorOffset (d : Dev) (off : Nat) : Option Nat :=
  match fenWindowUnit off with
  | some u =>
    let l := d.get F.FEN_ENG_STATUS_LOGICAL u
    if l < 256 then some (fenOffset l (off % 0x100000 % 0x7800)) else none
  | none => some off

/-- A completed write of `w` at `off` is mirrored to the partner. -/
def Dev.mirror (d : Dev) (off w : Nat) : Dev :=
  match findReg off, d.mirrorOffset off with
  | some (r, _), some o => if mirrored off r then d.live (.write o (w &&& r.mirrorMask)) else d
  | _, _ => d

/-- The BAR0 offset of instance `i` of a register, `i` counted from its first. -/
def Reg.offset (r : Reg) (i : Nat) : Nat :=
  r.base + (r.dims.foldr (fun d acc => (acc.1 / d.2, acc.2 + acc.1 % d.2 * d.1)) (i, 0)).2

/-- The sump answers an access of master `m` (R80): the first is captured and raised, later ones counted until
VALID is cleared. -/
def Dev.sump (d : Dev) (m addr beats : Nat) (write : Bool) : Dev :=
  if d.get F.BUS_SUMP_INFO_VALID == 1 then
    d.set F.BUS_SUMP_INFO_OVERFLOW 0 (min 32767 (d.get F.BUS_SUMP_INFO_OVERFLOW + 1))
  else
    ((((((d.set F.BUS_SUMP_ADDR_LO_ADDR 0 addr).set F.BUS_SUMP_ADDR_HI_ADDR 0 (addr / 2 ^ 32)).set
      F.BUS_SUMP_INFO_VALID 0 1).set F.BUS_SUMP_INFO_WRITE 0 (ofBool write)).set
      F.BUS_SUMP_INFO_BEATS 0 (beats - 1)).set F.BUS_SUMP_INFO_MASTER 0 m).raise 896 (m :: words2 addr)

/-- The internal address of a BAR0 offset (R77). -/
def csrAddress (off : Nat) : Nat := 0x40000000 + off

/-- The matrix answers an access of master `m` (R81). -/
def Dev.answer (d : Dev) (m : Nat) (a : Answer) : Dev := d.emit (.bus m a)

/-- A master gets a transaction ID and frees it with the answer (R88). -/
def Dev.transaction (d : Dev) (m : Nat) : Dev := (d.bump K.BUS_ISSUED m).bump K.BUS_COMPLETED m

/-- A BAR0 access outside the TOP and BOOT windows goes to the sump from start-up step 2 to Lath start (R63). -/
def Dev.windowOpen (d : Dev) (off : Nat) : Bool := off / 0x100000 ≤ 1 || d.get F.TOP_STATUS_WINDOWS_OPEN == 1

/-- A host write to a window of a lease unit that P0 does not hold is discarded, counted and raised (R117). -/
def Dev.unleased (d : Dev) (off : Nat) : Dev := (d.bump C.CMD_UNLEASED_WR).raise 965 [off]

/-- The host may not write at `off`: its unit is not leased to P0. -/
def Dev.hostBarred (d : Dev) (m off : Nat) : Bool :=
  m == 1 && (match unitOf off with
    | some u => d.holder u != 0
    | none => false)

/-- Why the matrix answers an access at a BAR0 offset with an error: the target is hung (R84), no block defines the offset or the window
is closed (R63, R135), or the offset addresses a unit under test (R499). -/
def Dev.busFault (d : Dev) (off : Nat) : Option BusErr :=
  if d.csrHung then some .target
  else if !d.windowOpen off || !defined off then some .decode
  else if d.underTest off then some .target
  else none

/-- A discarded posted write of the host is reported through AER as a Completer Abort error: bit 15 of the uncorrectable error status, and
a message unless it is masked (R81, R131; PCI Express Base). -/
def Dev.aerReport (d : Dev) : Dev :=
  let d := d.hset H.pciAer 0 (d.hget H.pciAer ||| 2 ^ 15)
  if bit (d.hget H.pciAerMask) 15 then d else d.emit (.aer 15)

/-- What a master makes of an error (R81): `n` words of a read, and the event that masters 4–6 raise where the error itself raised
none. -/
def Dev.answerError (d : Dev) (m : Nat) (write : Bool) (e : BusErr) (n : Nat) (owed : Option (Nat × List Nat)) : Dev :=
  let a : Answer := match e with
    | .decode => .decodeErr (if write then [] else List.replicate n 0xDEC0DE00)
    | .target => .targetErr
  if m = 1 then if write then d.aerReport else d.answer 1 .completerAbort
  else if 4 ≤ m ∧ m ≤ 6 then
    match owed with
    | some x => (d.raise x.1 x.2).answer m a
    | none => d.answer m a
  else (if m = 7 then d.hset H.debugError 0 1 else d).answer m a

/-- The sump answers an access of `beats` beats of `size` bytes (R80, R81). -/
def Dev.sumpAnswer (d : Dev) (m addr size beats : Nat) (write : Bool) : Dev :=
  let owed := if d.get F.BUS_SUMP_INFO_VALID = 1 then some (896, m :: words2 addr) else none
  (d.sump m addr beats write).answerError m write .decode (beats * max 1 (size / 4)) owed

/-- What such an access leaves: the sump's record, or the abort of the test. -/
def Dev.busFails (d : Dev) (m off : Nat) (write : Bool) (e : BusErr) : Dev :=
  match e with
  | .decode => d.sumpAnswer m (csrAddress off) 4 1 write
  | .target => (if d.csrHung then d else d.abortTest 0 m).answerError m write .target 1 (some (897, [m, 4]))

/-- Master `m` writes `w` at BAR0 offset `off`: the lease check first (R117), then the matrix, then the write itself, and its live item
(R463). -/
def Dev.busWrite (d : Dev) (m off w : Nat) (effect : Dev → Dev) : Dev := d.access m fun d =>
  let d := d.transaction m
  if d.hostBarred m off then (d.unleased off).answer m .done
  else
    match d.busFault off with
    | some a => d.busFails m off true a
    | none => ((effect d).mirror off w).answer m .done

/-- Master `m` reads at BAR0 offset `off`: the word, and the device that the read leaves. -/
def Dev.busRead (d : Dev) (m off : Nat) (value : Dev → Nat × Dev) : Dev := d.access m fun d =>
  let d := d.transaction m
  match d.busFault off with
  | some a => d.busFails m off false a
  | none => (value d).2.answer m (.data [(value d).1])

/-- Split a written word among the fields of a register: what each field is given. -/
def fieldOf (f : Fld) (w : Nat) : Nat := bits w f.lsb f.width

/-- The stored part of a register, by its BAR0 offset. -/
def Dev.storedAt (d : Dev) (off : Nat) : Nat :=
  match findReg off with
  | some (r, i) => d.word r.parts i
  | none => 0

/-- The firmware writes a register whose fields were set, and the write is mirrored (R463). -/
def Dev.mirrorReg (d : Dev) (off : Nat) : Dev :=
  match findReg off with
  | some (r, i) => if mirrored off r then d.live (.write off (d.word r.parts i &&& r.mirrorMask)) else d
  | none => d

end Sys2Proof.Machine
end

