-- ==== Sys2Proof/Machine/Takes.lean ====
section
/-! DEFINITION. Sources as destinations see them, the timed take list, salvos and held salvos (R219–R233), and the
take commands of spec/09. -/

namespace Sys2Proof.Machine

/-! ### Sources and destinations -/

/-- What a destination sees of a source: its FORMAT and RATE, its gang size, and whether it is read from Mere (PATH
0 or 2). -/
structure SourceInfo where
  fmt : Nat
  rate : Nat
  gang : Nat
  mere : Bool
  deriving DecidableEq, Repr

/-- Source slots 0–1535 are ingest's, 1536–1551 the heads', 1552–1567 the generators' (R10, R231). -/
def Dev.source (d : Dev) (v : View) (s : Nat) : SourceInfo :=
  if s < 1536 then
    ⟨d.get F.ING_SLOT_STATUS_FORMAT s, d.get F.ING_SLOT_STATUS_RATE s, sourceGang v s, v F.ING_SLOT_CFG_PATH s != 1⟩
  else if s < 1552 then ⟨v F.MV_HEAD_CFG_FORMAT (s - 1536), v F.MV_HEAD_CFG_RATE (s - 1536), 1, false⟩
  else if s < 1568 then ⟨v F.XPT_GEN_CFG_FORMAT (s - 1552), v F.XPT_GEN_CFG_RATE (s - 1552), 1, false⟩
  else ⟨0, 0, 1, false⟩

/-- The source sends lines: a LOCKED slot whose lines the crosspoint takes (R188, R201, R543), an enabled head (R246) or an
enabled generator (R243).  0x7FF is a lost source. -/
def Dev.sourceLive (d : Dev) (s : Nat) : Bool :=
  if s < 1536 then
    d.get F.ING_SLOT_STATUS_STATE s == 3 && d.hget H.ingVisible s == 1
  else if s < 1552 then d.get F.MV_HEAD_CFG_ENABLE (s - 1536) == 1
  else if s < 1568 then d.get F.XPT_GEN_CFG_ENABLE (s - 1552) == 1
  else false

/-- The rate code of the transmit lane that carries destination `i` (R11, R176). -/
def laneRateOf (v : View) (i : Nat) : Nat := v F.REED_TXGRP_CFG_RATE (i / 96)

/-- The house rate supports the rate (R35). -/
def Dev.supports (d : Dev) (rate : Nat) : Bool := (divisor d.rate rate).isSome

/-- Formats and gangs of a destination and a source are compatible, and the destination format fits its lane: check 4
of R221 (R163, R164, R231–R233). -/
def Dev.compatible (d : Dev) (v : View) (i s : Nat) : Bool :=
  let src := d.source v s
  let lane := laneRateOf v i
  gangSize (v F.XPT_DEST_CFG_GANG i) == src.gang &&
  if v F.XPT_DEST_CFG_FOLLOW i == 1 then
    if src.fmt == 0 then fits (d.get F.XPT_DEST_STATUS_FORMAT i) lane else fits src.fmt lane && d.supports src.rate
  else
    let fmt := v F.XPT_DEST_CFG_FORMAT i
    let rate := v F.XPT_DEST_CFG_RATE i
    (src.fmt == 0 || (src.fmt == fmt && src.rate == rate)) && fits fmt lane && (fmt == 0 || d.supports rate)

/-- The Mere read reservation is missing: check 5 (R209). -/
def Dev.unreserved (d : Dev) (v : View) (i s : Nat) : Bool :=
  v F.MERE_DEST_CFG_READ_RESV i == 0 && (d.source v s).mere && s < 1536

/-- Checks 4 and 5 of R221, with the status on failure. -/
def Dev.checkSource (d : Dev) (v : View) (i s : Nat) : Option Nat :=
  if !d.compatible v i s then some St.formatMismatch
  else if d.unreserved v i s then some St.bandwidth
  else none

/-! ### Frames of a take (R219, R220) -/

/-- The cutoff of the frame in progress has not passed (R41). -/
def Dev.beforeCutoff (d : Dev) : Bool :=
  d.running && d.clock.core < d.tick.t0Core + d.get F.TICK_CUTOFF_CYCLES

/-- The earliest frame whose cutoff has not passed. -/
def Dev.earliest (d : Dev) : Nat := if d.beforeCutoff then d.frameNow else d.frameNow + 1

/-- The divisors whose multiples a take of the destination must meet: that of its present rate, and in follow mode with
a format change that of the source's rate (R220). -/
def Dev.takeDivisors (d : Dev) (i s : Nat) : List Nat :=
  let src := d.source d.inEffect s
  let change := d.get F.XPT_DEST_CFG_FOLLOW i == 1 && src.fmt != 0 &&
    !(src.fmt == d.get F.XPT_DEST_STATUS_FORMAT i && src.rate == d.get F.XPT_DEST_STATUS_RATE i)
  let own := if d.get F.XPT_DEST_STATUS_FORMAT i == 0 then [] else (divisor d.rate (d.get F.XPT_DEST_STATUS_RATE i)).toList
  own ++ if change then (divisor d.rate src.rate).toList else []

/-- The effective frame of routes with one target frame, 0 meaning the earliest (R219, R220, R225). -/
def Dev.effectiveFrame (d : Dev) (routes : List (Nat × Nat)) (target : Nat) : Nat :=
  alignFrame (routes.flatMap fun r => d.takeDivisors r.1 r.2) (if target = 0 then d.earliest else target)

/-! ### The list -/

/-- Entries pending, armed or held (XPT_TL_STATUS.USED). -/
def Xpt.used (x : Xpt) : Nat := x.entries.length + x.held.length

/-- Free entries of the 4,096. -/
def Xpt.free (x : Xpt) : Nat := 4096 - x.used

/-- An entry for the destination and frame is pending (R222). -/
def Xpt.pendingAt (x : Xpt) (i n : Nat) : Bool := x.entries.any fun e => e.dest == i && e.frame == n

/-- Change the take list. -/
def Dev.onXpt (d : Dev) (f : Xpt → Xpt) : Dev := { d with xpt := f d.xpt }

/-! ### Responses with RESULTS (R226, R227) -/

/-- The bytes of some routes' statuses. -/
def resultBytes (rs : List Nat) : List Byte := rs.flatMap (beBytes 2)

/-- The packets of a response that carries RESULTS (R227): one TLV where it fits, else RESULTS_FIRST and as many
consecutive routes as fit in each. -/
def resultPackets (limit : Nat) : Nat → Nat → List Nat → List (List Byte)
  | 0, _, _ => []
  | n + 1, first, rs =>
    let k := (limit - 12) / 2
    if rs.length ≤ k then [Tlv.bytes ⟨0x0110, beBytes 4 first⟩ ++ Tlv.bytes ⟨0x0102, resultBytes rs⟩]
    else (Tlv.bytes ⟨0x0110, beBytes 4 first⟩ ++ Tlv.bytes ⟨0x0102, resultBytes (rs.take k)⟩) ::
      resultPackets limit n (first + k) (rs.drop k)

/-- The payloads for the statuses of all routes of a response. -/
def resultPayloads (port : Nat) (rs : List Nat) : List (List Byte) :=
  let limit := payloadLimit port
  let one := Tlv.bytes ⟨0x0102, resultBytes rs⟩
  if one.length ≤ limit then [one] else resultPackets limit (rs.length + 1) 0 rs

/-- The response's own payloads: RESULTS, or a STATUS_DETAIL where R546 asks for one. -/
def Dev.takePayloads (d : Dev) (c : TakeCmd) (status : Nat) : List (List Byte) :=
  if c.results then resultPayloads c.port (c.routes.map Route.status)
  else if status = St.ok ∨ status = St.pending ∨ status = St.superseded then [[]]
  else
    let i := (c.routes.map Route.dest).headD 0
    if status = St.protected_ then [(statusDetail c.index (d.hget H.protectedBy i) 0).bytes]
    else if status = St.bandwidth then [(statusDetail 0xFFFF 0xFF 4).bytes]
    else [(statusDetail 0xFFFF 0xFF 0).bytes]

/-- Send a take command's response, and free its tag when it is final; nothing is sent while the firmware does not
run (R73). -/
def Dev.takeRespond (d : Dev) (c : TakeCmd) (status : Nat) (final : Bool) : Dev :=
  if !d.lathRuns || c.src == noReply then d
  else d.report fun d =>
    let d := d.sendAll c.port c.src c.opcode c.tag status final (d.takePayloads c status)
    if final then { d with cmd := { d.cmd with
      tags := dropTag c.port c.tag d.cmd.tags
      completed := countPort d.cmd.completed c.port } }
    else d

/-- The status of the final response: the first in request order that is not OK (R226). -/
def finalStatus (rs : List Route) : Nat := ((rs.map Route.status).find? (· != St.ok)).getD St.ok

/-- A take command whose routes are all settled completes (R224, R226), and a salvo is reported (R229). -/
def Dev.takeDone (d : Dev) (c : TakeCmd) : Dev :=
  let d := d.onXpt fun x => { x with cmds := x.cmds.filter fun e => e.gid != c.gid }
  let d := if c.trigger then d else d.takeRespond c (finalStatus c.routes) true
  if c.salvo && (c.trigger || d.lathRuns) then d.raise 549 (c.port :: c.tag :: words2 c.frame) else d

/-- No route of the command is PENDING any more. -/
def TakeCmd.settled (c : TakeCmd) : Bool := !c.routes.any fun r => r.status == St.pending

/-- The last switch line of a salvo's routes in its effective frame has begun (R226). -/
def Dev.salvoOver (d : Dev) (c : TakeCmd) : Bool :=
  let start := fun (r : Route) => switchStart (d.get F.XPT_DEST_STATUS_FORMAT r.dest) (d.get F.XPT_DEST_STATUS_RATE r.dest)
  c.frame < d.frameNow || (d.running && c.frame == d.tick.frame &&
    c.routes.all fun r => d.tick.t0Core + start r ≤ d.clock.core)

/-- A route of command `gid` settles with `status`; the command completes with its last route, a salvo not before the last switch line of
its routes (R224, R226). -/
def Dev.settle (d : Dev) (gid i status : Nat) : Dev :=
  let mark := fun (c : TakeCmd) => if c.gid = gid then
    { c with routes := c.routes.map fun r => if r.dest = i ∧ r.status = St.pending then { r with status := status } else r }
    else c
  let d := d.onXpt fun x => { x with cmds := x.cmds.map mark }
  match d.xpt.cmds.find? fun c => c.gid == gid with
  | some c => if c.settled && (!c.salvo || d.salvoOver c) then d.takeDone c else d
  | none => d

/-- The salvos whose routes are all settled complete once the last of their switch lines has passed (R226). -/
def Dev.salvosEnd (d : Dev) : Dev :=
  d.each (d.xpt.cmds.filter fun c => c.salvo && c.settled && d.salvoOver c) Dev.takeDone

/-- An entry leaves the list and its route settles. -/
def Dev.entryEnds (d : Dev) (e : Entry) (status : Nat) : Dev :=
  (d.onXpt fun x => { x with entries := x.entries.erase e }).settle e.gid e.dest status

/-- An entry is admitted: it supersedes the one pending for its destination and frame (R222), and is armed at once when the
frame is in progress (R223). -/
def Dev.admitEntry (d : Dev) (gid i s n port tag : Nat) : Dev :=
  let old := d.xpt.entries.filter fun e => e.dest == i && e.frame == n
  let d := d.bump C.XPT_TL_ADMITTED
  let d := old.foldl (fun d e => (d.bump C.XPT_TL_SUPERSEDED).entryEnds e St.superseded) d
  let e : Entry := ⟨gid, i, s, n, d.running && n == d.tick.frame, d.csw.nextSeq 2, port, tag⟩
  (d.onXpt fun x => { x with entries := x.entries ++ [e] }).live (.enlist i s n port tag)

/-- The destinations that move as one with base `i` (R233). -/
def Dev.destMembers (d : Dev) (i : Nat) : List Nat := (List.range (gangSize (d.get F.XPT_DEST_CFG_GANG i))).map (i + ·)

/-- FORMAT and RATE in effect of a destination and its gang. -/
def Dev.setFormat (d : Dev) (i fmt rate : Nat) : Dev := d.each (d.destMembers i) fun d j =>
  (d.set F.XPT_DEST_STATUS_FORMAT j fmt).set F.XPT_DEST_STATUS_RATE j rate

/-- A format that a destination in follow mode adopts with a take whose frame is in progress takes effect at once: the
frame's T0 has passed (R232, log entry 22). -/
def Dev.adopt (d : Dev) (i s : Nat) : Dev :=
  let src := d.source d.inEffect s
  if d.get F.XPT_DEST_CFG_FOLLOW i == 1 && src.fmt != 0 then
    let change := !(src.fmt == d.get F.XPT_DEST_STATUS_FORMAT i && src.rate == d.get F.XPT_DEST_STATUS_RATE i)
    let d := d.setFormat i src.fmt src.rate
    if change then d.each (d.destMembers i) fun d j => d.hset H.destBlack j 1 else d
  else d

/-! ### Checks on a route (R221) -/

/-- Check 1: the destination and the source exist, and each is single or the base of its gang. -/
def Dev.routeNamed (_d : Dev) (v : View) (i s : Nat) : Bool :=
  i < 1536 && s < 1568 && isBase v F.XPT_DEST_CFG_GANG i && (s ≥ 1536 || isBase v F.ING_SLOT_CFG_GANG s)

/-- The configuration that will be in effect at frame `n` (R221). -/
def Dev.viewAt (d : Dev) (n : Nat) : View := fun f i => d.effectiveAt n f i

/-- The cutoff of frame `n` has passed: check 2. -/
def Dev.tooLate (d : Dev) (n : Nat) : Bool := n < d.earliest

/-- A target frame that is already in the past (R219); 0 names none. -/
def Dev.isPast (d : Dev) (target : Nat) : Bool := target != 0 && target < d.frameNow

/-- Check 3: another port protects the destination (R122). -/
def Dev.barredBy (d : Dev) (port i : Nat) : Bool :=
  d.hget H.protectedBy i != 0xFF && d.hget H.protectedBy i != port

/-- Checks 1–5 of R221 for a route with effective frame `n`; check 2, which R219 makes of the target frame too, is left out for a held
salvo (R228), which has none.  Checks 4 and 5 are made on the configuration of the effective frame. -/
def Dev.checkRoute (d : Dev) (port i s n : Nat) (target : Option Nat) : Option Nat :=
  if !d.routeNamed d.inEffect i s then some St.badParam
  else if target.any fun t => d.isPast t || d.tooLate n then some St.late
  else if d.barredBy port i then some St.protected_
  else d.checkSource (d.viewAt n) i s

/-! ### TAKE and SALVO -/

/-- Admit the routes of a command that passed their checks, in order; `cs` holds each route's failure, or none. -/
def Dev.admitRoutes (d : Dev) (gid port tag : Nat) (rs : List (Nat × Nat × Nat)) : Dev :=
  rs.foldl (fun d r => d.admitEntry gid r.1 r.2.1 r.2.2 port tag) d

/-- The routes of a command with their outcomes: PENDING for the admitted ones. -/
def outcomes (rs : List (Nat × Nat × Nat)) (cs : List (Option Nat)) : List Route :=
  List.zipWith (fun r c => ⟨r.1, r.2.1, c.getD St.pending⟩) rs cs

/-- The routes that no check turned away. -/
def passed (rs : List (Nat × Nat × Nat)) (cs : List (Option Nat)) : List (Nat × Nat × Nat) :=
  ((rs.zip cs).filter fun r => r.2.isNone).map Prod.fst

/-- A take command's routes are decided: the PENDING response, the admissions, or at once the final response. -/
def Dev.startTake (d : Dev) (c : TakeCmd) (ok : List (Nat × Nat × Nat)) : Dev :=
  let d := d.onXpt fun x => { x with nextGid := x.nextGid + 1, cmds := x.cmds ++ [c] }
  if ok.isEmpty then d.takeDone c
  else
    let d := if c.trigger then d else d.takeRespond c St.pending false
    let d := d.admitRoutes c.gid c.port c.tag ok
    ok.foldl (fun d r => if d.running && r.2.2 == d.tick.frame then d.adopt r.1 r.2.1 else d) d

/-- Check 6 in order, one route at a time: a free entry is needed unless the take supersedes one. -/
def takeEntries (x : Xpt) : Nat → List (Nat × Nat × Nat) → List (Option Nat) → List (Option Nat)
  | free, r :: rs, none :: cs =>
    if x.pendingAt r.1 r.2.2 then none :: takeEntries x free rs cs
    else if free = 0 then some St.exhausted :: takeEntries x free rs cs
    else none :: takeEntries x (free - 1) rs cs
  | free, _ :: rs, c :: cs => c :: takeEntries x free rs cs
  | _, _, _ => []

/-- Check 6 for a salvo: all the remaining routes, or none (R225). -/
def salvoEntries (x : Xpt) (rs : List (Nat × Nat × Nat)) (cs : List (Option Nat)) : List (Option Nat) :=
  let need := (passed rs cs).filter fun r => !x.pendingAt r.1 r.2.2
  if need.length > x.free then cs.map fun c => some (c.getD St.exhausted) else cs

/-- A take command as it is received: its number in the list, whether its responses carry RESULTS, and whether it is
a salvo. -/
def Dev.newTake (d : Dev) (q : Req) (op : Nat) (results salvo : Bool) : TakeCmd :=
  ⟨d.xpt.nextGid, q.port, q.tag, q.src, op, 0, results, salvo, false, 0, []⟩

/-- TAKE (0x0201): one entry per destination of the range, each with its own effective frame. -/
def takeSpec : Spec := { op := 0x0201, pars := [Par.dests, .req 0x0003 (num 4 fun v => v ≤ 0xFFFF), Par.frame] }

/-- TAKE (0x0201); a FRAME more than 2²⁰ frames ahead is out of range for every command (R110, R219). -/
def Dev.take (d : Dev) (q : Req) : Dev := d.command q takeSpec fun d ts =>
  let dests := rangeList (tlvRange ts)
  let s := tlvNum ts 0x0003
  let n := frameTlv ts
  let rs := dests.map fun i => (i, s, d.effectiveFrame [(i, s)] n)
  let cs := takeEntries d.xpt d.xpt.free rs (rs.map fun r => d.checkRoute q.port r.1 r.2.1 r.2.2 (some n))
  let c := d.newTake q 0x0201 (dests.length > 1) false
  d.startTake { c with frame := (rs.map fun r => r.2.2).headD 0, index := tlvIndex ts 0x0002, routes := outcomes rs cs } (passed rs cs)

/-- The routes that ROUTE TLVs name. -/
def routesOf (vs : List (List Byte)) : List (Nat × Nat) := vs.map fun v => (beVal (v.take 2), beVal (v.drop 2))

/-- A ROUTE value: destination and source, of any value (check 1 judges it). -/
def routePar : Par := .some1 0x0101 (pair fun _ _ => true)

/-- The index among the TLVs of the first ROUTE whose destination an earlier one names (R225, R546). -/
def twiceNamed : Nat → List Nat → List Tlv → Option Nat
  | _, _, [] => none
  | i, seen, t :: ts =>
    if t.typ = 0x0101 then
      let dest := beVal (t.val.take 2)
      if seen.contains dest then some i else twiceNamed (i + 1) (dest :: seen) ts
    else twiceNamed (i + 1) seen ts

/-- The index of the 1,537th ROUTE, if there are so many. -/
def routeOver (ts : List Tlv) : Option Nat :=
  let idx := (List.range ts.length).filter fun i => (ts.map Tlv.typ).getD i 0 == 0x0101
  idx[1536]?

/-- Admit a salvo's routes for a target frame: one effective frame for all (R225). -/
def Dev.startSalvo (d : Dev) (c : TakeCmd) (target : Nat) (routes : List (Nat × Nat))
    (check : Dev → Nat → Nat × Nat → Option Nat) : Dev :=
  let named := routes.filter fun r => d.routeNamed d.inEffect r.1 r.2
  let n := d.effectiveFrame named target
  let rs := routes.map fun r => (r.1, r.2, n)
  let cs := salvoEntries d.xpt rs (routes.map (check d n))
  d.startTake { c with frame := n, routes := outcomes rs cs } (passed rs cs)

/-- SALVO (0x0202). -/
def salvoSpec : Spec := { op := 0x0202, pars := [Par.frame, routePar] }

def Dev.salvo (d : Dev) (q : Req) : Dev := d.command q salvoSpec fun d ts =>
  let n := frameTlv ts
  match (twiceNamed 0 [] ts).orElse fun _ => routeOver ts with
  | some i => d.reply q 0x0202 St.badParam [statusDetail i 0xFF 0]
  | none =>
    d.startSalvo (d.newTake q 0x0202 true true) n (routesOf (tlvAll ts 0x0101))
      fun d k r => d.checkRoute q.port r.1 r.2 k (some n)

/-! ### Held salvos (R228) -/

/-- The held routes of an identity. -/
def Xpt.heldOf (x : Xpt) (id : Nat) : List HeldRoute := x.held.filter fun h => h.salvo == id

/-- SALVO_PREPARE (0x0203): checks 1, 3, 4 and 5, and an entry for each route. -/
def prepareSpec : Spec := { op := 0x0203, pars := [.req 0x0102 (num 4 (· < 64)), .opt 0x0103 (num 4 (· == 1)), routePar] }

/-- The routes of a SALVO_PREPARE join the identity. -/
def Dev.holdRoutes (d : Dev) (id port tag : Nat) (rs : List (Nat × Nat × Nat)) : Dev :=
  rs.foldl (fun d r =>
    let h : HeldRoute := ⟨id, r.1, r.2.1, port, tag, d.csw.nextSeq 2⟩
    ((d.bump C.XPT_TL_ADMITTED).onXpt fun x => { x with held := x.held ++ [h] }).live (.prepare id r.1 r.2.1 port tag)) d

def Dev.salvoPrepare (d : Dev) (q : Req) : Dev := d.command q prepareSpec fun d ts =>
  let id := tlvNum ts 0x0102
  let held := d.xpt.heldOf id
  let routes := routesOf (tlvAll ts 0x0101)
  let detail := fun i => d.reply q 0x0203 St.badParam [statusDetail i 0xFF 0]
  if !held.isEmpty && !hasTlv ts 0x0103 then detail (tlvIndex ts 0x0102)
  else
    match (twiceNamed 0 (held.map HeldRoute.dest) ts).orElse fun _ => routeOver ts with
    | some i => detail i
    | none =>
      if held.length + routes.length > 1536 then detail (tlvIndex ts 0x0101)
      else
        let n := d.frameNow
        let rs := routes.map fun r => (r.1, r.2, n)
        let cs := routes.map fun r => d.checkRoute q.port r.1 r.2 n none
        let cs := if (passed rs cs).length > d.xpt.free then cs.map fun c => some (c.getD St.exhausted) else cs
        let port := ((held.map HeldRoute.port).head?).getD q.port
        let tag := ((held.map HeldRoute.tag).head?).getD q.tag
        let d := d.holdRoutes id port tag (passed rs cs)
        let statuses := cs.map fun c => c.getD St.ok
        let status := (statuses.find? (· != St.ok)).getD St.ok
        let c := d.newTake q 0x0203 true false
        d.takeRespond { c with routes := List.zipWith (fun r s => ⟨r.1, r.2, s⟩) routes statuses } status true

/-- A held salvo is fired (R228, R229): its routes leave the held state; those past the cutoff are LATE and counted in
TL_CANCELLED. -/
def Dev.fire (d : Dev) (c : TakeCmd) (id target : Nat) : Dev :=
  let held := d.xpt.heldOf id
  let routes := held.map fun h => (h.dest, h.source)
  let n := d.effectiveFrame routes target
  let late := d.isPast target || d.tooLate n
  let d := d.live (.fire id n c.port c.tag)
  let d := d.onXpt fun x => { x with held := x.held.filter fun h => h.salvo != id }
  let rs := routes.map fun r => (r.1, r.2, n)
  let routes := rs.map fun r => (⟨r.1, r.2.1, if late then St.late else St.pending⟩ : Route)
  let c := { c with frame := n, routes := routes }
  if late then (d.bump C.XPT_TL_CANCELLED 0 held.length).startTake c []
  else
    let d := d.onXpt fun x => { x with nextGid := x.nextGid + 1, cmds := x.cmds ++ [c] }
    let d := if c.trigger then d else d.takeRespond c St.pending false
    -- the routes were admitted when they were prepared (R230)
    rs.foldl (fun d r =>
      let old := d.xpt.entries.filter fun e => e.dest == r.1 && e.frame == n
      let d := old.foldl (fun d e => (d.bump C.XPT_TL_SUPERSEDED).entryEnds e St.superseded) d
      let now := d.running && n == d.tick.frame
      let e : Entry := ⟨c.gid, r.1, r.2.1, n, now, d.csw.nextSeq 2, c.port, c.tag⟩
      let d := d.onXpt fun x => { x with entries := x.entries ++ [e] }
      if now then d.adopt r.1 r.2.1 else d) d

/-- SALVO_FIRE (0x0204). -/
def fireSpec : Spec := { op := 0x0204, pars := [.req 0x0102 (num 4 (· < 64)), Par.frame] }

def Dev.salvoFire (d : Dev) (q : Req) : Dev := d.command q fireSpec fun d ts =>
  let id := tlvNum ts 0x0102
  let n := frameTlv ts
  if (d.xpt.heldOf id).isEmpty then d.reply q 0x0204 St.badParam [statusDetail (tlvIndex ts 0x0102) 0xFF 0]
  else d.fire (d.newTake q 0x0204 true true) id n

/-- SALVO_DISCARD (0x0205): the entries are freed and counted in TL_CANCELLED. -/
def discardSpec : Spec := { op := 0x0205, pars := [.req 0x0102 (num 4 (· < 64))] }

def Dev.salvoDiscard (d : Dev) (q : Req) : Dev := d.command q discardSpec fun d ts =>
  let id := tlvNum ts 0x0102
  let n := (d.xpt.heldOf id).length
  if n = 0 then d.reply q 0x0205 St.badParam [statusDetail (tlvIndex ts 0x0102) 0xFF 0]
  else
    let d := (d.bump C.XPT_TL_CANCELLED 0 n).onXpt fun x => { x with held := x.held.filter fun h => h.salvo != id }
    (d.live (.discard id)).reply q 0x0205 St.ok

/-- TAKE_CANCEL (0x0206): the pending entries of the range for the frame complete SUPERSEDED and are counted in
TL_CANCELLED. -/
def cancelSpec : Spec :=
  { op := 0x0206, pars := [Par.dests, .req 0x0001 (num 8 fun v => v < 2 ^ 48)] }

def Dev.takeCancel (d : Dev) (q : Req) : Dev := d.command q cancelSpec fun d ts =>
  let (first, count) := tlvRange ts
  let n := frameTlv ts
  if d.tooLate n then d.reply q 0x0206 St.late
  else
    let es := d.xpt.entries.filter fun e => e.frame == n && first ≤ e.dest && e.dest < first + count
    let d := es.foldl (fun d e =>
      ((d.bump C.XPT_TL_CANCELLED).live (.cancel e.dest n e.port e.tag)).entryEnds e St.superseded) d
    d.reply q 0x0206 St.ok

/-- TAKE_LIST_GET (0x0207): the pending entries of the range, by destination and frame. -/
def takeListSpec : Spec := { op := 0x0207, pars := [Par.destsUpTo 256] }

def Dev.takeListGet (d : Dev) (q : Req) : Dev := d.command q takeListSpec fun d ts =>
  let (first, count) := tlvRange ts
  let es := d.xpt.entries.filter fun e => first ≤ e.dest && e.dest < first + count
  let es := sortBy (fun (a b : Entry) => a.dest < b.dest || (a.dest == b.dest && a.frame ≤ b.frame)) es
  d.reply q 0x0207 St.ok (es.map fun e => data [w4 e.dest, w4 e.source, w8 e.frame, w4 e.port, w4 e.tag])

/-- TRIGGER_BIND (0x0208): binds pin n to a held salvo's identity, or unbinds it with 0xFF. -/
def triggerSpec : Spec :=
  { op := 0x0208, pars := [.req 0x0101 (num 4 (· < 32)), .req 0x0102 (num 4 fun v => v < 64 || v == 0xFF)]
    units := fun _ => [3, 15] }

def Dev.triggerBind (d : Dev) (q : Req) : Dev := d.command q triggerSpec fun d ts =>
  let pin := tlvNum ts 0x0101
  let id := tlvNum ts 0x0102
  let d := if id = 0xFF then d.set F.XPT_TRIG_EN pin 0
    else (d.set F.XPT_TRIG_EN pin 1).set F.XPT_TRIG_SALVO_ID pin id
  (d.mirrorReg (0x1680200 + 4 * pin)).reply q 0x0208 St.ok

/-- A trigger pin fires its bound salvo (R229), while the role is ACTIVE (R465). -/
def Dev.pinFires (d : Dev) (pin : Nat) : Dev :=
  if d.get F.XPT_TRIG_EN pin == 0 || d.role != 0 then d
  else
    let id := d.get F.XPT_TRIG_SALVO_ID pin
    match d.xpt.heldOf id with
    | [] => d.raise 550 [pin, id]
    | h :: _ => d.fire ⟨d.xpt.nextGid, h.port, 0, 0, 0, 0, false, true, true, 0, []⟩ id 0

def execTake (q : Req) (s : State) : Host.Outcome State Fault Refusal := lift (·.take q) s
def execSalvo (q : Req) (s : State) : Host.Outcome State Fault Refusal := lift (·.salvo q) s
def execSalvoPrepare (q : Req) (s : State) : Host.Outcome State Fault Refusal := lift (·.salvoPrepare q) s
def execSalvoFire (q : Req) (s : State) : Host.Outcome State Fault Refusal := lift (·.salvoFire q) s
def execSalvoDiscard (q : Req) (s : State) : Host.Outcome State Fault Refusal := lift (·.salvoDiscard q) s
def execTakeCancel (q : Req) (s : State) : Host.Outcome State Fault Refusal := lift (·.takeCancel q) s
def execTakeListGet (q : Req) (s : State) : Host.Outcome State Fault Refusal := lift (·.takeListGet q) s
def execTriggerBind (q : Req) (s : State) : Host.Outcome State Fault Refusal := lift (·.triggerBind q) s

end Sys2Proof.Machine
end

