-- ==== Sys2Proof/Machine/TxLane.lean ====
section
/-! DEFINITION. The Reed transmit lanes: their states (R174, R179), and the FIFOs of their sub-channels (R11, R175, R182). -/

namespace Sys2Proof.Machine

/-- The state a transmit lane should be in (R174). -/
def Dev.txWanted (d : Dev) (n : Nat) : Nat :=
  if d.get F.REED_LANE_CFG_TX_EN n == 0 || d.hget H.txPllLost (n / 24) == 1 || d.hget H.testLatch == 1
      || d.get F.TOP_STATUS_BOOT_FAIL == 1 then 0
  else if !d.running || d.hget H.txIdle (n / 24) == 1 then 1
  else 2

/-- The destinations of lanes `4b` to `4b + 3` are ganged as one quad-link destination (R179). -/
def Dev.txBundled (d : Dev) (n : Nat) : Bool := d.get F.XPT_DEST_CFG_GANG (n / 4 * 16) == 3

/-- The lanes whose superframes of equal SEQ leave together with those of lane `n` (R179). -/
def Dev.txMates (d : Dev) (n : Nat) : List Nat := if d.txBundled n then (List.range 4).map (n / 4 * 4 + ·) else [n]

/-- SEQ starts at 0 on lane `n`; the lanes of a transmit bundle start together, so that equal SEQ leaves together (R174, R179; DESIGN
CHOICE, log entry 328). -/
def Dev.startSeq (d : Dev) (n : Nat) : Dev := d.each (d.txMates n) fun d m => d.hset H.txSeq m 0

/-! ### FIFOs -/

/-- The words in a sub-channel's FIFO. -/
def Dev.fifoOf (d : Dev) (j : Nat) : List Nat := ((d.reed.fifo.find? fun w => w.sub == j).map SubWords.words).getD []

/-- The FIFO replaced. -/
def Dev.setFifo (d : Dev) (j : Nat) (ws : List Nat) : Dev :=
  let w : List SubWords := if ws = [] then [] else [⟨j, ws⟩]
  { d.hset H.txQueue j ws.length with reed := { d.reed with fifo := w ++ d.reed.fifo.filter fun e => e.sub != j } }

/-- The words queued for a sub-channel are dropped (R182). -/
def Dev.dropQueued (d : Dev) (j : Nat) : Dev := (d.bump C.REED_TX_WORDS_DROPPED (j / 4) (d.fifoOf j).length).setFifo j []

/-- The destination is enabled. -/
def Dev.destOn (d : Dev) (i : Nat) : Bool := d.get F.XPT_DEST_CFG_ENABLE i == 1

/-- XPT_DEST_STATUS.SRC_LOST: the loss policy is in effect. -/
def Dev.srcLost (d : Dev) (i : Nat) : Bool := d.destOn i && d.hget H.destLost i == 1

/-- Loss policy IDLE is in effect: the destination sends nothing (R235). -/
def Dev.destIdle (d : Dev) (i : Nat) : Bool := d.srcLost i && d.get F.XPT_DEST_CFG_LOSS_POLICY i == 2

/-- The destination's format exceeds what a sub-channel of its lane carries (R163, R176). -/
def Dev.overCapacity (d : Dev) (i : Nat) : Bool :=
  d.destOn i && !fits (d.get F.XPT_DEST_STATUS_FORMAT i) (d.get F.REED_TXGRP_CFG_RATE (i / 96))

/-- The sub-channel carries words: its destination is enabled and sends lines (R174, R235). -/
def Dev.txCarries (d : Dev) (j : Nat) : Bool := d.destOn j && !d.destIdle j && !d.overCapacity j

/-- Words of a destination reach its sub-channel (R11); they are dropped while the lane is not in SUPERFRAMES or the format exceeds the
sub-channel's capacity (R182). -/
def Dev.pushWords (d : Dev) (j : Nat) (ws : List Nat) : Dev :=
  let d := d.bump C.REED_TX_WORDS_IN (j / 4) ws.length
  if d.get F.REED_LANE_STATUS_TX_STATE (j / 4) = 2 ∧ !d.overCapacity j then d.setFifo j (d.fifoOf j ++ ws)
  else d.bump C.REED_TX_WORDS_DROPPED (j / 4) ws.length

/-! ### States -/

/-- The transmit lane takes that state (R174). -/
def Dev.txReview (d : Dev) (n : Nat) : Dev :=
  let st := d.txWanted n
  if d.get F.REED_LANE_STATUS_TX_STATE n == st then d
  else
    let d := d.set F.REED_LANE_STATUS_TX_STATE n st
    let d := if st = 2 then (d.startSeq n).each (List.range 4) fun d i => d.hset H.txCredit (4 * n + i) 0
      else d.each (List.range 4) fun d i => d.dropQueued (4 * n + i)
    d.raise (128 + n) [5, st, 0, 0]

/-- The lanes whose transmit part is enabled or not OFF. -/
def Dev.txLanes (d : Dev) : List Nat := unionNat (d.insts F.REED_LANE_CFG_TX_EN) (d.insts F.REED_LANE_STATUS_TX_STATE)

/-- Every transmit lane takes its state. -/
def Dev.txReviewAll (d : Dev) : Dev := d.each d.txLanes Dev.txReview

end Sys2Proof.Machine
end

