-- ==== Sys2Proof/Machine/Sluice.lean ====
section
/-! DEFINITION. What a destination carries: the state of its source and its loss policy (R234–R236), the sluice at the
switch line (R18, R217, R239), and auto-changeover (R237, R238). -/

namespace Sys2Proof.Machine

/-! ### The source's state as the destination sees it (R234, R272) -/

/-- CNV_CFG of a converter as the destination frame in progress has it (R270). -/
def Dev.liveCnv (d : Dev) (f : Fld) (c : Nat) : Nat := fieldOf f (d.hget H.cnvLive c)

/-- CNV_CFG in effect. -/
def Dev.cnvWord (d : Dev) (c : Nat) : Nat :=
  d.word ([F.CNV_CFG_EN, F.CNV_CFG_FAULT_ACTION, F.CNV_CFG_GANG, F.CNV_CFG_BANK, F.CNV_CFG_PRESET, F.CNV_CFG_IN_2020, F.CNV_CFG_OUT_2020,
    F.CNV_CFG_IN_FULL, F.CNV_CFG_OUT_FULL, F.CNV_CFG_DEST].map Part.fld) c

/-- The unit that converts the lines of destination `i`, and its gang's base, whose configuration and LUT banks it uses (R267). -/
def Dev.liveConverter (d : Dev) (i : Nat) : Option (Nat × Nat) :=
  let b := gangBase d.inEffect F.XPT_DEST_CFG_GANG i
  ((d.hinsts H.cnvLive).find? fun c => d.liveCnv F.CNV_CFG_EN c == 1 && d.liveCnv F.CNV_CFG_DEST c == b).map fun c => (c + (i - b), c)

/-- A faulted converter of the destination makes its source count as lost (R272): for a gang, that of any member. -/
def Dev.converterBreaks (d : Dev) (i : Nat) : Bool :=
  (d.destMembers (gangBase d.inEffect F.XPT_DEST_CFG_GANG i)).any fun j =>
    match d.liveConverter j with
    | some (u, c) => d.get F.CNV_STATUS_FAULT u == 1 && d.liveCnv F.CNV_CFG_FAULT_ACTION c == 1
    | none => false

/-- What a destination makes of the source it carries. -/
inductive Carried
  | fit
  | lost
  /-- Fixed mode: the source is in another FORMAT or RATE. -/
  | mismatch
  /-- Follow mode: the new format is adopted at a frame tick (R234). -/
  | adopts
  deriving DecidableEq, Repr

/-- The state of source `s` for destination `i`. -/
def Dev.carried (d : Dev) (i s : Nat) : Carried :=
  let src := d.source d.inEffect s
  if !d.sourceLive s || d.converterBreaks i then .lost
  else if src.fmt == 0 || (src.fmt == d.get F.XPT_DEST_STATUS_FORMAT i && src.rate == d.get F.XPT_DEST_STATUS_RATE i) then
    .fit
  else if d.get F.XPT_DEST_CFG_FOLLOW i == 1 then .adopts
  else .mismatch

/-- The source that a destination carries. -/
def Dev.destSource (d : Dev) (i : Nat) : Nat := d.get F.XPT_DEST_STATUS_SOURCE i

/-- MISMATCH takes its value; it is raised when it sets (R234). -/
def Dev.setMismatch (d : Dev) (i : Nat) (on : Bool) : Dev :=
  let d' := d.each (d.destMembers i) fun d j => d.set F.XPT_DEST_STATUS_MISMATCH j (ofBool on)
  if on && d.get F.XPT_DEST_STATUS_MISMATCH i == 0 then
    d'.raise 555 [i, d.destSource i, (d.source d.inEffect (d.destSource i)).fmt]
  else d'

/-- The destination enters or leaves its loss policy; the event is raised while it is enabled (R235). -/
def Dev.setLost (d : Dev) (i : Nat) (on : Bool) : Dev :=
  let was := d.hget H.destLost i == 1
  let d := d.each (d.destMembers i) fun d j => (d.hset H.destLost j (ofBool on)).hset H.destResume j 0
  if was != on && d.destOn i then d.raise 554 [i, d.destSource i, ofBool on] else d

/-- The destination looks at its source again: a loss takes effect at once (R235); a recovery waits for the switch line
(R236) or, for a new format in follow mode, for a frame tick (R234). -/
def Dev.reassess (d : Dev) (i : Nat) : Dev :=
  let c := d.carried i (d.destSource i)
  let d := d.setMismatch i (c == .mismatch)
  if c == .fit then d else if d.hget H.destLost i == 1 then d.hset H.destResume i 0 else d.setLost i true

/-- The destinations that carry source `s`; the members of a gang follow their base (R233). -/
def Dev.carriers (d : Dev) (s : Nat) : List Nat :=
  (d.insts F.XPT_DEST_STATUS_SOURCE).filter fun i => d.destSource i == s && isBase d.inEffect F.XPT_DEST_CFG_GANG i

/-- The destinations of a source look at it again. -/
def Dev.reviewSource (d : Dev) (s : Nat) : Dev := d.each (d.carriers s) Dev.reassess

/-! ### The frame tick (R223, R232, R234, R236) -/

/-- The destination starts a frame at the tick of frame `n` (R35); one without a format counts at the house rate. -/
def Dev.destStarts (d : Dev) (i n : Nat) : Bool :=
  d.get F.XPT_DEST_STATUS_FORMAT i == 0 || startsFrame d.rate (d.get F.XPT_DEST_STATUS_RATE i) n

/-- An entry for the frame in progress is checked again and armed, or refused (R223). -/
def Dev.arm (d : Dev) (e : Entry) : Dev :=
  match d.checkSource d.inEffect e.dest e.source with
  | some st => ((d.bump C.XPT_TL_REFUSED_ARM).raise 556 [e.dest, e.source, st]).entryEnds e st
  | none =>
    (d.onXpt fun x => { x with entries := x.entries.map fun f => if f = e then { f with armed := true } else f }).adopt
      e.dest e.source

/-- The list arms every entry for the frame `n` (R39, R223). -/
def Dev.armAll (d : Dev) (n : Nat) : Dev := d.each (d.xpt.entries.filter fun e => e.frame == n) Dev.arm

/-- The members of a gang show what its base carries: its FORMAT and RATE, and the member of the source of their own place (R187, R233). -/
def Dev.syncGang (d : Dev) (i : Nat) : Dev :=
  let s := d.destSource i
  d.each ((d.destMembers i).drop 1) fun d j =>
    let d := (d.set F.XPT_DEST_STATUS_FORMAT j (d.get F.XPT_DEST_STATUS_FORMAT i)).set F.XPT_DEST_STATUS_RATE j
      (d.get F.XPT_DEST_STATUS_RATE i)
    let d := (d.set F.XPT_DEST_STATUS_SOURCE j (if s = 0x7FF then s else s + (j - i))).set F.XPT_DEST_STATUS_MISMATCH j
      (d.get F.XPT_DEST_STATUS_MISMATCH i)
    (d.hset H.destLost j (d.hget H.destLost i)).hset H.destBlack j (d.hget H.destBlack i)

/-- A configuration that took effect: a fixed-mode destination is in its configured format; one that was enabled with a
lost source enters its loss policy (log entry 23). -/
def Dev.destApplied (d : Dev) (old : Dev) (i : Nat) : Dev :=
  let d := if d.get F.XPT_DEST_CFG_FOLLOW i == 0 then
      d.setFormat i (d.get F.XPT_DEST_CFG_FORMAT i) (d.get F.XPT_DEST_CFG_RATE i)
    else d
  let d := d.syncGang i
  let d := if d.destOn i && !old.destOn i && d.hget H.destLost i == 1 then d.raise 554 [i, d.destSource i, 1] else d
  d.reassess i

/-- A destination at the tick that starts one of its frames: a lost source that is fit again resumes at the switch line,
a new format is adopted from line 1 of the first frame that its rate allows. -/
def Dev.destTick (d : Dev) (n i : Nat) : Dev :=
  if d.hget H.destLost i == 0 then d
  else
    match d.carried i (d.destSource i) with
    | .fit => if d.destStarts i n then d.each (d.destMembers i) fun d j => d.hset H.destResume j 1 else d
    | .adopts =>
      let src := d.source d.inEffect (d.destSource i)
      if startsFrame d.rate src.rate n && fits src.fmt (laneRateOf d.inEffect i) then
        (d.setFormat i src.fmt src.rate).setLost i false
      else d
    | _ => d

/-- Destinations, singles and bases of gangs, that are configured or carry a source. -/
def Dev.activeDests (d : Dev) : List Nat := List.filter (fun i => isBase d.inEffect F.XPT_DEST_CFG_GANG i) <|
  unionNat (d.insts F.XPT_DEST_STATUS_SOURCE) (unionNat (d.insts F.XPT_DEST_CFG_ENABLE)
    (unionNat (d.insts F.XPT_DEST_CFG_FOLLOW) (unionNat (d.insts F.XPT_DEST_CFG_FORMAT) (d.insts F.XPT_DEST_CFG_RATE))))

/-- Frame `n` meets the divisors of R220 for a switch of the destination to the source. -/
def Dev.allows (d : Dev) (i s n : Nat) : Bool := (d.takeDivisors i s).all fun k => n % k == 0

/-- A changeover that will be applied in frame `n` changes the format at its T0, as a take does (R232, R238). -/
def Dev.changeoverTick (d : Dev) (n : Nat) (c : Changeover) : Dev :=
  if d.allows c.dest c.source n && !d.xpt.entries.any (fun e => e.dest == c.dest && e.armed) then d.adopt c.dest c.source
  else d

/-- What T0 of frame `n` does to the crosspoint, after the groups of its commits are applied. -/
def Dev.xptTick (d : Dev) (old : Dev) (n : Nat) : Dev :=
  let d := d.each d.activeDests fun d i => d.destApplied old i
  let d := d.each d.activeDests fun d i => d.destTick n i
  let d := d.armAll n
  d.each d.xpt.changeovers fun d c => d.changeoverTick n c

/-! ### The sluice (R18, R217, R218, R239) -/

/-- The rate by which a destination's lines are timed. -/
def Dev.destRate (d : Dev) (i : Nat) : Nat :=
  if d.get F.XPT_DEST_STATUS_FORMAT i == 0 then d.rate else d.get F.XPT_DEST_STATUS_RATE i

/-- A destination, with its gang, carries source `s` from its switch line (R18, R217, R233). -/
def Dev.carry (d : Dev) (i s : Nat) : Dev :=
  let d := d.each (d.destMembers i) fun d j =>
    (d.set F.XPT_DEST_STATUS_SOURCE j (if s = 0x7FF then s else s + (j - i))).hset H.destBlack j 0
  let d := d.bump C.XPT_TAKES_APPLIED i
  let c := d.carried i s
  (d.setMismatch i (c == .mismatch)).setLost i (c != .fit)

/-- A mirrored action has been applied; until the next committed epoch it is unconfirmed (R474, R475). -/
def Dev.unconfirm (d : Dev) (cseq : Nat) (r : ReportRecord) : Dev :=
  if d.role == 1 || d.role == 2 then { d with csw := { d.csw with unconfirmed := d.csw.unconfirmed ++ [⟨cseq, r⟩] } } else d

/-- A take is applied: its source is the new main source, and the destination carries main (R239). -/
def Dev.applyTake (d : Dev) (e : Entry) : Dev :=
  let d := d.carry e.dest e.source
  let d := ((d.hset H.destMain e.dest e.source).set F.XPT_DEST_STATUS_ON_BACKUP e.dest 0).hset H.destRevertRun e.dest 0
  let d := d.onXpt fun x => { x with changeovers := x.changeovers.filter fun c => c.dest != e.dest }
  ((d.bump C.XPT_TL_APPLIED).entryEnds e St.ok).unconfirm e.cseq ⟨3, e.port, e.tag, e.dest, e.source, e.frame⟩

/-- A changeover is applied as a take is (R238), and leaves the main source named. -/
def Dev.applyChangeover (d : Dev) (c : Changeover) : Dev :=
  let d := d.onXpt fun x => { x with changeovers := x.changeovers.filter fun e => e.dest != c.dest }
  let d := d.carry c.dest c.source
  (d.set F.XPT_DEST_STATUS_ON_BACKUP c.dest (ofBool c.backup)).hset H.destRevertRun c.dest 0

/-- The lost source of a destination resumes at this switch line (R236). -/
def Dev.resume (d : Dev) (i : Nat) : Dev :=
  if d.hget H.destLost i == 1 && d.hget H.destResume i == 1 && d.carried i (d.destSource i) == .fit then d.setLost i false
  else d

/-- ANC packets that no longer fit a line are dropped, counted and raised (R218, R242). -/
def Dev.dropAnc (d : Dev) (i line dropped : Nat) : Dev :=
  if dropped = 0 then d else (d.bump C.EGR_ANC_DROPPED i dropped).raise 557 [i, line, dropped]

/-- What the sluice will switch to at the next switch line of a destination (R218, R239). -/
inductive Switch
  | take (e : Entry)
  | changeover (c : Changeover)
  | resume
  deriving DecidableEq, Repr

/-- The switch of destination `i` in the frame in progress: the armed take, else the changeover, else the resumption of its lost source
(R18, R239); none once its switch line has begun. -/
def Dev.nextSwitch (d : Dev) (i : Nat) : Option Switch :=
  let n := d.tick.frame
  if !d.running || !d.destStarts i n || d.hget H.destSwitched i == d.get F.TICK_EPOCH_EPOCH + 1 then none
  else
    match d.xpt.entries.find? fun e => e.dest == i && e.armed with
    | some e => some (.take e)
    | none =>
      match d.xpt.changeovers.find? fun c => c.dest == i && d.allows c.dest c.source n with
      | some c => some (.changeover c)
      | none => some .resume

/-- The switch line of destination `i` in the frame in progress begins (R217); its gang switches with it. -/
def Dev.sluice (d : Dev) (i : Nat) : Dev :=
  match if isBase d.inEffect F.XPT_DEST_CFG_GANG i then d.nextSwitch i else none with
  | none => d
  | some w =>
    let t := d.tick.t0Core + switchStart (d.get F.XPT_DEST_STATUS_FORMAT i) (d.destRate i)
    let d := (d.passToCore t).hset H.destSwitched i (d.get F.TICK_EPOCH_EPOCH + 1)
    let d := match w with
      | .take e => d.applyTake e
      | .changeover c => d.applyChangeover c
      | .resume => d.resume i
    d.salvosEnd

/-! ### Auto-changeover (R237, R238) -/

/-- The triggers that hold for source `s` as the destination judges it, as a mask of XPT_AC_CFG.TRIG (R237). -/
def Dev.triggers (d : Dev) (i s : Nat) : Nat :=
  let slot := s < 1536
  let locked := if slot then d.get F.ING_SLOT_STATUS_STATE s == 3 else d.sourceLive s
  let src := d.source d.inEffect s
  let other := d.get F.XPT_DEST_CFG_FOLLOW i == 0 && locked && src.fmt != 0 &&
    !(src.fmt == d.get F.XPT_DEST_CFG_FORMAT i && src.rate == d.get F.XPT_DEST_CFG_RATE i)
  let held := ofBool (!locked || other)
    + 2 * ofBool (slot && d.get F.XPT_AC_THRESH_BLACK_FR i ≤ d.get F.ING_SLOT_MON_BLACK_RUN s)
    + 4 * ofBool (slot && d.get F.XPT_AC_THRESH_FREEZE_FR i ≤ d.get F.ING_SLOT_MON_FREEZE_RUN s)
    + 8 * ofBool (slot && d.get F.XPT_AC_THRESH_ERR_RATE i ≤ d.get F.ING_SLOT_MON2_CRC_RATE s)
    + 16 * ofBool (slot && d.get F.XPT_AC_THRESH_SILENCE_FR i ≤ d.get F.ING_SLOT_MON2_SILENCE_RUN s)
  held &&& d.get F.XPT_AC_CFG_TRIG i

/-- The backup source is unfit (R237). -/
def Dev.backupUnfit (d : Dev) (i : Nat) : Bool :=
  let b := d.get F.XPT_AC_CFG_BACKUP i
  b ≥ 1568 || d.triggers i b != 0 || (d.checkSource d.inEffect i b).isSome

/-- A changeover is decided: it waits for the switch line of the next destination frame (R238), and is mirrored (R463). -/
def Dev.decideSource (d : Dev) (i s : Nat) (backup : Bool) : Dev :=
  (d.onXpt fun x => { x with changeovers := x.changeovers ++ [⟨i, s, backup⟩] }).live (.changeover i s backup)

/-- The decision of one destination at T3 (R238). -/
def Dev.changeoverAt (d : Dev) (i : Nat) : Dev :=
  let main := d.hget H.destMain i
  let backup := d.get F.XPT_AC_CFG_BACKUP i
  let mask := d.triggers i main
  if d.xpt.changeovers.any fun c => c.dest == i then d
  else if d.get F.XPT_DEST_STATUS_ON_BACKUP i == 0 then
    if mask = 0 then d.hset H.destBothUnfit i 0
    else if d.backupUnfit i then
      let was := d.hget H.destBothUnfit i
      let d := d.hset H.destBothUnfit i 1
      if was = 0 then d.raise 553 [i, backup, mask] else d
    else ((d.hset H.destBothUnfit i 0).raise 551 [i, main, backup, mask]).decideSource i backup true
  else if mask ≠ 0 then d.hset H.destRevertRun i 0
  else
    let run := d.hget H.destRevertRun i + 1
    let d := d.hset H.destRevertRun i run
    if d.backupUnfit i || (d.get F.XPT_AC_CFG_REVERTIVE i == 1 && d.get F.XPT_AC_REVERT_REVERT_FRAMES i ≤ run) then
      (d.raise 552 [i, main]).decideSource i main false
    else d

/-- Auto-changeover at T3; none is evaluated while the role is not ACTIVE (R465). -/
def Dev.changeovers (d : Dev) : Dev :=
  if d.role != 0 then d
  else d.each ((d.insts F.XPT_AC_CFG_AC_EN).filter fun i => d.get F.XPT_AC_CFG_AC_EN i == 1) Dev.changeoverAt

/-! ### Injection (R216) -/

/-- A write of XPT_INJECT: its fields, and with GO the next COUNT lines of a destination in one plane. -/
def Dev.writeInject (d : Dev) (w : Nat) : Dev :=
  let plane := fieldOf F.XPT_INJECT_PLANE w
  let count := fieldOf F.XPT_INJECT_COUNT w
  let dest := fieldOf F.XPT_INJECT_DEST w
  let d := ((d.set F.XPT_INJECT_PLANE 0 plane).set F.XPT_INJECT_COUNT 0 count).set F.XPT_INJECT_DEST 0 dest
  if fieldOf F.XPT_INJECT_GO w = 0 ∨ count = 0 ∨ dest ≥ 1536 then d
  else d.onXpt fun x =>
    { x with injections := (x.injections.filter fun j => !(j.dest == dest && j.plane == plane)) ++ [⟨dest, plane, count⟩] }

/-- The BAR0 offset of XPT_INJECT. -/
def xptInjectOff : Nat := 0x1680300

def execSluiceSwitch (dest : Fin 1536) (_anc _space : Computed) (s : State) : Host.Outcome State Fault Refusal := lift (·.sluice dest) s

def execXptInject (m : Fin 8) (v : Word) (s : State) : Host.Outcome State Fault Refusal :=
  lift (fun d => d.busWrite m xptInjectOff v.toNat (·.writeInject v.toNat)) s

end Sys2Proof.Machine
end

