-- ==== Sys2Proof/Machine/Convert.lean ====
section
/-! DEFINITION. What an inline converter makes of a line's active words (R265, R267, R268, R270). -/

namespace Sys2Proof.Machine

/-- The place of a LUT or matrix entry; none outside the tables. -/
def lutPlace (c bank table index : Nat) : Option Nat :=
  if table < 6 ∨ (table = 6 ∧ index < 12) then some (((c * 2 + bank) * 7 + table) * 4096 + index) else none

/-- An entry as stored. -/
def Dev.lutEntry (d : Dev) (c bank table index : Nat) : Nat := ((lutPlace c bank table index).map fun p => d.hget H.cnvLut p).getD 0

/-- A 14-bit value through a LUT (R268): indexed by bits 13:2, interpolated linearly by bits 1:0.  The rounding of a quarter, and what follows
the last entry, are open (log entry 340). -/
def Dev.throughLut (d : Dev) (c bank table v : Nat) : Nat :=
  let i := bits v 2 12
  let a := d.lutEntry c bank table i
  let b := if i = 4095 then Config.lutBeyond a % 2 ^ 14 else d.lutEntry c bank table (i + 1)
  let f := v % 4
  if f = 0 then a else (clampInt 0 16383 (a + Config.quarter (((b : Int) - a) * f))).toNat

/-- The matrix with its offsets, clipped to 14 bits (R268); the rounding of the 12 fractional bits is open (log entry 340). -/
def Dev.throughMatrix (d : Dev) (c bank : Nat) (p : Nat × Nat × Nat) : Nat × Nat × Nat :=
  let e := fun k => toSigned 14 (d.lutEntry c bank 6 k)
  let row := fun k => (clampInt 0 16383
    (Config.by4096 (e (3 * k) * p.1 + e (3 * k + 1) * p.2.1 + e (3 * k + 2) * p.2.2) + e (9 + k))).toNat
  (row 0, row 1, row 2)

/-- Stages 2 to 4 on one picture element (R268). -/
def Dev.throughTables (d : Dev) (c bank : Nat) (p : Nat × Nat × Nat) : Nat × Nat × Nat :=
  let lut := fun t (p : Nat × Nat × Nat) =>
    (d.throughLut c bank t p.1, d.throughLut c bank (t + 1) p.2.1, d.throughLut c bank (t + 2) p.2.2)
  lut 3 (d.throughMatrix c bank (lut 0 p))

/-- The active words that converter `c` makes (R265, R268): a preset's are the standards' (log entry 195), those of preset 15 come from the LUT bank
in effect. -/
def Dev.convertWords (d : Dev) (c : Nat) (ws : List Nat) : List Nat :=
  let preset := d.liveCnv F.CNV_CFG_PRESET c
  if preset = 0 ∨ ws = [] then ws
  else if preset ≤ 10 then Config.presetLine preset ws
  else
    let rgb := Config.lineToRgb (d.liveCnv F.CNV_CFG_IN_2020 c == 1) (d.liveCnv F.CNV_CFG_IN_FULL c == 1) ws
    Config.rgbToLine (d.liveCnv F.CNV_CFG_OUT_2020 c == 1) (d.liveCnv F.CNV_CFG_OUT_FULL c == 1)
      (rgb.map (d.throughTables c (d.liveCnv F.CNV_CFG_BANK c)))

/-- At the tick of frame `n` a converter takes its new configuration if a frame of its destination starts, or it is attached to none
(R270). -/
def Dev.cnvTick (d : Dev) (n : Nat) : Dev :=
  d.each ((List.range 64).filter fun c => d.hget H.cnvLive c != d.cnvWord c) fun d c =>
    let attached := fun (f : Fld → Nat) => f F.CNV_CFG_EN == 1 && f F.CNV_CFG_DEST < 1536
    let free := fun (f : Fld → Nat) => !attached f || !d.destOn (f F.CNV_CFG_DEST) ||
      startsFrame d.rate (d.get F.XPT_DEST_STATUS_RATE (f F.CNV_CFG_DEST)) n
    if free (d.liveCnv · c) && free (d.get · c) then d.hset H.cnvLive c (d.cnvWord c) else d

end Sys2Proof.Machine
end

