-- ==== Sys2Proof/Machine/Health.lean ====
section
/-! DEFINITION. The health level, its triggers and REPLACE_N (R505–R509). -/

namespace Sys2Proof.Machine

/-- Change the health block's own state. -/
def Dev.onHealth (d : Dev) (f : Health → Health) : Dev := { d with health := f d.health }

/-- The level of a trigger bit (R507): 1 SERVICE, 2 IMPAIRED, 3 FAILED. -/
def triggerLevel (b : Nat) : Nat := if b = 12 ∨ b = 13 then 3 else if b = 2 ∨ b = 5 ∨ b = 10 ∨ b = 11 then 2 else 1

/-- The level that a set of trigger bits gives (R505): the highest, 0 GOOD when none is set. -/
def levelOf (trig : Nat) : Nat := (((List.range 14).filter (bit trig)).map triggerLevel).foldl max 0

/-- The health level. -/
def Dev.healthLevel (d : Dev) : Nat := levelOf (d.get F.HLT_TRIG_TRIG)

/-- REPLACE_N is low (R506). -/
def Dev.replace (d : Dev) : Bool := d.healthLevel ≥ 1

/-- Fen units that neither serve nor are retired. -/
def Dev.fenSpares (d : Dev) : Nat :=
  ((List.range 272).filter fun n => d.get F.FEN_ENG_STATUS_USE n != 1 && d.get F.FEN_ENG_STATUS_USE n != 3).length

/-- Converter units that neither serve nor are retired. -/
def Dev.converterSpares (d : Dev) : Nat :=
  ((List.range 68).filter fun u => d.hget H.cnvFailed u == 0 && (List.range 64).all fun c => d.get F.CNV_STATUS_PHYS c != u).length

/-- Tile scalers that neither serve nor are retired. -/
def Dev.scalerSpares (d : Dev) : Nat := 8 - d.get F.MV_SCALER_POOL_RETIRED

/-- The spares of a pool have fallen to its limit (R507, bit 1). -/
def Dev.spareLow (d : Dev) : Bool :=
  d.fenSpares ≤ d.get F.HLT_SPARE_LOW_FEN || d.converterSpares ≤ d.get F.HLT_SPARE_LOW_CNV ||
    d.scalerSpares ≤ d.get F.HLT_SPARE_LOW_SCALER || d.get F.MERE_POOL_RETIRED > 8 * d.get F.HLT_SPARE_LOW_MERE_RETIRED

/-- A logical unit has no serviceable physical unit (R507, bit 2). -/
def Dev.unitLost (d : Dev) : Bool :=
  !(d.insts F.FEN_MAP_VALID).isEmpty || !(d.insts F.CNV_STATUS_FAULT).isEmpty || !(d.insts F.MV_HEAD_STATUS_SCALER_FAULT).isEmpty

/-- Three Lath restarts lie within 3,600 s (R507, bit 9). -/
def Dev.lathOften (d : Dev) : Bool :=
  (d.health.restarts.filter fun c => d.clock.core ≤ c + 3600000000000).length ≥ 3

/-- The condition of a hardware trigger holds (R507). -/
def Dev.triggerHolds (d : Dev) (b : Nat) : Bool :=
  match b with
  | 1 => d.spareLow
  | 2 => d.unitLost
  | 5 => d.get F.MERE_STATUS_IN_SERVICE == 0 && d.get F.BOOT_STATUS_STEP > 3
  | 6 => d.get F.RPR_STATUS_EFUSE_FREE == 0 || d.get F.RPR_HBM_HARD_FREE == 0
  | 8 => d.hget H.tjHot == 1
  | 9 => d.lathOften
  | 10 => d.hget H.keyFail == 1
  | 11 => d.hget H.tickLost == 1
  | 12 => d.get F.TOP_STATUS_BOOT_FAIL == 1
  | 13 => d.hget H.testLatch == 1
  | _ => false

/-- The triggers that hardware sets. -/
def hardwareTriggers : List Nat := [1, 2, 5, 6, 8, 9, 10, 11, 12, 13]

/-- A trigger bit is set (R508). -/
def Dev.setTrigger (d : Dev) (b : Nat) : Dev :=
  let t := d.get F.HLT_TRIG_TRIG
  if bit t b then d else (d.set F.HLT_TRIG_TRIG 0 (t + 2 ^ b)).raise 17 [b, 1]

/-- HLT_LEVEL when the level has changed. -/
def Dev.levelCheck (d : Dev) (old : Nat) : Dev :=
  if d.healthLevel = old then d else d.raise 16 [old, d.healthLevel, d.get F.HLT_TRIG_TRIG]

/-- Trigger bits are set, and the level follows. -/
def Dev.setTriggers (d : Dev) (bs : List Nat) : Dev := (d.each bs Dev.setTrigger).levelCheck d.healthLevel

/-- Hardware sets the bits whose conditions hold (R507). -/
def Dev.healthReview (d : Dev) : Dev := d.setTriggers (hardwareTriggers.filter d.triggerHolds)

/-- Bits of HLT_TRIG are cleared; a hardware bit whose condition still holds is set again in the next cycle (R508). -/
def Dev.clearTriggers (d : Dev) (mask : Nat) : Dev :=
  let t := d.get F.HLT_TRIG_TRIG
  let gone := (List.range 14).filter fun b => bit t b && bit mask b
  let d' := d.set F.HLT_TRIG_TRIG 0 (t - wordOfBits gone)
  ((d'.each gone fun d b => d.raise 17 [b, 0]).levelCheck (levelOf t)).healthReview

/-- The computed part of HLT_STATUS. -/
def Dev.healthStatusView (d : Dev) : Nat := 4 * ofBool d.replace + d.healthLevel

end Sys2Proof.Machine
end

