-- ==== Sys2Proof/Machine/Leases.lean ====
section
/-! DEFINITION. Expert leases (R114–R120) and destination protection (R121–R123), with their commands. -/

namespace Sys2Proof.Machine

/-- The units that a port holds. -/
def Dev.unitsOf (d : Dev) (port : Nat) : List Nat := (List.range 16).filter fun u => d.holder u == port

/-- The port on whose behalf a commit was issued (R117, R120). -/
def Issuer.port? : Issuer → Option Nat
  | .bar0 _ => some 0
  | .command p _ _ => some p
  | .firmware _ _ _ => none
  | .mirror _ _ => none

/-- A unit's group leaves every pending commit of the former holder; one left with no group completes LEASED (R120). -/
def Dev.takeFromHolder (d : Dev) (port u : Nat) : Dev :=
  let cut := fun (c : Commit) =>
    if c.issuer.port? = some port then { c with groups := c.groups &&& (0xFFF ^^^ 2 ^ u) } else c
  let cs := d.tick.commits.map cut
  let gone := cs.filter fun c => c.groups == 0 && !c.empty
  let d := { d with tick := { d.tick with commits := cs.filter fun c => c.groups != 0 || c.empty } }
  gone.foldl (fun d c => d.commitEnds c .leased) d

/-- One unit's lease ends: its group leaves the holder's commits and its shadow copies are reloaded (R120). -/
def Dev.freeUnit (d : Dev) (port u : Nat) : Dev :=
  let d := d.set F.CMD_LEASE_HOLDER_HOLDER u 7
  if u < 12 then (d.takeFromHolder port u).reloadGroups (2 ^ u) else d

/-- Leases of a port end for `units` (R119, R120). -/
def Dev.endLease (d : Dev) (port : Nat) (units : List Nat) (cause : Nat) : Dev :=
  if units.isEmpty then d
  else (d.each units fun d u => d.freeUnit port u).raise 964 [port, wordOfBits units, cause]

/-- All of a port's leases end. -/
def Dev.endPortLeases (d : Dev) (port cause : Nat) : Dev := d.endLease port (d.unitsOf port) cause

/-- Every lease ends (causes 3 and 4 of R119). -/
def Dev.endAllLeases (d : Dev) (cause : Nat) : Dev := d.each (List.range 5) fun d p => d.endPortLeases p cause

/-- Units of a UNITS value. -/
def unitList (mask : Nat) : List Nat := (List.range 16).filter (bit mask)

/-- A held change that is not yet written touches one of the units. -/
def HeldChange.touches (h : HeldChange) (units : List Nat) : Bool :=
  !h.written && units.any fun u => u < 12 && bit (groupsOf h.writes) u

/-- LEASE_TAKE (0x0901, R115, R116). -/
def leaseTakeSpec : Spec := { op := 0x0901, ports := [0, 1, 2, 4], pars := [.req 0x0101 (num 4 (· < 65536))] }

def Dev.leaseTake (d : Dev) (q : Req) : Dev := d.command q leaseTakeSpec fun d ts =>
  let units := unitList (tlvNum ts 0x0101)
  if d.role != 0 && d.role != 4 then d.reply q 0x0901 St.notActive
  else if d.get F.CMD_PORT_CTRL_LEASE_ALLOW q.port == 0 then d.reply q 0x0901 St.badOpcode
  else
    match units.find? fun u => d.holder u != 7 && d.holder u != q.port with
    | some u => d.reply q 0x0901 St.leased [statusDetail 0 (d.holder u) 0]
    | none =>
      let d := d.endChanges (·.touches units) St.leased
      let d := (d.each units fun d u => d.set F.CMD_LEASE_HOLDER_HOLDER u q.port).hset H.leaseTime q.port d.clock.core
      (d.raise 963 [q.port, wordOfBits units]).reply q 0x0901 St.ok

/-- LEASE_RENEW (0x0902): restarts the timeout of every unit the port holds. -/
def leaseRenewSpec : Spec := { op := 0x0902 }

def Dev.leaseRenew (d : Dev) (q : Req) : Dev := d.command q leaseRenewSpec fun d _ =>
  (d.hset H.leaseTime q.port d.clock.core).reply q 0x0902 St.ok

/-- LEASE_RELEASE (0x0903): the named units that the port holds are released (cause 0). -/
def leaseReleaseSpec : Spec := { op := 0x0903, pars := [.req 0x0101 (num 4 (· < 65536))] }

def Dev.leaseRelease (d : Dev) (q : Req) : Dev := d.command q leaseReleaseSpec fun d ts =>
  let units := (unitList (tlvNum ts 0x0101)).filter fun u => d.holder u == q.port
  (d.endLease q.port units 0).reply q 0x0903 St.ok

/-- LEASE_STATUS (0x0904): the holder of each unit. -/
def leaseStatusSpec : Spec := { op := 0x0904 }

def Dev.leaseStatus (d : Dev) (q : Req) : Dev := d.command q leaseStatusSpec fun d _ =>
  d.reply q 0x0904 St.ok ((List.range 16).map fun u => data [w4 (d.holder u)])

/-- The CORE cycle at which a port's leases time out (R119). -/
def Dev.leaseEnd (d : Dev) (port : Nat) : Nat :=
  d.hget H.leaseTime port + d.get F.CMD_LEASE_CFG_TIMEOUT * 100000000

/-- The lease timeout of a port passes (R119): its leases end with cause 1. -/
def Dev.leaseTimeout (d : Dev) (port : Nat) : Dev :=
  if (d.unitsOf port).isEmpty then d else (d.passToCore (d.leaseEnd port)).endPortLeases port 1

/-! ### Protection (R121–R123) -/

/-- The destinations of a range that a port other than `port` protects. -/
def Dev.barredDests (d : Dev) (port : Nat) (r : Nat × Nat) : List Nat :=
  (rangeList r).filter fun i => d.hget H.protectedBy i != 0xFF && d.hget H.protectedBy i != port

/-- Protection of a range passes to `holder` (0xFF: none), is raised with the issuing port, and mirrored. -/
def Dev.setProtection (d : Dev) (port : Nat) (r : Nat × Nat) (holder : Nat) : Dev :=
  let d := d.each (rangeList r) fun d i => d.hset H.protectedBy i holder
  (d.raise 966 [port, r.1, r.2]).live (.protect r.1 r.2 holder)

/-- PROTECT (0x0220). -/
def protectSpec : Spec := { op := 0x0220, pars := [Par.dests] }

def Dev.protect (d : Dev) (q : Req) : Dev := d.command q protectSpec fun d ts =>
  let r := tlvRange ts
  match d.barredDests q.port r with
  | i :: _ => d.reply q 0x0220 St.protected_ [statusDetail (tlvIndex ts 2) (d.hget H.protectedBy i) 0]
  | [] => (d.setProtection q.port r q.port).reply q 0x0220 St.ok

/-- UNPROTECT (0x0221): from the holder, or from P0 with FORCE (R123). -/
def unprotectSpec : Spec := { op := 0x0221, pars := [Par.dests, .opt 0x0101 (num 4 (· == 1))] }

def Dev.unprotect (d : Dev) (q : Req) : Dev := d.command q unprotectSpec fun d ts =>
  let r := tlvRange ts
  let force := hasTlv ts 0x0101
  if force && q.port != 0 then d.reply q 0x0221 St.badParam [statusDetail (tlvIndex ts 0x0101) 0xFF 0]
  else
    match if force then [] else d.barredDests q.port r with
    | i :: _ => d.reply q 0x0221 St.protected_ [statusDetail (tlvIndex ts 2) (d.hget H.protectedBy i) 0]
    | [] =>
      let held := (rangeList r).any fun i => d.hget H.protectedBy i != 0xFF
      (if held then d.setProtection q.port r 0xFF else d).reply q 0x0221 St.ok

/-- PROTECT_GET (0x0222): one byte per destination, in one TLV. -/
def protectGetSpec : Spec := { op := 0x0222, pars := [Par.dests] }

def Dev.protectGet (d : Dev) (q : Req) : Dev := d.command q protectGetSpec fun d ts =>
  d.reply q 0x0222 St.ok [data ((rangeList (tlvRange ts)).map fun i => beBytes 1 (d.hget H.protectedBy i))]

def execLeaseTake (q : Req) (s : State) : Host.Outcome State Fault Refusal := lift (·.leaseTake q) s
def execLeaseRenew (q : Req) (s : State) : Host.Outcome State Fault Refusal := lift (·.leaseRenew q) s
def execLeaseRelease (q : Req) (s : State) : Host.Outcome State Fault Refusal := lift (·.leaseRelease q) s
def execLeaseStatus (q : Req) (s : State) : Host.Outcome State Fault Refusal := lift (·.leaseStatus q) s
def execLeaseTimeout (port : Fin 5) (s : State) : Host.Outcome State Fault Refusal := lift (·.leaseTimeout port) s
def execProtect (q : Req) (s : State) : Host.Outcome State Fault Refusal := lift (·.protect q) s
def execUnprotect (q : Req) (s : State) : Host.Outcome State Fault Refusal := lift (·.unprotect q) s
def execProtectGet (q : Req) (s : State) : Host.Outcome State Fault Refusal := lift (·.protectGet q) s

end Sys2Proof.Machine
end

