-- ==== Sys2Proof/Machine/Amx.lean ====
section
/-! DEFINITION. The mix-tap matrix (R401–R424): tap lists and their table units, ramps, gain load, mixing, the jobs that
carry it, meter slots, and the audio commands. -/

namespace Sys2Proof.Machine

/-! ### Lists -/

/-- The number of entries of the mix-tap table. -/
def tapEntries : Nat := 2097152

/-- The tap list of destination channel `k`: sources and gains; it ends at the table's last entry (R407). -/
def tapsOf (v : View) (k : Nat) : List (Nat × Int) :=
  let first := 16 * v F.AMX_DEST_LIST_FIRST k
  ((List.range (v F.AMX_DEST_LIST_COUNT k)).filter fun i => first + i < tapEntries).map fun i =>
    (v F.TAP_SRC_SOURCE (first + i), toSigned 32 (v F.TAP_GAIN_GAIN (first + i)))

/-- The taps with the gains that they settle at: 0 while the channel is muted (R412). -/
def settledTaps (v : View) (k : Nat) : List (Nat × Int) :=
  if v F.AMX_DEST_RAMP_MUTE k == 1 then (tapsOf v k).map fun t => (t.1, 0) else tapsOf v k

/-- The magnitude of a gain in the load: a negative one counts 2⁻²⁸ more (R413). -/
def loadOf (g : Int) : Nat := if g < 0 then g.natAbs + 1 else g.natAbs

/-- The gain load of a list, in units of 2⁻²⁸ (R413). -/
def gainLoad (ts : List (Nat × Int)) : Nat := (ts.map fun t => loadOf t.2).sum

/-- The limit of the gain load (R413). -/
def loadLimit : Nat := 4096 * 2 ^ 28

/-- A reserved source channel (R401). -/
def reservedChannel (n : Nat) : Bool := 58112 ≤ n && n ≤ 61439

/-- The row of R401 and R402 that a channel lies in. -/
def channelRow (n : Nat) : Nat := if n < 49152 then 0 else if n < 57344 then 1 else if n < 58112 then 2 else if n < 61440 then 3 else 4

/-- A range of channels crosses a row, or the end of the space. -/
def crossesRow (first count : Nat) : Bool := first + count > 65536 || channelRow first != channelRow (first + count - 1)

/-! ### Table units (R408) -/

/-- Units of a list. -/
def unitsFor (count : Nat) : Nat := (count + 15) / 16

/-- The runs of units that are occupied, as first unit and number: by the shadow and in-effect descriptors, by held changes,
and by what awaits release. -/
def Dev.unitRuns (d : Dev) : List (Nat × Nat) :=
  let run := fun (v : View) k => (v F.AMX_DEST_LIST_FIRST k, unitsFor (v F.AMX_DEST_LIST_COUNT k))
  let ks := unionNat (d.reg.insts F.AMX_DEST_LIST_COUNT.id) (d.shadow.insts F.AMX_DEST_LIST_COUNT.id)
  let held := (d.tick.changes.filter fun h => !h.written).flatMap fun h =>
    (h.writes.filter fun w => w.fld == F.AMX_DEST_LIST_COUNT.id).map fun w =>
      run (d.inShadow.over h.writes) w.inst
  (ks.map (run d.inEffect) ++ ks.map (run d.inShadow) ++ held ++ d.amx.released.map fun r => (r.unit, r.count)).filter
    fun r => r.2 > 0

/-- How many distinct units the runs occupy. -/
def unitsIn (runs : List (Nat × Nat)) : Nat :=
  ((sortBy (fun a b => a.1 ≤ b.1) runs).foldl (fun (acc : Nat × Nat) r =>
    let last := min 131072 (r.1 + r.2)
    (max acc.1 last, acc.2 + (last - max acc.1 r.1))) (0, 0)).2

/-- Free units. -/
def Dev.freeUnits (d : Dev) : Nat := 131072 - unitsIn d.unitRuns

/-- `n` units from `s` on are free of the runs. -/
def unitsFree (runs : List (Nat × Nat)) (s n : Nat) : Bool :=
  s + n ≤ 131072 && runs.all fun r => s + n ≤ r.1 || r.1 + r.2 ≤ s

/-- `n` consecutive free units: the first ones at or after `start`, else the first ones of the table.  The manual does not
say which units the firmware takes, so `start` is open (log entry 30). -/
def findUnits (runs : List (Nat × Nat)) (start n : Nat) : Option Nat :=
  let after := fun s => (s :: (sortBy (· ≤ ·) ((runs.map fun r => r.1 + r.2).filter (s ≤ ·)))).find? fun p => unitsFree runs p n
  match after start with
  | some p => some p
  | none => after 0

/-- AMX_TABLE_LOW when the free units fall below 8,192. -/
def Dev.checkTable (d : Dev) : Dev :=
  let n := d.freeUnits
  let low := n < 8192
  let was := d.hget H.amxLow == 1
  let d := d.hset H.amxLow 0 (ofBool low)
  if low && !was then d.raise 737 [n] else d

/-! ### Placement of the mix jobs (R415, R446) -/

/-- The Fen cycles of a list in one block: two multiply-accumulates a cycle. -/
def Dev.listCycles (d : Dev) (count : Nat) : Nat := (count * d.blockSamples + 1) / 2

/-- The jobs that carry lists of these lengths: contiguous ranges, each within the block budget.  The manual leaves the
division to the firmware; this one is the model's (log entry 31). -/
def Dev.mixJobs (d : Dev) (lists : List (Nat × Nat)) : List (Nat × Nat × Nat) :=
  let budget := d.get F.FEN_SCHED_BLOCK_BUDGET
  (lists.foldl (fun (acc : List (Nat × Nat × Nat)) l =>
    let c := d.listCycles l.2
    match acc with
    | (first, last, cost) :: rest =>
      if cost + c ≤ budget then (first, l.1, cost + c) :: rest else (l.1, l.1, c) :: (first, last, cost) :: rest
    | [] => [(l.1, l.1, c)]) []).reverse

/-- The lengths of the lists of a reading, by channel. -/
def Dev.listLengths (d : Dev) (ws : List ShadowWrite) (v : View) : List (Nat × Nat) :=
  ((d.touched ws F.AMX_DEST_LIST_COUNT).map fun k => (k, v F.AMX_DEST_LIST_COUNT k)).filter fun l => l.2 > 0

/-- The logical engines that are served. -/
def Dev.servedEngines (d : Dev) : List Nat := (List.range 256).filter fun l => d.get F.FEN_MAP_VALID l == 1

/-- The jobs can be placed: one on each served engine. -/
def Dev.placeable (d : Dev) (jobs : List (Nat × Nat × Nat)) : Bool :=
  jobs.length ≤ d.servedEngines.length && jobs.all fun j => j.2.2 ≤ d.get F.FEN_SCHED_BLOCK_BUDGET

/-- The mix job that covers a destination channel. -/
def Dev.jobOf (d : Dev) (k : Nat) : Option Nat :=
  (d.reg.insts F.AMX_JOB_ENGINE_VALID.id).find? fun j =>
    d.get F.AMX_JOB_RANGE_FIRST j ≤ k && k ≤ d.get F.AMX_JOB_RANGE_LAST j

/-- The job of each engine's list that runs its mix: entry 0, whose program the Benram image gives (log entry 31). -/
def mixEntry (engine : Nat) : Nat := 64 * engine

/-- One mix job placed: its range, its engine, and the engine's job list entry, whose ENTRY and ARG the image gives. -/
def Dev.placeJob (d : Dev) (j engine first last : Nat) : Dev :=
  let d := (((d.set F.AMX_JOB_RANGE_FIRST j first).set F.AMX_JOB_RANGE_LAST j last).set F.AMX_JOB_ENGINE_ENGINE j engine).set
    F.AMX_JOB_ENGINE_VALID j 1
  let e := mixEntry engine
  if d.get F.FEN_JOB_EN e == 1 then d
  else
    let (entry, d) := d.fresh
    let (arg, d) := d.fresh
    (((d.set F.FEN_JOB_EN e 1).set F.FEN_JOB_CLASS e 0).set F.FEN_JOB_ENTRY e entry).set F.FEN_JOB_ARG_ARG e arg

/-- New placements take effect at a block tick, unless FEN or AMX is leased (R116, R446, R448). -/
def Dev.placeMixes (d : Dev) : Dev :=
  if d.holder 13 != 7 || d.holder 8 != 7 || !d.lathRuns then d
  else
    let jobs := d.mixJobs (d.listLengths [] d.inEffect)
    let engines := d.servedEngines
    let old := d.reg.insts F.AMX_JOB_ENGINE_VALID.id
    let gone := old.filter fun j => jobs.length ≤ j
    let d := d.each gone fun d j => (d.set F.AMX_JOB_ENGINE_VALID j 0).set F.FEN_JOB_EN (mixEntry (d.get F.AMX_JOB_ENGINE_ENGINE j)) 0
    d.each ((jobs.zip engines).zipIdx) fun d e => d.placeJob e.2 e.1.2 e.1.1.1 e.1.1.2.1

/-! ### Ramps and mixing (R410–R412) -/

/-- A tap's gain at sample `n` of its ramp. -/
def RampTap.gain (t : RampTap) (len n : Nat) : Int :=
  if n ≥ len then t.g1 else t.g0 + divEven ((t.g1 - t.g0) * n) len

/-- The present taps of a channel: those of its ramp at its position, else those it settled at. -/
def Dev.presentTaps (d : Dev) (k : Nat) (settled : List (Nat × Int)) : List (Nat × Int) :=
  match d.amx.ramps.find? (·.dest == k) with
  | some r => r.taps.map fun t => (t.source, t.gain r.length r.pos)
  | none => settled

/-- Take the first tap of a source out of a list. -/
def takeTap (s : Nat) : List (Nat × Int) → Option Int × List (Nat × Int)
  | [] => (none, [])
  | t :: l => if t.1 = s then (some t.2, l) else let (g, l) := takeTap s l; (g, t :: l)

/-- The taps that move from one list to another: the nth occurrence of a source matches its nth occurrence (R409, R410). -/
def rampTaps : List (Nat × Int) → List (Nat × Int) → List RampTap
  | old, [] => old.map fun t => ⟨t.1, t.2, 0⟩
  | old, t :: new =>
    let (g, old) := takeTap t.1 old
    ⟨t.1, g.getD 0, t.2⟩ :: rampTaps old new

/-- What took effect at T0 begins to act at the block tick: a new ramp from the present gains (R410, R411). -/
def Dev.startRamps (d : Dev) : Dev :=
  let cs := d.amx.changed
  let rs := cs.map fun c =>
    let len := d.get F.AMX_DEST_RAMP_RAMP_LEN c.dest
    Ramp.mk c.dest len 0 (rampTaps (d.presentTaps c.dest c.taps) (settledTaps d.inEffect c.dest))
  let kept := d.amx.ramps.filter fun r => !cs.any fun c => c.dest == r.dest
  { d with amx := { d.amx with changed := [], ramps := kept ++ rs.filter fun r => r.length > 0 } }

/-- The ramps advance by a block's samples (R411); a finished one ends. -/
def Dev.advanceRamps (d : Dev) : Dev :=
  let rs := d.amx.ramps.map fun r => { r with pos := r.pos + d.blockSamples }
  { d with amx := { d.amx with ramps := rs.filter fun r => r.pos < r.length } }

/-- The gains of a channel's taps at sample `i` (from 0) of the block in progress (R410); what took effect after its block tick does not
act yet (R48). -/
def Dev.gainsAt (d : Dev) (k i : Nat) : List (Nat × Int) :=
  match d.amx.ramps.find? (·.dest == k) with
  | some r => r.taps.map fun t => (t.source, t.gain r.length (r.pos + i + 1))
  | none =>
    match d.amx.changed.find? (·.dest == k) with
    | some c => c.taps
    | none => settledTaps d.inEffect k

/-- One product added to an accumulator in a repeat block: its value, and whether it is held (R431, R433). -/
def accumulate (acc : Int × Bool) (p : Int) : Int × Bool :=
  if acc.2 then acc
  else
    let s := acc.1 + p
    if saturate 72 s = s then (s, false) else (saturate 72 s, true)

/-- A sum in repeat blocks of 64 products, as the mix program of spec/17 forms it: the sum and its overflows. -/
def chunkedSum : Nat → Int → Nat → List Int → Int × Nat
  | 0, a, n, _ => (a, n)
  | f + 1, a, n, ps =>
    if ps.isEmpty then (a, n)
    else
      let r := (ps.take 64).foldl accumulate (a, false)
      chunkedSum f r.1 (n + ofBool r.2) (ps.drop 64)

/-- One mixed sample of a channel and the overflows on the way (R407, R432). -/
def Dev.mixSample (d : Dev) (k i : Nat) : Int × Nat :=
  let ps := (d.gainsAt k i).map fun t => sampleAt d.amx.source t.1 i * t.2
  let r := chunkedSum (ps.length + 1) 0 0 ps
  (saturate 32 (divEven r.1 (2 ^ 28)), r.2)

/-- A mixed block of a channel and its overflows. -/
def Dev.mixBlock (d : Dev) (k : Nat) : ChannelBlock × Nat :=
  let rs := (List.range d.blockSamples).map (d.mixSample k)
  (⟨k, rs.map Prod.fst⟩, (rs.map Prod.snd).sum)

/-! ### What a frame tick does to the lists -/

/-- The channels whose list or mute a commit may have changed. -/
def Dev.listChannels (d : Dev) (old : Dev) : List Nat :=
  unionNat (d.reg.insts F.AMX_DEST_LIST_COUNT.id) (old.reg.insts F.AMX_DEST_LIST_COUNT.id)

/-- The lists of `old` that the commits of this T0 changed: their ramps wait for the block tick (R48), their units await
release (R408), and a leased list above the load limit is raised (R414). -/
def Dev.listsApplied (d : Dev) (old : Dev) : Dev :=
  let ks := (d.listChannels old).filter fun k => settledTaps d.inEffect k != settledTaps old.inEffect k
  let moved := (d.listChannels old).filter fun k => old.get F.AMX_DEST_LIST_COUNT k > 0 &&
    (old.get F.AMX_DEST_LIST_FIRST k != d.get F.AMX_DEST_LIST_FIRST k || old.get F.AMX_DEST_LIST_COUNT k != d.get F.AMX_DEST_LIST_COUNT k)
  let changes : List ListChange := ks.map fun k => (d.amx.changed.find? fun c => c.dest == k).getD ⟨k, settledTaps old.inEffect k⟩
  let kept : List ListChange := d.amx.changed.filter fun c => !ks.contains c.dest
  let freed : List Release := moved.map fun k => ⟨k, old.get F.AMX_DEST_LIST_FIRST k, unitsFor (old.get F.AMX_DEST_LIST_COUNT k)⟩
  let d := { d with amx := { d.amx with changed := kept ++ changes, released := d.amx.released ++ freed } }
  let d := d.each ks fun d k =>
    let l := gainLoad (settledTaps d.inEffect k)
    if l > loadLimit then d.raise 736 [k, l / 4096] else d
  d.checkTable

/-- At T0 the units whose last ramp has ended are freed (R408). -/
def Dev.freeReleased (d : Dev) : Dev :=
  { d with amx := { d.amx with released := d.amx.released.filter (fun r =>
    d.amx.ramps.any (·.dest == r.dest) || d.amx.changed.any (·.dest == r.dest)) } }

/-! ### List commands (R408, R409, R413, R423) -/

/-- The frame that a change without a FRAME takes (R109). -/
def Dev.changeFrame (d : Dev) (frame : Nat) : Nat :=
  if frame = 0 then (if d.pastHalf then d.frameNow + 2 else d.frameNow + 1) else frame

/-- The configuration as the changes held for frame `n` and earlier ones leave it. -/
def Dev.plannedAt (d : Dev) (n : Nat) : View :=
  d.inShadow.over (((sortBy (fun a b => a.frame ≤ b.frame) (d.tick.changes.filter fun h => !h.written && h.frame ≤ n)).flatMap
    HeldChange.writes))

/-- The frames from `n` on, up to the next one that holds a change of field `f` of channel `k`. -/
def Dev.framesFrom (d : Dev) (n : Nat) (f : Fld) (k : Nat) : List Nat :=
  n :: ((sortBy (fun a b => a.frame ≤ b.frame) (d.tick.changes.filter fun h => !h.written && n < h.frame)).takeWhile fun h =>
    !h.writes.any fun w => w.fld == f.id && w.inst == k).map HeldChange.frame

/-- The list that frame `n` gives channel `k` takes effect unmuted in some frame; a list that is muted has no gain load (R413). -/
def Dev.sounds (d : Dev) (n k : Nat) : Bool :=
  (d.framesFrom n F.AMX_DEST_LIST_COUNT k).any fun f => d.plannedAt f F.AMX_DEST_RAMP_MUTE k == 0

/-- Channel `k`, unmuted from frame `n` on, takes effect with a gain load above the limit in some frame (R413). -/
def Dev.overloads (d : Dev) (n k : Nat) : Bool :=
  (d.framesFrom n F.AMX_DEST_RAMP_MUTE k).any fun f => gainLoad (tapsOf (d.plannedAt f) k) > loadLimit

/-- A list repeats a source. -/
def repeatsSource : List (Nat × Int) → Bool
  | [] => false
  | t :: l => l.any (·.1 == t.1) || repeatsSource l

/-- Why a list is turned away: a status and a reason; its load counts where it sounds. -/
def listFault (sounds : Bool) (ts : List (Nat × Int)) : Option (Nat × Nat) :=
  if ts.any fun t => reservedChannel t.1 then some (St.badParam, 0x60)
  else if ts.length > 4096 then some (St.badParam, 0x63)
  else if repeatsSource ts then some (St.badParam, 0x64)
  else if sounds && gainLoad ts > loadLimit then some (St.badParam, 0x61)
  else none

/-- The shadow writes that place a list at a unit with a ramp length. -/
def listWrites (k unit ramp : Nat) (ts : List (Nat × Int)) : List ShadowWrite :=
  [sw F.AMX_DEST_LIST_COUNT k ts.length, sw F.AMX_DEST_LIST_FIRST k unit, sw F.AMX_DEST_RAMP_RAMP_LEN k ramp] ++
    ts.zipIdx.flatMap fun t => [sw F.TAP_SRC_SOURCE (16 * unit + t.2) t.1.1, sw F.TAP_GAIN_GAIN (16 * unit + t.2) (ofSigned 32 t.1.2)]

/-- Units for several lists, one after another; none when they do not fit. -/
def allot (runs : List (Nat × Nat)) (start : Nat) : List Nat → Option (List Nat)
  | [] => some []
  | n :: ns =>
    if n = 0 then (allot runs start ns).map (0 :: ·)
    else
      match findUnits runs start n with
      | some u => (allot ((u, n) :: runs) start ns).map (u :: ·)
      | none => none

/-- New lists for destination channels, checked, given units, placed on engines and held for their frame. -/
def Dev.newLists (d : Dev) (q : Req) (op : Nat) (ts : List Tlv) (ramp : Nat) (lists : List (Nat × List (Nat × Int))) : Dev :=
  let n := d.changeFrame (frameTlv ts)
  let runs := d.unitRuns
  let need := (lists.map fun l => unitsFor l.2.length).sum
  let refuse := fun (d : Dev) (e : Nat × Nat) => d.reply q op e.1 [statusDetail 0xFFFF 0xFF e.2]
  match lists.findSome? fun l => listFault (d.sounds n l.1) l.2 with
  | some e => refuse d e
  | none =>
    if d.holder 13 != 7 && lists.any fun l => (d.jobOf l.1).isNone then d.reply q op St.leased
    else if need > 131072 - unitsIn runs then refuse d (St.exhausted, 0x66)
    else
      let (start, d) := d.fresh
      match allot runs (start % 131072) (lists.map fun l => unitsFor l.2.length) with
      | none => refuse d (St.exhausted, 0x66)
      | some us =>
        let ws := (lists.zip us).flatMap fun p => listWrites p.1.1 p.2 ramp p.1.2
        let hw := d.heldWrites ws
        if !d.placeable (d.mixJobs (d.listLengths hw ((d.plannedAt n).over ws))) then refuse d (St.exhausted, 0x70)
        else (d.holdChange q op (frameTlv ts) ws).checkTable

/-- A channel number of 4 bytes. -/
def channelTlv : List Byte → Bool := num 4 (· < 65536)

/-- The optional RAMP: 0–65,535 samples. -/
def Par.ramp : Par := .opt 0x0102 (num 4 (· < 65536))

/-- A TAP value: source, zero, gain. -/
def tapOf (bs : List Byte) : Nat × Int := (beVal (bs.take 2), toSigned 32 (beVal (bs.drop 4)))

/-- MIX_SET (0x0301). -/
def mixSetSpec : Spec :=
  { op := 0x0301
    pars := [.req 0x0101 channelTlv, Par.frame, Par.ramp, .opt 0x0104 (num 4 (· == 1)),
      .reps 0x0103 fun v => v.length == 8 && beVal (slice 2 2 v) == 0]
    units := fun _ => [8, 9] }

def Dev.mixSet (d : Dev) (q : Req) : Dev := d.command q mixSetSpec fun d ts =>
  let k := tlvNum ts 0x0101
  let taps := (tlvAll ts 0x0103).map tapOf
  let old := if hasTlv ts 0x0104 then tapsOf (d.plannedAt (d.changeFrame (frameTlv ts))) k else []
  d.newLists q 0x0301 ts (tlvNum ts 0x0102 480) [(k, old ++ taps)]

/-- TAP_GAIN (0x0302). -/
def tapGainSpec : Spec :=
  { op := 0x0302
    pars := [.req 0x0101 channelTlv, .req 0x0105 channelTlv, .req 0x0106 any4, Par.ramp, .opt 0x0107 (num 4 (· == 1)), Par.frame]
    units := fun _ => [8, 9] }

def Dev.tapGain (d : Dev) (q : Req) : Dev := d.command q tapGainSpec fun d ts =>
  let k := tlvNum ts 0x0101
  let s := tlvNum ts 0x0105
  let g := toSigned 32 (tlvNum ts 0x0106)
  let old := tapsOf (d.plannedAt (d.changeFrame (frameTlv ts))) k
  let new :=
    if hasTlv ts 0x0107 then old.filter (·.1 != s)
    else if old.any (·.1 == s) then old.map fun t => if t.1 = s then (s, g) else t
    else old ++ [(s, g)]
  d.newLists q 0x0302 ts (tlvNum ts 0x0102 480) [(k, new)]

/-- ROUTE (0x0303): each destination's list becomes one tap at unity. -/
def routeSpec : Spec :=
  { op := 0x0303
    pars := [.req 0x0108 channelTlv, .req 0x0109 channelTlv, .req 0x010A (num 4 fun n => 1 ≤ n && n ≤ 1024), Par.ramp, Par.frame]
    units := fun _ => [8, 9] }

def Dev.routeAudio (d : Dev) (q : Req) : Dev := d.command q routeSpec fun d ts =>
  let s := tlvNum ts 0x0108
  let k := tlvNum ts 0x0109
  let n := tlvNum ts 0x010A
  if crossesRow s n then d.reply q 0x0303 St.badParam [statusDetail (tlvIndex ts 0x0108) 0xFF 0x60]
  else if crossesRow k n then d.reply q 0x0303 St.badParam [statusDetail (tlvIndex ts 0x0109) 0xFF 0x60]
  else d.newLists q 0x0303 ts (tlvNum ts 0x0102 480) ((List.range n).map fun i => (k + i, [(s + i, 0x10000000)]))

/-- MIX_GET (0x0304): the list in effect (R544). -/
def mixGetSpec : Spec := { op := 0x0304, pars := [.req 0x0101 channelTlv] }

def Dev.mixGet (d : Dev) (q : Req) : Dev := d.command q mixGetSpec fun d ts =>
  let k := tlvNum ts 0x0101
  d.reply q 0x0304 St.ok (⟨0x0102, w4 (d.get F.AMX_DEST_RAMP_RAMP_LEN k) ++ w4 (d.get F.AMX_DEST_RAMP_MUTE k)⟩ ::
    (tapsOf d.inEffect k).map fun t => data [w4 t.1, w4 (ofSigned 32 t.2)])

/-- DEST_MUTE (0x0305). -/
def destMuteSpec : Spec :=
  { op := 0x0305
    pars := [.req 0x0109 channelTlv, .req 0x010A (num 4 fun n => 1 ≤ n && n ≤ 1024), .req 0x010B (num 4 (· < 2)), Par.frame]
    units := fun _ => [8] }

def Dev.destMute (d : Dev) (q : Req) : Dev := d.command q destMuteSpec fun d ts =>
  let k := tlvNum ts 0x0109
  let n := tlvNum ts 0x010A
  let v := tlvNum ts 0x010B
  if crossesRow k n then d.reply q 0x0305 St.badParam [statusDetail (tlvIndex ts 0x0109) 0xFF 0x60]
  else
    if v == 0 && (List.range n).any fun i => d.overloads (d.changeFrame (frameTlv ts)) (k + i) then
      d.reply q 0x0305 St.badParam [statusDetail 0xFFFF 0xFF 0x61]
    else d.holdChange q 0x0305 (frameTlv ts) ((List.range n).map fun i => sw F.AMX_DEST_RAMP_MUTE (k + i) v)

/-- AMX_STATUS_GET (0x0306): free units, then for each channel COUNT, L in units of 2⁻¹⁶, the samples of its ramp that are left
and the overruns of its job (R415). -/
def amxStatusGetSpec : Spec := { op := 0x0306, pars := [.req 0x0109 channelTlv, .req 0x010A (num 4 fun n => 1 ≤ n && n ≤ 64)] }

def Dev.amxStatusOf (d : Dev) (k : Nat) : Tlv :=
  let left := ((d.amx.ramps.find? (·.dest == k)).map fun r => r.length - r.pos).getD 0
  let was := ((d.jobOf k).map fun j => d.count C.AMX_JOB_BLOCKS_OVERRUN j).getD 0
  data [w4 (d.get F.AMX_DEST_LIST_COUNT k), w4 (gainLoad (settledTaps d.inEffect k) / 4096), w4 left, w4 was]

def Dev.amxStatusGet (d : Dev) (q : Req) : Dev := d.command q amxStatusGetSpec fun d ts =>
  let k := tlvNum ts 0x0109
  let n := tlvNum ts 0x010A
  if k + n > 65536 then d.reply q 0x0306 St.badParam [statusDetail (tlvIndex ts 0x0109) 0xFF 0]
  else d.reply q 0x0306 St.ok (⟨0x0102, w4 d.freeUnits⟩ :: (List.range n).map fun i => d.amxStatusOf (k + i))

/-! ### Meters and loudness (R418–R422) -/

/-- The slots that measure, rising. -/
def Dev.meterSlots (d : Dev) : List Nat := d.insts F.AMX_METER_CFG_EN

/-- The slot that measures a channel. -/
def Dev.meterOf (d : Dev) (space ch : Nat) : Option Nat :=
  d.meterSlots.find? fun j => d.get F.AMX_METER_CFG_SPACE j == space && d.get F.AMX_METER_CFG_CHANNEL j == ch

/-- What a cornice meter asks for: space, channel, and whether it shows loudness (R260). -/
structure MeterUse where
  space : Nat
  chan : Nat
  loud : Bool
  deriving DecidableEq, Repr

/-- The enabled meters of a reading's cornices. -/
def Dev.corniceUses (d : Dev) (ws : List ShadowWrite) (v : View) : List MeterUse :=
  (d.touched ws F.MV_TILE_CORNICE_METERS).flatMap fun t =>
    (List.range (min 16 (v F.MV_TILE_CORNICE_METERS t))).map fun m =>
      ⟨v F.MV_TILE_METER_SPACE (16 * t + m), v F.MV_TILE_METER_CHANNEL (16 * t + m), v F.MV_TILE_METER_KIND (16 * t + m) == 2⟩

/-- The cornice meters in effect or planned. -/
def Dev.meterUses (d : Dev) : List MeterUse :=
  let hw := d.heldWrites []
  d.corniceUses hw d.inEffect ++ d.corniceUses hw (d.inShadow.over hw)

/-- A slot's results as of a slot that has measured nothing. -/
def Dev.clearMeter (d : Dev) (j : Nat) : Dev :=
  (((((((d.set F.AMX_METER_PEAK_TRUE_PEAK j 0x8000).set F.AMX_METER_PEAK_PEAK j 0x8000).set F.AMX_METER_LOUD_SHORT j 0x8000).set
    F.AMX_METER_LOUD_MOMENTARY j 0x8000).set F.AMX_METER_STAT_INTEGRATED j 0x8000).set F.AMX_METER_STAT_UPDATED j 0).set
    F.AMX_METER_CFG_PEAK_IDX j 0)

/-- A free slot; which one the firmware takes is open (log entry 30). -/
def Dev.freeMeter (d : Dev) (start : Nat) : Option Nat :=
  let used := d.meterSlots
  let s := start % 16384
  match ((List.range 16384).map fun i => (s + i) % 16384).find? fun j => !used.contains j with
  | some j => some j
  | none => none

/-- A slot for a channel: the one it has, or a new one. -/
def Dev.allotMeter (d : Dev) (space ch : Nat) : Option Nat × Dev :=
  match d.meterOf space ch with
  | some j => (some j, d)
  | none =>
    let (start, d) := d.fresh
    if d.meterSlots.length ≥ 16384 then (none, d.raise 738 [space, ch])
    else
      match d.freeMeter start with
      | none => (none, d.raise 738 [space, ch])
      | some j =>
        let d := (d.clearMeter j).set F.AMX_METER_CFG_EN j 1
        let d := (((d.set F.AMX_METER_CFG_SPACE j space).set F.AMX_METER_CFG_CHANNEL j ch).set F.AMX_METER_CFG_WEIGHT j 0).set
          F.AMX_METER_CFG_GROUP j 0
        (some j, (d.hset H.meterCmd j 0).hset H.meterCmdLoud j 0)

/-- A slot keeps measuring while a user names it, and measures loudness while a user asks for it (R418). -/
def Dev.trimMeters (d : Dev) : Dev :=
  let uses := d.meterUses
  d.each d.meterSlots fun d j =>
    let mine := uses.filter fun u => u.space == d.get F.AMX_METER_CFG_SPACE j && u.chan == d.get F.AMX_METER_CFG_CHANNEL j
    if mine.isEmpty && d.hget H.meterCmd j == 0 then
      (d.set F.AMX_METER_CFG_EN j 0).set F.AMX_METER_CFG_LOUD_EN j 0
    else d.set F.AMX_METER_CFG_LOUD_EN j (ofBool (d.hget H.meterCmdLoud j == 1 || mine.any (·.loud)))

/-- The firmware gives the cornice meters their slots and frees the slots that nothing uses; while AMX is leased it allocates
none (R423). -/
def Dev.reviewMeters (d : Dev) : Dev :=
  if !d.lathRuns || d.holder 8 != 7 then d
  else (d.each d.meterUses fun d u => (d.allotMeter u.space u.chan).2).trimMeters

/-- The members of a loudness group. -/
def Dev.groupMembers (d : Dev) (g : Nat) : List Nat := d.meterSlots.filter fun j => d.get F.AMX_METER_CFG_GROUP j == g

/-- METER_ENABLE (0x0310). -/
def meterEnableSpec : Spec :=
  { op := 0x0310
    pars := [.req 0x0110 (num 4 (· < 2)), .req 0x0111 channelTlv, .opt 0x0112 any4]
    units := fun _ => [8] }

def Dev.meterEnable (d : Dev) (q : Req) : Dev := d.command q meterEnableSpec fun d ts =>
  let opts := tlvNum ts 0x0112
  let g := bits opts 16 7
  let space := tlvNum ts 0x0110
  let ch := tlvNum ts 0x0111
  let others := (d.groupMembers g).filter fun j => d.meterOf space ch != some j
  if g != 0 && others.length ≥ 32 then d.reply q 0x0310 St.badParam [statusDetail (tlvIndex ts 0x0112) 0xFF 0x65]
  else
    match d.allotMeter space ch with
    | (none, d) => d.reply q 0x0310 St.exhausted [statusDetail 0xFFFF 0xFF 0x67]
    | (some j, d) =>
      let d := ((d.set F.AMX_METER_CFG_WEIGHT j (bits opts 28 1)).set F.AMX_METER_CFG_GROUP j g)
      let d := ((d.hset H.meterCmd j 1).hset H.meterCmdLoud j (bits opts 29 1)).trimMeters
      (d.mirrorReg (0x1E80000 + 16 * j)).reply q 0x0310 St.ok [data [w4 j]]

/-- METER_DISABLE (0x0311): while AMX is leased it completes with LEASED, as the firmware would write AMX_METER_CFG (R116). -/
def meterDisableSpec : Spec := 
  { op := 0x0311, pars := [.req 0x0110 (num 4 (· < 2)), .req 0x0111 channelTlv], units := fun _ => [8] }

def Dev.meterDisable (d : Dev) (q : Req) : Dev := d.command q meterDisableSpec fun d ts =>
  match d.meterOf (tlvNum ts 0x0110) (tlvNum ts 0x0111) with
  | none => d.reply q 0x0311 St.badParam [statusDetail (tlvIndex ts 0x0111) 0xFF 0]
  | some j =>
    let d := ((d.hset H.meterCmd j 0).hset H.meterCmdLoud j 0).trimMeters
    ((d.mirrorReg (0x1E80000 + 16 * j)).reviewMeters).reply q 0x0311 St.ok

/-- The words of a slot: CFG, PEAK, LOUD and STAT. -/
def Dev.meterWords (d : Dev) (j : Nat) : List (List Byte) :=
  [w4 (d.word [.fld F.AMX_METER_CFG_EN, .fld F.AMX_METER_CFG_SPACE, .fld F.AMX_METER_CFG_LOUD_EN, .fld F.AMX_METER_CFG_WEIGHT,
      .fld F.AMX_METER_CFG_PEAK_IDX, .fld F.AMX_METER_CFG_GROUP, .fld F.AMX_METER_CFG_CHANNEL] j),
    w4 (d.word [.fld F.AMX_METER_PEAK_TRUE_PEAK, .fld F.AMX_METER_PEAK_PEAK] j),
    w4 (d.word [.fld F.AMX_METER_LOUD_SHORT, .fld F.AMX_METER_LOUD_MOMENTARY] j),
    w4 (d.word [.fld F.AMX_METER_STAT_INTEGRATED, .fld F.AMX_METER_STAT_UPDATED] j)]

/-- METER_GET (0x0312): slots, or one group. -/
def meterGetSpec : Spec :=
  { op := 0x0312
    pars := [.opt 0x0113 (num 4 (· < 16384)), .opt 0x010A (num 4 fun n => 1 ≤ n && n ≤ 64), .opt 0x0114 (num 4 fun g => 1 ≤ g && g ≤ 127)] }

def Dev.meterGet (d : Dev) (q : Req) : Dev := d.command q meterGetSpec fun d ts =>
  let g := tlvNum ts 0x0114
  if hasTlv ts 0x0114 && !hasTlv ts 0x0113 && !hasTlv ts 0x010A then
    d.reply q 0x0312 St.ok [data [w4 (d.word [.fld F.AMX_LGROUP_LOUD_SHORT, .fld F.AMX_LGROUP_LOUD_MOMENTARY] g),
      w4 (d.word [.fld F.AMX_LGROUP_INT_INTEGRATED] g + (d.groupMembers g).length)]]
  else if hasTlv ts 0x0113 && hasTlv ts 0x010A && !hasTlv ts 0x0114 && tlvNum ts 0x0113 + tlvNum ts 0x010A ≤ 16384 then
    d.reply q 0x0312 St.ok ((List.range (tlvNum ts 0x010A)).map fun i => data (d.meterWords (tlvNum ts 0x0113 + i)))
  else d.reply q 0x0312 St.badParam [statusDetail (if ts.isEmpty then 0xFFFF else 0) 0xFF 0]

/-- INTEGRATED of a slot, or of a group, starts again, which is raised (R420). -/
def Dev.resetLoudness (d : Dev) (group : Bool) (i : Nat) : Dev :=
  (if group then d.set F.AMX_LGROUP_INT_INTEGRATED i 0x8000 else d.set F.AMX_METER_STAT_INTEGRATED i 0x8000).raise 739 [ofBool group, i]

/-- LOUDNESS_RESET (0x0313). -/
def loudnessResetSpec : Spec :=
  { op := 0x0313
    pars := [.opt 0x0113 (num 4 (· < 16384)), .opt 0x0114 (num 4 fun g => 1 ≤ g && g ≤ 127)]
    units := fun _ => [8] }

def Dev.loudnessReset (d : Dev) (q : Req) : Dev := d.command q loudnessResetSpec fun d ts =>
  if hasTlv ts 0x0113 == hasTlv ts 0x0114 then d.reply q 0x0313 St.badParam [statusDetail (if ts.isEmpty then 0xFFFF else 1) 0xFF 0]
  else if hasTlv ts 0x0113 then (d.resetLoudness false (tlvNum ts 0x0113)).reply q 0x0313 St.ok
  else (d.resetLoudness true (tlvNum ts 0x0114)).reply q 0x0313 St.ok

/-- A write of AMX_LOUD_RESET; GO resets (R420).  A group index outside 1–127 names none. -/
def Dev.writeLoudReset (d : Dev) (w : Nat) : Dev :=
  let d := (d.set F.AMX_LOUD_RESET_GROUP 0 (bits w 30 1)).set F.AMX_LOUD_RESET_INDEX 0 (bits w 0 14)
  let i := bits w 0 14
  if !bit w 31 then d
  else if bit w 30 then (if 1 ≤ i ∧ i ≤ 127 then d.resetLoudness true i else d)
  else d.resetLoudness false i

def execMixSet (q : Req) (s : State) : Host.Outcome State Fault Refusal := lift (·.mixSet q) s
def execTapGain (q : Req) (s : State) : Host.Outcome State Fault Refusal := lift (·.tapGain q) s
def execRoute (q : Req) (s : State) : Host.Outcome State Fault Refusal := lift (·.routeAudio q) s
def execMixGet (q : Req) (s : State) : Host.Outcome State Fault Refusal := lift (·.mixGet q) s
def execDestMute (q : Req) (s : State) : Host.Outcome State Fault Refusal := lift (·.destMute q) s
def execAmxStatusGet (q : Req) (s : State) : Host.Outcome State Fault Refusal := lift (·.amxStatusGet q) s
def execMeterEnable (q : Req) (s : State) : Host.Outcome State Fault Refusal := lift (·.meterEnable q) s
def execMeterDisable (q : Req) (s : State) : Host.Outcome State Fault Refusal := lift (·.meterDisable q) s
def execMeterGet (q : Req) (s : State) : Host.Outcome State Fault Refusal := lift (·.meterGet q) s
def execLoudnessReset (q : Req) (s : State) : Host.Outcome State Fault Refusal := lift (·.loudnessReset q) s
def execLoudResetWrite (m : Fin 8) (v : Word) (s : State) : Host.Outcome State Fault Refusal :=
  lift (fun d => d.busWrite m 0x01EE0000 v.toNat fun d => d.writeLoudReset v.toNat) s

end Sys2Proof.Machine
end

