-- ==== Sys2Proof/Machine/Rtp.lean ====
section
/-! DEFINITION. The payloads of media packets (R300, R304, R308, R310, R311, R313): sample rows, ANC packets and audio samples, as packets
carry them and as lines and channels do. -/

namespace Sys2Proof.Machine

/-! ### Sample rows (R304, R308, R313) -/

/-- The picture that a video context's packets carry: samples of a row, rows of a frame or field, and bytes of a pgroup of two samples. -/
structure RtpRaster where
  width : Nat
  rows : Nat
  pgroup : Nat
  deriving DecidableEq, Repr

/-- The rasters of R300. -/
def rtpRaster (fmt : Nat) : RtpRaster :=
  match fmt with
  | 0x10 => ⟨1280, 720, 5⟩
  | 0x11 => ⟨1920, 540, 5⟩
  | 0x12 | 0x20 | 0x21 => ⟨1920, 1080, 5⟩
  | 0x22 => ⟨1920, 1080, 9⟩
  | 0x30 | 0x40 => ⟨3840, 2160, 5⟩
  | _ => ⟨0, 0, 5⟩

/-- Bytes of a row. -/
def RtpRaster.rowBytes (g : RtpRaster) : Nat := g.width / 2 * g.pgroup

end Sys2Proof.Machine

namespace Sys2Proof

open Machine

/-- A segment lies within the raster and holds a whole number of pgroups (R304). -/
def Srd.good (fmt : Nat) (x : Srd) : Bool :=
  let g := rtpRaster fmt
  (!x.second || fmt == 0x11) && x.row < g.rows && x.offset % 2 == 0 && x.data.length % g.pgroup == 0 &&
    x.offset / 2 * g.pgroup + x.data.length ≤ g.rowBytes

end Sys2Proof

namespace Sys2Proof.Machine

/-- A part of a row laid over it. -/
def overlay (row : List Byte) (at_ : Nat) (bs : List Byte) : List Byte := row.take at_ ++ bs ++ row.drop (at_ + bs.length)

/-- The bytes of a row from the segments that carry it. -/
def rowOf (fmt : Nat) (second : Bool) (y : Nat) (xs : List Srd) : List Byte :=
  let g := rtpRaster fmt
  (xs.filter fun x => x.row == y && x.second == second).foldl (fun r x => overlay r (x.offset / 2 * g.pgroup) x.data)
    (List.replicate g.rowBytes 0)

/-- Words of a row and its pgroups; how 4:4:4 12-bit samples lie in words is ST 425-1's (log entry 338). -/
def wordsOfRow (fmt : Nat) (bs : List Byte) : List Nat := if fmt = 0x22 then Config.words444 bs else unpackWords bs
def rowOfWords (fmt : Nat) (ws : List Nat) : List Byte := if fmt = 0x22 then Config.bytes444 ws else packAll ws

/-- Line `n` in the active picture: whether it lies in the second field, and its place in the frame or field. -/
def activeIndex (fmt n : Nat) : Option (Bool × Nat) :=
  ((activeFields fmt).zipIdx.find? fun f => f.1.1 ≤ n && n ≤ f.1.2).map fun f => (f.2 == 1, n - f.1.1)

/-- Every second group of four words of a row, the first of them taken or skipped. -/
def halfRow (p : Nat) (ws : List Nat) : List Nat := (ws.zipIdx.filter fun w => w.2 / 4 % 2 == p).map Prod.fst

/-- The words of row `k` of member `m` of a gang of `z`, from the rows of the picture: what `wholePicture` puts together. -/
def memberRow (z m : Nat) (rows : Nat → List Nat) (k : Nat) : List Nat :=
  match z with
  | 2 => rows (2 * k + m)
  | 4 => halfRow (m % 2) (rows (2 * k + m / 2))
  | _ => rows k

/-- The active words of line `n` of member `m`, from the segments that carry it (R308). -/
def activeFrom (fmt z m n : Nat) (xs : List Srd) : List Nat :=
  match activeIndex fmt n with
  | none => []
  | some (f, k) => memberRow z m (fun y => wordsOfRow fmt (rowOf fmt f y xs)) k

/-- Segments of bytes `lo` to `hi` of a frame or field whose row `y` has the bytes `row y` (R313). -/
def srdsOf (g : RtpRaster) (second : Bool) (row : Nat → List Byte) (lo hi : Nat) : List Srd :=
  let b := g.rowBytes
  if hi ≤ lo ∨ b = 0 then []
  else (List.range ((hi - 1) / b + 1 - lo / b)).map fun j =>
    let y := lo / b + j
    let a := max lo (y * b) - y * b
    ⟨second, y, a / g.pgroup * 2, slice a (min hi ((y + 1) * b) - y * b - a) (row y)⟩

/-! ### ANC packets (R310, R313) -/

/-- The bytes that an ANC packet takes: 32 bits of header, its words from the DID on, and padding to 32 bits (PRESUMED, RFC 8331: log
entry 338). -/
def ancBytes (p : AncPacket) : Nat := (32 + 10 * (p.words.length - 3) + 31) / 32 * 4

/-- Packets of at most 1,200 bytes (R313), of which the first is there though it be empty. -/
def ancChunks : List (Nat × AncPacket) → List (List (Nat × AncPacket))
  | [] => [[]]
  | p :: ps =>
    match ancChunks ps with
    | c :: cs =>
      if c = [] ∨ ancBytes p.2 + (c.map fun x => ancBytes x.2).sum ≤ 1200 then (p :: c) :: cs else [p] :: c :: cs
    | [] => [[p]]

/-- The ANC packets that find room on their lines, after those placed before, and how many do not or name no line of the raster (R310). -/
def placeAnc (fmt rate : Nat) (before : List (Nat × AncPacket)) : List (Nat × AncPacket) → List (Nat × AncPacket) × Nat
  | [] => ([], 0)
  | p :: ps =>
    let (h, v) := blankingSpace fmt rate p.1 0
    let mine := ((before.filter fun x => x.1 == p.1).map Prod.snd) ++ [p.2]
    if 1 ≤ p.1 ∧ p.1 ≤ frameLines fmt ∧ (ancPlace h v ⟨[], [], [], []⟩ mine).2 = mine.length then
      let r := placeAnc fmt rate (before ++ [p]) ps
      (p :: r.1, r.2)
    else
      let r := placeAnc fmt rate before ps
      (r.1, r.2 + 1)

/-! ### Audio (R300, R311, R406) -/

/-- Bytes of a sample: L24, L16, or a subframe of ST 2110-31. -/
def sampleBytes (essence sampling : Nat) : Nat := if essence = 2 then 4 else if sampling = 0 then 3 else 2

/-- The samples of each channel in a packet of the packet time: 48 or 6 (R300). -/
def samplesPer (ptime : Nat) : Nat := if ptime = 0 then 48 else 6

/-- Sample `i` of channel `c` in a packet of `n` channels: its Q1.31 value (R406), and its V, U and C bits (PRESUMED, ST 2110-31: log
entry 338). -/
def sampleIn (essence sampling n i c : Nat) (bs : List Byte) : Int × Nat :=
  let b := sampleBytes essence sampling
  let x := slice ((i * n + c) * b) b bs
  let v := beVal x
  if b = 4 then (toSigned 24 (v % 2 ^ 24) * 256, bits v 24 1 + 2 * bits v 25 1 + 4 * bits v 26 1)
  else (toSigned (8 * b) v * 2 ^ (32 - 8 * b), 0)

/-- A leaving sample's bytes (R406); a subframe carries B, F and P beside V, U and C (log entry 338). -/
def sampleOut (essence sampling count c : Nat) (x : Int) (flags : Nat) : List Byte :=
  let b := sampleBytes essence sampling
  if b = 4 then
    let v := ofSigned 24 (leaving24 x)
    let ones := ((List.range 24).map fun k => v / 2 ^ k % 2).sum + ((List.range 3).map fun k => flags / 2 ^ k % 2).sum
    beBytes 4 (v + 2 ^ 24 * (flags % 8) + 2 ^ 27 * (ones % 2) + 2 ^ 28 * ofBool (c % 2 == 0) +
      2 ^ 29 * ofBool (c % 2 == 0 && count % 192 == 0))
  else beBytes b (ofSigned (8 * b) (saturate (8 * b) (divEven x (2 ^ (32 - 8 * b)))))

end Sys2Proof.Machine

namespace Sys2Proof.Machine

/-! ### What a receive context stores (R306, R308) -/

/-- The bases of the slots that a video context feeds. -/
def Dev.fedSlots (d : Dev) (r : Nat) : List Nat :=
  (d.insts F.ING_SLOT_STATUS_STATE).filter fun s => d.get F.ING_SLOT_STATUS_STATE s != 0 && d.get F.ING_SLOT_CFG_FEED_KIND s == 2 &&
    d.get F.ING_SLOT_CFG_FEED_INDEX s == r && d.slotBase s == s

/-- The base slots whose Mere ring the context's packets fill (R308). -/
def Dev.ringSlots (d : Dev) (r : Nat) : List Nat := (d.fedSlots r).filter d.ipStored

/-- The video context whose playout is that of the context: itself, or for an ANC context the one that it is linked to (R310). -/
def Dev.videoOf (d : Dev) (r : Nat) : Nat := if d.get F.IPM_RX_CFG_ESSENCE r == 3 then d.get F.IPM_RX_LINK_LINK r else r

/-- The stored packets whose playout has not ended: those of a Mere ring stay until readout selects a later frame than theirs. -/
def Dev.storedPackets (d : Dev) (r : Nat) : List RxPacket :=
  match (d.ringSlots (d.videoOf r)).head?.map d.ring with
  | none => (d.rx r).stored
  | some ring =>
    let from_ := ((ring.frames.find? fun f => some f.k == ring.last).map RingFrame.stamp).getD 0
    (d.rx r).stored.filter fun p => from_ ≤ p.stamp

/-- Rows that segments carry, by field. -/
def rowsOf (xs : List Srd) : List (Bool × Nat) := (xs.map fun x => (x.second, x.row)).eraseDups

/-- A packet's content can be stored without overwriting content whose playout has not ended (R306): in DEPTH frames of a Mere ring, in 16
rows of a skim-path ring, or in the blocks of R312. -/
def Dev.hasRoom (d : Dev) (r stamp : Nat) (x : RtpIn) : Bool :=
  let e := d.get F.IPM_RX_CFG_ESSENCE r
  let old := d.storedPackets r
  if e = 0 then
    match (d.fedSlots r).head? with
    | none => true
    | some s =>
      if d.ipStored s then
        let stamps := (stamp :: old.map RxPacket.stamp).eraseDups
        stamps.length ≤ d.get F.MERE_SLOT_CFG_DEPTH s || (old.any fun p => p.stamp == stamp)
      else (rowsOf (x.body.srds ++ old.flatMap fun p => p.body.srds)).length ≤ 16
  else
    let size := fun (b : RtpBody) => b.audio.length + (b.anc.map fun a => ancBytes a.2).sum
    size x.body + (old.map fun p => size p.body).sum ≤ 256 * d.storeNeed [] d.inEffect r

/-- The payload has the structure of R304. -/
def Dev.structureOk (d : Dev) (r : Nat) (x : RtpIn) : Bool :=
  match d.get F.IPM_RX_CFG_ESSENCE r with
  | 0 => 1 ≤ x.body.srds.length && x.body.srds.length ≤ 3 && x.body.srds.all (Srd.good (d.get F.IPM_RX_CFG_FORMAT r))
  | 3 => true
  | e => x.body.audio.length == samplesPer (d.get F.IPM_RX_CFG_PTIME r) * d.get F.IPM_RX_AUD_CHANNELS r *
      sampleBytes e (d.get F.IPM_RX_CFG_SAMPLING r)

/-! ### Channels of received audio (R311) -/

/-- The timestamp count, not wrapped, of the sample that enters in sample period `j` of a context: n with T(n) + PLAYOUT_US in it. -/
def Dev.countDue (d : Dev) (r j : Nat) : Nat := j - d.get F.IPM_RX_TIMING_PLAYOUT_US r * 48 / 1000

/-- The sample and its flags that channel `c` of an audio context has in sample period `j`; zeros where no packet gives it. -/
def Dev.rxSample (d : Dev) (r c j : Nat) : Int × Nat :=
  let n := samplesPer (d.get F.IPM_RX_CFG_PTIME r)
  let at_ := fun (p : RxPacket) => (d.countDue r j + 2 ^ 32 - p.stamp) % 2 ^ 32
  match (d.rx r).stored.find? fun p => at_ p < n with
  | some p => sampleIn (d.get F.IPM_RX_CFG_ESSENCE r) (d.get F.IPM_RX_CFG_SAMPLING r) (d.get F.IPM_RX_AUD_CHANNELS r) (at_ p) c p.body.audio
  | none => (0, 0)

/-- The enabled audio and AES3 contexts that are RECEIVING. -/
def Dev.audioContexts (d : Dev) : List Nat := (d.insts F.IPM_RX_CFG_EN).filter fun r =>
  d.get F.IPM_RX_CFG_EN r == 1 && (d.get F.IPM_RX_CFG_ESSENCE r == 1 || d.get F.IPM_RX_CFG_ESSENCE r == 2) &&
    d.get F.IPM_RX_STATUS_STATE r == 2

/-- The channels of received audio in block `b` of 16 sample periods, with their flags (R311, R406). -/
def Dev.rxChannels (d : Dev) (b : Nat) : List (ChannelBlock × ChannelBlock) :=
  d.audioContexts.flatMap fun r => (List.range (d.get F.IPM_RX_AUD_CHANNELS r)).map fun c =>
    let xs := (List.range 16).map fun i => d.rxSample r c (16 * b + i)
    let k := d.get F.IPM_RX_AUD_CHAN_BASE r + c
    (⟨k, xs.map Prod.fst⟩, ⟨k, xs.map fun y => (y.2 : Int)⟩)

/-- Packets whose last sample has entered by the end of block `b` leave the ring. -/
def Dev.dropPlayed (d : Dev) (b : Nat) : Dev := d.each d.audioContexts fun d r =>
  let n := samplesPer (d.get F.IPM_RX_CFG_PTIME r)
  let c := d.rx r
  let ahead := fun (p : RxPacket) => toSigned 32 ((p.stamp + n + 2 ^ 32 - d.countDue r (16 * b + 16) % 2 ^ 32) % 2 ^ 32)
  d.setRx { c with stored := c.stored.filter fun p => 0 < ahead p }

/-! ### Transmitted content (R313) -/

/-- The rows of the picture of destination `i` as staged, as bytes; a row of which no line is staged is black. -/
def Dev.stagedRow (d : Dev) (i : Nat) : Nat → List Byte :=
  let fmt := d.get F.XPT_DEST_STATUS_FORMAT i
  let member := fun m => pictureRows fmt ((d.xpt.staged.filter fun x => x.dest == i + m).map fun x => (x.number, x.words.active))
  let rows := wholePicture (gangSize (d.get F.XPT_DEST_CFG_GANG i)) member
  fun y =>
    let ws := rows.getD y []
    rowOfWords fmt (if ws = [] then (List.range (rtpRaster fmt).width).flatMap fun _ => [0x200, 0x040] else ws)

/-- The ANC packets of a frame or field of destination `i` other than those of ST 299, with their lines. -/
def Dev.stagedAnc (d : Dev) (i : Nat) (second : Bool) : List (Nat × AncPacket) :=
  let fmt := d.get F.XPT_DEST_STATUS_FORMAT i
  let lines := sortBy (fun a b => a.number ≤ b.number) (d.xpt.staged.filter fun x => i ≤ x.dest &&
    x.dest < i + gangSize (d.get F.XPT_DEST_CFG_GANG i) && (!interlaced fmt || secondField fmt x.number == second))
  lines.flatMap fun x => (x.words.anc.filter fun p => p.group == 0).map fun p => (x.number, p)

/-- The sample that leaves destination channel `k` in sample period `x`, and its flags (R314). -/
def Dev.leaving (d : Dev) (k x : Nat) : Int × Nat :=
  let b := d.tick.nextBlock - 1
  let p := if x / 16 = b then Played.mk d.amx.playing d.amx.playFlags else d.amx.past.getD (b - 1 - x / 16) ⟨[], []⟩
  (sampleAt p.blocks k (x % 16), (sampleAt p.flags k (x % 16)).toNat)

end Sys2Proof.Machine
end

