-- ==== Sys2Proof/Machine/Compose.lean ====
section
/-! DEFINITION. What a multiviewer head composes (R247, R249, R253–R262): screed, tiles, cornice and top cornice, pixel by pixel, and the CRC of a
guarded region.  A colour is a word in the layout of MV_SCREED. -/

namespace Sys2Proof.Machine

/-- A point lies in a rectangle. -/
def inside (x y : Nat) (r : Nat × Nat × Nat × Nat) : Bool := r.1 ≤ x && x < r.1 + r.2.2.1 && r.2.1 ≤ y && y < r.2.1 + r.2.2.2

/-- A point of a tile lies within `k` pixels of its edge. -/
def onEdge (t : TileSnap) (k x y : Nat) : Bool := x < k || y < k || t.w ≤ x + k || t.h ≤ y + k

/-- Black. -/
def blackColour : Nat := 512 * 2 ^ 20 + 512 * 2 ^ 10 + 64

/-- Hatch (R262): diagonal stripes at 45°, 4 pixels wide, black and 75 % yellow in turn. -/
def hatchColour (x y : Nat) : Nat := if (x + y) / 4 % 2 = 0 then blackColour else Config.yellow75

/-- The picture layer of a tile at its own point (`x`, `y`): its scaled and converted proxy, hatch, or the screed below (R253–R257, R266). -/
def TileSnap.pictureAt (t : TileSnap) (screed x y : Nat) : Nat :=
  match t.shows with
  | .screed => screed
  | .hatched => hatchColour (t.x + x) (t.y + y)
  | .drawn | .held => Config.scaled t.preset t.picture t.width t.height t.w t.h x y

/-- The first `n` meters' drawing at a point; METERS bars side by side (R260). -/
def meterAt (t : TileSnap) (x y : Nat) : Option Nat :=
  t.meters.zipIdx.findSome? fun m => Config.drawnMeter m.1.kind m.1.value m.1.stale m.2 t.w t.h x y

/-- The cornice of a tile at its own point (R258–R260): label, timecode and meters, then the border. -/
def TileSnap.corniceAt (t : TileSnap) (palette : List Nat) (x y : Nat) : Option Nat :=
  let text := (t.label.bind fun l => Config.drawnText (l.takeWhile (· != 0)) 0 t.w t.h x y).orElse fun _ =>
    t.time.bind fun v => Config.drawnText (beBytes 4 v) 1 t.w t.h x y
  (text.orElse fun _ => meterAt t x y).orElse fun _ => if onEdge t t.borderW x y then some (palette.getD t.border 0) else none

/-- The top cornice of a tile at its own point (R261): a word for each alarm, and a 4-pixel red frame while there is one. -/
def TileSnap.alarmAt (t : TileSnap) (x y : Nat) : Option Nat :=
  if t.alarms = 0 then none
  else ((List.range 6).findSome? fun k => if bit t.alarms k then Config.drawnAlarm k t.w t.h x y else none).orElse fun _ =>
    if onEdge t 4 x y then some Config.alarmRed else none

/-- The tiles at a point, the one on top first: by PRIORITY, then by index (R249). -/
def HeadSnap.tilesAt (s : HeadSnap) (x y : Nat) : List TileSnap :=
  sortBy (fun a b => a.priority > b.priority || (a.priority == b.priority && a.tile ≥ b.tile))
    (s.tiles.filter fun t => inside x y (t.x, t.y, t.w, t.h))

/-- The layers of a picture at a point, the top one first (R258, R261). -/
def HeadSnap.layers (s : HeadSnap) (x y : Nat) : Nat :=
  let ts := s.tilesAt x y
  let top := ts.findSome? fun t => t.alarmAt (x - t.x) (y - t.y)
  let cornice := ts.findSome? fun t => t.corniceAt s.palette (x - t.x) (y - t.y)
  ((top.orElse fun _ => cornice).orElse fun _ => ts.head?.map fun t => t.pictureAt s.screed (x - t.x) (y - t.y)).getD s.screed

/-- The picture at a point: a region that fails its comparison is hatched (R262). -/
def HeadSnap.pixel (s : HeadSnap) (x y : Nat) : Nat := if s.hatched.any (inside x y) then hatchColour x y else s.layers x y

/-- The words of pixels `x` to `x + n` of a row of colours: luma, and the chroma of its place (Cb at even pixels, Cr at odd ones). -/
def colourWords (at_ : Nat → Nat) (x n : Nat) : List Nat :=
  (List.range n).flatMap fun k =>
    let c := at_ (x + k)
    [if (x + k) % 2 = 0 then bits c 10 10 else bits c 20 10, bits c 0 10]

/-- The width of a head's raster. -/
def headWidth (fmt : Nat) : Nat := if fmt = 0x10 then 1280 else 1920

/-- Line `n` of a composition (R247): it carries no ANC. -/
def HeadSnap.line (s : HeadSnap) (n : Nat) : LineWords :=
  ⟨[], match activeIndex s.fmt n with
    | some (_, y) => colourWords (s.pixel · y) 0 (headWidth s.fmt)
    | none => []⟩

/-- The CRC of a guarded region, over its words in raster order, before any hatch (R262). -/
def HeadSnap.regionCrc (s : HeadSnap) (r : Nat × Nat × Nat × Nat) : Nat :=
  crc32 (wordBytes ((List.range r.2.2.2).flatMap fun y => colourWords (s.layers · (r.2.1 + y)) r.1 r.2.2.1))

/-- A head that has composed nothing. -/
def HeadSnap.none_ : HeadSnap := ⟨0, 0, 0, [], [], []⟩

/-- A head's buffers. -/
def Dev.headStore (d : Dev) (h : Nat) : HeadStore :=
  (d.mv.find? fun s => s.head == h).getD ⟨h, HeadSnap.none_, HeadSnap.none_, HeadSnap.none_⟩

/-- What a buffer of a head holds. -/
def Dev.headBuffer (d : Dev) (h b : Nat) : HeadSnap := if b = 0 then (d.headStore h).buffer0 else (d.headStore h).buffer1

/-- A head's buffers put into their place. -/
def Dev.setHeadStore (d : Dev) (s : HeadStore) : Dev := { d with mv := s :: d.mv.filter fun t => t.head != s.head }

end Sys2Proof.Machine
end

