-- ==== Sys2Proof/Machine/Mv.lean ====
section
/-! DEFINITION. Multiviewer heads (R246–R266): tile geometry, proxies and charges, the head's snapshot, lateness, cornice and
guards, scalers, and the head commands.  Tile `t` of head `h` is number 64 h + t, and so is guarded region `t`. -/

namespace Sys2Proof.Machine

/-! ### Geometry, proxies, charges (R249–R252) -/

/-- The raster of a head's format. -/
def headRaster (fmt : Nat) : Nat × Nat := if fmt = 0x10 then (1280, 720) else (1920, 1080)

/-- The raster of a source, from its FORMAT, or from its gang size where it reads 0 (R251). -/
def sourceRaster (fmt gang : Nat) : Nat × Nat :=
  if fmt = 0x01 then (720, 486)
  else if fmt = 0x02 then (720, 576)
  else if fmt = 0x10 then (1280, 720)
  else if fmt = 0x11 ∨ fmt = 0x12 ∨ (0x20 ≤ fmt ∧ fmt ≤ 0x22) then (1920, 1080)
  else if fmt = 0x30 ∨ fmt = 0x40 then (3840, 2160)
  else if fmt = 0x50 then (7680, 4320)
  else if gang = 16 then (7680, 4320)
  else if gang = 2 ∨ gang = 4 then (3840, 2160)
  else (1920, 1080)

/-- The size of a proxy: 1 half-size, 2 quarter-size. -/
def proxySize (raster : Nat × Nat) (p : Nat) : Nat × Nat :=
  if p = 1 then (raster.1 / 2, raster.2 / 2) else (raster.1 / 4, raster.2 / 4)

/-- Scaler shares and read units of a proxy of that width; none where it is not permitted (R251). -/
def proxyCharge (width : Nat) : Option (Nat × Nat) :=
  if width ≤ 480 then some (1, 1)
  else if width ≤ 960 then some (1, 3)
  else if width ≤ 2048 then some (4, 12)
  else none

/-- A tile's configuration. -/
structure TileCfg where
  en : Bool
  x : Nat
  y : Nat
  w : Nat
  h : Nat
  sel : Nat
  source : Nat
  deriving DecidableEq, Repr

/-- The configuration of tile `i` in a reading. -/
def tileCfg (v : View) (i : Nat) : TileCfg :=
  ⟨v F.MV_TILE_SRC_EN i == 1, v F.MV_TILE_POS_X i, v F.MV_TILE_POS_Y i, v F.MV_TILE_SIZE_W i, v F.MV_TILE_SIZE_H i,
    v F.MV_TILE_SRC_PROXY_SEL i, v F.MV_TILE_SRC_SOURCE i⟩

/-- The raster of the source that a tile names. -/
def Dev.tileRaster (d : Dev) (v : View) (s : Nat) : Nat × Nat :=
  sourceRaster (d.get F.ING_SLOT_STATUS_FORMAT s) (sourceGang v (gangBase v F.ING_SLOT_CFG_GANG s))

/-- The proxy that the tile's PROXY_SEL names (R251). -/
def TileCfg.proxy (t : TileCfg) (raster : Nat × Nat) : Nat :=
  let q := proxySize raster 2
  if t.sel = 1 then 1
  else if t.sel = 2 then 2
  else if t.w ≤ q.1 ∧ t.h ≤ q.2 ∧ (proxyCharge q.1).isSome then 2
  else 1

/-- Check 1 of R252: R249. -/
def TileCfg.placed (t : TileCfg) (raster : Nat × Nat) : Bool :=
  t.x % 2 == 0 && t.y % 2 == 0 && t.w % 2 == 0 && t.h % 2 == 0 && 16 ≤ t.w && 16 ≤ t.h &&
    t.x + t.w ≤ raster.1 && t.y + t.h ≤ raster.2

/-- Check 4 of R252: each scale lies in 1/8–1. -/
def TileCfg.scales (t : TileCfg) (p : Nat × Nat) : Bool :=
  t.w ≤ p.1 && p.1 ≤ 8 * t.w && t.h ≤ p.2 && p.2 ≤ 8 * t.h

/-- Two rectangles intersect. -/
def meets (x1 y1 w1 h1 x2 y2 w2 h2 : Nat) : Bool := x1 < x2 + w2 && x2 < x1 + w1 && y1 < y2 + h2 && y2 < y1 + h1

/-- The tile lies on a guarded region of its head that is enabled (R263). -/
def Dev.onGuard (d : Dev) (ws : List ShadowWrite) (v : View) (i : Nat) : Bool :=
  let t := tileCfg v i
  t.en && (d.touched ws F.MV_GUARD_CTRL_EN).any fun g => g / 64 == i / 64 && v F.MV_GUARD_CTRL_EN g == 1 &&
    meets t.x t.y t.w t.h (v F.MV_GUARD_POS_X g) (v F.MV_GUARD_POS_Y g) (v F.MV_GUARD_SIZE_W g) (v F.MV_GUARD_SIZE_H g)

/-- A guarded region lies on an enabled tile of its head. -/
def Dev.onTile (d : Dev) (ws : List ShadowWrite) (v : View) (g : Nat) : Bool :=
  v F.MV_GUARD_CTRL_EN g == 1 && (d.touched ws F.MV_TILE_SRC_EN).any fun i => i / 64 == g / 64 && (tileCfg v i).en &&
    meets (tileCfg v i).x (tileCfg v i).y (tileCfg v i).w (tileCfg v i).h
      (v F.MV_GUARD_POS_X g) (v F.MV_GUARD_POS_Y g) (v F.MV_GUARD_SIZE_W g) (v F.MV_GUARD_SIZE_H g)

/-- The shares and read units admitted for a tile: those of its last check, else those in effect. -/
def Dev.tileCharge (d : Dev) (i : Nat) : Nat × Nat :=
  let p := d.hget H.tilePlan i
  if p = 0 then (d.get F.MV_TILE_STATUS_SHARES i, d.get F.MV_TILE_STATUS_READ_UNITS i) else ((p - 1) / 16, (p - 1) % 16)

/-- The enabled tiles of a head in a reading. -/
def Dev.headTiles (d : Dev) (ws : List ShadowWrite) (v : View) (h : Nat) : List Nat :=
  (d.touched ws F.MV_TILE_SRC_EN).filter fun i => i / 64 == h && v F.MV_TILE_SRC_EN i == 1

/-- The scalers that a list of shares holds (R253). -/
def scalersFor (shares : List Nat) : Nat := (shares.filter (· == 4)).length + ((shares.filter (· == 1)).length + 3) / 4

/-- The scalers that the pool can provide: 256 logical ones, on the physical ones that are not retired; one
under test counts as free (R498). -/
def Dev.scalerPool (d : Dev) : Nat := min 256 (264 - d.get F.MV_SCALER_POOL_RETIRED)

/-- The checks of R252 on tile `i` of a planned configuration: a status and a reason, or the charges admitted. -/
def Dev.checkTile (d : Dev) (ws : List ShadowWrite) (v : View) (i : Nat) : Except (Nat × Nat) (Nat × Nat) :=
  let t := tileCfg v i
  let h := i / 64
  let raster := d.tileRaster v t.source
  let p := proxySize raster (t.proxy raster)
  if !t.placed (headRaster (v F.MV_HEAD_CFG_FORMAT h)) then .error (St.badParam, 0x15)
  else if t.source ≥ 1536 then .error (St.badParam, 0x13)
  else
    match proxyCharge p.1 with
    | none => .error (St.linebuf, 0)
    | some c =>
      let others := fun k => (d.headTiles ws v k).filter (· != i)
      let units := ((others h).map fun j => (d.tileCharge j).2).sum + c.2
      let shares := fun k => (others k).map (fun j => (d.tileCharge j).1) ++ if k = h then [c.1] else []
      if !t.scales p then .error (St.badParam, 0x11)
      else if units > 208 then .error (St.bandwidth, 0x10)
      else if ((List.range 16).map fun k => scalersFor (shares k)).sum > d.scalerPool then .error (St.exhausted, 0x12)
      else .ok c

/-! ### What a commit of group MV changes -/

/-- The tiles that are enabled. -/
def Dev.tilesOn (d : Dev) : List Nat := (d.insts F.MV_TILE_SRC_EN).filter fun i => d.get F.MV_TILE_SRC_EN i == 1

/-- The charges of a tile whose configuration took effect: those its check admitted; a tile written under a lease passed no
check, and takes those of the proxy it names (log entry 32). -/
def Dev.chargeTile (d : Dev) (i : Nat) : Dev :=
  let t := tileCfg d.inEffect i
  let raster := d.tileRaster d.inEffect t.source
  let c := if d.hget H.tilePlan i = 0 then (proxyCharge (proxySize raster (t.proxy raster)).1).getD (0, 0) else d.tileCharge i
  let c := if t.en then c else (0, 0)
  ((d.set F.MV_TILE_STATUS_SHARES i c.1).set F.MV_TILE_STATUS_READ_UNITS i c.2).hset H.tilePlan i 0

/-- A tile that is not enabled shows nothing. -/
def Dev.clearTile (d : Dev) (i : Nat) : Dev :=
  let d := ([F.MV_TILE_STATUS_PROXY_IN_USE, F.MV_TILE_STATUS_FALLBACK, F.MV_TILE_STATUS_LATE_MARK, F.MV_TILE_STATUS_HELD,
    F.MV_TILE_STATUS_ALARMS, F.MV_TILE_STATUS_SCALER]).foldl (fun d f => d.set f i 0) d
  ([H.tileSource, H.tileWait, H.tileRun, H.tilePicture, H.tileScaled]).foldl (fun d f => d.hset f i 0) d

/-- A tile is given a logical scaler; a faulted one is raised (R253). -/
def Dev.giveScaler (d : Dev) (i n : Nat) : Dev :=
  let d := (d.set F.MV_TILE_STATUS_SCALER i n).hset H.tileScaled i 1
  if d.hget H.scalerFault n == 1 then (d.set F.MV_HEAD_STATUS_SCALER_FAULT (i / 64) 1).raise 807 [n, i / 64] else d

/-- Tiles in groups of `k`. -/
def chunks (k : Nat) : Nat → List Nat → List (List Nat)
  | 0, _ => []
  | f + 1, l => if l.isEmpty then [] else l.take k :: chunks k f (l.drop k)

/-- The firmware assigns tiles to scalers at a commit of group MV (R253): a scaler serves tiles of one head, one 4-share tile or
four 1-share tiles.  Which scalers it takes is open (log entry 33). -/
def Dev.assignScalers (d : Dev) : Dev :=
  let (start, d) := d.fresh
  let all := (List.range 256).map fun n => (start + n) % 256
  let pool := all.filter fun n => d.hget H.scalerFault n == 0
  let groups := (List.range 16).flatMap fun h =>
    let ts := d.tilesOn.filter fun i => i / 64 == h
    ((ts.filter fun i => d.get F.MV_TILE_STATUS_SHARES i == 4).map fun i => [i]) ++
      chunks 4 64 (ts.filter fun i => d.get F.MV_TILE_STATUS_SHARES i != 4)
  let d := d.each (List.range 16) fun d h => d.set F.MV_HEAD_STATUS_SCALER_FAULT h 0
  d.each groups.zipIdx fun d g => d.each g.1 fun d i => d.giveScaler i (pool.getD g.2 (start % 256))

/-- A commit of group MV took effect: `old` is the device before it. -/
def Dev.mvApplied (d : Dev) (old : Dev) : Dev :=
  let fs := [F.MV_TILE_SRC_EN, F.MV_TILE_SRC_PROXY_SEL, F.MV_TILE_SRC_SOURCE, F.MV_TILE_POS_X, F.MV_TILE_POS_Y, F.MV_TILE_SIZE_W, F.MV_TILE_SIZE_H]
  let moved := (fs.foldl (fun l f => unionNat (unionNat (d.insts f) (old.insts f)) l) []).filter fun i =>
    fs.any fun f => d.get f i != old.get f i
  let d := d.each moved fun d i =>
    let d := d.chargeTile i
    if d.get F.MV_TILE_SRC_EN i == 1 then d else d.clearTile i
  let d := d.each (List.range 16) fun d h =>
    if d.get F.MV_HEAD_CFG_ENABLE h == 1 then d
    else ((d.set F.MV_HEAD_STATUS_RUN h 0).hset H.mvComposing h 0).hset H.mvReady h 0
  d.assignScalers

/-! ### The snapshot (R247, R254–R261) -/

/-- The proxy of a tile at a head T0: its configured one when it passes R254, else a smaller one, else 0. -/
def Dev.tileProxy (d : Dev) (i : Nat) : Nat :=
  let t := tileCfg d.inEffect i
  let raster := d.tileRaster d.inEffect t.source
  let passes := fun p =>
    match proxyCharge (proxySize raster p).1 with
    | none => false
    | some c => c.1 ≤ d.get F.MV_TILE_STATUS_SHARES i && c.2 ≤ d.get F.MV_TILE_STATUS_READ_UNITS i && t.scales (proxySize raster p)
  let p := t.proxy raster
  if passes p then p else if p == 1 && passes 2 then 2 else 0

/-- R254 at a head T0. -/
def Dev.chooseProxy (d : Dev) (i : Nat) : Dev :=
  let t := tileCfg d.inEffect i
  let named := t.proxy (d.tileRaster d.inEffect t.source)
  let p := d.tileProxy i
  let back := p != named
  let was := d.get F.MV_TILE_STATUS_FALLBACK i == 1 && d.get F.MV_TILE_STATUS_PROXY_IN_USE i == p
  let d := (d.set F.MV_TILE_STATUS_PROXY_IN_USE i p).set F.MV_TILE_STATUS_FALLBACK i (ofBool back)
  if back && !was then d.raise 802 [i / 64, i % 64, p] else d

/-- The tile's source changed since the last snapshot (R256). -/
def Dev.tileMoved (d : Dev) (i : Nat) : Dev :=
  let s := d.get F.MV_TILE_SRC_SOURCE i
  if d.hget H.tileSource i == s + 1 then d
  else ((((d.hset H.tileSource i (s + 1)).hset H.tileWait i 0).hset H.tileRun i 0).hset H.tilePicture i 0).set F.MV_TILE_STATUS_HELD i 0

/-- The frame period of a head or a source in 2⁻¹⁶ ns. -/
def period16 (rate : Nat) : Nat := 65536 * (rateD rate * 10 ^ 9) / rateN rate

/-- The tile is late at a T0 of `t0` (2⁻¹⁶ ns): its source's last proxy set is older than E + 1 ms, or its read failed
(R255). -/
def Dev.tileLate (d : Dev) (i t0 : Nat) (readError : Bool) : Bool :=
  let s := d.get F.MV_TILE_SRC_SOURCE i
  let own := period16 (d.get F.MV_HEAD_CFG_RATE (i / 64))
  let src := if d.get F.ING_SLOT_STATUS_FORMAT s == 0 then 0 else period16 (d.get F.ING_SLOT_STATUS_RATE s)
  let set := d.hget H.ingProxyTime s
  readError || set == 0 || set - 1 + max own src + 65536 * 1000000 < t0

/-- R255 and R256 at a head T0: what lateness makes of the tile, before its proxy and its identity count. -/
def Dev.tileAge (d : Dev) (i t0 : Nat) (readError : Bool) : TileShow × Dev :=
  let hold := d.get F.MV_HEAD_CFG_LATE_HOLD (i / 64)
  let h := i / 64
  let t := i % 64
  if d.hget H.ingProxyTime (d.get F.MV_TILE_SRC_SOURCE i) == 0 && d.hget H.tilePicture i == 0 && d.hget H.tileWait i < hold then
    (.screed, d.hset H.tileWait i (d.hget H.tileWait i + 1))
  else if d.tileLate i t0 readError then
    let run := min 65535 (d.hget H.tileRun i + 1)
    let d := (d.hset H.tileRun i run).set F.MV_TILE_STATUS_HELD i (min 15 run)
    let d := if run == 1 && hold ≥ 1 then d.raise 801 [h, t, 0] else d
    if run ≤ hold then (if d.hget H.tilePicture i == 1 then .held else .screed, d)
    else
      let d := d.set F.MV_TILE_STATUS_LATE_MARK i 1
      (.screed, if run == hold + 1 then d.raise 801 [h, t, 1] else d)
  else
    let was := d.hget H.tileRun i
    let d := ((d.hset H.tileRun i 0).set F.MV_TILE_STATUS_HELD i 0).set F.MV_TILE_STATUS_LATE_MARK i 0
    (.drawn, if was > 0 then d.raise 801 [h, t, 2] else d)

/-- The alarms of R261 from the snapshot. -/
def Dev.tileAlarms (d : Dev) (i : Nat) (ident : Bool) : Nat :=
  let s := d.get F.MV_TILE_SRC_SOURCE i
  ofBool (d.get F.ING_SLOT_STATUS_STATE s != 3)
    + 2 * ofBool (d.get F.ING_MON_EVT_BLACK_EVT ≤ d.get F.ING_SLOT_MON_BLACK_RUN s)
    + 4 * ofBool (d.get F.ING_MON_EVT_FREEZE_EVT ≤ d.get F.ING_SLOT_MON_FREEZE_RUN s)
    + 8 * ofBool (d.get F.ING_MON_EVT2_SILENCE_EVT ≤ d.get F.ING_SLOT_MON2_SILENCE_RUN s)
    + 16 * d.get F.MV_TILE_STATUS_LATE_MARK i
    + 32 * ofBool ident

/-- The palette colour of the tile's border (R259). -/
def Dev.borderColour (d : Dev) (i : Nat) : Nat :=
  let s := d.get F.MV_TILE_SRC_SOURCE i
  let carries := fun k => k != 0x7FF && d.get F.XPT_DEST_STATUS_SOURCE k == s
  if d.get F.MV_TILE_CORNICE_TALLY_EN i == 1 then
    if carries (d.get F.MV_TALLY_PGM_DEST (i / 64)) then 1
    else if carries (d.get F.MV_TALLY_PVW_DEST (i / 64)) then 2
    else d.get F.MV_TILE_CORNICE_BORDER_COL i
  else d.get F.MV_TILE_CORNICE_BORDER_COL i

/-- The number of a block (R34). -/
def blockOf (ns : Nat) : Nat := ns * 3 / 1000000

/-- A cornice meter's result is stale at the snapshot (R260, R418). -/
def Dev.stale (d : Dev) (m block : Nat) : Bool :=
  match d.meterOf (d.get F.MV_TILE_METER_SPACE m) (d.get F.MV_TILE_METER_CHANNEL m) with
  | none => true
  | some j => serialSub 16 block (d.get F.AMX_METER_STAT_UPDATED j) > d.get F.MV_STALE_STALE_BLOCKS

/-- The meters of a tile at the snapshot. -/
def Dev.snapMeters (d : Dev) (i t0 : Nat) : Dev :=
  let block := blockOf (t0 / 65536)
  d.each ((List.range (d.get F.MV_TILE_CORNICE_METERS i)).map fun m => 16 * i + m) fun d m =>
    let s := d.stale m block
    let was := d.hget H.meterStale m == 1
    let d := d.hset H.meterStale m (ofBool s)
    if s && !was then d.raise 806 [i / 64, i % 64, m % 16] else d

/-- The ledger class of a shown tile (R273). -/
def Dev.countTile (d : Dev) (h : Nat) (k : TileShow) : Dev :=
  let d := d.bump C.MV_TILES_DUE h
  match k with
  | .drawn => d.bump C.MV_TILES_DRAWN h
  | .held => d.bump C.MV_TILES_HELD h
  | .screed => d.bump C.MV_TILES_SCREED h
  | .hatched => d.bump C.MV_TILES_HATCHED h

/-- The snapshot of one enabled tile, and what it shows; `found` is the slot number in the proxy's header. -/
def Dev.snapTile (d : Dev) (i t0 : Nat) (readError : Bool) (found : Nat) : TileShow × Dev :=
  let s := d.get F.MV_TILE_SRC_SOURCE i
  let h := i / 64
  let d := (d.tileMoved i).chooseProxy i
  let d := if readError then d.bump C.MV_PROXY_ERR h else d
  let (age, d) := d.tileAge i t0 readError
  let faulted := d.hget H.tileScaled i == 1 && d.hget H.scalerFault (d.get F.MV_TILE_STATUS_SCALER i) == 1
  let read := age == .drawn && d.get F.MV_TILE_STATUS_PROXY_IN_USE i != 0 && !faulted
  let ident := read && found != s
  let show_ : TileShow := if ident then .hatched else if read then .drawn else if age == .held && !faulted then .held else .screed
  let d := if ident then d.raise 803 [h, i % 64, s, found] else d
  let d := if show_ == .drawn then d.hset H.tilePicture i 1 else d
  let d := d.set F.MV_TILE_STATUS_ALARMS i (d.tileAlarms i ident)
  (show_, (d.snapMeters i t0).countTile h show_)

/-- A cornice meter as drawn (R260). -/
def Dev.meterSnap (d : Dev) (m : Nat) : MeterSnap :=
  let kind := d.get F.MV_TILE_METER_KIND m
  let value := match d.meterOf (d.get F.MV_TILE_METER_SPACE m) (d.get F.MV_TILE_METER_CHANNEL m) with
    | none => 0x8000
    | some j => d.get (if kind = 0 then F.AMX_METER_PEAK_PEAK else if kind = 1 then F.AMX_METER_PEAK_TRUE_PEAK else F.AMX_METER_LOUD_MOMENTARY) j
  ⟨kind, value, d.hget H.meterStale m == 1⟩

/-- What a tile draws: the proxy that it reads now, or the picture that it drew last (R247, R255, R258–R261, R266). -/
def Dev.tileSnap (d : Dev) (i : Nat) (shows : TileShow) (prev : HeadSnap) : TileSnap :=
  let t := tileCfg d.inEffect i
  let p := d.get F.MV_TILE_STATUS_PROXY_IN_USE i
  let last := prev.tiles.find? fun x => x.tile == i % 64
  let proxy := d.ing.proxies.find? fun x => x.slot == t.source && x.set == d.hget H.ingProxySet t.source
  let size := proxySize (d.tileRaster d.inEffect t.source) p
  let (picture, width, height) :=
    if shows = .drawn then ((proxy.map fun x => if p = 1 then x.half else x.quarter).getD [], size.1, size.2)
    else if d.hget H.tilePicture i = 1 then (last.map fun x => (x.picture, x.width, x.height)).getD ([], 0, 0) else ([], 0, 0)
  let cset := d.get F.MV_TILE_SRC_CSET i
  let time := d.get F.ING_SLOT_TC_TC t.source
  { tile := i % 64, x := t.x, y := t.y, w := t.w, h := t.h, priority := d.get F.MV_TILE_SRC_PRIORITY i
    shows := shows, picture := picture, width := width, height := height
    preset := if cset = 0 then 0 else d.get F.MV_CSET_PRESET (7 * (i / 64) + (cset - 1))
    border := d.borderColour i, borderW := d.get F.MV_TILE_CORNICE_BORDER_W i
    label := if d.get F.MV_TILE_CORNICE_LABEL_EN i = 0 then none
      else some ((List.range 8).flatMap fun k => leBytes 4 (d.get F.MV_TILE_LABEL_CHARS (8 * i + k)))
    time := if d.get F.MV_TILE_CORNICE_TC_EN i = 0 ∨ time = 0xFFFFFFFF then none else some time
    meters := (List.range (d.get F.MV_TILE_CORNICE_METERS i)).map fun m => d.meterSnap (16 * i + m)
    alarms := d.get F.MV_TILE_STATUS_ALARMS i &&& d.get F.MV_TILE_CORNICE_ALARM_EN i }

/-- The rectangle of a guarded region. -/
def Dev.guardRect (d : Dev) (g : Nat) : Nat × Nat × Nat × Nat :=
  (d.get F.MV_GUARD_POS_X g, d.get F.MV_GUARD_POS_Y g, d.get F.MV_GUARD_SIZE_W g, d.get F.MV_GUARD_SIZE_H g)

/-- A word of MV_SCREED's layout. -/
def colourOf (cr cb y : Nat) : Nat := cr * 2 ^ 20 + cb * 2 ^ 10 + y

/-- What head `h` composes in the frame, from its tiles' snapshots (R247). -/
def Dev.headSnap (d : Dev) (h : Nat) (tiles : List TileSnap) : HeadSnap :=
  { fmt := d.get F.MV_HEAD_CFG_FORMAT h, rate := d.get F.MV_HEAD_CFG_RATE h
    screed := colourOf (d.get F.MV_SCREED_CR h) (d.get F.MV_SCREED_CB h) (d.get F.MV_SCREED_Y h)
    palette := (List.range 16).map fun k =>
      colourOf (d.get F.MV_PALETTE_CR (16 * h + k)) (d.get F.MV_PALETTE_CB (16 * h + k)) (d.get F.MV_PALETTE_Y (16 * h + k))
    tiles := tiles
    hatched := ((d.hinsts H.guardHatch).filter fun g => g / 64 == h && d.get F.MV_GUARD_CTRL_EN g == 1).map d.guardRect }

/-! ### Guards and the head frame (R248, R262) -/

/-- A guarded region whose two CRCs differ (R262). -/
def Dev.guardFails (d : Dev) (i own witness : Nat) : Dev :=
  let d := ((d.set F.MV_GUARD_CTRL_FAILING i 1).hset H.guardRun i 0).bump C.MV_GUARD_FAILS (i / 64)
  (d.hset H.guardHatch i (d.get F.MV_GUARD_CTRL_HATCH_ON_FAIL i)).raise 804 [i / 64, i % 64, own, witness]

/-- A guarded region whose two CRCs agree (R262). -/
def Dev.guardMatches (d : Dev) (i : Nat) : Dev :=
  if d.get F.MV_GUARD_CTRL_FAILING i == 0 then d
  else
    let run := d.hget H.guardRun i + 1
    if run ≥ max 1 (d.get F.MV_GUARD_CTRL_CLEAR_FRAMES i) then
      (((d.set F.MV_GUARD_CTRL_FAILING i 0).hset H.guardRun i 0).hset H.guardHatch i 0).raise 805 [i / 64, i % 64]
    else d.hset H.guardRun i run

/-- The comparison of guarded region `i` at the end of a head frame that composed `s`: head and witness draw the same, unless the operand says
what they drew instead. -/
def Dev.guardFrame (d : Dev) (s : HeadSnap) (guards : List GuardIn) (i : Nat) : Dev :=
  if d.get F.MV_GUARD_CTRL_EN i == 0 || d.get F.MV_GUARD_CTRL_OVERLAP i == 1 then d
  else
    match guards.find? fun g => g.head == i / 64 && g.region == i % 64 with
    | some g =>
      let d := d.set F.MV_GUARD_SIG_SIG i g.own
      if g.own != g.witness then d.guardFails i g.own g.witness else d.guardMatches i
    | none => (d.set F.MV_GUARD_SIG_SIG i (s.regionCrc (d.guardRect i))).guardMatches i

/-- The comparisons at the end of a head's frame; an abandoned composition is not compared (log entry 341). -/
def Dev.guardFrames (d : Dev) (h : Nat) (guards : List GuardIn) : Dev :=
  let s := d.headBuffer h (d.hget H.mvBuffer h)
  if s.fmt = 0 || d.hget H.mvComposing h == 1 then d
  else d.each ((d.insts F.MV_GUARD_CTRL_EN).filter fun g => g / 64 == h) fun d g => d.guardFrame s guards g

/-- OVERLAP of a head's regions in the configuration in effect (R263). -/
def Dev.markOverlaps (d : Dev) (h : Nat) : Dev :=
  d.each ((unionNat (d.insts F.MV_GUARD_CTRL_EN) (d.insts F.MV_GUARD_CTRL_OVERLAP)).filter fun g => g / 64 == h) fun d g =>
    d.set F.MV_GUARD_CTRL_OVERLAP g (ofBool (d.onTile [] d.inEffect g))

/-- The tiles of a head at its T0, in order: what each shows is part of the snapshot. -/
def Dev.snapTiles (d : Dev) (h t0 : Nat) (found : List (Nat × Nat)) (errors : List Nat) (prev : HeadSnap) : Dev × List TileSnap :=
  (d.tilesOn.filter fun i => i / 64 == h).foldl (fun r i =>
    let (shows, d) := r.1.snapTile i t0 (errors.contains i) (((found.find? fun e => e.1 == i).map Prod.snd).getD (d.get F.MV_TILE_SRC_SOURCE i))
    (d, r.2 ++ [d.tileSnap i shows prev])) (d, [])

/-- A head T0 of frame `n` (R247, R248): the guards of the frame that ends, the composition that ends or is abandoned, and the
new snapshot. -/
def Dev.headTick (d : Dev) (h n t0 : Nat) (found : List (Nat × Nat)) (errors : List Nat) (guards : List GuardIn) : Dev :=
  let d := d.guardFrames h guards
  let prev := d.headBuffer h (d.hget H.mvBuffer h)
  let d := d.setHeadStore { d.headStore h with before := d.headBuffer h (d.hget H.mvSent h) }
  let d := if d.hget H.mvComposing h == 1 then
      (d.bump C.MV_COMPOSE_OVERRUN h).raise 800 (h :: words2 (d.hget H.mvFrame h))
    else if d.hget H.mvReady h == 1 then d.hset H.mvSent h (d.hget H.mvBuffer h)
    else d
  let d := (d.hset H.mvBuffer h (1 - d.hget H.mvSent h)).hset H.mvComposing h 1
  let d := ((d.hset H.mvFrame h n).set F.MV_HEAD_STATUS_RUN h 1).markOverlaps h
  let (d, tiles) := d.snapTiles h t0 found errors prev
  let s := d.headSnap h tiles
  let st := d.headStore h
  d.setHeadStore (if d.hget H.mvBuffer h = 0 then { st with buffer0 := s } else { st with buffer1 := s })

/-- The heads whose frame starts at frame `n` take their snapshots. -/
def Dev.headsTick (d : Dev) (n t0 : Nat) (found : List (Nat × Nat)) (errors : List Nat) (guards : List GuardIn) : Dev :=
  d.each ((List.range 16).filter fun h => d.get F.MV_HEAD_CFG_ENABLE h == 1 && startsFrame d.rate (d.get F.MV_HEAD_CFG_RATE h) n)
    fun d h => d.headTick h n t0 found errors guards

/-- A head completes its composition (R247): the buffer composed is the one that readout sends in the next frame. -/
def Dev.compositionComplete (d : Dev) (h : Nat) : Dev :=
  if d.hget H.mvComposing h == 0 then d
  else (((d.hset H.mvComposing h 0).hset H.mvReady h 1).hset H.mvDone h 1).set F.MV_HEAD_STATUS_RUN h 0

/-- A logical scaler's physical one fails (R253): a spare takes over, at last the one under test (R498), else its tiles
show screed. -/
def Dev.scalerFailure (d : Dev) (n : Nat) : Dev :=
  let spare := d.get F.MV_SCALER_POOL_RETIRED < 8
  let d := if d.get F.MV_SCALER_POOL_RETIRED + d.hget H.scalerTest = 8 then d.abortTest 2 5 else d
  let d := d.set F.MV_SCALER_POOL_RETIRED 0 (d.get F.MV_SCALER_POOL_RETIRED + 1)
  if spare then d
  else
    let d := d.hset H.scalerFault n 1
    let heads := (List.range 16).filter fun h => d.tilesOn.any fun i =>
      i / 64 == h && d.hget H.tileScaled i == 1 && d.get F.MV_TILE_STATUS_SCALER i == n
    d.each heads fun d h => (d.set F.MV_HEAD_STATUS_SCALER_FAULT h 1).raise 807 [n, h]

/-! ### The words that are computed when read -/

/-- The computed part of MV_HEAD_STATUS: admitted shares and read units, enabled tiles, and GUARD_FAIL. -/
def Dev.headStatusView (d : Dev) (h : Nat) : Nat :=
  let ts := d.tilesOn.filter fun i => i / 64 == h
  (ts.map fun i => d.get F.MV_TILE_STATUS_SHARES i).sum * 2 ^ 23 + (ts.map fun i => d.get F.MV_TILE_STATUS_READ_UNITS i).sum * 2 ^ 15
    + ts.length * 2 ^ 8 + 4 * ofBool ((d.insts F.MV_GUARD_CTRL_FAILING).any fun g => g / 64 == h)

/-- The scalers that heads hold. -/
def Dev.scalersHeld (d : Dev) : Nat :=
  ((List.range 16).map fun h => scalersFor ((d.tilesOn.filter fun i => i / 64 == h).map fun i => d.get F.MV_TILE_STATUS_SHARES i)).sum

/-- MV_SCALER_POOL.FREE. -/
def Dev.scalersFree (d : Dev) : Nat := d.scalerPool - d.scalersHeld

/-! ### Commands (spec/10) -/

/-- The shadow writes that give fields of instance `i` their parts of a register value. -/
def writesOf (fs : List Fld) (i v : Nat) : List ShadowWrite := fs.map fun f => sw f i (fieldOf f v)

/-- The same, for a TLV that the command may carry. -/
def optWrites (ts : List Tlv) (typ : Nat) (fs : List Fld) (i : Nat) : List ShadowWrite :=
  if hasTlv ts typ then writesOf fs i (tlvNum ts typ) else []

/-- A number below `n` in 4 bytes. -/
def below (n : Nat) : List Byte → Bool := num 4 (· < n)

/-- Turned away with a status and a reason that names no TLV. -/
def Dev.refuse (d : Dev) (q : Req) (op : Nat) (e : Nat × Nat) : Dev :=
  d.reply q op e.1 (if e.2 = 0 && e.1 != St.badParam then [] else [statusDetail 0xFFFF 0xFF e.2])

/-- The fields of MV_HEAD_CFG. -/
def headCfgFields : List Fld := [F.MV_HEAD_CFG_FORMAT, F.MV_HEAD_CFG_RATE, F.MV_HEAD_CFG_LATE_HOLD, F.MV_HEAD_CFG_ENABLE]

/-- A FORMAT and RATE that a head composes (R246). -/
def Dev.headFormat (d : Dev) (w : Nat) : Bool :=
  let f := fieldOf F.MV_HEAD_CFG_FORMAT w
  (f == 0x10 || f == 0x12 || f == 0x20) && d.supports (fieldOf F.MV_HEAD_CFG_RATE w)

/-- HEAD_CONFIG (0x0601). -/
def headConfigSpec : Spec :=
  { op := 0x0601
    pars := [.req 0x0101 (below 16), Par.frame, .opt 0x0102 any4, .opt 0x0103 any4, .opt 0x0104 any4,
      .reps 0x0105 fun v => v.length == 8 && beVal (v.take 4) < 16]
    units := fun _ => [5] }

def headWrites (ts : List Tlv) : List ShadowWrite :=
  let h := tlvNum ts 0x0101
  optWrites ts 0x0102 headCfgFields h ++
    optWrites ts 0x0103 [F.MV_SCREED_CR, F.MV_SCREED_CB, F.MV_SCREED_Y] h ++
    optWrites ts 0x0104 [F.MV_TALLY_PVW_DEST, F.MV_TALLY_PGM_DEST] h ++
    (tlvAll ts 0x0105).flatMap fun v =>
      writesOf [F.MV_PALETTE_CR, F.MV_PALETTE_CB, F.MV_PALETTE_Y] (16 * h + beVal (v.take 4)) (beVal (v.drop 4))

def Dev.headConfig (d : Dev) (q : Req) : Dev := d.command q headConfigSpec fun d ts =>
  let ws := headWrites ts
  if hasTlv ts 0x0102 && !d.headFormat (tlvNum ts 0x0102) then
    d.reply q 0x0601 St.badParam [statusDetail (tlvIndex ts 0x0102) 0xFF 0]
  else
    match if d.raisesClaim (d.changeFrame (frameTlv ts)) ws then d.admission (d.changeFrame (frameTlv ts)) ws else none with
    | some e => d.refuse q 0x0601 e
    | none => d.holdChange q 0x0601 (frameTlv ts) ws

/-- TILE_CONFIG (0x0602). -/
def tileConfigSpec : Spec :=
  { op := 0x0602
    pars := [.req 0x0101 (below 16), .req 0x0106 (below 64), Par.frame, .opt 0x0107 any4, .opt 0x0108 any4,
      .opt 0x0109 (num 4 fun v => fieldOf F.MV_TILE_SRC_PROXY_SEL v < 3)]
    units := fun _ => [5] }

def tileWrites (ts : List Tlv) : List ShadowWrite :=
  let i := 64 * tlvNum ts 0x0101 + tlvNum ts 0x0106
  optWrites ts 0x0107 [F.MV_TILE_POS_Y, F.MV_TILE_POS_X] i ++
    optWrites ts 0x0108 [F.MV_TILE_SIZE_H, F.MV_TILE_SIZE_W] i ++
    optWrites ts 0x0109 [F.MV_TILE_SRC_EN, F.MV_TILE_SRC_CSET, F.MV_TILE_SRC_PROXY_SEL, F.MV_TILE_SRC_PRIORITY, F.MV_TILE_SRC_SOURCE] i

/-- The checks bear on an enabled tile; a disabled one charges nothing. -/
def Dev.tileConfig (d : Dev) (q : Req) : Dev := d.command q tileConfigSpec fun d ts =>
  let ws := tileWrites ts
  let i := 64 * tlvNum ts 0x0101 + tlvNum ts 0x0106
  let n := d.changeFrame (frameTlv ts)
  let v := (d.plannedAt n).over ws
  let hw := d.heldWrites ws
  match if (tileCfg v i).en then d.checkTile hw v i else .ok (0, 0) with
  | .error e => d.refuse q 0x0602 e
  | .ok c =>
    let charged := (tileCfg v i).en && v F.ING_SLOT_CFG_PATH (gangBase v F.ING_SLOT_CFG_GANG (tileCfg v i).source) == 1
    match if charged || d.raisesClaim n ws then d.admission n ws else none with
    | some e => d.refuse q 0x0602 e
    | none =>
      if d.onGuard hw v i then d.refuse q 0x0602 (St.badParam, 0x14)
      else
        let held := d.tick.changes.length
        let d := d.holdChange q 0x0602 (frameTlv ts) ws
        if d.tick.changes.length > held then d.hset H.tilePlan i (1 + 16 * c.1 + c.2) else d

/-- CORNICE_CONFIG (0x0603). -/
def corniceConfigSpec : Spec :=
  { op := 0x0603
    pars := [.req 0x0101 (below 16), .req 0x0106 (below 64), Par.frame, .opt 0x010A any4, .opt 0x010B fun v => v.length ≤ 32,
      .reps 0x010C fun v => v.length == 8 && beVal (v.take 4) < 16 && beVal (v.drop 4) / 2 ^ 30 < 3]
    units := fun _ => [5] }

/-- A METERS above 16 is stored as 16. -/
def corniceWrites (ts : List Tlv) : List ShadowWrite :=
  let i := 64 * tlvNum ts 0x0101 + tlvNum ts 0x0106
  let c := tlvNum ts 0x010A
  let label := (tlv? ts 0x010B).getD []
  let label := label ++ zeros (32 - label.length)
  (if hasTlv ts 0x010A then
      writesOf [F.MV_TILE_CORNICE_ALARM_EN, F.MV_TILE_CORNICE_TC_EN, F.MV_TILE_CORNICE_LABEL_EN, F.MV_TILE_CORNICE_TALLY_EN,
        F.MV_TILE_CORNICE_BORDER_W, F.MV_TILE_CORNICE_BORDER_COL] i c ++ [sw F.MV_TILE_CORNICE_METERS i (min 16 (bits c 16 5))]
    else []) ++
    (if hasTlv ts 0x010B then
      (List.range 8).map fun k => sw F.MV_TILE_LABEL_CHARS (8 * i + k) (leVal (slice (4 * k) 4 label)) else []) ++
    (tlvAll ts 0x010C).flatMap fun v =>
      writesOf [F.MV_TILE_METER_KIND, F.MV_TILE_METER_SPACE, F.MV_TILE_METER_CHANNEL] (16 * i + beVal (v.take 4)) (beVal (v.drop 4))

def Dev.corniceConfig (d : Dev) (q : Req) : Dev := d.command q corniceConfigSpec fun d ts =>
  (d.holdChange q 0x0603 (frameTlv ts) (corniceWrites ts)).reviewMeters

/-- GUARD_CONFIG (0x0604): RECT is position and size as MV_GUARD holds them; a CLEAR_FRAMES of 0 is stored as 1. -/
def guardConfigSpec : Spec :=
  { op := 0x0604
    pars := [.req 0x0101 (below 16), .req 0x010D (below 64), Par.frame, .opt 0x010E fun v => v.length == 8, .opt 0x010F any4]
    units := fun _ => [5] }

def guardWrites (ts : List Tlv) : List ShadowWrite :=
  let g := 64 * tlvNum ts 0x0101 + tlvNum ts 0x010D
  let rect := (tlv? ts 0x010E).getD []
  let c := tlvNum ts 0x010F
  (if hasTlv ts 0x010E then
      writesOf [F.MV_GUARD_POS_Y, F.MV_GUARD_POS_X] g (beVal (rect.take 4)) ++
        writesOf [F.MV_GUARD_SIZE_H, F.MV_GUARD_SIZE_W] g (beVal (rect.drop 4))
    else []) ++
    (if hasTlv ts 0x010F then
      writesOf [F.MV_GUARD_CTRL_EN, F.MV_GUARD_CTRL_HATCH_ON_FAIL] g c ++ [sw F.MV_GUARD_CTRL_CLEAR_FRAMES g (max 1 (bits c 0 4))]
    else [])

def Dev.guardConfig (d : Dev) (q : Req) : Dev := d.command q guardConfigSpec fun d ts =>
  let ws := guardWrites ts
  let g := 64 * tlvNum ts 0x0101 + tlvNum ts 0x010D
  let v := (d.plannedAt (d.changeFrame (frameTlv ts))).over ws
  if d.onTile (d.heldWrites ws) v g then d.refuse q 0x0604 (St.badParam, 0x14)
  else d.holdChange q 0x0604 (frameTlv ts) ws

/-- CSET_CONFIG (0x0605). -/
def csetConfigSpec : Spec :=
  { op := 0x0605
    pars := [.req 0x0101 (below 16), .req 0x0110 (num 4 fun k => 1 ≤ k && k ≤ 7), .req 0x0111 (below 11), Par.frame]
    units := fun _ => [5] }

def Dev.csetConfig (d : Dev) (q : Req) : Dev := d.command q csetConfigSpec fun d ts =>
  d.holdChange q 0x0605 (frameTlv ts)
    [sw F.MV_CSET_PRESET (7 * tlvNum ts 0x0101 + (tlvNum ts 0x0110 - 1)) (tlvNum ts 0x0111)]

/-- HEAD_STATUS_GET (0x0606). -/
def headStatusGetSpec : Spec := { op := 0x0606, pars := [.req 0x0101 (below 16)] }

def Dev.headStatusGet (d : Dev) (q : Req) : Dev := d.command q headStatusGetSpec fun d ts =>
  let h := tlvNum ts 0x0101
  let base := 0x1800000 + 0x4000 * h
  d.reply q 0x0606 St.ok (⟨0x0102, w4 (d.storedAt (base + 4) + d.headStatusView h)⟩ ::
    ((List.range 64).map (fun t => data [w4 (d.storedAt (base + 0x410 + 0x20 * t))]) ++
      (List.range 64).map fun r => data [w4 (d.storedAt (base + 0x2808 + 0x10 * r))]))

def execHeadConfig (q : Req) (s : State) : Host.Outcome State Fault Refusal := lift (·.headConfig q) s
def execTileConfig (q : Req) (s : State) : Host.Outcome State Fault Refusal := lift (·.tileConfig q) s
def execCorniceConfig (q : Req) (s : State) : Host.Outcome State Fault Refusal := lift (·.corniceConfig q) s
def execGuardConfig (q : Req) (s : State) : Host.Outcome State Fault Refusal := lift (·.guardConfig q) s
def execCsetConfig (q : Req) (s : State) : Host.Outcome State Fault Refusal := lift (·.csetConfig q) s
def execHeadStatusGet (q : Req) (s : State) : Host.Outcome State Fault Refusal := lift (·.headStatusGet q) s
def execCompositionComplete (head : Fin 16) (s : State) : Host.Outcome State Fault Refusal := lift (·.compositionComplete head) s
def execScalerFailure (scaler : Fin 256) (s : State) : Host.Outcome State Fault Refusal := lift (fun d => (d.scalerFailure scaler).healthReview) s

end Sys2Proof.Machine
end

