-- ==== Sys2Proof/Machine/Cnv.lean ====
section
/-! DEFINITION. Inline converters (R267–R272): attachment, LUT banks, physical units, and their commands. -/

namespace Sys2Proof.Machine

/-- The units that can replace a failed one: serving no converter, sound, not under test and not promised (R272). -/
def Dev.cnvSpares (d : Dev) : List Nat :=
  (List.range 68).filter fun u => d.hget H.cnvFailed u == 0 && d.hget H.cnvTest u == 0 &&
    (List.range 64).all fun c => d.get F.CNV_STATUS_PHYS c != u && d.hget H.cnvSwap c != u + 1

/-- The logical converter that a unit serves. -/
def Dev.cnvServed (d : Dev) (u : Nat) : Option Nat := (List.range 64).find? fun c => d.get F.CNV_STATUS_PHYS c == u

/-- A physical converter fails (R272).  Which spare replaces it is open (log entry 33); without an idle one the unit under test does
(R498). -/
def Dev.converterFailure (d : Dev) (u : Nat) : Dev :=
  let d := if d.poolUnit 1 = u then d.endTest 1 else d
  let d := d.hset H.cnvFailed u 1
  match d.cnvServed u with
  | none => d
  | some c =>
    let (pick, d) := d.fresh
    let spares := d.cnvSpares
    match spares[pick % max 1 spares.length]? with
    | some n => d.hset H.cnvSwap c (n + 1)
    | none =>
      if d.testing 1 then (d.abortTest 1 5).hset H.cnvSwap c (d.poolUnit 1 + 1)
      else (d.set F.CNV_STATUS_FAULT c 1).raise 817 [c, d.get F.CNV_CFG_DEST c]

/-- The swaps that wait for this T0 (R272). -/
def Dev.cnvSwaps (d : Dev) : Dev :=
  d.each (d.hinsts H.cnvSwap) fun d c =>
    let old := d.get F.CNV_STATUS_PHYS c
    let new := d.hget H.cnvSwap c - 1
    let d := if d.poolUnit 1 = new then d.endTest 1 else d
    (((d.set F.CNV_STATUS_PHYS c new).hset H.cnvSwap c 0).raise 816 [c, old, new]).healthReview

/-! ### LUT banks (R268, R269) -/

/-- The bank is in effect, or a pending commit names it (R269). -/
def Dev.bankTaken (d : Dev) (c bank : Nat) : Bool :=
  d.get F.CNV_CFG_BANK c == bank || d.liveCnv F.CNV_CFG_BANK c == bank || (d.getShadow F.CNV_CFG_BANK c == bank && d.tick.commits.any fun k => bit k.groups 6)

/-- Store one entry. -/
def Dev.lutStore (d : Dev) (c bank table index v : Nat) : Dev :=
  match lutPlace c bank table index with
  | some p => d.hset H.cnvLut p v
  | none => d

/-- A write of CNV_LUT_DATA (R269). -/
def Dev.writeLutData (d : Dev) (c w : Nat) : Dev :=
  let bank := d.get F.CNV_LUT_ADDR_BANK c
  let index := d.get F.CNV_LUT_ADDR_INDEX c
  if d.bankTaken c bank then d.bump C.CNV_LUT_REFUSED c
  else (d.lutStore c bank (d.get F.CNV_LUT_ADDR_TABLE c) index w).set F.CNV_LUT_ADDR_INDEX c (index + 1)

/-! ### Commands -/

/-- The fields of CNV_CFG. -/
def cnvCfgFields : List Fld :=
  [F.CNV_CFG_EN, F.CNV_CFG_FAULT_ACTION, F.CNV_CFG_GANG, F.CNV_CFG_BANK, F.CNV_CFG_PRESET, F.CNV_CFG_IN_2020, F.CNV_CFG_OUT_2020,
    F.CNV_CFG_IN_FULL, F.CNV_CFG_OUT_FULL, F.CNV_CFG_DEST]

/-- A destination has an enabled converter attached in a reading. -/
def Dev.hasConverter (d : Dev) (ws : List ShadowWrite) (v : View) (i : Nat) : Bool :=
  (d.touched ws F.CNV_CFG_EN).any fun c => v F.CNV_CFG_EN c == 1 && v F.CNV_CFG_DEST c == i

/-- A planned configuration of converter `c` keeps R267. -/
def Dev.cnvRules (d : Dev) (ws : List ShadowWrite) (v : View) (c : Nat) : Bool :=
  let g := gangSize (v F.CNV_CFG_GANG c)
  let i := v F.CNV_CFG_DEST c
  c % g == 0 && (i == 0x7FF || v F.CNV_CFG_EN c == 0 ||
    (i < 1536 && isBase v F.XPT_DEST_CFG_GANG i && gangSize (v F.XPT_DEST_CFG_GANG i) == g &&
      (d.touched ws F.CNV_CFG_EN).all fun k => k == c || v F.CNV_CFG_EN k == 0 || v F.CNV_CFG_DEST k != i))

/-- CONVERTER_CONFIG (0x0610). -/
def converterConfigSpec : Spec :=
  { op := 0x0610
    pars := [.req 0x0101 (below 64), Par.frame,
      .opt 0x0102 (num 4 fun v => !(11 ≤ fieldOf F.CNV_CFG_PRESET v && fieldOf F.CNV_CFG_PRESET v ≤ 14))]
    units := fun _ => [6] }

def Dev.converterConfig (d : Dev) (q : Req) : Dev := d.command q converterConfigSpec fun d ts =>
  let c := tlvNum ts 0x0101
  let ws := optWrites ts 0x0102 cnvCfgFields c
  let v := (d.plannedAt (d.changeFrame (frameTlv ts))).over ws
  if d.cnvRules (d.heldWrites ws) v c then d.holdChange q 0x0610 (frameTlv ts) ws
  else d.reply q 0x0610 St.badParam [statusDetail (tlvIndex ts 0x0102) 0xFF 0x16]

/-- CONVERTER_LUT_LOAD (0x0611): applies when accepted. -/
def converterLutLoadSpec : Spec :=
  { op := 0x0611
    pars := [.req 0x0101 (below 64), .req 0x0103 (below 2), .req 0x0104 (below 7), .req 0x0105 (below 4096),
      .req 0x0106 fun v => v.length % 2 == 0 && 2 ≤ v.length && v.length ≤ 1024]
    units := fun _ => [6] }

def Dev.converterLutLoad (d : Dev) (q : Req) : Dev := d.command q converterLutLoadSpec fun d ts =>
  let c := tlvNum ts 0x0101
  let bank := tlvNum ts 0x0103
  let table := tlvNum ts 0x0104
  let start := tlvNum ts 0x0105
  let bytes := (tlv? ts 0x0106).getD []
  let n := bytes.length / 2
  if start + n > (if table = 6 then 12 else 4096) then d.reply q 0x0611 St.badParam [statusDetail (tlvIndex ts 0x0105) 0xFF 0]
  else if d.bankTaken c bank then d.reply q 0x0611 St.badParam [statusDetail (tlvIndex ts 0x0103) 0xFF 0x17]
  else
    (d.each (List.range n) fun d k => d.lutStore c bank table (start + k) (beVal (slice (2 * k) 2 bytes))).reply q 0x0611 St.ok

/-- The computed part of CNV_STATUS: ATTACHED and BANK_IN_EFFECT. -/
def Dev.cnvStatusView (d : Dev) (c : Nat) : Nat :=
  2 * ofBool (d.liveCnv F.CNV_CFG_EN c == 1 && d.liveCnv F.CNV_CFG_DEST c != 0x7FF) + d.liveCnv F.CNV_CFG_BANK c

/-- CONVERTER_STATUS_GET (0x0612). -/
def converterStatusGetSpec : Spec := { op := 0x0612, pars := [.req 0x0101 (below 64)] }

def Dev.converterStatusGet (d : Dev) (q : Req) : Dev := d.command q converterStatusGetSpec fun d ts =>
  let c := tlvNum ts 0x0101
  let base := 0x1900000 + 0x40 * c
  d.reply q 0x0612 St.ok [data (w4 (d.storedAt (base + 4) + d.cnvStatusView c) ::
    [0x20, 0x24, 0x28, 0x2C].map fun o => w4 (d.storedAt (base + o)))]

def execConverterFailure (unit : Fin 68) (s : State) : Host.Outcome State Fault Refusal := lift (fun d => (d.converterFailure unit).healthReview) s
def execConverterConfig (q : Req) (s : State) : Host.Outcome State Fault Refusal := lift (·.converterConfig q) s
def execConverterLutLoad (q : Req) (s : State) : Host.Outcome State Fault Refusal := lift (·.converterLutLoad q) s
def execConverterStatusGet (q : Req) (s : State) : Host.Outcome State Fault Refusal := lift (·.converterStatusGet q) s
def execCnvLutDataWrite (m : Fin 8) (c : Fin 64) (v : Word) (s : State) : Host.Outcome State Fault Refusal :=
  lift (fun d => d.busWrite m (0x1900014 + 0x40 * c) v.toNat fun d => d.writeLutData c v.toNat) s

end Sys2Proof.Machine
end

