-- ==== Sys2Proof/Machine/Apt.lean ====
section
/-! DEFINITION. The serial audio ports (R375–R400): port states, FIFO and slot phase, the slot mask, mute and zero crossing,
and groups with their start trigger. -/

namespace Sys2Proof.Machine

/-- The 64-bit count takes a value (the FIFO level, which also falls). -/
def Dev.setCount (d : Dev) (c : Ctr) (i v : Nat) : Dev := { d with ctr := d.ctr.store c.id i (v % 2 ^ 64) 0 }

/-! ### Formats (R375, R376) -/

/-- S: the slots of a frame. -/
def slotsOf (fmt slots : Nat) : Nat := if fmt = 2 then [8, 16, 32].getD slots 32 else 2

/-- S of a port as configured. -/
def Dev.portSlots (d : Dev) (p : Nat) : Nat := slotsOf (d.get F.APT_PORT_CFG_FMT p) (d.get F.APT_PORT_CFG_SLOTS p)

/-- FS_NOM in Hz. -/
def fsHz (code : Nat) : Nat := [44100, 48000, 88200, 96000, 176400, 192000].getD code 48000

/-- W: the width of a slot in bits. -/
def Dev.portWidth (d : Dev) (p : Nat) : Nat := [16, 24, 32].getD (d.get F.APT_PORT_CFG_WIDTH p) 32

/-- The BCLK cycles from the FS edge to the first data bit (R375). -/
def Dev.portDelay (d : Dev) (p : Nat) : Nat :=
  match d.get F.APT_PORT_CFG_FMT p with
  | 0 => 1
  | 1 => 0
  | _ => d.get F.APT_PORT_CFG_DATA_DELAY p

/-- FS and SD of a BCLK cycle as the port samples them: on the rising edge, or on the falling one (R377). -/
def Dev.sampleCycle (d : Dev) (p : Nat) (x : BclkCycle) : Bool × Bool :=
  if d.get F.APT_PORT_CFG_BCLK_FALL p = 1 then (x.fsFall, x.sdFall) else (x.fsRise, x.sdRise)

/-- The cycles are those of one frame: FS, as it is sampled, has its starting level from the first cycle on, the other one at the last, and
no further edge that starts a frame (R375); a frame without any BCLK cycle is one as well. -/
def Dev.isFrame (d : Dev) (p : Nat) (cs : List BclkCycle) : Bool :=
  let on := cs.map fun c => (d.sampleCycle p c).1 != (d.get F.APT_PORT_CFG_FMT p == 0)
  cs.isEmpty || (on.headD false && !on.getLastD true && (on.dropWhile id).all (!·))

/-- The nominal frame period of a port in ns. -/
def Dev.portPeriod (d : Dev) (p : Nat) : Nat := 1000000000 / fsHz (d.get F.APT_PORT_CFG_FS_NOM p)

/-- A configuration word whose fields hold no value that discards the write, and that meets R376. -/
def goodPortCfg (w : Nat) : Bool :=
  bits w 28 2 != 3 && bits w 26 2 != 3 && bits w 24 2 != 3 && bits w 21 3 < 6

/-- The BCLK limit of R376. -/
def bclkFits (w : Nat) : Bool :=
  slotsOf (bits w 28 2) (bits w 26 2) * [16, 24, 32].getD (bits w 24 2) 32 * fsHz (bits w 21 3) ≤ 50000000

/-! ### States (R378) -/

/-- STATE of a port: 0 STOPPED, 1 ACQUIRING, 2 READY, 3 ARMED, 4 RUNNING, 5 CLOCK_LOST. -/
def Dev.portState (d : Dev) (p : Nat) : Nat := d.get F.APT_PORT_STATUS_STATE p

/-- The ports of group `g` (counted from 0), rising (R391). -/
def Dev.members (d : Dev) (g : Nat) : List Nat := (List.range 24).filter fun p => d.get F.APT_PORT_CFG_GROUP p == g + 1

/-- APT_GROUP_STATUS.RUNNING. -/
def Dev.runningMask (d : Dev) (g : Nat) : Nat := wordOfBits ((d.members g).filter fun p => d.portState p == 4)

/-- Until the group starts, its leader is its lowest-numbered member that is READY, ARMED or RUNNING, 31 for none (R391). -/
def Dev.candidate (d : Dev) (g : Nat) : Nat :=
  ((d.members g).find? fun p => 2 ≤ d.portState p && d.portState p ≤ 4).getD 31

/-- The leader of a group of which no member is RUNNING follows R391. -/
def Dev.reviewLeader (d : Dev) (g : Nat) : Dev :=
  if d.runningMask g = 0 then d.set F.APT_GROUP_STATUS_LEADER g (d.candidate g) else d

/-- The port that leads a group, or would lead its next start (R391). -/
def Dev.leaderOf (d : Dev) (g : Nat) : Nat := if d.runningMask g = 0 then d.candidate g else d.get F.APT_GROUP_STATUS_LEADER g

/-- At a block tick, a group whose leader has left RUNNING is led by its lowest-numbered RUNNING member (R397). -/
def Dev.passLeadership (d : Dev) (g : Nat) : Dev :=
  let old := d.get F.APT_GROUP_STATUS_LEADER g
  if d.runningMask g = 0 then d.reviewLeader g
  else if (d.members g).contains old && d.portState old == 4 then d
  else
    match (d.members g).find? fun p => d.portState p == 4 with
    | some p => (d.set F.APT_GROUP_STATUS_LEADER g p).raise 730 [g + 1, old, p]
    | none => d

/-- The port leads its group (APT_PORT_STATUS.LEADER). -/
def Dev.leads (d : Dev) (p : Nat) : Bool :=
  let g := d.get F.APT_PORT_CFG_GROUP p
  g != 0 && d.get F.APT_GROUP_STATUS_LEADER (g - 1) == p

/-- What port `p` holds between its pins and its converter. -/
def Dev.pfifo (d : Dev) (p : Nat) : PortFifo := d.apt.getD p PortFifo.reset

def Dev.setPfifo (d : Dev) (p : Nat) (f : PortFifo → PortFifo) : Dev := { d with apt := d.apt.modify p f }

/-- The FIFO holds some words, and QUEUED says how many. -/
def Dev.setWords (d : Dev) (p : Nat) (ws : List Nat) : Dev :=
  (d.setPfifo p fun q => { q with words := ws }).setCount C.APT_QUEUED p ws.length

/-- The FIFO is emptied, its words counted in DROPPED. -/
def Dev.emptyFifo (d : Dev) (p : Nat) : Dev := (d.bump C.APT_DROPPED p (d.pfifo p).words.length).setWords p []

/-- The nominal ratio of a port's converter: pin frames for each block, in units of 2⁻³² (R380). -/
def Dev.nominalRatio (d : Dev) (p : Nat) : Nat := fsHz (d.get F.APT_PORT_CFG_FS_NOM p) * 2 ^ 32 / 3000

/-- The target of the FIFO's level: the words of 1.5 block periods (R380). -/
def Dev.fifoTarget (d : Dev) (p : Nat) : Nat := d.portSlots p * fsHz (d.get F.APT_PORT_CFG_FS_NOM p) / 2000

/-- The bit stream starts at the frame that begins, and the FIFO fills to its target before anything leaves it (R380, R385). -/
def Dev.startStream (d : Dev) (p : Nat) : Dev :=
  let d := d.setPfifo p fun q => { q with bits := [], edges := 0, slot := 0, starting := true, before := [] }
  ((d.hset H.aptFill p 1).hset H.aptRatio p (d.nominalRatio p)).hset H.aptFrac p 0 |>.hset H.aptMoved p 0

/-- A port enters a state (R378); a stop clears φ and SWAP_SUSPECT (R384), and a start begins with φ 0 (R383). -/
def Dev.portTo (d : Dev) (p st : Nat) : Dev :=
  let old := d.portState p
  if old == st then d
  else
    let d := ((d.set F.APT_PORT_STATUS_STATE p st).hset H.aptRun p 0).set F.APT_PORT_STATUS_ACQ_CAUSE p 0
    let d := if st = 0 then
        ((d.emptyFifo p).set F.APT_PORT_STATUS_PHASE p 0).set F.APT_PORT_STATUS_SWAP_SUSPECT p 0
      else if st = 4 && old != 5 then ((d.set F.APT_PORT_STATUS_PHASE p 0).hset H.aptDrift p 0).startStream p
      else if st = 4 then d.set F.APT_PORT_STATUS_SWAP_SUSPECT p 1
      else d
    let d := if st = 4 then d else d.hset H.aptRestart p 0
    let d := d.raise (704 + p) [0, st]
    let g := d.get F.APT_PORT_CFG_GROUP p
    if g = 0 then d else d.reviewLeader (g - 1)

/-- φ moves by `by'`, modulo S, and the slip is reported (R383, R384). -/
def Dev.slip (d : Dev) (p cause : Nat) (by' : Int) : Dev :=
  let s := d.portSlots p
  let phi := (((d.get F.APT_PORT_STATUS_PHASE p : Nat) + by') % (s : Nat)).toNat
  let d := ((d.set F.APT_PORT_STATUS_PHASE p phi).set F.APT_PORT_STATUS_SWAP_SUSPECT p 1).bump C.APT_SLIPS p
  d.raise (704 + p) [1, cause * 2 ^ 16 + phi]

/-- A port loses its clock with a partial frame of `j` words (R378, R383). -/
def Dev.clockLost (d : Dev) (p j : Nat) : Dev :=
  if d.portState p < 2 || d.portState p > 4 then d
  else
    let d := d.portTo p 5
    if j % d.portSlots p = 0 then d else d.slip p 3 (-(j : Int))

/-! ### Mute and zero crossing (R388–R390) -/

/-- Channel `c` of port `p`. -/
def chanIx (p c : Nat) : Nat := 32 * p + c

/-- The channel should sound: its slot is enabled, its MUTE bit clear, no restart runs and the FIFO has filled (R385). -/
def Dev.wanted (d : Dev) (p c : Nat) : Bool :=
  bit (d.get F.APT_PORT_MASK_EFF_MASK p) c && !bit (d.get F.APT_PORT_MUTE_MUTE p) c && d.hget H.aptRestart p == 0 && d.hget H.aptFill p == 0

/-- APT_PORT_MUTE_EFF takes its value: a bit for every enabled channel that is muted, fading or waiting to unmute (R390). -/
def Dev.refreshMute (d : Dev) (p : Nat) : Dev :=
  d.set F.APT_PORT_MUTE_EFF_MUTE p (wordOfBits ((List.range 32).filter fun c =>
    bit (d.get F.APT_PORT_MASK_EFF_MASK p) c && (d.hget H.aptGain (chanIx p c) < 16 || d.hget H.aptFade (chanIx p c) != 0)))

/-- A fade of the channel begins: 1 out, 2 in. -/
def Dev.beginFade (d : Dev) (p c dir : Nat) : Dev := (d.hset H.aptFade (chanIx p c) dir).hset H.aptWait (chanIx p c) 0

/-- What the channel waits for follows from what it should do (R389, R390): a reversed request cancels the pending one, a
request during a fade waits until its end, and a ZC_TIMEOUT_MS of 0 starts every fade at once. -/
def Dev.settleChannel (d : Dev) (p c : Nat) : Dev :=
  let k := chanIx p c
  let target := if d.wanted p c then 16 else 0
  if d.hget H.aptFade k != 0 then d
  else if d.hget H.aptGain k == target then d.hset H.aptWait k 0
  else
    let dir := if target = 16 then 2 else 1
    if d.get F.APT_ZC_CFG_ZC_TIMEOUT_MS = 0 then d.beginFade p c dir
    else if d.hget H.aptWait k == dir then d
    else (d.hset H.aptWait k dir).hset H.aptSince k d.clock.core

/-- Every channel of the port. -/
def Dev.settlePort (d : Dev) (p : Nat) : Dev := (d.each (List.range 32) fun d c => d.settleChannel p c).refreshMute p

/-- No zero crossing came: the fade starts at the timeout, and is counted (R389). -/
def Dev.zcTimeout (d : Dev) (p c : Nat) : Dev :=
  let k := chanIx p c
  let dir := d.hget H.aptWait k
  if dir = 0 then d
  else
    let d := d.passToCore (d.hget H.aptSince k + 1000000 * d.get F.APT_ZC_CFG_ZC_TIMEOUT_MS)
    let d := ((d.beginFade p c dir).bump C.APT_ZC_TIMEOUTS p).refreshMute p
    let sec := d.clock.core / 1000000000 + 1
    if d.hget H.aptZcSecond p == sec then d else (d.hset H.aptZcSecond p sec).raise (704 + p) [2, c]

/-- The first zero crossing among samples, after a sample `last` (R388). -/
def crossing : Int → List Int → Bool
  | _, [] => false
  | last, x :: xs => x == 0 || decide (x < 0) != decide (last < 0) || crossing x xs

/-- One block of a channel's samples passes (R389): a waiting fade begins at a zero crossing, and a fade that runs ends within
16 samples. -/
def Dev.channelBlock (d : Dev) (p c : Nat) (xs : List Int) : Dev :=
  let k := chanIx p c
  let last := toSigned 32 (d.hget H.aptLast k)
  let d := d.hset H.aptLast k (ofSigned 32 (xs.getLastD last))
  let dir := d.hget H.aptFade k
  if dir != 0 then
    ((d.hset H.aptFade k 0).hset H.aptGain k (if dir = 1 then 0 else 16)).settleChannel p c
  else if d.hget H.aptWait k != 0 && crossing last xs then d.beginFade p c (d.hget H.aptWait k)
  else d

/-- The pending mask takes effect at an FS edge (R386, R387): a newly disabled slot fades out at once, a newly enabled one
starts muted and waits for a zero crossing. -/
def Dev.applyMask (d : Dev) (p : Nat) : Dev :=
  let new := d.get F.APT_PORT_MASK_MASK p
  let old := d.get F.APT_PORT_MASK_EFF_MASK p
  if new == old then d
  else
    let d := d.set F.APT_PORT_MASK_EFF_MASK p new
    let d := d.each ((List.range 32).filter fun c => bit old c && !bit new c) fun d c =>
      if d.hget H.aptGain (chanIx p c) = 0 && d.hget H.aptFade (chanIx p c) != 2 then d else d.beginFade p c 1
    (d.settlePort p).raise (704 + p) [3, new]

/-! ### FIFO and slot phase (R379–R385, R399) -/

/-- Words enter the FIFO; those that find it full are dropped, an overrun (R383). -/
def Dev.fifoIn (d : Dev) (p : Nat) (ws : List Nat) : Dev :=
  let q := (d.pfifo p).words
  let k := min ws.length (4096 - q.length)
  let lost := ws.length - k
  let d := ((d.bump C.APT_RECEIVED p ws.length).bump C.APT_DROPPED p lost).setWords p (q ++ ws.take k)
  if lost = 0 then d else d.slip p 1 (if d.get F.APT_PORT_CFG_DIR p = 0 then (lost : Int) else -(lost : Int))

/-- Words leave the FIFO; what it does not hold is made up by zero words, an underrun (R383, R397). -/
def Dev.fifoOut (d : Dev) (p n : Nat) : List Nat × Dev :=
  let q := (d.pfifo p).words
  let zeros := n - q.length
  let d := ((d.bump C.APT_DELIVERED p n).bump C.APT_ZERO_INSERTED p zeros).setWords p (q.drop n)
  (q.take n ++ List.replicate zeros 0,
    if zeros = 0 then d else d.slip p 2 (if d.get F.APT_PORT_CFG_DIR p = 0 then -(zeros : Int) else (zeros : Int)))

/-- The FIFO has reached its target: its words may leave, and its channels sound (R385). -/
def Dev.fillEnds (d : Dev) (p : Nat) : Dev :=
  if d.hget H.aptFill p = 1 ∧ d.fifoTarget p ≤ (d.pfifo p).words.length then (d.hset H.aptFill p 0).settlePort p else d

/-- Channel `c` carries data: its slot is enabled, or it still fades out (R386, R387). -/
def Dev.slotOn (d : Dev) (p c : Nat) : Bool := bit (d.get F.APT_PORT_MASK_EFF_MASK p) c || d.hget H.aptFade (chanIx p c) == 1

/-- The words of `w` bits in a bit stream, most significant bit first, each at the top of 32 bits, and the bits that are left. -/
def wordsOfBits (w : Nat) : Nat → List Bool → List Nat × List Bool
  | 0, bs => ([], bs)
  | n + 1, bs =>
    let r := wordsOfBits w n (bs.drop w)
    (((bs.take w).foldl (fun v b => 2 * v + ofBool b) 0) * 2 ^ (32 - w) :: r.1, r.2)

/-- The bits of a frame join the input port's stream, and its whole words the FIFO; a disabled slot travels as a zero word (R375, R383). -/
def Dev.deserialise (d : Dev) (p : Nat) (sd : List Bool) : Dev :=
  let w := d.portWidth p
  let q := d.pfifo p
  let bs := q.bits ++ if q.starting then sd.drop (d.portDelay p) else sd
  let n := bs.length / w
  let r := wordsOfBits w n bs
  let ws := r.1.zipIdx.map fun x => if d.slotOn p ((q.slot + x.2) % d.portSlots p) then x.1 else 0
  let d := d.setPfifo p fun q => { q with bits := r.2, slot := (q.slot + n) % d.portSlots p, starting := false }
  (d.fifoIn p ws).fillEnds p

/-- A frame leaves on the pin while the role is ACTIVE, and else the pin is at high impedance (R377, R398); a slot that has stopped is driven
0, or left at high impedance (R387). -/
def Dev.serialise (d : Dev) (p : Nat) (ws : List Nat) : Dev :=
  let w := d.portWidth p
  let hiZ := d.get F.APT_PORT_CFG_OUT_HIZ p = 1 ∧ d.get F.APT_PORT_CFG_FMT p = 2
  let slots := ws.zipIdx.map fun x =>
    if d.role ≠ 0 ∨ (hiZ ∧ d.portState p = 4 ∧ !d.slotOn p (x.2 % d.portSlots p)) then none else some (x.1 / 2 ^ (32 - w))
  d.emit (.serial p ⟨d.get F.APT_PORT_CFG_BCLK_FALL p == 1, d.portDelay p, w, slots⟩)

/-- The words that the BCLK count gives a frame, the edges of a word in progress going on to the next (R383). -/
def Dev.countEdges (d : Dev) (p edges : Nat) : Nat × Dev :=
  let t := (d.pfifo p).edges + edges
  (t / d.portWidth p, d.setPfifo p fun q => { q with edges := t % d.portWidth p })

/-- The pin side of a RUNNING port: a frame's words enter from the pin or leave on it, and a frame of S + e words moves φ (R383).  While
the FIFO fills, an output port sends zero words. -/
def Dev.pinFrame (d : Dev) (p : Nat) (cs : List BclkCycle) : Dev :=
  let s := d.portSlots p
  let (words, d) := d.countEdges p cs.length
  let d := if words = s then d else (d.bump C.APT_COUNT_ERRORS p).slip p 0 ((s : Int) - (words : Int))
  if d.get F.APT_PORT_CFG_DIR p = 0 then d.deserialise p (cs.map fun c => (d.sampleCycle p c).2)
  else if d.hget H.aptFill p = 1 then d.serialise p (List.replicate words 0)
  else
    let r := d.fifoOut p words
    r.2.serialise p r.1

/-- The words of a frame in progress when the clock is lost: they have entered or left (R383). -/
def Dev.partFrame (d : Dev) (p : Nat) (cs : List BclkCycle) : Nat × Dev :=
  let (words, d) := d.countEdges p cs.length
  (words, if words = 0 ∨ (d.get F.APT_PORT_CFG_DIR p = 1 ∧ d.hget H.aptFill p = 1) then d
    else if d.get F.APT_PORT_CFG_DIR p = 0 then d.deserialise p (cs.map fun c => (d.sampleCycle p c).2)
    else
      let r := d.fifoOut p words
      r.2.serialise p r.1)

/-- A restart resumes (R385): at the port's next FS edge, or for a member of a running group at its leader's. -/
def Dev.resumePort (d : Dev) (p : Nat) : Dev :=
  if d.hget H.aptRestart p == 0 then d else ((d.hset H.aptRestart p 0).startStream p).settlePort p

/-- The ports that resume at an FS edge of port `p`. -/
def Dev.resumeAt (d : Dev) (p : Nat) : Dev :=
  let g := d.get F.APT_PORT_CFG_GROUP p
  if g = 0 then d.resumePort p
  else if d.leads p then d.each (d.members (g - 1)) Dev.resumePort
  else d

/-- A restart of a RUNNING port (R385). -/
def Dev.restartPort (d : Dev) (p : Nat) : Dev :=
  if d.portState p != 4 then d
  else
    let d := (((d.emptyFifo p).set F.APT_PORT_STATUS_PHASE p 0).set F.APT_PORT_STATUS_SWAP_SUSPECT p 0).hset H.aptRestart p 1
    (d.each (List.range 32) fun d c =>
      if d.hget H.aptGain (chanIx p c) = 0 && d.hget H.aptFade (chanIx p c) != 2 then d.hset H.aptWait (chanIx p c) 0
      else d.beginFade p c 1).refreshMute p

/-! ### Groups (R391–R397) -/

/-- An armed group is triggered (R393): ARM clears, and the members that are not ARMED are missed (R395). -/
def Dev.trigger (d : Dev) (g : Nat) : Dev :=
  if d.get F.APT_GROUP_CTRL_ARM g == 0 then d
  else
    let missed := (d.members g).filter fun p => d.portState p != 3
    ((d.set F.APT_GROUP_CTRL_ARM g 0).hset H.aptTrigger g (d.now + 1)).set F.APT_GROUP_MISSED_MISSED g (wordOfBits missed)

/-- Every armed group whose START_SRC is `src` and that passes `p` is triggered (R392). -/
def Dev.triggerAll (d : Dev) (src : Nat) (p : Nat → Bool) : Dev :=
  d.each ((List.range 8).filter fun g =>
    d.get F.APT_GROUP_CTRL_ARM g == 1 && d.get F.APT_GROUP_CTRL_START_SRC g == src && p g) Dev.trigger

/-- An accepted active edge of a START pin triggers the groups that name it (R392). -/
def Dev.pinStarts (d : Dev) (pin : Nat) : Dev := d.triggerAll 3 fun g => d.get F.APT_GROUP_CTRL_PIN g == pin

/-- How far the last FS edge of port `p` lies behind the nearest one of port `l`, in ns (R394, R397). -/
def Dev.edgeOffset (d : Dev) (p l : Nat) : Int :=
  let t : Int := d.portPeriod l
  ((d.hget H.aptEdge p : Nat) - (d.hget H.aptEdge l : Nat) + t / 2 : Int) % t - t / 2

/-- A member drifts beyond an eighth of a frame period from its leader and runs on its own (R397). -/
def Dev.checkDrift (d : Dev) (p : Nat) : Dev :=
  let g := d.get F.APT_PORT_CFG_GROUP p
  let offset := d.edgeOffset p (d.get F.APT_GROUP_STATUS_LEADER (g - 1))
  let far := decide (8 * offset.natAbs > d.portPeriod p)
  if g = 0 || d.leads p || d.portState p != 4 || d.runningMask (g - 1) = 0 then d
  else if far && d.hget H.aptDrift p == 0 then (d.hset H.aptDrift p 1).raise 729 [g, p, ofSigned 32 offset]
  else if far then d else d.hset H.aptDrift p 0

/-- The group sample index counts the leader's FS edges (R395, R397). -/
def Dev.countIndex (d : Dev) (p : Nat) : Dev :=
  let g := d.get F.APT_PORT_CFG_GROUP p - 1
  if !d.leads p || d.portState p != 4 then d
  else
    let n := d.get F.APT_GROUP_INDEX_HI_INDEX g * 2 ^ 32 + d.get F.APT_GROUP_INDEX_LO_INDEX g + 1
    (d.set F.APT_GROUP_INDEX_LO_INDEX g n).set F.APT_GROUP_INDEX_HI_INDEX g (n / 2 ^ 32)

/-- The start FS edge of a triggered group (R395): the leader's first one at least 1 µs after the trigger. -/
def Dev.groupStart (d : Dev) (g : Nat) : Dev :=
  let t := d.hget H.aptTrigger g
  if t = 0 then d
  else
    let d := (d.passTo ((t - 1 + 1000) * 65536)).hset H.aptTrigger g 0
    let started := (d.members g).filter fun p => d.portState p == 3
    let missed := d.get F.APT_GROUP_MISSED_MISSED g |||
      wordOfBits ((d.members g).filter fun p => !started.contains p)
    let d := (d.reviewLeader g).each started fun d p => d.portTo p 4
    let d := ((d.set F.APT_GROUP_MISSED_MISSED g missed).set F.APT_GROUP_INDEX_LO_INDEX g 0).set F.APT_GROUP_INDEX_HI_INDEX g 0
    let d := (d.set F.APT_GROUP_TIME_LO_NS g d.now).set F.APT_GROUP_TIME_HI_NS g (d.now / 2 ^ 32)
    d.raise 728 ([(g + 1) * 2 ^ 24 + wordOfBits started, missed] ++ words2 d.now)

/-- Arming (R393, R394): a member whose FS edge lies more than an eighth of a frame from the leader's is not armed. -/
def Dev.armGroup (d : Dev) (g : Nat) : Dev :=
  let offset := fun p => d.edgeOffset p (d.leaderOf g)
  let ready := (d.members g).filter fun p => d.portState p == 2
  let far := fun p => decide (8 * (offset p).natAbs > d.portPeriod p)
  let d := d.set F.APT_GROUP_CTRL_ARM g 1
  let d := d.each (ready.filter far) fun d p => d.raise 729 [g + 1, p, ofSigned 32 (offset p)]
  let d := d.each (ready.filter fun p => !far p) fun d p => d.portTo p 3
  if d.get F.APT_GROUP_CTRL_START_SRC g == 3 then
    d.set F.GPIO_ARM_ARM 0 (d.get F.GPIO_ARM_ARM ||| 2 ^ d.get F.APT_GROUP_CTRL_PIN g)
  else d

/-- A write of APT_GROUP_CTRL⟨g⟩: the stored fields, ARM and FIRE (R392, R393). -/
def Dev.writeGroupCtrl (d : Dev) (g w : Nat) : Dev :=
  let src := bits w 20 3
  let d := (d.set F.APT_GROUP_CTRL_START_SRC g (if src > 4 then 0 else src)).set F.APT_GROUP_CTRL_PIN g (bits w 0 5)
  let d := if bit w 31 then d.armGroup g else d
  if bit w 30 && d.get F.APT_GROUP_CTRL_START_SRC g == 4 then d.trigger g else d

/-! ### A pin frame (R378, R383, R386, R397) -/

/-- What acquisition makes of a frame: 0 it counts, else why not (ACQ_CAUSE). -/
def Dev.acqCause (d : Dev) (p : Nat) (x : PortFrame) : Nat :=
  if x.cycles = [] then 1 else if x.ppb.natAbs > 5000000 then 2
  else if x.cycles.length ≠ d.portSlots p * d.portWidth p then 3 else 0

/-- A frame of a port that acquires its clock, or has lost it. -/
def Dev.acquire (d : Dev) (p : Nat) (x : PortFrame) : Dev :=
  let cause := d.acqCause p x
  let d := d.set F.APT_PORT_STATUS_ACQ_CAUSE p cause
  let run := if cause = 0 then d.hget H.aptRun p + 1 else 0
  let d := d.hset H.aptRun p run
  if run < 16 then d else d.portTo p (if d.portState p = 1 then 2 else 4)

/-- A pin frame completes at an FS edge of the port; an output port that is not RUNNING drives its data pin low (R378). -/
def Dev.portFrame (d : Dev) (p : Nat) (x : PortFrame) : Dev :=
  let d := d.pass x.wait
  let st := d.portState p
  if st = 0 || !d.isFrame p x.cycles then d
  else
    let d := ((d.set F.APT_PORT_FS_PPB p (ofSigned 32 x.ppb)).hset H.aptEdge p (d.clock.core + 1)).applyMask p
    let d := if st = 4 && d.hget H.aptRestart p == 0 then d.pinFrame p x.cycles
      else if d.get F.APT_PORT_CFG_DIR p = 1 then d.serialise p (List.replicate (d.portSlots p) 0) else d
    if st = 1 || st = 5 then d.acquire p x
    else if x.ppb.natAbs > 5000000 then d.clockLost p 0
    else
      let g := d.get F.APT_PORT_CFG_GROUP p
      let d := ((d.countIndex p).checkDrift p).resumeAt p
      if st = 2 && g = 0 then d.portTo p 4
      else if g != 0 && d.leads p then d.triggerAll 0 (· == g - 1)
      else d

/-- No FS edge for two nominal frame periods, after some BCLK cycles of a frame (R378). -/
def Dev.fsTimeout (d : Dev) (p : Nat) (cs : List BclkCycle) : Dev :=
  if d.portState p < 2 || d.portState p > 4 then d
  else
    let d := d.passToCore (d.hget H.aptEdge p - 1 + 2 * d.portPeriod p)
    if d.portState p = 4 && d.hget H.aptRestart p == 0 then
      let r := d.partFrame p cs
      r.2.clockLost p r.1
    else d.clockLost p 0

/-! ### Register writes -/

def aptPort (p : Nat) : Nat := 0x1D00000 + 0x100 * p
def aptGroup (g : Nat) : Nat := 0x1D10020 + 0x20 * g

/-- The fields of APT_PORT_CFG. -/
def portCfgFields : List Fld :=
  [F.APT_PORT_CFG_EN, F.APT_PORT_CFG_DIR, F.APT_PORT_CFG_FMT, F.APT_PORT_CFG_SLOTS, F.APT_PORT_CFG_WIDTH, F.APT_PORT_CFG_FS_NOM,
    F.APT_PORT_CFG_BCLK_FALL, F.APT_PORT_CFG_DATA_DELAY, F.APT_PORT_CFG_OUT_HIZ, F.APT_PORT_CFG_GROUP]

/-- The word as it is stored: a GROUP of 9–15 is 0. -/
def portCfgWord (w : Nat) : Nat := if bits w 12 4 > 8 then w - bits w 12 4 * 2 ^ 12 else w

/-- The write changes a field other than EN. -/
def Dev.portCfgChanges (d : Dev) (p w : Nat) : Bool :=
  (portCfgFields.drop 1).any fun f => fieldOf f (portCfgWord w) != d.get f p

/-- Why a write of APT_PORT_CFG is discarded: 0 it is not, else the reason of R376 or R379, 1 for a reserved value. -/
def Dev.portCfgRefusal (d : Dev) (p w : Nat) : Nat :=
  if !goodPortCfg w then 1
  else if !bclkFits w then 0x50
  else if d.portState p != 0 && d.portCfgChanges p w then 0x51
  else 0

/-- A write of APT_PORT_CFG (R376, R378, R379). -/
def Dev.writePortCfg (d : Dev) (p w : Nat) : Dev :=
  if d.portCfgRefusal p w != 0 then d
  else
    let d := portCfgFields.foldl (fun d f => d.set f p (fieldOf f (portCfgWord w))) d
    if bit w 31 then (if d.portState p = 0 then d.portTo p 1 else d) else d.portTo p 0

/-- A write of APT_PORT_MASK: the pending mask; bits at or above S are stored as 0 (R386). -/
def Dev.writePortMask (d : Dev) (p w : Nat) : Dev := d.set F.APT_PORT_MASK_MASK p (w % 2 ^ d.portSlots p)

/-- A write of APT_PORT_MUTE (R389, R390). -/
def Dev.writePortMute (d : Dev) (p w : Nat) : Dev := (d.set F.APT_PORT_MUTE_MUTE p w).settlePort p

/-- A write of APT_PORT_CTRL. -/
def Dev.writePortCtrl (d : Dev) (p w : Nat) : Dev := if bit w 0 then d.restartPort p else d

/-! ### Commands (R400) -/

/-- A 4-byte number below `n`. -/
def below4 (n : Nat) : List Byte → Bool := num 4 (· < n)

/-- APT is lease unit 12. -/
def aptUnit (_ : List Tlv) : List Nat := [12]

/-- APORT_CONFIG (0x0350). -/
def aportConfigSpec : Spec :=
  { op := 0x0350, pars := [.req 0x0101 (below4 24), .opt 0x0102 (num 4 goodPortCfg), .opt 0x0103 any4], units := aptUnit }

def Dev.aportConfig (d : Dev) (q : Req) : Dev := d.command q aportConfigSpec fun d ts =>
  let p := tlvNum ts 0x0101
  let w := tlvNum ts 0x0102
  let r := if hasTlv ts 0x0102 then d.portCfgRefusal p w else 0
  if r != 0 then d.reply q 0x0350 St.badParam [statusDetail (tlvIndex ts 0x0102) 0xFF r]
  else
    let d := if hasTlv ts 0x0102 then (d.writePortCfg p w).mirrorReg (aptPort p) else d
    let d := if hasTlv ts 0x0103 then (d.writePortMask p (tlvNum ts 0x0103)).mirrorReg (aptPort p + 4) else d
    d.reply q 0x0350 St.ok

/-- APORT_MUTE (0x0351). -/
def aportMuteSpec : Spec :=
  { op := 0x0351, pars := [.req 0x0101 (below4 24), .req 0x0104 any4, .req 0x0105 any4], units := aptUnit }

def Dev.aportMute (d : Dev) (q : Req) : Dev := d.command q aportMuteSpec fun d ts =>
  let p := tlvNum ts 0x0101
  let sel := tlvNum ts 0x0104
  let v := (d.get F.APT_PORT_MUTE_MUTE p &&& (0xFFFFFFFF ^^^ sel)) ||| (tlvNum ts 0x0105 &&& sel)
  ((d.writePortMute p v).mirrorReg (aptPort p + 0x10)).reply q 0x0351 St.ok

/-- APORT_GROUP_CONFIG (0x0352): START holds START_SRC and PIN, two bytes each (log entry 41). -/
def aportGroupConfigSpec : Spec :=
  { op := 0x0352, pars := [.req 0x0106 (num 4 fun g => 1 ≤ g && g ≤ 8), .req 0x0107 (pair fun s p => s ≤ 4 && p < 32)]
    units := aptUnit }

def Dev.aportGroupConfig (d : Dev) (q : Req) : Dev := d.command q aportGroupConfigSpec fun d ts =>
  let g := tlvNum ts 0x0106 - 1
  let v := (tlv? ts 0x0107).getD []
  let d := (d.set F.APT_GROUP_CTRL_START_SRC g (beVal (v.take 2))).set F.APT_GROUP_CTRL_PIN g (beVal (v.drop 2))
  (d.mirrorReg (aptGroup g)).reply q 0x0352 St.ok

/-- APORT_ARM (0x0353): LEASED while START_SRC 3 needs a GPIO block that is leased; reason 0x52 with no member READY. -/
def aportArmSpec : Spec := { op := 0x0353, pars := [.req 0x0106 (num 4 fun g => 1 ≤ g && g ≤ 8)], units := aptUnit }

def Dev.aportArm (d : Dev) (q : Req) : Dev := d.command q aportArmSpec fun d ts =>
  let g := tlvNum ts 0x0106 - 1
  if d.get F.APT_GROUP_CTRL_START_SRC g == 3 && d.holder 15 != 7 then d.reply q 0x0353 St.leased
  else if !(d.members g).any fun p => d.portState p == 2 then
    d.reply q 0x0353 St.badParam [statusDetail (tlvIndex ts 0x0106) 0xFF 0x52]
  else ((d.armGroup g).mirrorReg (aptGroup g)).reply q 0x0353 St.ok

/-- APORT_START (0x0354): fires an armed group with START_SRC 4; reason 0x53 otherwise. -/
def aportStartSpec : Spec := { op := 0x0354, pars := [.req 0x0106 (num 4 fun g => 1 ≤ g && g ≤ 8)], units := aptUnit }

def Dev.aportStart (d : Dev) (q : Req) : Dev := d.command q aportStartSpec fun d ts =>
  let g := tlvNum ts 0x0106 - 1
  if d.get F.APT_GROUP_CTRL_ARM g == 0 || d.get F.APT_GROUP_CTRL_START_SRC g != 4 then
    d.reply q 0x0354 St.badParam [statusDetail (tlvIndex ts 0x0106) 0xFF 0x53]
  else ((d.trigger g).mirrorReg (aptGroup g)).reply q 0x0354 St.ok

/-- APORT_RESTART (0x0355). -/
def aportRestartSpec : Spec := { op := 0x0355, pars := [.req 0x0101 (below4 24)], units := aptUnit }

def Dev.aportRestart (d : Dev) (q : Req) : Dev := d.command q aportRestartSpec fun d ts =>
  (d.restartPort (tlvNum ts 0x0101)).reply q 0x0355 St.ok

/-- APT_PORT_STATUS as read: the stored bits and LEADER. -/
def Dev.portStatusWord (d : Dev) (p : Nat) : Nat := d.storedAt (aptPort p + 0x18) + 2 ^ 25 * ofBool (d.leads p)

/-- APORT_STATUS_GET (0x0356). -/
def aportStatusGetSpec : Spec := { op := 0x0356, pars := [.req 0x0108 (below4 24), .req 0x0109 (num 4 fun n => 1 ≤ n && n ≤ 24)] }

def Dev.aportStatusGet (d : Dev) (q : Req) : Dev := d.command q aportStatusGetSpec fun d ts =>
  let first := tlvNum ts 0x0108
  let n := tlvNum ts 0x0109
  if first + n > 24 then d.reply q 0x0356 St.badParam [statusDetail (tlvIndex ts 0x0109) 0xFF 0]
  else d.reply q 0x0356 St.ok ((rangeList (first, n)).map fun p =>
    data (w4 (d.portStatusWord p) :: [0x1C, 0x40, 0x44, 0x48, 0x4C, 0x50, 0x54, 0x58, 0x5C].map fun o =>
      w4 (d.storedAt (aptPort p + o))))

/-! ### The rows -/

def execAportFrame (port : Fin 24) (x : PortFrame) (s : State) : Host.Outcome State Fault Refusal := lift (·.portFrame port x) s
def execFsTimeout (port : Fin 24) (cycles : List BclkCycle) (s : State) : Host.Outcome State Fault Refusal :=
  lift (·.fsTimeout port cycles) s
def execPortCfgWrite (m : Fin 8) (port : Fin 24) (v : Word) (s : State) : Host.Outcome State Fault Refusal :=
  lift (fun d => d.busWrite m (aptPort port) v.toNat (·.writePortCfg port v.toNat)) s
def execPortRestart (m : Fin 8) (port : Fin 24) (v : Word) (s : State) : Host.Outcome State Fault Refusal :=
  lift (fun d => d.busWrite m (aptPort port + 0xC) v.toNat (·.writePortCtrl port v.toNat)) s
def execMaskWrite (m : Fin 8) (port : Fin 24) (v : Word) (s : State) : Host.Outcome State Fault Refusal :=
  lift (fun d => d.busWrite m (aptPort port + 4) v.toNat (·.writePortMask port v.toNat)) s
def execMuteWrite (m : Fin 8) (port : Fin 24) (v : Word) (s : State) : Host.Outcome State Fault Refusal :=
  lift (fun d => d.busWrite m (aptPort port + 0x10) v.toNat (·.writePortMute port v.toNat)) s
def execZcTimeout (port : Fin 24) (channel : Fin 32) (s : State) : Host.Outcome State Fault Refusal :=
  lift (·.zcTimeout port channel) s

/-- A write with ARM set. -/
def execGroupArm (m : Fin 8) (group : Fin 8) (v : Word) (_offsets : Computed) (s : State) :
    Host.Outcome State Fault Refusal :=
  lift (fun d => d.busWrite m (aptGroup group) (v.toNat ||| 2 ^ 31) fun d =>
    d.writeGroupCtrl group (v.toNat ||| 2 ^ 31)) s

/-- A write with FIRE set. -/
def execGroupFire (m : Fin 8) (group : Fin 8) (v : Word) (s : State) : Host.Outcome State Fault Refusal :=
  lift (fun d => d.busWrite m (aptGroup group) (v.toNat ||| 2 ^ 30) fun d =>
    d.writeGroupCtrl group (v.toNat ||| 2 ^ 30)) s
def execGroupStart (group : Fin 8) (s : State) : Host.Outcome State Fault Refusal := lift (·.groupStart group) s
def execAportConfig (q : Req) (s : State) : Host.Outcome State Fault Refusal := lift (·.aportConfig q) s
def execAportMute (q : Req) (s : State) : Host.Outcome State Fault Refusal := lift (·.aportMute q) s
def execAportGroupConfig (q : Req) (s : State) : Host.Outcome State Fault Refusal := lift (·.aportGroupConfig q) s
def execAportArm (q : Req) (_offsets : Computed) (s : State) : Host.Outcome State Fault Refusal := lift (·.aportArm q) s
def execAportStart (q : Req) (s : State) : Host.Outcome State Fault Refusal := lift (·.aportStart q) s
def execAportRestart (q : Req) (s : State) : Host.Outcome State Fault Refusal := lift (·.aportRestart q) s
def execAportStatusGet (q : Req) (s : State) : Host.Outcome State Fault Refusal := lift (·.aportStatusGet q) s

end Sys2Proof.Machine
end

