-- ==== Sys2Proof/Machine/Fen.lean ====
section
/-! DEFINITION. The Fen signal engines (R425–R450): units and their registers, the instructions, repeat blocks, pointers, traps,
gathers and scatters, jobs and their deadlines, swaps. -/

namespace Sys2Proof.Machine

/-! ### Units and their registers (R425, R428) -/

/-- The unit with physical index `n`. -/
def Dev.unit (d : Dev) (n : Nat) : FenUnit :=
  ((d.fen.units.find? fun e => e.1 == n).map Prod.snd).getD FenUnit.reset

/-- Unit `n` replaced. -/
def Dev.setUnit (d : Dev) (n : Nat) (u : FenUnit) : Dev :=
  let rest := d.fen.units.filter fun e => e.1 != n
  let units := if u = FenUnit.reset then rest else insertBy (fun a b => a.1 ≤ b.1) (n, u) rest
  { d with fen := { d.fen with units := units } }

/-- Unit `n` changed. -/
def Dev.onUnit (d : Dev) (n : Nat) (f : FenUnit → FenUnit) : Dev := d.setUnit n (f (d.unit n))

/-- The logical engine that a unit serves; 0x1FF for none (R425). -/
def Dev.engineOf (d : Dev) (n : Nat) : Nat := d.get F.FEN_ENG_STATUS_LOGICAL n

/-- The unit that serves a logical engine (R425). -/
def Dev.unitFor (d : Dev) (l : Nat) : Nat := d.get F.FEN_MAP_PHYS l

/-- A job or a handler runs. -/
def FenUnit.running (u : FenUnit) : Bool := u.level != 0 || u.job0.isSome

/-- The bank of the current level: level 3 uses that of level 2 (R428). -/
def FenUnit.bankNo (u : FenUnit) : Nat := min u.level 2

def FenUnit.bank (u : FenUnit) : FenBank := u.banks.getD u.bankNo FenBank.reset

def FenUnit.onBank (u : FenUnit) (f : FenBank → FenBank) : FenUnit := { u with banks := u.banks.modify u.bankNo f }

/-- The next instruction of the current level. -/
def FenUnit.pc (u : FenUnit) : Nat := u.pcs.getD u.level 0

def FenUnit.goto (u : FenUnit) (pc : Nat) : FenUnit := { u with pcs := u.pcs.set u.level pc }

/-- A general register. -/
def FenUnit.reg (u : FenUnit) (i : Nat) : Nat := u.g.getD i 0

/-- A general register as a signed number. -/
def FenUnit.sreg (u : FenUnit) (i : Nat) : Int := toSigned 32 (u.reg i)

def FenUnit.setReg (u : FenUnit) (i v : Nat) : FenUnit := { u with g := u.g.set i (v % 2 ^ 32) }

def FenUnit.ptr (u : FenUnit) (p : Nat) : FenPtr := u.ptrs.getD p ⟨0, 0, 0, 0, 0⟩

/-- A word of program memory (R429). -/
def FenUnit.program (u : FenUnit) (a : Nat) : Nat := (u.mem.find? 0 a).getD 0

/-- A word of data memory (R429). -/
def FenUnit.data (u : FenUnit) (a : Nat) : Nat := (u.mem.find? 1 a).getD 0

def FenUnit.setProgram (u : FenUnit) (a v : Nat) : FenUnit := { u with mem := u.mem.store 0 a (v % 2 ^ 32) 0 }

def FenUnit.setData (u : FenUnit) (a v : Nat) : FenUnit := { u with mem := u.mem.store 1 a (v % 2 ^ 32) 0 }

/-- Program memory replaced by an image. -/
def FenUnit.load (u : FenUnit) (image : List Nat) : FenUnit :=
  (image.take 8192).zipIdx.foldl (fun u w => u.setProgram w.2 w.1) { u with mem := u.mem.filter fun c => c.fld != 0 }

/-- The level whose job lies beneath the current one: that level itself, or the one that level 2 interrupted. -/
def FenUnit.base (u : FenUnit) : Nat := if u.level < 2 then u.level else u.under

/-- The list entry of the job in progress. -/
def FenUnit.entry (u : FenUnit) : Option Nat := if u.base = 1 then u.job1 else u.job0

/-- The words of a pointer, as the special registers lay them out: ORIGIN, SPAN, OFFSET, STEPS. -/
def FenPtr.words (p : FenPtr) : List Nat := [p.origin, p.span, p.offset, p.stepB * 2 ^ 16 + p.stepA]

/-- One word of a pointer written (R437). -/
def FenPtr.write (p : FenPtr) (f v : Nat) : FenPtr :=
  match f with
  | 0 => { p with origin := v % 2 ^ 14 }
  | 1 => { p with span := v % 2 ^ 15 }
  | 2 => { p with offset := v % 2 ^ 14 }
  | _ => { p with stepA := v % 2 ^ 12, stepB := bits v 16 12 }

/-- STATUS: the sticky bits, HOLD of the bank and LEVEL. -/
def FenUnit.status (u : FenUnit) : Nat :=
  u.guardOvf + 2 * u.wbSat + 16 * wordOfBits ((List.range 4).filter fun k => u.bank.hold.getD k 0 != 0) + 256 * u.level

/-! ### Jobs (R443–R445) -/

/-- The index of a job-list entry. -/
def jobIndex (l k : Nat) : Nat := 64 * l + k

/-- The entries of a class in an engine's list, in list order. -/
def Dev.entriesOf (d : Dev) (l cls : Nat) : List Nat :=
  (List.range 64).filter fun k =>
    d.get F.FEN_JOB_EN (jobIndex l k) == 1 && d.get F.FEN_JOB_CLASS (jobIndex l k) == cls

/-- A unit may start a job: not halted, its engine serviceable and its program memory loaded (R427, R449). -/
def Dev.fenMayStart (d : Dev) (n : Nat) : Bool :=
  let l := d.engineOf n
  l < 256 && d.get F.FEN_ENG_CTRL_HALT n == 0 && d.get F.FEN_MAP_VALID l == 1 && d.hget H.fenReload l == 0

/-- A job starts at a level: its entry address, P7 and its entry (R443). -/
def Dev.startJob (d : Dev) (n level k : Nat) : Dev :=
  let j := jobIndex (d.engineOf n) k
  d.onUnit n fun u =>
    let u := { u with level := level, ptrs := u.ptrs.set 7 ⟨d.get F.FEN_JOB_ARG_ARG j, 0, 0, 1, 0⟩ }
    let u := if level = 1 then { u with job1 := some k } else { u with job0 := some k }
    u.goto (d.get F.FEN_JOB_ENTRY j)

/-- The next job that waits: a BLOCK job at level 1 over level 0, else a FRAME job at an idle level 0 (R440, R443); none on
a halted unit (R449). -/
def Dev.dispatch (d : Dev) (n : Nat) : Dev :=
  let u := d.unit n
  if u.level ≠ 0 || d.get F.FEN_ENG_CTRL_HALT n == 1 then d
  else
    match u.blockDue, u.job1, u.frameDue, u.job0 with
    | k :: rest, none, _, _ => (d.setUnit n { u with blockDue := rest }).startJob n 1 k
    | _, _, k :: rest, none => (d.setUnit n { u with frameDue := rest }).startJob n 0 k
    | _, _, _, _ => d

/-- The guard holds of a bank end (R433). -/
def FenUnit.freeHolds (u : FenUnit) (b : Nat) : FenUnit :=
  { u with banks := u.banks.modify b fun k => { k with hold := [0, 0, 0, 0] } }

/-- The job of base level `b` leaves the unit; the unit is at level 0 again. -/
def FenUnit.leave (u : FenUnit) (b : Nat) : FenUnit :=
  let u := (u.freeHolds b).freeHolds 2
  let u := if b = 1 then { u with job1 := none } else { u with job0 := none }
  { u with level := 0 }

/-- A job is abandoned: what it has outstanding is not published (R444, R445). -/
def Dev.abandonJob (d : Dev) (n b : Nat) : Dev :=
  let u := d.unit n
  let l := d.engineOf n
  match (if b = 1 then u.job1 else u.job0) with
  | none => d
  | some k =>
    let d := d.setUnit n { u.leave b with ops := u.ops.filter fun o => o.entry != k }
    { d with fen := { d.fen with records := d.fen.records.filter fun r => !(r.engine == l && r.entry == k) } }

/-- A job counts as trapped and is abandoned (R447); the next one starts. -/
def Dev.trapJob (d : Dev) (n : Nat) : Dev :=
  let d := match (d.unit n).entry with
    | some k => if (d.unit n).base = 1 then d.hset H.jobLost (jobIndex (d.engineOf n) k) 1 else d
    | none => d
  ((d.bump C.FEN_JOBS_TRAPPED (d.engineOf n)).abandonJob n (d.unit n).base).dispatch n

/-- Job `k` of engine `l` has reached JEND: a mix job is done (R415, R424). -/
def Dev.mixDone (d : Dev) (l k : Nat) : Dev :=
  d.each ((d.hinsts H.mixOpen).filter fun j => k == 0 && d.hget H.mixOpen j == 1 && d.get F.AMX_JOB_ENGINE_ENGINE j == l) fun d j =>
    (d.hset H.mixOpen j 0).bump C.AMX_JOB_BLOCKS_DONE j

/-! ### Traps (R447) -/

/-- A trap with its cause at the current instruction: recorded for the level that is entered, counted and raised.  At level 3
it is recorded with cause DOUBLE and the job is abandoned. -/
def Dev.fenTrap (d : Dev) (n cause : Nat) : Dev :=
  let u := d.unit n
  let l := d.engineOf n
  let pc := u.pc % 8192
  let cause := if u.level = 3 then 8 else cause
  let copy := if u.level < 2 then 0 else 1
  let d := (((d.set F.FEN_TRAP_CAUSE n cause).set F.FEN_TRAP_LEVEL n u.level).set F.FEN_TRAP_PC n pc).bump C.FEN_TRAPS l
  let d := d.raise 769 [l, u.entry.getD 0, cause, pc]
  let u := { u with trapCause := u.trapCause.set copy cause, trapPc := u.trapPc.set copy pc }
  if u.level = 3 then (d.setUnit n u).trapJob n
  else if u.level = 2 then d.setUnit n ({ u with level := 3 }.goto 0xC)
  else d.setUnit n ({ u with level := 2, under := u.level }.goto 8)

/-! ### The flow of instructions and the repeat blocks (R435, R436) -/

/-- How an instruction ends. -/
inductive FenFlow
  /-- The next instruction follows, by the rules at the end of an iteration. -/
  | next
  /-- Execution continues at a word of program memory. -/
  | jump (pc : Nat)
  /-- It waits, and has no effect yet. -/
  | stall
  /-- It traps before it has any effect. -/
  | trap (cause : Nat)
  /-- The unit's place has been set. -/
  | done
  deriving DecidableEq, Repr

/-- The shift of G48–G63 (R436). -/
def FenUnit.shift (u : FenUnit) : FenUnit :=
  { u with g := u.g.take 48 ++ (u.reg 63 :: (u.g.drop 48).take 15) }

/-- The innermost block ends: its depth, and the guard holds that end with it (R433, R435). -/
def FenBank.endBlock (k : FenBank) : FenBank :=
  { k with depth := k.depth - 1, hold := k.hold.map fun h => if h = k.depth + 1 ∨ h = 9 then 0 else h }

/-- An instruction at `pc` completes: the innermost block, then each that ends on the same instruction, is decided; at most three
blocks are active (R435, R436). -/
def FenUnit.complete : Nat → Nat → FenUnit → FenUnit
  | 0, pc, u => u.goto (pc + 1)
  | f + 1, pc, u =>
    let b := u.bank
    let e := b.depth - 1
    if b.depth = 0 ∨ b.fin.getD e 0 ≠ pc then u.goto (pc + 1)
    else
      let u := if bit b.shf e then u.shift else u
      if b.cnt.getD e 0 > 0 then
        (u.onBank fun b => { b with cnt := b.cnt.modify e (· - 1), iter := b.iter.modify e fun i => (i + 1) % 65536 }).goto (b.beg.getD e 0)
      else FenUnit.complete f pc (u.onBank FenBank.endBlock)

/-- The current instruction completes. -/
def FenUnit.advance (u : FenUnit) : FenUnit := FenUnit.complete 3 u.pc u

/-- Unit `n` executes the instruction at its place, if that is one with opcode `op`: a fetch beyond word 8,191 traps PM_RANGE and an
undefined opcode traps ILLEGAL, whatever `op` is (R447). -/
def fenOpcodes : List Nat :=
  [0x00, 0x01, 0x02, 0x03, 0x04, 0x05, 0x06, 0x08, 0x09, 0x0A, 0x10, 0x11, 0x12, 0x13, 0x18, 0x19, 0x20, 0x21, 0x22, 0x23, 0x24,
   0x25, 0x26, 0x27, 0x28, 0x30, 0x31, 0x32, 0x3F]

def Dev.fenRow (d : Dev) (n op : Nat) (f : Dev → Nat → Nat → Dev × FenFlow) : Dev :=
  let u := d.unit n
  if !u.running then d
  else if u.pc ≥ 8192 then d.fenTrap n 4
  else
    let w := u.program u.pc
    if !fenOpcodes.contains (bits w 26 6) then d.fenTrap n 1
    else if bits w 26 6 ≠ op then d
    else
      let r := f d n w
      match r.2 with
      | .next => r.1.onUnit n FenUnit.advance
      | .jump pc => r.1.onUnit n fun u => u.goto pc
      | .stall => d
      | .trap c => d.fenTrap n c
      | .done => r.1

/-- An instruction that changes only its unit. -/
def onlyUnit (f : FenUnit → Nat → FenUnit × FenFlow) (d : Dev) (n w : Nat) : Dev × FenFlow :=
  let r := f (d.unit n) w
  (d.setUnit n r.1, r.2)

/-! ### Accumulators (R431–R434) -/

/-- NOP does nothing (R429). -/
def Dev.fenNop (d : Dev) (_n _w : Nat) : Dev × FenFlow := (d, .next)

/-- What HOLD remembers of an overflow: the repeat depth at which it lay, plus 1; level 3 has no bank of its own, and an overflow of its
depth 0 ends with that level (R433, R440). -/
def FenUnit.holdMark (u : FenUnit) (depth : Nat) : Nat := if u.level = 3 ∧ depth = 0 then 10 else 1 + depth

/-- A product added to, or subtracted from, accumulator `k`; a sum beyond 72 bits saturates and enters guard hold, and is counted
(R431, R433). -/
def Dev.accumulateIn (d : Dev) (n k : Nat) (p : Int) : Dev :=
  let u := d.unit n
  let b := u.bank
  if b.hold.getD k 0 ≠ 0 then d
  else
    let s := b.acc.getD k 0 + p
    let v := saturate 72 s
    if v = s then d.setUnit n (u.onBank fun b => { b with acc := b.acc.set k v })
    else
      let l := d.engineOf n
      let d := d.setUnit n ({ u with guardOvf := 1 }.onBank fun b =>
        { b with acc := b.acc.set k v, hold := b.hold.set k (u.holdMark b.depth) })
      let d := d.bump C.FEN_GUARD_OVF_CNT l
      if d.get F.FEN_ENG_STATUS_GUARD_OVF n == 1 then d
      else (d.set F.FEN_ENG_STATUS_GUARD_OVF n 1).raise 768 [l, u.entry.getD 0, u.pc]

/-- The product with the sign that SUB gives it (R431). -/
def FenUnit.product (u : FenUnit) (x y sub : Nat) : Int :=
  let p := u.sreg x * u.sreg y
  if sub = 1 then -p else p

/-- MAC2 (R431, R434). -/
def Dev.fenMac2 (d : Dev) (n w : Nat) : Dev × FenFlow :=
  let a := bits w 24 2
  let b := bits w 22 2
  let s := bits w 16 6
  let g := bits w 10 6
  let u := d.unit n
  if a = b ∨ s % 2 = 1 ∨ g % 2 = 1 then (d, .trap 1)
  else ((d.accumulateIn n a (u.product s g (bits w 0 1))).accumulateIn n b (u.product (s + 1) (g + 1) (bits w 0 1)), .next)

/-- MAC (R431). -/
def Dev.fenMac (d : Dev) (n w : Nat) : Dev × FenFlow :=
  (d.accumulateIn n (bits w 24 2) ((d.unit n).product (bits w 16 6) (bits w 10 6) (bits w 0 1)), .next)

/-- Accumulator `k` written, unless it is in guard hold (R433). -/
def FenBank.setAcc (b : FenBank) (k : Nat) (v : Int) : FenBank :=
  if b.hold.getD k 0 ≠ 0 then b else { b with acc := b.acc.set k v }

/-- CLR: the accumulators that MASK names (R433). -/
def fenClr (u : FenUnit) (w : Nat) : FenUnit × FenFlow :=
  (u.onBank fun b => ((List.range 4).filter (bit w)).foldl (fun b k => b.setAcc k 0) b, .next)

/-- Bits s + 31 … s of an accumulator, rounded convergently or cut, before saturation (R432). -/
def writeBack (a : Int) (s : Nat) (cut : Bool) : Int := if cut then a / (2 ^ s : Nat) else divEven a (2 ^ s)

/-- WB (R432).  A shift above 40 is not among those the rule states, so what it takes from the accumulator is open. -/
def Dev.fenWb (d : Dev) (n w : Nat) : Dev × FenFlow :=
  let s := bits w 8 6
  let u := d.unit n
  let (q, d) := if s ≤ 40 then (writeBack (u.bank.acc.getD (bits w 18 2) 0) s (bit w 0), d)
    else let (v, d) := d.fresh; (toSigned 72 v, d)
  let v := saturate 32 q
  let u := u.setReg (bits w 20 6) (ofSigned 32 v)
  (d.setUnit n (if v = q then u else { u with wbSat := 1 }), .next)

/-! ### Special registers -/

/-- A special register; none where the table lists nothing. -/
def FenUnit.special (u : FenUnit) (sr : Nat) : Option Nat :=
  let b := u.bank
  let copy := if u.level = 3 then 1 else 0
  if sr = 0 then some u.status
  else if sr = 1 then some b.lr
  else if sr = 2 then some b.shf
  else if sr = 3 then some b.depth
  else if sr = 4 then some (u.trapCause.getD copy 0)
  else if sr = 5 then some (u.trapPc.getD copy 0)
  else if 0x10 ≤ sr ∧ sr < 0x20 ∧ sr % 4 < 3 then
    some (([b.cnt, b.beg, b.fin, b.iter].getD ((sr - 0x10) / 4) []).getD (sr % 4) 0)
  else if 0x20 ≤ sr ∧ sr < 0x30 ∧ sr % 4 < 3 then
    let a := ofSigned 96 (b.acc.getD ((sr - 0x20) / 4) 0)
    some (bits a (32 * (sr % 4)) 32)
  else if 0x40 ≤ sr ∧ sr < 0x60 then some ((u.ptr ((sr - 0x40) / 4)).words.getD (sr % 4) 0)
  else none

/-- A word written into an accumulator (the table of special registers). -/
def accWord (a : Int) (j v : Nat) : Int :=
  let x := ofSigned 72 a
  match j with
  | 0 => toSigned 72 (x / 2 ^ 32 * 2 ^ 32 + v % 2 ^ 32)
  | 1 => toSigned 72 (x / 2 ^ 64 * 2 ^ 64 + v % 2 ^ 32 * 2 ^ 32 + x % 2 ^ 32)
  | _ => toSigned 72 (v % 256 * 2 ^ 64 + x % 2 ^ 64)

/-- A special register written; what the table does not list stays as it is.  A HOLD bit that is set anew does not say at which depth
its overflow lay (log entry 80). -/
def FenUnit.setSpecial (u : FenUnit) (sr v : Nat) : FenUnit :=
  let copy := if u.level = 3 then 1 else 0
  if sr = 0 then
    { u with guardOvf := v % 2, wbSat := v / 2 % 2 }.onBank fun b =>
      { b with hold := b.hold.zipIdx.map fun (h : Nat × Nat) => if bit v (4 + h.2) then (if h.1 = 0 then 9 else h.1) else 0 }
  else if sr = 1 then u.onBank fun b => { b with lr := v % 8192 }
  else if sr = 2 then u.onBank fun b => { b with shf := v % 8 }
  else if sr = 3 then u.onBank fun b => { b with depth := v % 4 }
  else if sr = 4 then { u with trapCause := u.trapCause.set copy (v % 16) }
  else if sr = 5 then { u with trapPc := u.trapPc.set copy (v % 8192) }
  else if 0x10 ≤ sr ∧ sr < 0x20 ∧ sr % 4 < 3 then u.onBank fun b =>
    match (sr - 0x10) / 4 with
    | 0 => { b with cnt := b.cnt.set (sr % 4) (v % 65536) }
    | 1 => { b with beg := b.beg.set (sr % 4) (v % 8192) }
    | 2 => { b with fin := b.fin.set (sr % 4) (v % 8192) }
    | _ => { b with iter := b.iter.set (sr % 4) (v % 65536) }
  else if 0x20 ≤ sr ∧ sr < 0x30 ∧ sr % 4 < 3 then u.onBank fun b =>
    let k := (sr - 0x20) / 4
    b.setAcc k (accWord (b.acc.getD k 0) (sr % 4) v)
  else if 0x40 ≤ sr ∧ sr < 0x60 then { u with ptrs := u.ptrs.modify ((sr - 0x40) / 4) fun p => p.write (sr % 4) v }
  else u

/-- MFS; a special register that the table does not list reads an open value. -/
def Dev.fenMfs (d : Dev) (n w : Nat) : Dev × FenFlow :=
  let u := d.unit n
  let (v, d) := match u.special (bits w 0 12) with
    | some v => (v, d)
    | none => d.fresh
  (d.setUnit n (u.setReg (bits w 20 6) v), .next)

/-- MTS. -/
def fenMts (u : FenUnit) (w : Nat) : FenUnit × FenFlow := (u.setSpecial (bits w 0 12) (u.reg (bits w 14 6)), .next)

/-! ### Arithmetic -/

/-- ALU: ADD and SUB saturate, MIN and MAX compare signed values; the negative of 0x8000_0000 is not stated, so ABS and NEG of it
give an open value. -/
def Dev.fenAlu (d : Dev) (n w : Nat) : Dev × FenFlow :=
  let u := d.unit n
  let x := u.sreg (bits w 14 6)
  let y := u.sreg (bits w 8 6)
  let put := fun (d : Dev) v => (d.setUnit n (u.setReg (bits w 20 6) v), FenFlow.next)
  let neg := fun v : Int => if v = 2 ^ 31 then (let r := d.fresh; put r.2 r.1) else put d (ofSigned 32 v)
  match bits w 0 8 with
  | 0 => put d (ofSigned 32 (saturate 32 (x + y)))
  | 1 => put d (ofSigned 32 (saturate 32 (x - y)))
  | 2 => put d (u.reg (bits w 14 6) &&& u.reg (bits w 8 6))
  | 3 => put d (u.reg (bits w 14 6) ||| u.reg (bits w 8 6))
  | 4 => put d (u.reg (bits w 14 6) ^^^ u.reg (bits w 8 6))
  | 5 => neg (if x < 0 then -x else x)
  | 6 => neg (-x)
  | 7 => put d (ofSigned 32 (min x y))
  | 8 => put d (ofSigned 32 (max x y))
  | _ => (d, .trap 1)

/-- SHF: SHL saturates, SHR fills with zeros, ASR with the sign. -/
def fenShf (u : FenUnit) (w : Nat) : FenUnit × FenFlow :=
  let a := bits w 14 6
  let k := bits w 8 6
  let put := fun v => (u.setReg (bits w 20 6) v, FenFlow.next)
  match bits w 0 2 with
  | 0 => put (ofSigned 32 (saturate 32 (u.sreg a * (2 ^ k : Nat))))
  | 1 => put (u.reg a / 2 ^ k)
  | 2 => put (ofSigned 32 (u.sreg a / (2 ^ k : Nat)))
  | _ => (u, .trap 1)

/-- LDI: the low half sign-extended, or the high half. -/
def fenLdi (u : FenUnit) (w : Nat) : FenUnit × FenFlow :=
  let g := bits w 20 6
  let imm := bits w 0 16
  (u.setReg g (if bit w 16 then imm * 65536 + u.reg g % 65536 else ofSigned 32 (toSigned 16 imm)), .next)

/-! ### Pointers (R437, R438) -/

/-- The step of a pointer (R437). -/
def FenPtr.step (p : FenPtr) (s : Nat) : FenPtr :=
  let by' := if s = 1 then toSigned 12 p.stepA else if s = 2 then toSigned 12 p.stepB else 0
  let m := if p.span = 0 then 16384 else p.span
  { p with offset := (((p.offset : Int) + by') % (m : Int)).toNat }

/-- An access through a pointer folds its OFFSET first (R438). -/
def FenPtr.folds (p : FenPtr) : Bool := p.span != 0 && p.offset ≥ p.span

/-- The pointer as the access uses it. -/
def FenPtr.folded (p : FenPtr) : FenPtr := if p.folds then { p with offset := p.offset % p.span } else p

/-- The data memory word that the pointer names. -/
def FenPtr.address (p : FenPtr) : Nat := p.folded.origin + p.folded.offset

/-- The fold of pointer `i` is counted, and raised once a second for each engine (R438). -/
def Dev.countFold (d : Dev) (n i : Nat) : Dev :=
  let p := (d.unit n).ptr i
  if !p.folds then d
  else
    let l := d.engineOf n
    let d := d.bump C.FEN_FOLDS l
    let sec := d.clock.core / 1000000000 + 1
    if d.hget H.fenFoldSecond l = sec then d
    else (d.hset H.fenFoldSecond l sec).raise 772 [l, i, p.folded.offset]

/-- Pointer `i` after an access with step field `s`. -/
def FenUnit.stepPtr (u : FenUnit) (i s : Nat) : FenUnit := { u with ptrs := u.ptrs.modify i fun p => p.folded.step s }

/-- LD. -/
def Dev.fenLd (d : Dev) (n w : Nat) : Dev × FenFlow :=
  let i := bits w 17 3
  let s := bits w 15 2
  let a := ((d.unit n).ptr i).address
  if s = 3 then (d, .trap 1)
  else if a ≥ 16384 then (d, .trap 3)
  else ((d.countFold n i).onUnit n fun u => (u.setReg (bits w 20 6) (u.data a)).stepPtr i s, .next)

/-- ST. -/
def Dev.fenSt (d : Dev) (n w : Nat) : Dev × FenFlow :=
  let i := bits w 17 3
  let s := bits w 15 2
  let a := ((d.unit n).ptr i).address
  if s = 3 then (d, .trap 1)
  else if a ≥ 16384 then (d, .trap 3)
  else ((d.countFold n i).onUnit n fun u => (u.setData a (u.reg (bits w 20 6))).stepPtr i s, .next)

/-- LD2 (R429, R434, R437). -/
def Dev.fenLd2 (d : Dev) (n w : Nat) : Dev × FenFlow :=
  let i := bits w 17 3
  let j := bits w 14 3
  let s := bits w 12 2
  let g := bits w 20 6
  let a := ((d.unit n).ptr i).address
  let b := ((d.unit n).ptr j).address
  if s = 3 ∨ g % 2 = 1 ∨ i = j then (d, .trap 1)
  else if a ≥ 16384 ∨ b ≥ 16384 then (d, .trap 3)
  else (((d.countFold n i).countFold n j).onUnit n fun u =>
    (((u.setReg g (u.data a)).setReg (g + 1) (u.data b)).stepPtr i s).stepPtr j s, .next)

/-- SETP (R437). -/
def fenSetp (u : FenUnit) (w : Nat) : FenUnit × FenFlow :=
  ({ u with ptrs := u.ptrs.modify (bits w 23 3) fun p => p.write (bits w 21 2) (u.reg (bits w 14 6)) }, .next)

/-! ### Search with index (R439) -/

/-- The value that a search compares: Gs, or its magnitude with that of 0x8000_0000 taken as 0x7FFF_FFFF. -/
def FenUnit.searched (u : FenUnit) (w : Nat) : Int :=
  let v := u.sreg (bits w 8 6)
  if bit w 0 then min (if v < 0 then -v else v) (2 ^ 31 - 1) else v

/-- LOOP_ITER of the innermost active block, or 0. -/
def FenUnit.iteration (u : FenUnit) : Nat := if u.bank.depth = 0 then 0 else u.bank.iter.getD (u.bank.depth - 1) 0

/-- A search whose comparison holds: Gm takes the value and Gi the index.  Where they are one register, the rule does not say which it
keeps, and it takes an open value. -/
def Dev.fenFound (d : Dev) (n w : Nat) : Dev :=
  let u := d.unit n
  let m := bits w 20 6
  let i := bits w 14 6
  if m = i then (let r := d.fresh; r.2.setUnit n (u.setReg m r.1))
  else d.setUnit n ((u.setReg m (ofSigned 32 (u.searched w))).setReg i u.iteration)

def Dev.fenMaxi (d : Dev) (n w : Nat) : Dev × FenFlow :=
  let u := d.unit n
  (if u.searched w > u.sreg (bits w 20 6) then d.fenFound n w else d, .next)

def Dev.fenMini (d : Dev) (n w : Nat) : Dev × FenFlow :=
  let u := d.unit n
  (if u.searched w < u.sreg (bits w 20 6) then d.fenFound n w else d, .next)

/-! ### Repeats and branches (R435) -/

/-- A repeat of `count` iterations of `len` instructions; `shf` for REPR. -/
def fenRepeat (u : FenUnit) (count len : Nat) (shf : Bool) : FenUnit × FenFlow :=
  let b := u.bank
  let e := b.depth
  if len = 0 then (u, .trap 1)
  else if e ≥ 3 then (u, .trap 2)
  else if count = 0 then (u, .jump (u.pc + 1 + len))
  else
    (u.onBank fun b => { b with
      beg := b.beg.set e ((u.pc + 1) % 8192)
      fin := b.fin.set e ((u.pc + len) % 8192)
      iter := b.iter.set e 0
      cnt := b.cnt.set e (count - 1)
      depth := e + 1
      shf := if shf then b.shf ||| 2 ^ e else b.shf - (if bit b.shf e then 2 ^ e else 0) }, .jump (u.pc + 1))

def fenRep (u : FenUnit) (w : Nat) : FenUnit × FenFlow := fenRepeat u (u.reg (bits w 20 6) % 65536) (bits w 0 12) false
def fenRepk (u : FenUnit) (w : Nat) : FenUnit × FenFlow := fenRepeat u (bits w 12 14) (bits w 0 12) false
def fenRepr (u : FenUnit) (w : Nat) : FenUnit × FenFlow := fenRepeat u (u.reg (bits w 20 6) % 65536) (bits w 0 12) true

/-- BRK ends the innermost block.  At the block's last instruction it completes that iteration, and an enclosing block that ends there
is decided next. -/
def fenBrk (u : FenUnit) (_w : Nat) : FenUnit × FenFlow :=
  let b := u.bank
  let e := b.depth - 1
  if b.depth = 0 then (u, .next)
  else
    let last := b.fin.getD e 0
    if last = u.pc then
      (FenUnit.complete 2 u.pc ((if bit b.shf e then u.shift else u).onBank FenBank.endBlock), .done)
    else (u.onBank FenBank.endBlock, .jump (last + 1))

/-- A taken branch ends the innermost block whose range excludes its target, and then each enclosing one. -/
def FenUnit.endBlocks : Nat → Nat → FenUnit → FenUnit
  | 0, _, u => u
  | f + 1, t, u =>
    let b := u.bank
    let e := b.depth - 1
    if b.depth = 0 ∨ (b.beg.getD e 0 ≤ t ∧ t ≤ b.fin.getD e 0) then u
    else FenUnit.endBlocks f t (u.onBank FenBank.endBlock)

/-- Whether the condition of a branch holds; none for a code that the table does not list. -/
def branchTaken (cond : Nat) (v : Int) : Option Bool :=
  match cond with
  | 0 => some true
  | 1 => some (v == 0)
  | 2 => some (v != 0)
  | 3 => some (v < 0)
  | 4 => some (v ≥ 0)
  | _ => none

def fenBr (u : FenUnit) (w : Nat) : FenUnit × FenFlow :=
  match branchTaken (bits w 22 4) (u.sreg (bits w 16 6)) with
  | none => (u, .trap 1)
  | some false => (u, .next)
  | some true => (FenUnit.endBlocks 3 (bits w 0 13) u, .jump (bits w 0 13))

/-- CALL: LR takes the next instruction; no block ends. -/
def fenCall (u : FenUnit) (w : Nat) : FenUnit × FenFlow :=
  (u.onBank fun b => { b with lr := (u.pc + 1) % 8192 }, .jump (bits w 0 13))

def fenRet (u : FenUnit) (_w : Nat) : FenUnit × FenFlow := (u, .jump u.bank.lr)

/-! ### Levels (R440) -/

/-- RETI: back to the interrupted level and its bank; from levels 2 and 3 at the instruction that TRAP_PC of the level names
(log entry 81).  The holds of a bank end with its level (R433). -/
def Dev.fenReti (d : Dev) (n _w : Nat) : Dev × FenFlow :=
  let u := d.unit n
  match u.level with
  | 0 => (d, .next)
  | 1 => ((d.setUnit n { u.freeHolds 1 with level := 0 }).dispatch n, .done)
  | 2 => ((d.setUnit n ({ u.freeHolds 2 with level := u.under }.goto (u.trapPc.getD 0 0))).dispatch n, .done)
  | _ =>
    let u := u.onBank fun b => { b with hold := b.hold.map fun h => if h = 10 then 0 else h }
    (d.setUnit n ({ u with level := 2 }.goto (u.trapPc.getD 1 0)), .done)

/-- SWI traps with cause SWI (R447). -/
def Dev.fenSwi (d : Dev) (_n _w : Nat) : Dev × FenFlow := (d, .trap 7)

/-- JEND: the job ends at its own level (R443); at level 2 or 3 the job beneath is abandoned (R447). -/
def Dev.fenJend (d : Dev) (n _w : Nat) : Dev × FenFlow :=
  let u := d.unit n
  if u.level ≥ 2 then (d.trapJob n, .done)
  else
    let d := if u.level = 1 then d.mixDone (d.engineOf n) (u.entry.getD 64) else d
    (((d.bump C.FEN_JOBS_DONE (d.engineOf n)).setUnit n (u.leave u.level)).dispatch n, .done)

/-! ### Gathers and scatters (R442) -/

/-- The descriptor at a data memory word. -/
def FenUnit.descriptor (u : FenUnit) (a : Nat) (scatter : Bool) : FenDesc :=
  let w0 := u.data a
  let w1 := u.data (a + 1)
  ⟨scatter, bits w0 28 4, bits w0 0 16, bits w1 0 16, bits w1 16 16, u.data (a + 2) % 16384, u.data (a + 3) % 2048, u.entry.getD 0⟩

/-- A range of channels that crosses a row; an empty one crosses none. -/
def FenDesc.crosses (x : FenDesc) : Bool := x.count > 0 && crossesRow x.first x.count

/-- The descriptor has an effect by the table of kinds: a SCATTER writes source channels in the port and bus rows only. -/
def FenDesc.wellFormed (x : FenDesc) : Bool :=
  match x.scatter, x.kind with
  | false, 0 => !x.crosses
  | true, 0 => !x.crosses && (channelRow x.first == 2 || channelRow x.first == 4)
  | _, 1 => !x.crosses
  | false, 2 => true
  | _, 3 => x.first < 24
  | true, 4 => x.first + x.count ≤ 16384
  | _, 5 => x.first < 1536
  | _, _ => false

/-- First sample and number of samples of a kind-2 descriptor: the upper and the lower byte of SAMPLES (log entry 82). -/
def FenDesc.range (x : FenDesc) : List Nat := (List.range (x.samples % 256)).map (x.samples / 256 + ·)

/-- The data memory words that it reads or writes; kind 4 counts its slots in four words each. -/
def Dev.descWords (d : Dev) (x : FenDesc) : Nat :=
  match x.kind with
  | 0 | 1 => x.count * d.blockSamples
  | 2 => 2 * x.count * x.range.length
  | 4 => 4 * x.count
  | _ => x.count

/-- GATHER or SCATTER: a fifth outstanding operation waits; a bad descriptor traps. -/
def Dev.fenTransfer (d : Dev) (scatter : Bool) (n w : Nat) : Dev × FenFlow :=
  let u := d.unit n
  let i := bits w 23 3
  let a := (u.ptr i).address
  let x := u.descriptor a scatter
  if u.ops.length ≥ 4 then (d, .stall)
  else if a + 3 ≥ 16384 then (d, .trap 3)
  else if !x.wellFormed then (d, .trap 5)
  else if x.dm + d.descWords x > 16384 then (d, .trap 3)
  else ((d.countFold n i).onUnit n fun u => { u.stepPtr i 0 with ops := u.ops ++ [x] }, .next)

/-- WAITG waits until at most N operations are outstanding. -/
def fenWaitg (u : FenUnit) (w : Nat) : FenUnit × FenFlow := (u, if u.ops.length > bits w 0 2 then .stall else .next)

/-- A channel's block in a list, replaced. -/
def putBlock (b : ChannelBlock) (l : List ChannelBlock) : List ChannelBlock :=
  insertBy (fun a b => a.chan ≤ b.chan) b (l.filter fun e => e.chan != b.chan)

/-- Words written to data memory. -/
def FenUnit.fill (u : FenUnit) (a : Nat) (ws : List Nat) : FenUnit := ws.zipIdx.foldl (fun u w => u.setData (a + w.2) w.1) u

/-- The words that a GATHER delivers: channels one after another; for a list each tap's gains and then its samples. -/
def Dev.gathered (d : Dev) (x : FenDesc) (words : List Nat) : List Nat :=
  let block := fun bs => (List.range x.count).flatMap fun c =>
    (List.range d.blockSamples).map fun i => ofSigned 32 (sampleAt bs (x.first + c) i)
  match x.kind with
  | 0 => block d.amx.source
  | 1 => block d.amx.dest
  | 2 => (List.range x.count).flatMap fun t =>
    let taps := fun i => (d.gainsAt x.first i).getD t (0, 0)
    x.range.map (fun i => ofSigned 32 (taps i).2) ++ x.range.map fun i => ofSigned 32 (sampleAt d.amx.source (taps i).1 i)
  | _ => (words ++ List.replicate x.count 0).take x.count

/-- What a SCATTER has written to the channel store; the meter results come as `words`, four for each slot: the words of
AMX_METER_PEAK and AMX_METER_LOUD, INTEGRATED and PEAK_IDX, since the layout of kind 4 in data memory is not stated. -/
def Dev.scattered (d : Dev) (n : Nat) (x : FenDesc) (words : List Nat) : Dev :=
  let u := d.unit n
  let ws := (List.range (d.descWords x)).map fun i => u.data (x.dm + i)
  let blocks := (List.range x.count).map fun c =>
    ChannelBlock.mk (x.first + c) ((slice (c * d.blockSamples) d.blockSamples ws).map (toSigned 32))
  match x.kind with
  | 0 => { d with amx := { d.amx with sourceNext := blocks.foldl (fun l b => putBlock b l) d.amx.sourceNext } }
  | 1 =>
    let other := d.amx.writers.filter fun w => !(x.first ≤ w.1 && w.1 < x.first + x.count)
    let mine := (List.range x.count).map fun c => (x.first + c, jobIndex (d.engineOf n) x.entry)
    { d with amx := { d.amx with
      destNext := blocks.foldl (fun l b => putBlock b l) d.amx.destNext
      writers := mine ++ other } }
  | 3 => d.fifoIn x.first ws
  | 4 => d.each (List.range x.count) fun d c =>
    let j := x.first + c
    let r := fun i => words.getD (4 * c + i) 0
    let d := (d.set F.AMX_METER_PEAK_TRUE_PEAK j (r 0 / 65536)).set F.AMX_METER_PEAK_PEAK j (r 0)
    let d := (d.set F.AMX_METER_LOUD_SHORT j (r 1 / 65536)).set F.AMX_METER_LOUD_MOMENTARY j (r 1)
    let d := (d.set F.AMX_METER_STAT_INTEGRATED j (r 2)).set F.AMX_METER_CFG_PEAK_IDX j (r 3)
    d.set F.AMX_METER_STAT_UPDATED j (d.now * 3 / 1000000)
  | _ =>
    let r : FenRecord := ⟨d.engineOf n, x.entry, x.first, ws.take 16⟩
    { d with fen := { d.fen with records := d.fen.records.filter (fun q => q.slot != x.first) ++ [r] } }

/-- The words of line `n` of a source slot's frame in progress; none while that line has not arrived (R442). -/
def Dev.lineWords (d : Dev) (s n : Nat) : Option (List Nat) :=
  let b := d.slotBase s
  (findLine (linesOf d.ing.current b) (s - b) n).map fun l => l.words.active

/-- An outstanding operation completes (R442); for a line that ingest does not have, the words that come are open. -/
def Dev.gatherComplete (d : Dev) (n i : Nat) (words : List Nat) : Dev :=
  match (d.unit n).ops[i]? with
  | none => d
  | some x =>
    let d := d.onUnit n fun u => { u with ops := u.ops.eraseIdx i }
    if x.scatter then d.scattered n x words
    else
      let (taken, d) :=
        if x.kind = 3 then d.fifoOut x.first x.count
        else if x.kind = 5 then ((d.lineWords x.first x.line).getD words, d)
        else (words, d)
      let ws := d.gathered x taken
      d.onUnit n fun u => u.fill x.dm ws

/-! ### Ticks (R443–R445, R51) -/

/-- A job counts as due and, at once, as overrun (R449, R427). -/
def Dev.dueOverrun (d : Dev) (l n : Nat) : Dev := (d.bump C.FEN_JOBS_DUE l n).bump C.FEN_JOBS_OVERRUN l n

/-- The engines that have BLOCK or FRAME entries enabled. -/
def Dev.jobEngines (d : Dev) : List Nat :=
  (d.reg.insts F.FEN_JOB_EN.id).foldl (fun l j => insertNat (j / 64) l) []

/-- Jobs of a class fall due at their tick; those of a unit that may not start count as overrun at once. -/
def Dev.jobsDue (d : Dev) (l cls : Nat) : Dev :=
  let ks := d.entriesOf l cls
  let n := d.unitFor l
  if ks = [] then d
  else if !d.fenMayStart n then
    let d := d.dueOverrun l ks.length
    if cls = 0 then d.each ks fun d k => d.hset H.jobLost (jobIndex l k) 1 else d
  else
    let d := d.bump C.FEN_JOBS_DUE l ks.length
    (d.onUnit n fun u => if cls = 0 then { u with blockDue := ks } else { u with frameDue := u.frameDue ++ ks }).dispatch n

/-- A BLOCK job that ran without its instructions being commanded one by one ends as by JEND: the block tick names it as done
(log entry 83). -/
def Dev.jobDone (d : Dev) (l k : Nat) : Dev :=
  let n := d.unitFor l
  let u := d.unit n
  if u.job1 = some k then ((d.mixDone l k).bump C.FEN_JOBS_DONE l).setUnit n (u.leave 1)
  else if u.blockDue.contains k then ((d.mixDone l k).bump C.FEN_JOBS_DONE l).setUnit n { u with blockDue := u.blockDue.erase k }
  else d

/-- The BLOCK jobs of the ended block that have not reached JEND: in progress, and not started (R444). -/
def FenUnit.lateJobs (u : FenUnit) : List Nat := u.job1.toList ++ u.blockDue

/-- At the block tick the late jobs are abandoned, with the handlers entered from them. -/
def Dev.abandonBlock (d : Dev) (n : Nat) : Dev :=
  let u := d.unit n
  let late := u.lateJobs
  let d := d.bump C.FEN_JOBS_OVERRUN (d.engineOf n) late.length
  -- a handler entered from level 0 runs on
  let stays := u.level == 0 || (u.level ≥ 2 && u.under == 0)
  let d := if stays then
    d.onUnit n fun u => { u with job1 := none, ops := u.ops.filter fun o => u.job1 != some o.entry }
    else d.abandonJob n 1
  (d.onUnit n fun u => { u with blockDue := [] }).dispatch n

/-- The jobs, as engine and entry, that did not complete in the block that ends now: abandoned at its end, trapped, or not started. -/
def Dev.lateBlockJobs (d : Dev) : List (Nat × Nat) :=
  (d.fen.units.flatMap fun e => (e.2.lateJobs.map fun k => (d.engineOf e.1, k)).filter fun j => j.1 < 256) ++
    (d.hinsts H.jobLost).map fun i => (i / 64, i % 64)

/-- The block tick ends a block: the jobs named as done end, the others are abandoned (R444).  Which ones were late. -/
def Dev.fenBlockEnd (d : Dev) (done : List (Nat × Nat)) (busy : List (Nat × Nat)) : Dev × List (Nat × Nat) :=
  let d := d.each done fun d j => d.jobDone j.1 j.2
  let late := d.lateBlockJobs
  let d := d.each (d.fen.units.map Prod.fst) fun d n => if (d.unit n).lateJobs = [] then d else d.abandonBlock n
  let d := d.each (d.hinsts H.jobLost) fun d i => d.hset H.jobLost i 0
  (d.each busy fun d b => d.set F.FEN_BUSY_MAX_CYCLES b.1 (max b.2 (d.get F.FEN_BUSY_MAX_CYCLES b.1)), late)

/-- The jobs of the new block fall due, the mix jobs among them. -/
def Dev.fenBlockBegin (d : Dev) : Dev :=
  let d := d.each d.jobEngines fun d l => d.jobsDue l 0
  d.each (d.insts F.AMX_JOB_ENGINE_VALID) fun d j =>
    let l := d.get F.AMX_JOB_ENGINE_ENGINE j
    if !(d.entriesOf l 0).contains 0 then d
    else
      let d := d.bump C.AMX_JOB_BLOCKS_DUE j
      if d.hget H.jobLost (jobIndex l 0) = 0 then d.hset H.mixOpen j 1
      else (d.bump C.AMX_JOB_BLOCKS_OVERRUN j).hset H.mixOpen j 2

/-- The frame tick: the FRAME jobs fall due. -/
def Dev.fenFrameTick (d : Dev) : Dev := d.each d.jobEngines fun d l => d.jobsDue l 1

/-- At T3 the unfinished FRAME jobs of frame `f` are abandoned, and the records that stand are latched (R445). -/
def Dev.fenT3 (d : Dev) (f : Nat) : Dev :=
  let d := d.each (d.fen.units.map Prod.fst) fun d n =>
    let u := d.unit n
    let l := d.engineOf n
    let isFrame := fun k => d.get F.FEN_JOB_CLASS (jobIndex l k) == 1
    let running := u.job0.toList.filter isFrame
    let late := running ++ u.frameDue
    if late = [] then d
    else
      let d := d.each late fun d k => (d.bump C.FEN_JOBS_OVERRUN l).raise 770 [l, k, f]
      let d := if running = [] then d
        else if u.base = 0 then d.abandonJob n 0
        else d.onUnit n fun u => { u with job0 := none, ops := u.ops.filter fun o => !(running.contains o.entry) }
      let recs := d.fen.records.filter fun r => !(r.engine == l && late.contains r.entry)
      let d := { d with fen := { d.fen with records := recs } }
      (d.onUnit n fun u => { u with frameDue := [] }).dispatch n
  let d := d.each d.fen.records fun d r => d.each r.words.zipIdx fun d w => d.set F.FEN_VREC_WORD (16 * r.slot + w.2) w.1
  { d with fen := { d.fen with records := [] } }

/-- The next BACKGROUND job in turn (R443). -/
def Dev.backgroundDispatch (d : Dev) (l : Nat) : Dev :=
  let n := d.unitFor l
  let u := d.unit n
  let ks := d.entriesOf l 2
  if !d.fenMayStart n || u.running || u.frameDue != [] || !u.blockDue.isEmpty then d
  else
    match (ks.filter (u.nextBg ≤ ·) ++ ks).head? with
    | none => d
    | some k =>
      ((d.bump C.FEN_JOBS_DUE l).setUnit n { u with nextBg := (k + 1) % 64 }).startJob n 0 k

/-! ### Swaps (R425, R426) -/

/-- The idle spares. -/
def Dev.idleUnits (d : Dev) : List Nat := (List.range 272).filter fun n => d.get F.FEN_ENG_STATUS_USE n == 0

/-- FEN_POOL_EMPTY when the last spare has been taken. -/
def Dev.poolCheck (d : Dev) (was l : Nat) : Dev := if was > 0 && d.idleUnits.isEmpty then d.raise 773 [l] else d

/-- Engine `l` is served by unit `dst`, in place of unit `n`, which takes use `use`. -/
def Dev.remap (d : Dev) (l n dst use kind : Nat) : Dev :=
  let was := d.idleUnits.length
  let d := ((d.set F.FEN_MAP_PHYS l dst).set F.FEN_ENG_STATUS_LOGICAL dst l).set F.FEN_ENG_STATUS_USE dst 1
  let d := (d.set F.FEN_ENG_STATUS_LOGICAL n 0x1FF).set F.FEN_ENG_STATUS_USE n use
  (d.raise 771 [l, n, dst, kind]).poolCheck was l

/-- At least 20 µs remain before the next block tick. -/
def Dev.swapTime (d : Dev) : Bool := !d.running || (d.now * 3 / 1000000 + 1) * 1000000 ≥ 3 * (d.now + 20000)

/-- A swap: program and data memory and all registers are copied while the outgoing unit is idle at level 0 (R426). -/
def Dev.fenSwap (d : Dev) (l dst : Nat) : Dev :=
  let n := d.unitFor l
  let u := d.unit n
  if d.get F.FEN_MAP_VALID l == 0 || d.get F.FEN_ENG_STATUS_USE dst != 0 || u.running || u.ops != [] || !d.swapTime then d
  else
    let d := (d.setUnit dst u).onUnit n fun u => { u with job1 := none, blockDue := [], frameDue := [] }
    d.remap l n dst 0 0

/-- The firmware has reloaded an engine's program memory from the image (R427, R448). -/
def Dev.reloadDone (d : Dev) (l : Nat) (image : List Nat) : Dev :=
  if d.hget H.fenReload l == 0 || d.holder 13 != 7 || !d.lathRuns then d
  else (d.hset H.fenReload l 0).onUnit (d.unitFor l) fun u => u.load image

/-- The fields of a unit that are computed when they are read. -/
def Dev.fenStatusView (d : Dev) (n : Nat) : Nat :=
  let u := d.unit n
  16 * ofBool (d.get F.FEN_ENG_CTRL_HALT n == 1 && !u.running) + 4 * u.level + ofBool u.running

/-- FEN_PTR: word `j` of pointer `j ÷ 4` of a unit, from index 32·n + j. -/
def Dev.fenPtrView (d : Dev) (i : Nat) : Nat := ((d.unit (i / 32)).ptr (i / 4 % 8)).words.getD (i % 4) 0

/-- The word that the memory window of a unit shows: program memory in pages 0 and 1, data memory in pages 2–5. -/
def Dev.fenWindowView (d : Dev) (i : Nat) : Nat :=
  let n := i / 4096
  let page := d.get F.FEN_PAGE_PAGE n
  let a := i % 4096
  if page < 2 then (d.unit n).program (4096 * page + a) else (d.unit n).data (4096 * (page - 2) + a)

/-! ### The meanings of the commands -/

def execFenNop (u : Fin 272) (s : State) := lift (fun d => d.fenRow u.val 0x00 Dev.fenNop) s
def execMac2 (u : Fin 272) (s : State) := lift (fun d => d.fenRow u.val 0x01 Dev.fenMac2) s
def execMac (u : Fin 272) (s : State) := lift (fun d => d.fenRow u.val 0x02 Dev.fenMac) s
def execClr (u : Fin 272) (s : State) := lift (fun d => d.fenRow u.val 0x03 (onlyUnit fenClr)) s
def execWb (u : Fin 272) (s : State) := lift (fun d => d.fenRow u.val 0x04 Dev.fenWb) s
def execMfs (u : Fin 272) (s : State) := lift (fun d => d.fenRow u.val 0x05 Dev.fenMfs) s
def execMts (u : Fin 272) (s : State) := lift (fun d => d.fenRow u.val 0x06 (onlyUnit fenMts)) s
def execAlu (u : Fin 272) (s : State) := lift (fun d => d.fenRow u.val 0x08 Dev.fenAlu) s
def execShf (u : Fin 272) (s : State) := lift (fun d => d.fenRow u.val 0x09 (onlyUnit fenShf)) s
def execLdi (u : Fin 272) (s : State) := lift (fun d => d.fenRow u.val 0x0A (onlyUnit fenLdi)) s
def execLd (u : Fin 272) (s : State) := lift (fun d => d.fenRow u.val 0x10 Dev.fenLd) s
def execSt (u : Fin 272) (s : State) := lift (fun d => d.fenRow u.val 0x11 Dev.fenSt) s
def execLd2 (u : Fin 272) (s : State) := lift (fun d => d.fenRow u.val 0x12 Dev.fenLd2) s
def execSetp (u : Fin 272) (s : State) := lift (fun d => d.fenRow u.val 0x13 (onlyUnit fenSetp)) s
def execMaxi (u : Fin 272) (s : State) := lift (fun d => d.fenRow u.val 0x18 Dev.fenMaxi) s
def execMini (u : Fin 272) (s : State) := lift (fun d => d.fenRow u.val 0x19 Dev.fenMini) s
def execRep (u : Fin 272) (s : State) := lift (fun d => d.fenRow u.val 0x20 (onlyUnit fenRep)) s
def execRepk (u : Fin 272) (s : State) := lift (fun d => d.fenRow u.val 0x21 (onlyUnit fenRepk)) s
def execRepr (u : Fin 272) (s : State) := lift (fun d => d.fenRow u.val 0x22 (onlyUnit fenRepr)) s
def execBrk (u : Fin 272) (s : State) := lift (fun d => d.fenRow u.val 0x23 (onlyUnit fenBrk)) s
def execBr (u : Fin 272) (s : State) := lift (fun d => d.fenRow u.val 0x24 (onlyUnit fenBr)) s
def execCall (u : Fin 272) (s : State) := lift (fun d => d.fenRow u.val 0x25 (onlyUnit fenCall)) s
def execRet (u : Fin 272) (s : State) := lift (fun d => d.fenRow u.val 0x26 (onlyUnit fenRet)) s
def execReti (u : Fin 272) (s : State) := lift (fun d => d.fenRow u.val 0x27 Dev.fenReti) s
def execSwi (u : Fin 272) (s : State) := lift (fun d => d.fenRow u.val 0x28 Dev.fenSwi) s
def execGather (u : Fin 272) (s : State) := lift (fun d => d.fenRow u.val 0x30 fun d => d.fenTransfer false) s
def execScatter (u : Fin 272) (s : State) := lift (fun d => d.fenRow u.val 0x31 fun d => d.fenTransfer true) s
def execWaitg (u : Fin 272) (s : State) := lift (fun d => d.fenRow u.val 0x32 (onlyUnit fenWaitg)) s
def execJend (u : Fin 272) (s : State) := lift (fun d => d.fenRow u.val 0x3F Dev.fenJend) s
def execGatherComplete (u : Fin 272) (index : Fin 4) (words : List Word) (s : State) :=
  lift (fun d => d.gatherComplete u.val index.val (words.map BitVec.toNat)) s
def execBackgroundDispatch (l : Fin 256) (s : State) := lift (fun d => d.backgroundDispatch l.val) s
def execSwap (l : Fin 256) (dst : Fin 272) (s : State) := lift (fun d => d.fenSwap l.val dst.val) s
def execFenReloadDone (l : Fin 256) (image : List Word) (s : State) :=
  lift (fun d => d.reloadDone l.val (image.map BitVec.toNat)) s

end Sys2Proof.Machine
end

