-- ==== Sys2Proof/Machine/FenHost.lean ====
section
/-! DEFINITION. Fen units as the device and the host meet them: the failure of a unit (R427), and the writes to a unit's window
(R433, R449). -/

namespace Sys2Proof.Machine

/-! ### Failure (R427) -/

/-- The jobs of a unit that fails are abandoned and counted as overrun: those in progress and those that wait. -/
def Dev.dropJobs (d : Dev) (n : Nat) : Dev :=
  let u := d.unit n
  let l := d.engineOf n
  let d := d.bump C.FEN_JOBS_OVERRUN l (u.job1.toList ++ u.job0.toList ++ u.blockDue ++ u.frameDue).length
  -- the BLOCK jobs among them overrun under R51 at the end of the block
  let d := d.each (u.lateJobs.filter fun _ => l < 256) fun d k => d.hset H.jobLost (jobIndex l k) 1
  ((d.abandonJob n 1).abandonJob n 0).onUnit n fun u => { u with blockDue := [], frameDue := [], level := 0 }

/-- Unit `n` leaves its pool. -/
def Dev.retireFen (d : Dev) (n : Nat) : Dev :=
  (d.set F.FEN_ENG_STATUS_USE n 3).set F.FEN_POOL_RETIRED 0 (d.get F.FEN_POOL_RETIRED + 1)

/-- Engine `l` moves to the spare `dst` without a copy, and the failed unit leaves the pool: data memory is zeroed and the program awaits
its reload, which basic control makes (R427, R448). -/
def Dev.takeSpare (d : Dev) (l n dst : Nat) : Dev :=
  let d := d.onUnit dst fun u => { FenUnit.reset with mem := u.mem.filter fun c => c.fld == 0 }
  let d := d.hset H.fenReload l (ofBool (d.holder 13 == 7))
  ((d.set F.FEN_MAP_VALID l 1).retireFen n).remap l n dst 3 1

/-- An engine that is left without a unit takes the spare that has become available. -/
def Dev.serveWaiting (d : Dev) : Dev :=
  match (List.range 256).find? fun l => d.get F.FEN_MAP_VALID l == 0, d.idleUnits with
  | some l, dst :: _ => d.takeSpare l (d.unitFor l) dst
  | _, _ => d

/-- A port's converter loses what it held, and restarts its ratio search at the nominal ratio (R427). -/
def Dev.restartRatio (d : Dev) (p : Nat) : Dev :=
  (((d.hset H.aptDrift p 0).hset H.aptRatio p (d.nominalRatio p)).hset H.aptFrac p 0).setPfifo p fun q => { q with before := [] }

/-- A unit fails: by an uncorrectable error of its memories (a job that runs traps, R447), or by self-test.  Without a spare its engine
stays on it, and it does not count as retired (the worked example of spec/20).  `spare` is the spare
that takes its engine where it is idle; `ports` and `slots` are the audio ports and meter slots whose state the engine held. -/
def Dev.fenUnitFailure (d : Dev) (n : Nat) (byMemory : Bool) (spare : Nat) (ports slots : List Nat) : Dev :=
  let l := d.engineOf n
  if d.get F.FEN_ENG_STATUS_USE n == 3 || (l < 256 && d.get F.FEN_MAP_VALID l == 0) then d
  else
    let d := if d.poolUnit 0 = n then d.poolIdle 0 else d
    if l ≥ 256 then (d.retireFen n).healthReview
    else
      let d := if byMemory && (d.unit n).running then d.fenTrap n 6 else d
      let d := d.dropJobs n
      let d := d.each ports fun d p => d.restartRatio p
      let d := d.each slots fun d j => d.resetLoudness false j
      let d := match (if d.idleUnits.contains spare then some spare else d.idleUnits.head?) with
        | some dst => d.takeSpare l n dst
        | none => d.set F.FEN_MAP_VALID l 0
      d.healthReview

/-! ### Writes of the host (R433, R449) -/

/-- FEN_ENG_CTRL.HALT. -/
def Dev.writeHalt (d : Dev) (n w : Nat) : Dev := (d.set F.FEN_ENG_CTRL_HALT n (w % 2)).dispatch n

/-- GUARD_OVF of FEN_ENG_STATUS is cleared by a 1. -/
def Dev.clearGuardOvf (d : Dev) (n w : Nat) : Dev := if bit w 31 then d.set F.FEN_ENG_STATUS_GUARD_OVF n 0 else d

/-- HALTED: the unit is halted and runs no job. -/
def Dev.halted (d : Dev) (n : Nat) : Bool := d.get F.FEN_ENG_CTRL_HALT n == 1 && !(d.unit n).running

/-- Word `a` of the memory window: program memory in pages 0 and 1, taken only while HALTED; data memory in pages 2–5. -/
def Dev.writeFenWindow (d : Dev) (n a w : Nat) : Dev :=
  let page := d.get F.FEN_PAGE_PAGE n
  if page < 2 then
    if d.halted n then d.onUnit n fun u => u.setProgram (4096 * page + a) w else d.raise 774 [n, 4096 * page + a]
  else d.onUnit n fun u => u.setData (4096 * (page - 2) + a) w

def execFenUnitFailure (u : Fin 272) (byMemory : Bool) (spare : Fin 272) (ports : List (Fin 24)) (slots : List (Fin 16384)) (s : State) :
    Host.Outcome State Fault Refusal :=
  lift (fun d => d.fenUnitFailure u byMemory spare (ports.map Fin.val) (slots.map Fin.val)) s
def execHaltWrite (m : Fin 8) (u : Fin 272) (v : Word) (s : State) : Host.Outcome State Fault Refusal :=
  lift (fun d => d.busWrite m (fenOffset u 0) v.toNat (·.writeHalt u v.toNat)) s
def execGuardOvfClear (m : Fin 8) (u : Fin 272) (v : Word) (s : State) : Host.Outcome State Fault Refusal :=
  lift (fun d => d.busWrite m (fenOffset u 4) v.toNat (·.clearGuardOvf u v.toNat)) s
def execPmWindowWrite (m : Fin 8) (u : Fin 272) (word : Fin 4096) (v : Word) (s : State) : Host.Outcome State Fault Refusal :=
  lift (fun d => d.busWrite m (fenOffset u (0x3800 + 4 * word)) v.toNat (·.writeFenWindow u word v.toNat)) s

end Sys2Proof.Machine
end

