-- ==== Sys2Proof/Machine/Sha384.lean ====
section
/-! DEFINITION. SHA-384 (FIPS 180-4) and the verification of ECDSA P-384 signatures (FIPS 186): the boot ROM checks an image with them
(R66), and the eFuse controller a request (R492).  The digest that a signature covers is SHA-384 (PRESUMED, log entry 310). -/

namespace Sys2Proof.Machine

/-! ### SHA-384 -/

/-- The eighty round constants of SHA-512 and SHA-384. -/
def sha5K : List (BitVec 64) :=
  [0x428a2f98d728ae22#64, 0x7137449123ef65cd#64, 0xb5c0fbcfec4d3b2f#64, 0xe9b5dba58189dbbc#64,
   0x3956c25bf348b538#64, 0x59f111f1b605d019#64, 0x923f82a4af194f9b#64, 0xab1c5ed5da6d8118#64,
   0xd807aa98a3030242#64, 0x12835b0145706fbe#64, 0x243185be4ee4b28c#64, 0x550c7dc3d5ffb4e2#64,
   0x72be5d74f27b896f#64, 0x80deb1fe3b1696b1#64, 0x9bdc06a725c71235#64, 0xc19bf174cf692694#64] ++
  [0xe49b69c19ef14ad2#64, 0xefbe4786384f25e3#64, 0x0fc19dc68b8cd5b5#64, 0x240ca1cc77ac9c65#64,
   0x2de92c6f592b0275#64, 0x4a7484aa6ea6e483#64, 0x5cb0a9dcbd41fbd4#64, 0x76f988da831153b5#64,
   0x983e5152ee66dfab#64, 0xa831c66d2db43210#64, 0xb00327c898fb213f#64, 0xbf597fc7beef0ee4#64,
   0xc6e00bf33da88fc2#64, 0xd5a79147930aa725#64, 0x06ca6351e003826f#64, 0x142929670a0e6e70#64] ++
  [0x27b70a8546d22ffc#64, 0x2e1b21385c26c926#64, 0x4d2c6dfc5ac42aed#64, 0x53380d139d95b3df#64,
   0x650a73548baf63de#64, 0x766a0abb3c77b2a8#64, 0x81c2c92e47edaee6#64, 0x92722c851482353b#64,
   0xa2bfe8a14cf10364#64, 0xa81a664bbc423001#64, 0xc24b8b70d0f89791#64, 0xc76c51a30654be30#64,
   0xd192e819d6ef5218#64, 0xd69906245565a910#64, 0xf40e35855771202a#64, 0x106aa07032bbd1b8#64] ++
  [0x19a4c116b8d2d0c8#64, 0x1e376c085141ab53#64, 0x2748774cdf8eeb99#64, 0x34b0bcb5e19b48a8#64,
   0x391c0cb3c5c95a63#64, 0x4ed8aa4ae3418acb#64, 0x5b9cca4f7763e373#64, 0x682e6ff3d6b2b8a3#64,
   0x748f82ee5defb2fc#64, 0x78a5636f43172f60#64, 0x84c87814a1f0ab72#64, 0x8cc702081a6439ec#64,
   0x90befffa23631e28#64, 0xa4506cebde82bde9#64, 0xbef9a3f7b2c67915#64, 0xc67178f2e372532b#64] ++
  [0xca273eceea26619c#64, 0xd186b8c721c0c207#64, 0xeada7dd6cde0eb1e#64, 0xf57d4f7fee6ed178#64,
   0x06f067aa72176fba#64, 0x0a637dc5a2c898a6#64, 0x113f9804bef90dae#64, 0x1b710b35131c471b#64,
   0x28db77f523047d84#64, 0x32caab7b40c72493#64, 0x3c9ebe0a15c9bebc#64, 0x431d67c49c100d4c#64,
   0x4cc5d4becb3e42b6#64, 0x597f299cfc657e2a#64, 0x5fcb6fab3ad6faec#64, 0x6c44198c4a475817#64]

/-- The message schedule of one block, latest word first. -/
def sha5Extend : Nat → List (BitVec 64) → List (BitVec 64)
  | 0, w => w
  | n + 1, w =>
    let a := w.getD 14 0
    let b := w.getD 1 0
    let s0 := a.rotateRight 1 ^^^ a.rotateRight 8 ^^^ (a >>> 7)
    let s1 := b.rotateRight 19 ^^^ b.rotateRight 61 ^^^ (b >>> 6)
    sha5Extend n ((w.getD 15 0 + s0 + w.getD 6 0 + s1) :: w)

/-- One round on the eight working words. -/
def sha5Round (h : List (BitVec 64)) (kw : BitVec 64) : List (BitVec 64) :=
  match h with
  | [a, b, c, d, e, f, g, x] =>
    let s1 := e.rotateRight 14 ^^^ e.rotateRight 18 ^^^ e.rotateRight 41
    let t1 := x + s1 + ((e &&& f) ^^^ (~~~e &&& g)) + kw
    let s0 := a.rotateRight 28 ^^^ a.rotateRight 34 ^^^ a.rotateRight 39
    [t1 + (s0 + ((a &&& b) ^^^ (a &&& c) ^^^ (b &&& c))), a, b, c, d + t1, e, f, g]
  | h => h

/-- One block of sixteen words. -/
def sha5Block (h block : List (BitVec 64)) : List (BitVec 64) :=
  let w := (sha5Extend 64 block.reverse).reverse
  List.zipWith (· + ·) h ((List.zipWith (· + ·) sha5K w).foldl sha5Round h)

/-- The 64-bit words of bytes, big-endian. -/
def longWords : Nat → List Byte → List (BitVec 64)
  | 0, _ => []
  | n + 1, bs => BitVec.ofNat 64 (beVal (bs.take 8)) :: longWords n (bs.drop 8)

/-- The blocks of a padded message, in order. -/
def sha5Blocks : Nat → List Byte → List (BitVec 64) → List (BitVec 64)
  | 0, _, h => h
  | n + 1, bs, h => sha5Blocks n (bs.drop 128) (sha5Block h (longWords 16 (bs.take 128)))

/-- SHA-384. -/
def sha384 (m : List Byte) : List Byte :=
  let padded := m ++ [0x80#8] ++ zeros ((239 - m.length % 128) % 128) ++ beBytes 16 (8 * m.length)
  let h := sha5Blocks (padded.length / 128) padded
    [0xcbbb9d5dc1059ed8#64, 0x629a292a367cd507#64, 0x9159015a3070dd17#64, 0x152fecd8f70e5939#64,
     0x67332667ffc00b31#64, 0x8eb44a8768581511#64, 0xdb0c2e0d64f98fa7#64, 0x47b5481dbefa4fa4#64]
  (h.take 6).flatMap fun w => beBytes 8 w.toNat

/-! ### ECDSA P-384 -/

/-- The field prime, the curve's b, its order and its generator. -/
def p384p : Nat := 0xfffffffffffffffffffffffffffffffffffffffffffffffffffffffffffffffeffffffff0000000000000000ffffffff
def p384b : Nat := 0xb3312fa7e23ee7e4988e056be3f82d19181d9c6efe8141120314088f5013875ac656398d8a2ed19d2a85c8edd3ec2aef
def p384n : Nat := 0xffffffffffffffffffffffffffffffffffffffffffffffffc7634d81f4372ddf581a0db248b0a77aecec196accc52973
def p384gx : Nat := 0xaa87ca22be8b05378eb1c71ef320ad746e1d3b628ba79b9859f741e082542a385502f25dbf55296c3a545e3872760ab7
def p384gy : Nat := 0x3617de4a96262c6f5d9e98bf9292dc29f8f41dbd289a147ce9da3113b5f0b8c00a60b1ce1d7e819d7a431d7c90ea0e5f

/-- b ^ e modulo m, for an exponent of `k` bits. -/
def powMod (m : Nat) : Nat → Nat → Nat → Nat
  | 0, _, _ => 1 % m
  | k + 1, b, e =>
    let r := powMod m k (b * b % m) (e / 2)
    if e % 2 = 1 then r * b % m else r

/-- A point in Jacobian coordinates; z = 0 is the point at infinity. -/
structure CurvePoint where
  x : Nat
  y : Nat
  z : Nat

/-- a − b modulo the field prime, for reduced a and b. -/
def subP (a b : Nat) : Nat := (a + p384p - b) % p384p

/-- The double of a point. -/
def CurvePoint.double (q : CurvePoint) : CurvePoint :=
  if q.z = 0 ∨ q.y = 0 then ⟨1, 1, 0⟩
  else
    let p := p384p
    let zz := q.z * q.z % p
    let m := 3 * subP q.x zz * ((q.x + zz) % p) % p
    let yy := q.y * q.y % p
    let s := 4 * q.x * yy % p
    let x := subP (m * m % p) (2 * s % p)
    ⟨x, subP (m * subP s x % p) (8 * yy * yy % p), 2 * q.y * q.z % p⟩

/-- The sum of two points. -/
def CurvePoint.add (a b : CurvePoint) : CurvePoint :=
  if a.z = 0 then b
  else if b.z = 0 then a
  else
    let p := p384p
    let za := a.z * a.z % p
    let zb := b.z * b.z % p
    let ua := a.x * zb % p
    let ub := b.x * za % p
    let sa := a.y * zb * b.z % p
    let sb := b.y * za * a.z % p
    if ua = ub then (if sa = sb then a.double else ⟨1, 1, 0⟩)
    else
      let h := subP ub ua
      let r := subP sb sa
      let hh := h * h % p
      let v := ua * hh % p
      let hhh := h * hh % p
      let x := subP (subP (r * r % p) hhh) (2 * v % p)
      ⟨x, subP (r * subP v x % p) (sa * hhh % p), h * a.z * b.z % p⟩

/-- u·A + v·B for multipliers of `k` bits, highest bit first. -/
def mulPair (a b ab : CurvePoint) (u v : Nat) : Nat → CurvePoint
  | 0 => ⟨1, 1, 0⟩
  | k + 1 =>
    let q := (mulPair a b ab (u / 2) (v / 2) k).double
    match u % 2, v % 2 with
    | 0, 0 => q
    | 1, 0 => q.add a
    | 0, _ => q.add b
    | _, _ => q.add ab

/-- The signature (r then s, 48 bytes each) over `m` verifies under the public key (x then y). -/
def ecdsaOk (key sig m : List Byte) : Bool :=
  let x := beVal (slice 0 48 key)
  let y := beVal (slice 48 48 key)
  let r := beVal (slice 0 48 sig)
  let s := beVal (slice 48 48 sig)
  let n := p384n
  if !(x < p384p && y < p384p && y * y % p384p == (x * x * x + (p384p - 3) * x + p384b) % p384p) then false
  else if !(1 ≤ r && r < n && 1 ≤ s && s < n) then false
  else
    let w := powMod n 384 s (n - 2)
    let g : CurvePoint := ⟨p384gx, p384gy, 1⟩
    let q : CurvePoint := ⟨x, y, 1⟩
    let t := mulPair g q (g.add q) (beVal (sha384 m) * w % n) (r * w % n) 384
    let zi := powMod p384p 384 t.z (p384p - 2)
    t.z != 0 && t.x * zi % p384p * zi % p384p % n == r

end Sys2Proof.Machine
end

