-- ==== Sys2Proof/Machine/Bist.lean ====
section
/-! DEFINITION. Self-test, repair and test access (R485–R504): rolling slices, soft repairs, eFuse programming, the test access
port. -/

namespace Sys2Proof.Machine

/-! ### Rolling self-test (R495–R500) -/

/-- The units of a pool, and the slices of each (R495). -/
def poolUnits (q : Nat) : Nat := [272, 68, 264, 2048].getD q 0
def poolSlices (q : Nat) : Nat := [20, 8, 6, 1].getD q 1

/-- The unit serves nothing, is not retired, and can be taken into test.  A scaler is known by number only while it serves, and a
granule only while it is allocated, so that of these the number of free ones decides (log entry 85). -/
def Dev.testable (d : Dev) (q u : Nat) : Bool :=
  match q with
  | 0 => d.get F.FEN_ENG_STATUS_USE u == 0
  | 1 => d.cnvSpares.contains u
  | 2 => 0 < 264 - d.get F.MV_SCALER_POOL_RETIRED - d.scalersHeld
  | _ => 0 < d.poolFree

/-- The slice can start now and end before T3 (R496): it lasts at most 2 ms, and T3 is the last eighth of the frame. -/
def Dev.sliceTime (d : Dev) : Bool :=
  d.running && d.clock.core + 2000000 ≤ d.tick.t0Core + 7 * framePeriod d.rate / 8

/-- A converter in service moves to an idle spare at the next T0, so that its unit can be tested (R495). -/
def Dev.freeConverter (d : Dev) (u : Nat) : Dev :=
  match d.cnvServed u, d.cnvSpares with
  | some c, n :: _ => if d.hget H.cnvSwap c = 0 then d.hset H.cnvSwap c (n + 1) else d
  | _, _ => d

/-- A slice starts (R495, R496): on the unit under test between two of its slices, else on a unit that serves nothing. -/
def Dev.sliceStart (d : Dev) (q u : Nat) : Dev :=
  let p := d.poolTest q
  if !d.ready || d.get F.BIST_ROLL_CFG_EN == 0 || d.poolState q != 0 || u ≥ poolUnits q || !d.sliceTime then d
  else if kept p.wait u 0 > d.tick.frame || kept p.hold u 0 > d.clock.core then d
  else if d.poolUnit q = u % 512 ∨ (d.poolUnit q = 0x1FF ∧ d.testable q u) then
    let d := (d.markTest q u true).set F.BIST_POOL_UNIT q u
    ((d.set F.BIST_POOL_SLICE q (kept p.next u 0)).set F.BIST_POOL_STATE q 1).bump C.BIST_SLICES_STARTED
  else if q = 1 ∧ d.poolUnit q = 0x1FF then d.freeConverter u
  else d

/-- The number of the soft repairs that are not in eFuse. -/
def Dev.countSoft (d : Dev) : Dev :=
  (d.set F.RPR_STATUS_SOFT_UNBURNED 0 d.bist.soft.length).set F.RPR_HBM_SOFT 0 d.bist.softHbm.length

/-- A failing row or column is replaced by a spare (R489, R490). -/
def Dev.softRepair (d : Dev) (mere : Bool) (array row : Nat) : Dev :=
  ((d.onBist fun b => if mere then { b with softHbm := b.softHbm ++ [(array, row)] } else { b with soft := b.soft ++ [(array, row)] }).countSoft).raise
    868 [array, row]

/-- The unit under test is retired (R497). -/
def Dev.retireUnit (d : Dev) (q u : Nat) : Dev :=
  let d := match q with
    | 0 => d.retireFen u
    | 1 => (d.hset H.cnvTest u 0).hset H.cnvFailed u 1
    | 2 => (d.hset H.scalerTest 0 0).set F.MV_SCALER_POOL_RETIRED 0 (d.get F.MV_SCALER_POOL_RETIRED + 1)
    | _ => d.set F.MERE_POOL_RETIRED 0 (d.get F.MERE_POOL_RETIRED + 1)
  ((d.poolIdle q).raise 866 [q, u]).healthReview

/-- The same slice runs once more at once. -/
def Dev.rerun (d : Dev) : Dev := d.bump C.BIST_SLICES_STARTED

/-- A slice has reached its pattern count (R486, R497).  A memory failure is repaired and the slice is run again without being
counted (log entry 86). -/
def Dev.sliceEnd (d : Dev) (q : Nat) (r : SliceResult) : Dev :=
  if d.poolState q ≠ 1 then d
  else
    let u := d.poolUnit q
    let k := d.get F.BIST_POOL_SLICE q
    match r with
    | .pass =>
      let d := d.bump C.BIST_SLICES_PASS
      let d := (d.set F.BIST_POOL_STATE q 0).onPool q fun p =>
        { p with failed := false, next := if k + 1 < poolSlices q then keep p.next u (k + 1) else p.next.filter fun e => e.1 != u }
      if k + 1 < poolSlices q then d else (d.endTest q).serveWaiting
    | .fail =>
      let d := (d.bump C.BIST_SLICES_FAIL).raise 865 [q, u, k]
      if (d.poolTest q).failed then d.retireUnit q u else (d.onPool q fun p => { p with failed := true }).rerun
    | .repair mere array row => d.softRepair mere array row

/-- The unit whose slice was aborted is an idle spare again (R499). -/
def Dev.unitRestore (d : Dev) (q : Nat) : Dev := if d.poolState q = 2 then (d.endTest q).serveWaiting else d

/-- BIST_ROLL_CFG as stored: PERIOD_H 0 as 1. -/
def Dev.setRollCfg (d : Dev) (w : Nat) : Dev :=
  (d.set F.BIST_ROLL_CFG_EN 0 (fieldOf F.BIST_ROLL_CFG_EN w)).set F.BIST_ROLL_CFG_PERIOD_H 0 (max 1 (fieldOf F.BIST_ROLL_CFG_PERIOD_H w))

/-! ### eFuse (R491–R494) -/

/-- DEBUG_LOCK and TEST_LATCH. -/
def Dev.tapStatusView (d : Dev) : Nat := 2 * d.bist.efuse.debugLock + d.hget H.testLatch

/-- The soft repairs that no request in progress burns. -/
def Dev.unclaimed (d : Dev) (mere : Bool) : List (Nat × Nat) :=
  let mine := (d.bist.work.flatMap FuseWork.words).filter fun w => if mere then w.1 == 6 else w.1 ≤ 5
  (if mere then d.bist.softHbm else d.bist.soft).filter fun r => !mine.any fun w => w.2 == r

/-- What an accepted request programs, word by word: a bank (TRIM 0, DIE_ID 1, REPAIR0–REPAIR3 2–5, HBM_REPAIR 6, KEY 7, SVN 8,
POLICY 9) and two values. -/
def Dev.fuseWords (d : Dev) (kind value : Nat) : List (Nat × Nat × Nat) :=
  let e := d.bist.efuse
  match kind with
  | 0 =>
    let taken := e.repairs.length + (d.bist.soft.length - (d.unclaimed false).length)
    ((d.unclaimed false).zipIdx.map fun (r : (Nat × Nat) × Nat) => (2 + (taken + r.2) / 256, r.1.1, r.1.2)) ++
      (d.unclaimed true).map fun (r : Nat × Nat) => (6, r.1, r.2)
  | 1 => (List.range ((value - 1) / 32 + 1 - e.svn / 32)).map fun i => (8, min value (32 * (e.svn / 32 + i + 1)), 0)
  | 2 => [(7, value, 0)]
  | 3 => [(9, value, 0)]
  | _ => [(9, 0, 1)]

/-- One word is programmed; a bit changes only from 0 to 1. -/
def Efuse.program (e : Efuse) (w : Nat × Nat × Nat) : Efuse :=
  if w.1 ≤ 5 then { e with repairs := e.repairs ++ [(w.2.1, w.2.2)] }
  else if w.1 = 6 then { e with hbm := e.hbm ++ [(w.2.1, w.2.2)] }
  else if w.1 = 7 then { e with revoked := insertNat w.2.1 e.revoked }
  else if w.1 = 8 then { e with svn := max e.svn w.2.1 }
  else { e with policy := e.policy ||| w.2.1, debugLock := max e.debugLock w.2.2 }

/-- The word of its bank that holds it. -/
def Efuse.wordOf (e : Efuse) (w : Nat × Nat × Nat) : Nat :=
  if w.1 ≤ 5 then e.repairs.length % 256
  else if w.1 = 6 then e.hbm.length
  else if w.1 = 8 then (w.2.1 - 1) / 32
  else 0

/-- The oldest request in progress is replaced, or ends. -/
def Dev.setWork (d : Dev) (w : Option FuseWork) : Dev := d.onBist fun b => { b with work := w.toList ++ b.work.drop 1 }

/-- A request is complete when no word is left: OK, and RPR_EFUSE_PROGRAMMED (R494). -/
def Dev.fuseDone (d : Dev) : Dev :=
  match d.bist.work with
  | w :: _ =>
    if w.words = [] then ((d.setWork none).raise 869 [w.kind, w.done]).respond w.port w.src w.tag 0x0805 St.ok [] else d
  | [] => d

/-- A soft repair is in eFuse now. -/
def Dev.burned (d : Dev) (w : Nat × Nat × Nat) : Dev :=
  (d.onBist fun b =>
    if w.1 ≤ 5 then { b with soft := b.soft.erase (w.2.1, w.2.2) }
    else if w.1 = 6 then { b with softHbm := b.softHbm.erase (w.2.1, w.2.2) } else b).countSoft

/-- A reset that was requested meanwhile leaves the words not yet programmed unprogrammed (R74, R494). -/
def Dev.yieldToReset (d : Dev) : Dev := if d.bist.resetAsked.isSome then d.onBist fun b => { b with work := [] } else d

/-- One word is programmed and read back, in at most 1 ms (R494). -/
def Dev.fuseWord (d : Dev) (readsBack : Bool) : Dev :=
  match d.bist.work with
  | w :: _ =>
    match w.words with
    | x :: rest =>
      if readsBack then
        let d := (d.onBist fun b => { b with efuse := b.efuse.program x }).burned x
        (d.setWork (some { w with words := rest, done := w.done + 1 })).fuseDone.yieldToReset
      else
        let d := (d.setWork none).raise 870 [x.1, d.bist.efuse.wordOf x]
        (d.respond w.port w.src w.tag 0x0805 St.internalFault []).yieldToReset
    | [] => d.fuseDone
  | [] => d

/-- The live nonce, unless it has expired (R493). -/
def Dev.liveNonce (d : Dev) : Option (List Byte) :=
  match d.bist.nonce with
  | some (n, t) => if d.clock.core < t + 60 * 10 ^ 9 then some n else none
  | none => none

/-- 60 s after it was issued the nonce expires. -/
def Dev.nonceExpiry (d : Dev) : Dev :=
  match d.bist.nonce with
  | some (_, t) => (d.passToCore (t + 60 * 10 ^ 9)).onBist fun b => { b with nonce := none }
  | none => d

/-- VALUE suits its KIND (R492): it raises the SVN, names a key index and leaves another one unrevoked, or gives a valid
BOOT_POLICY. -/
def Efuse.valueOk (e : Efuse) (kind value : Nat) : Bool :=
  match kind with
  | 1 => e.svn < value && value < 65536
  | 2 => value < 4 && (insertNat value e.revoked).length < 4
  | 3 => value ≤ 2 && (e.policy ||| value) ≤ 2
  | _ => true

/-- The SHA-384 of the public key equals the hash that is fused for the index (R66, R492). -/
def Dev.keyFused (d : Dev) (index : Nat) (key : List Byte) : Bool :=
  d.bist.efuse.keyHashes[index]? == some (sha384 key)

/-- The checks of R492 up to the public key, in the order of the table: a status and a reason, or none. -/
def Dev.recordFault (d : Dev) (r : List Byte) : Option (Nat × Nat) :=
  let kind := beVal (slice 32 1 r)
  let index := beVal (slice 33 1 r)
  if r.take 4 ≠ beBytes 4 0x45465251 then some (St.badParam, 0x80)
  else if beVal (slice 4 4 r) ≠ 0x4E515360 then some (St.badParam, 0x80)
  else if beVal (slice 8 8 r) ≠ Config.dieId % 2 ^ 64 then some (St.badParam, 0x81)
  else if d.liveNonce ≠ some (slice 16 16 r) then some (St.badParam, 0x82)
  else if kind > 4 then some (St.badParam, 0x83)
  else if index > 3 ∨ d.bist.efuse.revoked.contains index then some (St.authFail, 0)
  else if beVal (slice 34 2 r) ≠ 0 then some (St.badParam, 0x80)
  else if !d.bist.efuse.valueOk kind (beVal (slice 36 4 r)) then some (St.badParam, 0x84)
  else if !d.keyFused index (slice 40 96 r) then some (St.authFail, 0)
  else none

/-- Enough free entries for every soft repair not yet burned. -/
def Dev.fuseSpace (d : Dev) : Bool :=
  d.bist.efuse.repairs.length + d.bist.soft.length ≤ 1024 && d.bist.efuse.hbm.length + d.bist.softHbm.length ≤ 128

def efuseProgramSpec : Spec :=
  { op := 0x0805, ports := [0, 4], pars := [.req 0x0101 fun v => v.length == 136, .req 0x0102 fun v => v.length == 96] }

/-- EFUSE_PROGRAM (0x0805). -/
def Dev.efuseProgram (d : Dev) (q : Req) : Dev := d.command q efuseProgramSpec fun d ts =>
  let r := (tlv? ts 0x0101).getD []
  let kind := beVal (slice 32 1 r)
  let no := fun (d : Dev) (e : Nat × Nat) =>
    d.reply q 0x0805 e.1 (if e.2 = 0 then [] else [statusDetail (tlvIndex ts 0x0101) 0xFF e.2])
  match d.recordFault r with
  | some e => no d e
  | none =>
    let d := d.onBist fun b => { b with nonce := none }
    if !ecdsaOk (slice 40 96 r) ((tlv? ts 0x0102).getD []) r then no d (St.authFail, 0)
    else if kind = 0 ∧ !d.fuseSpace then no d (St.exhausted, 0x85)
    else
      let w : FuseWork := ⟨kind, q.port, q.tag, q.src, d.fuseWords kind (beVal (slice 36 4 r)), 0⟩
      let d := d.respond q.port q.src q.tag 0x0805 St.pending [] false
      (d.onBist fun b => { b with work := b.work ++ [w] }).fuseDone

def efuseNonceGetSpec : Spec := { op := 0x0804 }

/-- EFUSE_NONCE_GET (0x0804): `nonce` comes from the random source. -/
def Dev.efuseNonceGet (d : Dev) (q : Req) (nonce : Nat) : Dev := d.command q efuseNonceGetSpec fun d _ =>
  let n := beBytes 16 nonce
  (d.onBist fun b => { b with nonce := some (n, d.clock.core) }).reply q 0x0804 St.ok [data [n, w8 Config.dieId]]

/-! ### Status commands -/

def bistStatusGetSpec : Spec := { op := 0x0801 }

/-- BIST_STATUS_GET (0x0801). -/
def Dev.bistStatusGet (d : Dev) (q : Req) : Dev := d.command q bistStatusGetSpec fun d _ =>
  let counts := [C.BIST_SLICES_STARTED, C.BIST_SLICES_PASS, C.BIST_SLICES_FAIL, C.BIST_SLICES_INCOMPLETE].map fun c => w4 (d.count c)
  d.reply q 0x0801 St.ok (⟨0x0102, (counts ++ [w4 d.tapStatusView]).flatten⟩ ::
    (List.range 40).map (fun k => data [w4 (d.storedAt (0xD00000 + 4 * k))]) ++
    (List.range 4).map fun k => data [w4 (d.storedAt (0xD00140 + 4 * k))])

def rollConfigSpec : Spec := { op := 0x0802, pars := [.req 0x0101 any4] }

/-- ROLL_CONFIG (0x0802). -/
def Dev.rollConfig (d : Dev) (q : Req) : Dev := d.command q rollConfigSpec fun d ts =>
  (d.setRollCfg (tlvNum ts 0x0101)).reply q 0x0802 St.ok

def repairStatusGetSpec : Spec := { op := 0x0803 }

/-- REPAIR_STATUS_GET (0x0803). -/
def Dev.repairStatusGet (d : Dev) (q : Req) : Dev := d.command q repairStatusGetSpec fun d _ =>
  let rs := d.bist.soft ++ d.bist.softHbm
  d.reply q 0x0803 St.ok [data ([w4 (d.storedAt 0xE00000), w4 (d.storedAt 0xE00004), w4 rs.length] ++
    rs.flatMap fun (r : Nat × Nat) => [w4 r.1, w4 r.2])]

/-! ### The test access port (R501–R504) -/

/-- An instruction that is no test-mode instruction reaches Update-IR: the boundary register no longer drives the balls. -/
def Dev.setIr (d : Dev) (code : Nat) : Dev := { d with tap := { d.tap with ir := code, drives := false } }

/-- SAMPLE/PRELOAD: the boundary register takes the levels shifted in. -/
def Dev.preload (d : Dev) (levels : List Bool) : Dev := { d with tap := { d.tap with ir := 0x0002, drives := false, boundary := levels } }

/-- DEBUG acts as BYPASS while DEBUG_LOCK is programmed (R504). -/
def Dev.enterDebug (d : Dev) : Dev := d.setIr (if d.bist.efuse.debugLock = 1 then 0xFFFF else 0x0020)

/-- While DEBUG is in effect its data register shows the sticky error bit on TDO (R81; how it is read is a DESIGN CHOICE, log entry 326). -/
def Dev.debugOut (d : Dev) : Dev := if d.debugOn then d.emit (.tdo (d.hget H.debugError)) else d

/-- The HMAC, MACsec and Causeway key registers and every derived SAK are zeroised (R502). -/
def Dev.zeroise (d : Dev) : Dev :=
  let d : Dev := { d with
    cmd := { d.cmd with
      keys := d.cmd.keys.map fun k => { k with key := none }
      queue := d.cmd.queue.map fun (p : Packet) => { p with key := none }
      tags := d.cmd.tags.map fun (t : PendingTag) => { t with key := none } }
    csw := { d.csw with key := [], salt := [], peerSalt := [], txSak := [], rxSak := [], rxSakNext := [], announced := none } }
  let d := d.each (List.range 16) fun d i => d.set F.MGT_SAK_DATA_KEY i 0
  let d := d.each [0, 1] fun d i => (d.hset H.macTxSa i 0).hset H.macTxKey i 0
  d.each (List.range 8) fun d i => (d.hset H.macRxSa i 0).hset H.macRxKey i 0

/-- A test-mode instruction reaches Update-IR (R502): keys, TEST_LATCH, claim and transmitters, and then scan or boundary control.
Media and management transmitters are off while TEST_LATCH is set (`Dev.mediaOn`); a Reed lane goes OFF here. -/
def Dev.testMode (d : Dev) (code : Nat) (scan : Bool) : Dev :=
  let d := (d.zeroise.hset H.testLatch 0 1).set F.CSW_ROLE_CLAIM_OUT 0 0
  let d : Dev := { d with tap := { d.tap with ir := code, drives := !scan, scan := d.tap.scan || scan } }
  (d.raise 871 [code]).txReviewAll.healthReview

/-- A TAP reset: IDCODE is in effect; TEST_LATCH and scan stay (R503).  It resets bus master 7 (R76), and with it the sticky error bit of the
DEBUG data register (DESIGN CHOICE, log entry 326). -/
def Dev.tapReset (d : Dev) : Dev := ((d.setIr 0x0001).onBehalf 7 []).hset H.debugError 0 0

def execSliceStart (pool : Fin 4) (unit : Fin 2048) (s : State) : Host.Outcome State Fault Refusal := lift (·.sliceStart pool unit) s
def execSliceEnd (pool : Fin 4) (r : SliceResult) (s : State) : Host.Outcome State Fault Refusal := lift (·.sliceEnd pool r) s
def execUnitRestore (pool : Fin 4) (s : State) : Host.Outcome State Fault Refusal := lift (·.unitRestore pool) s
def execNonceExpiry (s : State) : Host.Outcome State Fault Refusal := lift (·.nonceExpiry) s
def execBypass (s : State) : Host.Outcome State Fault Refusal := lift (·.setIr 0xFFFF) s
def execIdcode (s : State) : Host.Outcome State Fault Refusal := lift (fun d => (d.setIr 0x0001).emit (.tdo 0x215369CB)) s
def execSamplePreload (levels : List Bool) (s : State) : Host.Outcome State Fault Refusal :=
  lift (·.preload levels) s
def execExtest (s : State) : Host.Outcome State Fault Refusal := lift (·.testMode 0x0003 false) s
def execExtestPulse (s : State) : Host.Outcome State Fault Refusal := lift (·.testMode 0x0004 false) s
def execExtestTrain (s : State) : Host.Outcome State Fault Refusal := lift (·.testMode 0x0005 false) s
def execScanEnter (s : State) : Host.Outcome State Fault Refusal := lift (·.testMode 0x0010 true) s
def execMbistRun (s : State) : Host.Outcome State Fault Refusal := lift (·.testMode 0x0011 true) s
def execDebug (s : State) : Host.Outcome State Fault Refusal := lift (fun d => (d.enterDebug).debugOut) s
def execTapReset (s : State) : Host.Outcome State Fault Refusal := lift (·.tapReset) s
def execBistStatusGet (q : Req) (s : State) : Host.Outcome State Fault Refusal := lift (·.bistStatusGet q) s
def execRollConfig (q : Req) (s : State) : Host.Outcome State Fault Refusal := lift (·.rollConfig q) s
def execRepairStatusGet (q : Req) (s : State) : Host.Outcome State Fault Refusal := lift (·.repairStatusGet q) s
def execEfuseNonceGet (q : Req) (nonce : BitVec 128) (s : State) : Host.Outcome State Fault Refusal := lift (·.efuseNonceGet q nonce.toNat) s
def execEfuseProgram (q : Req) (_keyOk _sigOk : Computed) (s : State) : Host.Outcome State Fault Refusal := lift (·.efuseProgram q) s

end Sys2Proof.Machine
end

