-- ==== Sys2Proof/Machine/Cmd.lean ====
section
/-! DEFINITION. The command ports: receipt, authentication and replay (R89–R107), the P0 mailbox (R92–R95), and the system
commands of spec/05_igkix_commands.md (R104, R129). -/

namespace Sys2Proof.Machine

/-! ### Receipt (R99–R103) -/

/-- Check 1 of R99 on a packet that arrived on port `p`.  FLAGS bits 7:4 are part of its framing: a packet that sets one is malformed (DESIGN
CHOICE, log entry 313). -/
def goodPacket (p : Nat) (bs : List Byte) : Bool :=
  let b := fun i => beVal (slice i 1 bs)
  let len := beVal (slice 8 2 bs)
  16 ≤ bs.length && b 0 == 1 && !bit (b 1) 0 && bit (b 1) 2 == keyed p && b 1 < 16 && b 6 == p && len % 4 == 0 &&
    len ≤ payloadLimit p && bs.length == 16 + len + (if keyed p then 32 else 0)

/-- The sender's entry on the port. -/
def Dev.sender? (d : Dev) (p src : Nat) : Option Sender := d.cmd.senders.find? fun s => s.port == p && s.src == src

/-- Anti-replay (R101): the counter is above the highest accepted, or within the window and not yet used. -/
def Sender.accepts (s : Sender) (c : Nat) : Bool :=
  c != 0 && (c > s.high || (s.high < c + 64 && !bit s.window (s.high - c)))

/-- The entry after counter `c` is accepted. -/
def Sender.accepted (s : Sender) (c : Nat) : Sender :=
  if c > s.high then { s with high := c, window := (s.window * 2 ^ min 64 (c - s.high) + 1) % 2 ^ 64 }
  else { s with window := s.window ||| 2 ^ (s.high - c) }

/-- A sender's IPv4 address and UDP port, as events carry them. -/
def senderArgs (src : Nat) : List Nat := [src / 65536, src % 65536]

/-- A new second of CORE time starts the counts of R102 again. -/
def Dev.newSecond (d : Dev) (p : Nat) : Dev :=
  let sec := d.clock.core / 1000000000
  d.setKey p fun k => if k.second = sec then k
    else { k with second := sec, refusals := 0, authRaised := false, replayRaised := false }

/-- An AUTH_FAIL or REPLAYED response, at most 100 a second on each port (R102). -/
def Dev.refusePacket (d : Dev) (p src op tag status : Nat) : Dev :=
  if (d.cmd.portKey p).refusals ≥ 100 then d
  else (d.setKey p fun k => { k with refusals := k.refusals + 1 }).transmit p src 1 op tag status [] true

/-- A packet whose HMAC trailer fails (R99 check 2, R102). -/
def Dev.authFails (d : Dev) (p src op tag : Nat) : Dev :=
  let d := (d.bump C.CMD_AUTH_FAILED p).newSecond p
  let first := !(d.cmd.portKey p).authRaised
  let d := if first then (d.setKey p fun k => { k with authRaised := true }).raise 960 (p :: senderArgs src) else d
  d.refusePacket p src op tag St.authFail

/-- A packet whose counter fails (R99 check 4). -/
def Dev.replayFails (d : Dev) (p src op tag counter : Nat) : Dev :=
  let d := (d.bump C.CMD_REPLAYED p).newSecond p
  let first := !(d.cmd.portKey p).replayRaised
  let d := if first then (d.setKey p fun k => { k with replayRaised := true }).raise 961 (p :: senderArgs src ++ [counter]) else d
  d.refusePacket p src op tag St.replayed

/-- The entry of a sender replaced or added. -/
def Dev.setSender (d : Dev) (s : Sender) : Dev :=
  { d with cmd := { d.cmd with senders := s :: d.cmd.senders.filter fun t => !(t.port == s.port && t.src == s.src) } }

/-- Checks 2 to 4 on a keyed port. -/
def Dev.receiveKeyed (d : Dev) (p src : Nat) (bs : List Byte) : Dev :=
  let op := beVal (slice 2 2 bs)
  let tag := beVal (slice 4 2 bs)
  let counter := beVal (slice 12 4 bs)
  let body := bs.take (bs.length - 32)
  if (d.cmd.portKey p).key.map (hmac · body) ≠ some (bs.drop (bs.length - 32)) then d.authFails p src op tag
  else if (d.sender? p src).isNone && (d.cmd.senders.filter fun s => s.port == p).length ≥ 16 then
    let d := (d.acceptPacket p).transmit p src 1 op tag St.exhausted [] true
    { d with cmd := { d.cmd with completed := countPort d.cmd.completed p } }
  else
    let s := (d.sender? p src).getD ⟨p, src, 0, 0⟩
    if !s.accepts counter then d.replayFails p src op tag counter
    else (d.setSender (s.accepted counter)).enqueue p src op tag (body.drop 16)

/-- A packet arrives on a port (R99).  A port that is down, or whose transmit counter is exhausted, takes none (R103). -/
def Dev.receive (d : Dev) (p src : Nat) (bs : List Byte) : Dev :=
  if !d.portUp p then d.notTaken p
  else
    let d := d.bump C.CMD_RECEIVED p
    if !goodPacket p bs then d.bump C.CMD_MALFORMED p
    else if keyed p then d.receiveKeyed p src bs
    else d.enqueue p src (beVal (slice 2 2 bs)) (beVal (slice 4 2 bs)) (bs.drop 16)

/-! ### The P0 mailbox (R92–R95) -/

/-- A doorbell for slot `k`, in which the host has written `bytes`: ignored and counted as malformed while the PN1536 owns the
slot (R95). -/
def Dev.doorbell (d : Dev) (k : Nat) (bytes : List Byte) : Dev :=
  if !d.portUp 0 then d.notTaken 0
  else if d.cmd.owned.contains k then (d.bump C.CMD_RECEIVED 0).bump C.CMD_MALFORMED 0
  else
    let bs := bytes.take 4096
    let d := { d with cmd := { d.cmd with owned := insertNat k d.cmd.owned, requests := setSlot d.cmd.requests k bs } }
    d.receive 0 k (bs.take (16 + beVal (slice 8 2 bs)))

/-- The host clears the ready bit of one slot (R93, R94): a final response returns the slot, and the next response that waits
for it is written. -/
def Dev.clearReady (d : Dev) (k : Nat) : Dev :=
  if !d.cmd.ready.contains k then d
  else
    let final := d.cmd.readyFinal.contains k
    let d := { d with cmd := { d.cmd with
      ready := d.cmd.ready.filter (· != k)
      readyFinal := d.cmd.readyFinal.filter (· != k)
      owned := if final then d.cmd.owned.filter (· != k) else d.cmd.owned } }
    match d.cmd.waits.find? fun w => w.slot == k with
    | none => d
    | some w => { d with cmd := { d.cmd with waits := d.cmd.waits.erase w } }.toSlot k w.bytes w.final

/-- A W1C write of CMD_P0_RSP_READY_LO or _HI. -/
def Dev.clearReadyBits (d : Dev) (hi : Bool) (v : Nat) : Dev :=
  d.each ((List.range 32).filter (bit v)) fun d b => d.clearReady (b + if hi then 32 else 0)

/-- Every pending tag of the ports that pass `p` is completed without a response, and what would answer them later answers no
more (R73).  Packets that wait in those ports' queues go with their tags. -/
def Dev.forgetTags (d : Dev) (p : Nat → Bool) : Dev :=
  let gone := (d.cmd.tags.filter fun t => p t.port).map PendingTag.port ++ (d.cmd.queue.filter fun k => p k.port).map Packet.port
  { d with
    cmd := { d.cmd with
      tags := d.cmd.tags.filter fun t => !p t.port
      queue := d.cmd.queue.filter fun k => !p k.port
      completed := gone.foldl countPort d.cmd.completed }
    tick := { d.tick with
      changes := d.tick.changes.map fun h => if p h.port then { h with src := noReply } else h
      commits := d.tick.commits.map fun c => match c.issuer with
        | .command q t s => { c with issuer := .command q t (if p q then noReply else s) }
        | _ => c }
    xpt := { d.xpt with cmds := d.xpt.cmds.map fun c => if p c.port then { c with src := noReply } else c }
    csw := { d.csw with
      switchover := d.csw.switchover.map fun w => if p w.2.1 then (w.1, w.2.1, noReply, w.2.2.2) else w
      peerWaits := d.csw.peerWaits.map fun (w : PeerWait) => if p w.port then { w with src := noReply } else w } }

/-- The P0 mailbox is reset (R57, R73): its pending tags are completed and the completions discarded and counted, its slots
return to the host, and its leases end. -/
def Dev.mailboxReset (d : Dev) : Dev :=
  let n := (d.cmd.tags.filter fun t => t.port == 0).length + (d.cmd.queue.filter fun k => k.port == 0).length
  let d := d.forgetTags (· == 0)
  let d := { d with cmd := { d.cmd with
    owned := [], requests := [], responses := [], ready := [], readyFinal := [], waits := []
    discarded := d.cmd.discarded + n } }
  d.endPortLeases 0 2

/-- BAR4 as the bus reaches it (R92): the row of R77 for the mailbox and doorbell RAM. -/
def Dev.mailboxHung (d : Dev) : Bool := bit (d.get F.BUS_HUNG_TARGETS) 5

/-- The bits of CMD_P0_RSP_READY_LO, or of _HI. -/
def Dev.readyBits (d : Dev) (hi : Bool) : Nat :=
  wordOfBits ((d.cmd.ready.filter fun k => decide (32 ≤ k) == hi).map (· % 32))

/-- Bytes put into others from position `pos` on, zeros between. -/
def patch (bs : List Byte) (pos : Nat) (new : List Byte) : List Byte :=
  bs.take pos ++ List.replicate (pos - bs.length) 0 ++ new ++ bs.drop (pos + new.length)

/-- The bytes of a slot. -/
def slotBytes (l : List (Nat × List Byte)) (k : Nat) : List Byte := ((l.find? fun e => e.1 == k).map Prod.snd).getD []

/-- Bytes of BAR4 as they are read (R92): the slots, CMD_P0_RSP_READY, the staging area until READY; everything else reads 0. -/
def Dev.mailboxRead (d : Dev) (off n : Nat) : List Byte :=
  let from' := fun (bs : List Byte) pos => (slice pos n bs) ++ List.replicate (n - (bs.length - pos)) 0
  if off < 0x40000 then from' (slotBytes d.cmd.requests (off / 4096)) (off % 4096)
  else if off < 0x80000 then from' (slotBytes d.cmd.responses (off / 4096 % 64)) (off % 4096)
  else if off < 0x81000 then
    from' (List.replicate 16 0 ++ leBytes 4 (d.readyBits false) ++ leBytes 4 (d.readyBits true)) (off % 4096)
  else if 0xC0000 ≤ off ∧ !d.ready then Memory.bytes n off d.staging
  else List.replicate n 0

/-- A write of bytes into BAR4 (R92): the slots, the doorbell, CMD_P0_RSP_READY, the staging area until READY; everything else is
discarded. -/
def Dev.mailboxWrite (d : Dev) (off : Nat) (bytes : List Byte) : Dev :=
  let w := leVal (bytes.take 4)
  if off < 0x40000 then
    let k := off / 4096
    { d with cmd := { d.cmd with requests := setSlot d.cmd.requests k (patch (slotBytes d.cmd.requests k) (off % 4096) bytes) } }
  else if off < 0x80000 then
    let k := off / 4096 % 64
    { d with cmd := { d.cmd with responses := setSlot d.cmd.responses k (patch (slotBytes d.cmd.responses k) (off % 4096) bytes) } }
  else if off = 0x80000 then d.doorbell (w % 64) (slotBytes d.cmd.requests (w % 64))
  else if off = 0x80010 then d.clearReadyBits false w
  else if off = 0x80014 then d.clearReadyBits true w
  else if 0xC0000 ≤ off ∧ !d.ready then { d with staging := Memory.writeBytes 0x100000 d.staging off bytes }
  else d

/-- An access of the host to BAR4's registers: the mailbox target answers it with TARGET_ERR while it is hung (R84). -/
def Dev.mailboxAccess (d : Dev) (f : Dev → Dev) : Dev :=
  let d := d.transaction 1
  if d.mailboxHung then d.answerError 1 true .target 1 none else (f d).answer 1 .done

/-! ### P1, P2 and P4 -/

/-- An Igkix datagram on management port M0 or M1: only unfragmented ones to the port's own address and CMD_UDP_PORT (R90).  One for
CMD_UDP_PORT that is a fragment or names another address is discarded as malformed (log entry 312); one for another UDP port is no Igkix
packet. -/
def Dev.datagram (d : Dev) (m : Nat) (x : Datagram) : Dev :=
  if x.fragment || x.dstAddr.toNat != d.get F.MGT_IPV4_IPV4 m then
    if x.dstPort.toNat = d.get F.CMD_UDP_PORT_PORT then d.notTaken (m + 1) else d
  else if x.dstPort.toNat != d.get F.CMD_UDP_PORT_PORT then d
  else d.receive (m + 1) (x.srcAddr.toNat * 65536 + x.srcPort.toNat) x.bytes

/-- The bytes of a SLIP frame (RFC 1055), or none where its escapes are wrong. -/
def unslip : List Byte → Option (List Byte)
  | [] => some []
  | b :: rest =>
    if b = 0xC0#8 then if rest.all (· == 0xC0#8) then some [] else none
    else if b = 0xDB#8 then
      match rest with
      | c :: rest =>
        if c = 0xDC#8 then (unslip rest).map (0xC0#8 :: ·)
        else if c = 0xDD#8 then (unslip rest).map (0xDB#8 :: ·)
        else none
      | [] => none
    else (unslip rest).map (b :: ·)

/-- A SLIP frame arrives on P4 (R91): its CRC-32C is checked with the framing.  Before Lath start P4 carries boot ROM status
and no packets, except that the boot ROM answers IDENTIFY in BOOT_FAIL (R62).  What arrives before is discarded as malformed (log entry
312). -/
def Dev.uartPacket (d : Dev) (bytes : List Byte) : Dev :=
  if !d.uartTakes || !d.portUp 4 then d.notTaken 4
  else
    match unslip (bytes.dropWhile (· == 0xC0#8)) with
    | none => (d.bump C.CMD_RECEIVED 4).bump C.CMD_MALFORMED 4
    | some bs =>
      let body := bs.take (bs.length - 4)
      if bs.length < 4 ∨ beBytes 4 (crc32c body) ≠ bs.drop (bs.length - 4) then
        (d.bump C.CMD_RECEIVED 4).bump C.CMD_MALFORMED 4
      else d.receive 4 0 body

/-! ### System commands (R104, R129) -/

/-- NOP (0x0103): the current frame number. -/
def nopSpec : Spec := { op := 0x0103 }

def Dev.nop (d : Dev) (q : Req) : Dev := d.command q nopSpec fun d _ =>
  d.reply q 0x0103 St.ok [data [w8 d.frameNow]]

/-- CMD_PORT_STATUS⟨p⟩. -/
def Dev.portStatusView (d : Dev) (p : Nat) : Nat :=
  let k := d.cmd.portKey p
  2 ^ 16 * (d.cmd.tags.filter fun t => t.port == p).length + 2 ^ 8 * d.cmd.dropped.getD p 0 +
    2 ^ 3 * (d.cmd.senders.filter fun s => s.port == p).length + 2 ^ 2 * ofBool k.exhausted +
    2 * ofBool (keyed p && k.key.isSome) + ofBool (d.portOpen p)

/-- PORT_STATUS_GET (0x0104): CMD_PORT_STATUS and the ledger counters of R128 for each named port. -/
def portStatusGetSpec : Spec := { op := 0x0104, pars := [.req 0x0004 (num 4 (· < 32))] }

def Dev.portStatusGet (d : Dev) (q : Req) : Dev := d.command q portStatusGetSpec fun d ts =>
  d.reply q 0x0104 St.ok (((List.range 5).filter (bit (tlvNum ts 0x0004))).map fun p =>
    data [w4 (d.portStatusView p), w8 (d.count C.CMD_RECEIVED p), w8 (d.count C.CMD_MALFORMED p),
      w8 (d.count C.CMD_AUTH_FAILED p), w8 (d.count C.CMD_REPLAYED p), w8 (d.count C.CMD_OVERFLOWED p),
      w8 (d.cmd.accepted.getD p 0), w8 (d.cmd.issued.getD p 0), w8 (d.cmd.completed.getD p 0)])

/-- PORT_KEY_SET (0x0105): a new key for P1, P2 or P3, accepted only on P0 (R104). -/
def portKeySetSpec : Spec :=
  { op := 0x0105, ports := [0], pars := [.req 0x0101 (num 4 fun p => 1 ≤ p && p ≤ 3), .req 0x0102 fun v => v.length == 32] }

/-- A key is loaded: the sender entries are cleared, the transmit counter restarts, packets already queued and tags already
pending keep the old key, and the firmware enables the port (R103, R104). -/
def Dev.loadKey (d : Dev) (p : Nat) (key : List Byte) : Dev :=
  let old := (d.cmd.portKey p).key
  let d := { d with cmd := { d.cmd with
    senders := d.cmd.senders.filter fun s => s.port != p
    queue := d.cmd.queue.map fun (k : Packet) => if k.port = p ∧ k.key = none then { k with key := old } else k
    tags := d.cmd.tags.map fun (t : PendingTag) => if t.port = p ∧ t.key = none then { t with key := old } else t } }
  (d.setKey p fun k => { k with key := some key, tx := 0, exhausted := false }).set F.CMD_PORT_CTRL_ENABLE p 1

def Dev.portKeySet (d : Dev) (q : Req) : Dev := d.command q portKeySetSpec fun d ts =>
  (d.loadKey (tlvNum ts 0x0101) ((tlv? ts 0x0102).getD [])).reply q 0x0105 St.ok

/-- NOTIFY_SUBSCRIBE (0x0106): the sender subscribes to event groups, or unsubscribes with none; at most four subscribers on
each of P1 and P2. -/
def notifySubscribeSpec : Spec := { op := 0x0106, ports := [1, 2], pars := [.req 0x0101 any4] }

def Dev.notifySubscribe (d : Dev) (q : Req) : Dev := d.command q notifySubscribeSpec fun d ts =>
  let g := tlvNum ts 0x0101
  let rest := d.cmd.subs.filter fun s => !(s.port == q.port.val && s.src == q.src)
  if g = 0 then { d with cmd := { d.cmd with subs := rest } }.reply q 0x0106 St.ok
  else if (rest.filter fun s => s.port == q.port.val).length ≥ 4 then d.reply q 0x0106 St.exhausted
  else
    let s : Subscriber := ((d.cmd.subs.find? fun s => s.port == q.port.val && s.src == q.src).getD ⟨q.port, q.src, g, 0, 0⟩)
    { d with cmd := { d.cmd with subs := rest ++ [{ s with groups := g }] } }.reply q 0x0106 St.ok

/-! ### The rows -/

def execP0Doorbell (slot : Fin 64) (bytes : List Byte) (s : State) : Host.Outcome State Fault Refusal :=
  lift (·.mailboxAccess (·.doorbell slot bytes)) s
def execRspReadyClear (hi : Bool) (v : Word) (s : State) : Host.Outcome State Fault Refusal :=
  lift (·.mailboxAccess (·.clearReadyBits hi v.toNat)) s
def execMgmtDatagram (port : Fin 2) (x : Datagram) (s : State) : Host.Outcome State Fault Refusal := lift (·.datagram port x) s
def execUartPacket (bytes : List Byte) (s : State) : Host.Outcome State Fault Refusal := lift (·.uartPacket bytes) s
def execNop (q : Req) (s : State) : Host.Outcome State Fault Refusal := lift (·.nop q) s
def execPortStatusGet (q : Req) (s : State) : Host.Outcome State Fault Refusal := lift (·.portStatusGet q) s
def execPortKeySet (q : Req) (s : State) : Host.Outcome State Fault Refusal := lift (·.portKeySet q) s
def execNotifySubscribe (q : Req) (s : State) : Host.Outcome State Fault Refusal := lift (·.notifySubscribe q) s

end Sys2Proof.Machine
end

