-- ==== Sys2Proof/Machine/Gpio.lean ====
section
/-! DEFINITION. The GPIO pins (R124–R127, R548) and their commands. -/

namespace Sys2Proof.Machine

/-- A word register's bit `n` takes a value. -/
def Dev.putBit (d : Dev) (f : Fld) (n : Nat) (v : Bool) : Dev :=
  d.set f 0 ((d.get f &&& (0xFFFFFFFF ^^^ 2 ^ n)) ||| (if v then 2 ^ n else 0))

/-- The pin's level counts as active under ACTIVE_LOW (R124). -/
def Dev.activeLevel (d : Dev) (n level : Nat) : Bool := level != d.get F.GPIO_CFG_ACTIVE_LOW n

/-- Edge events and the chatter and stuck checks act on pins of these functions (R124). -/
def Dev.watches (d : Dev) (n : Nat) : Bool := [0, 3, 4].contains (d.get F.GPIO_CFG_FUNC n)

/-- The pin's active state begins or ends, as R127 times it. -/
def Dev.timeActive (d : Dev) (n : Nat) (active : Bool) : Dev :=
  if active then d.hset H.gpioActive n (d.clock.core + 1)
  else (d.hset H.gpioActive n 0).putBit F.GPIO_STUCK_STUCK n false

/-- What an accepted active edge does beyond its event: TRIGGER fires the bound salvo, an armed START starts groups
(R124). -/
def Dev.edgeActs (d : Dev) (n : Nat) : Dev :=
  if d.get F.GPIO_CFG_FUNC n = 3 then d.pinFires n
  else if d.get F.GPIO_CFG_FUNC n = 4 && bit (d.get F.GPIO_ARM_ARM) n then (d.putBit F.GPIO_ARM_ARM n false).pinStarts n
  else d

/-- An edge to `level` is accepted (R125): the level changes and the debounce window opens; the pin's events and actions
follow unless it chatters (R126). -/
def Dev.acceptEdge (d : Dev) (n level : Nat) : Dev :=
  let us := d.get F.GPIO_CFG_DEBOUNCE_US n
  let active := d.activeLevel n level
  let d := (d.hset H.gpioPin n level).hset H.gpioWindow n (if us = 0 then 0 else d.clock.core + 1000 * us + 1)
  let d := (d.putBit F.GPIO_LEVEL_LEVEL n active).timeActive n active
  if !d.watches n then d
  else
    let d := d.hset H.gpioEdges n (d.hget H.gpioEdges n + 1)
    if bit (d.get F.GPIO_CHATTER_CHATTER) n then d
    else
      let d := d.raise (928 + n) [if active then 0 else 1]
      if active then d.edgeActs n else d

/-- The sampled level of a ball changes. -/
def Dev.ballChanges (d : Dev) (n : Nat) (level : Bool) : Dev :=
  let d := d.hset H.gpioBall n (ofBool level)
  if d.hget H.gpioWindow n > d.clock.core + 1 || d.hget H.gpioPin n == ofBool level then d
  else (d.hset H.gpioWindow n 0).acceptEdge n (ofBool level)

/-- The debounce window ends; a level that differs from the one after the accepted edge is a new edge (R125). -/
def Dev.debounceEnds (d : Dev) (n : Nat) : Dev :=
  if d.hget H.gpioWindow n = 0 then d
  else
    let d := (d.passToCore (d.hget H.gpioWindow n - 1)).hset H.gpioWindow n 0
    if d.hget H.gpioBall n == d.hget H.gpioPin n then d else d.acceptEdge n (d.hget H.gpioBall n)

/-- One pin at the end of a chatter window (R126). -/
def Dev.chatterPin (d : Dev) (n : Nat) : Dev :=
  let many := d.hget H.gpioEdges n > d.get F.GPIO_TIMING_CHATTER_LIMIT / 10
  let on := bit (d.get F.GPIO_CHATTER_CHATTER) n
  let d := d.hset H.gpioEdges n 0
  if !d.watches n then d
  else if many then
    let d := d.hset H.gpioQuiet n 0
    if on then d else (d.putBit F.GPIO_CHATTER_CHATTER n true).raise (928 + n) [2]
  else if !on then d
  else if d.hget H.gpioQuiet n + 1 ≥ 10 then
    ((d.hset H.gpioQuiet n 0).putBit F.GPIO_CHATTER_CHATTER n false).raise (928 + n) [3]
  else d.hset H.gpioQuiet n (d.hget H.gpioQuiet n + 1)

/-- A 100 ms window ends; windows are counted from the end of the last power-on or device reset (R126). -/
def Dev.chatterEnds (d : Dev) : Dev :=
  let from' := d.hget H.bootAt
  let d := d.passToCore (from' + ((d.clock.core - from') / 100000000 + 1) * 100000000)
  d.each (List.range 32) Dev.chatterPin

/-- A pin has been active for STUCK_TIME (R127). -/
def Dev.stuckExpires (d : Dev) (n : Nat) : Dev :=
  let limit := d.get F.GPIO_TIMING_STUCK_TIME
  if limit = 0 || d.hget H.gpioActive n = 0 || !d.watches n || bit (d.get F.GPIO_STUCK_STUCK) n then d
  else
    let d := d.passToCore (d.hget H.gpioActive n - 1 + 100000000 * limit + 1)
    (d.putBit F.GPIO_STUCK_STUCK n true).raise (928 + n) [4]

/-- A write of GPIO_CFG⟨n⟩: FUNC 5–7 are stored as 0, and a change of ACTIVE_LOW changes the active state without an edge
(R548). -/
def Dev.writeGpioCfg (d : Dev) (n w : Nat) : Dev :=
  let old := d.get F.GPIO_CFG_ACTIVE_LOW n
  let func := bits w 0 3
  let d := ((((d.set F.GPIO_CFG_DEBOUNCE_US n (bits w 8 16)).set F.GPIO_CFG_OPEN_DRAIN n (bits w 4 1)).set
    F.GPIO_CFG_ACTIVE_LOW n (bits w 3 1)).set F.GPIO_CFG_FUNC n (if func > 4 then 0 else func))
  if d.get F.GPIO_CFG_ACTIVE_LOW n == old then d
  else
    let active := d.activeLevel n (d.hget H.gpioPin n)
    (d.putBit F.GPIO_LEVEL_LEVEL n active).timeActive n active

/-- A write of GPIO_ARM arms START pins (R124). -/
def Dev.writeGpioArm (d : Dev) (w : Nat) : Dev := d.set F.GPIO_ARM_ARM 0 (d.get F.GPIO_ARM_ARM ||| w)

/-- The level that the part drives on a pin, if it drives it: OUTPUT follows GPIO_OUT, TALLY the source of its destination;
an open-drain pin is driven low only (R124).  Before Lath start and in BOOT_FAIL every pin is high impedance (R58). -/
def Dev.gpioDrive (d : Dev) (n : Nat) : Option Bool :=
  let level := fun active : Bool => active != (d.get F.GPIO_CFG_ACTIVE_LOW n == 1)
  let driven : Option Bool :=
    match d.get F.GPIO_CFG_FUNC n with
    | 1 => some (level (bit (d.get F.GPIO_OUT_OUT) n))
    | 2 => some (level (d.destSource (d.get F.GPIO_TALLY_DEST n) == d.get F.GPIO_TALLY_SRC n))
    | _ => none
  if !d.pinsDriven || d.get F.GPIO_CFG_OPEN_DRAIN n == 1 && driven == some true then none else driven

/-- GPIO is lease unit 15. -/
def gpioUnit (_ : List Tlv) : List Nat := [15]

/-- GPIO_CONFIG (0x0110). -/
def gpioConfigSpec : Spec :=
  { op := 0x0110, pars := [.req 0x0101 (below4 32), .req 0x0102 any4, .opt 0x0103 any4], units := gpioUnit }

def Dev.gpioConfig (d : Dev) (q : Req) : Dev := d.command q gpioConfigSpec fun d ts =>
  let n := tlvNum ts 0x0101
  let t := tlvNum ts 0x0103
  let d := if hasTlv ts 0x0103 then
      ((d.set F.GPIO_TALLY_SRC n (bits t 16 11)).set F.GPIO_TALLY_DEST n (bits t 0 11)).mirrorReg (0xA00080 + 4 * n)
    else d
  ((d.writeGpioCfg n (tlvNum ts 0x0102)).mirrorReg (0xA00000 + 4 * n)).reply q 0x0110 St.ok

/-- GPIO_SET (0x0111): the bits of MASK take those of VALUE. -/
def gpioSetSpec : Spec := { op := 0x0111, pars := [.req 0x0101 any4, .req 0x0102 any4], units := gpioUnit }

def Dev.gpioSet (d : Dev) (q : Req) : Dev := d.command q gpioSetSpec fun d ts =>
  let mask := tlvNum ts 0x0101
  let v := (d.get F.GPIO_OUT_OUT &&& (0xFFFFFFFF ^^^ mask)) ||| (tlvNum ts 0x0102 &&& mask)
  ((d.set F.GPIO_OUT_OUT 0 v).mirrorReg 0xA00108).reply q 0x0111 St.ok

/-- GPIO_GET (0x0112). -/
def gpioGetSpec : Spec := { op := 0x0112 }

def Dev.gpioGet (d : Dev) (q : Req) : Dev := d.command q gpioGetSpec fun d _ =>
  d.reply q 0x0112 St.ok [data [w4 (d.get F.GPIO_LEVEL_LEVEL), w4 (d.get F.GPIO_CHATTER_CHATTER), w4 (d.get F.GPIO_STUCK_STUCK)]]

def execGpioConfig (q : Req) (s : State) : Host.Outcome State Fault Refusal := lift (·.gpioConfig q) s
def execGpioSet (q : Req) (s : State) : Host.Outcome State Fault Refusal := lift (·.gpioSet q) s
def execGpioGet (q : Req) (s : State) : Host.Outcome State Fault Refusal := lift (·.gpioGet q) s
def execAcceptedEdge (pin : Fin 32) (level : Bool) (s : State) : Host.Outcome State Fault Refusal :=
  lift (·.ballChanges pin level) s
def execDebounceWindowEnd (pin : Fin 32) (s : State) : Host.Outcome State Fault Refusal := lift (·.debounceEnds pin) s
def execChatterWindowEnd (s : State) : Host.Outcome State Fault Refusal := lift Dev.chatterEnds s
def execStuckTimeExpiry (pin : Fin 32) (s : State) : Host.Outcome State Fault Refusal := lift (·.stuckExpires pin) s
def execActiveLowWrite (m : Fin 8) (pin : Fin 32) (v : Word) (s : State) : Host.Outcome State Fault Refusal :=
  lift (fun d => d.busWrite m (0xA00000 + 4 * pin) v.toNat (·.writeGpioCfg pin v.toNat)) s
def execGpioArmWrite (m : Fin 8) (v : Word) (s : State) : Host.Outcome State Fault Refusal :=
  lift (fun d => d.busWrite m 0xA00114 v.toNat (·.writeGpioArm v.toNat)) s

end Sys2Proof.Machine
end

