-- ==== Sys2Proof/Machine/Egress.lean ====
section
/-! DEFINITION. Egress: the vote between the planes and its counts (R16, R17, R213–R216), the converter (R268), embedding
and ANC (R240–R242), and the output seal (R469). -/

namespace Sys2Proof.Machine

/-- An injection inverts bit 0 of the first active word (R216). -/
def corruptLine (l : LineWords) : LineWords :=
  match l.active with
  | [] => l
  | w :: ws => { l with active := (w ^^^ 1) :: ws }

/-- An injection runs in the plane. -/
def Dev.injects (d : Dev) (i plane : Nat) : Bool :=
  d.xpt.injections.any fun j => j.dest == i && j.plane == plane && j.left > 0

/-- One line of the destination is built: its injections have one line fewer to corrupt. -/
def Dev.useInjections (d : Dev) (i : Nat) : Dev := d.onXpt fun x => { x with
  injections := (x.injections.map fun (j : Injection) => if j.dest = i then { j with left := j.left - 1 } else j).filter
    fun j => j.left > 0 }

/-! ### The source line that both planes take (R13–R16, R213) -/

/-- A source line: its content, the seal that came with it, whether it is a repeated or substituted line (R241), whether the skim path
brought it (R213), and the same line of the previous frame (R16). -/
structure Picked where
  words : LineWords
  crc : Nat
  repeated : Bool
  skim : Bool
  before : LineWords
  deriving DecidableEq, Repr

/-- A line that the device itself makes, with the seal of its words (R14). -/
def made (l before : LineWords) (repeated : Bool) : Picked := ⟨l, lineSeal l, repeated, false, before⟩

/-- The black line of a destination (R190). -/
def Dev.destBlackLine (d : Dev) (i n : Nat) : LineWords :=
  blackLine (d.get F.XPT_DEST_STATUS_FORMAT i) (d.get F.XPT_DEST_STATUS_RATE i) n

/-- A stored line with its ingest seal, or a black line. -/
def Dev.stored (d : Dev) (i n : Nat) (l : Option StoredLine) (repeated skim : Bool) (before : Option StoredLine) : Picked :=
  let black := d.destBlackLine i n
  match l with
  | some x => ⟨x.words, x.crc, repeated, skim, (before.map StoredLine.words).getD black⟩
  | none => made black black true

/-- The slot is carried by the skim path at present (R197). -/
def Dev.slotOnSkim (d : Dev) (s : Nat) : Bool := s < 1536 && d.get F.ING_SLOT_STATUS_ON_SKIM (d.slotBase s) == 1

/-- Line `n` of head `h`, from the composition that readout sends, with its seal (R14, R247); black before the first. -/
def Dev.headLine (d : Dev) (i h n : Nat) (repeated : Bool) : Picked :=
  if d.hget H.mvReady h = 0 then made (d.destBlackLine i n) (d.destBlackLine i n) true
  else made ((d.headBuffer h (d.hget H.mvSent h)).line n) ((d.headStore h).before.line n) repeated

/-- The line of the source that a destination carries, while it is not lost: from Mere, from the skim store, a head's or a
generator's (R13, R213). -/
def Dev.liveLine (d : Dev) (i s n : Nat) : Picked :=
  if s < 1536 then
    let b := d.slotBase s
    if d.slotOnSkim s then d.stored i n (d.skimLine s n) false true none
    else
      let (x, other) := d.mereLine b (s - b) n
      d.stored i n x other false (d.mereBefore b (s - b) n)
  else if s < 1552 then d.headLine i (s - 1536) n false
  else
    let g := s - 1552
    let w := patternLine (d.get F.XPT_GEN_CFG_PATTERN g) (d.get F.XPT_GEN_CFG_LEVEL g) (d.get F.XPT_GEN_CFG_FORMAT g)
      (d.get F.XPT_GEN_CFG_RATE g) n
    made w w false

/-- The line that loss policy HOLD sends (R235). -/
def Dev.heldLine (d : Dev) (i s n : Nat) : Picked :=
  let black := d.destBlackLine i n
  if s < 1536 then
    let b := d.slotBase s
    if d.get F.ING_SLOT_CFG_PATH b == 1 || d.hget H.ingStored b == 0 then made black black true
    else
      let x := d.keptLine b (s - b) n (d.get F.XPT_DEST_STATUS_FORMAT i) (d.get F.XPT_DEST_STATUS_RATE i)
      d.stored i n x true false x
  else if s < 1552 && d.hget H.mvDone (s - 1536) == 1 then
    let w := (d.headBuffer (s - 1536) (d.hget H.mvSent (s - 1536))).line n
    made w w true
  else made black black true

/-- The source line that both planes of destination `i` take (R213): a black line before the switch line of a take that changes the
format (R232), the loss policy's line while the source is lost (R235), else the source's. -/
def Dev.pick (d : Dev) (i n : Nat) : Picked :=
  let black := d.destBlackLine i n
  if d.hget H.destBlack i == 1 then made black black true
  else if d.hget H.destLost i == 1 then
    if d.get F.XPT_DEST_CFG_LOSS_POLICY i == 0 then d.heldLine i (d.destSource i) n else made black black true
  else d.liveLine i (d.destSource i) n

/-! ### The vote (R16, R17, R214) -/

/-- The selected plane changes (R17). -/
def Dev.selectPlane (d : Dev) (i plane : Nat) : Dev := (d.set F.XPT_DEST_STATUS_PLANE i plane).raise 548 [i, plane]

/-- The vote of one line: the counts and the plane selection of R16, R17 and R214, and the plane whose line leaves (2: the
same line of the previous frame). -/
def Dev.vote (d : Dev) (i line : Nat) (skim passA passB : Bool) : Dev × Nat :=
  let p := d.get F.XPT_DEST_STATUS_PLANE i
  let sent := if p = 0 then passA else passB
  let other := if p = 0 then passB else passA
  let d := d.bump C.XPT_SEAL_VOTED i
  if sent && other then (d.bump C.XPT_SEAL_AGREE i, p)
  else if skim then
    if sent then ((d.bump C.XPT_SEAL_SHADOW_FAIL i).raise 547 [i, 1 - p, line], p)
    else
      let d := (d.bump C.XPT_SEAL_ESCAPED i).raise 546 [i, p, line]
      if other then (d.selectPlane i (1 - p), p)
      else ((d.bump C.XPT_SEAL_UNCORR_SKIM i).raise 545 [i, line, 1], p)
  else if sent then ((d.bump C.XPT_SEAL_CORRECTED i).raise 544 [i, 1 - p, line], p)
  else if other then (((d.bump C.XPT_SEAL_CORRECTED i).raise 544 [i, p, line]).selectPlane i (1 - p), 1 - p)
  else ((d.bump C.XPT_SEAL_UNCORR_MERE i).raise 545 [i, line, 0], 2)

/-- The converter stage (R267, R268): the active words that leave, and the converter's counts (R273).  Preset 0 and a faulted unit pass the line
unconverted (R265, R272). -/
def Dev.convert (d : Dev) (i : Nat) (active : List Nat) : Dev × List Nat :=
  match d.liveConverter i with
  | none => (d, active)
  | some (u, c) =>
    let d := d.bump C.CNV_LINES_IN u
    if d.get F.CNV_STATUS_FAULT u == 1 || d.liveCnv F.CNV_CFG_PRESET c == 0 then (d.bump C.CNV_LINES_PASSED u, active)
    else (d.bump C.CNV_LINES_CONVERTED u, d.convertWords c active)

/-- The groups that are built from the matrix (R240, R416): none in ST 259 formats and in the other members of a gang, groups 1–4 in
ST 292-1 formats. -/
def Dev.embedMask (d : Dev) (i : Nat) : Nat :=
  let fmt := d.get F.XPT_DEST_STATUS_FORMAT i
  let mask := d.get F.EGR_DEST_CFG_EMBED_GROUPS i
  if fmt < 0x10 || !isBase d.inEffect F.XPT_DEST_CFG_GANG i then 0 else if fmt < 0x20 then mask % 16 else mask

/-- The group's packets are built from the matrix (R240). -/
def embedded (mask group : Nat) : Bool := group ≥ 1 && group ≤ 8 && bit mask (group - 1)

/-- The output seal goes to the partner, or is kept for the comparison of R470. -/
def Dev.outputSeal (d : Dev) (i line value : Nat) : Dev :=
  if d.role == 0 then d.csend 5 (.outSeal i d.tick.frame line value)
  else { d with csw := { d.csw with
    seals := ⟨i, d.tick.frame, line, value⟩ :: d.csw.seals.filter fun o => d.tick.frame ≤ o.frame + 2 } }

/-! ### Where a line lies (R218) -/

/-- Nanoseconds as words of a format, rounded. -/
def nsWords (fmt rate ns : Nat) : Nat :=
  (2 * ns * (lineLength fmt rate * frameLines fmt * rateN rate) + rateD rate * 10 ^ 9) / (2 * rateD rate * 10 ^ 9)

/-- The phase of the lines that a destination sends of source `s`, in words from its house-timed position (R218): 38 CORE cycles after
their arrival on the skim path, else 120 ns. -/
def Dev.linePhase (d : Dev) (i s : Nat) (lost : Bool) : Int :=
  let fmt := d.get F.XPT_DEST_STATUS_FORMAT i
  let rate := d.get F.XPT_DEST_STATUS_RATE i
  let offset := d.get F.ING_SLOT_PHASE_OFFSET (d.slotBase s)
  if !lost && d.slotOnSkim s then (if offset = 0x8000 then 0 else toSigned 16 offset) + nsWords fmt rate 38
  else nsWords fmt rate 120

/-- The converter commit that the next frame tick applies attaches or detaches one (R271): the change of the latency in CORE cycles. -/
def Dev.attachment (d : Dev) (b : Nat) : Int :=
  let n := d.tick.frame + 1
  let due := d.tick.commits.any fun c => c.target ≤ n && bit c.groups 6
  let v : View := if due then d.inShadow else d.inEffect
  let next := (d.touched [] F.CNV_CFG_EN).any fun c => v F.CNV_CFG_EN c == 1 && v F.CNV_CFG_DEST c == b
  if startsFrame d.rate (d.get F.XPT_DEST_STATUS_RATE b) n then 64 * (ofBool next - ofBool (d.liveConverter b).isSome : Int) else 0

/-- The words by which the blanking of line `n` is longer: Δ of R218 before the switch line of a switch to come, and the change of R271 in the
last line. -/
def Dev.blankingDelta (d : Dev) (i n : Nat) : Int :=
  let b := gangBase d.inEffect F.XPT_DEST_CFG_GANG i
  let fmt := d.get F.XPT_DEST_STATUS_FORMAT i
  if n = frameLines fmt then
    let ns := d.attachment b
    if ns < 0 then -(nsWords fmt (d.get F.XPT_DEST_STATUS_RATE i) 64 : Int) else nsWords fmt (d.get F.XPT_DEST_STATUS_RATE i) ns.toNat
  else if n + 1 ≠ switchLine fmt then 0
  else
    let now := d.linePhase b (d.destSource b) (d.hget H.destLost b == 1 || d.hget H.destBlack b == 1)
    let next := fun s => d.linePhase b s (d.carried b s != .fit)
    match d.nextSwitch b with
    | some (.take e) => next e.source - now
    | some (.changeover c) => next c.source - now
    | some .resume => if d.hget H.destLost b == 1 && d.hget H.destResume b == 1 then next (d.destSource b) - now else 0
    | none => 0

/-! ### Embedding and ANC (R240–R242, R416, R417) -/

/-- The packets of line `n` that egress builds from the destination's channels (R416, R417): for each group its control packet, on the
lines that carry one, and a data packet for each sample period that the line carries; destination frame F is the frame number at the
destination's rate (log entry 336). -/
def Dev.builtAudio (d : Dev) (i n : Nat) : List AncPacket :=
  let fmt := d.get F.XPT_DEST_STATUS_FORMAT i
  let rate := d.get F.XPT_DEST_STATUS_RATE i
  let fast := d.get F.TICK_CFG_BLOCK_RATE
  let frame := d.tick.frame / (divisor d.rate rate).getD 1
  let j := frame % 5
  let a := (fast + 1) * fiveFrames rate
  let total := frameSamples a j
  let (first, last) := lineSamples fmt total n
  let clocks := lineLength fmt rate / 2
  ((List.range 8).filter fun g => bit (d.embedMask i) g).flatMap fun g =>
    let data := fun k =>
      let x := frame / 5 * a + j * a / 5 + k
      audioPacket (g + 1) (x % 255 + 1) (k * clocks * frameLines fmt / total % clocks)
        ((List.range 4).map fun c => leaving24 (sampleAt d.amx.playing (32 * i + 4 * g + c) (x % d.blockSamples)))
    (if controlLine fmt n then [controlPacket (g + 1) (j + 1) (4 * fast)] else []) ++
      (List.range (last - first)).map fun k => data (first + k)

/-- Stages 3 and 4 on the ANC packets of line `n` (R240–R242): those of embedded groups are replaced by the built ones, those of the
other audio groups leave a repeated line, and what no longer fits the blanking, lengthened by `extra` words, is dropped from the last. -/
def Dev.ancStage (d : Dev) (i n : Nat) (extra : Int) (anc : List AncPacket) (repeated : Bool) : Dev × List AncPacket × Blanking :=
  let mask := d.embedMask i
  let removed := anc.filter fun p => embedded mask p.group
  let rest := anc.filter fun p => !embedded mask p.group
  let cut := if repeated then rest.filter fun p => p.group != 0 else []
  let rest := if repeated then rest.filter fun p => p.group == 0 else rest
  let built := d.builtAudio i n
  let all := built ++ rest
  let (h, v) := blankingSpace (d.get F.XPT_DEST_STATUS_FORMAT i) (d.get F.XPT_DEST_STATUS_RATE i) n extra
  let (b, kept) := ancPlace h v ⟨[], [], [], []⟩ all
  let d := (d.bump K.EGR_ANC_IN i (anc.length + built.length)).bump K.EGR_ANC_OUT i kept
  let d := (d.bump K.EGR_AUD_EMBED_REMOVED i removed.length).bump C.EGR_AUD_PKT_REMOVED i cut.length
  (d.dropAnc i n (all.length - kept), all.take kept, b)

/-! ### A line leaves -/

/-- A sent line among others, in place of the one it follows. -/
def putSent (l : SentLine) (same : SentLine → Bool) (ls : List SentLine) : List SentLine := l :: ls.filter fun x => !same x

/-- Transmit contexts are bound to the destination or to its gang (R11, R313). -/
def Dev.ipBound (d : Dev) (i : Nat) : Bool :=
  let b := gangBase d.inEffect F.XPT_DEST_CFG_GANG i
  (d.insts F.IPM_TX_CFG_EN).any fun x => d.get F.IPM_TX_CFG_EN x == 1 &&
    (d.get F.IPM_TX_CFG_ESSENCE x == 0 || d.get F.IPM_TX_CFG_ESSENCE x == 3) && d.get F.IPM_TX_CFG_DEST x == b

/-- The regenerated line goes to the Reed sub-channel and, for bound flows, to the staging (R11, R182, R185, R240, R317). -/
def Dev.sendLine (d : Dev) (i n plane : Nat) (extra : Int) (l : LineWords) (b : Blanking) : Dev :=
  let before := ((d.xpt.sent.find? fun x => x.dest == i).map fun x => x.words.active).getD []
  let ws := outputWords (d.get F.XPT_DEST_STATUS_FORMAT i) (d.get F.XPT_DEST_STATUS_RATE i) n extra b l.active before
  let x : SentLine := ⟨i, n, l⟩
  let d := d.onXpt fun y => { y with
    sent := putSent x (fun z => z.dest == i) y.sent
    staged := if d.ipBound i then putSent x (fun z => z.dest == i && z.number == n) y.staged else y.staged }
  let value := lineSeal l
  ((d.emit (.line i n plane value ws)).outputSeal i n value).pushWords i ws

/-- One line of destination `i` at egress (R240).  A disabled destination, and one under loss policy IDLE, sends no line and
none is voted (R213); nothing is sent while the tick is stopped (R23). -/
def Dev.egress (d : Dev) (i : Nat) (l : VoteLine) : Dev :=
  if !d.running || !d.destOn i || d.destIdle i then d
  else
    let p := d.pick i l.number
    let a := l.faultA.getD p.words
    let b := l.faultB.getD p.words
    let a := if d.injects i 0 then corruptLine a else a
    let b := if d.injects i 1 then corruptLine b else b
    let extra := d.blankingDelta i l.number
    let d := d.useInjections i
    let d := d.each [0, 1] fun d p => (d.bump K.FABRIC_ISSUED p).bump K.FABRIC_RETURNED p
    let (d, plane) := d.vote i l.number p.skim (lineSeal a == p.crc) (lineSeal b == p.crc)
    let sent := if plane = 0 then a else if plane = 1 then b else p.before
    let (d, active) := d.convert i sent.active
    let (d, anc, blanking) := d.ancStage i l.number extra sent.anc (p.repeated || plane == 2)
    d.sendLine i l.number plane extra ⟨anc, active⟩ blanking

def execSealVote (dest : Fin 1536) (l : VoteLine) (s : State) : Host.Outcome State Fault Refusal := lift (·.egress dest l) s

end Sys2Proof.Machine
end

