-- ==== Sys2Proof/Machine/Role.lean ====
section
/-! DEFINITION. Role changes (R454–R456), the takeover (R474, R475), and the blame check (R471, R472). -/

namespace Sys2Proof.Machine

/-- Change the Causeway state. -/
def Dev.onCsw (d : Dev) (f : Csw → Csw) : Dev := { d with csw := f d.csw }

/-- RESYNC_REQUEST goes to the partner once the firmware can send it (R476). -/
def Dev.askResync (d : Dev) : Dev :=
  if d.csw.askPending && d.lathRuns && d.causewayUp then
    (d.onCsw fun c => { c with askPending := false }).transmit 3 0 0 0x0780 1 0 [] false
  else d

/-- What leaving ACTIVE ends: a SWITCHOVER that waits, which completes (R484). -/
def Dev.leaveActive (d : Dev) (cause : Nat) : Dev :=
  match d.csw.switchover with
  | some (_, port, src, tag) =>
    (d.onCsw fun c => { c with switchover := none }).respond port src tag 0x0702 (if cause = 5 then St.ok else St.notActive) []
  | none => d

/-- What entering a role starts anew in the Causeway block: the dual claim (R480), the comparison of seals (R477), or the
resynchronisation (R476). -/
def Dev.startRole (d : Dev) (role : Nat) : Dev :=
  match role with
  | 0 => d.onCsw fun c => { c with
      dualSince := if d.get F.CSW_ROLE_CLAIM_IN = 1 then some d.clock.core else none
      silentTicks := 0 }
  | 1 => d.onCsw fun c => { c with
      standbySince := 0, mismatchInFrame := false, compared := 0, barred := false, yieldAsked := false, markerAt := d.clock.core, offsetSince := none }
  | 2 =>
    let d := d.onCsw fun c => { c with
      resyncDone := none, committedSince := false, framesSince := 0, unresolved := [], noBlame := [], blame := none
      blameQueue := [], applied := [], cutKnown := false, badRun := 0, askPending := true }
    (d.set F.CSW_BLAME_BUSY 0 0).askResync
  | _ => d

/-- A role change (R455, R456): the claim follows the role (R452), TAKEOVER_OK is 0 outside STANDBY, every transmit lane owes a
ROLE message (R162), and leaving ACTIVE or OFFLINE ends every lease (R119). -/
def Dev.enterRole (d : Dev) (role cause : Nat) : Dev :=
  let old := d.role
  if old == role then d
  else
    let d := ((d.set F.CSW_ROLE_ROLE 0 role).set F.CSW_ROLE_CAUSE 0 cause).set F.CSW_ROLE_CLAIM_OUT 0 (ofBool (role == 0))
    let d := (d.set F.CSW_ROLE_TAKEOVER_OK 0 0).hset H.roleTurn 0 (d.hget H.roleTurn + 1)
    let d := d.raise 832 [old, role, cause]
    let d := if old == 0 || old == 4 then d.endAllLeases 4 else d
    let d := if old == 0 then d.leaveActive cause else d
    d.startRole role

/-- A received epoch is discarded with a cause (R467). -/
def Dev.discardEpoch (d : Dev) (epoch cause : Nat) : Dev :=
  let d := (d.onCsw fun c => { c with receiving := none }).bump C.CSW_EPOCHS_DISCARDED
  let d := d.set F.CSW_MIRROR_STATUS_DISCARD_RUN 0 (min 65535 (d.get F.CSW_MIRROR_STATUS_DISCARD_RUN + 1))
  (d.set F.CSW_MIRROR_STATUS_LAST_DISCARD 0 cause).raise 834 [epoch, cause]

/-- An action with that CSEQ lies after the last committed epoch (R474). -/
def Csw.after (c : Csw) (cseq : Nat) : Bool := serialGe 32 cseq (c.committedCut + 1)

/-- The takeover's cancelled work: takes and held routes, with their records (R474, step 3). -/
def Dev.cancelTakes (d : Dev) : Dev × List ReportRecord :=
  let es := d.xpt.entries.filter fun e => d.csw.after e.cseq
  let hs := d.xpt.held.filter fun h => d.csw.after h.cseq
  let d' := es.foldl (fun d e => (d.bump C.XPT_TL_CANCELLED).entryEnds e St.superseded) d
  let d' := (d'.bump C.XPT_TL_CANCELLED 0 hs.length).onXpt fun x => { x with held := x.held.filter fun h => !hs.contains h }
  (d', es.map (fun e => ⟨0, e.port, e.tag, e.dest, e.source, e.frame⟩) ++
    hs.map fun h => ⟨1, h.port, h.tag, h.dest, h.source, 0⟩)

/-- The port and tag of a commit's origin, 0xFF for a BAR0 write. -/
def Issuer.origin : Issuer → Nat × Nat
  | .bar0 _ => (0xFF, 0)
  | .command p t _ => (p, t)
  | .firmware _ p t => (p, t)
  | .mirror p t => (p, t)

/-- A commit as a record of a kind. -/
def Commit.record (c : Commit) (kind : Nat) : ReportRecord :=
  ⟨kind, c.issuer.origin.1, c.issuer.origin.2, c.groups, 0, c.target⟩

/-- The takeover's cancelled commits, whose groups' shadow copies are reloaded unless a remaining commit names them (R474,
step 4). -/
def Dev.cancelCommits (d : Dev) : Dev × List ReportRecord :=
  let cs := d.tick.commits.filter fun c => d.csw.after c.cseq
  let rest := d.tick.commits.filter fun c => !d.csw.after c.cseq
  let named := rest.foldl (fun m c => m ||| c.groups) 0
  let gone := (cs.foldl (fun m c => m ||| c.groups) 0) &&& (0xFFF ^^^ named)
  let d' := { d with tick := { d.tick with commits := rest } }
  let d' := cs.foldl (fun d c => d.commitEnds c .cancelled) d'
  (d'.reloadGroups gone, cs.map (·.record 2))

/-- The commits that stay pending although a shadow copy of their groups was written after the last committed epoch. -/
def Dev.keptCommits (d : Dev) : List ReportRecord :=
  (d.tick.commits.filter fun c => (List.range 12).any fun g =>
    bit c.groups g && d.hget H.groupSeq g != 0 && d.csw.after (d.hget H.groupSeq g)).map (·.record 5)

/-- A seat becomes ACTIVE; from STANDBY or SYNCING it takes over (R474). -/
def Dev.becomeActive (d : Dev) (cause : Nat) : Dev :=
  let old := d.role
  let d := d.enterRole 0 cause
  if old != 1 && old != 2 then d
  else
    let d := match d.csw.receiving with
      | some e => d.discardEpoch e.epoch 1
      | none => d
    let (d, takes) := d.cancelTakes
    let (d, commits) := d.cancelCommits
    let applied := (d.csw.unconfirmed.filter fun u => d.csw.after u.cseq).map Unconfirmed.record
    let records := takes ++ commits ++ applied ++ d.keptCommits
    let epoch := d.get F.CSW_EPOCH_COMMITTED_EPOCH
    let frame := d.get F.CSW_EPOCH_FRAME_HI_FRAME * 2 ^ 32 + d.get F.CSW_EPOCH_FRAME_LO_FRAME
    let report : Report := ⟨cause, ofBool (old == 2), epoch, frame, d.tick.frame, records.take 8192, records.length - 8192⟩
    (d.onCsw fun c => { c with report := some report, unconfirmed := [] }).raise 837 [cause, epoch, takes.length + commits.length]

/-- The standby asks the active seat to yield (R473). -/
def Dev.askYield (d : Dev) (cause : Nat) : Dev := d.csend 7 (.yieldReq cause)

/-! ### The blame check (R471, R472) -/

/-- The verdict from both seats' results (R472): whether the active seat's and the standby's ingest agree with their
witnesses, whether the ingest seals are equal, and whether the slot has an ingest. -/
def verdictOf (activeAgrees standbyAgrees sealsEqual ingest fresh : Bool) : Nat :=
  if !activeAgrees && standbyAgrees then 1
  else if activeAgrees && !standbyAgrees then 2
  else if !activeAgrees && !standbyAgrees then 3
  else if ingest && !sealsEqual then 4
  else if fresh then 6
  else 5

/-- A blame check begins on a slot (R471): its last source frame but four, neither seat's results in. -/
def Dev.beginBlame (d : Dev) (i slot : Nat) : Dev :=
  let b : Blame := ⟨i, slot, d.tick.frame, 4, false, true, [], none, none⟩
  ((d.onCsw fun c => { c with blame := some b }).set F.CSW_BLAME_BUSY 0 1).set F.CSW_BLAME_DEST 0 i

/-- The number of the verdict on a blame check (R472). -/
def Dev.verdict (d : Dev) (b : Blame) : Nat :=
  let own := b.own.getD (false, [])
  let peer := b.peer.getD (false, [])
  let active := if d.role == 0 then own else peer
  let standby := if d.role == 0 then peer else own
  let fresh := d.csw.standbySince ≤ 64 && d.csw.unresolved.contains b.dest
  if b.slot < 1536 then verdictOf active.1 standby.1 (own.2 == peer.2) true fresh
  else if fresh then 6
  else 5

/-- What a verdict leads the standby to do (R472). -/
def Dev.blameOutcome (d : Dev) (dest v : Nat) : Dev :=
  match v with
  | 1 => if d.get F.CSW_CFG_AUTO_TAKEOVER == 1 && d.get F.CSW_ROLE_TAKEOVER_OK == 1 then d.askYield 0 else d
  | 2 => (d.set F.CSW_ROLE_TAKEOVER_OK 0 0).onCsw fun c => { c with barred := true }
  | 5 => (d.enterRole 2 7).onCsw fun c => { c with unresolved := insertNat dest c.unresolved }
  | 6 => d.onCsw fun c => { c with noBlame := insertNat dest c.noBlame }
  | _ => d

/-- The verdict is reached: it is reported, and has its outcome at the standby (R472). -/
def Dev.concludeBlame (d : Dev) (b : Blame) : Dev :=
  let v := d.verdict b
  let d := (d.set F.CSW_BLAME_VERDICT 0 v).set F.CSW_BLAME_BUSY 0 0
  let d := (d.onCsw fun c => { c with blame := none }).raise 836 [b.dest, v]
  if d.role != 1 then d else d.blameOutcome b.dest v

/-- The next waiting blame check begins: on the slot that the destination carries, which the partner is told.  A slot without an
ingest has its verdict at once (R472). -/
def Dev.startBlame (d : Dev) : Nat → Dev
  | 0 => d
  | n + 1 =>
    match d.csw.blame, d.csw.blameQueue with
    | none, i :: rest =>
      let d := (d.onCsw fun c => { c with blameQueue := rest }).beginBlame i (d.get F.XPT_DEST_STATUS_SOURCE i)
      match d.csw.blame with
      | some b => if 1536 ≤ b.slot ∧ b.slot < 1568 then (d.concludeBlame b).startBlame n else d.csend 8 (.blame i b.slot true [])
      | none => d
    | _, _ => d

/-- The verdict is reached, and the next check begins. -/
def Dev.blameVerdict (d : Dev) (b : Blame) : Dev :=
  let d := d.concludeBlame b
  d.startBlame d.csw.blameQueue.length

/-- The verdict is reached when both seats' results are in. -/
def Dev.blameCheck (d : Dev) : Dev :=
  match d.csw.blame with
  | some b => if b.own.isSome && b.peer.isSome then d.blameVerdict b else d
  | none => d

/-- This seat's results are in: they go to the partner (R471). -/
def Dev.blameResult (d : Dev) (b : Blame) : Dev :=
  let r := (b.agree, b.found.reverse)
  let d := d.onCsw fun c => { c with blame := some { b with own := some r } }
  (d.csend 8 (.blame b.dest b.slot r.1 r.2)).blameCheck

/-- A line of the watched slot: its ingest seal, and whether the witness's seal is the same (R471).  Watching begins with
line 1 of a source frame. -/
def Dev.blameLine (d : Dev) (slot line ingest witness : Nat) : Dev :=
  match d.csw.blame with
  | some b =>
    if b.slot != slot || b.own.isSome then d
    else if b.started || line == 1 then
      d.onCsw fun c => { c with blame := some { b with
        started := true, agree := b.agree && ingest == witness, found := ingest :: b.found } }
    else d
  | none => d

/-- A source frame of the watched slot is complete; after four of them the results are in. -/
def Dev.blameFrame (d : Dev) (slot : Nat) : Dev :=
  match d.csw.blame with
  | some b =>
    if b.slot != slot || b.own.isSome || !b.started then d
    else if b.left ≤ 1 then d.blameResult { b with left := 0 }
    else d.onCsw fun c => { c with blame := some { b with left := b.left - 1 } }
  | none => d

end Sys2Proof.Machine
end

