-- ==== Sys2Proof/Machine/Ingest.lean ====
section
/-! DEFINITION. Ingest (R183–R201, R543): lines, states and loss causes, monitors, the Mere ring and its readout. -/

namespace Sys2Proof.Machine

/-- Every switch of the crosspoint to or from a slot's lines goes through here (R189): visible or not, and the
destinations look at the source again. -/
def Dev.setVisible (d : Dev) (s : Nat) (on : Bool) : Dev :=
  if (d.hget H.ingVisible s == 1) == on then d else (d.hset H.ingVisible s (ofBool on)).reviewSource s

/-- The STATE of a slot: 0 DISABLED, 1 LOST, 2 ACQUIRING, 3 LOCKED. -/
def Dev.slotState (d : Dev) (s : Nat) : Nat := d.get F.ING_SLOT_STATUS_STATE s

/-- The slot writes its frames to Mere (R197). -/
def Dev.writesMere (d : Dev) (s : Nat) : Bool := d.get F.ING_SLOT_CFG_PATH s != 1

/-- The skim path carries the slot (R197). -/
def Dev.carriedBySkim (d : Dev) (s : Nat) : Bool :=
  d.get F.ING_SLOT_CFG_PATH s == 1 || (d.get F.ING_SLOT_CFG_PATH s == 2 && d.get F.ING_SLOT_STATUS_FELL_BACK s == 0)

/-! ### The Mere ring (R199, R202, R212) -/

/-- The frames that are complete and await readout. -/
def Ring.awaiting (r : Ring) : Nat := (r.frames.filter fun f => f.done && !f.taken).length

/-- A slot's ring is replaced, and FRAMES_HELD follows. -/
def Dev.setRing (d : Dev) (r : Ring) : Dev :=
  let held := min (d.get F.MERE_SLOT_CFG_DEPTH r.slot) (r.frames.filter fun f => f.done).length
  { d with ing := { d.ing with rings := putRing r d.ing.rings } }.set F.MERE_SLOT_STATUS_FRAMES_HELD r.slot held

/-- The frames awaiting readout are counted in FRAMES_DROPPED, and the ring begins again (R212); what it completed last stays in Mere, and a
slot that is stored by its packets goes on with the frame in progress (R543). -/
def Dev.passOver (d : Dev) (s : Nat) : Dev :=
  let r := d.ring s
  (d.bump C.ING_FRAMES_DROPPED s r.awaiting).setRing { r with
    last := none, repeated := false, frames := if d.ipStored s then r.frames.filter fun f => !f.done else [] }

/-- A source frame starts in the ring; the oldest frame beyond DEPTH is overwritten, and is dropped if it awaited readout. -/
def Dev.ringStart (d : Dev) (s start stamp : Nat) : Dev :=
  let r := d.ring s
  let fs := r.frames ++ [⟨r.next, start, false, false, stamp, []⟩]
  let excess := fs.length - d.get F.MERE_SLOT_CFG_DEPTH s
  let lost := ((fs.take excess).filter fun f => f.done && !f.taken).length
  (d.bump C.ING_FRAMES_DROPPED s lost).setRing { r with next := r.next + 1, frames := fs.drop excess }

/-- A frame of the ring replaced. -/
def Ring.replace (r : Ring) (k : Nat) (f : RingFrame → RingFrame) : Ring :=
  { r with frames := r.frames.map fun g => if g.k = k then f g else g }

/-- A line is written into the frame in progress of the ring. -/
def Dev.ringLine (d : Dev) (s : Nat) (l : StoredLine) : Dev :=
  let r := d.ring s
  match r.frames.find? fun f => !f.done with
  | some f => d.setRing (r.replace f.k fun g => { g with lines := g.lines ++ [l] })
  | none => d

/-- The lines of a slot's last complete frame, with its format (R212, R235). -/
def Dev.keep (d : Dev) (s : Nat) (ls : List StoredLine) : Dev := d.setRing { d.ring s with
  keptFmt := d.get F.ING_SLOT_STATUS_FORMAT s, keptRate := d.get F.ING_SLOT_STATUS_RATE s, kept := ls }

/-- The frame in progress of the ring is complete; a frame that readout had already taken counts as delivered now. -/
def Dev.ringEnd (d : Dev) (s : Nat) : Dev :=
  let r := d.ring s
  match r.frames.find? fun f => !f.done with
  | none => d
  | some f =>
    let d := d.bump C.ING_FRAMES_DONE s
    let d := if f.taken then d.bump C.ING_FRAMES_DELIVERED s else d
    let d := (d.setRing (r.replace f.k fun g => { g with done := true })).hset H.ingStored s 1
    if d.ipStored s then d else d.keep s f.lines

/-- The DELAY that readout applies (R200). -/
def Dev.delay (d : Dev) (s : Nat) : Nat := min (d.get F.MERE_SLOT_CFG_DELAY s) (d.get F.MERE_SLOT_CFG_DEPTH s - 2)

/-- `D × P` in whole CORE cycles (R199). -/
def delayCycles (delay rate : Nat) : Nat := delay * (rateD rate * 10 ^ 9) / rateN rate

/-- The frame that R199 selects at T0: the last one with `S_k ≤ T0 − D × P`. -/
def Ring.select (r : Ring) (t0 delay rate : Nat) : Option RingFrame :=
  (r.frames.filter fun f => f.start + 65536 * delayCycles delay rate ≤ 65536 * t0).getLast?

/-- Readout of a slot at the tick that starts one of its frames (R199): repeats and drops are counted and raised. -/
def Dev.readout (d : Dev) (s rate : Nat) : Dev :=
  let r := d.ring s
  match r.select d.tick.t0Core (d.delay s) rate with
  | none => d
  | some f =>
    let lag := 65536 * (d.tick.t0Core - delayCycles (d.delay s) rate) - f.start
    let d := d.set F.ING_SLOT_PHASE_DELTA_US s (lag / 65536000)
    if r.last = some f.k then ((d.setRing { r with repeated := true }).bump C.ING_FRAMES_REPEATED s).raise 581 [s, 0]
    -- a longer DELAY leads back to a frame that was delivered before
    else if f.taken then d.setRing { r with last := some f.k, repeated := true }
    else
      let passed := (r.frames.filter fun g => g.k < f.k && g.done && !g.taken).length
      let slip := r.last.isSome && passed > 0
      let d := d.bump C.ING_FRAMES_DROPPED s passed
      let d := if f.done then d.bump C.ING_FRAMES_DELIVERED s else d
      let d := d.setRing { r with
        last := some f.k, repeated := false, frames := r.frames.map fun g => if g.k ≤ f.k then { g with taken := true } else g }
      if slip then d.raise 581 [s, 1] else d

/-! ### Loss causes (R189) -/

/-- The feeder of member `m` of the gang at `s` is lost: a Reed sub-channel (R172), or an IP context that is not
RECEIVING (R307). -/
def Dev.feederLost (d : Dev) (s m : Nat) : Bool :=
  let index := d.get F.ING_SLOT_CFG_FEED_INDEX s
  match d.get F.ING_SLOT_CFG_FEED_KIND s with
  | 1 => index + m ≥ 1536 || d.hget H.feedLost (index + m) == 1
  | 2 => d.get F.IPM_RX_STATUS_STATE index != 2
  | _ => true

/-- SRC_LOCK of the feeder of member `m` is 0. -/
def Dev.srcUnlocked (d : Dev) (s m : Nat) : Bool :=
  d.get F.ING_SLOT_CFG_FEED_KIND s == 1 && d.hget H.feedLock (d.get F.ING_SLOT_CFG_FEED_INDEX s + m) == 0

/-- Cause 1, 2 or 3 holds for a member other than the base: cause 9. -/
def Dev.memberLost (d : Dev) (s : Nat) : Bool :=
  (List.range (sourceGang d.inEffect s)).any fun m =>
    m != 0 && d.get F.ING_SLOT_CFG_FEED_KIND s == 1 &&
      (d.feederLost s m || d.srcUnlocked s m || d.hget H.ingNoTrs (s + m) == 1)

/-- Cause 4: the detected format differs from the one last locked, until LOCK_FRAMES frames of the new one. -/
def Dev.formatChanged (d : Dev) (s : Nat) : Bool :=
  let fmt := d.hget H.ingDetFmt s
  d.hget H.ingRefFmt s != 0 && fmt != 0 &&
    !(fmt == d.hget H.ingRefFmt s && d.hget H.ingDetRate s == d.hget H.ingRefRate s) &&
    d.hget H.ingRun s < d.get F.ING_LOCK_CFG_LOCK_FRAMES

/-- The loss causes that hold, lowest first. -/
def Dev.causes (d : Dev) (s : Nat) : List Nat :=
  [(1, d.feederLost s 0), (2, d.srcUnlocked s 0), (3, d.hget H.ingNoTrs s == 1), (4, d.formatChanged s),
    (5, d.hget H.ingOversize s == 1), (6, d.hget H.ingDetFmt s != 0 && !d.supports (d.hget H.ingDetRate s)),
    (7, d.get F.ING_SLOT_CFG_PATH s == 1 && d.hget H.ingOutside s == 1),
    (8, d.writesMere s && d.get F.MERE_STATUS_IN_SERVICE == 0), (9, d.memberLost s)].filterMap
      fun c => if c.2 then some c.1 else none

/-! ### States (R188) -/

/-- The monitor runs read 0 (R188, R191). -/
def Dev.clearMonitors (d : Dev) (s : Nat) : Dev :=
  let d := ((((d.hset H.ingBlack s 0).hset H.ingFreeze s 0).hset H.ingSilence s 0).hset H.ingRaised s 0).hset H.ingDigest s 0
  let d := { d with ing := { d.ing with crc := d.ing.crc.filter fun h => h.slot != s } }
  (((d.set F.ING_SLOT_MON_BLACK_RUN s 0).set F.ING_SLOT_MON_FREEZE_RUN s 0).set F.ING_SLOT_MON2_CRC_RATE s 0).set
    F.ING_SLOT_MON2_SILENCE_RUN s 0

/-- A slot leaves LOCKED, or begins again: no lines for the crosspoint, its ring passed over, its monitors at 0, and
extraction stopped. -/
def Dev.leaveLocked (d : Dev) (s : Nat) : Dev :=
  let d := d.passOver s
  let d := if d.hget H.ingExtract s == 1 then d.hset H.ingOldGroups s (1 + d.get F.ING_SLOT_STATUS_GROUPS s) else d
  let d := d.onIng fun x => { x with audio := x.audio.filter fun q => q.slot != s }
  ((d.clearMonitors s).hset H.ingExtract s 0).setVisible s false

/-- A slot enters a state other than LOCKED. -/
def Dev.enterState (d : Dev) (s state : Nat) : Dev := (d.set F.ING_SLOT_STATUS_STATE s state).leaveLocked s

/-- A slot enters LOCKED (R188): its FORMAT and RATE are those of the frames counted. -/
def Dev.lockSlot (d : Dev) (s : Nat) : Dev :=
  let fmt := d.hget H.ingRunFmt s
  let rate := d.hget H.ingRunRate s
  let last := d.hget H.ingLastFmt s
  let lastRate := d.hget H.ingLastRate s
  let d := ((d.set F.ING_SLOT_STATUS_STATE s 3).set F.ING_SLOT_STATUS_FORMAT s fmt).set F.ING_SLOT_STATUS_RATE s rate
  let d := (((d.hset H.ingRefFmt s fmt).hset H.ingRefRate s rate).hset H.ingLastFmt s fmt).hset H.ingLastRate s rate
  let d := d.raise 513 [s, fmt, rate]
  let d := if last != 0 && !(last == fmt && lastRate == rate) then d.raise 514 [s, last, fmt] else d
  if d.carriedBySkim s then d.setVisible s true else d

/-- The state follows the loss causes: LOST while one holds, ACQUIRING when none does (R188, R189). -/
def Dev.reviewSlot (d : Dev) (s : Nat) : Dev :=
  let st := d.slotState s
  if st == 0 then d
  else
    match d.causes s with
    | [] => if st == 1 then d.set F.ING_SLOT_STATUS_STATE s 2 else d
    | c :: cs =>
      let d := if c != 4 || cs != [] then d.hset H.ingRun s 0 else d
      let d := d.set F.ING_SLOT_STATUS_LOSS_CAUSE s c
      if st == 1 then d else (d.enterState s 1).raise 512 [s, c]

/-- The slots that are enabled and are bases. -/
def Dev.liveSlots (d : Dev) : List Nat := (d.insts F.ING_SLOT_STATUS_STATE).filter fun s => d.slotState s != 0

/-- The enabled base slots whose feeders the Reed sub-channel `x` is among. -/
def Dev.basesOf (d : Dev) (x : Nat) : List Nat := d.liveSlots.filter fun s =>
  let i := d.get F.ING_SLOT_CFG_FEED_INDEX s
  d.get F.ING_SLOT_CFG_FEED_KIND s == 1 && i ≤ x && x < i + sourceGang d.inEffect s

/-- The slots that the sub-channel itself feeds: a base, or the member of a gang (R187). -/
def Dev.slotsOf (d : Dev) (x : Nat) : List Nat := (d.basesOf x).map fun s => s + (x - d.get F.ING_SLOT_CFG_FEED_INDEX s)

/-- The slots that the Reed sub-channel `x` feeds look at their causes again. -/
def Dev.feederChanged (d : Dev) (x : Nat) : Dev := d.each (d.basesOf x) Dev.reviewSlot

/-- The slots that IP context `r` feeds look at their causes again. -/
def Dev.contextChanged (d : Dev) (r : Nat) : Dev :=
  d.each (d.liveSlots.filter fun s =>
    d.get F.ING_SLOT_CFG_FEED_KIND s == 2 && d.get F.ING_SLOT_CFG_FEED_INDEX s == r) Dev.reviewSlot

/-- A sub-channel's lost bit and SRC_LOCK (R172, R174). -/
def Dev.setFeeder (d : Dev) (x : Nat) (lost lock : Bool) : Dev :=
  if (d.hget H.feedLost x == 1) == lost && (d.hget H.feedLock x == 1) == lock then d
  else ((d.hset H.feedLost x (ofBool lost)).hset H.feedLock x (ofBool lock)).feederChanged x

/-! ### Lines (R183, R190, R198) -/

/-- The line number against ingest's own count (R183): after two consecutive numbers that agree with each other and differ
from the count, the count follows the source. -/
def Dev.countLine (d : Dev) (s number : Nat) : Dev :=
  let own := d.hget H.ingCount s + 1
  if number = 0 || number = own then (d.hset H.ingCount s own).hset H.ingLastNum s 0
  else if d.hget H.ingLastNum s != 0 && d.hget H.ingLastNum s + 1 = number then
    (d.hset H.ingCount s number).hset H.ingLastNum s 0
  else (d.hset H.ingCount s own).hset H.ingLastNum s number

/-- Words of a frame. -/
def frameWords (fmt rate : Nat) : Nat := lineLength fmt rate * frameLines fmt

/-- The start of the house frame of a rate, in CORE cycles: that of the last tick whose frame number is a multiple of its divisor (R35). -/
def Dev.houseStart (d : Dev) (rate : Nat) : Nat :=
  let k := (divisor d.rate rate).getD 1
  d.tick.t0Core - d.tick.frame % k * (rateD d.rate * 10 ^ 9) / rateN d.rate

/-- The word position of CORE cycle `at_` minus that of line `n` of slot `s` at house timing (R198), the nearest such line, as 16 bits hold
it; none while there is no house timing or no format. -/
def Dev.offsetAt (d : Dev) (s n at_ : Nat) : Option Int :=
  let fmt := d.hget H.ingDetFmt s
  let rate := d.hget H.ingDetRate s
  let words := frameWords fmt rate
  if !d.running || fmt == 0 then none
  else
    let pos := ((at_ : Int) - d.houseStart rate) * (words * rateN rate : Nat) / (rateD rate * 10 ^ 9 : Nat)
    let raw := (pos - (n - 1) * lineLength fmt rate + words / 2) % words - words / 2
    some (clampInt (-32767) 32767 raw)

/-- OFFSET takes its value; 0x8000 when unknown. -/
def Dev.setOffset (d : Dev) (s : Nat) (offset : Option Int) : Dev :=
  d.set F.ING_SLOT_PHASE_OFFSET s ((offset.map (ofSigned 16)).getD 0x8000)

/-- The slot outside the window falls back to Mere (R197, R201). -/
def Dev.fallBack (d : Dev) (s : Nat) : Dev :=
  let d := (d.set F.ING_SLOT_STATUS_FELL_BACK s 1).set F.ING_SLOT_STATUS_ON_SKIM s 0
  if d.slotState s == 3 then d.setVisible s false else d

/-- OFFSET is measured at EAV, and the skim window judged (R197, R198): a slot on the skim path that leaves it is lost, or
falls back to Mere; one of PATH 2 falls back whenever it lies outside. -/
def Dev.window' (d : Dev) (s : Nat) : Dev :=
  let offset := d.offsetAt s (d.hget H.ingCount s) d.clock.core
  let out := offset.any fun o => o < -64 || 64 < o
  let was := d.hget H.ingOutside s == 1
  let d := (d.setOffset s offset).hset H.ingOutside s (ofBool out)
  let d := if out then d.hset H.ingWinBad s 1 else d
  if out && d.carriedBySkim s then
    let d := if !was && d.slotState s == 3 then d.raise 519 [s, ofSigned 32 (offset.getD 0), d.get F.ING_SLOT_CFG_PATH s] else d
    if d.get F.ING_SLOT_CFG_PATH s == 2 then d.fallBack s else d
  else d

/-- The payload ID and the timecode of a good packet: the latest, but no VITC while LTCs arrive (R183, log entry 334). -/
def Dev.packetMarks (d : Dev) (s : Nat) (p : AncPacket) : Dev :=
  if !p.good then d.bump C.ING_ANC_CSUM_ERR s
  else
    let d := match p.payloadId with
      | some v => d.set F.ING_SLOT_PID_PID s v
      | none => d
    match p.timecode with
    | some (v, ltc) =>
      if ltc then (d.set F.ING_SLOT_TC_TC s v).hset H.ingLtc s 2
      else if d.hget H.ingLtc s == 0 then d.set F.ING_SLOT_TC_TC s v
      else d
    | none => d

/-- What a line shows of itself: errors, payload ID and timecode (R183). -/
def Dev.lineMarks (d : Dev) (s : Nat) (l : LineIn) : Dev :=
  let d := d.bump C.ING_CRC_ERR s (l.xyz + ofBool l.crc)
  let d := if l.xyz > 0 || l.crc then d.hset H.ingCrcLines s (min 65535 (d.hget H.ingCrcLines s + 1)) else d
  d.each l.words.anc fun d p => d.packetMarks s p

/-- A line is counted (R190, R212): good or damaged in LOCKED, discarded else. -/
def Dev.lineCounts (d : Dev) (s b : Nat) (damaged : Bool) : Dev :=
  let d := d.bump C.ING_LINES_IN s
  if d.slotState b != 3 then d.bump C.ING_LINES_DISCARDED s
  else if damaged then (d.bump C.ING_LINES_DAMAGED s).raise 521 [s, d.hget H.ingCount s]
  else d.bump C.ING_LINES_GOOD s

/-- Line 1 of a source frame in LOCKED starts a frame in the ring (R543); a slot stored by its packets has its own
ring frames (R308). -/
def Dev.frameStarts (d : Dev) (s : Nat) : Dev :=
  if d.slotState s == 3 && d.writesMere s && !d.ipStored s then d.ringStart s (65536 * d.clock.core) 0 else d

/-! ### Extraction (R192–R195) -/

/-- The sample of a channel joins a slot's FIFO. -/
def putSample (s c : Nat) (x : Int) : List SlotAudio → List SlotAudio
  | [] => [⟨s, c, [x]⟩]
  | q :: l => if q.slot = s ∧ q.chan = c then { q with samples := q.samples ++ [x] } :: l else q :: putSample s c x l

/-- The groups that are extracted: those present, but those at another rate than BLOCK_RATE (R192). -/
def Dev.extracted (d : Dev) (s g : Nat) : Bool :=
  bit (d.get F.ING_SLOT_STATUS_GROUPS s) g && !bit (d.hget H.ingBadGroups s) g

/-- The data packets of a line give their samples to the FIFO of base slot `s`: ST 299 channel c is slot-relative channel c − 1
(R192, R193). -/
def Dev.takeAudio (d : Dev) (s : Nat) (ps : List AncPacket) : Dev :=
  d.each (ps.filter fun p => p.dataGroup != 0 && d.extracted s (p.dataGroup - 1)) fun d p => d.onIng fun x => { x with
    audio := (List.range 4).foldl (fun l c => putSample s (4 * (p.dataGroup - 1) + c) (p.sample c) l) x.audio }

/-- The line is kept: with the frame in progress, in the two-line store, and in Mere; on the skim path its audio is extracted as it
arrives (R194, R202). -/
def Dev.keepLine (d : Dev) (s b : Nat) (l : StoredLine) : Dev :=
  let d := d.onIng fun x => { x with current := putLines x.current b (linesOf x.current b ++ [l]) }
  let d := d.skimIn s l
  let d := if d.slotState b == 3 && d.writesMere b && !d.ipStored b then d.ringLine b l else d
  if s == b && d.hget H.ingExtract b == 1 && d.carriedBySkim b then d.takeAudio b l.words.anc else d

/-- A line arrives at slot `s` (R183); one that a GAP marker interrupts is damaged (R190). -/
def Dev.ingestLine (d : Dev) (s : Nat) (l : LineIn) : Dev :=
  let d := d.pass l.wait
  let b := d.slotBase s
  if d.slotState b == 0 then (d.bump C.ING_LINES_IN s).bump C.ING_LINES_DISCARDED s
  else
    let damaged := l.damaged || d.hget H.ingGap s == 1
    let d := d.hset H.ingGap s 0
    let d := if l.eav then (d.hset H.ingEav s d.clock.core).hset H.ingNoTrs s 0 else d
    let crc := lineSeal l.words
    let d := ((d.countLine s l.number).lineMarks s l).hset H.ingSeal s crc
    let n := d.hget H.ingCount s
    let d := (d.reviewSlot b).lineCounts s b damaged
    let d := if l.eav && s == b && !d.ipStored b then d.window' s else d
    let d := if s == b && n == 1 then d.frameStarts s else d
    let d := d.keepLine s b ⟨s - b, n, crc, damaged, l.words⟩
    let d := d.blameLine s n crc (lineSeal l.witness)
    d.reviewSlot b

/-- Four line periods of a base slot's format, in ns (R189); one without a format is judged at 1,125 lines of the house rate. -/
def Dev.trsLimit (d : Dev) (s : Nat) : Nat :=
  let fmt := d.hget H.ingDetFmt s
  let rate := if fmt == 0 then d.rate else d.hget H.ingDetRate s
  4 * (rateD rate * 10 ^ 9) / (rateN rate * frameLines fmt)

/-- Four expected line periods pass without a valid EAV (R189, cause 3). -/
def Dev.noTrs (d : Dev) (s : Nat) : Dev :=
  let b := d.slotBase s
  if d.slotState b == 0 then d
  else ((d.passToCore (d.hget H.ingEav s + d.trsLimit b)).hset H.ingNoTrs s 1).reviewSlot b

/-- A write of ING_SLOT_CTRL with RESKIM: a slot that fell back returns to the skim path while it lies inside the window (R201). -/
def Dev.reskim (d : Dev) (s w : Nat) : Dev :=
  if w % 2 == 1 && d.get F.ING_SLOT_STATUS_FELL_BACK s == 1 && d.hget H.ingOutside s == 0 then
    let d := (d.set F.ING_SLOT_STATUS_FELL_BACK s 0).set F.ING_SLOT_STATUS_ON_SKIM s 1
    if d.slotState s == 3 then d.setVisible s true else d
  else d

/-! ### Complete source frames (R188, R191, R196, R204) -/

/-- A run or rate of a monitor and its event: raised when it reaches its threshold, again after it fell to 0. -/
def Dev.monitorEvent (d : Dev) (s bitNo event value limit : Nat) : Dev :=
  let raised := d.hget H.ingRaised s
  if value = 0 then d.hset H.ingRaised s (raised &&& (15 ^^^ 2 ^ bitNo))
  else if limit ≤ value && !bit raised bitNo then (d.hset H.ingRaised s (raised ||| 2 ^ bitNo)).raise event [s, value]
  else d

/-- Frames in one second at a rate, rounded (R191). -/
def framesPerSecond (rate : Nat) : Nat := max 1 ((2 * rateN rate + rateD rate) / (2 * rateD rate))

/-- The history of the CRC monitor with one more frame. -/
def Dev.pushCrc (d : Dev) (s lines keep : Nat) : Dev :=
  let old := ((d.ing.crc.find? fun h => h.slot == s).map CrcHistory.lines).getD []
  { d with ing := { d.ing with crc := ⟨s, (lines :: old).take keep⟩ :: d.ing.crc.filter fun h => h.slot != s } }

/-- CRC_RATE: the lines counted within the last second of source frames. -/
def Dev.crcRate (d : Dev) (s : Nat) : Nat :=
  min 65535 (((d.ing.crc.find? fun h => h.slot == s).map CrcHistory.lines).getD []).sum

/-- A run goes on or ends. -/
def runOf (on : Bool) (n : Nat) : Nat := if on then min 65535 (n + 1) else 0

/-- The embedded channels of a frame: the magnitude of every sample, bits 23:8, of a channel (R191, R192). -/
def levelsOf (ls : List StoredLine) (c : Nat) : List Nat :=
  ((ls.filter fun l => l.member == 0).flatMap fun l => l.words.anc).filterMap fun p =>
    if p.dataGroup = c / 4 + 1 then some ((p.sample (c % 4)).natAbs / 256) else none

/-- The masked channels are silent throughout the frame; an absent channel counts as silent, an empty mask never does. -/
def Dev.silent (d : Dev) (s : Nat) (ls : List StoredLine) : Bool :=
  let mask := d.get F.ING_SLOT_SILMASK_MASK s
  mask != 0 && (List.range 32).all fun c => !bit mask c || (levelsOf ls c).all (· ≤ d.get F.ING_MON_CFG_SILENCE_LEVEL)

/-- Every sample of the active picture is black (R191). -/
def Dev.blackFrame (d : Dev) (ls : List StoredLine) : Bool :=
  let tol := d.get F.ING_MON_CFG_BLACK_CHROMA
  ls.all fun l => (lumaOf l.words.active).all (· ≤ d.get F.ING_MON_CFG_BLACK_LEVEL) &&
    (chromaOf l.words.active).all fun c => c ≤ 0x200 + tol && 0x200 ≤ c + tol

/-- The picture digest (R191): CRC-32C over bits 9:2 of every fourth luma sample of every fourth active line, each from the first on. -/
def digestOf (ls : List StoredLine) : Nat :=
  let rows := (ls.map fun l => l.words.active).filter (· != [])
  crc32c ((everyNth 4 rows).flatMap fun r => (everyNth 4 (lumaOf r)).map fun y => BitVec.ofNat 8 (y / 4))

/-- The groups that control packets of the frame announce, and those of them at another rate than BLOCK_RATE (R183, R192). -/
def frameGroups (blockRate : Nat) (ls : List StoredLine) : Nat × Nat :=
  let ps := ((ls.filter fun l => l.member == 0).flatMap fun l => l.words.anc).filter fun p => p.controlGroup != 0
  let mask := fun (ps : List AncPacket) => wordOfBits (ps.map fun p => p.controlGroup - 1)
  (mask ps, mask (ps.filter fun p => p.audioRate != 4 * blockRate))

/-- Bytes of a line in Mere: its header, and its content packed (R202). -/
def lineBytes (l : LineWords) : Nat := 16 + 5 * (((lineContent l).length + 3) / 4)

/-- The pages of 64 KiB that a frame needs, of one member for a gang (R189, R202). -/
def pagesOf (ls : List StoredLine) (z : Nat) : Nat :=
  ((List.range z).map fun m => (((ls.filter fun l => l.member == m).map fun l => lineBytes l.words).sum + 65535) / 65536).foldl max 0

/-- The monitors on a complete frame of a LOCKED slot (R191). -/
def Dev.monitors (d : Dev) (s : Nat) (f : FrameIn) (ls : List StoredLine) (crcLines : Nat) : Dev :=
  let digest := digestOf ls
  let d := d.hset H.ingBlack s (runOf (d.blackFrame ls) (d.hget H.ingBlack s))
  let d := d.hset H.ingFreeze s (runOf (d.hget H.ingDigest s == digest + 1) (d.hget H.ingFreeze s))
  let d := d.hset H.ingSilence s (runOf (d.silent s ls) (d.hget H.ingSilence s))
  let d := (d.hset H.ingDigest s (digest + 1)).pushCrc s crcLines (framesPerSecond f.rate)
  let d := d.monitorEvent s 0 515 (d.hget H.ingBlack s) (d.get F.ING_MON_EVT_BLACK_EVT)
  let d := d.monitorEvent s 1 516 (d.hget H.ingFreeze s) (d.get F.ING_MON_EVT_FREEZE_EVT)
  let d := d.monitorEvent s 2 517 (d.crcRate s) (d.get F.ING_MON_EVT2_CRC_EVT)
  d.monitorEvent s 3 518 (d.hget H.ingSilence s) (d.get F.ING_MON_EVT2_SILENCE_EVT)

/-- The FIFO of each channel that is extracted begins at its target (R193; DESIGN CHOICE, log entry 337). -/
def Dev.primeAudio (d : Dev) (s : Nat) : Dev :=
  let n := if d.get F.TICK_CFG_BLOCK_RATE = 0 then 16 else 32
  let chans := ((List.range 8).filter (d.extracted s)).flatMap fun g => (List.range 4).map (4 * g + ·)
  d.onIng fun x => { x with
    audio := (x.audio.filter fun q => q.slot != s) ++ chans.map fun c => ⟨s, c, List.replicate n 0⟩ }

/-- Extraction runs from the first complete frame in LOCKED; a changed layout is raised (R192, R196). -/
def Dev.audioLayout (d : Dev) (s : Nat) (ls : List StoredLine) : Dev :=
  let (groups, wrong) := frameGroups (d.get F.TICK_CFG_BLOCK_RATE) ls
  let d := (d.set F.ING_SLOT_STATUS_GROUPS s groups).set F.ING_SLOT_STATUS_AUDIO_RATE_MISMATCH s (ofBool (wrong != 0))
  let d := d.hset H.ingBadGroups s wrong
  if d.hget H.ingExtract s == 1 then d
  else
    let old := d.hget H.ingOldGroups s
    let r := d.ring s
    let d := (d.hset H.ingExtract s 1).primeAudio s
    -- in Mere extraction begins with the frame that has ended; a slot stored by its packets has just sent it
    let d := if d.ipStored s then (d.hset H.ingAudK s (r.last.map (· + 1) |>.getD 0)).hset H.ingAudLine s 0xFFFF
      else (d.hset H.ingAudK s r.next).hset H.ingAudLine s 0
    if old != 0 && old - 1 != groups then d.raise 520 [s, old - 1, groups] else d

/-- The proxies of the frame are complete (R204): the sets alternate, with a count of source frames (R257).  A slot on the
skim path has proxies only while a tile selects it (R12), and none are written while Mere is out of service (R211). -/
def Dev.proxyDone (d : Dev) (s fmt : Nat) (ls : List StoredLine) : Dev :=
  if d.get F.MERE_STATUS_IN_SERVICE == 0 || (!d.writesMere s && !d.tiled [] d.inEffect s) then d
  else
    let set := 1 - d.hget H.ingProxySet s
    let rows := wholePicture (sourceGang d.inEffect s) fun m =>
      pictureRows fmt ((ls.filter fun l => l.member == m).map fun l => (l.number, l.words.active))
    let p : Proxy := ⟨s, set, proxyOf 2 rows, proxyOf 4 rows⟩
    let d := d.onIng fun x => { x with proxies := p :: x.proxies.filter fun q => !(q.slot == s && q.set == set) }
    ((d.hset H.ingProxyTime s (d.clock.time16 + 1)).hset H.ingProxySet s set).hset H.ingProxyCount s (d.hget H.ingProxyCount s + 1)

/-- The frame counts toward locking (R188): consecutive complete frames of one FORMAT and RATE, on the skim path with every
EAV inside the window. -/
def Dev.lockCount (d : Dev) (s : Nat) (f : FrameIn) : Dev :=
  if d.carriedBySkim s && d.hget H.ingWinBad s == 1 then d.hset H.ingRun s 0
  else if d.hget H.ingRunFmt s == f.fmt && d.hget H.ingRunRate s == f.rate && d.hget H.ingRun s != 0 then
    d.hset H.ingRun s (min 255 (d.hget H.ingRun s + 1))
  else ((d.hset H.ingRun s 1).hset H.ingRunFmt s f.fmt).hset H.ingRunRate s f.rate

/-- The members of the source gang at base `s`. -/
def Dev.slotMembers (d : Dev) (s : Nat) : List Nat := (List.range (sourceGang d.inEffect s)).map (s + ·)

/-- A complete source frame ends at base slot `s` (R188, R191). -/
def Dev.frameEnds (d : Dev) (s : Nat) (f : FrameIn) : Dev :=
  if d.slotState s == 0 || d.slotBase s != s then d
  else
    let wasLocked := d.slotState s == 3
    let ls := linesOf d.ing.current s
    let members := d.slotMembers s
    let crcLines := (members.map fun m => d.hget H.ingCrcLines m).sum
    let d := (d.hset H.ingDetFmt s f.fmt).hset H.ingDetRate s f.rate
    let d := d.hset H.ingOversize s (ofBool (pagesOf ls members.length > d.get F.MERE_SLOT_CFG_FRAME_PAGES s))
    let d := (d.set F.ING_SLOT_STATUS_PID_MISMATCH s (ofBool f.pidMismatch)).lockCount s f
    let d := (d.hset H.ingWinBad s 0).hset H.ingLtc s (d.hget H.ingLtc s - 1)
    let d := d.each members fun d m => (d.hset H.ingCrcLines m 0).hset H.ingCount m 0
    let d := d.onIng fun x => { x with current := putLines x.current s [] }
    let d := d.reviewSlot s
    let d := if d.slotState s == 2 && d.causes s == [] && d.get F.ING_LOCK_CFG_LOCK_FRAMES ≤ d.hget H.ingRun s then d.lockSlot s
      else d
    let d := if wasLocked && d.slotState s == 3 then
        let d := if d.ipStored s then d.keep s ls else if d.writesMere s then d.ringEnd s else d
        (d.monitors s f ls crcLines).audioLayout s ls
      else d
    (d.proxyDone s f.fmt ls).blameFrame s

/-! ### The frame tick (R188, R199, R201) -/

/-- What T0 changed of a slot's configuration (R188, R201). -/
def Dev.slotApplied (d : Dev) (old : Dev) (s : Nat) : Dev :=
  let same := fun (f : Fld) => d.get f s == old.get f s
  let fresh := fun (d : Dev) => (d.hset H.ingRun s 0).hset H.ingDetFmt s 0
  let skim := fun (d : Dev) => d.set F.ING_SLOT_STATUS_ON_SKIM s (ofBool (d.carriedBySkim s))
  if d.get F.ING_SLOT_CFG_ENABLE s == 0 || d.slotBase s != s then
    if d.slotState s == 0 then d
    else
      let d := ((d.enterState s 0).set F.ING_SLOT_STATUS_FORMAT s 0).set F.ING_SLOT_STATUS_RATE s 0
      ((fresh (d.passOver s)).set F.ING_SLOT_STATUS_FELL_BACK s 0).set F.ING_SLOT_STATUS_ON_SKIM s 0
  else if d.slotState s == 0 then
    let d := (((fresh d).keep s []).hset H.ingStored s 0).hset H.ingEav s d.clock.core
    (skim ((d.set F.ING_SLOT_STATUS_STATE s 2).set F.ING_SLOT_STATUS_FELL_BACK s 0)).reviewSlot s
  else
    let d := if same F.ING_SLOT_CFG_FEED_KIND && same F.ING_SLOT_CFG_FEED_INDEX && same F.ING_SLOT_CFG_GANG then d
      else ((fresh d).enterState s 2).passOver s
    let d := if same F.ING_SLOT_CFG_PATH then d
      else
        let outside := d.get F.ING_SLOT_CFG_PATH s == 2 && d.hget H.ingOutside s == 1
        let d := skim (d.set F.ING_SLOT_STATUS_FELL_BACK s (ofBool outside))
        if d.get F.ING_SLOT_CFG_PATH s == 1 then
          let d := d.passOver s
          if d.slotState s == 3 then d.setVisible s true else d
        else if d.carriedBySkim s then if d.slotState s == 3 then d.setVisible s true else d
        else if old.get F.ING_SLOT_CFG_PATH s == 1 || (d.ring s).last.isNone then d.setVisible s false
        else d
    d.reviewSlot s

/-- Readout at T0 of a slot that writes to Mere (R199), and the return of its lines (R201, R543). -/
def Dev.slotTick (d : Dev) (n s : Nat) : Dev :=
  let locked := d.slotState s == 3
  let rate := if d.ipStored s then d.get F.IPM_RX_CFG_RATE (d.get F.ING_SLOT_CFG_FEED_INDEX s) else d.get F.ING_SLOT_STATUS_RATE s
  if !d.writesMere s || !(locked || d.ipStored s) || !startsFrame d.rate rate n then d
  else
    let d := d.readout s rate
    if locked && !d.carriedBySkim s && (d.ring s).last.isSome then d.setVisible s true else d

/-- The slots whose configuration T0 may have changed. -/
def Dev.configuredSlots (d : Dev) (old : Dev) : List Nat :=
  [F.ING_SLOT_CFG_ENABLE, F.ING_SLOT_CFG_FEED_KIND, F.ING_SLOT_CFG_FEED_INDEX, F.ING_SLOT_CFG_GANG, F.ING_SLOT_CFG_PATH].foldl
    (fun l f => unionNat (old.insts f) (unionNat (d.insts f) l)) []

/-- What T0 of frame `n` does to ingest. -/
def Dev.ingTick (d : Dev) (old : Dev) (n : Nat) : Dev :=
  let d := d.hset H.mereErrors 0 0
  let d := d.each (unionNat (d.configuredSlots old) d.liveSlots) fun d s => d.slotApplied old s
  d.each d.liveSlots fun d s => d.slotTick n s

/-- At T3 the monitors are latched for the registers and for auto-changeover (R191). -/
def Dev.latchMonitors (d : Dev) : Dev :=
  d.each (d.liveSlots.filter fun s => d.slotState s == 3) fun d s =>
    (((d.set F.ING_SLOT_MON_BLACK_RUN s (d.hget H.ingBlack s)).set F.ING_SLOT_MON_FREEZE_RUN s (d.hget H.ingFreeze s)).set
      F.ING_SLOT_MON2_CRC_RATE s (d.crcRate s)).set F.ING_SLOT_MON2_SILENCE_RUN s (d.hget H.ingSilence s)

/-! ### Extraction at a block tick (R193, R194) -/

/-- Where the video readout of a Mere slot will be four block periods from now: the frame of the ring and the line (R194). -/
def Dev.readAhead (d : Dev) (s : Nat) : Option (Nat × Nat) :=
  let r := d.ring s
  let rate := d.get F.ING_SLOT_STATUS_RATE s
  let period := rateD rate * 10 ^ 9 / rateN rate
  let start := d.houseStart rate
  let t := d.clock.core + 4 * 10 ^ 6 / 3
  let line := fun t0 => min 0xFFFF ((t - t0) * frameLines (d.get F.ING_SLOT_STATUS_FORMAT s) / period + 1)
  if !d.running then none
  else if t < start + period then r.last.map fun k => (k, line start)
  else (r.select (start + period) (d.delay s) rate).map fun f => (f.k, line (start + period))

/-- The lines of a ring frame that carry ANC for extraction, by number: as stored, or for a slot fed from IP on PATH 0 as its ANC context's
packets hold them, from T_a of this frame to that of the next (R195, R308, R310). -/
def Dev.frameAnc (d : Dev) (s : Nat) (f : RingFrame) : List (Nat × List AncPacket) :=
  if d.ipStored s then
    let next := (((d.ring s).frames.filter fun g => f.stamp < g.stamp).map RingFrame.stamp).min?
    match d.ancOf (d.get F.ING_SLOT_CFG_FEED_INDEX s) with
    | none => []
    | some k =>
      let ps := (d.rx k).stored.filter fun p => f.stamp ≤ p.stamp && next.all (p.stamp < ·)
      sortBy (fun a b => a.1 ≤ b.1) ((ps.flatMap fun p => p.body.anc).map fun a => (a.1, [a.2]))
  else (f.lines.filter fun l => l.member == 0).map fun l => (l.number, l.words.anc)

/-- The audio of a Mere slot's lines up to those four block periods ahead of readout enters its FIFO, each frame's once: not that of a
repeated frame again, and that of a frame that readout drops too (R194, R195).  While the skim path carries the slot, its audio comes
from there, and only the place moves on. -/
def Dev.extractAhead (d : Dev) (s : Nat) : Dev :=
  match d.readAhead s with
  | none => d
  | some (k, n) =>
    let k0 := d.hget H.ingAudK s
    let n0 := d.hget H.ingAudLine s
    if k + 1 < k0 || (k + 1 == k0 && n ≤ n0) then d
    else
      let frames := (d.ring s).frames.filter fun f => k0 ≤ f.k + 1 && f.k ≤ k
      let lines := frames.flatMap fun f => ((d.frameAnc s f).filter fun l =>
        (k0 < f.k + 1 || n0 < l.1) && (f.k < k || l.1 ≤ n)).map Prod.snd
      let d := if d.carriedBySkim s then d else d.each lines fun d ps => d.takeAudio s ps
      (d.hset H.ingAudK s (k + 1)).hset H.ingAudLine s n

/-- Samples of each channel in a slot's FIFO. -/
def Dev.fifoLevel (d : Dev) (s : Nat) : Nat := ((d.ing.audio.filter fun q => q.slot == s).map fun q => q.samples.length).foldl max 0

/-- At a block tick a slot's extraction FIFO gives one block; more than half a block from its target, one sample is repeated
or removed in every channel, and the slip is counted (R193).  A channel that holds fewer samples than a block gives zeros for the rest
(DESIGN CHOICE, log entry 337). -/
def Dev.extract (d : Dev) (s block : Nat) : Dev × List ChannelBlock :=
  let n := d.fifoLevel s
  let off := if n ≤ block then block - n else n - block
  let slip := fun (xs : List Int) =>
    if off ≤ block / 2 then xs else if n < block then xs.take 1 ++ xs else xs.drop 1
  let mine := (d.ing.audio.filter fun q => q.slot == s).map fun q => { q with samples := slip q.samples }
  let d := if off > block / 2 then d.bump C.ING_EXTRACT_SLIP s else d
  (d.onIng fun x => { x with
      audio := (x.audio.filter fun q => q.slot != s) ++ mine.map fun q => { q with samples := q.samples.drop block } },
    mine.map fun q => ⟨32 * s + q.chan, ((q.samples ++ List.replicate block 0).take block).map (· * 256)⟩)

/-- Extraction of every slot at a block tick (R193): the embedded channels of the new block. -/
def Dev.extractAll (d : Dev) (block : Nat) : Dev × List ChannelBlock :=
  (d.liveSlots.filter fun s => d.hget H.ingExtract s == 1).foldl (fun r s =>
    let e := (if r.1.writesMere s then r.1.extractAhead s else r.1).extract s block
    (e.1, r.2 ++ e.2)) (d, [])

/-- A row that stores lines or proxies: Mere takes their bytes (R202, R204). -/
def liftMere (b : Nat) (f : Dev → Dev) (s : State) : Host.Outcome State Fault Refusal :=
  let t := ({ s with dev := f s.dev }).storeLine s.dev b
  lift (fun d => d) (t.storeProxy s.dev b)

def execIngestLine (slot : Fin 1536) (l : LineIn) (s : State) : Host.Outcome State Fault Refusal :=
  liftMere (s.dev.slotBase slot) (·.ingestLine slot l) s
def execNoTrsTimeout (slot : Fin 1536) (s : State) : Host.Outcome State Fault Refusal := lift (·.noTrs slot) s
def execSourceFrameEnd (slot : Fin 1536) (f : FrameIn) (s : State) : Host.Outcome State Fault Refusal :=
  liftMere (s.dev.slotBase slot) (·.frameEnds slot f) s

/-- The BAR0 offset of ING_SLOT_CTRL of a slot. -/
def reskimOff (s : Nat) : Nat := 0x1400004 + 0x200 * s

def execReskim (m : Fin 8) (slot : Fin 1536) (v : Word) (s : State) : Host.Outcome State Fault Refusal :=
  lift (fun d => d.busWrite m (reskimOff slot) v.toNat (·.reskim slot v.toNat)) s

end Sys2Proof.Machine
end

