-- ==== Sys2Proof/Machine/DestConfig.lean ====
section
/-! DEFINITION. The configuration commands of the crosspoint (spec/09): destinations, sources, changeover and generators
(R547), and the status commands of destinations and sources. -/

namespace Sys2Proof.Machine

/-- The codes of the ingest format table (spec/08). -/
def listedFormat (f : Nat) : Bool := [0x00, 0x01, 0x02, 0x10, 0x11, 0x12, 0x20, 0x21, 0x22, 0x30, 0x40, 0x50].contains f

/-- The formats that a generator makes: neither none nor a gang's (XPT_GEN_CFG). -/
def generatorFormat (f : Nat) : Bool := listedFormat f && f != 0 && f < 0x30

/-- A register value's part under a field, at every instance of a list. -/
def atAll (is : List Nat) (f : Fld) (v : Nat) : List ShadowWrite := is.map fun i => sw f i v

/-- The fields that a TLV carries whole, at every instance. -/
def tlvAtAll (ts : List Tlv) (typ : Nat) (is : List Nat) (f : Fld) : List ShadowWrite :=
  if hasTlv ts typ then atAll is f (tlvNum ts typ) else []

/-- The settings of a destination that protection guards (R122): format, loss policy, auto-changeover. -/
def guardedFields : List Fld :=
  [F.XPT_DEST_CFG_FOLLOW, F.XPT_DEST_CFG_FORMAT, F.XPT_DEST_CFG_RATE, F.XPT_DEST_CFG_LOSS_POLICY, F.XPT_AC_CFG_BACKUP,
    F.XPT_AC_CFG_REVERTIVE, F.XPT_AC_CFG_TRIG, F.XPT_AC_CFG_AC_EN, F.XPT_AC_THRESH_SILENCE_FR, F.XPT_AC_THRESH_ERR_RATE,
    F.XPT_AC_THRESH_FREEZE_FR, F.XPT_AC_THRESH_BLACK_FR, F.XPT_AC_REVERT_REVERT_FRAMES]

/-- The writes give destination `i` a guarded setting, of whatever value (log entry 191). -/
def changesGuarded (ws : List ShadowWrite) (i : Nat) : Bool :=
  guardedFields.any fun f => ws.any fun w => w.fld == f.id && w.inst == i

/-- The lowest destination of the range whose guarded settings the writes would change and that another port protects
(R122). -/
def Dev.rangeBarred (d : Dev) (port : Nat) (r : Nat × Nat) (ws : List ShadowWrite) : Option Nat :=
  (d.barredDests port r).find? fun i => changesGuarded ws i

/-- The completion with PROTECTED names DEST_RANGE and the holder. -/
def Dev.replyProtected (d : Dev) (q : Req) (op : Nat) (ts : List Tlv) (i : Nat) : Dev :=
  d.reply q op St.protected_ [statusDetail (tlvIndex ts 2) (d.hget H.protectedBy i) 0]

/-- A gang code below 4. -/
def gangTlv : List Byte → Bool := below 4

/-- DEST_CONFIG (0x0210). -/
def destConfigSpec : Spec :=
  { op := 0x0210
    pars := [Par.dests, Par.frame, .opt 0x0101 (num 4 fun v => v &&& 0x02FFF000 == v && (bit v 25 || listedFormat (bits v 12 8))),
      .opt 0x0102 gangTlv, .opt 0x0103 (below 2), .opt 0x0104 (below 3), .opt 0x0105 (below 256), .opt 0x0106 (below 2)]
    units := fun ts =>
      (if [0x0101, 0x0102, 0x0103, 0x0104].any (hasTlv ts) then [3] else []) ++
        (if hasTlv ts 0x0105 then [4] else []) ++ if hasTlv ts 0x0106 then [2] else [] }

/-- Its shadow writes (R547). -/
def destWrites (ts : List Tlv) : List ShadowWrite :=
  let is := rangeList (tlvRange ts)
  let g := tlvNum ts 0x0102
  (if hasTlv ts 0x0101 then is.flatMap fun i =>
      writesOf [F.XPT_DEST_CFG_FOLLOW, F.XPT_DEST_CFG_RATE, F.XPT_DEST_CFG_FORMAT] i (tlvNum ts 0x0101) else []) ++
    (if hasTlv ts 0x0102 then is.map fun i => sw F.XPT_DEST_CFG_GANG i (if i % gangSize g = 0 then g else 0) else []) ++
    tlvAtAll ts 0x0103 is F.XPT_DEST_CFG_ENABLE ++ tlvAtAll ts 0x0104 is F.XPT_DEST_CFG_LOSS_POLICY ++
    tlvAtAll ts 0x0105 is F.EGR_DEST_CFG_EMBED_GROUPS ++ tlvAtAll ts 0x0106 is F.MERE_DEST_CFG_READ_RESV

/-- A fixed mode that the destination's lane or the house rate does not allow (R35, R164). -/
def Dev.modeMismatch (d : Dev) (v : View) (i w : Nat) : Bool :=
  !bit w 25 && (!fits (bits w 12 8) (laneRateOf v i) || (bits w 12 8 != 0 && !d.supports (bits w 20 4)))

def Dev.destConfig (d : Dev) (q : Req) : Dev := d.command q destConfigSpec fun d ts =>
  let r := tlvRange ts
  let ws := destWrites ts
  let z := gangSize (tlvNum ts 0x0102)
  let n := d.changeFrame (frameTlv ts)
  let v := d.plannedAt n
  let hw := d.heldWrites ws
  if hasTlv ts 0x0102 && (r.1 % z != 0 || r.2 % z != 0) then
    d.reply q 0x0210 St.badParam [statusDetail (tlvIndex ts 2) 0xFF 0]
  else if hasTlv ts 0x0102 && (rangeList r).any fun i =>
      d.hasConverter hw v i && gangSize ((v.over ws) F.XPT_DEST_CFG_GANG i) != gangSize (v F.XPT_DEST_CFG_GANG i) then
    d.reply q 0x0210 St.badParam [statusDetail (tlvIndex ts 0x0102) 0xFF 0x16]
  else
    match d.rangeBarred q.port r ws with
    | some i => d.replyProtected q 0x0210 ts i
    | none =>
      if hasTlv ts 0x0101 && (rangeList r).any fun i => d.modeMismatch v i (tlvNum ts 0x0101) then d.reply q 0x0210 St.formatMismatch
      else
        match d.admission n ws with
        | some e => d.refuse q 0x0210 e
        | none => d.holdChange q 0x0210 (frameTlv ts) ws

/-- A range of source slots. -/
def slotsTlv : List Byte → Bool := pair fun f c => 1 ≤ c && f + c ≤ 1536

/-- SOURCE_CONFIG (0x0211). -/
def sourceConfigSpec : Spec :=
  { op := 0x0211
    pars := [.req 0x0101 slotsTlv, Par.frame, .opt 0x0102 (pair fun k _ => k < 3), .opt 0x0103 gangTlv, .opt 0x0104 (below 3),
      .opt 0x0105 (below 2), .opt 0x0106 (num 4 fun v => 3 ≤ v && v ≤ 8), .opt 0x0107 (num 4 fun v => 1 ≤ v && v ≤ 6),
      .opt 0x0108 (num 4 fun v => 96 ≤ v && v ≤ 160), .opt 0x0109 any4]
    units := fun ts =>
      (if [0x0102, 0x0103, 0x0104, 0x0105, 0x0109].any (hasTlv ts) then [1] else []) ++
        if [0x0106, 0x0107, 0x0108].any (hasTlv ts) then [2] else [] }

/-- Its shadow writes (R547); a GANG at a slot that is no multiple of it is discarded, and the base of a sixteen sets its
bundle's enable (R187). -/
def sourceWrites (ts : List Tlv) : List ShadowWrite :=
  let r := tlvRange ts 0x0101
  let is := rangeList r
  let feed := tlvRange ts 0x0102
  let g := tlvNum ts 0x0103
  (if hasTlv ts 0x0102 then is.flatMap fun i =>
      [sw F.ING_SLOT_CFG_FEED_KIND i feed.1, sw F.ING_SLOT_CFG_FEED_INDEX i (if feed.1 = 0 then 0 else feed.2 + (i - r.1))] else []) ++
    (if hasTlv ts 0x0103 then (is.filter fun i => i % gangSize g == 0).map fun i => sw F.ING_SLOT_CFG_GANG i g else []) ++
    tlvAtAll ts 0x0104 is F.ING_SLOT_CFG_PATH ++ tlvAtAll ts 0x0105 is F.ING_SLOT_CFG_ENABLE ++
    tlvAtAll ts 0x0106 is F.MERE_SLOT_CFG_DEPTH ++ tlvAtAll ts 0x0107 is F.MERE_SLOT_CFG_DELAY ++
    tlvAtAll ts 0x0108 is F.MERE_SLOT_CFG_FRAME_PAGES ++ tlvAtAll ts 0x0109 is F.ING_SLOT_SILMASK_MASK

/-- The Reed bundles on which a reading carries gangs of sixteen: those fed from lane 4b (R187). -/
def Dev.gangBundles (d : Dev) (ws : List ShadowWrite) (v : View) : List Nat :=
  (d.touched ws F.ING_SLOT_CFG_GANG).filterMap fun s =>
    let x := v F.ING_SLOT_CFG_FEED_INDEX s
    if v F.ING_SLOT_CFG_GANG s == 3 && s % 16 == 0 && v F.ING_SLOT_CFG_FEED_KIND s == 1 && x % 16 == 0 then some (x / 16) else none

/-- Basic control sets the enables of Reed bundles from the ganging of source slots, unless REED is leased (R180, R187): a bundle that comes
to carry a gang is enabled, one that carries none any more is not. -/
def Dev.bundleWrites (d : Dev) (before v : View) (ws : List ShadowWrite) : List ShadowWrite :=
  let old := d.gangBundles ws before
  let new := d.gangBundles ws v
  let mask := fun (bs : List Nat) k => wordOfBits ((bs.filter fun b => b / 32 == k).map (· % 32))
  let word := fun k => (v F.REED_BUNDLE_EN_EN k ||| mask new k) &&& (0xFFFFFFFF ^^^ mask (old.filter fun b => !new.contains b) k)
  if d.holder 0 != 7 then []
  else ([0, 1, 2].filter fun k => word k != v F.REED_BUNDLE_EN_EN k).map fun k => sw F.REED_BUNDLE_EN_EN k (word k)

def Dev.sourceConfig (d : Dev) (q : Req) : Dev := d.command q sourceConfigSpec fun d ts =>
  let r := tlvRange ts 0x0101
  let feed := tlvRange ts 0x0102
  let n := d.changeFrame (frameTlv ts)
  if hasTlv ts 0x0102 && feed.1 != 0 && feed.2 + r.2 - 1 > (if feed.1 = 1 then 1535 else 2047) then
    d.reply q 0x0211 St.badParam [statusDetail (tlvIndex ts 0x0102) 0xFF 0]
  else if hasTlv ts 0x0103 && r.1 % gangSize (tlvNum ts 0x0103) != 0 then
    d.reply q 0x0211 St.badParam [statusDetail (tlvIndex ts 0x0103) 0xFF 0]
  else
    let ws := sourceWrites ts
    let ws := ws ++ d.bundleWrites (d.plannedAt n) ((d.plannedAt n).over ws) ws
    match d.admission n ws with
    | some e => d.refuse q 0x0211 e
    | none => d.holdChange q 0x0211 (frameTlv ts) ws

/-- CHANGEOVER_CONFIG (0x0212). -/
def changeoverConfigSpec : Spec :=
  { op := 0x0212
    pars := [Par.dests, Par.frame, .opt 0x0003 (num 4 fun s => s < 1568 || s == 0x7FF), .opt 0x0101 (below 32), .opt 0x0102 any4,
      .opt 0x0103 (pair fun m _ => m < 2), .opt 0x0104 (below 2)]
    units := fun _ => [3] }

/-- Its shadow writes; a threshold of 0 is stored as 1. -/
def changeoverWrites (ts : List Tlv) : List ShadowWrite :=
  let is := rangeList (tlvRange ts)
  let t := tlvNum ts 0x0102
  let rev := tlvRange ts 0x0103
  tlvAtAll ts 0x0003 is F.XPT_AC_CFG_BACKUP ++ tlvAtAll ts 0x0101 is F.XPT_AC_CFG_TRIG ++
    (if hasTlv ts 0x0102 then
      atAll is F.XPT_AC_THRESH_SILENCE_FR (max 1 (bits t 24 8)) ++ atAll is F.XPT_AC_THRESH_ERR_RATE (max 1 (bits t 16 8)) ++
        atAll is F.XPT_AC_THRESH_FREEZE_FR (max 1 (bits t 8 8)) ++ atAll is F.XPT_AC_THRESH_BLACK_FR (max 1 (bits t 0 8)) else []) ++
    (if hasTlv ts 0x0103 then
      atAll is F.XPT_AC_CFG_REVERTIVE rev.1 ++ atAll is F.XPT_AC_REVERT_REVERT_FRAMES (max 1 rev.2) else []) ++
    tlvAtAll ts 0x0104 is F.XPT_AC_CFG_AC_EN

def Dev.changeoverConfig (d : Dev) (q : Req) : Dev := d.command q changeoverConfigSpec fun d ts =>
  let r := tlvRange ts
  let ws := changeoverWrites ts
  let n := d.changeFrame (frameTlv ts)
  let v := d.plannedAt n
  let s := tlvNum ts 0x0003
  match d.rangeBarred q.port r ws with
  | some i => d.replyProtected q 0x0212 ts i
  | none =>
    let bad := if hasTlv ts 0x0003 && s != 0x7FF then
        (rangeList r).findSome? fun i => if isBase v F.XPT_DEST_CFG_GANG i then d.checkSource v i s else none
      else none
    match bad with
    | some st => d.refuse q 0x0212 (st, if st = St.bandwidth then 4 else 0)
    | none => d.holdChange q 0x0212 (frameTlv ts) ws

/-- GENERATOR_CONFIG (0x0215). -/
def generatorConfigSpec : Spec :=
  { op := 0x0215, pars := [.req 0x0101 (below 16), .req 0x0102 any4, Par.frame], units := fun _ => [3] }

/-- Its shadow writes; a PATTERN of 5–7 is stored as 0. -/
def generatorWrites (g w : Nat) : List ShadowWrite :=
  writesOf [F.XPT_GEN_CFG_FORMAT, F.XPT_GEN_CFG_RATE, F.XPT_GEN_CFG_LEVEL, F.XPT_GEN_CFG_ENABLE] g w ++
    [sw F.XPT_GEN_CFG_PATTERN g (if bits w 1 3 < 5 then bits w 1 3 else 0)]

def Dev.generatorConfig (d : Dev) (q : Req) : Dev := d.command q generatorConfigSpec fun d ts =>
  let w := tlvNum ts 0x0102
  if !generatorFormat (bits w 16 8) then d.reply q 0x0215 St.badParam [statusDetail (tlvIndex ts 0x0102) 0xFF 0]
  else if !d.supports (bits w 12 4) then d.reply q 0x0215 St.formatMismatch
  else d.holdChange q 0x0215 (frameTlv ts) (generatorWrites (tlvNum ts 0x0101) w)

/-! ### Status -/

/-- The computed part of XPT_DEST_STATUS: SRC_LOST and ENABLED. -/
def Dev.destStatusView (d : Dev) (i : Nat) : Nat :=
  let on := d.get F.XPT_DEST_CFG_ENABLE i
  2 ^ 18 * (on * d.hget H.destLost i) + 2 ^ 16 * on

/-- DEST_STATUS_GET (0x0213): the status and the seal counts of each destination. -/
def destStatusGetSpec : Spec := { op := 0x0213, pars := [Par.destsUpTo 64] }

def Dev.destStatusGet (d : Dev) (q : Req) : Dev := d.command q destStatusGetSpec fun d ts =>
  d.reply q 0x0213 St.ok ((rangeList (tlvRange ts)).map fun i =>
    let base := 0x1600000 + 0x40 * i
    data (w4 (d.storedAt (base + 4) + d.destStatusView i) ::
      [0x20, 0x24, 0x28, 0x2C, 0x30, 0x34, 0x38].map fun o => w4 (d.storedAt (base + o))))

/-- SOURCE_STATUS_GET (0x0214). -/
def sourceStatusGetSpec : Spec := { op := 0x0214, pars := [.req 0x0101 (pair fun f c => 1 ≤ c && c ≤ 64 && f + c ≤ 1536)] }

def Dev.sourceStatusGet (d : Dev) (q : Req) : Dev := d.command q sourceStatusGetSpec fun d ts =>
  d.reply q 0x0214 St.ok ((rangeList (tlvRange ts 0x0101)).map fun i =>
    let base := 0x1400000 + 0x200 * i
    data [w4 (d.storedAt (base + 8)), w4 (d.storedAt (base + 0x10)), w4 (d.storedAt (base + 0x14))])

def execDestConfig (q : Req) (s : State) : Host.Outcome State Fault Refusal := lift (·.destConfig q) s
def execSourceConfig (q : Req) (s : State) : Host.Outcome State Fault Refusal := lift (·.sourceConfig q) s
def execChangeoverConfig (q : Req) (s : State) : Host.Outcome State Fault Refusal := lift (·.changeoverConfig q) s
def execGeneratorConfig (q : Req) (s : State) : Host.Outcome State Fault Refusal := lift (·.generatorConfig q) s
def execDestStatusGet (q : Req) (s : State) : Host.Outcome State Fault Refusal := lift (·.destStatusGet q) s
def execSourceStatusGet (q : Req) (s : State) : Host.Outcome State Fault Refusal := lift (·.sourceStatusGet q) s

end Sys2Proof.Machine
end

