-- ==== Sys2Proof/Machine/Bus.lean ====
section
/-! DEFINITION. The bus matrix (R76–R88) and outbound translation (R133): which target an access decodes to, what a target
accepts, arbitration, the sump and hung targets. -/

namespace Sys2Proof.Machine

/-- The BAR0 offset is one that its block defines, and its window decodes (R63, R135). -/
def Dev.decodes (d : Dev) (off : Nat) : Bool := d.windowOpen off && defined off

/-- The target of an internal address, as a row of R77, or none for the sump. -/
def Dev.targetOf (d : Dev) (a : Nat) : Option Nat :=
  if a < 0x800000 then if d.get F.BUS_CTRL_REMAP == 1 || a < 0x40000 then some 0 else none
  else if 0x10000000 ≤ a ∧ a < 0x10040000 then some 1
  else if 0x20000000 ≤ a ∧ a < 0x20800000 then some 2
  else if 0x30000000 ≤ a ∧ a < 0x30004000 then some 3
  else if 0x40000000 ≤ a ∧ a < 0x44000000 then some 4
  else if 0x50000000 ≤ a ∧ a < 0x50100000 then some 5
  else if 0x70000000 ≤ a ∧ a < 0x80000000 then some 6
  else if 0x800000000 ≤ a ∧ a < 0x1000000000 then some 7
  else if 0x1000000000 ≤ a ∧ a < 0x2000000000 then some 8
  else none

/-- A burst stays within 16 beats of 16 bytes and a 4 KB page (R78). -/
def goodBurst (x : Access) : Bool :=
  1 ≤ x.beats && x.beats ≤ 16 && x.size ≤ 16 && (x.beats == 1 || x.size == 16) && x.addr % 4096 + x.size * x.beats ≤ 4096

/-- The target accepts the access (R77–R79, R131). -/
def Dev.targetTakes (d : Dev) (k : Nat) (x : Access) : Bool :=
  goodBurst x && match k with
    | 0 => d.get F.BUS_CTRL_REMAP == 1 || !x.write
    | 1 => !x.write
    | 4 => x.beats == 1 && x.size == 4 && x.addr % 4 == 0 && x.enables == 15
    | 6 => !x.write
    | 7 => d.get F.MERE_STATUS_IN_SERVICE == 1
    | _ => true

/-- The target is marked hung (R84).  The low window and working SRAM are two rows of R77 and have a bit each, also while REMAP makes them
one memory (DESIGN CHOICE, log entry 315). -/
def Dev.hung (d : Dev) (k : Nat) : Bool := bit (d.get F.BUS_HUNG_TARGETS) k

/-- The matrix answers an access with an error that has been raised already (R79–R81). -/
def Dev.busError (d : Dev) (m : Nat) (x : Access) (e : BusErr) (owed : Option (Nat × List Nat)) : Dev :=
  (d.transaction m).answerError m x.write e (x.beats * max 1 (x.size / 4)) owed

/-! ### Arbitration (R82) -/

/-- The master that a target is granted to, among those that wait, each with the cycles it has waited: the lowest of those that have
waited BUS_ARB.STARVE cycles, else the one whose turn it is until it has had its weight, else the next in ascending order (how the
rounds run is a DESIGN CHOICE, log entry 316). -/
def Dev.grantNext (d : Dev) (k : Nat) (ws : List (Nat × Nat)) : Nat :=
  let asks := fun m => ws.any fun w => w.1 == m
  let turn := d.hget H.busTurn k
  match (List.range 8).find? fun m => ws.any fun w => w.1 == m && w.2 ≥ d.get F.BUS_ARB_STARVE with
  | some m => m
  | none =>
    if asks turn && d.hget H.busUsed k < d.get F.BUS_WEIGHT_WEIGHT turn then turn
    else (((List.range 8).map fun i => (turn + 1 + i) % 8).find? asks).getD turn

/-- The grant counts in its master's turn, unless starvation gave it. -/
def Dev.granted (d : Dev) (k m : Nat) (ws : List (Nat × Nat)) : Dev :=
  let d := d.emit (.grant k m)
  if ws.any fun w => w.1 == m && w.2 ≥ d.get F.BUS_ARB_STARVE then d
  else if d.hget H.busTurn k = m then d.hset H.busUsed k (min 15 (d.hget H.busUsed k + 1))
  else (d.hset H.busTurn k m).hset H.busUsed k 1

/-- Target `k` is granted to master after master until `m` has it; each grant to another one takes a cycle.  `n` bounds how many wait. -/
def Dev.grantUntil (d : Dev) (k m : Nat) : Nat → List (Nat × Nat) → Dev
  | 0, _ => d
  | n + 1, ws =>
    let g := d.grantNext k ws
    let d := d.granted k g ws
    if g = m then d
    else (d.pass 1).grantUntil k m n ((ws.filter fun w => w.1 != g).map fun w => (w.1, w.2 + 1))

/-- An access waits for its target beside those of other masters (R82). -/
def Dev.arbitrate (d : Dev) (m k : Nat) (x : Access) : Dev :=
  let others := (x.rivals.filter fun r => r.1.val != m).map fun r => (r.1.val, r.2)
  if others = [] then d else d.grantUntil k m (others.length + 1) ((m, x.waited) :: others)

/-! ### Errors (R78–R81, R84) -/

/-- An access that decodes to the sump (R77, R80).  One that crosses a 4 KB boundary gets TARGET_ERR on every beat there too, with 9 for the
target (R78; DESIGN CHOICE, log entry 317); a host write to a window of a unit that is not leased to P0 never reaches the sump (R117,
R135). -/
def Dev.sumpAccess (d : Dev) (m : Nat) (x : Access) : Dev :=
  match d.targetOf x.addr with
  | some k =>
    if k = 4 ∧ d.targetTakes k x ∧ !d.decodes (x.addr - 0x40000000) then
      let d := d.arbitrate m 9 x
      if x.write && d.hostBarred m (x.addr - 0x40000000) then
        ((d.transaction m).unleased (x.addr - 0x40000000)).answer m .done
      else (d.transaction m).sumpAnswer m x.addr x.size x.beats x.write
    else d
  | none =>
    let d := d.arbitrate m 9 x
    if goodBurst x then (d.transaction m).sumpAnswer m x.addr x.size x.beats x.write
    else (d.raise 897 [m, 9]).busError m x .target none

/-- The access addresses a unit under test (R499). -/
def Dev.meetsTest (d : Dev) (x : Access) : Bool :=
  0x40000000 ≤ x.addr && d.decodes (x.addr - 0x40000000) && d.underTest (x.addr - 0x40000000)

/-- What the matrix makes of an access that target `k` does not carry out: the target is hung (R84), cannot accept it (R78, R79), or a
unit under test is addressed (R499). -/
def Dev.refusedAccess (d : Dev) (m k : Nat) (x : Access) : Option Dev :=
  if d.hung k then some (d.busError m x .target (some (897, [m, k])))
  else if !d.targetTakes k x then some ((d.raise 897 [m, k]).busError m x .target none)
  else if k = 4 ∧ d.meetsTest x then some ((d.abortTest 0 m).busError m x .target (some (897, [m, k])))
  else none

/-- A target that does not respond in BUS_TIMEOUT cycles is answered for and marked hung (R84); the bursts that are in progress at it end
with TARGET_ERR too. -/
def Dev.targetTimeout (d : Dev) (m : Nat) (x : Access) : Dev :=
  match d.targetOf x.addr with
  | none => d
  | some k =>
    if d.hung k || !d.targetTakes k x then d
    else
      let d := d.pass (d.get F.BUS_TIMEOUT_CYCLES)
      let d := (d.set F.BUS_HUNG_TARGETS 0 (d.get F.BUS_HUNG_TARGETS ||| 2 ^ k)).raise 898 [k]
      let ended := d.bursts.filter fun b => b.target == k
      let d := d.each ended fun d b =>
        ((d.hset H.busOutstanding b.master (d.hget H.busOutstanding b.master - 1)).bump K.BUS_COMPLETED b.master).answerError b.master b.write
          .target (b.left * max 1 (b.size / 4)) none
      ({ d with bursts := d.bursts.filter fun b => b.target != k }).busError m x .target none

/-- A response after the timeout is discarded and counted (R84). -/
def Dev.lateResponse (d : Dev) (k : Nat) : Dev := if d.hung k then d.bump K.BUS_LATE_RESPONSES else d

/-- A write of BUS_CTRL: REMAP sets and stays set (R85). -/
def Dev.writeBusCtrl (d : Dev) (w : Nat) : Dev := if bit w 0 then d.set F.BUS_CTRL_REMAP 0 1 else d

/-- Clearing BUS_SUMP_INFO.VALID re-arms the capture and zeroes OVERFLOW (R80). -/
def Dev.clearSump (d : Dev) (w : Nat) : Dev :=
  if bit w 31 then (d.set F.BUS_SUMP_INFO_VALID 0 0).set F.BUS_SUMP_INFO_OVERFLOW 0 0 else d

/-- Why outbound window `w` answers with TARGET_ERR: 0 disabled, 1 no bus mastering, 2 link down (R133). -/
def Dev.outboundRefusal (d : Dev) (w : Nat) : Option Nat :=
  if d.get F.PCI_OB_CTRL_EN w == 0 then some 0
  else if d.get F.PCI_LINK_STATUS_BME == 0 then some 1
  else if d.get F.PCI_LINK_STATUS_UP == 0 then some 2
  else none

/-- An access to host memory (R133); a read is answered with the words that the host returns. -/
def Dev.outbound (d : Dev) (m : Nat) (x : Access) (answer : List Nat) : Dev :=
  if d.targetOf x.addr != some 8 || d.hung 8 || !d.targetTakes 8 x then d
  else
    let w := (x.addr - 0x1000000000) / 2 ^ 32
    match d.outboundRefusal w with
    | some cause =>
      let first := !d.evt.obErr
      let d := { d with evt := { d.evt with obErr := true } }
      (if first then d.raise 901 [w, cause] else d).busError m x .target (some (897, [m, 8]))
    | none =>
      let base := d.get F.PCI_OB_BASE_HI_BASE w * 2 ^ 32 + d.get F.PCI_OB_BASE_LO_BASE w * 4096
      let d := d.emit (.host (base + x.addr % 2 ^ 32) x.write (if x.write then x.words else []))
      (d.transaction m).answer m (if x.write then .done else .data answer)

def execBusSumpClear (m : Fin 8) (v : Word) (s : State) : Host.Outcome State Fault Refusal :=
  lift (fun d => d.busWrite m 0x200018 v.toNat (·.clearSump v.toNat)) s
def execLateTargetResponse (target : Fin 9) (s : State) : Host.Outcome State Fault Refusal := lift (·.lateResponse target) s
def execRemap (m : Fin 8) (v : Word) (s : State) : Host.Outcome State Fault Refusal :=
  lift (fun d => d.busWrite m 0x200000 v.toNat (·.writeBusCtrl v.toNat)) s
end Sys2Proof.Machine
end

