-- ==== Sys2Proof/Machine/Ref.lean ====
section
/-! DEFINITION. The reference block (R348–R374): inputs, selector, loop, holdover, phase adjustment and oscillator trim, with
their commands; and the PTP hardware clock's value (R334), which is one of the inputs. -/

namespace Sys2Proof.Machine

/-! ### Signed values held in registers -/

/-- A signed 64-bit count of ns with a 16-bit fraction, held in the layout of PTP_PHC_ADJ, in units of 2⁻¹⁶ ns. -/
def Dev.split (d : Dev) (lo mid hi : Fld) : Int := toSigned 80 (d.get lo + 2 ^ 16 * (d.get mid + 2 ^ 32 * d.get hi))

/-- Store such a value. -/
def Dev.setSplit (d : Dev) (lo mid hi : Fld) (v : Int) : Dev :=
  let n := ofSigned 80 v
  ((d.set lo 0 n).set mid 0 (n / 2 ^ 16)).set hi 0 (n / 2 ^ 48)

/-- The two words of a signed value in units of 2⁻¹⁶ ns, as events carry it. -/
def signedWords (v : Int) : List Nat := words2 (ofSigned 64 v)

/-! ### The PTP hardware clock (R334) -/

/-- The span of the PHC in units of 2⁻¹⁶ ns: 48 bits of seconds. -/
def phcSpan : Nat := 2 ^ 48 * 10 ^ 9 * 65536

/-- The PHC in units of 2⁻¹⁶ × 10⁻⁹ ns: each CORE cycle advances it by 1 ns × (1 + RATE × 2⁻¹⁶ × 10⁻⁹). -/
def Dev.phcExact (d : Dev) : Nat :=
  let n := d.clock.core - d.hget H.phcCore
  (((d.hget H.phcBase : Nat) + (n : Int) * (65536 * 10 ^ 9 + toSigned 32 (d.get F.PTP_PHC_RATE_RATE))) %
    ((phcSpan * 10 ^ 9 : Nat) : Int)).toNat

/-- The PHC in units of 2⁻¹⁶ ns. -/
def Dev.phc (d : Dev) : Nat := d.phcExact / 10 ^ 9

/-- The PHC as timestamps of the present cycle take it: its value before an adjustment of the cycle (R335). -/
def Dev.stampPhc (d : Dev) : Nat := if d.hget H.phcMovedAt = d.clock.core + 1 then d.hget H.phcBefore else d.phc

/-- The PHC moves by `v` (2⁻¹⁶ ns) in one cycle (R335). -/
def Dev.phcMove (d : Dev) (v : Int) : Dev :=
  let d := if v = 0 then d else (d.hset H.phcBefore 0 d.stampPhc).hset H.phcMovedAt 0 (d.clock.core + 1)
  let n := (((d.phcExact : Int) + v * 10 ^ 9) % ((phcSpan * 10 ^ 9 : Nat) : Int)).toNat
  (d.hset H.phcBase 0 n).hset H.phcCore 0 d.clock.core

/-- RATE takes a value from this cycle on (R334, R335). -/
def Dev.phcRate (d : Dev) (w : Nat) : Dev := (d.phcMove 0).set F.PTP_PHC_RATE_RATE 0 w

/-! ### Moving TIME (R37, R340, R368) -/

/-- TIME moves by `v` (2⁻¹⁶ ns) in one cycle. -/
def Dev.moveTime (d : Dev) (v : Int) : Dev :=
  { d with clock := { d.clock with time16 := ofSigned 80 ((d.clock.time16 : Int) + v) } }

/-- A time step was accepted: while the tick runs, the next frame tick and block tick are the next boundaries that TIME
reaches, and that frame tick renumbers (R37). -/
def Dev.timeStepped (d : Dev) : Dev :=
  if d.running || d.tick.waiting then
    { d with tick := { d.tick with stepped := d.running, next := frameOf d.rate d.now + 1, nextBlock := blockOf d.now + 1 } }
  else d

/-! ### Inputs (R348–R355) -/

/-- Both copies of a shadowed field take a value (R374). -/
def Dev.setBoth (d : Dev) (f : Fld) (i v : Nat) : Dev := (d.set f i v).load f i v

/-- A write of an SH field of group REF: both copies while the tick is stopped, else the shadow copy (R374). -/
def Dev.refShadow (d : Dev) (f : Fld) (i v : Nat) : Dev := if d.running then d.load f i v else d.setBoth f i v

/-- TYPE of a REF pin input. -/
def Dev.refType (d : Dev) (i : Nat) : Nat := d.get F.REF_IN_CFG_TYPE i

/-- The pin input is the second of a pair (R350). -/
def Dev.absorbed (d : Dev) (i : Nat) : Bool := (i == 1 || i == 3) && d.refType (i - 1) == 2

/-- The type's sync rate is one that the house rate allows (R350). -/
def Dev.typeValid (d : Dev) (i : Nat) : Bool :=
  if i ≥ 4 then true
  else if d.refType i == 2 || d.refType i == 3 then d.supports (d.get F.REF_IN_SYNC_RATE i) else true

/-- The input carries phase (R348, R349). -/
def Dev.carriesPhase (d : Dev) (i : Nat) : Bool := i ≥ 4 || [1, 2, 3].contains (d.refType i)

/-- The input that a pin belongs to. -/
def Dev.pinOwner (d : Dev) (p : Nat) : Nat := if d.absorbed p then p - 1 else p

/-- The nominal period of a pin in ns, as numerator and denominator (R349, R350). -/
def Dev.nominal (d : Dev) (p : Nat) : Nat × Nat :=
  let i := d.pinOwner p
  let rate := d.get F.REF_IN_SYNC_RATE i
  let frame := (rateD rate * 10 ^ 9, rateN rate)
  match d.refType i with
  | 0 => (100, 1)
  | 1 => (10 ^ 9, 1)
  | 2 => if p = i then (frame.1, frame.2 * d.get F.REF_IN_SYNC_LINES i) else frame
  | 3 => frame
  | _ => (10 ^ 9, 48000)

/-- The pins of an input have each shown two consecutive correct periods (R352). -/
def Dev.pinsActive (d : Dev) (i : Nat) : Bool :=
  d.hget H.refGood i == 2 && (d.refType i != 2 || d.hget H.refGood (i + 1) == 2)

/-- The readiness of inputs 4–6 (R351). -/
def Dev.refReady (d : Dev) (i : Nat) : Bool :=
  match i with
  | 4 => d.get F.PTP_STATUS_SERVO == 3 && d.hget H.refPhcWrite != 0 && d.clock.core < d.hget H.refPhcWrite + 4 * 10 ^ 9
  | 5 =>
    let s := d.get F.REF_SLOT_SEL_SLOT
    d.slotState s == 3 && d.supports (d.get F.ING_SLOT_STATUS_RATE s)
  | 6 => d.causewayUp && d.hget H.refPeerLoop == 2 && d.hget H.refPeerSel != 6
  | _ => true

/-- The input is active (R352). -/
def Dev.refActive (d : Dev) (i : Nat) : Bool := if i < 4 then d.pinsActive i else d.refReady i

/-- An input's STATE: 0 DISABLED, 1 FAILED, 2 SOAKING, 3 QUALIFIED. -/
def Dev.refState (d : Dev) (i : Nat) : Nat := d.get F.REF_IN_STATUS_STATE i

/-- An input enters a state with its cause (R354); exits from QUALIFIED are counted. -/
def Dev.enterInput (d : Dev) (i st cause : Nat) : Dev :=
  let old := d.refState i
  let d := (d.set F.REF_IN_STATUS_STATE i st).set F.REF_IN_STATUS_FAIL_CAUSE i cause
  if old = st then d
  else
    let d := if old = 3 then d.bump C.REF_IN_LOSSES i else d
    let d := if st = 2 then d.hset H.refSoak i d.clock.core else d
    d.raise 66 [i, st, cause]

/-- What keeps an input from running, whatever its readings: the state it goes to, and the cause (R354). -/
def Dev.refBar (d : Dev) (i : Nat) : Option (Nat × Nat) :=
  if d.get F.REF_IN_CFG_EN i == 0 || d.absorbed i then some (0, 1)
  else if !d.typeValid i then some (1, 6)
  else if i ≥ 4 && !d.refReady i then some (1, 5)
  else if i < 4 && !d.pinsActive i then some (1, 2)
  else none

/-- The conditions of R354 that need no reading are applied to an input. -/
def Dev.reviewInput (d : Dev) (i : Nat) : Dev :=
  let on := d.get F.REF_IN_CFG_EN i == 1 && !d.absorbed i
  let active := on && d.refActive i
  -- the first gate of an input begins when it becomes active (R353)
  let d := if active && d.get F.REF_IN_STATUS_ACTIVE i == 0 then d.hset H.refGate i d.clock.core else d
  let d := (d.set F.REF_IN_STATUS_ACTIVE i (ofBool active)).set F.REF_IN_STATUS_PHASE i (ofBool (on && d.carriesPhase i))
  match d.refBar i with
  | some (st, cause) => d.enterInput i st cause
  | none => if d.refState i == 0 then d.enterInput i 1 0 else d

/-- Every input. -/
def Dev.reviewInputs (d : Dev) : Dev := d.each (List.range 7) Dev.reviewInput

/-- SOAK_LEFT: seconds of soak remaining, rounded up. -/
def Dev.soakLeft (d : Dev) (i : Nat) : Nat :=
  if d.refState i == 2 then
    let till := d.hget H.refSoak i + d.get F.REF_IN_CFG_SOAK_S i * 10 ^ 9
    (till - d.clock.core + 10 ^ 9 - 1) / 10 ^ 9
  else 0

/-- The length of an input's gates in CORE cycles: 10 s for TYPE 1 and 3, else 1 s (R353). -/
def Dev.gateLength (d : Dev) (i : Nat) : Nat := 10 ^ 9 * if i < 4 && (d.refType i == 1 || d.refType i == 3) then 10 else 1

/-- A gate gives a reading, signed in units of 2⁻¹⁶ ppb (R353, R354); only active inputs are measured, in gates that follow one another. -/
def Dev.gateReading (d : Dev) (i : Nat) (v : Int) : Dev :=
  if d.refState i == 0 || !d.refActive i || (d.refBar i).isSome then d
  else
    let d := d.passToCore (d.hget H.refGate i + d.gateLength i)
    let d := (d.hset H.refGate i d.clock.core).set F.REF_IN_FREQ_VALUE i (ofSigned 32 (saturate 32 v))
    let m := v.natAbs
    let low := m ≤ 65536 * d.get F.REF_LIMITS_ACCEPT_PPB
    let high := m > 65536 * d.get F.REF_LIMITS_REJECT_PPB
    match d.refState i with
    | 1 =>
      if low then d.enterInput i (if d.get F.REF_IN_CFG_SOAK_S i == 0 then 3 else 2) 0
      else if high then d
      else d.enterInput i 1 4
    | 2 => if high then d.enterInput i 1 3 else if low then d else d.enterInput i 1 4
    | _ => if high then d.enterInput i 1 3 else d

/-- SOAK_S seconds in SOAKING have passed. -/
def Dev.soakEnds (d : Dev) (i : Nat) : Dev :=
  let d := d.reviewInput i
  if d.refState i != 2 then d
  else (d.passToCore (d.hget H.refSoak i + d.get F.REF_IN_CFG_SOAK_S i * 10 ^ 9)).enterInput i 3 0

/-! ### Phase (R349, R363) -/

/-- How far the nearest of two marks lies ahead of `t`. -/
def nearest (t a b : Nat) : Int := if t - a ≤ b - t then (a : Int) - t else (b : Int) - t

/-- The phase, against TIME, of an edge that marks a whole second or the start of a frame of a rate: the marked instant less
the edge's own TIME (2⁻¹⁶ ns). -/
def Dev.edgePhase (d : Dev) (i t : Nat) : Int :=
  if d.refType i == 1 && i < 4 then
    let s := 65536 * 10 ^ 9
    nearest t (t / s * s) (t / s * s + s)
  else
    let rate := if i = 5 then d.get F.ING_SLOT_STATUS_RATE (d.get F.REF_SLOT_SEL_SLOT) else d.get F.REF_IN_SYNC_RATE i
    let f := frameOf rate (t / 65536)
    nearest t (65536 * frameStart rate f) (65536 * frameStart rate (f + 1))

/-- The phase of an input without edges of its own, where it can be sampled. -/
def Dev.sampledPhase (d : Dev) (i : Nat) : Option Int :=
  match i with
  | 4 => some ((d.phc : Int) - d.clock.time16)
  | 5 => ((d.ring (d.get F.REF_SLOT_SEL_SLOT)).frames.getLast?).map fun f =>
      d.edgePhase 5 (d.clock.time16 + f.start - 65536 * d.clock.core)
  | 6 => some (toSigned 64 (d.get F.CSW_TIME_OFFSET_LO_OFFSET + 2 ^ 32 * d.get F.CSW_TIME_OFFSET_HI_OFFSET))
  | _ => none

/-- The build-out of an input: by how much the output phase leads the input's, in units of 2⁻¹⁶ ns (log entry 87). -/
def Dev.buildOut (d : Dev) (i : Nat) : Int := toSigned 80 (d.hget H.refBuild i)

/-- A phase is measured: REF_IN_PHASE takes it in ns, and the first one after selection becomes the build-out (R363). -/
def Dev.phaseMeasured (d : Dev) (i : Nat) (v : Int) : Dev :=
  let d := d.set F.REF_IN_PHASE_VALUE i (ofSigned 32 (saturate 32 (v / 65536)))
  if d.get F.REF_STATUS_SELECTED == i && d.hget H.refMeasured == 0 then
    (d.hset H.refBuild i (ofSigned 80 (-v))).hset H.refMeasured 0 1
  else d

/-- REF_IN_PHASE as it reads. -/
def Dev.phaseView (d : Dev) (i : Nat) : Nat := if d.carriesPhase i then d.get F.REF_IN_PHASE_VALUE i else 0x80000000

/-- An edge of a REF pin, rising or falling: the one that FALLING selects is sampled (R349, R352, R363). -/
def Dev.pinEdge (d : Dev) (p : Nat) (falling : Bool) : Dev :=
  let i := d.pinOwner p
  if ofBool falling != d.get F.REF_IN_CFG_FALLING i then d
  else
    let (num, den) := d.nominal p
    let last := d.hget H.refEdge p
    let gap := d.clock.core + 1 - last
    let good := last != 0 && num ≤ 2 * gap * den && 2 * gap * den ≤ 5 * num
    let d := d.hset H.refGood p (if good then min 2 (d.hget H.refGood p + 1) else 0)
    let d := (d.hset H.refEdge p (d.clock.core + 1)).reviewInput i
    if d.carriesPhase i && (if d.refType i == 2 then p == i + 1 else p == i) then d.phaseMeasured i (d.edgePhase i d.clock.time16) else d

/-- The next edge of a pin is more than 1.5 nominal periods late (R352). -/
def Dev.edgeLate (d : Dev) (p : Nat) : Dev :=
  if d.hget H.refEdge p = 0 then d
  else
    let (num, den) := d.nominal p
    let d := d.passToCore (d.hget H.refEdge p - 1 + 5 * num / (2 * den) + 1)
    ((d.hset H.refGood p 0).hset H.refEdge p 0).reviewInput (d.pinOwner p)

/-- RATE and ADJ of the PHC have not been written for 4 s (R351). -/
def Dev.phcSilent (d : Dev) : Dev :=
  if d.hget H.refPhcWrite = 0 then d else (d.passToCore (d.hget H.refPhcWrite + 4 * 10 ^ 9)).reviewInput 4

/-- RATE or ADJ of the PHC is written (R351). -/
def Dev.phcWritten (d : Dev) : Dev := (d.hset H.refPhcWrite 0 (d.clock.core + 1)).reviewInput 4

/-! ### Slewing and stepping the output phase (R364, R368–R371) -/

/-- A term of the phase ledger, a signed sum (R371). -/
def Dev.phaseTerm (d : Dev) (c : Ctr) (v : Int) : Dev := d.bump c 0 (ofSigned 64 v)

/-- The remainder that is being slewed out. -/
def Dev.phaseRemain (d : Dev) : Int := d.split F.REF_PHASE_REMAIN_LO_FRAC F.REF_PHASE_REMAIN_MID_NS F.REF_PHASE_REMAIN_HI_NS

/-- The most that the phase moves in `ns` nanoseconds, in units of 2⁻¹⁶ ns. -/
def Dev.slewBound (d : Dev) (ns : Nat) : Int := ((65536 * d.hget H.refSlewRate * ns / 10 ^ 9 : Nat) : Int)

/-- Slew the remainder up to now; when nothing remains, REF_PHASE is raised with what was slewed. -/
def Dev.slewNow (d : Dev) : Dev :=
  let r := d.phaseRemain
  let b := d.slewBound (d.clock.core - d.hget H.refSlewAt)
  let v := clampInt (-b) b r
  let d := d.hset H.refSlewAt 0 d.clock.core
  if r = 0 then d
  else
    let total := toSigned 80 (d.hget H.refSlewDone) + v
    let d := (d.moveTime v).phaseTerm K.PHASE_SLEWED v
    let d := d.setSplit F.REF_PHASE_REMAIN_LO_FRAC F.REF_PHASE_REMAIN_MID_NS F.REF_PHASE_REMAIN_HI_NS (r - v)
    if r = v then (d.hset H.refSlewDone 0 0).raise 70 (0 :: signedWords total) else d.hset H.refSlewDone 0 (ofSigned 80 total)

/-- The remainder has been slewed out, after the time that it takes. -/
def Dev.slewEnds (d : Dev) : Dev :=
  let r := d.slewNow
  let n := r.phaseRemain.natAbs
  if n = 0 then r else (r.pass ((n * 10 ^ 9 + 65536 * r.hget H.refSlewRate - 1) / (65536 * r.hget H.refSlewRate))).slewNow

/-- A value is added to the build-out of every phase-carrying input but `but` (R368, R369). -/
def Dev.addBuild (d : Dev) (but : Nat) (v : Int) : Dev :=
  d.each ((List.range 7).filter fun i => d.carriesPhase i && i != but) fun d i => d.hset H.refBuild i (ofSigned 80 (d.buildOut i + v))

/-- TIME steps explicitly by `v`: both terms of the ledger, the build-outs, and the accepted step of R37. -/
def Dev.stepTime (d : Dev) (but : Nat) (v : Int) : Dev :=
  let d := (d.phaseTerm K.PHASE_REQUESTED v).phaseTerm K.PHASE_STEPPED v
  ((d.addBuild but v).moveTime v).timeStepped.raise 70 (1 :: signedWords v)

/-- The selected input follows its own phase (ALIGN = 1). -/
def Dev.aligned (d : Dev) : Bool :=
  let i := d.get F.REF_STATUS_SELECTED
  i < 7 && d.get F.REF_IN_CFG_ALIGN i == 1

/-- A phase adjustment is asked for, by slew or by step (R368–R370). -/
def Dev.phaseAdjust (d : Dev) (step : Bool) (v : Int) : Dev :=
  if d.aligned then ((d.phaseTerm K.PHASE_REQUESTED v).phaseTerm K.PHASE_REFUSED v).raise 70 (2 :: signedWords v)
  else if step then d.stepTime 7 v
  else
    let d := (d.slewNow.phaseTerm K.PHASE_REQUESTED v).addBuild 7 v
    d.setSplit F.REF_PHASE_REMAIN_LO_FRAC F.REF_PHASE_REMAIN_MID_NS F.REF_PHASE_REMAIN_HI_NS (d.phaseRemain + v)

/-- ALIGN: the build-out of the selected input moves towards the one at which output and input plus delay agree, for the `ns`
nanoseconds since the last evaluation, and the output phase with it (R364). -/
def Dev.alignSlew (d : Dev) (ns : Nat) : Dev :=
  let i := d.get F.REF_STATUS_SELECTED
  if !d.aligned || d.hget H.refMeasured == 0 then d
  else
    let goal := 65536 * toSigned 32 (d.get F.REF_IN_DELAY_NS i)
    let b := d.slewBound ns
    let v := clampInt (-b) b (goal - d.buildOut i)
    (d.hset H.refBuild i (ofSigned 80 (d.buildOut i + v))).moveTime v

/-! ### Holdover (R365–R367) -/

/-- PEAT_AGE_MS. -/
def Dev.peatAge (d : Dev) : Nat :=
  if d.hget H.refPeatAt = 0 then 65535 else min 65535 ((d.clock.core + 1 - d.hget H.refPeatAt) / 10 ^ 6)

/-- PEAT_FRESH. -/
def Dev.peatFresh (d : Dev) : Bool := d.get F.REF_PEAT_CTRL_PEAT_VALID == 1 && d.peatAge ≤ 2000

/-- The holdover value and its source (R365). -/
def Dev.holdover (d : Dev) : Nat × Nat :=
  if d.peatFresh then (1, d.get F.REF_PEAT_VALUE)
  else if d.get F.REF_PEAT_CTRL_AVG_VALID == 1 then (2, d.get F.REF_AVG_1S_VALUE)
  else (3, d.get F.REF_CTRL_VALUE_VALUE)

/-- The control value is set to the holdover value. -/
def Dev.takeHoldover (d : Dev) : Dev :=
  let (src, v) := d.holdover
  (d.set F.REF_CTRL_VALUE_VALUE 0 v).set F.REF_STATUS_HOLD_SRC 0 src

/-- The holdover timer runs up to now, in HOLDOVER and LOST (R367). -/
def Dev.holdNow (d : Dev) : Dev :=
  let n := d.hget H.refHoldNs + (d.clock.core - d.hget H.refHoldAt)
  let d := d.hset H.refHoldAt 0 d.clock.core
  if d.get F.REF_STATUS_LOOP == 3 || d.get F.REF_STATUS_LOOP == 4 then
    (d.hset H.refHoldNs 0 n).set F.REF_HOLDOVER_TIME_SECONDS 0 (n / 10 ^ 9)
  else d

/-- The loop enters a state (R361): 0 FREE_RUN, 1 ACQUIRING, 2 LOCKED, 3 HOLDOVER, 4 LOST. -/
def Dev.enterLoop (d : Dev) (st : Nat) : Dev :=
  if d.get F.REF_STATUS_LOOP == st then d
  else
    let d := ((d.holdNow.set F.REF_STATUS_LOOP 0 st).hset H.refLockRun 0 0).hset H.refSteady 0 0
    let d := if st = 2 then
        ((((d.hset H.refHoldNs 0 0).set F.REF_STATUS_HOLD_SRC 0 0).set F.REF_HOLDOVER_TIME_SECONDS 0 0).set F.REF_STATUS_SWITCHING 0 0).hset H.refEverLocked 0 1
      else d
    let d := d.raise 64 [st, d.get F.REF_STATUS_SELECTED]
    if st = 3 then d.raise 68 [d.get F.REF_STATUS_HOLD_SRC, d.get F.REF_CTRL_VALUE_VALUE]
    else if st = 4 then d.raise 69 [d.get F.REF_HOLDOVER_TIME_SECONDS]
    else d

/-- LOST, once the holdover timer has reached its limit (R367). -/
def Dev.holdoverCheck (d : Dev) : Dev :=
  if d.get F.REF_STATUS_LOOP == 3 && d.get F.REF_HOLDOVER_TIME_SECONDS ≥ d.get F.REF_HOLDOVER_SPEC_SECONDS then d.enterLoop 4 else d

/-! ### The selector (R356–R361) -/

/-- The reference block is enabled: the firmware has reached start-up step 10 (R69). -/
def Dev.refOn (d : Dev) : Bool := d.hget H.refOn == 1

/-- The block acts only while it is enabled. -/
def Dev.whileRef (d : Dev) (f : Dev → Dev) : Dev := if d.refOn then f d else d

/-- The QUALIFIED inputs. -/
def Dev.qualified (d : Dev) : List Nat := (List.range 7).filter fun i => d.refState i == 3

/-- Those of the lowest RANK. -/
def Dev.bestRank (d : Dev) (is : List Nat) : List Nat :=
  let r := is.foldl (fun m i => min m (d.get F.REF_IN_CFG_RANK i)) 8
  is.filter fun i => d.get F.REF_IN_CFG_RANK i == r

/-- An input's latest reading, in units of 2⁻¹⁶ ppb. -/
def Dev.reading (d : Dev) (i : Nat) : Int := toSigned 32 (d.get F.REF_IN_FREQ_VALUE i)

/-- The input that R356 selects among `is`, 7 for none. -/
def Dev.choose (d : Dev) (is : List Nat) : Nat :=
  let best := d.bestRank is
  let now := d.get F.REF_STATUS_SELECTED
  if best.contains now then now
  else
    let far := fun i => (d.reading i - toSigned 32 d.holdover.2).natAbs
    (best.foldl (fun (m : Option Nat) i =>
      match m with
      | none => some i
      | some k => if far i < far k then some i else m) none).getD 7

/-- The selection of an evaluation: the input, and whether it is the forced one (R356, R358, R360). -/
def Dev.selection (d : Dev) : Nat × Bool :=
  let q := d.qualified
  let now := d.get F.REF_STATUS_SELECTED
  let f := d.get F.REF_CTRL_FORCE_IN
  if d.get F.REF_CTRL_FORCE_EN == 1 && q.contains f then (f, true)
  else if d.get F.REF_CTRL_REVERTIVE == 0 && q.contains now then (now, false)
  else (d.choose q, false)

/-- The first pair of QUALIFIED inputs of the best rank that differ by more than AGREE_PPB (R357). -/
def Dev.rankConflict (d : Dev) : Option (Nat × Nat × Nat) :=
  let best := d.bestRank d.qualified
  best.findSome? fun i => (best.filter (i < ·)).findSome? fun k =>
    let gap := (d.reading i - d.reading k).natAbs
    if gap > 65536 * d.get F.REF_AGREE_AGREE_PPB then some (i, k, gap / 65536) else none

/-- RANK_CONFLICT, once as long as the condition lasts. -/
def Dev.conflictCheck (d : Dev) : Dev :=
  match d.rankConflict with
  | none => d.hset H.refConflict 0 0
  | some (i, k, gap) => if d.hget H.refConflict == 1 then d else (d.hset H.refConflict 0 1).raise 67 [i, k, gap]

/-- REF_SELECT's cause: 2 forced, 1 the selected input was lost, 3 a switch abandoned (R359), else 0. -/
def Dev.selectCause (d : Dev) (old new : Nat) (forced : Bool) : Nat :=
  if forced then 2
  else if new = 7 || (old < 7 && d.refState old != 3) then 1
  else if old < 7 && d.get F.REF_STATUS_SWITCHING == 1 && d.get F.REF_IN_CFG_RANK new < d.get F.REF_IN_CFG_RANK old then 3
  else 0

/-- The loop follows a change of selection (R361). -/
def Dev.loopSelects (d : Dev) (lost : Bool) (new : Nat) : Dev :=
  let st := d.get F.REF_STATUS_LOOP
  if new = 7 then
    if st = 2 || (st = 1 && d.hget H.refEverLocked == 1) then d.takeHoldover.enterLoop 3
    else if st = 1 then d.enterLoop 0
    else d
  else if st = 1 then d.hset H.refLockRun 0 0
  else (if st = 2 && lost then d.takeHoldover else d).enterLoop 1

/-- The selection changes. -/
def Dev.select (d : Dev) (new : Nat) (forced : Bool) : Dev :=
  let old := d.get F.REF_STATUS_SELECTED
  if old = new then d
  else
    let d := d.raise 65 [old, new, d.selectCause old new forced]
    let lost := old < 7 && d.refState old != 3
    let d := ((d.set F.REF_STATUS_SELECTED 0 new).set F.REF_STATUS_SWITCHING 0 (ofBool (new != 7))).hset H.refMeasured 0 0
    d.loopSelects lost new

/-- Inputs 4–6 are sampled. -/
def Dev.sampleInputs (d : Dev) : Dev := d.each [4, 5, 6] fun d i =>
  match d.sampledPhase i with
  | some v => if d.refActive i then d.phaseMeasured i v else d
  | none => d

/-- One evaluation, 1 ms after the last (R356–R361). -/
def Dev.evaluateRef (d : Dev) : Dev := d.whileRef fun d =>
  let d := (d.passToCore ((d.clock.core / 10 ^ 6 + 1) * 10 ^ 6)).slewNow
  let d := d.holdNow.holdoverCheck
  let d := d.reviewInputs
  let (new, forced) := d.selection
  let d := (d.select new forced).set F.REF_STATUS_FORCED 0 (ofBool forced)
  let d := d.conflictCheck
  let d := d.set F.REF_STATUS_STANDBY 0 (d.choose (d.qualified.filter (· != new)))
  -- the millisecond that ends was slewed at the old rate (R370)
  (d.sampleInputs.alignSlew (10 ^ 6)).hset H.refSlewRate 0 (d.get F.REF_SLEW_NS_PER_S)

/-! ### Once per second (R362, R366, R367) -/

/-- The second meets the lock criteria (R362). -/
def Dev.goodSecond (d : Dev) (x : LoopIn) : Bool :=
  x.freq ≤ 10 * 65536 && (!d.carriesPhase (d.get F.REF_STATUS_SELECTED) || x.phase ≤ 65536 * d.get F.REF_LOCK_CFG_LOCK_NS)

/-- The second takes a LOCKED loop back to ACQUIRING (R361). -/
def Dev.badSecond (d : Dev) (x : LoopIn) : Bool :=
  x.freq > 100 * 65536 ||
    (d.carriesPhase (d.get F.REF_STATUS_SELECTED) && x.phase > 4 * 65536 * d.get F.REF_LOCK_CFG_LOCK_NS)

/-- The lock criteria of a second. -/
def Dev.lockSecond (d : Dev) (x : LoopIn) : Dev :=
  match d.get F.REF_STATUS_LOOP with
  | 1 =>
    let d := d.set F.REF_CTRL_VALUE_VALUE 0 (ofSigned 32 x.value)
    if !d.goodSecond x then d.hset H.refLockRun 0 0
    else if d.hget H.refLockRun + 1 ≥ d.get F.REF_LOCK_CFG_LOCK_S then d.enterLoop 2
    else d.hset H.refLockRun 0 (d.hget H.refLockRun + 1)
  | 2 =>
    let d := d.set F.REF_CTRL_VALUE_VALUE 0 (ofSigned 32 x.value)
    if d.badSecond x then d.enterLoop 1 else d
  | _ => d

/-- A whole second of TIME ends (R362, R366, R367). -/
def Dev.loopSecond (d : Dev) (x : LoopIn) : Dev := d.whileRef fun d =>
  let d := d.passTo ((d.now / 10 ^ 9 + 1) * 10 ^ 9 * 65536)
  let held := d.hget H.refSteady == 1 && d.get F.REF_STATUS_LOOP == 2
  let d := if held then
      ((d.set F.REF_AVG_1S_VALUE 0 (ofSigned 32 x.mean)).set F.REF_PEAT_CTRL_AVG_VALID 0 1)
    else d
  let d := { d with refHist := ((if held then some x.mean else none) :: d.refHist).take 360 }
  let d := if d.get F.REF_STATUS_LOOP == 3 || d.get F.REF_STATUS_LOOP == 4 then
      d.holdNow.holdoverCheck
    else d.lockSecond x
  d.hset H.refSteady 0 (ofBool (d.get F.REF_STATUS_LOOP == 2))

/-- REF_PEAT is written; its age restarts (R366). -/
def Dev.writePeat (d : Dev) (w : Nat) : Dev := (d.set F.REF_PEAT_VALUE 0 w).hset H.refPeatAt 0 (d.clock.core + 1)

/-- The firmware computes the peat average (R366), unless it is stopped or REF is leased (R374).  The mean is rounded down
(log entry 50). -/
def Dev.peatUpdate (d : Dev) : Dev :=
  if !d.lathRuns || d.holder 10 != 7 then d
  else
    let vs := (d.refHist.drop 60).filterMap id
    if vs.length < 150 then d.set F.REF_PEAT_CTRL_PEAT_VALID 0 0
    else (d.writePeat (ofSigned 32 (vs.sum / (vs.length : Int)))).set F.REF_PEAT_CTRL_PEAT_VALID 0 1

/-! ### Writes -/

/-- Group REF's shadow copies took effect at T0. -/
def Dev.refApplied (d : Dev) : Dev := d.reviewInputs

/-- The TYPE of REF_IN_CFG⟨i⟩ is one that the input takes (R349, R350). -/
def goodType (i t : Nat) : Bool := t ≤ 4 && (t != 2 || i == 0 || i == 2 || i ≥ 4)

/-- ALIGN reads 1 for inputs 4 and 6 whatever is written (R364). -/
def keptAlign (i w : Nat) : Nat := if i = 4 ∨ i = 6 then 1 else bits w 21 1

/-- The fields of REF_IN_CFG⟨i⟩ as a write leaves them. -/
def refCfgWrites (i w : Nat) : List ShadowWrite :=
  writesOf [F.REF_IN_CFG_EN, F.REF_IN_CFG_RANK, F.REF_IN_CFG_TYPE, F.REF_IN_CFG_LVDS, F.REF_IN_CFG_FALLING, F.REF_IN_CFG_BW,
    F.REF_IN_CFG_SOAK_S] i w ++ [sw F.REF_IN_CFG_ALIGN i (keptAlign i w)]

/-- A write of REF_IN_CFG⟨i⟩ (R349). -/
def Dev.writeRefIn (d : Dev) (i w : Nat) : Dev :=
  if !goodType i (bits w 24 3) then d
  else
    let d := d.each [F.REF_IN_CFG_EN, F.REF_IN_CFG_RANK, F.REF_IN_CFG_TYPE, F.REF_IN_CFG_LVDS, F.REF_IN_CFG_FALLING, F.REF_IN_CFG_BW,
      F.REF_IN_CFG_SOAK_S] fun d f => d.refShadow f i (fieldOf f w)
    (d.refShadow F.REF_IN_CFG_ALIGN i (keptAlign i w)).reviewInput i

/-- A write of REF_LIMITS (R355). -/
def Dev.writeRefLimits (d : Dev) (w : Nat) : Dev :=
  if bits w 0 16 ≥ bits w 16 16 then d
  else (d.refShadow F.REF_LIMITS_REJECT_PPB 0 (bits w 16 16)).refShadow F.REF_LIMITS_ACCEPT_PPB 0 (bits w 0 16)

/-- REF_CTRL: FORCE_IN of 7 is stored as 0. -/
def Dev.writeRefCtrl (d : Dev) (w : Nat) : Dev :=
  let f := bits w 8 3
  ((d.set F.REF_CTRL_FORCE_EN 0 (bits w 11 1)).set F.REF_CTRL_FORCE_IN 0 (if f = 7 then 0 else f)).refShadow
    F.REF_CTRL_REVERTIVE 0 (bits w 0 1)

/-- The rate that REF_SLEW stores. -/
def storedSlew (w : Nat) : Nat := min 5000 (max 1 (bits w 0 16))

/-- The value of REF_PHASE_ADJ. -/
def Dev.phaseAdj (d : Dev) : Int := d.split F.REF_PHASE_ADJ_LO_FRAC F.REF_PHASE_ADJ_MID_NS F.REF_PHASE_ADJ_HI_NS

/-- A write of REF_PHASE_CTRL (R368). -/
def Dev.writePhaseCtrl (d : Dev) (w : Nat) : Dev :=
  let d := d.set F.REF_PHASE_CTRL_STEP 0 (bits w 1 1)
  if bit w 0 then d.phaseAdjust (bit w 1) d.phaseAdj else d

/-- The duty of XO_CTL now: 50 % before start-up step 11 and in BOOT_FAIL (R58), from then on it follows TRIM by at most 1 LSB per 10 ms (R373). -/
def Dev.xoDutyNow (d : Dev) : Nat :=
  if d.get F.BOOT_STATUS_STEP < 11 || d.pinPhase == .fail then 0x8000 else
  let from' : Int := d.hget H.xoDuty
  let b : Int := (((d.clock.core - d.hget H.xoSince) / 10 ^ 7 : Nat) : Int)
  (from' + clampInt (-b) b ((d.get F.XO_CFG_TRIM : Int) - from')).toNat

/-- TRIM takes a value (R373). -/
def Dev.writeTrim (d : Dev) (v : Nat) : Dev :=
  ((d.hset H.xoDuty 0 d.xoDutyNow).hset H.xoSince 0 d.clock.core).set F.XO_CFG_TRIM 0 v

/-- The effect of a write at a REF register's base offset, for input `i` (R374); none where it acts by its access types. -/
def Dev.refWrite (d : Dev) (base i w : Nat) : Option Dev :=
  match base with
  | 0x800000 => some (d.writeRefCtrl w)
  | 0x800008 => some (d.writeRefLimits w)
  | 0x80000C => some (d.refShadow F.REF_AGREE_AGREE_PPB 0 (bits w 0 16))
  | 0x800010 => some ((d.set F.REF_LOCK_CFG_LOCK_S 0 (max 1 (bits w 16 8))).set F.REF_LOCK_CFG_LOCK_NS 0 (bits w 0 16))
  | 0x800014 => some (d.set F.REF_SLEW_NS_PER_S 0 (storedSlew w))
  | 0x800028 => some (d.writePeat w)
  | 0x80003C => some (d.writePhaseCtrl w)
  | 0x80004C => some (if bits w 0 11 > 1535 then d else (d.refShadow F.REF_SLOT_SEL_SLOT 0 (bits w 0 11)).reviewInput 5)
  | 0x800050 => some (d.writeTrim (bits w 16 16))
  | 0x800100 => some (d.writeRefIn i w)
  | 0x800104 =>
    some (((d.refShadow F.REF_IN_SYNC_RATE i (bits w 16 4)).refShadow F.REF_IN_SYNC_LINES i (bits w 0 12)).reviewInput i)
  | 0x800108 => some (d.refShadow F.REF_IN_DELAY_NS i w)
  | _ => none

/-! ### Commands -/

/-- REF is lease unit 10. -/
def refUnit (_ : List Tlv) : List Nat := [10]

/-- A list of writes takes effect at once, in both copies of a shadowed field (R374). -/
def Dev.writeNow (d : Dev) (fs : List Fld) (ws : List ShadowWrite) : Dev :=
  d.each ws fun d w =>
    match fs.find? fun f => f.id == w.fld with
    | some f => if f.acc == .sh then d.setBoth f w.inst w.val else d.set f w.inst w.val
    | none => d

/-- The fields that the two configuration commands write. -/
def refFields : List Fld :=
  [F.REF_IN_CFG_EN, F.REF_IN_CFG_RANK, F.REF_IN_CFG_TYPE, F.REF_IN_CFG_LVDS, F.REF_IN_CFG_FALLING, F.REF_IN_CFG_ALIGN,
    F.REF_IN_CFG_BW, F.REF_IN_CFG_SOAK_S, F.REF_IN_SYNC_RATE, F.REF_IN_SYNC_LINES, F.REF_IN_DELAY_NS, F.REF_SLOT_SEL_SLOT,
    F.REF_CTRL_REVERTIVE, F.REF_LIMITS_REJECT_PPB, F.REF_LIMITS_ACCEPT_PPB, F.REF_AGREE_AGREE_PPB, F.REF_SLEW_NS_PER_S,
    F.REF_LOCK_CFG_LOCK_S, F.REF_LOCK_CFG_LOCK_NS, F.REF_HOLDOVER_SPEC_SECONDS]

/-- A REF configuration change: held for its frame while the tick runs, else written at once (R374). -/
def Dev.refChange (d : Dev) (q : Req) (op : Nat) (ts : List Tlv) (ws : List ShadowWrite) : Dev :=
  if d.running then d.holdChange q op (frameTlv ts) ws
  else (d.writeNow refFields ws).reviewInputs.reply q op St.ok

/-- REF_INPUT_CONFIG (0x0530). -/
def refInputConfigSpec : Spec :=
  { op := 0x0530
    pars := [.req 0x0101 (below4 7), Par.frame, .opt 0x0102 any4, .opt 0x0103 any4, .opt 0x0104 any4, .opt 0x0105 (below4 1536)]
    units := refUnit }

def Dev.refInputConfig (d : Dev) (q : Req) : Dev := d.command q refInputConfigSpec fun d ts =>
  let i := tlvNum ts 0x0101
  if hasTlv ts 0x0102 && !goodType i (bits (tlvNum ts 0x0102) 24 3) then
    d.reply q 0x0530 St.badParam [statusDetail (tlvIndex ts 0x0102) 0xFF 0]
  else
    d.refChange q 0x0530 ts
      ((if hasTlv ts 0x0102 then refCfgWrites i (tlvNum ts 0x0102) else []) ++
        (if hasTlv ts 0x0103 then writesOf [F.REF_IN_SYNC_RATE, F.REF_IN_SYNC_LINES] i (tlvNum ts 0x0103) else []) ++
        tlvAtAll ts 0x0104 [i] F.REF_IN_DELAY_NS ++ tlvAtAll ts 0x0105 [0] F.REF_SLOT_SEL_SLOT)

/-- REF_LOOP_CONFIG (0x0531). -/
def refLoopConfigSpec : Spec :=
  { op := 0x0531
    pars := [Par.frame, .opt 0x0101 (below4 2), .opt 0x0102 (num 4 fun v => bits v 0 16 < bits v 16 16), .opt 0x0103 (below4 65536),
      .opt 0x0104 (below4 65536), .opt 0x0105 any4, .opt 0x0106 (below4 (2 ^ 24))]
    units := refUnit }

def refLoopWrites (ts : List Tlv) : List ShadowWrite :=
  tlvAtAll ts 0x0101 [0] F.REF_CTRL_REVERTIVE ++
    (if hasTlv ts 0x0102 then writesOf [F.REF_LIMITS_REJECT_PPB, F.REF_LIMITS_ACCEPT_PPB] 0 (tlvNum ts 0x0102) else []) ++
    tlvAtAll ts 0x0103 [0] F.REF_AGREE_AGREE_PPB ++
    (if hasTlv ts 0x0104 then [sw F.REF_SLEW_NS_PER_S 0 (storedSlew (tlvNum ts 0x0104))] else []) ++
    (if hasTlv ts 0x0105 then
      [sw F.REF_LOCK_CFG_LOCK_S 0 (max 1 (bits (tlvNum ts 0x0105) 16 8)), sw F.REF_LOCK_CFG_LOCK_NS 0 (tlvNum ts 0x0105)] else []) ++
    tlvAtAll ts 0x0106 [0] F.REF_HOLDOVER_SPEC_SECONDS

def Dev.refLoopConfig (d : Dev) (q : Req) : Dev := d.command q refLoopConfigSpec fun d ts => d.refChange q 0x0531 ts (refLoopWrites ts)

/-- REF_STATUS and REF_IN_STATUS⟨i⟩ as words. -/
def Dev.refStatusView (d : Dev) : Nat :=
  2 ^ 16 * wordOfBits d.qualified + 2 ^ 14 * ofBool d.peatFresh + 2 ^ 12 * d.get F.REF_STATUS_HOLD_SRC +
    2 ^ 11 * d.get F.REF_STATUS_FORCED + 2 ^ 8 * d.get F.REF_STATUS_STANDBY + 2 ^ 4 * d.get F.REF_STATUS_SELECTED +
    2 ^ 3 * d.get F.REF_STATUS_SWITCHING + d.get F.REF_STATUS_LOOP

def Dev.refInView (d : Dev) (i : Nat) : Nat :=
  2 ^ 16 * min 65535 (d.soakLeft i) + 2 ^ 4 * d.get F.REF_IN_STATUS_FAIL_CAUSE i + 2 ^ 3 * d.get F.REF_IN_STATUS_PHASE i +
    2 ^ 2 * d.get F.REF_IN_STATUS_ACTIVE i + d.refState i

/-- REF_PEAT_CTRL as a word. -/
def Dev.peatCtrlView (d : Dev) : Nat :=
  2 ^ 31 * d.get F.REF_PEAT_CTRL_PEAT_VALID + 2 ^ 30 * d.get F.REF_PEAT_CTRL_AVG_VALID + d.peatAge

/-- REF_STATUS_GET (0x0532). -/
def refStatusGetSpec : Spec := { op := 0x0532 }

def Dev.refStatusGet (d : Dev) (q : Req) : Dev := d.command q refStatusGetSpec fun d _ =>
  d.reply q 0x0532 St.ok (data [w4 d.refStatusView, w4 (d.get F.REF_CTRL_VALUE_VALUE), w4 (d.get F.REF_PEAT_VALUE),
      w4 (d.get F.REF_HOLDOVER_TIME_SECONDS)] ::
    (List.range 7).map fun i => data [w4 (d.refInView i), w4 (d.get F.REF_IN_FREQ_VALUE i), w4 (d.phaseView i)])

/-- REF_PHASE_ADJUST (0x0533); the firmware writes REF_PHASE_ADJ and then REF_PHASE_CTRL. -/
def refPhaseAdjustSpec : Spec :=
  { op := 0x0533, pars := [.req 0x0101 fun v => v.length == 8, .req 0x0102 (below4 2)], units := refUnit }

def Dev.refPhaseAdjust (d : Dev) (q : Req) : Dev := d.command q refPhaseAdjustSpec fun d ts =>
  let v := toSigned 64 (tlvNum ts 0x0101)
  let refused := d.aligned
  let d := d.setSplit F.REF_PHASE_ADJ_LO_FRAC F.REF_PHASE_ADJ_MID_NS F.REF_PHASE_ADJ_HI_NS v
  let d := d.writePhaseCtrl (2 * tlvNum ts 0x0102 + 1)
  if refused then d.reply q 0x0533 St.badParam [statusDetail 0xFFFF 0xFF 0x40] else d.reply q 0x0533 St.ok

/-- REF_FORCE (0x0534). -/
def refForceSpec : Spec := { op := 0x0534, pars := [.req 0x0101 (num 4 fun v => v < 7 || v == 0xFF)], units := refUnit }

def Dev.refForce (d : Dev) (q : Req) : Dev := d.command q refForceSpec fun d ts =>
  let v := tlvNum ts 0x0101
  let d := if v = 0xFF then d.set F.REF_CTRL_FORCE_EN 0 0 else (d.set F.REF_CTRL_FORCE_EN 0 1).set F.REF_CTRL_FORCE_IN 0 v
  (d.mirrorReg 0x800000).reply q 0x0534 St.ok

/-- XO_TRIM_SET (0x0535). -/
def xoTrimSetSpec : Spec := { op := 0x0535, pars := [.req 0x0101 (below4 65536)], units := refUnit }

def Dev.xoTrimSet (d : Dev) (q : Req) : Dev := d.command q xoTrimSetSpec fun d ts =>
  (d.writeTrim (tlvNum ts 0x0101)).reply q 0x0535 St.ok

/-! ### The rows -/

def execRefPinEdge (x : PinEdge) (s : State) : Host.Outcome State Fault Refusal := lift (·.whileRef (·.pinEdge x.pin x.falling)) s
def execActivityTimeout (pin : Fin 4) (s : State) : Host.Outcome State Fault Refusal := lift (·.whileRef (·.edgeLate pin)) s
def execPtpWriteTimeout (s : State) : Host.Outcome State Fault Refusal := lift Dev.phcSilent s
def execFrequencyGate (input : Fin 7) (reading : Int) (s : State) : Host.Outcome State Fault Refusal :=
  lift (·.whileRef (·.gateReading input reading)) s
def execSoakEnd (input : Fin 7) (s : State) : Host.Outcome State Fault Refusal := lift (·.whileRef (·.soakEnds input)) s
def execSelectorEvaluation (s : State) : Host.Outcome State Fault Refusal := lift Dev.evaluateRef s
def execLoopSecond (x : LoopIn) (s : State) : Host.Outcome State Fault Refusal := lift (·.loopSecond x) s
def execPeatUpdate (s : State) : Host.Outcome State Fault Refusal := lift Dev.peatUpdate s
def execPhaseAdjustGo (m : Fin 8) (v : Word) (s : State) : Host.Outcome State Fault Refusal :=
  lift (fun d => d.busWrite m 0x80003C v.toNat (·.writePhaseCtrl v.toNat)) s
def execSlewComplete (s : State) : Host.Outcome State Fault Refusal := lift Dev.slewEnds s
def execRefInputConfig (q : Req) (s : State) : Host.Outcome State Fault Refusal := lift (·.refInputConfig q) s
def execRefLoopConfig (q : Req) (s : State) : Host.Outcome State Fault Refusal := lift (·.refLoopConfig q) s
def execRefStatusGet (q : Req) (s : State) : Host.Outcome State Fault Refusal := lift (·.refStatusGet q) s
def execRefPhaseAdjust (q : Req) (s : State) : Host.Outcome State Fault Refusal := lift (·.refPhaseAdjust q) s
def execRefForce (q : Req) (s : State) : Host.Outcome State Fault Refusal := lift (·.refForce q) s
def execXoTrimSet (q : Req) (s : State) : Host.Outcome State Fault Refusal := lift (·.xoTrimSet q) s

end Sys2Proof.Machine
end

