-- ==== Sys2Proof/Machine/Mac.lean ====
section
/-! DEFINITION. The Ethernet MACs (R274–R299): links and modes, pause, transmit, underrun, the speeds of the management ports
and MACsec.  Instances 0–31 are the media instances, 32 and 33 the management ports M0 and M1.  Times within a MAC count units
of 10 ps of CORE time. -/

namespace Sys2Proof.Machine

/-! ### Instances (R274, R292) -/

/-- The mode of media port `p` creates its instance `k` (R274). -/
def modeHas (mode k : Nat) : Bool := k < [1, 2, 4].getD mode 0

/-- ETH_MAC_STATUS.VALID. -/
def Dev.instValid (d : Dev) (m : Nat) : Bool := modeHas (d.get F.ETH_PORT_CFG_MODE (m / 4)) (m % 4)

/-- The instance exists: a media instance in its port's mode, a management port always (R274). -/
def Dev.instThere (d : Dev) (n : Nat) : Bool := n ≥ 32 || d.instValid n

/-- The lanes of a media instance, counted within its port (R274). -/
def lanesOf (mode k : Nat) : List Nat :=
  let n := [8, 4, 2].getD mode 0
  (List.range n).map (k * n + ·)

/-- The link of an instance is up. -/
def Dev.instLink (d : Dev) (n : Nat) : Bool :=
  if n < 32 then d.get F.ETH_MAC_STATUS_LINK n == 1 else d.get F.MGT_STATUS_LINK (n - 32) == 1

/-- The instance can send: its link is up, and neither start-up nor BOOT_FAIL keeps the transmitters off (R58). -/
def Dev.instSends (d : Dev) (n : Nat) : Bool := d.instLink n && d.mediaOn

/-- The rate of an instance in Gb/s (R274, R292). -/
def Dev.macRate (d : Dev) (n : Nat) : Nat :=
  if n < 32 then [400, 200, 100].getD (d.get F.ETH_PORT_CFG_MODE (n / 4)) 400
  else if d.get F.MGT_STATUS_SPEED (n - 32) == 1 then 1 else 10

/-- MAX_FRAME of an instance (R279). -/
def Dev.maxFrame (d : Dev) (n : Nat) : Nat := if n < 32 then d.get F.ETH_MAC_CFG_MAX_FRAME n else d.get F.MGT_CFG_MAX_FRAME (n - 32)

/-- IGNORE_PAUSE of an instance. -/
def Dev.ignoresPause (d : Dev) (n : Nat) : Bool :=
  (if n < 32 then d.get F.ETH_MAC_CFG_IGNORE_PAUSE n else d.get F.MGT_CFG_IGNORE_PAUSE (n - 32)) == 1

/-- The event of an instance: ETH_MAC⟨m⟩ or MGT_PORT⟨i⟩. -/
def macEvent (n : Nat) : Nat := if n < 32 then 608 + n else 648 + (n - 32)

/-- The management port protects its frames (R296). -/
def Dev.macsecOn (d : Dev) (n : Nat) : Bool := n ≥ 32 && d.get F.MGT_MACSEC_CFG_EN (n - 32) == 1

/-- CORE time in units of 10 ps. -/
def Dev.now10 (d : Dev) : Nat := 100 * d.clock.core

/-- The time that bytes take on an instance. -/
def Dev.byteTime (d : Dev) (n bytes : Nat) : Nat := 800 * bytes / d.macRate n

/-! ### Timestamp corrections (R328, R329) and the transmit timestamp queues (R343–R345) -/

/-- The fixed corrections of an instance's mode in units of 10 ps: transmit, receive (R329). -/
def Dev.corrections (d : Dev) (n : Nat) : Nat × Nat :=
  if n < 32 then [(6144, 16384), (7168, 20480), (9216, 28672)].getD (d.get F.ETH_PORT_CFG_MODE (n / 4)) (6144, 16384)
  else if d.get F.MGT_STATUS_SPEED (n - 32) == 1 then (5600, 15200)
  else if d.get F.MGT_STATUS_FEC74 (n - 32) == 1 then (3840, 26880)
  else (3840, 5760)

/-- A count of 10 ps in units of 2⁻¹⁶ ns. -/
def tenPs (v : Int) : Int := v * 65536 / 100

/-- The queue of an instance's port: 0–7 for media ports, 8 and 9 for M0 and M1. -/
def txQueueOf (n : Nat) : Nat := if n < 32 then n / 4 else n - 24

/-- The corrected timestamp of an event message whose SFD passed `ago` units of 10 ps ago (R328). -/
def Dev.txStamp (d : Dev) (n : Nat) (ago : Int) : Nat :=
  (((d.stampPhc : Int) - tenPs ago + tenPs (d.corrections n).1) % (phcSpan : Nat)).toNat

/-- A PTP event message leaves an instance: its corrected timestamp is captured, or counted where the queue is full (R343,
R345).  `ago` is how long ago its SFD passed, in units of 10 ps. -/
def Dev.captureTx (d : Dev) (n seq typ : Nat) (ago : Int) : Dev :=
  let q := txQueueOf n
  let es := d.txq.getD q []
  let d := d.bump C.PTP_TXQ_CAPTURED q
  if es.length ≥ 64 then
    let d := d.bump C.PTP_TXQ_OVERFLOWED q
    let sec := d.clock.core / 10 ^ 9 + 1
    if d.hget H.txqSecond q = sec then d else (d.hset H.txqSecond q sec).raise 100 [q, seq, typ]
  else
    { d with txq := d.txq.set q (es ++ [⟨n, seq, typ, d.txStamp n ago⟩]) }

/-- A Delay_Req as it leaves (R325, R332): with ONE_STEP_TX its originTimestamp is the corrected transmit timestamp and over UDP its checksum
is 0, else its originTimestamp is 0. -/
def Dev.delayReqOut (d : Dev) (n i seq stamp : Nat) : DelayReqOut :=
  let udp := d.get F.PTP_IF_CFG_TRANSPORT i == 0
  let one := d.get F.PTP_IF_CFG_ONE_STEP_TX i == 1
  { iface := i, seq := seq, origin := if one then stamp else 0, noChecksum := one && udp
    domain := d.get F.PTP_CFG_DOMAIN
    udp := if udp then some (if n < 32 then d.get F.IPM_INST_IPV4_IPV4 n else d.get F.MGT_IPV4_IPV4 (n - 32), 0xE0000181, 319, 46) else none
    dstMac := if udp then 0x01005E000181 else 0x011B19000000 }

/-! ### The transmit queues and the pause timer (R285–R290) -/

/-- The frames queued at an instance. -/
def Dev.macFrames (d : Dev) (n : Nat) : List TxFrame := ((d.mac.find? fun q => q.inst == n).map MacQueue.frames).getD []

/-- A queue put into its place; an empty one is not listed. -/
def putQueue (q : MacQueue) : List MacQueue → List MacQueue
  | [] => if q.frames = [] then [] else [q]
  | r :: l =>
    if q.inst = r.inst then (if q.frames = [] then l else q :: l)
    else if q.inst < r.inst then (if q.frames = [] then r :: l else q :: r :: l)
    else r :: putQueue q l

/-- The frames queued at an instance are replaced. -/
def Dev.setFrames (d : Dev) (n : Nat) (fs : List TxFrame) : Dev := { d with mac := putQueue ⟨n, fs⟩ d.mac }

/-- A pause quantum of an instance: 512 bit times. -/
def Dev.quantum (d : Dev) (n : Nat) : Nat := 51200 / d.macRate n

/-- Serve the quanta that have ended (R285). -/
def Dev.pauseServe (d : Dev) (n : Nat) : Dev :=
  let k := min (d.hget H.pauseTimer n) ((d.now10 - d.hget H.pauseFrom n) / d.quantum n)
  if k = 0 then d
  else ((d.hset H.pauseTimer n (d.hget H.pauseTimer n - k)).hset H.pauseFrom n (d.hget H.pauseFrom n + k * d.quantum n)).bump
    C.ETH_PAUSE_QUANTA_SERVED n k

/-- A pause in effect or waiting ends; what is left of it is counted (R286). -/
def Dev.pauseCancel (d : Dev) (n : Nat) : Dev :=
  let d := d.pauseServe n
  ((d.bump C.ETH_PAUSE_QUANTA_CANCELLED n (d.hget H.pauseTimer n)).hset H.pauseTimer n 0).hset H.pauseFrom n d.now10

/-- A packet of a transmit leg leaves its pacer and is sent, `ago` units of 10 ps ago (R316). -/
def Dev.flowSent (d : Dev) (leg due limit ago : Nat) : Dev :=
  let d := d.bump C.IPM_TX_LEG_SENT leg
  if d.clock.time16 - 65536 * ago / 100 ≤ due + limit then d
  else
    let x := leg / 2
    let d := d.bump C.IPM_TX_PACE_LATE x
    let sec := d.clock.core / 10 ^ 9 + 1
    if d.hget H.ipmLateSecond x = sec then d else (d.hset H.ipmLateSecond x sec).raise 676 [x, leg % 2]

/-- A queued frame that is not sent: a packet of a transmit leg counts for its leg (R317), any other frame for the MAC. -/
def Dev.frameLost (d : Dev) (n : Nat) (c : Ctr) (f : TxFrame) : Dev :=
  match f.kind with
  | .flow leg _ _ _ => d.bump C.IPM_TX_LEG_DROP leg
  | _ => d.bump c n

/-- The transmit packet number moves on (R297): the threshold and the exhaustion are raised. -/
def Dev.nextPn (d : Dev) (i : Nat) : Dev :=
  let pn := d.get F.MGT_TX_PN_PN i + 1
  let an := d.hget H.macTxSa i - 1
  let d := d.set F.MGT_TX_PN_PN i pn
  if pn = 0xF0000000 then d.raise (648 + i) [6, an] else if pn = 0xFFFFFFFF then d.raise (648 + i) [7, an] else d

/-- No packet number is left, or no SA is installed (R297). -/
def Dev.pnSpent (d : Dev) (n : Nat) : Bool :=
  d.macsecOn n && (d.hget H.macTxSa (n - 32) == 0 || d.get F.MGT_TX_PN_PN (n - 32) == 0xFFFFFFFF)

/-- The length on the wire: padding (R280), and 32 bytes of SecTAG and ICV under MACsec. -/
def Dev.wireLength (d : Dev) (n length : Nat) : Nat := max 64 length + if d.macsecOn n then 32 else 0

/-- A frame starts at `st`: 8 bytes of preamble and SFD, then the frame. -/
def Dev.sendFrame (d : Dev) (n st : Nat) (f : TxFrame) : Dev :=
  if d.pnSpent n then d.frameLost n C.ETH_TX_PN_DROP f
  else
    let sfd := st + d.byteTime n 8
    let d := (d.hset H.macBusy n (st + d.byteTime n (8 + d.wireLength n f.length))).bump C.ETH_TX_SENT n
    let d := if d.macsecOn n then d.nextPn (n - 32) else d
    match f.kind with
    | .plain => d
    | .flow leg due limit packet =>
      ((d.bump C.ETH_TX_FRAMES_IN n).flowSent leg due limit (d.now10 - st)).emit (.rtp leg packet)
    | .event seq typ => d.captureTx n seq typ ((d.now10 : Int) - sfd)
    | .delayReq i seq =>
      let ago : Int := (d.now10 : Int) - sfd
      (d.captureTx n seq 1 ago).emit (.delayReq (d.delayReqOut n i seq (d.txStamp n ago)))

/-- Send what may start by now: the frames queued, one after the other with 12 bytes between them, while no pause is in
effect (R285). -/
def Dev.macRun (d : Dev) (n : Nat) : List TxFrame → Dev
  | [] => d.setFrames n []
  | f :: fs =>
    let st := max f.offered (max (d.hget H.macBusy n + d.byteTime n 12) (d.hget H.pauseFrom n))
    if d.hget H.pauseTimer n > 0 || st > d.now10 || !d.instSends n then
      d.setFrames n (f :: fs)
    else (d.sendFrame n st f).macRun n fs

/-- The MAC's work up to now: quanta served, frames sent. -/
def Dev.macAdvance (d : Dev) (n : Nat) : Dev :=
  let d := d.pauseServe n
  d.macRun n (d.macFrames n)

/-- Every instance's work up to now. -/
def Dev.advanceMacs (d : Dev) : Dev := d.each (d.mac.map MacQueue.inst) Dev.macAdvance

/-- A packet of a transmit leg waits in its pacer, and counts for the MAC only when it is sent. -/
def TxFrame.paced (f : TxFrame) : Bool := match f.kind with
  | .flow _ _ _ _ => true
  | _ => false

/-- A frame is offered for transmit (R280): too long, without a link, or queued.  A management port that renegotiates keeps
256 KB of frames (R295); the counters of an instance that the mode does not create do not move (R274). -/
def Dev.offerFrame (d : Dev) (n : Nat) (f : TxFrame) : Dev :=
  let d := d.macAdvance n
  let d := if f.paced then d else if d.instThere n then d.bump C.ETH_TX_FRAMES_IN n else d
  let waiting := n ≥ 32 && d.get F.MGT_STATUS_RENEG (n - 32) == 1
  let queued := ((d.macFrames n).map TxFrame.length).sum
  if !d.instThere n && !f.paced then d
  else if f.length > d.maxFrame n then d.frameLost n C.ETH_TX_OVERSIZE f
  else if !d.instSends n && (!waiting || queued + f.length > 262144) then d.frameLost n C.ETH_TX_LINK_DROP f
  else
    (d.setFrames n (d.macFrames n ++ [f])).macAdvance n

/-- TX_START × 256 bytes of the frame stand in the FIFO, or the whole frame does (R289). -/
def Dev.mayStart (d : Dev) (n : Nat) (x : TxIn) : Bool := x.fifo ≥ min x.length (256 * d.get F.ETH_TX_START_STEPS n)

/-- The kind of an offered frame. -/
def txKind (x : TxIn) : TxKind :=
  match x.event with
  | some (seq, typ) => .event seq typ
  | none => .plain

/-- A frame that may start is offered (R289). -/
def Dev.macFrameTx (d : Dev) (n : Nat) (x : TxIn) : Dev := if d.mayStart n x then d.offerFrame n ⟨x.length, d.now10, txKind x⟩ else d

/-- TX_START as it was when the present CORE cycle began. -/
def Dev.startBefore (d : Dev) (n : Nat) : Nat :=
  if d.hget H.txStartCycle n = d.clock.core + 1 then d.hget H.txStartOld n else d.get F.ETH_TX_START_STEPS n

/-- TX_START takes a value, and what this cycle changed is kept: the value before the cycle, and the value raised or written in it. -/
def Dev.setStart (d : Dev) (n v raised written : Nat) : Dev :=
  ((((d.hset H.txStartOld n (d.startBefore n)).hset H.txStartCycle n (d.clock.core + 1)).hset H.txStartRaised n raised).hset
    H.txStartWritten n written).set F.ETH_TX_START_STEPS n v

/-- What a software write of this cycle stored; 0 where there was none. -/
def Dev.startWritten (d : Dev) (n : Nat) : Nat := if d.hget H.txStartCycle n = d.clock.core + 1 then d.hget H.txStartWritten n else 0

/-- What an underrun of this cycle raised TX_START to; 0 where there was none. -/
def Dev.startRaised (d : Dev) (n : Nat) : Nat := if d.hget H.txStartCycle n = d.clock.core + 1 then d.hget H.txStartRaised n else 0

/-- An underrun raises TX_START by 1, up to 32 (R290); the larger of it and a write of the same cycle stays (R291). -/
def Dev.raiseStart (d : Dev) (n : Nat) : Dev :=
  let r := min 32 (max (d.startBefore n) (d.startRaised n) + 1)
  d.setStart n (max r (d.startWritten n)) r (d.startWritten n)

/-- Software writes TX_START: 1 to 32; the larger of it and a raise of the same cycle stays (R291). -/
def Dev.writeStart (d : Dev) (n w : Nat) : Dev :=
  let v := min 32 (max 1 (bits w 0 6))
  d.setStart n (max v (d.startRaised n)) (d.startRaised n) v

/-- A frame that has started runs out of bytes (R290).  `fifo` bytes of it were sent. -/
def Dev.underrun (d : Dev) (n : Nat) (x : TxIn) : Dev :=
  let d := d.macAdvance n
  if !d.instSends n || d.hget H.pauseTimer n > 0 || x.length > d.maxFrame n || !d.mayStart n x || x.fifo ≥ x.length ||
      d.pnSpent n then d
  else
    let st := max d.now10 (d.hget H.macBusy n)
    let d := (d.bump C.ETH_TX_FRAMES_IN n).bump C.ETH_TX_UNDERRUN n
    let d := d.hset H.macBusy n (st + d.byteTime n (8 + max 60 x.fifo + 4))
    let d := match x.event with
      | some (seq, typ) => d.captureTx n seq typ ((d.now10 : Int) - (st + d.byteTime n 8))
      | none => d
    let d := if d.macsecOn n then d.nextPn (n - 32) else d
    let d := d.raiseStart n
    d.raise (macEvent n) [if n < 32 then 2 else 4, d.get F.ETH_TX_START_STEPS n]

/-- An accepted PAUSE of `q` quanta (R285–R287). -/
def Dev.pauseFrame (d : Dev) (n q : Nat) : Dev :=
  let d := ((d.macAdvance n).bump C.ETH_PAUSE_FRAMES n).bump C.ETH_PAUSE_QUANTA_RX n q
  if d.ignoresPause n then d.bump C.ETH_PAUSE_QUANTA_IGNORED n q
  else
    let waiting := d.hget H.pauseFrom n > d.now10
    let at' := if d.hget H.pauseTimer n > 0 && !waiting then d.now10 else max d.now10 (d.hget H.macBusy n)
    let d := d.pauseCancel n
    if q = 0 then d.macAdvance n else (d.hset H.pauseTimer n q).hset H.pauseFrom n at'

/-- The next quantum of the pause timer ends (R285). -/
def Dev.quantumEnds (d : Dev) (n : Nat) : Dev :=
  let d := d.macAdvance n
  if d.hget H.pauseTimer n = 0 then d
  else (d.passToCore ((d.hget H.pauseFrom n + d.quantum n + 99) / 100)).macAdvance n

/-- The packets of a transmit leg that wait in its pacer (R322). -/
def Dev.ipmQueued (d : Dev) (leg : Nat) : Nat :=
  (d.mac.map fun q => (q.frames.filter fun f => match f.kind with
    | .flow l _ _ _ => l == leg
    | _ => false).length).sum

/-- The first `n` packets of a leg leave a queue unsent. -/
def takePackets (leg : Nat) : Nat → List TxFrame → List TxFrame
  | _, [] => []
  | 0, fs => fs
  | n + 1, f :: fs => match f.kind with
    | .flow l _ _ _ => if l = leg then takePackets leg n fs else f :: takePackets leg (n + 1) fs
    | _ => f :: takePackets leg (n + 1) fs

/-- The oldest `n` packets of a transmit leg are dropped with their sequence numbers consumed (R317). -/
def Dev.dropPackets (d : Dev) (leg n : Nat) : Dev :=
  let inst := d.get F.IPM_TX_LEG_CTRL_INST leg
  let k := min n (d.ipmQueued leg)
  (d.setFrames inst (takePackets leg n (d.macFrames inst))).bump C.IPM_TX_LEG_DROP leg k

/-! ### Links (R276, R277) -/

/-- The transmit legs of enabled contexts that leave through an instance (R300). -/
def Dev.legsOf (d : Dev) (n : Nat) : List Nat :=
  (d.insts F.IPM_TX_LEG_CTRL_LEG_EN).filter fun k =>
    d.get F.IPM_TX_CFG_EN (k / 2) == 1 && d.get F.IPM_TX_LEG_CTRL_LEG_EN k == 1 && d.get F.IPM_TX_LEG_CTRL_INST k == n

/-- The transmit legs of an instance follow its link (R307, R317). -/
def Dev.txLegs (d : Dev) (n : Nat) (up : Bool) : Dev :=
  d.each (d.legsOf n) fun d k => d.raise 673 [1, k / 2, k % 2, ofBool up]

/-- Every queued frame is dropped, and a pause ends (R286, R299). -/
def Dev.dropQueue (d : Dev) (n : Nat) : Dev :=
  let d := d.macAdvance n
  let fs := d.macFrames n
  (d.each fs fun d f => d.frameLost n C.ETH_TX_LINK_DROP f).setFrames n [] |>.pauseCancel n

/-- A media instance's link goes down (R276). -/
def Dev.mediaDown (d : Dev) (m lane : Nat) : Dev :=
  if d.get F.ETH_MAC_STATUS_LINK m == 0 then d
  else
    let d := (d.dropQueue m).set F.ETH_MAC_STATUS_LINK m 0
    (d.raise (608 + m) [1, lane]).txLegs m false

/-- A lane of a media port loses or gains its locks. -/
def Dev.setLane (d : Dev) (p lane : Nat) (on : Bool) : Dev :=
  let v := d.get F.ETH_PORT_STATUS_LANE_LOCK p
  d.set F.ETH_PORT_STATUS_LANE_LOCK p (if on then v ||| 2 ^ lane else v &&& (255 ^^^ 2 ^ lane))

/-- A media instance's link comes up; `lane` held its locks last (R276). -/
def Dev.mediaUp (d : Dev) (m lane : Nat) : Dev :=
  let p := m / 4
  let mode := d.get F.ETH_PORT_CFG_MODE p
  if !d.instValid m || d.get F.ETH_PORT_CFG_ENABLE p == 0 || d.get F.ETH_MAC_STATUS_LINK m == 1 then d
  else
    let d := d.each (lanesOf mode (m % 4)) fun d j => d.setLane p j true
    ((d.set F.ETH_MAC_STATUS_LINK m 1).raise (608 + m) [0, lane]).txLegs m true

/-- Port P1 or P2 is lost in the sense of R119: its leases end. -/
def Dev.mgtLost (d : Dev) (i : Nat) : Dev := d.endPortLeases (1 + i) 2

/-- A management port's link goes down, other than by a downshift or an upshift (R276, R294): bursts in progress of the
management command engine are completed (R86). -/
def Dev.mgtDown (d : Dev) (i : Nat) (bursts : List Nat) : Dev :=
  if d.get F.MGT_STATUS_LINK i == 0 then d
  else
    let d := (d.onBehalf 3 bursts).dropQueue (32 + i)
    let d := ((d.set F.MGT_STATUS_LINK i 0).set F.MGT_STATUS_SPEED i 0).set F.MGT_STATUS_DOWNSHIFTED i 0
    ((d.hset H.macIdle i 0).raise (648 + i) [1, 0]).mgtLost i

/-- The link has not come up 2 s after a downshift or an upshift (R295). -/
def Dev.renegFails (d : Dev) (i : Nat) : Dev :=
  if d.get F.MGT_STATUS_RENEG i == 0 then d
  else
    let d := (d.passToCore (d.hget H.macReneg i + 2 * 10 ^ 9)).dropQueue (32 + i)
    (((d.set F.MGT_STATUS_RENEG i 0).set F.MGT_STATUS_DOWNSHIFTED i 0).raise (648 + i) [1, 0]).mgtLost i

/-- A management port's link comes up (R292, R295); 2 s after a restart of negotiation the port was lost. -/
def Dev.mgtUp (d : Dev) (i : Nat) (x : MgtLink) : Dev :=
  let d := if d.get F.MGT_STATUS_RENEG i == 1 && d.clock.core ≥ d.hget H.macReneg i + 2 * 10 ^ 9 then d.renegFails i else d
  if d.get F.MGT_CFG_EN i == 0 || d.get F.MGT_STATUS_LINK i == 1 || (x.kr && d.get F.MGT_STATUS_DOWNSHIFTED i == 1) then d
  else
    let speed := if x.kr then 2 else 1
    let d := (((d.set F.MGT_STATUS_LINK i 1).set F.MGT_STATUS_SPEED i speed).set F.MGT_STATUS_FEC74 i (ofBool (x.kr && x.fec74))).set
      F.MGT_STATUS_PEER_KX i (ofBool x.peerKx)
    let d := ((d.set F.MGT_STATUS_RENEG i 0).hset H.macIdle i 0).hset H.macBusy (32 + i) d.now10
    (d.raise (648 + i) [0, speed]).macAdvance (32 + i)

/-- Every lane of an instance has held its locks for `held` ms, `lane` being the last to gain them: before HOLD_MS the locks alone
show, from then on the link is up (R276, R292). -/
def Dev.linkUp (d : Dev) (n lane held : Nat) (x : MgtLink) : Dev :=
  if held < d.get F.ETH_LINK_HOLD_HOLD_MS 0 then
    if n < 32 && d.instValid n then d.each (lanesOf (d.get F.ETH_PORT_CFG_MODE (n / 4)) (n % 4)) fun d j => d.setLane (n / 4) j true else d
  else if n < 32 then d.mediaUp n lane
  else d.mgtUp (n - 32) x

/-- A lane of an instance loses a lock, or a management port its link (R276). -/
def Dev.linkDown (d : Dev) (n lane : Nat) (bursts : List Nat) : Dev :=
  if n < 32 then
    if (lanesOf (d.get F.ETH_PORT_CFG_MODE (n / 4)) (n % 4)).contains lane then (d.setLane (n / 4) lane false).mediaDown n lane else d
  else d.mgtDown (n - 32) bursts

/-- Group ETH's shadow copies took effect at T0: a change of MODE, or a port that is disabled, takes its links down, what the old mode had under way being settled at its rate (R277). -/
def Dev.ethApplied (d : Dev) (old : Dev) : Dev := d.each (List.range 8) fun d p =>
  let mode := d.get F.ETH_PORT_CFG_MODE p
  let changed := old.get F.ETH_PORT_CFG_MODE p != mode
  let off := d.get F.ETH_PORT_CFG_ENABLE p == 0
  let d := d.set F.ETH_PORT_CFG_MODE p (old.get F.ETH_PORT_CFG_MODE p)
  let d := if changed || off then d.each (List.range 4) fun d k => (d.mediaDown (4 * p + k) 0).pauseCancel (4 * p + k) else d
  let d := d.set F.ETH_PORT_CFG_MODE p mode
  if changed then d.raise 640 [p, mode] else d

/-! ### Writes (R279, R286, R291, R297) -/

/-- MAX_FRAME as it is stored. -/
def storedMaxFrame (w : Nat) : Nat := min 9216 (max 1518 (bits w 16 14))

/-- IGNORE_PAUSE at 1 ends a pause at once (R286). -/
def Dev.pauseRule (d : Dev) (n : Nat) : Dev := if d.ignoresPause n then (d.pauseCancel n).macAdvance n else d

/-- MAX_FRAME is about to change: the value so far is kept, with the time of the change, for the frame whose SFD has been received
(R279). -/
def Dev.keepMaxFrame (d : Dev) (n w : Nat) : Dev :=
  if storedMaxFrame w = d.maxFrame n then d else (d.hset H.maxFrameWas n (d.maxFrame n)).hset H.maxFrameAt n (d.now10 + 1)

/-- A write of ETH_MAC_CFG⟨m⟩. -/
def Dev.writeMacCfg (d : Dev) (m w : Nat) : Dev :=
  let d := ((d.macAdvance m).keepMaxFrame m w).set F.ETH_MAC_CFG_MAX_FRAME m (storedMaxFrame w)
  (((d.set F.ETH_MAC_CFG_UNTAGGED_EN m (bits w 2 1)).set F.ETH_MAC_CFG_BCAST_EN m (bits w 1 1)).set
    F.ETH_MAC_CFG_IGNORE_PAUSE m (bits w 0 1)).pauseRule m

/-- A write of MGT_CFG⟨i⟩; EN is kept while the keys are not valid (R298). -/
def Dev.writeMgtCfg (d : Dev) (i w : Nat) : Dev :=
  let d := ((d.macAdvance (32 + i)).keepMaxFrame (32 + i) w).set F.MGT_CFG_MAX_FRAME i (storedMaxFrame w)
  let d := ((d.set F.MGT_CFG_DOWNSHIFT_EN i (bits w 3 1)).set F.MGT_CFG_BCAST_EN i (bits w 2 1)).set F.MGT_CFG_IGNORE_PAUSE i (bits w 1 1)
  let d := if d.get F.TOP_STATUS_KEYS_VALID == 1 then d.set F.MGT_CFG_EN i (bits w 0 1) else d
  let d := if d.get F.MGT_CFG_EN i == 0 then d.mgtDown i [] else d
  d.pauseRule (32 + i)

/-- A write of ETH_TX_START⟨m⟩ (R291). -/
def Dev.writeTxStart (d : Dev) (m w : Nat) : Dev := d.writeStart m w

/-- The key that MGT_SAK_DATA⟨i⟩ holds. -/
def Dev.sakData (d : Dev) (i : Nat) : Nat := (List.range 8).foldl (fun v w => v * 2 ^ 32 + d.get F.MGT_SAK_DATA_KEY (8 * i + w)) 0

/-- A key is installed as an SA (R297). -/
def Dev.installSa (d : Dev) (i an key : Nat) (rx : Bool) : Dev :=
  if rx then ((d.hset H.macRxSa (4 * i + an) 1).hset H.macRxKey (4 * i + an) key).hset H.macRxPn (4 * i + an) 1
  else (((d.macAdvance (32 + i)).hset H.macTxSa i (an + 1)).hset H.macTxKey i key).set F.MGT_TX_PN_PN i 1

/-- A write of MGT_SA_CTRL⟨i⟩. -/
def Dev.writeSaCtrl (d : Dev) (i w : Nat) : Dev :=
  let d := (d.set F.MGT_SA_CTRL_DIR i (bits w 8 1)).set F.MGT_SA_CTRL_AN i (bits w 0 2)
  if bit w 31 then d.installSa i (bits w 0 2) (d.sakData i) (bit w 8) else d

/-- The effect of a write at an ETH register's base offset, for instance `i` of the register; none where it acts by its access
types. -/
def Dev.ethWrite (d : Dev) (base i w : Nat) : Option Dev :=
  match base with
  | 0x1A00000 =>
    some (if bits w 1 2 = 3 then d else (d.load F.ETH_PORT_CFG_MODE i (bits w 1 2)).load F.ETH_PORT_CFG_ENABLE i (bits w 0 1))
  | 0x1A20000 => some (d.set F.ETH_LINK_HOLD_HOLD_MS 0 (max 1 (bits w 0 16)))
  | 0x1A10000 => some (d.writeMacCfg i w)
  | 0x1A10010 => some (d.writeTxStart i w)
  | 0x1B00000 => some (d.writeMgtCfg i w)
  | 0x1B00018 => some (d.set F.MGT_SHIFT_CFG_UPSHIFT_KB i (max 1 (bits w 0 16)))
  | 0x1B00060 => some (d.writeSaCtrl i w)
  | _ => none

/-- ETH_MAC_STATUS⟨m⟩, MGT_STATUS⟨i⟩ and ETH_PORT_STATUS⟨p⟩: the computed parts. -/
def Dev.macStatusView (d : Dev) (m : Nat) : Nat :=
  2 ^ 8 * d.get F.ETH_TX_START_STEPS m + 2 ^ 2 * ofBool (d.hget H.pauseTimer m > 0) + ofBool (d.instValid m)

def Dev.mgtStatusView (d : Dev) (i : Nat) : Nat := 2 ^ 3 * ofBool (d.hget H.pauseTimer (32 + i) > 0)

/-! ### The speeds of a management port (R293–R295) -/

/-- The port restarts auto-negotiation; its frames wait. -/
def Dev.renegotiate (d : Dev) (i kind : Nat) (down : Bool) : Dev :=
  let speed := d.get F.MGT_STATUS_SPEED i
  let d := (((d.set F.MGT_STATUS_DOWNSHIFTED i (ofBool down)).set F.MGT_STATUS_RENEG i 1).set F.MGT_STATUS_LINK i 0).set
    F.MGT_STATUS_SPEED i 0
  (((d.pauseCancel (32 + i)).hset H.macReneg i d.clock.core).hset H.macIdle i 0).raise (648 + i) [kind, speed]

/-- A utilisation window ends, with the bits sent and received in it (R293). -/
def Dev.utilisation (d : Dev) (i sent received : Nat) : Dev :=
  let d := (d.passToCore ((d.clock.core / 10 ^ 9 + 1) * 10 ^ 9)).macAdvance (32 + i)
  if d.get F.MGT_STATUS_SPEED i != 2 then d.hset H.macIdle i 0
  else
    let run := if 20 * max sent received < 10 ^ 10 then min 60 (d.hget H.macIdle i + 1) else 0
    let d := d.hset H.macIdle i run
    if run = 60 && d.get F.MGT_CFG_DOWNSHIFT_EN i == 1 && d.get F.MGT_STATUS_PEER_KX i == 1 then d.renegotiate i 2 true else d

/-- The transmit queue of a downshifted port holds more than UPSHIFT_KB kilobytes (R294). -/
def Dev.upshift (d : Dev) (i : Nat) : Dev :=
  let d := d.macAdvance (32 + i)
  let held := ((d.macFrames (32 + i)).map TxFrame.length).sum
  if d.get F.MGT_STATUS_DOWNSHIFTED i == 1 && d.get F.MGT_STATUS_RENEG i == 0 && held > 1024 * d.get F.MGT_SHIFT_CFG_UPSHIFT_KB i then
    d.renegotiate i 3 false
  else d

/-! ### The rows -/

/-- The configuration register of an instance that holds IGNORE_PAUSE. -/
def macCfgOff (n : Nat) : Nat := if n < 32 then 0x1A10000 + 0x400 * n else 0x1B00000 + 0x1000 * (n - 32)

def execPauseQuantumEnd (inst : Fin 34) (s : State) : Host.Outcome State Fault Refusal := lift (·.quantumEnds inst) s
def execMacFrameTx (inst : Fin 34) (x : TxIn) (s : State) : Host.Outcome State Fault Refusal := lift (·.macFrameTx inst x) s
def execTransmitUnderrun (inst : Fin 34) (x : TxIn) (s : State) : Host.Outcome State Fault Refusal := lift (·.underrun inst x) s
def execLinkUp (inst : Fin 34) (lane : Fin 8) (x : LinkIn) (s : State) : Host.Outcome State Fault Refusal :=
  lift (·.linkUp inst lane x.held x.mgt) s
def execLinkDown (inst : Fin 34) (lane : Fin 8) (bursts : List Nat) (s : State) : Host.Outcome State Fault Refusal :=
  lift (·.linkDown inst lane bursts) s
def execIgnorePauseWrite (m : Fin 8) (inst : Fin 34) (v : Word) (s : State) : Host.Outcome State Fault Refusal :=
  lift (fun d => d.busWrite m (macCfgOff inst) v.toNat fun d =>
    if inst.val < 32 then d.writeMacCfg inst v.toNat else d.writeMgtCfg (inst.val - 32) v.toNat) s
def execTxStartWrite (m : Fin 8) (inst : Fin 32) (v : Word) (s : State) : Host.Outcome State Fault Refusal :=
  lift (fun d => d.busWrite m (0x1A10010 + 0x400 * inst) v.toNat (·.writeTxStart inst v.toNat)) s
def execUtilisationWindow (port : Fin 2) (sent received : Nat) (s : State) : Host.Outcome State Fault Refusal :=
  lift (·.utilisation port sent received) s
def execUpshift (port : Fin 2) (s : State) : Host.Outcome State Fault Refusal := lift (·.upshift port) s
def execRenegTimeout (port : Fin 2) (s : State) : Host.Outcome State Fault Refusal := lift (·.renegFails port) s
def execSaInstall (m : Fin 8) (port : Fin 2) (v : Word) (s : State) : Host.Outcome State Fault Refusal :=
  lift (fun d => d.busWrite m (0x1B00060 + 0x1000 * port) v.toNat (·.writeSaCtrl port v.toNat)) s

end Sys2Proof.Machine
end

