-- ==== Sys2Proof/Machine/Ipm.lean ====
section
/-! DEFINITION. ST 2110 flows and seamless protection (R300–R322): flow matching, validation and the red and blue merge,
playout, transmit scheduling, IGMPv3 and the hash bins, and the flow commands. -/

namespace Sys2Proof.Machine

/-! ### Receive contexts (R303–R307) -/

/-- The context forgets all it received. -/
def Dev.dropRx (d : Dev) (r : Nat) : Dev := { d with ipm := { d.ipm with rx := d.ipm.rx.filter fun c => c.id != r } }

/-- The bits of a context's sequence numbers: extended for video (R306). -/
def seqBits (essence : Nat) : Nat := if essence = 0 then 32 else 16

/-- `a` is before `b` by serial-number arithmetic. -/
def serialLt (w a b : Nat) : Bool := !serialGe w a b

/-- The receive leg (2 × context + leg) that takes a datagram of an instance (R303): one with its specific source first. -/
def Dev.matchLeg (d : Dev) (inst : Nat) (x : RtpIn) : Option Nat :=
  let legs := (d.insts F.IPM_RX_LEG_CTRL_LEG_EN).filter fun k =>
    d.get F.IPM_RX_LEG_CTRL_LEG_EN k == 1 && d.get F.IPM_RX_CFG_EN (k / 2) == 1 && d.get F.IPM_RX_LEG_CTRL_INST k == inst &&
      d.get F.IPM_RX_LEG_DST_DST_IP k == x.dstIp && d.get F.IPM_RX_LEG_CTRL_UDP_PORT k == x.dstPort
  (legs.find? fun k => d.get F.IPM_RX_LEG_SRC_SRC_IP k == x.srcIp).orElse fun _ => legs.find? fun k => d.get F.IPM_RX_LEG_SRC_SRC_IP k == 0

/-- The RTP clock rate of an essence (R305). -/
def rtpClock (essence : Nat) : Nat := if essence = 1 || essence = 2 then 48000 else 90000

/-- The count of an RTP clock at a TIME in 2⁻¹⁶ ns, not wrapped. -/
def rtpCount (c time16 : Nat) : Nat := time16 * c / (65536 * 10 ^ 9)

/-- The distance of a timestamp from the count at arrival, as a signed 32-bit number (R305). -/
def rtpDistance (c ts time16 : Nat) : Int := toSigned 32 ((ts + 2 ^ 32 - rtpCount c time16 % 2 ^ 32) % 2 ^ 32)

/-- The timestamp is in range: from 1 s in the past to 0.1 s ahead (R305). -/
def rtpInRange (c ts time16 : Nat) : Bool :=
  let x := rtpDistance c ts time16
  x ≤ (c / 10 : Nat) && -(c : Int) ≤ x

/-- T(ts), in 2⁻¹⁶ ns: the first instant at which the unwrapped count equals that of the timestamp (R305). -/
def rtpInstant (c ts time16 : Nat) : Nat :=
  let n := ((rtpCount c time16 : Int) + rtpDistance c ts time16).toNat
  (n * (65536 * 10 ^ 9) + c - 1) / c

/-- T_a: the house frame tick that lies within one unit of the timestamp after T(ts), else T(ts) (R305). -/
def alignPoint (rate c t16 : Nat) : Nat :=
  let f := (t16 * rateN rate + 65536 * (rateD rate * 10 ^ 9) - 1) / (65536 * (rateD rate * 10 ^ 9))
  let tick := 65536 * frameStart rate f
  if t16 ≤ tick && tick < t16 + 65536 * 10 ^ 9 / c then tick else t16

/-- The first check of R304 that a packet of a leg fails, by its cause. -/
def Dev.invalidCause (d : Dev) (r : Nat) (x : RtpIn) : Option Nat :=
  if !x.udpOk then some 6
  else if x.version != 2 then some 1
  else if x.pt != d.get F.IPM_RX_CFG_PT r then some 2
  else if d.get F.IPM_RX_CFG_SSRC_EN r == 1 && x.ssrc != d.get F.IPM_RX_SSRC_SSRC r then some 3
  else if !d.structureOk r x then some 4
  else if !rtpInRange (rtpClock (d.get F.IPM_RX_CFG_ESSENCE r)) x.ts d.clock.time16 then some 5
  else none

/-- RED_UP or BLUE_UP of a context. -/
def legUp (leg : Nat) : Fld := if leg = 0 then F.IPM_RX_STATUS_RED_UP else F.IPM_RX_STATUS_BLUE_UP

/-- A receive leg goes up or down, and is raised (R307). -/
def Dev.setLeg (d : Dev) (r leg : Nat) (up : Bool) : Dev :=
  if (d.get (legUp leg) r == 1) == up then d else (d.set (legUp leg) r (ofBool up)).raise 673 [0, r, leg, ofBool up]

/-- The CORE second, counted from 1. -/
def Dev.second1 (d : Dev) : Nat := d.clock.core / 10 ^ 9 + 1

/-- An invalid packet (R304). -/
def Dev.packetInvalid (d : Dev) (r leg cause : Nat) : Dev :=
  let d := (d.bump C.IPM_RX_LEG_INVALID (2 * r + leg)).set F.IPM_RX_STATUS_LAST_INVALID r cause
  let c := d.rx r
  if c.invalidSecond = d.second1 then d else (d.setRx { c with invalidSecond := d.second1 }).raise 675 [r, leg, cause]

/-- The first copies that are remembered: for MERGE_US after each arrived (R306). -/
def Dev.remembered (d : Dev) (c : RxCtx) : List RtpSeen :=
  c.seen.filter fun k => d.clock.core ≤ k.at_ + 1000 * d.get F.IPM_RX_TIMING_MERGE_US c.id

/-- Playout of a packet's content has begun: for audio by its instant, else by the packets that line playout has passed (R306,
R308, R311). -/
def Dev.playoutBegun (d : Dev) (c : RxCtx) (x : RtpIn) : Bool :=
  let e := d.get F.IPM_RX_CFG_ESSENCE c.id
  if e == 1 || e == 2 then
    rtpInstant 48000 x.ts d.clock.time16 + 65536000 * d.get F.IPM_RX_TIMING_PLAYOUT_US c.id ≤ d.clock.time16
  else
    match c.played with
    | some p => serialGe (seqBits e) p x.seq
    | none => false

/-- The packet is of the second field of its frame. -/
def inSecond (x : RtpIn) : Bool := x.body.srds.any Srd.second

/-- The stamp under which a packet's content is stored: for audio its timestamp, else T_a of its frame (R305, R308). -/
def Dev.stampOf (d : Dev) (r : Nat) (x : RtpIn) : Nat :=
  let e := d.get F.IPM_RX_CFG_ESSENCE r
  if e == 1 || e == 2 then x.ts
  else
    let ta := alignPoint d.rate 90000 (rtpInstant 90000 x.ts d.clock.time16)
    if inSecond x then (d.rx r).frame.getD ta else ta

/-- The classes of R306. -/
inductive MergeClass
  | duplicate | late | overflow | used
  deriving DecidableEq, Repr

/-- The class of a valid packet, the first that holds (R306). -/
def Dev.mergeClass (d : Dev) (c : RxCtx) (x : RtpIn) : MergeClass :=
  let w := seqBits (d.get F.IPM_RX_CFG_ESSENCE c.id)
  let known := d.remembered c
  if known.any fun k => k.q == x.seq then .duplicate
  else if d.playoutBegun c x || (known != [] && known.all fun k => serialLt w x.seq k.q) then .late
  else if !d.hasRoom c.id (d.stampOf c.id x) x then .overflow
  else .used

/-- The skew of the second in progress gains a pair of copies (R306, IPM_RX_STATUS): blue arrival minus red, in ns. -/
def Dev.countSkew (d : Dev) (c : RxCtx) (skew : Int) : RxCtx :=
  if c.second = d.second1 then { c with sum := c.sum + skew, count := c.count + 1 }
  else
    { c with
      mean := if c.second + 1 = d.second1 && c.count > 0 then some (c.sum / c.count) else none
      second := d.second1, sum := skew, count := 1 }

/-- SKEW_US: the mean of the last whole second, 0x8000 when nothing was measured in it. -/
def Dev.skewView (d : Dev) (r : Nat) : Nat :=
  let c := d.rx r
  let mean := if c.second = d.second1 then c.mean
    else if c.second + 1 = d.second1 && c.count > 0 then some (c.sum / c.count) else none
  match mean with
  | some ns => ofSigned 16 (ns / 1000)
  | none => 0x8000

/-- The frames of the Mere ring that a used packet of a video context starts and ends (R308): `S_k = T_a + PLAYOUT_US`. -/
def Dev.ringPacket (d : Dev) (r : Nat) (x : RtpIn) : Dev :=
  if d.get F.IPM_RX_CFG_ESSENCE r != 0 then d
  else
    let ta := alignPoint d.rate 90000 (rtpInstant 90000 x.ts d.clock.time16)
    let slots := d.ringSlots r
    let c := d.rx r
    let d := if inSecond x || c.frame = some ta then d
      else
        let d := if c.frame.isSome then d.each slots fun d s => d.ringEnd s else d
        (d.setRx { c with frame := some ta }).each slots fun d s =>
          let start := 65536 * d.clock.core + ta + 65536000 * d.get F.IPM_RX_TIMING_PLAYOUT_US r - d.clock.time16
          (d.ringStart s start ta).setOffset s (d.offsetAt s 1 (start / 65536))
    let whole := x.marker && (inSecond x || d.get F.IPM_RX_CFG_FORMAT r != 0x11)
    if whole && (d.rx r).frame.isSome then
      (d.setRx { d.rx r with frame := none }).each slots fun d s => d.ringEnd s
    else d

/-- A used packet: its content is stored, and the context receives (R306, R307). -/
def Dev.packetUsed (d : Dev) (r leg : Nat) (x : RtpIn) : Dev :=
  let c := d.rx r
  let v := d.videoOf r
  let stamp := d.stampOf r x
  let old := d.storedPackets r
  let (anc, unplaced) := placeAnc (d.get F.IPM_RX_CFG_FORMAT v) (d.get F.IPM_RX_CFG_RATE v)
    ((old.filter fun p => p.stamp == stamp).flatMap fun p => p.body.anc) x.body.anc
  let kept := d.get F.IPM_RX_CFG_ESSENCE r == 1 || d.get F.IPM_RX_CFG_ESSENCE r == 2 || d.fedSlots v != []
  let d := (d.bump C.IPM_RX_USED r).setRx { c with
    seen := ⟨x.seq, d.clock.core, leg⟩ :: d.remembered c
    stored := if kept then ⟨x.seq, stamp, { x.body with anc := anc }⟩ :: old else []
    used := d.clock.core }
  let d := if unplaced > 0 then d.bump C.IPM_RX_ANC_UNPLACED r unplaced else d
  let d := d.ringPacket r x
  let st := d.get F.IPM_RX_STATUS_STATE r
  if st = 2 then d
  else
    let d := d.set F.IPM_RX_STATUS_STATE r 2
    let d := if st = 3 then d.raise 672 [r, 0] else d
    d.contextChanged r

/-- A second copy, whose distance from the first is part of the skew when the other leg brought that one. -/
def Dev.packetDuplicate (d : Dev) (r leg : Nat) (x : RtpIn) : Dev :=
  let c := d.rx r
  let d := d.bump C.IPM_RX_DUPLICATE r
  match (d.remembered c).find? fun k => k.q == x.seq && k.leg != leg with
  | some k =>
    let gap : Int := (d.clock.core : Int) - k.at_
    d.setRx (d.countSkew c (if leg = 1 then gap else -gap))
  | none => d

/-- A late packet, the first of its context in each second raised (R306). -/
def Dev.packetLate (d : Dev) (r : Nat) (x : RtpIn) : Dev :=
  let d := d.bump C.IPM_RX_LATE r
  let c := d.rx r
  if c.lateSecond = d.second1 then d else (d.setRx { c with lateSecond := d.second1 }).raise 674 [r, x.seq]

/-- A packet that passed R304: its leg is up, and it is classified (R306, R307). -/
def Dev.packetValid (d : Dev) (r leg : Nat) (x : RtpIn) : Dev :=
  let c := d.rx r
  let d := (d.bump C.IPM_RX_LEG_VALID (2 * r + leg)).setRx { c with valid := c.valid.set leg d.clock.core }
  let d := d.setLeg r leg true
  match d.mergeClass (d.rx r) x with
  | .duplicate => d.packetDuplicate r leg x
  | .late => d.packetLate r x
  | .overflow => d.bump C.IPM_RX_OVERFLOW r
  | .used => d.packetUsed r leg x

/-- IP media flow matching takes a datagram of a media instance (R303, R304). -/
def Dev.flowDatagram (d : Dev) (inst : Nat) (x : RtpIn) : Dev :=
  let d := d.bump C.IPM_INST_OFFERED inst
  if !x.headerOk then d.bump C.IPM_INST_IP_BAD inst
  else
    match d.matchLeg inst x with
    | none => d.bump C.IPM_INST_UNMATCHED inst
    | some k =>
      let r := k / 2
      let d := (d.bump C.IPM_INST_MATCHED inst).bump C.IPM_RX_LEG_RX k
      let x := { x with seq := x.seq % 2 ^ seqBits (d.get F.IPM_RX_CFG_ESSENCE r), ts := x.ts % 2 ^ 32 }
      match d.invalidCause r x with
      | some cause => d.packetInvalid r (k % 2) cause
      | none => d.packetValid r (k % 2) x

/-- A receive leg has had no valid packet for LEG_MS (R307). -/
def Dev.legTimeout (d : Dev) (r leg : Nat) : Dev :=
  if d.get (legUp leg) r == 0 then d
  else (d.passToCore ((d.rx r).valid.getD leg 0 + 10 ^ 6 * d.get F.IPM_TIMEOUT_LEG_MS)).setLeg r leg false

/-- A receiving context has used no packet for LOSS_MS (R307). -/
def Dev.flowLoss (d : Dev) (r : Nat) : Dev :=
  if d.get F.IPM_RX_STATUS_STATE r != 2 then d
  else
    let d := d.passToCore ((d.rx r).used + 10 ^ 6 * d.get F.IPM_TIMEOUT_LOSS_MS)
    ((d.set F.IPM_RX_STATUS_STATE r 3).raise 672 [r, 1]).contextChanged r

/-! ### Playout (R306, R308–R311) -/

/-- Playout reaches packets of a context: those missing are counted once, and whether any was missing (R306, R309). -/
def Dev.playPackets (d : Dev) (r : Nat) (qs : List Nat) : Bool × Dev :=
  let w := seqBits (d.get F.IPM_RX_CFG_ESSENCE r)
  let c := d.rx r
  let fresh := qs.filter fun q => match c.played with
    | some p => serialLt w p q
    | none => true
  let has := fun q => c.stored.any fun p => p.q == q
  let missing := (fresh.filter fun q => !has q).length
  let last := fresh.foldl (fun p q => match p with
    | some p => some (if serialLt w p q then q else p)
    | none => some q) c.played
  let ring := d.ringSlots (d.videoOf r) != []
  let stored := match d.get F.IPM_RX_CFG_ESSENCE r, qs with
    | 0, q :: _ | 3, q :: _ => if ring then c.stored else c.stored.filter fun p => serialGe w p.q q
    | _, _ => c.stored
  (qs.any fun q => !has q, (d.bump C.IPM_RX_SEQ_MISSING r missing).setRx { c with played := last, stored := stored })

/-- The content of some stored packets. -/
def RxCtx.bodies (c : RxCtx) (qs : List Nat) : List RtpBody := (c.stored.filter fun p => qs.contains p.q).map RxPacket.body

/-- Line `n` of member `m` as the context rebuilds it for a slot from the packets that carry it (R308, R310). -/
def Dev.rebuilt (d : Dev) (r s m n : Nat) (qs anc : List Nat) : LineWords :=
  let packets := ((d.ancOf r).map fun k => ((d.rx k).bodies anc).flatMap RtpBody.anc).getD []
  ⟨if m = 0 then (packets.filter fun p => p.1 == n).map Prod.snd else [],
    activeFrom (d.get F.IPM_RX_CFG_FORMAT r) (sourceGang d.inEffect s) m n (((d.rx r).bodies qs).flatMap RtpBody.srds)⟩

/-- When playout of line `n` of a context begins, in 2⁻¹⁶ ns of TIME, and T_a of its frame (R308): by the stored packets that carry the
line, else in the frame of the line before it, or the next. -/
def Dev.lineTa (d : Dev) (r n : Nat) (qs : List Nat) : Nat :=
  let c := d.rx r
  let rate := d.get F.IPM_RX_CFG_RATE r
  match c.stored.find? fun p => qs.contains p.q with
  | some p => p.stamp
  | none => if n ≤ c.line then c.lineTa + 65536 * (rateD rate * 10 ^ 9) / rateN rate else c.lineTa

/-- Line playout waits for the line: on the skim path for `S_k + (n − 1) × line period`; where the packets are stored in Mere, for the
readout of the house frame to reach it (R308). -/
def Dev.awaitLine (d : Dev) (r n ta : Nat) : Dev :=
  let rate := d.get F.IPM_RX_CFG_RATE r
  let lines := fun (unit : Nat) => (n - 1) * (unit * (rateD rate * 10 ^ 9)) / (rateN rate * frameLines (d.get F.IPM_RX_CFG_FORMAT r))
  if d.ringSlots r = [] then d.passTo (ta + 65536000 * d.get F.IPM_RX_TIMING_PLAYOUT_US r + lines 65536)
  else d.passToCore (d.houseStart rate + lines 1)

/-- Playout of a line begins (R308–R310), of a member of a gang: `qs` are the video packets that carry it and `anc` the ANC packets placed
on it; a line of which a packet is missing is damaged; ingest takes it, with the generated TRS and line number, at every slot that the
context feeds. -/
def Dev.linePlayout (d : Dev) (r : Nat) (qs anc : List Nat) (l : PlayIn) : Dev :=
  if d.get F.IPM_RX_CFG_EN r == 0 || d.get F.IPM_RX_CFG_ESSENCE r != 0 then d
  else
    let words := fun s => d.rebuilt r s l.member l.number qs anc
    let ta := d.lineTa r l.number qs
    let d := (d.awaitLine r l.number ta).setRx { d.rx r with lineTa := ta, line := l.number }
    let (lost, d) := d.playPackets r qs
    let (lost', d) := match d.ancOf r with
      | some k => d.playPackets k anc
      | none => (false, d)
    let slots := (d.fedSlots r).filter fun s => l.member < sourceGang d.inEffect s
    d.each slots fun d s =>
      d.ingestLine (s + l.member) ⟨0, true, l.number, 0, false, l.damaged || lost || lost', words s, l.witness⟩

/-- Playout reaches the packets of an audio or AES3 context in a block (R311). -/
def Dev.audioPlayout (d : Dev) (r : Nat) (qs : List Nat) : Dev :=
  let e := d.get F.IPM_RX_CFG_ESSENCE r
  if d.get F.IPM_RX_CFG_EN r == 1 && (e == 1 || e == 2) then (d.playPackets r qs).2 else d

/-! ### Transmit (R313–R317) -/

/-- What an IP raster counts (R300, R315): half line periods from T_a to TRO for the frame or first field and for the second
field, active lines, lines, and the active bytes of the frame or field. -/
structure IpRaster where
  tro : Nat
  tro2 : Nat
  active : Nat
  lines : Nat
  bytes : Nat
  deriving DecidableEq, Repr

/-- The rasters that a video context carries; a 2160p one by the 1,125 lines of a member (log entry 60). -/
def ipRaster (fmt : Nat) : Option IpRaster :=
  match fmt with
  | 0x10 => some ⟨54, 54, 720, 750, 2304000⟩
  | 0x11 => some ⟨44, 45, 540, 1125, 2592000⟩
  | 0x12 | 0x20 | 0x21 => some ⟨86, 86, 1080, 1125, 5184000⟩
  | 0x22 => some ⟨86, 86, 1080, 1125, 9331200⟩
  | 0x30 | 0x40 => some ⟨86, 86, 1080, 1125, 20736000⟩
  | _ => none

/-- NP: packets of 1,260 bytes of pgroups in a frame or field (R313, R315). -/
def IpRaster.packets (g : IpRaster) : Nat := (g.bytes + 1259) / 1260

/-- TRS in 2⁻¹⁶ ns, `k` times over (R315): for TYPE NL the frame or field period divided by NP, else the active-line duration. -/
def spacing (g : IpRaster) (type rate fields k : Nat) : Nat :=
  let p := 65536 * (rateD rate * 10 ^ 9)
  if type = 1 then k * p / (rateN rate * fields * g.packets) else k * g.active * p / (rateN rate * g.lines * g.packets)

/-- Fields of a frame: two for 1080i. -/
def fieldsOf (fmt : Nat) : Nat := if fmt = 0x11 then 2 else 1

/-- T_a of a frame or of its second field, in 2⁻¹⁶ ns (R314). -/
def alignOf (house rate frame : Nat) (second : Bool) : Nat :=
  65536 * frameStart house frame + if second then 65536 * (rateD rate * 10 ^ 9) / (2 * rateN rate) else 0

/-- When a packet of a context is scheduled, what lateness it may have, and its RTP timestamp (R314–R316). -/
def Dev.schedule (d : Dev) (x : Nat) (p : PktIn) : Option (Nat × Nat × Nat) :=
  let e := d.get F.IPM_TX_CFG_ESSENCE x
  let dest := d.get F.IPM_TX_CFG_DEST x
  let fmt := d.get F.XPT_DEST_STATUS_FORMAT dest
  let rate := d.get F.XPT_DEST_STATUS_RATE dest
  let ta := alignOf d.rate rate p.frame p.second
  let ts := rtpCount 90000 ta % 2 ^ 32
  let lost := d.hget H.destLost dest == 1 && d.get F.XPT_DEST_CFG_LOSS_POLICY dest == 2
  if e = 1 || e = 2 then
    let n := if d.get F.IPM_TX_CFG_PTIME x = 0 then 48 else 6
    some ((p.sample + n) * (65536 * 10 ^ 9) / 48000, 6553600000, p.sample % 2 ^ 32)
  else if d.get F.XPT_DEST_CFG_ENABLE dest == 0 || lost then none
  else
    match ipRaster fmt with
    | none => none
    | some g =>
      let line := 65536 * (rateD rate * 10 ^ 9) / (rateN rate * g.lines)
      if e = 3 then if (ancChunks (d.stagedAnc dest p.second)).length ≤ p.index then none else some (ta + 65536 * (rateD rate * 10 ^ 9) / (rateN rate * fieldsOf fmt) + 2 * line, 6553600000, ts)
      else if d.get F.MERE_STATUS_IN_SERVICE == 0 || g.packets ≤ p.index then none
      else
        let type := d.get F.IPM_TX_CFG_TYPE x
        let tro := (if p.second then g.tro2 else g.tro) * (65536 * (rateD rate * 10 ^ 9)) / (2 * rateN rate * g.lines)
        some (ta + tro + spacing g type rate (fieldsOf fmt) p.index, spacing g type rate (fieldsOf fmt) (if type = 2 then 16 else 4), ts)

/-- The staging of a video context in bytes (R317). -/
def Dev.stagingBytes (d : Dev) (x : Nat) : Nat := 1048576 * stagingOf d.inEffect x

/-- The group MAC address of an IPv4 group (RFC 1112). -/
def groupMac (ip : Nat) : Nat := 0x01005E000000 + ip % 2 ^ 23

/-- The content of a packet of a transmit context (R313), and whether the marker bit is set on it: the last of its frame or field. -/
def Dev.txBody (d : Dev) (x : Nat) (p : PktIn) : RtpBody × Bool :=
  let e := d.get F.IPM_TX_CFG_ESSENCE x
  let dest := d.get F.IPM_TX_CFG_DEST x
  let fmt := d.get F.XPT_DEST_STATUS_FORMAT dest
  let g := rtpRaster fmt
  if e = 0 then
    let size := g.rowBytes * g.rows
    let row := d.stagedRow dest
    let rows := fun y => row (if interlaced fmt then 2 * y + ofBool p.second else y)
    let hi := min size (1260 * (p.index + 1))
    (⟨srdsOf g p.second rows (1260 * p.index) hi, [], []⟩, hi == size)
  else if e = 3 then
    let cs := ancChunks (d.stagedAnc dest p.second)
    (⟨[], cs.getD p.index [], []⟩, p.index + 1 == cs.length)
  else
    let base := d.get F.IPM_TX_AUD_CHAN_BASE x
    let n := d.get F.IPM_TX_AUD_CHANNELS x
    (⟨[], [], (List.range (samplesPer (d.get F.IPM_TX_CFG_PTIME x))).flatMap fun i => (List.range n).flatMap fun c =>
      let y := d.leaving (base + c) (p.sample + i)
      sampleOut e (d.get F.IPM_TX_CFG_SAMPLING x) (p.sample + i) c y.1 y.2⟩, false)

/-- The VLAN tag of what an instance sends: PCP and VID (R314). -/
def Dev.instVlan (d : Dev) (inst : Nat) : Option (Nat × Nat) :=
  if d.get F.IPM_INST_TX_VLAN_EN inst = 0 then none else some (d.get F.IPM_INST_TX_PCP inst, d.get F.IPM_INST_TX_VID inst)

/-- A packet as leg `leg` sends it (R314). -/
def Dev.txPacket (d : Dev) (leg seq ts : Nat) (body : RtpBody) (marker : Bool) : RtpOut :=
  let x := leg / 2
  let inst := d.get F.IPM_TX_LEG_CTRL_INST leg
  let e := d.get F.IPM_TX_CFG_ESSENCE x
  let dst := d.get F.IPM_TX_LEG_DST_DST_IP leg
  { seq := seq, ts := ts, marker := marker
    pt := d.get F.IPM_TX_CFG_PT x, ssrc := d.get F.IPM_TX_SSRC_SSRC x
    dstMac := groupMac dst, srcIp := d.get F.IPM_INST_IPV4_IPV4 inst, dstIp := dst
    srcPort := d.get F.IPM_TX_LEG_PORT_SRC_PORT leg, dstPort := d.get F.IPM_TX_LEG_PORT_DST_PORT leg
    vlan := d.instVlan inst
    dscp := if e = 0 then d.get F.IPM_INST_DSCP_DSCP_VID inst else if e = 3 then d.get F.IPM_INST_DSCP_DSCP_ANC inst
      else d.get F.IPM_INST_DSCP_DSCP_AUD inst
    body := body }

/-- The length of a packet's frame with FCS: Ethernet, VLAN tag, IPv4, UDP and RTP headers, and the payload with its own headers (log entry
338). -/
def rtpLength (p : RtpOut) : Nat :=
  58 + (if p.vlan = none then 0 else 4) + (if p.body.srds = [] then 0 else 2 + 6 * p.body.srds.length) +
    (p.body.srds.map fun x => x.data.length).sum + (if p.body.audio = [] ∧ p.body.srds = [] then 8 else 0) +
    (p.body.anc.map fun a => ancBytes a.2).sum + p.body.audio.length

/-- A leg gets a packet: queued at its pacer, or dropped while its link is down; a video leg that falls more than the staging
behind loses its oldest packet (R317). -/
def Dev.sendPacket (d : Dev) (leg due limit : Nat) (p : RtpOut) : Dev :=
  if d.get F.IPM_TX_LEG_CTRL_LEG_EN leg == 0 then d
  else
    let inst := d.get F.IPM_TX_LEG_CTRL_INST leg
    let d := (d.bump C.IPM_TX_LEG_MADE leg).offerFrame inst ⟨rtpLength p, d.now10, .flow leg due limit p⟩
    if d.get F.IPM_TX_CFG_ESSENCE (leg / 2) == 0 && d.ipmQueued leg * rtpLength p > d.stagingBytes (leg / 2) then d.dropPackets leg 1 else d

/-- A packet's scheduled time arrives (R315): both legs send the same packet, with the context's next sequence number. -/
def Dev.packetSchedule (d : Dev) (x : Nat) (p : PktIn) : Dev :=
  if d.get F.IPM_TX_CFG_EN x == 0 || !d.running then d
  else
    match d.schedule x p with
    | none => d
    | some (due, limit, ts) =>
      let d := d.passTo due
      let seq := d.hget H.ipmTxSeq x
      let d := d.hset H.ipmTxSeq x ((seq + 1) % 2 ^ seqBits (d.get F.IPM_TX_CFG_ESSENCE x))
      let (body, marker) := d.txBody x p
      d.each [2 * x, 2 * x + 1] fun d leg => d.sendPacket leg due limit (d.txPacket leg seq ts body marker)

/-! ### IGMPv3 (R319, R320) -/

/-- An IPv4 multicast address. -/
def isGroup (ip : Nat) : Bool := ip / 2 ^ 28 == 14

/-- The membership records that a reading of the configuration needs: those of enabled receive legs, and that of PTP over UDP on
media instances (R319, R325). -/
def addSource (rs : List IgmpRec) (inst group src : Nat) : List IgmpRec :=
  match rs.find? fun r => r.inst == inst && r.group == group with
  | none => ⟨inst, group, src == 0, if src = 0 then [] else [src]⟩ :: rs
  | some r =>
    let r' : IgmpRec := if r.exclude || src = 0 then ⟨inst, group, true, []⟩ else ⟨inst, group, false, insertNat src r.sources⟩
    r' :: rs.filter fun t => !(t.inst == inst && t.group == group)

/-- The receive legs that a reading enables. -/
def Dev.rxLegs (d : Dev) (ws : List ShadowWrite) (v : View) : List Nat :=
  (d.touched ws F.IPM_RX_LEG_CTRL_LEG_EN).filter fun k => v F.IPM_RX_LEG_CTRL_LEG_EN k == 1 && v F.IPM_RX_CFG_EN (k / 2) == 1

/-- The group of PTP over UDP (R325). -/
def ptpGroup : Nat := 0xE0000181

/-- The enabled PTP interfaces. -/
def Dev.ptpIfs (d : Dev) : List Nat := (List.range 4).filter fun i => d.get F.PTP_IF_CFG_EN i == 1

/-- The records that several readings need together. -/
def Dev.igmpNeeded (d : Dev) (ws : List ShadowWrite) (vs : List View) : List IgmpRec :=
  let legs := vs.flatMap fun v => (d.rxLegs ws v).map fun k =>
    (v F.IPM_RX_LEG_CTRL_INST k, v F.IPM_RX_LEG_DST_DST_IP k, v F.IPM_RX_LEG_SRC_SRC_IP k)
  let ptp := (d.ptpIfs.filter fun i => d.get F.PTP_IF_CFG_TRANSPORT i == 0 && d.get F.PTP_IF_CFG_BIND i < 32).map fun i =>
    (d.get F.PTP_IF_CFG_BIND i, ptpGroup, 0)
  sortBy (fun a b => a.inst < b.inst || (a.inst == b.inst && a.group ≤ b.group))
    (((legs.filter fun l => isGroup l.2.1) ++ ptp).foldl (fun rs l => addSource rs l.1 l.2.1 l.2.2) [])

/-- A report leaves an instance (R319): from IPM_INST_IPV4 to 224.0.0.22, with TTL 1, the Router Alert option, DSCP 48 and the VLAN tag. -/
def Dev.igmpSend (d : Dev) (r : IgmpReport) : Dev :=
  let vlan := d.instVlan r.inst
  ((d.bump C.IPM_INST_IGMP_REPORTS r.inst).emit (.igmp r.inst ⟨d.get F.IPM_INST_IPV4_IPV4 r.inst, 0xE0000016, 1, true, 48, vlan, r.kind,
    r.group, r.sources⟩)).offerFrame r.inst ⟨58 + (if vlan = none then 0 else 4) + 4 * r.sources.length, d.now10, .plain⟩

/-- The state-change reports between two records of a group, of which none is INCLUDE {} (RFC 3376). -/
def igmpChange (inst group : Nat) (old new : Option IgmpRec) : List IgmpReport :=
  let o := old.getD ⟨inst, group, false, []⟩
  let n := new.getD ⟨inst, group, false, []⟩
  if o.exclude && n.exclude then []
  else if n.exclude then [⟨inst, 4, group, []⟩]
  else if o.exclude then [⟨inst, 3, group, n.sources⟩]
  else
    let add := n.sources.filter fun s => !o.sources.contains s
    let gone := o.sources.filter fun s => !n.sources.contains s
    (if add = [] then [] else [⟨inst, 5, group, add⟩]) ++ if gone = [] then [] else [⟨inst, 6, group, gone⟩]

/-- The firmware brings its memberships to what the configuration in effect and the one planned need, and reports each change,
once now and once more later (R319).  While it does not run, nothing is reported. -/
def Dev.igmpSync (d : Dev) : Dev :=
  if !d.lathRuns then d
  else
    let need := d.igmpNeeded (d.heldWrites []) [d.inEffect, fun f i => d.planned f i]
    let have' := d.ipm.igmp
    let find := fun (l : List IgmpRec) (r : IgmpRec) => l.find? fun t => t.inst == r.inst && t.group == r.group
    let reports := (need.flatMap fun r => igmpChange r.inst r.group (find have' r) (some r)) ++
      (have'.filter fun r => (find need r).isNone).flatMap fun r => igmpChange r.inst r.group (some r) none
    { d with ipm := { d.ipm with igmp := need, repeats := d.ipm.repeats ++ reports } }.each reports Dev.igmpSend

/-- A state-change report of an instance is repeated (R319). -/
def Dev.igmpRepeat (d : Dev) (inst : Nat) : Dev :=
  match d.ipm.repeats.find? fun r => r.inst == inst with
  | some r => if d.lathRuns then { d with ipm := { d.ipm with repeats := d.ipm.repeats.erase r } }.igmpSend r else d
  | none => d

/-- A query reaches an instance (R319, R320): group 0 for a general one, `maxResp` its Max Resp Time in ms. -/
def Dev.igmpQuery (d : Dev) (inst version group maxResp : Nat) : Dev :=
  if !d.lathRuns || !d.instLink inst then d
  else
    let d := if version < 3 then (d.bump C.IPM_INST_IGMP_OLD_QUERIER inst).raise 678 [inst, group, version] else d
    { d with ipm := { d.ipm with asked := d.ipm.asked ++ [⟨inst, group, d.clock.core + 10 ^ 6 * maxResp⟩] } }

/-- An answer to a query is due: the current state of the records asked for (R319). -/
def Dev.igmpAnswer (d : Dev) (inst : Nat) : Dev :=
  match d.ipm.asked.find? fun a => a.inst == inst with
  | none => d
  | some a =>
    let d := { d with ipm := { d.ipm with asked := d.ipm.asked.erase a } }
    if !d.lathRuns then d
    else d.each (d.ipm.igmp.filter fun r => r.inst == inst && (a.group == 0 || r.group == a.group)) fun d r =>
      d.igmpSend ⟨inst, if r.exclude then 2 else 1, r.group, r.sources⟩

/-! ### Hash bins (R282, R284) -/

/-- The bin of a group address of six bytes (R282). -/
def hashBin (mac : Nat) : Nat := crc32 (beBytes 6 mac) % 4096

/-- The Ethernet group of PTP (R325). -/
def ptpMac : Nat := 0x011B19000000

/-- The bins that the firmware needs, as instance and bin. -/
def Dev.binsNeeded (d : Dev) : List (Nat × Nat) :=
  let need := d.igmpNeeded (d.heldWrites []) [d.inEffect, fun f i => d.planned f i]
  let ptp := d.ptpIfs.map fun i =>
    (d.get F.PTP_IF_CFG_BIND i, hashBin (if d.get F.PTP_IF_CFG_TRANSPORT i == 0 then groupMac ptpGroup else ptpMac))
  (need.map fun r => (r.inst, hashBin (groupMac r.group))) ++ ptp

/-- The firmware sets or clears a bin of an instance. -/
def Dev.setBin (d : Dev) (b : Nat × Nat) (on : Bool) : Dev :=
  let media := b.1 < 32
  let i := 128 * b.1 + b.2 / 32
  let v := d.get F.ETH_HASH_BITS i
  let m := 2 ^ (b.2 % 32)
  let w := if on then v ||| m else v &&& (0xFFFFFFFF ^^^ m)
  let off := (if media then 0x1A10000 + 0x400 * b.1 else 0x1B00000 + 0x1000 * (b.1 - 32)) + 0x200 + 4 * (b.2 / 32)
  if w = v then d else (d.set F.ETH_HASH_BITS i w).mirrorReg off

/-- The firmware sets the bins that are needed and clears those that it set and that nothing needs any more, while ETH is not
leased (R284). -/
def Dev.hashSync (d : Dev) : Dev :=
  if !d.lathRuns || d.holder 11 != 7 then d
  else
    let need := d.binsNeeded
    let d := d.each (d.ipm.bins.filter fun b => !need.contains b) fun d b => d.setBin b false
    let d := d.each need fun d b => d.setBin b true
    { d with ipm := { d.ipm with bins := need } }

/-- Memberships and bins follow the configuration. -/
def Dev.netSync (d : Dev) : Dev := d.hashSync.igmpSync

/-! ### T0 (R307, R314) -/

/-- The contexts whose EN T0 may have changed. -/
def changedOf (d old : Dev) (f : Fld) : List Nat := (unionNat (old.insts f) (d.insts f)).filter fun i => d.get f i != old.get f i

/-- Group IPM's shadow copies took effect. -/
def Dev.ipmApplied (d : Dev) (old : Dev) : Dev :=
  let d := d.each (changedOf d old F.IPM_RX_CFG_EN) fun d r =>
    let d := (((d.dropRx r).set F.IPM_RX_STATUS_RED_UP r 0).set F.IPM_RX_STATUS_BLUE_UP r 0).set F.IPM_RX_STATUS_STATE r
      (d.get F.IPM_RX_CFG_EN r)
    d.contextChanged r
  let d := d.each (changedOf d old F.IPM_TX_CFG_EN) fun d x => d.hset H.ipmTxSeq x 0
  d.netSync

/-! ### Writes -/

/-- An instance that lies on a leg's path (R300). -/
def onPath (leg inst : Nat) : Bool := inst / 16 == leg

/-- A word that a context register takes: reserved codes are discarded, timing is clamped. -/
def ipmStored (base leg w : Nat) : Option Nat :=
  match base with
  | 0x1C00000 => if bits w 28 3 ≥ 4 || bits w 10 2 ≥ 2 then none else some w
  | 0x1C40000 => if bits w 28 3 ≥ 4 || bits w 10 2 ≥ 2 || bits w 24 2 = 3 then none else some w
  | 0x1C00018 | 0x1C40018 => if onPath leg (bits w 16 5) then some w else none
  | 0x1C00030 => some (min 10000 (bits w 16 14) * 65536 + min 10000 (bits w 0 14))
  | _ => some w

/-- IPM_TIMEOUT stores 0 as 1. -/
def Dev.writeIpmTimeout (d : Dev) (w : Nat) : Dev :=
  (d.set F.IPM_TIMEOUT_LOSS_MS 0 (max 1 (bits w 16 8))).set F.IPM_TIMEOUT_LEG_MS 0 (max 1 (bits w 0 8))

/-! ### Checks of the flow commands (R300–R303, R310, R312, R318, R404) -/

/-- FORMAT and SAMPLING of a video context are a pair of R300. -/
def videoPair (fmt sampling : Nat) : Bool :=
  (sampling == 0 && [0x10, 0x11, 0x12, 0x20, 0x21, 0x30, 0x40].contains fmt) || (sampling == 1 && fmt == 0x22)

/-- FORMAT of destination `i` as a reading gives it: that of the source it follows, else its configured one (R231, R232). -/
def Dev.destFormat (d : Dev) (v : View) (i : Nat) : Nat :=
  if v F.XPT_DEST_CFG_FOLLOW i == 1 then d.get F.XPT_DEST_STATUS_FORMAT i else v F.XPT_DEST_CFG_FORMAT i

/-- Why a receive context's configuration is turned away: status, TLV type that is named, reason. -/
def rxFault (v : View) (blocks48 : Bool) (r : Nat) : Option (Nat × Nat × Nat) :=
  let e := v F.IPM_RX_CFG_ESSENCE r
  let s := v F.IPM_RX_CFG_SAMPLING r
  let fmt := v F.IPM_RX_CFG_FORMAT r
  let n := v F.IPM_RX_AUD_CHANNELS r
  let base := v F.IPM_RX_AUD_CHAN_BASE r
  let link := v F.IPM_RX_LINK_LINK r
  if v F.IPM_RX_CFG_EN r == 0 then none
  else if v F.IPM_RX_LEG_CTRL_LEG_EN (2 * r) == 0 && v F.IPM_RX_LEG_CTRL_LEG_EN (2 * r + 1) == 0 then some (St.badParam, 0x0103, 0)
  else if e = 0 then
    if videoPair fmt s then none else some (St.badParam, 0x0102, 0x23)
  else if e = 3 then if link = 0x7FF || v F.IPM_RX_CFG_ESSENCE link != 0 then some (St.badParam, 0x0106, 0x23) else none
  else if !blocks48 then some (St.formatMismatch, 0, 0)
  else if n = 0 || n > (if v F.IPM_RX_CFG_PTIME r = 0 then 8 else 64) || (e = 2 && n % 2 = 1) then some (St.badParam, 0x0105, 0x23)
  else if base < 49152 || base + n > 57344 then some (St.badParam, 0x0105, 0x62)
  else none

/-- Two ranges of channels overlap. -/
def overlaps (a n b m : Nat) : Bool := a < b + m && b < a + n

/-- Another receive context's channels overlap (R404): shadow and in-effect configuration both count. -/
def Dev.channelClash (d : Dev) (ws : List ShadowWrite) (vs : List View) (v : View) (r : Nat) : Bool :=
  let audio := fun (v : View) k => v F.IPM_RX_CFG_EN k == 1 && (v F.IPM_RX_CFG_ESSENCE k == 1 || v F.IPM_RX_CFG_ESSENCE k == 2)
  audio v r && (d.touched ws F.IPM_RX_CFG_EN).any fun k => k != r && vs.any fun u => audio u k &&
    overlaps (v F.IPM_RX_AUD_CHAN_BASE r) (v F.IPM_RX_AUD_CHANNELS r) (u F.IPM_RX_AUD_CHAN_BASE k) (u F.IPM_RX_AUD_CHANNELS k)

/-- A leg of the context has the tuple of another enabled leg (R303). -/
def Dev.tupleClash (d : Dev) (ws : List ShadowWrite) (v : View) (r : Nat) : Bool :=
  let tuple := fun k => (v F.IPM_RX_LEG_CTRL_INST k, v F.IPM_RX_LEG_SRC_SRC_IP k, v F.IPM_RX_LEG_DST_DST_IP k, v F.IPM_RX_LEG_CTRL_UDP_PORT k)
  let legs := d.rxLegs ws v
  legs.any fun k => k / 2 == r && legs.any fun j => j != k && tuple j == tuple k

/-- Another enabled ANC context names the same video context (R300: one flow per video context). -/
def Dev.linkClash (d : Dev) (ws : List ShadowWrite) (v : View) (r : Nat) : Bool :=
  let anc := fun k => v F.IPM_RX_CFG_EN k == 1 && v F.IPM_RX_CFG_ESSENCE k == 3
  anc r && (d.touched ws F.IPM_RX_CFG_EN).any fun k => k != r && anc k && v F.IPM_RX_LINK_LINK k == v F.IPM_RX_LINK_LINK r

/-- The limits of R320 are exceeded on an instance. -/
def igmpFull (rs : List IgmpRec) : Bool :=
  rs.any fun r => r.sources.length > 64 || (rs.filter fun t => t.inst == r.inst).length > 1024

/-- Bits per second of a transmit context on each of its legs, rounded up (R318). -/
def txBits (d : Dev) (v : View) (x : Nat) : Nat :=
  let e := v F.IPM_TX_CFG_ESSENCE x
  let dest := v F.IPM_TX_CFG_DEST x
  let fmt := d.destFormat v dest
  let rate := if v F.XPT_DEST_CFG_FOLLOW dest == 1 then d.get F.XPT_DEST_STATUS_RATE dest else v F.XPT_DEST_CFG_RATE dest
  let frames := fun (perFrame payload : Nat) => (perFrame * fieldsOf fmt * 8 * (payload + 82) * rateN rate + rateD rate - 1) / rateD rate
  let n := v F.IPM_TX_AUD_CHANNELS x
  let bytes := if e = 2 then 4 else if v F.IPM_TX_CFG_SAMPLING x = 0 then 3 else 2
  if v F.IPM_TX_CFG_EN x == 0 then 0
  else if e = 0 then match ipRaster fmt with
    | some g => frames g.packets 1260
    | none => 0
  else if e = 3 then frames 1 1200
  else if v F.IPM_TX_CFG_PTIME x = 0 then 8000 * (48 * n * bytes + 82) else 64000 * (6 * n * bytes + 82)

/-- Bits per second that enabled transmit legs place on an instance. -/
def Dev.instBits (d : Dev) (ws : List ShadowWrite) (v : View) (inst : Nat) : Nat :=
  (((d.touched ws F.IPM_TX_LEG_CTRL_LEG_EN).filter fun k =>
    v F.IPM_TX_LEG_CTRL_LEG_EN k == 1 && v F.IPM_TX_LEG_CTRL_INST k == inst).map fun k => txBits d v (k / 2)).sum

/-- The context's legs would load an instance beyond 90 % of its rate (R318). -/
def Dev.instOver (d : Dev) (ws : List ShadowWrite) (v : View) (x : Nat) : Bool :=
  v F.IPM_TX_CFG_EN x == 1 && [2 * x, 2 * x + 1].any fun k =>
    let inst := v F.IPM_TX_LEG_CTRL_INST k
    let rate := [400, 200, 100].getD (v F.ETH_PORT_CFG_MODE (inst / 4)) 400
    v F.IPM_TX_LEG_CTRL_LEG_EN k == 1 && 10 * d.instBits ws v inst > 9 * rate * 10 ^ 9

/-- Why a transmit context's configuration is turned away; `fmt` is the format of its destination (R300–R302, R405). -/
def txFault (v : View) (blocks48 : Bool) (fmt x : Nat) : Option (Nat × Nat × Nat) :=
  let e := v F.IPM_TX_CFG_ESSENCE x
  let n := v F.IPM_TX_AUD_CHANNELS x
  let base := v F.IPM_TX_AUD_CHAN_BASE x
  if v F.IPM_TX_CFG_EN x == 0 then none
  else if v F.IPM_TX_LEG_CTRL_LEG_EN (2 * x) == 0 && v F.IPM_TX_LEG_CTRL_LEG_EN (2 * x + 1) == 0 then some (St.badParam, 0x0103, 0)
  else if e = 0 || e = 3 then
    if v F.IPM_TX_CFG_DEST x ≥ 1536 || (e = 0 && !videoPair fmt (v F.IPM_TX_CFG_SAMPLING x)) then some (St.badParam, 0x0102, 0x23) else none
  else if !blocks48 then some (St.formatMismatch, 0, 0)
  else if n = 0 || n > (if v F.IPM_TX_CFG_PTIME x = 0 then 8 else 64) || (e = 2 && n % 2 = 1) then some (St.badParam, 0x0105, 0x23)
  else if crossesRow base n || reservedChannel base then some (St.badParam, 0x0105, 0x62)
  else none

/-! ### The flow commands -/

/-- A LEG value: its leg, instance and three words (R300: the instance lies on the leg's path). -/
def legTlv (v : List Byte) : Bool := v.length == 16 && beVal (v.take 2) < 2 && beVal (slice 2 2 v) < 32 && onPath (beVal (v.take 2)) (beVal (slice 2 2 v))

/-- The third value of a LEG is a UDP port. -/
def rxLegTlv (v : List Byte) : Bool := legTlv v && beVal (v.drop 12) < 65536

/-- Both ports of a transmit LEG. -/
def txLegTlv (v : List Byte) : Bool := legTlv v && beVal (slice 8 4 v) < 65536 && beVal (v.drop 12) < 65536

/-- The legs of a request name each leg at most once. -/
def legsDistinct (ts : List Tlv) : Bool :=
  match (tlvAll ts 0x0103).map fun v => beVal (v.take 2) with
  | [] => true
  | [_] => true
  | [a, b] => a != b
  | _ => false

/-- A CFG value without reserved codes, for receive and transmit. -/
def rxCfgTlv (v : List Byte) : Bool := v.length == 4
def txCfgTlv (v : List Byte) : Bool := num 4 (fun w => bits w 24 2 != 3) v

/-- An ESSENCE or PTIME that the part does not support (R302). -/
def cfgUnsupported (ts : List Tlv) : Bool := hasTlv ts 0x0102 && (bits (tlvNum ts 0x0102) 28 3 ≥ 4 || bits (tlvNum ts 0x0102) 10 2 ≥ 2)

/-- RX_FLOW_CONFIG (0x0401). -/
def rxFlowSpec : Spec :=
  { op := 0x0401
    pars := [.req 0x0101 (below 2048), Par.frame, .opt 0x0102 rxCfgTlv, .reps 0x0103 rxLegTlv, .opt 0x0104 any4, .opt 0x0105 any4,
      .opt 0x0106 (below 2048), .opt 0x0107 any4]
    units := fun _ => [7] }

/-- The fields of IPM_RX_CFG. -/
def rxCfgFields : List Fld :=
  [F.IPM_RX_CFG_EN, F.IPM_RX_CFG_ESSENCE, F.IPM_RX_CFG_SAMPLING, F.IPM_RX_CFG_SSRC_EN, F.IPM_RX_CFG_FORMAT, F.IPM_RX_CFG_RATE,
    F.IPM_RX_CFG_PTIME, F.IPM_RX_CFG_PT]

/-- Its shadow writes. -/
def rxFlowWrites (ts : List Tlv) : List ShadowWrite :=
  let r := tlvNum ts 0x0101
  let t := tlvNum ts 0x0104
  optWrites ts 0x0102 rxCfgFields r ++
    ((tlvAll ts 0x0103).flatMap fun v =>
      let k := 2 * r + beVal (v.take 2)
      [sw F.IPM_RX_LEG_CTRL_LEG_EN k 1, sw F.IPM_RX_LEG_CTRL_INST k (beVal (slice 2 2 v)), sw F.IPM_RX_LEG_SRC_SRC_IP k (beVal (slice 4 4 v)),
        sw F.IPM_RX_LEG_DST_DST_IP k (beVal (slice 8 4 v)), sw F.IPM_RX_LEG_CTRL_UDP_PORT k (beVal (v.drop 12))]) ++
    (if hasTlv ts 0x0104 then
      [sw F.IPM_RX_TIMING_MERGE_US r (min 10000 (bits t 16 14)), sw F.IPM_RX_TIMING_PLAYOUT_US r (min 10000 (bits t 0 14))] else []) ++
    optWrites ts 0x0105 [F.IPM_RX_AUD_CHAN_BASE, F.IPM_RX_AUD_CHANNELS] r ++ optWrites ts 0x0106 [F.IPM_RX_LINK_LINK] r ++
    optWrites ts 0x0107 [F.IPM_RX_SSRC_SSRC] r

/-- A leg receives what is neither a group nor its instance's own address (R302). -/
def Dev.badDestination (v : View) (r : Nat) : Bool :=
  [2 * r, 2 * r + 1].any fun k => v F.IPM_RX_LEG_CTRL_LEG_EN k == 1 && !isGroup (v F.IPM_RX_LEG_DST_DST_IP k) &&
    v F.IPM_RX_LEG_DST_DST_IP k != v F.IPM_INST_IPV4_IPV4 (v F.IPM_RX_LEG_CTRL_INST k)

/-- BLOCK_RATE selects 48 kHz (R301). -/
def Dev.blocks48 (d : Dev) : Bool := d.get F.TICK_CFG_BLOCK_RATE == 0

/-- A flow command is turned away, with the TLV that its check names. -/
def Dev.refuseFlow (d : Dev) (q : Req) (op : Nat) (ts : List Tlv) (e : Nat × Nat × Nat) : Dev :=
  d.reply q op e.1 (if e.1 = St.badParam then [statusDetail (tlvIndex ts e.2.1) 0xFF e.2.2] else
    if e.2.2 = 0 then [] else [statusDetail 0xFFFF 0xFF e.2.2])

/-- The first check of RX_FLOW_CONFIG that fails: status, TLV type, reason. -/
def Dev.rxFlowFault (d : Dev) (ts : List Tlv) (n : Nat) (ws : List ShadowWrite) : Option (Nat × Nat × Nat) :=
  let r := tlvNum ts 0x0101
  let v := (d.plannedAt n).over ws
  let hw := d.heldWrites ws
  let vs := d.charged n ws
  if cfgUnsupported ts then some (St.badParam, 0x0102, 0x23)
  else if !legsDistinct ts then some (St.badParam, 0x0103, 0)
  else
    match rxFault v d.blocks48 r with
    | some e => some e
    | none =>
      if v F.IPM_RX_CFG_EN r == 1 && Dev.badDestination v r then some (St.badParam, 0x0103, 0x23)
      else if d.tupleClash hw v r then some (St.badParam, 0x0103, 0x20)
      else if d.linkClash hw v r then some (St.badParam, 0x0106, 0x23)
      else if d.channelClash hw vs v r then some (St.badParam, 0x0105, 0x62)
      else if igmpFull (d.igmpNeeded hw vs) then some (St.exhausted, 0, 0x22)
      else (d.storeFault n ws).map fun e => (e.1, 0xFFFF, e.2)

def Dev.rxFlowConfig (d : Dev) (q : Req) : Dev := d.command q rxFlowSpec fun d ts =>
  let ws := rxFlowWrites ts
  match d.rxFlowFault ts (d.changeFrame (frameTlv ts)) ws with
  | some e => d.refuseFlow q 0x0401 ts e
  | none => (d.holdChange q 0x0401 (frameTlv ts) ws).netSync

/-- TX_FLOW_CONFIG (0x0402). -/
def txFlowSpec : Spec :=
  { op := 0x0402
    pars := [.req 0x0101 (below 2048), Par.frame, .opt 0x0102 txCfgTlv, .reps 0x0103 txLegTlv, .opt 0x0105 any4, .opt 0x0107 any4]
    units := fun _ => [7] }

/-- Its shadow writes. -/
def txFlowWrites (ts : List Tlv) : List ShadowWrite :=
  let x := tlvNum ts 0x0101
  optWrites ts 0x0102 [F.IPM_TX_CFG_EN, F.IPM_TX_CFG_ESSENCE, F.IPM_TX_CFG_SAMPLING, F.IPM_TX_CFG_TYPE, F.IPM_TX_CFG_DEST,
      F.IPM_TX_CFG_PTIME, F.IPM_TX_CFG_PT] x ++
    ((tlvAll ts 0x0103).flatMap fun v =>
      let k := 2 * x + beVal (v.take 2)
      [sw F.IPM_TX_LEG_CTRL_LEG_EN k 1, sw F.IPM_TX_LEG_CTRL_INST k (beVal (slice 2 2 v)), sw F.IPM_TX_LEG_DST_DST_IP k (beVal (slice 4 4 v)),
        sw F.IPM_TX_LEG_PORT_SRC_PORT k (beVal (slice 8 4 v)), sw F.IPM_TX_LEG_PORT_DST_PORT k (beVal (v.drop 12))]) ++
    optWrites ts 0x0105 [F.IPM_TX_AUD_CHAN_BASE, F.IPM_TX_AUD_CHANNELS] x ++ optWrites ts 0x0107 [F.IPM_TX_SSRC_SSRC] x

/-- The first check of TX_FLOW_CONFIG that fails. -/
def Dev.txFlowFault (d : Dev) (ts : List Tlv) (n : Nat) (ws : List ShadowWrite) : Option (Nat × Nat × Nat) :=
  let x := tlvNum ts 0x0101
  let v := (d.plannedAt n).over ws
  let unicast := [2 * x, 2 * x + 1].any fun k => v F.IPM_TX_LEG_CTRL_LEG_EN k == 1 && !isGroup (v F.IPM_TX_LEG_DST_DST_IP k)
  if cfgUnsupported ts then some (St.badParam, 0x0102, 0x23)
  else if !legsDistinct ts then some (St.badParam, 0x0103, 0)
  else
    match txFault v d.blocks48 (d.destFormat v (v F.IPM_TX_CFG_DEST x)) x with
    | some e => some e
    | none =>
      if v F.IPM_TX_CFG_EN x == 1 && unicast then some (St.badParam, 0x0103, 0x23)
      else if d.instOver (d.heldWrites ws) v x then some (St.exhausted, 0, 0x24)
      else (d.admission n ws).map fun e => (e.1, 0xFFFF, e.2)

def Dev.txFlowConfig (d : Dev) (q : Req) : Dev := d.command q txFlowSpec fun d ts =>
  let ws := txFlowWrites ts
  match d.txFlowFault ts (d.changeFrame (frameTlv ts)) ws with
  | some e => d.refuseFlow q 0x0402 ts e
  | none => d.holdChange q 0x0402 (frameTlv ts) ws

/-- INSTANCE_CONFIG (0x0403). -/
def instanceConfigSpec : Spec :=
  { op := 0x0403
    pars := [.req 0x0101 (below 32), Par.frame, .opt 0x0102 any4, .opt 0x0103 any4, .opt 0x0104 any4]
    units := fun _ => [7] }

def Dev.instanceConfig (d : Dev) (q : Req) : Dev := d.command q instanceConfigSpec fun d ts =>
  let m := tlvNum ts 0x0101
  let ws := optWrites ts 0x0102 [F.IPM_INST_IPV4_IPV4] m ++
    optWrites ts 0x0103 [F.IPM_INST_TX_VLAN_EN, F.IPM_INST_TX_PCP, F.IPM_INST_TX_VID] m ++
    optWrites ts 0x0104 [F.IPM_INST_DSCP_DSCP_ANC, F.IPM_INST_DSCP_DSCP_AUD, F.IPM_INST_DSCP_DSCP_VID] m
  d.holdChange q 0x0403 (frameTlv ts) ws

/-- The part of IPM_RX_STATUS that is not stored. -/
def Dev.rxStatusView (d : Dev) (r : Nat) : Nat := 65536 * d.skewView r

/-- FLOW_STATUS_GET (0x0404): the status and counts of each context. -/
def flowStatusSpec : Spec :=
  { op := 0x0404, pars := [.req 0x0101 (below 2), .req 0x0102 (below 2048), .req 0x0103 (num 4 fun n => 1 ≤ n && n ≤ 64)] }

def Dev.flowStatus (d : Dev) (r dir : Nat) : Tlv :=
  if dir = 0 then
    let base := 0x1C00000 + 0x80 * r
    data (w4 (d.storedAt (base + 0x40) + d.rxStatusView r) :: ((List.range 12).map fun i => w4 (d.storedAt (base + 0x48 + 4 * i))))
  else
    let base := 0x1C40000 + 0x80 * r
    let d := (d.macAdvance (d.get F.IPM_TX_LEG_CTRL_INST (2 * r))).macAdvance (d.get F.IPM_TX_LEG_CTRL_INST (2 * r + 1))
    data ((List.range 8).map fun i => w4 (d.storedAt (base + 0x40 + 4 * i)))

def Dev.flowStatusGet (d : Dev) (q : Req) : Dev := d.command q flowStatusSpec fun d ts =>
  let first := tlvNum ts 0x0102
  let n := tlvNum ts 0x0103
  if first + n > 2048 then d.reply q 0x0404 St.badParam [statusDetail (tlvIndex ts 0x0103) 0xFF 0]
  else d.reply q 0x0404 St.ok ((List.range n).map fun i => d.flowStatus (first + i) (tlvNum ts 0x0101))

/-- IGMP_STATUS_GET (0x0405): group, mode (1 INCLUDE, 2 EXCLUDE) and sources of each record. -/
def igmpStatusSpec : Spec := { op := 0x0405, pars := [.req 0x0101 (below 32)] }

def Dev.igmpStatusGet (d : Dev) (q : Req) : Dev := d.command q igmpStatusSpec fun d ts =>
  d.reply q 0x0405 St.ok ((d.ipm.igmp.filter fun r => r.inst == tlvNum ts 0x0101).map fun r =>
    data (w4 r.group :: w4 (if r.exclude then 2 else 1) :: w4 r.sources.length :: r.sources.map w4))

/-! ### The rows -/

def execLegTimeout (context : Fin 2048) (leg : Fin 2) (s : State) : Host.Outcome State Fault Refusal := lift (·.legTimeout context leg) s
def execFlowLossTimeout (context : Fin 2048) (s : State) : Host.Outcome State Fault Refusal := lift (·.flowLoss context) s
def execLinePlayout (context : Fin 2048) (qs : List Nat) (anc : List Nat) (l : PlayIn) (s : State) :
    Host.Outcome State Fault Refusal := lift (·.linePlayout context qs anc l) s
def execPacketSchedule (context : Fin 2048) (p : PktIn) (s : State) : Host.Outcome State Fault Refusal :=
  lift (·.packetSchedule context p) s
def execIgmpQuery (inst : Fin 32) (version : Nat) (group : Nat) (maxResp : Nat) (s : State) : Host.Outcome State Fault Refusal :=
  lift (·.igmpQuery inst version group maxResp) s
def execQueryResponseDue (inst : Fin 32) (s : State) : Host.Outcome State Fault Refusal := lift (·.igmpAnswer inst) s
def execIgmpReportRepeat (inst : Fin 32) (s : State) : Host.Outcome State Fault Refusal := lift (·.igmpRepeat inst) s
def execRxFlowConfig (q : Req) (s : State) : Host.Outcome State Fault Refusal := lift (·.rxFlowConfig q) s
def execTxFlowConfig (q : Req) (s : State) : Host.Outcome State Fault Refusal := lift (·.txFlowConfig q) s
def execInstanceConfig (q : Req) (s : State) : Host.Outcome State Fault Refusal := lift (·.instanceConfig q) s
def execFlowStatusGet (q : Req) (s : State) : Host.Outcome State Fault Refusal := lift (·.flowStatusGet q) s
def execIgmpStatusGet (q : Req) (s : State) : Host.Outcome State Fault Refusal := lift (·.igmpStatusGet q) s

end Sys2Proof.Machine
end

