-- ==== Sys2Proof/Machine/Pci.lean ====
section
/-! DEFINITION. The PCI Express function: its link, its configuration space and its reset (R57, R73, R130, R141, R143). -/

namespace Sys2Proof.Machine

/-- PCI_LINK_STATUS as a word. -/
def Dev.pciStatus (d : Dev) : Nat :=
  2 ^ 8 * d.get F.PCI_LINK_STATUS_BME + 2 ^ 4 * d.get F.PCI_LINK_STATUS_WIDTH + 2 * d.get F.PCI_LINK_STATUS_SPEED +
    d.get F.PCI_LINK_STATUS_UP

/-- PCI_LINK_STATUS takes a value; a change is raised, and the next refused outbound access is raised again (R133). -/
def Dev.setPciStatus (d : Dev) (bme width speed up : Nat) : Dev :=
  let old := d.pciStatus
  let d := (((d.set F.PCI_LINK_STATUS_BME 0 bme).set F.PCI_LINK_STATUS_WIDTH 0 width).set F.PCI_LINK_STATUS_SPEED 0 speed).set
    F.PCI_LINK_STATUS_UP 0 up
  if d.pciStatus == old then d
  else { d with evt := { d.evt with obErr := false } }.raise 900 [d.pciStatus]

/-- A PCI Express reset (R57, R72, R73): configuration space, the MSI-X table, the outbound windows and the P0 mailbox; a
partial image push is discarded (R68).  One that comes while a Lath restart is in progress is carried out beside it: neither touches what
the other restarts (DESIGN CHOICE, log entry 319). -/
def Dev.pciReset (d : Dev) (bursts : List Nat) : Dev :=
  let d := d.onBehalf 1 bursts
  let d := d.each (List.range 16) fun d w =>
    ((d.set F.PCI_OB_CTRL_EN w 0).set F.PCI_OB_BASE_LO_BASE w 0).set F.PCI_OB_BASE_HI_BASE w 0
  let d := d.each (List.range 64) fun d v =>
    (((d.hset H.msixAddrLo v 0).hset H.msixAddrHi v 0).hset H.msixData v 0).hset H.msixControl v 1
  let d := ((d.hset H.msixEnable 0 0).hset H.msixFunctionMask 0 0).hset H.msixOwed 0 0
  let d := { d with evt := { d.evt with pba := [] } }
  let d := (d.each (List.range 6) fun d k => d.hset H.pciBar k 0).each [H.pciMemory, H.pciHot, H.pciAer, H.pciAerMask] fun d f => d.hset f 0 0
  let d := if d.get F.BOOT_PUSH_STATUS_STATE == 2 then d else { d with pushed := [] }.hset H.pushOffset 0 0
  ((d.hset H.pciWasReset 0 1).mailboxReset).setPciStatus 0 0 0 0

/-- A message for every pending group that is routed to MSI-X. -/
def Dev.signalPending (d : Dev) : Dev := d.each d.pendingGroups Dev.signalGroup

/-- The PCI Express link changes state (R143).  It trains only after start-up step 2, and never when that step failed (R59, R61).  Going down is a PCI Express reset (R72); at the first link-up after one, a
message is sent for every pending group, as soon as the host has MSI-X enabled. -/
def Dev.linkEvent (d : Dev) (up : Bool) (speed width : Nat) : Dev :=
  if !up then d.pciReset []
  else if d.get F.BOOT_STATUS_STEP < 3 then d
  else
    let owed := d.hget H.pciWasReset
    let d := d.setPciStatus (d.get F.PCI_LINK_STATUS_BME) width speed 1
    let d := d.hset H.pciWasReset 0 0
    if owed = 0 then d
    else if d.hget H.msixEnable == 1 then d.signalPending
    else d.hset H.msixOwed 0 1

/-- The vectors whose PBA bit is set and that are no longer masked are signalled (R141). -/
def Dev.unmasked (d : Dev) : Dev := d.each (d.evt.pba.filter fun v => !d.vectorMasked v) Dev.signal

/-- The address bits of a base address register word that can be written (R130): 64-bit BARs of 64 MB, 32 GB and 1 MB. -/
def barMask (k : Nat) : Nat := [0xFC000000, 0xFFFFFFFF, 0, 0xFFFFFFF8, 0xFFF00000, 0xFFFFFFFF].getD k 0

/-- The type bits of a base address register word: 64-bit, and prefetchable for BAR2. -/
def barType (k : Nat) : Nat := [0x4, 0, 0xC, 0, 0x4, 0].getD k 0

/-- A word of configuration space (R130).  Where the capabilities lie and what they read beyond the values of R130 is left to PCI Express
Base: there the word is open (log entry 314). -/
def Dev.configWord (d : Dev) (word : Nat) : Nat × Dev :=
  match word with
  | 0 => (0x15361F8C, d)
  | 1 => (4 * d.get F.PCI_LINK_STATUS_BME + 2 * d.hget H.pciMemory + 0x100000, d)
  | 2 => let (v, d) := d.fresh; (0x04800000 + v % 256, d)
  | w =>
    if 4 ≤ w ∧ w < 10 then (d.hget H.pciBar (w - 4) &&& barMask (w - 4) ||| barType (w - 4), d)
    else let (v, d) := d.fresh; (v % 2 ^ 32, d)

/-- The host writes configuration space or the MSI-X table, or reads configuration space (R130, R131, R133, R141). -/
def Dev.pciConfig (d : Dev) : PciConfig → Dev
  | .busMaster on =>
    (d.setPciStatus (ofBool on) (d.get F.PCI_LINK_STATUS_WIDTH) (d.get F.PCI_LINK_STATUS_SPEED) (d.get F.PCI_LINK_STATUS_UP)).unmasked
  | .memory on => d.hset H.pciMemory 0 (ofBool on)
  | .bar k v => d.hset H.pciBar k v.toNat
  | .power hot => (d.hset H.pciHot 0 (ofBool hot)).unmasked
  | .aerClear v => d.hset H.pciAer 0 (d.hget H.pciAer - (d.hget H.pciAer &&& v.toNat))
  | .aerMask v => d.hset H.pciAerMask 0 v.toNat
  | .read w => (d.configWord w).2.emit (.config (d.configWord w).1)
  | .msix enable mask =>
    let d := ((d.hset H.msixEnable 0 (ofBool enable)).hset H.msixFunctionMask 0 (ofBool mask)).unmasked
    if enable && d.hget H.msixOwed == 1 then (d.hset H.msixOwed 0 0).signalPending else d
  | .vector n address data control =>
    ((((d.hset H.msixAddrLo n address).hset H.msixAddrHi n (address / 2 ^ 32)).hset H.msixData n data).hset
      H.msixControl n control).unmasked

def execPcieLinkEvent (up : Bool) (speed : Fin 8) (width : Fin 16) (s : State) : Host.Outcome State Fault Refusal :=
  lift (·.linkEvent up speed width) s
def execPciConfigWrite (x : PciConfig) (s : State) : Host.Outcome State Fault Refusal := lift (·.pciConfig x) s

/-- PERST_N or a hot reset; `bursts` are the beats left of each inbound burst in progress. -/
def execPerst (bursts : List Nat) (s : State) : Host.Outcome State Fault Refusal := lift (·.pciReset bursts) s

end Sys2Proof.Machine
end

