-- ==== Sys2Proof/Machine/Coding.lean ====
section
/-! DEFINITION. The 8b/10b code of IEEE 802.3 Clause 36 (R153): its tables, coding and decoding of a character under a running
disparity.  A code group is a 10-bit number whose most significant bit is bit a, which is sent first.  The tables are those of IEEE 802.3,
which R153 names (PRESUMED, log entry 327). -/

namespace Sys2Proof.Machine

/-- The code groups abcdei of D.0 to D.31 under negative disparity. -/
def sixes : List Nat :=
  [0x27, 0x1D, 0x2D, 0x31, 0x35, 0x29, 0x19, 0x38, 0x39, 0x25, 0x15, 0x34, 0x0D, 0x2C, 0x1C, 0x17,
   0x1B, 0x23, 0x13, 0x32, 0x0B, 0x2A, 0x1A, 0x3A, 0x33, 0x26, 0x16, 0x36, 0x0E, 0x2E, 0x1E, 0x2B]

/-- The code groups fghj of D.x.0 to D.x.6 and D.x.P7 under negative disparity. -/
def fours : List Nat := [0xB, 0x9, 0x5, 0xC, 0xD, 0xA, 0x6, 0xE]

/-- The code groups fghj of K.x.0 to K.x.7 under negative disparity. -/
def controlFours : List Nat := [0xB, 0x6, 0xA, 0xC, 0xD, 0x5, 0x9, 0x7]

/-- The bits of a block that are 1. -/
def onesOf (n v : Nat) : Nat := ((List.range n).map (v.testBit ·)).count true

/-- The running disparity after a block of `n` bits: positive where it is more than half ones, negative where less. -/
def disparityAfter (n : Nat) (plus : Bool) (v : Nat) : Bool :=
  if 2 * onesOf n v > n then true else if 2 * onesOf n v < n then false else plus

/-- The abcdei block of the five low bits of a data character. -/
def sixOf (plus : Bool) (x : Nat) : Nat :=
  let v := sixes.getD x 0
  if plus && (onesOf 6 v != 3 || x == 7) then 63 - v else v

/-- The abcdei block of K.28. -/
def sixOf28 (plus : Bool) : Nat := if plus then 0x30 else 0x0F

/-- The alternative D.x.A7 is used, so that no run of five equal bits arises. -/
def usesA7 (plus : Bool) (x : Nat) : Bool := if plus then [11, 13, 14].contains x else [17, 18, 20].contains x

/-- The fghj block of the three high bits of a data character. -/
def fourOf (plus : Bool) (x y : Nat) : Nat :=
  let v := if y = 7 ∧ usesA7 plus x then 0x7 else fours.getD y 0
  if plus && (onesOf 4 v != 2 || y == 3) then 15 - v else v

/-- The fghj block of a control character. -/
def controlFour (plus : Bool) (y : Nat) : Nat := if plus then 15 - controlFours.getD y 0 else controlFours.getD y 0

/-- The code group of a character under a running disparity, and the disparity after it; a code violation has none. -/
def encodeChar (plus : Bool) (c : LaneChar) : Nat × Bool :=
  let two := fun (six : Nat) (four : Bool → Nat) =>
    let mid := disparityAfter 6 plus six
    (16 * six + four mid, disparityAfter 4 mid (four mid))
  match c with
  | .dat b => two (sixOf plus (b.toNat % 32)) fun mid => fourOf mid (b.toNat % 32) (b.toNat / 32)
  | .ctl b =>
    if b.toNat % 32 = 28 then two (sixOf28 plus) fun mid => controlFour mid (b.toNat / 32)
    else two (sixOf plus (b.toNat % 32)) fun mid => controlFour mid (b.toNat / 32)
  | .bad => (0, plus)

/-- The code groups of characters sent one after another, and the disparity after them. -/
def encodeChars : Bool → List LaneChar → List Nat × Bool
  | plus, [] => ([], plus)
  | plus, c :: cs =>
    let r := encodeChar plus c
    let s := encodeChars r.2 cs
    (r.1 :: s.1, s.2)

/-- The character that a code group spells under a running disparity: a group that the code does not have there is a violation. -/
def decodeGroup (plus : Bool) (g : Nat) : LaneChar :=
  let hi := g / 16
  let lo := g % 16
  let mid := disparityAfter 6 plus hi
  if hi = sixOf28 plus then
    match (List.range 8).find? fun y => controlFour mid y == lo with
    | some y => .ctl (BitVec.ofNat 8 (32 * y + 28))
    | none => .bad
  else
    match (List.range 32).find? fun x => sixOf plus x == hi with
    | none => .bad
    | some x =>
      match (List.range 8).find? fun y => fourOf mid x y == lo with
      | some y => .dat (BitVec.ofNat 8 (32 * y + x))
      | none => if [23, 27, 29, 30].contains x && controlFour mid 7 == lo then .ctl (BitVec.ofNat 8 (224 + x)) else .bad

/-- The disparity after a received group: that of its blocks as they came. -/
def groupDisparity (plus : Bool) (g : Nat) : Bool := disparityAfter 4 (disparityAfter 6 plus (g / 16)) (g % 16)

/-- The characters of received groups, and the disparity after them. -/
def decodeGroups : Bool → List Nat → List LaneChar × Bool
  | plus, [] => ([], plus)
  | plus, g :: gs =>
    let r := decodeGroups (groupDisparity plus g) gs
    (decodeGroup plus g :: r.1, r.2)

/-- The disparity under which a comma was sent, for a receiver that knows none. -/
def commaDisparity (gs : List Nat) : Bool := gs.head?.any fun g => g / 16 == sixOf28 true

end Sys2Proof.Machine
end

