-- ==== Sys2Proof/Machine/CswLink.lean ====
section
/-! DEFINITION. The Causeway's links (R457, R460): a link that comes up or goes down, the links that count, and what the Causeway's coming and
going does to the role (R455).  The eight Causeway lanes train as Reed lanes do; their receivers are kept beside those, as lanes 384 to 391. -/

namespace Sys2Proof.Machine

/-- Lane `j` of Causeway link `k` among the receivers. -/
def cswLane (k j : Nat) : Nat := 384 + 4 * k + j

/-- The lane of a link is UP or DEGRADED. -/
def Dev.cswLaneUp (d : Dev) (k j : Nat) : Bool := d.get F.REED_LANE_STATUS_RX_STATE (cswLane k j) ≥ 3

/-- How far the starts of a link's superframes of equal SEQ lie apart, in characters. -/
def Dev.linkSkew (d : Dev) (k : Nat) : Nat :=
  let o := d.hget H.reedOffset (cswLane k 0)
  let rel := (List.range 4).map fun j => toSigned 26 (serialSub 26 (d.hget H.reedOffset (cswLane k j)) o)
  ((rel.foldl max 0) - (rel.foldl min 0)).toNat

/-- The link is UP as R457 has it. -/
def Dev.linkForms (d : Dev) (k : Nat) : Bool :=
  d.get F.CSW_CFG_EN == 1 && (List.range 4).all (fun j => d.cswLaneUp k j && d.hget H.reedOffset (cswLane k j) != 0 &&
    d.get F.REED_LANE_STATUS_POS (cswLane k j) == j) && d.linkSkew k ≤ 8

/-- CSW_LINK_STATUS of a link. -/
def Dev.linkWord (d : Dev) (k : Nat) : Nat :=
  2 ^ 8 * d.get F.CSW_LINK_STATUS_SKEW k + 2 ^ 4 * d.get F.CSW_LINK_STATUS_LANE_UP k + 2 * d.get F.CSW_LINK_STATUS_COUNTED k +
    d.get F.CSW_LINK_STATUS_UP k

/-- The link counts towards the Causeway (R460); none does once key load failed at start-up (R461). -/
def Dev.linkCounts (d : Dev) (k : Nat) : Bool :=
  d.get F.CSW_LINK_STATUS_UP k == 1 && d.hget H.keyFail == 0 &&
    match d.csw.alive.getD k none with
    | some t => d.clock.core < t + 1000000
    | none => false

/-- The frame in progress on a link is dropped (R458). -/
def Dev.dropFrame (d : Dev) (k : Nat) : Dev :=
  let open_ := match d.csw.stream.getD k none with
    | some bs => !bs.isEmpty
    | none => false
  let d := if open_ then d.bump C.CSW_FR_DELIM else d
  d.onCsw fun c => { c with stream := c.stream.set k none }

/-- SAK `n` of a seat with that salt: HMAC-SHA-256 with the Causeway key over "CSWSAK", the salt and n (R461). -/
def Csw.sak (c : Csw) (salt : List Byte) (n : Nat) : List Byte :=
  hmac c.key ([0x43, 0x53, 0x57, 0x53, 0x41, 0x4B].map (BitVec.ofNat 8) ++ salt ++ beBytes 4 n)

/-- A new HELLO: 16 bytes of salt that nothing fixes, and SAK 0 with it (R461). -/
def Dev.sendHello (d : Dev) : Dev :=
  let (v, d) := d.fresh
  let salt := beBytes 16 v
  (d.onCsw fun c => { c with salt := salt, txSak := c.sak salt 0 }).clink 9 (.hello (d.hget H.pinSeat) salt)

/-- The numbering of both directions starts again at the link-up that ends a time without any link (R459, R461). -/
def Dev.restartLinks (d : Dev) : Dev :=
  let d := d.onCsw fun c => { c with
    txSeq := List.replicate 10 0, rxSeq := List.replicate 10 0, txPn := 0, rxN := 0, announced := none, peerSalt := []
    txCrc := 0xFFFFFFFF, sinceTick := 0xFFFFFFFF, cutSeq := 0, cutCrc := 0xFFFFFFFF, sent := none, applied := [], cutKnown := true
    committedCut := 0, unconfirmed := [], peer := none }
  { d with cmd := { d.cmd with controlSeq := 0, controlPn := 0 } }.set F.CSW_KEY_TX_N 0 0

/-- A link comes up. -/
def Dev.linkRises (d : Dev) (k : Nat) : Dev :=
  let first := d.get F.CSW_LINK_STATUS_UP (1 - k) == 0
  let d := d.onCsw fun c => { c with alive := c.alive.set k none, linkSeq := c.linkSeq.set k none, stream := c.stream.set k none }
  if first then (d.restartLinks).sendHello else d

/-- A link goes down. -/
def Dev.linkFalls (d : Dev) (k : Nat) : Dev :=
  (d.dropFrame k).onCsw fun c => { c with alive := c.alive.set k none, linkSeq := c.linkSeq.set k none }

/-- The Causeway came up (R455): a seat that finds the claim silent takes the role; a resynchronisation that waits is asked for. -/
def Dev.causewayRises (d : Dev) : Dev :=
  if (d.role == 1 || d.role == 2) && d.get F.CSW_ROLE_CLAIM_IN == 0 then d.becomeActive 1 else d.askResync

/-- A seat that finds the claim asserted while the Causeway is down is isolated (R455, R479). -/
def Dev.isolate (d : Dev) : Dev := (d.enterRole 3 9).raise 838 [0]

/-- The Causeway went down: bus master 2 is reset (R76, R86).  While the claim stays, the standby is isolated. -/
def Dev.causewayFalls (d : Dev) : Dev :=
  let d := d.onBehalf 2 []
  if (d.role == 1 || d.role == 2) && d.get F.CSW_ROLE_CLAIM_IN == 1 then d.isolate else d

/-- COUNTED and CAUSEWAY_UP take their values; `told` names links whose UP has changed. -/
def Dev.reviewCauseway (d : Dev) (told : List Nat) : Dev :=
  let changed := (List.range 2).filter fun k => d.linkCounts k != (d.get F.CSW_LINK_STATUS_COUNTED k == 1)
  let d := d.each changed fun d k => d.set F.CSW_LINK_STATUS_COUNTED k (ofBool (d.linkCounts k))
  let d := d.each ((List.range 2).filter fun k => changed.contains k || told.contains k) fun d k => d.raise 833 [k, d.linkWord k]
  let up := (List.range 2).any fun k => d.get F.CSW_LINK_STATUS_COUNTED k == 1
  if up == d.causewayUp then d
  else
    let d := d.set F.CSW_ROLE_CAUSEWAY_UP 0 (ofBool up)
    if up then d.causewayRises else d.causewayFalls

/-- A lane of a link has changed: the link follows it. -/
def Dev.reviewLink (d : Dev) (k : Nat) : Dev :=
  let up := d.linkForms k
  let was := d.get F.CSW_LINK_STATUS_UP k == 1
  let mask := wordOfBits ((List.range 4).filter fun j => d.cswLaneUp k j)
  let d := d.set F.CSW_LINK_STATUS_LANE_UP k mask
  let d := if mask = 15 then d.set F.CSW_LINK_STATUS_SKEW k (min 15 (d.linkSkew k)) else d
  if up == was then d
  else
    let d := d.set F.CSW_LINK_STATUS_UP k (ofBool up)
    (if up then d.linkRises k else d.linkFalls k).reviewCauseway [k]

end Sys2Proof.Machine
end

