-- ==== Sys2Proof/Machine/Reed.lean ====
section
/-! DEFINITION. The Reed lanes (R152–R182): the superframe, its checks and its coding, the receive states, bundles,
link-control messages, and the transmit lanes.  Receivers 384 to 391 are those of the Causeway's lanes (R457). -/

namespace Sys2Proof.Machine

/-! ### The superframe (R153–R160) -/

def k285 : LaneChar := .ctl 0xBC#8
def k277 : LaneChar := .ctl 0xFB#8
def k281 : LaneChar := .ctl 0x3C#8
def k237 : LaneChar := .ctl 0xF7#8
def k280 : LaneChar := .ctl 0x1C#8
def k297 : LaneChar := .ctl 0xFD#8

/-- The PRBS x¹⁵ + x¹⁴ + 1 advanced by one bit: its state, and the bit it gives. -/
def prbsStep (v : Nat) : Nat × Nat :=
  let b := (v / 2 ^ 14 ^^^ v / 2 ^ 13) % 2
  ((v * 2 + b) % 2 ^ 15, b)

/-- The scrambler bytes from a state on, one for each of `n` positions; the first bit is the byte's most significant (log
entry 36). -/
def scramble : Nat → Nat → List Nat
  | 0, _ => []
  | n + 1, v =>
    let r := (List.range 8).foldl (fun (a : Nat × Nat) _ => let s := prbsStep a.1; (s.1, a.2 * 2 + s.2)) (v, 0)
    r.2 :: scramble n r.1

/-- The scrambler bytes of positions 11 to 1022 (R158). -/
def scrambler : List Nat := scramble 1012 0x7FFF

/-- The byte a data character stands for under a scrambler byte. -/
def descrambleChar : LaneChar → Nat → LaneChar
  | .dat b, x => .dat (b ^^^ BitVec.ofNat 8 x)
  | c, _ => c

/-- The positions that are scrambled (R158). -/
def scrambled (p : Nat) : Bool := (11 ≤ p && p ≤ 1013) || (1019 ≤ p && p ≤ 1022)

/-- A superframe with the scrambler taken off, or put on (R158). -/
def descrambled (cs : List LaneChar) : List LaneChar :=
  cs.take 11 ++ (List.zip (cs.drop 11) (scrambler.zip (List.range 1012))).map (fun e =>
    if scrambled (e.2.2 + 11) then descrambleChar e.1 e.2.1 else e.1) ++ cs.drop 1023

/-- A data character's value. -/
def charByte? : LaneChar → Option Byte
  | .dat b => some b
  | _ => none

/-- The data bytes of a run of characters. -/
def dataBytes (cs : List LaneChar) : List Byte := cs.filterMap charByte?

/-- CRC-8 with polynomial 0x07 (R159). -/
def crc8 (bs : List Byte) : Nat :=
  bs.foldl (fun c b => (List.range 8).foldl (fun c _ =>
    if c ≥ 128 then (c * 2 % 256) ^^^ 0x07 else c * 2) (c ^^^ b.toNat)) 0

/-- CRC-16 with polynomial 0x1021 and initial value 0xFFFF (R159). -/
def crc16 (bs : List Byte) : Nat :=
  bs.foldl (fun c b => (List.range 8).foldl (fun c _ =>
    if c ≥ 32768 then (c * 2 % 65536) ^^^ 0x1021 else c * 2) (c ^^^ b.toNat * 256)) 0xFFFF

/-- A header's fields (R155). -/
structure SfHeader where
  seq : Nat
  occ : Nat
  lock : Nat
  typ : Nat
  pos : Nat
  groups : Nat
  deriving DecidableEq, Repr

/-- Bytes 0–6 of a header. -/
def SfHeader.bytes (h : SfHeader) : List Byte :=
  beBytes 2 h.seq ++ beBytes 1 (h.lock * 16 + h.occ) ++ beBytes 1 (h.pos * 16 + h.typ) ++ beBytes 3 h.groups

/-- The header that eight bytes spell. -/
def headerOf (bs : List Byte) : SfHeader :=
  let b := fun k => beVal (slice k 1 bs)
  ⟨beVal (bs.take 2), b 2 % 16, b 2 / 16, b 3 % 16, b 3 / 16, beVal (slice 4 3 bs)⟩

/-- GROUPS of segment `i`. -/
def SfHeader.group (h : SfHeader) (i : Nat) : Nat := bits h.groups (6 * i) 6

/-- Where segment `i` begins (R154). -/
def segmentStart (i : Nat) : Nat := [11, 262, 513, 764].getD i 0

/-- Segment `i` of a superframe. -/
def segment (cs : List LaneChar) (i : Nat) : List LaneChar := slice (segmentStart i) 250 cs

/-- Where a control character must stand (R154). -/
def fixedChars : List (Nat × LaneChar) :=
  [(0, k285), (1, k277), (10, k281), (261, k281), (512, k281), (763, k281), (1023, k297)]

/-- The link-control slot is five K23.7, or K28.0 and four data characters (R160). -/
def goodSlot (cs : List LaneChar) : Bool :=
  cs == List.replicate 5 k237 || (cs.take 1 == [k280] && (dataBytes (cs.drop 1)).length == 4)

/-- A character of a segment may stand there: data or stuffing. -/
def inSegment : LaneChar → Bool
  | .dat _ => true
  | c => c == k237

/-- Check 2 of R165. -/
def goodFraming (cs : List LaneChar) : Bool :=
  fixedChars.all (fun e => cs[e.1]? == some e.2) && (dataBytes (slice 2 8 cs)).length == 8 &&
    (List.range 4).all (fun i => (segment cs i).all inSegment) && (dataBytes (slice 1014 4 cs)).length == 4 &&
    goodSlot (slice 1018 5 cs)

/-- A segment as R156 has it: its data characters and then stuffing, or, in a fill superframe, zeros. -/
def goodSegment (h : SfHeader) (seg : List LaneChar) (i : Nat) : Bool :=
  if h.typ = 2 then (dataBytes seg).length == 250 && (dataBytes seg).all (· == 0#8)
  else (dataBytes (seg.take (5 * h.group i))).length == 5 * h.group i &&
    seg.drop (5 * h.group i) == List.replicate (250 - 5 * h.group i) k237

/-- A Causeway superframe's check 4 (R457): TYPE 4, OCC and SRC_LOCK, FIRST with nothing above it, and data in every position of
the segments; `k` is the link that it arrives on. -/
def goodCsw (k : Nat) (h : SfHeader) (cs : List LaneChar) : Bool :=
  h.typ == 4 && h.occ == 15 && h.lock == 0 && h.groups / 2 ^ 20 == 0 && (h.groups / 2 ^ 8 % 4096 < 4000 || h.groups / 2 ^ 8 == 0xFFF) &&
    h.groups % 256 < 4 && h.groups % 2 == k && (List.range 4).all fun i => (dataBytes (segment cs i)).length == 250

/-- Check 4 of R165. -/
def goodLength (h : SfHeader) (cs : List LaneChar) : Bool :=
  (h.typ == 1 || (h.typ == 2 && h.groups == 0 && h.occ == 0)) &&
    (List.range 4).all fun i => h.group i ≤ 50 && (bit h.occ i || h.group i == 0) && goodSegment h (segment cs i) i

/-- The data bytes over which the payload CRC is computed (R159). -/
def payloadBytes (cs : List LaneChar) : List Byte := (List.range 4).flatMap fun i => dataBytes (segment cs i)

/-- A code violation: no character of the code, or a control character that no superframe uses (R153). -/
def violation : LaneChar → Bool
  | .bad => true
  | .ctl k => !([k285, k277, k281, k237, k280, k297].contains (.ctl k))
  | .dat _ => false

/-- What the checks of R165 say of a superframe on receiver `n`: the header of an accepted superframe with its descrambled characters, or
the number of the check that failed first. -/
def checkSuperframe (n : Nat) (cs : List LaneChar) : (SfHeader × List LaneChar) ⊕ Nat :=
  let h := headerOf (dataBytes (slice 2 8 cs))
  let ds := descrambled cs
  if cs.length ≠ 1024 ∨ cs.any violation then .inr 1
  else if !goodFraming cs then .inr 2
  else if crc8 h.bytes ≠ beVal (dataBytes (slice 9 1 cs)) then .inr 3
  else if !(if n < 384 then goodLength h ds else goodCsw ((n - 384) / 4) h ds) then .inr 4
  else if crc32c (payloadBytes ds) ≠ leVal (dataBytes (slice 1014 4 ds)) then .inr 5
  else .inl (h, ds)

/-- A superframe's characters (R154–R159): the header, the words of each segment, and the four bytes of a link-control
fragment if there is one. -/
def superframe (h : SfHeader) (words : List (List Nat)) (fragment : Option (List Byte)) : List LaneChar :=
  let dat := fun (bs : List Byte) => bs.map LaneChar.dat
  let seg := fun i =>
    if h.typ = 2 then dat (zeros 250)
    else
      let bs := packWords (words.getD i [])
      dat bs ++ List.replicate (250 - bs.length) k237
  let body := (List.range 4).flatMap fun i => if h.typ = 2 then zeros 250 else packWords (words.getD i [])
  let slot := match fragment with
    | some bs => k280 :: dat bs
    | none => List.replicate 5 k237
  descrambled ([k285, k277] ++ dat (h.bytes ++ beBytes 1 (crc8 h.bytes)) ++ [k281] ++ seg 0 ++ [k281] ++ seg 1 ++ [k281] ++
    seg 2 ++ [k281] ++ seg 3 ++ dat (beBytes 4 (crc32c body)).reverse ++ slot ++ [k297])

/-! ### Receive states (R166–R172) -/

/-- RX_STATE of a lane: 0 DOWN, 1 TRAINING, 2 ALIGNING, 3 UP, 4 DEGRADED. -/
def Dev.laneState (d : Dev) (n : Nat) : Nat := d.get F.REED_LANE_STATUS_RX_STATE n

/-- The lane is UP or DEGRADED. -/
def Dev.laneUp (d : Dev) (n : Nat) : Bool := d.laneState n ≥ 3

/-- The bundle of lanes 4b to 4b + 3 is enabled. -/
def Dev.bundleOn (d : Dev) (b : Nat) : Bool := bit (d.get F.REED_BUNDLE_EN_EN (b / 32)) (b % 32)

/-- Ingest sees the four sub-channels of the lane as they now are (R172); a bundle that has not formed yet is not lost. -/
def Dev.feedLane (d : Dev) (n : Nat) : Dev := d.each (List.range 4) fun d i =>
  let lost := !d.laneUp n || !bit (d.get F.REED_LANE_STATUS_OCC n) i ||
    (d.bundleOn (n / 4) && d.get F.REED_BUNDLE_STATUS_STATE (n / 4) == 3)
  d.setFeeder (4 * n + i) lost (bit (d.get F.REED_LANE_STATUS_SRC_LOCK n) i)

/-- The lanes of a bundle. -/
def bundleLanes (b : Nat) : List Nat := (List.range 4).map (4 * b + ·)

/-- How far the starts of the superframes of equal SEQ lie apart, in characters (R177). -/
def Dev.bundleSkew (d : Dev) (b : Nat) : Nat :=
  let o := d.hget H.reedOffset (4 * b)
  let rel := (bundleLanes b).map fun n => toSigned 26 (serialSub 26 (d.hget H.reedOffset n) o)
  ((rel.foldl max 0) - (rel.foldl min 0)).toNat

/-- Why the bundle cannot be formed: 0 it can, 1 lane state or rate, 2 POS order, 3 skew (R177). -/
def Dev.bundleReason (d : Dev) (b : Nat) : Nat :=
  if (bundleLanes b).any fun n => !d.laneUp n || d.get F.REED_LANE_STATUS_RATE n != 3 then 1
  else if (bundleLanes b).any fun n => d.get F.REED_LANE_STATUS_POS n != n % 4 then 2
  else if d.bundleSkew b > 8 then 3
  else 0

/-- A formed bundle is lost (R178). -/
def Dev.loseBundle (d : Dev) (b mask : Nat) : Dev :=
  let d := ((d.set F.REED_BUNDLE_STATUS_STATE b 3).set F.REED_BUNDLE_STATUS_LOST_MASK b mask).hset H.bundleLostAt b (d.clock.core + 1)
  let d := d.set F.REED_BUNDLE_STATUS_LOSSES b (min 65535 (d.get F.REED_BUNDLE_STATUS_LOSSES b + 1))
  d.raise (128 + 4 * b) [1, 3, mask, d.get F.REED_BUNDLE_STATUS_SKEW b]

/-- A bundle that is not formed forms, or reports why it does not (R177). -/
def Dev.formBundle (d : Dev) (b : Nat) : Dev :=
  let skew := d.get F.REED_BUNDLE_STATUS_SKEW b
  let r := d.bundleReason b
  let d := d.set F.REED_BUNDLE_STATUS_REASON b r
  if r = 0 then ((d.hset H.bundleTold b 0).set F.REED_BUNDLE_STATUS_STATE b 2).raise (128 + 4 * b) [2, 2, 0, skew]
  else
    let d := if d.get F.REED_BUNDLE_STATUS_STATE b = 0 then d.set F.REED_BUNDLE_STATUS_STATE b 1 else d
    if (bundleLanes b).all fun n => d.laneUp n then
      if d.hget H.bundleTold b == r then d
      else (d.hset H.bundleTold b r).raise (128 + 4 * b) [3, d.get F.REED_BUNDLE_STATUS_STATE b, r, skew]
    else d.hset H.bundleTold b 0

/-- Another lane leaves in the cycle in which the bundle was lost: the one BUNDLE_LOST of that cycle carries it too (R178). -/
def Dev.widenLoss (d : Dev) (b left : Nat) : Dev :=
  let mask := d.get F.REED_BUNDLE_STATUS_LOST_MASK b
  if d.hget H.bundleLostAt b ≠ d.clock.core + 1 ∨ left ||| mask = mask then d
  else
    ((d.unraise (128 + 4 * b) 1).set F.REED_BUNDLE_STATUS_LOST_MASK b (left ||| mask)).raise (128 + 4 * b)
      [1, 3, left ||| mask, d.get F.REED_BUNDLE_STATUS_SKEW b]

/-- The lanes of a bundle that are neither UP nor DEGRADED, as a mask. -/
def Dev.lanesLeft (d : Dev) (b : Nat) : Nat := wordOfBits ((List.range 4).filter fun k => !d.laneUp (4 * b + k))

/-- The bundle's state follows its lanes (R177, R178). -/
def Dev.reviewBundle (d : Dev) (b : Nat) : Dev :=
  if !d.bundleOn b then (d.set F.REED_BUNDLE_STATUS_STATE b 0).set F.REED_BUNDLE_STATUS_REASON b 0
  else
    let up := (bundleLanes b).all fun n => d.laneUp n && d.hget H.reedOffset n != 0
    let d := if up then d.set F.REED_BUNDLE_STATUS_SKEW b (min 15 (d.bundleSkew b)) else d
    if d.get F.REED_BUNDLE_STATUS_STATE b = 2 then
      if d.lanesLeft b != 0 || d.bundleSkew b > 8 then d.loseBundle b (d.lanesLeft b) else d
    else if d.get F.REED_BUNDLE_STATUS_STATE b = 3 then (d.widenLoss b (d.lanesLeft b)).formBundle b
    else d.formBundle b

/-- The bundle and every sub-channel that the lane's state bears on follow it; for a Causeway lane its link does. -/
def Dev.laneFollows (d : Dev) (n : Nat) : Dev :=
  if n ≥ 384 then d.reviewLink ((n - 384) / 4) else
  let was := d.get F.REED_BUNDLE_STATUS_STATE (n / 4)
  let d := d.reviewBundle (n / 4)
  if d.get F.REED_BUNDLE_STATUS_STATE (n / 4) == was then d.feedLane n else d.each (bundleLanes (n / 4)) Dev.feedLane

/-- A set of fragments that the receiver does not accept is discarded and counted (R160). -/
def Dev.discardLcm (d : Dev) (n : Nat) : Dev := (d.bump C.REED_LCM_DISCARDED n).bump K.REED_LCM_SETS n

/-- Change the messages in progress. -/
def Dev.onReed (d : Dev) (f : Reed → Reed) : Dev := { d with reed := f d.reed }

/-- The receive part of a lane. -/
def Dev.lcmPart (d : Dev) (n : Nat) : Option LcmPart := d.reed.rx.find? fun p => p.lane == n

/-- The receive part of a lane replaced, or dropped. -/
def Dev.setLcm (d : Dev) (n : Nat) (p : Option LcmPart) : Dev :=
  d.onReed fun r => { r with rx := p.toList ++ r.rx.filter fun q => q.lane != n }

/-- A message in progress ends without its last fragment; the fragments that its set still has belong to the set that is counted
here (R160). -/
def Dev.breakLcm (d : Dev) (n : Nat) : Dev :=
  match d.lcmPart n with
  | some p => if p.bytes = [] then d else (d.setLcm n (some ⟨n, [], p.next / 4 * 4 + 3⟩)).discardLcm n
  | none => d

/-- A receive lane enters a state, without what follows from it (R166): leaving DEGRADED clears its flags, and leaving
alignment behind clears what the superframes gave.  Between UP and DEGRADED the failed starts and the reading interval go on. -/
def Dev.enterLane (d : Dev) (n state cause : Nat) : Dev :=
  let kept := d.laneState n ≥ 3 && state ≥ 3
  let d := if d.hget H.reedSince n = d.clock.core ∧ d.hget H.reedPrev n ≠ d.hget H.reedSince n then d
    else (d.hset H.reedFrom n (d.laneState n)).hset H.reedPrev n (d.hget H.reedSince n)
  let d := ((d.set F.REED_LANE_STATUS_RX_STATE n state).hset H.reedSince n d.clock.core).hset H.reedAlign n d.clock.core
  let d := (d.hset H.reedGood n 0).hset H.reedRun n 0
  let d := if kept then d else (d.hset H.reedBad n 0).hset H.reedDiscards n 0
  let d := if state = 4 then d else (d.set F.REED_LANE_STATUS_DEG_FOM n 0).set F.REED_LANE_STATUS_DEG_DISC n 0
  let d := if state ≤ 2 then
      (((((d.breakLcm n).setLcm n none).hset H.reedSeq n 0).hset H.reedOffset n 0).hset H.reedMissed n 0).hset H.reedStart n 0
    else d
  let d := if state ≤ 1 then
      ((d.set F.REED_LANE_STATUS_COMMA_ALIGNED n 0).hset H.reedCdr n 0).set F.REED_LANE_STATUS_RATE n 0
    else d
  let d := if state = 0 then d.set F.REED_LANE_STATUS_CAUSE n cause else d
  let d := if state = 1 then (d.hset H.reedTry n 3).hset H.reedTrySince n d.clock.core else d
  if n < 384 then d.raise (128 + n) [0, state, if state = 0 then cause else 0, d.get F.REED_LANE_EYE_FOM n] else d

/-- A receive lane changes its state (R166). -/
def Dev.laneTo (d : Dev) (n state cause : Nat) : Dev :=
  if d.laneState n == state then d else (d.enterLane n state cause).laneFollows n

/-- The state in which the lane began the CORE cycle in progress, as one of its transitions may have been taken in it already. -/
def Dev.cycleState (d : Dev) (n : Nat) : Nat :=
  if d.hget H.reedSince n = d.clock.core ∧ d.hget H.reedPrev n ≠ d.hget H.reedSince n then d.hget H.reedFrom n else d.laneState n

/-- Since when the lane was in that state. -/
def Dev.cycleSince (d : Dev) (n : Nat) : Nat :=
  if d.hget H.reedSince n = d.clock.core ∧ d.hget H.reedPrev n ≠ d.hget H.reedSince n then d.hget H.reedPrev n else d.hget H.reedSince n

/-- A condition that leads to DOWN holds.  It prevails over another transition of the same CORE cycle, and of several causes of DOWN
in one cycle the lowest is recorded (R167): the one RX_STATE event of the cycle is that of the transition taken. -/
def Dev.laneDown (d : Dev) (n cause : Nat) : Dev :=
  if d.cycleState n = d.laneState n then d.laneTo n 0 cause
  else if d.laneState n ≠ 0 then (d.unraise (128 + n) 0).laneTo n 0 cause
  else if cause < d.get F.REED_LANE_STATUS_CAUSE n then
    let d := (d.unraise (128 + n) 0).set F.REED_LANE_STATUS_CAUSE n cause
    if n < 384 then d.raise (128 + n) [0, 0, cause, d.get F.REED_LANE_EYE_FOM n] else d
  else d

/-- The receiver is enabled: by RX_EN, on a Causeway lane by CSW_CFG.EN. -/
def Dev.rxEnabled (d : Dev) (n : Nat) : Bool :=
  if n < 384 then d.get F.REED_LANE_CFG_RX_EN n == 1 else d.get F.CSW_CFG_EN == 1

/-- A count of a Reed lane; a Causeway lane keeps none. -/
def Dev.laneBump (d : Dev) (c : Ctr) (n : Nat) (k : Nat := 1) : Dev := if n < 384 then d.bump c n k else d

/-- A lane in DOWN trains: enabled, with a signal, and 10 ms in DOWN (R166). -/
def Dev.trainingStart (d : Dev) (n : Nat) : Dev :=
  if d.laneState n == 0 && d.rxEnabled n && d.hget H.reedSignal n == 1 then
    (d.passToCore (d.hget H.reedSince n + 10000000)).laneTo n 1 0
  else d

/-- A signal appears: a lane that has been down for 10 ms trains at once. -/
def Dev.signalDetected (d : Dev) (n : Nat) : Dev :=
  let d := d.hset H.reedSignal n 1
  if d.hget H.reedSince n + 10000000 ≤ d.clock.core then d.trainingStart n else d

/-- 200 ms in TRAINING (R166). -/
def Dev.trainingTimeout (d : Dev) (n : Nat) : Dev :=
  let due := d.cycleSince n + 200000000
  if d.cycleState n = 1 ∧ (d.laneState n = 1 ∨ due ≤ d.clock.core) then (d.passToCore due).laneDown n 5 else d

/-- 50 ms in ALIGNING under automatic alignment (R166).  A lane that receives only idle stays in ALIGNING until superframes arrive (R168),
and its 50 ms count from the last reading that saw idle (DEDUCED, log entry 329). -/
def Dev.alignmentTimeout (d : Dev) (n : Nat) : Dev :=
  let due := d.hget H.reedAlign n + 50000000
  if d.laneState n = 2 ∧ d.get F.REED_LANE_CTRL_AUTO_ALIGN n = 1 ∧ d.get F.REED_LANE_STATUS_IDLE_SEEN n = 0 then
    (d.passToCore due).laneDown n 6
  else if d.laneState n = 3 ∧ d.cycleState n = 2 ∧ d.get F.REED_LANE_CTRL_AUTO_ALIGN n = 1 ∧ d.cycleSince n + 50000000 = d.clock.core then
    d.laneDown n 6
  else d

/-- The signal is lost (R166). -/
def Dev.signalLost (d : Dev) (n : Nat) : Dev :=
  let d := (d.hset H.reedSignal n 0).hset H.reedCdr n 0
  if d.cycleState n ≥ 1 then d.laneDown n 1 else d

/-- The CDR loses lock (R166). -/
def Dev.cdrLost (d : Dev) (n : Nat) : Dev :=
  let d := (d.hset H.reedCdr n 0).hset H.reedGood n 0
  if d.cycleState n ≥ 2 then d.laneDown n 2 else d

/-- 10 ms at one rate without lock: detection tries the next of 16.0, 8.0 and 4.0 Gbaud (R169). -/
def Dev.rateTryEnd (d : Dev) (n : Nat) : Dev :=
  if d.laneState n == 1 && d.get F.REED_LANE_CFG_RX_RATE n == 0 && d.hget H.reedCdr n == 0 then
    let d := d.passToCore (d.hget H.reedTrySince n + 10000000)
    (d.hset H.reedTry n (if d.hget H.reedTry n ≤ 1 then 3 else d.hget H.reedTry n - 1)).hset H.reedTrySince n d.clock.core
  else d

/-- The reading's part in the eye registers (R168): adaptation may be frozen, and idle holds the DFE taps at 0
even then. -/
def Dev.readEye (d : Dev) (n : Nat) (f : FomIn) : Dev :=
  let d := d.set F.REED_LANE_EYE_FOM n f.fom.toNat
  let d := d.set F.REED_LANE_EYE_FOM_MIN n (min f.fom.toNat (d.get F.REED_LANE_EYE_FOM_MIN n))
  let d := d.set F.REED_LANE_STATUS_IDLE_SEEN n (ofBool f.idle)
  let d := if f.idle then (d.set F.REED_LANE_DFE_TAPS n 0).hset H.reedAlign n d.clock.core else d
  if d.get F.REED_LANE_CTRL_ADAPT_FREEZE n == 1 then d
  else (d.set F.REED_LANE_EYE_CTLE n f.ctle).set F.REED_LANE_DFE_TAPS n (if f.idle then 0 else f.taps)

/-- The lock that the reading shows, and the rate it was found at (R169). -/
def Dev.readLock (d : Dev) (n : Nat) (f : FomIn) : Dev :=
  let d := d.hset H.reedCdr n (ofBool f.cdr)
  let rate := if d.get F.REED_LANE_CFG_RX_RATE n == 0 then d.hget H.reedTry n else d.get F.REED_LANE_CFG_RX_RATE n
  let d := if f.cdr && d.laneState n == 1 then d.set F.REED_LANE_STATUS_RATE n rate else d
  if f.idle && f.cdr && d.laneState n == 2 && d.get F.REED_LANE_CTRL_AUTO_ALIGN n == 1 then
    d.set F.REED_LANE_STATUS_COMMA_ALIGNED n 1
  else d

/-- The consecutive good readings and the discards of the interval after a reading. -/
def Dev.readCounts (d : Dev) (n good : Nat) : Dev := (d.hset H.reedGood n good).hset H.reedDiscards n 0

/-- A FOM reading of a lane that is not DOWN (R166, R167). -/
def Dev.fomReading (d : Dev) (n : Nat) (f : FomIn) : Dev :=
  if d.cycleState n = 0 then d
  else
    let st := d.cycleState n
    let d := (d.readEye n f).readLock n f
    let fom := f.fom.toNat
    let discards := d.hget H.reedDiscards n
    let good := d.hget H.reedGood n + 1
    if !f.cdr && st ≥ 2 then d.laneDown n 2
    else if fom < 20 then d.laneDown n 3
    else if d.laneState n ≠ st then d.readCounts n 0
    else if st = 1 then
      let k := if f.cdr && fom ≥ 40 then good else 0
      if k ≥ 10 then d.laneTo n 2 0 else d.readCounts n k
    else if st = 3 then
      if fom < 40 then ((d.laneTo n 4 0).set F.REED_LANE_STATUS_DEG_FOM n 1).readCounts n 0 else d.readCounts n 0
    else if st = 4 then
      let k := if fom ≥ 40 && discards ≤ d.get F.REED_DEG_CFG_DEG_DISCARDS then good else 0
      if k ≥ 1000 then (d.laneTo n 3 0).readCounts n 0 else d.readCounts n k
    else d.readCounts n 0

/-! ### Receiving a superframe (R160, R161, R165, R171) -/

/-- A GAP marker for every sub-channel, with the superframes missing by SEQ, 0 where that is unknown (R171): the line in progress of
every slot that a sub-channel of the lane feeds is damaged (R190). -/
def Dev.gap (d : Dev) (n missing : Nat) : Dev :=
  if n ≥ 384 then d
  else (d.hset H.reedGap n (missing + 1)).each ((List.range 4).flatMap fun i => d.slotsOf (4 * n + i)) fun d s => d.hset H.ingGap s 1

/-- The words that the receiver hands ingest (R171). -/
def Dev.hand (d : Dev) (n : Nat) (h : SfHeader) (cs : List LaneChar) : Dev :=
  if h.typ ≠ 1 then d
  else
    let ws : List SubWords := ((List.range 4).filter fun i => bit h.occ i).map fun i =>
      ⟨4 * n + i, unpackWords (dataBytes (segment cs i))⟩
    d.onReed fun r => { r with handed := ws ++ r.handed.filter fun w => w.sub / 4 != n }

/-- The four words of a 16-byte message stored at one of the lane's message registers. -/
def Dev.storeLcm (d : Dev) (f : Fld) (n : Nat) (m : List Byte) : Dev :=
  d.each (List.range 4) fun d k => d.set f (4 * n + k) (beVal (slice (4 * k) 4 m))

/-- A message of four fragments (R160, R161). -/
def Dev.lcmMessage (d : Dev) (n : Nat) (m : List Byte) : Dev :=
  let typ := beVal (m.take 1)
  if crc16 (m.take 14) ≠ beVal (m.drop 14) ∨ typ = 0 ∨ (4 ≤ typ ∧ typ < 0x80) then d.discardLcm n
  else
    let d := (d.bump C.REED_LCM_ACCEPTED n).bump K.REED_LCM_SETS n
    if typ = 1 then d.storeLcm F.REED_LCM_RX_IDENT_WORD n m
    else if typ = 2 then d.storeLcm F.REED_LCM_RX_SUBCH_WORD n m
    else if typ = 3 then d.storeLcm F.REED_LCM_RX_ROLE_WORD n m
    else (d.storeLcm F.REED_LCM_RX_VENDOR_WORD n m).raise (128 + n) [4, d.laneState n, typ, beVal (slice 1 1 m)]

/-- A fragment that belongs to no message in progress: the first of a message, or part of a set to be discarded (R160). -/
def Dev.lcmFresh (d : Dev) (n seq : Nat) (bs : List Byte) : Dev :=
  if seq % 4 = 0 then d.setLcm n (some ⟨n, bs, seq + 1⟩)
  else if (d.lcmPart n).any fun p => p.bytes == [] && p.next == seq / 4 * 4 + 3 then d
  else (d.setLcm n (some ⟨n, [], seq / 4 * 4 + 3⟩)).discardLcm n

/-- The link-control slot of an accepted superframe (R160). -/
def Dev.lcmSlot (d : Dev) (n seq : Nat) (slot : List LaneChar) : Dev :=
  let frag := if slot.take 1 == [k280] then some (dataBytes (slot.drop 1)) else none
  match frag, d.lcmPart n with
  | none, _ => d.breakLcm n
  | some bs, none => d.lcmFresh n seq bs
  | some bs, some p =>
    if p.bytes = [] then d.lcmFresh n seq bs
    else if p.next = seq ∧ seq % 4 = 3 then (d.setLcm n none).lcmMessage n (p.bytes ++ bs)
    else if p.next = seq then d.setLcm n (some ⟨n, p.bytes ++ bs, seq + 1⟩)
    else (d.breakLcm n).lcmFresh n seq bs

/-- A Causeway lane's superframe for its link superframe, or the lack of one (R457, R458). -/
def Dev.setLaneIn (d : Dev) (n : Nat) (x : Option LaneSf) : Dev :=
  if n < 384 then d else d.onCsw fun c => { c with laneIn := c.laneIn.set (n - 384) x }

/-- A superframe is discarded at check `k` (R165, R166).  In ALIGNING the receiver looks for a start anew (DEDUCED, log entry 330). -/
def Dev.sfDiscard (d : Dev) (n k : Nat) : Dev :=
  let d := match k with
    | 1 => d.laneBump C.REED_DISC_CODE n
    | 2 => d.laneBump C.REED_DISC_FRAMING n
    | 3 => d.laneBump C.REED_DISC_HEADER n
    | 4 => d.laneBump C.REED_DISC_LENGTH n
    | _ => d.laneBump C.REED_DISC_PCRC n
  let d := d.setLaneIn n none
  let d := ((d.breakLcm n).hset H.reedRun n 0).hset H.reedDiscards n (d.hget H.reedDiscards n + 1)
  let d := if d.laneState n = 2 then (d.gap n 0).hset H.reedStart n 0 else d.gap n 1
  let d := (d.hset H.reedMissed n (d.hget H.reedMissed n + 1)).hset H.reedBad n (if k = 2 then d.hget H.reedBad n + 1 else 0)
  if d.hget H.reedBad n ≥ 8 && d.laneUp n then d.laneTo n 2 0
  else if d.laneState n == 3 && d.hget H.reedDiscards n > d.get F.REED_DEG_CFG_DEG_DISCARDS then
    (d.laneTo n 4 0).set F.REED_LANE_STATUS_DEG_DISC n 1
  else d

/-- The sequence of an accepted superframe (R165, R171): the run of consecutive ones, the superframes missing by SEQ, and those of them
that were never framed. -/
def Dev.sfSeq (d : Dev) (n seq : Nat) : Dev :=
  let last := d.hget H.reedSeq n
  let missing := serialSub 16 seq last
  let unframed := missing - d.hget H.reedMissed n
  let d := (d.hset H.reedRun n (if last != 0 && missing = 0 then d.hget H.reedRun n + 1 else 1)).hset H.reedSeq n (seq + 1)
  let d := if last = 0 then d.gap n 0
    else if missing > 0 then (d.gap n missing).laneBump C.REED_SEQ_MISSING n unframed
    else d
  d.hset H.reedMissed n 0

/-- A superframe is accepted. -/
def Dev.sfAccept (d : Dev) (n start : Nat) (h : SfHeader) (cs : List LaneChar) : Dev :=
  let d := ((d.laneBump C.REED_SF_ACCEPTED n).hset H.reedBad n 0).sfSeq n h.seq
  let d := ((d.set F.REED_LANE_STATUS_POS n h.pos).set F.REED_LANE_STATUS_OCC n h.occ).set F.REED_LANE_STATUS_SRC_LOCK n h.lock
  let d := d.hset H.reedOffset n (serialSub 26 start (1024 * h.seq) + 1)
  let d := if n < 384 then (d.hand n h cs).lcmSlot n h.seq (slice 1018 5 cs)
    else d.setLaneIn n (some ⟨h.seq, h.groups / 2 ^ 8, payloadBytes cs⟩)
  if d.laneState n == 2 && d.hget H.reedRun n ≥ 4 then d.laneTo n 3 0 else d.laneFollows n

/-- The superframe starts where one is expected: a multiple of 1,024 characters after the last accepted start (R165). -/
def Dev.startExpected (d : Dev) (n start : Nat) : Bool :=
  d.hget H.reedStart n == 0 || (d.hget H.reedStart n ≤ start && (start + 1 - d.hget H.reedStart n) % 1024 == 0)

/-- The running disparity at the first character: that after the last superframe, when this one follows it, else that of its comma. -/
def Dev.rxDisparity (d : Dev) (n start : Nat) (gs : List Nat) : Bool :=
  if d.hget H.reedNext n = start + 1 then d.hget H.reedPlus n == 1 else commaDisparity gs

/-- What the receiver makes of 1,024 code groups: those that do not start where a superframe is expected have their control characters at
other positions (check 2). -/
def Dev.checkGroups (d : Dev) (n start : Nat) (gs : List Nat) : (SfHeader × List LaneChar) ⊕ Nat :=
  let cs := (decodeGroups (d.rxDisparity n start gs) gs).1
  if d.startExpected n start || cs.any violation then checkSuperframe n cs else .inr 2

/-- A superframe arrives as 1,024 code groups; `start` is the time of its first character, in characters. -/
def Dev.superframeIn (d : Dev) (n start : Nat) (gs : List Nat) : Dev :=
  if d.laneState n < 2 then d
  else
    let r := d.checkGroups n start gs
    let plus := (decodeGroups (d.rxDisparity n start gs) gs).2
    let d := (d.laneBump C.REED_SF_FRAMED n).hset H.reedNext n (start + 1025) |>.hset H.reedPlus n (ofBool plus)
    let d := if d.get F.REED_LANE_CTRL_AUTO_ALIGN n == 1 then d.set F.REED_LANE_STATUS_COMMA_ALIGNED n 1 else d
    let d := d.set F.REED_LANE_STATUS_IDLE_SEEN n 0
    match r with
    | .inl (h, ds) => (d.hset H.reedStart n (start + 1)).sfAccept n start h ds
    | .inr k => d.sfDiscard n k

/-! ### Control (R166, R170, R161) -/

/-- REED_LANE_CTRL of a lane. -/
def laneCtrlOff (n : Nat) : Nat := 0x1000004 + 0x100000 * (n / 96) + 0x2000 * (n % 96)

/-- A BITSLIP write moves the boundary by one UI, under alignment by hand in ALIGNING (R170); `comma` says whether commas
are then seen on the boundary. -/
def Dev.bitslip (d : Dev) (n : Nat) (comma : Bool) : Dev :=
  if d.get F.REED_LANE_CTRL_AUTO_ALIGN n == 1 || d.laneState n != 2 then d
  else (d.hset H.reedSlip n (d.hget H.reedSlip n + 1)).set F.REED_LANE_STATUS_COMMA_ALIGNED n (ofBool comma)

/-- A write of REED_LANE_CTRL: its stored bits, and what its write-only bits do. -/
def Dev.writeLaneCtrl (d : Dev) (n w : Nat) (comma : Bool) : Dev :=
  let d := ((d.set F.REED_LANE_CTRL_ADAPT_FREEZE n (fieldOf F.REED_LANE_CTRL_ADAPT_FREEZE w)).set F.REED_LANE_CTRL_TX_INVERT n
    (fieldOf F.REED_LANE_CTRL_TX_INVERT w)).set F.REED_LANE_CTRL_RX_INVERT n (fieldOf F.REED_LANE_CTRL_RX_INVERT w)
  let d := d.set F.REED_LANE_CTRL_AUTO_ALIGN n (fieldOf F.REED_LANE_CTRL_AUTO_ALIGN w)
  let d := if bit w 6 then d.hset H.lcmPending n 1 else d
  let d := if bit w 2 then d.bitslip n comma else d
  if bit w 1 ∧ d.cycleState n ≠ 0 then d.laneDown n 7 else d

/-- CSW_CFG.EN took a value: lanes that are no longer enabled go down. -/
def Dev.causewayEnabled (d : Dev) : Dev :=
  if d.get F.CSW_CFG_EN == 1 then d else d.each ((List.range 8).map (384 + ·)) fun d n => d.laneTo n 0 0

/-! ### Transmitting (R162, R174–R179) -/

/-- A sub-channel that comes to exceed its capacity, or exceeds that of a new rate too, is raised (R176). -/
def Dev.capacityReview (d : Dev) (i : Nat) : Dev :=
  let excess := if d.overCapacity i then 1 + d.get F.REED_TXGRP_CFG_RATE (i / 96) else 0
  let was := d.hget H.txOver i
  let d := d.hset H.txOver i excess
  if excess ≠ 0 ∧ excess ≠ was then
    d.raise (128 + i / 4) [6, d.get F.REED_LANE_STATUS_TX_STATE (i / 4), i % 4, d.get F.REED_TXGRP_CFG_RATE (i / 96)]
  else d

/-- The sub-channels of all enabled destinations are looked at. -/
def Dev.capacityReviewAll (d : Dev) : Dev :=
  d.each (unionNat (d.insts F.XPT_DEST_CFG_ENABLE) (d.hinsts H.txOver)) Dev.capacityReview

/-- A transmit group resumes superframes at its new rate (R176). -/
def Dev.txgrpResume (d : Dev) (g : Nat) : Dev :=
  if d.hget H.txIdle g == 0 then d
  else ((d.hset H.txIdle g 0).each ((List.range 24).map (24 * g + ·)) Dev.txReview).capacityReviewAll

/-- What a commit changed on the Reed lanes (R166, R176, R177). -/
def Dev.reedApplied (d old : Dev) : Dev :=
  let touched := unionNat (d.insts F.REED_LANE_CFG_RX_EN) (unionNat (old.insts F.REED_LANE_CFG_RX_EN)
    (unionNat (d.insts F.REED_LANE_CFG_RX_RATE) (old.insts F.REED_LANE_CFG_RX_RATE)))
  let bundles := (List.range 96).filter fun b => d.bundleOn b != old.bundleOn b
  let lanes := unionNat (touched.filter fun n =>
    d.get F.REED_LANE_CFG_RX_EN n != old.get F.REED_LANE_CFG_RX_EN n ||
      d.get F.REED_LANE_CFG_RX_RATE n != old.get F.REED_LANE_CFG_RX_RATE n) (bundles.flatMap bundleLanes)
  let down := lanes.filter fun n => d.laneState n != 0
  let d := d.each down fun d n => d.enterLane n 0 (if d.get F.REED_LANE_CFG_RX_EN n == 0 then 0 else 7)
  let d := d.each (lanes.foldl (fun l n => insertNat (n / 4) l) []) Dev.reviewBundle
  let d := d.each lanes Dev.feedLane
  let groups := (List.range 16).filter fun g => d.get F.REED_TXGRP_CFG_RATE g != old.get F.REED_TXGRP_CFG_RATE g
  let d := d.each groups fun d g => (d.hset H.txIdle g 1).hset H.txIdleSince g d.clock.core
  let d := d.each ((List.range 96).filter fun b => d.txBundled (4 * b) && !old.txBundled (4 * b)) fun d b => d.startSeq (4 * b)
  (d.txReviewAll).capacityReviewAll

/-- The transmit part of a lane's link-control message. -/
def Dev.lcmTx (d : Dev) (n : Nat) : Option LcmPart := d.reed.tx.find? fun p => p.lane == n

/-- A message goes to the lane with its counter and its CRC-16 (R159, R161). -/
def Dev.sendLcm (d : Dev) (n typ : Nat) (content : List Byte) : Dev :=
  let k := d.hget H.lcmCounter n
  let m := beBytes 1 typ ++ beBytes 1 k ++ (content ++ zeros 12).take 12
  let p : LcmPart := ⟨n, m ++ beBytes 2 (crc16 m), 0⟩
  (d.hset H.lcmCounter n (k + 1)).onReed fun r => { r with tx := p :: r.tx.filter fun q => q.lane != n }

/-- SEAT as sampled at the rise of POR_N (R451). -/
def Dev.seat (d : Dev) : Nat := d.hget H.pinSeat

/-- The lane owes a ROLE message: after a change of role or claim state, or when the last is close to 1 ms old (R162). -/
def Dev.owesRole (d : Dev) (n : Nat) : Bool :=
  d.hget H.txRoleAt n == 0 || d.hget H.txTurn n != d.hget H.roleTurn || d.hget H.txRoleAt n + 980000 ≤ d.clock.core

/-- The message that starts in the superframe at hand, if one does: ROLE before IDENT before LCM_SEND's (R161, R162). -/
def Dev.startLcm (d : Dev) (n : Nat) : Dev :=
  if d.owesRole n then
    let claim := d.get F.CSW_ROLE_CLAIM_OUT + 2 * d.get F.CSW_ROLE_CLAIM_IN
    let d := d.sendLcm n 3 (beBytes 1 d.seat ++ beBytes 1 (d.get F.CSW_ROLE_ROLE) ++ beBytes 1 claim ++ beBytes 6 d.tick.frame)
    (d.hset H.txRoleAt n (d.clock.core + 1)).hset H.txTurn n (d.hget H.roleTurn)
  else if d.hget H.txIdentAt n == 0 || d.hget H.txIdentAt n + 15900000 ≤ d.clock.core then
    (d.sendLcm n 1 (beBytes 1 0 ++ beBytes 2 n ++ beBytes 1 d.seat ++ beBytes 2 Config.identMaker ++
      beBytes 4 Config.identSerial)).hset H.txIdentAt n (d.clock.core + 1)
  else if d.hget H.lcmPending n == 1 then
    let m := (List.range 4).flatMap fun k => beBytes 4 (d.get F.REED_LANE_LCM_TX_WORD (4 * n + k))
    (d.sendLcm n (beVal (m.take 1)) (slice 2 12 m)).hset H.lcmPending n 0
  else d

/-- The fragment of the superframe with that SEQ, and the device that has sent it. -/
def Dev.nextFragment (d : Dev) (n seq : Nat) : Dev × Option (List Byte) :=
  let d := if seq % 4 = 0 && (d.lcmTx n).isNone then d.startLcm n else d
  match d.lcmTx n with
  | none => (d, none)
  | some p =>
    if p.next ≠ seq % 4 then (d, none)
    else
      let rest : List LcmPart := if p.next = 3 then [] else [{ p with next := p.next + 1 }]
      (d.onReed fun r => { r with tx := rest ++ r.tx.filter fun q => q.lane != n }, some (slice (4 * p.next) 4 p.bytes))

/-- The words that the destination's word rate makes due in one superframe, in units of 1/100,100 word (R175): a superframe has 1,024
characters of 10 bits, and the word rate is 27, 148.5 or 297 Mword/s, divided by 1.001 at rates that are (PRESUMED, log entry 331). -/
def Dev.wordsDue (d : Dev) (j : Nat) : Nat :=
  let fmt := d.get F.XPT_DEST_STATUS_FORMAT j
  let slow := 2 ^ (3 - d.get F.REED_TXGRP_CFG_RATE (j / 96))
  if fmt < 0x10 then 1728 * 1001 * slow
  else (if fmt < 0x20 then 9504 else 19008) * (if rateD (d.get F.XPT_DEST_STATUS_RATE j) = 1001 then 1000 else 1001) * slow

/-- The words that sub-channel `j` puts into the superframe (R175): the whole groups that are due and that the FIFO holds. -/
def Dev.takeWords (d : Dev) (j : Nat) : Dev × List Nat :=
  if !d.txCarries j then (d.dropQueued j, [])
  else
    let ws := d.fifoOf j
    let due := min (208 * 100100) (d.hget H.txCredit j + d.wordsDue j)
    let k := min (min 50 (due / 400400)) (ws.length / 4)
    let d := d.hset H.txCredit j (min (8 * 100100) (due - 400400 * k))
    ((d.bump C.REED_TX_WORDS_SENT (j / 4) (4 * k)).setFifo j (ws.drop (4 * k)), ws.take (4 * k))

/-- POS of a lane: its place in a transmit bundle (R179), else 0xF. -/
def Dev.txPos (d : Dev) (n : Nat) : Nat := if d.txBundled n then n % 4 else 15

/-- The words of the four segments of a lane's next superframe. -/
def Dev.takeLane (d : Dev) (n : Nat) : Dev × List (List Nat) :=
  (List.range 4).foldl (fun (a : Dev × List (List Nat)) i => let r := a.1.takeWords (4 * n + i); (r.1, a.2 ++ [r.2])) (d, [])

/-- The sub-channels of a lane for which a condition holds, as a mask. -/
def laneMask (n : Nat) (f : Nat → Bool) : Nat := wordOfBits ((List.range 4).filter fun i => f (4 * n + i))

/-- The header of the lane's next superframe, its segments holding `words` (R155, R156, R174): a fill superframe while no destination
of the lane is enabled. -/
def Dev.txHeader (d : Dev) (n : Nat) (words : List (List Nat)) : SfHeader :=
  ⟨d.hget H.txSeq n, laneMask n d.txCarries, laneMask n fun j => d.destSource j != 0x7FF && d.hget H.destLost j == 0,
    if laneMask n d.destOn = 0 then 2 else 1, d.txPos n,
    ((List.range 4).map fun i => (words.getD i []).length / 4 * 2 ^ (6 * i)).sum⟩

/-- The transmit lane sends its next superframe, coded under the running disparity of the one before. -/
def Dev.superframeOut (d : Dev) (n : Nat) : Dev :=
  if d.get F.REED_LANE_STATUS_TX_STATE n != 2 then d
  else
    let h := (d.takeLane n).1.txHeader n (d.takeLane n).2
    let f := ((d.takeLane n).1.hset H.txSeq n (h.seq + 1)).nextFragment n h.seq
    let g := encodeChars (f.1.hget H.txPlus n == 1) (superframe h (d.takeLane n).2 f.2)
    (f.1.hset H.txPlus n (ofBool g.2)).emit (.superframe n g.1)

/-! ### The rows -/

def execReedSuperframe (lane : Fin 392) (start : Nat) (groups : List Nat) (s : State) :
    Host.Outcome State Fault Refusal := lift (·.superframeIn lane start groups) s
def execFomReading (lane : Fin 392) (f : FomIn) (s : State) : Host.Outcome State Fault Refusal := lift (·.fomReading lane f) s
def execLaneTrainingStart (lane : Fin 392) (s : State) : Host.Outcome State Fault Refusal := lift (·.trainingStart lane) s
def execTrainingTimeout (lane : Fin 392) (s : State) : Host.Outcome State Fault Refusal := lift (·.trainingTimeout lane) s
def execAlignmentTimeout (lane : Fin 392) (s : State) : Host.Outcome State Fault Refusal := lift (·.alignmentTimeout lane) s
def execLossOfSignal (lane : Fin 392) (s : State) : Host.Outcome State Fault Refusal := lift (·.signalLost lane) s
def execCdrUnlock (lane : Fin 392) (s : State) : Host.Outcome State Fault Refusal := lift (·.cdrLost lane) s
def execRateTryEnd (lane : Fin 384) (s : State) : Host.Outcome State Fault Refusal := lift (·.rateTryEnd lane) s
def execSignalDetected (lane : Fin 392) (s : State) : Host.Outcome State Fault Refusal := lift (·.signalDetected lane) s

/-- A write with RETRAIN set. -/
def execRetrain (m : Fin 8) (lane : Fin 384) (v : Word) (s : State) : Host.Outcome State Fault Refusal :=
  lift (fun d => d.busWrite m (laneCtrlOff lane) (v.toNat ||| 2) fun d => d.writeLaneCtrl lane (v.toNat ||| 2) false) s

/-- A write with BITSLIP set. -/
def execBitslip (m : Fin 8) (lane : Fin 384) (v : Word) (comma : Bool) (s : State) : Host.Outcome State Fault Refusal :=
  lift (fun d => d.busWrite m (laneCtrlOff lane) (v.toNat ||| 4) fun d => d.writeLaneCtrl lane (v.toNat ||| 4) comma) s

/-- A write with LCM_SEND set. -/
def execLcmSend (m : Fin 8) (lane : Fin 384) (v : Word) (s : State) : Host.Outcome State Fault Refusal :=
  lift (fun d => d.busWrite m (laneCtrlOff lane) (v.toNat ||| 64) fun d => d.writeLaneCtrl lane (v.toNat ||| 64) false) s
def execReedSuperframeSend (lane : Fin 384) (_content : Computed) (s : State) : Host.Outcome State Fault Refusal :=
  lift (·.superframeOut lane) s
def execTxgrpResume (group : Fin 16) (s : State) : Host.Outcome State Fault Refusal := lift (·.txgrpResume group) s

end Sys2Proof.Machine
end

