-- ==== Sys2Proof/Machine/Ptp.lean ====
section
/-! DEFINITION. Network time (R323–R347): the choice of the master, received messages and offsets, the servo and its step limit,
the transmit timestamp queue, and the PTP commands. -/

namespace Sys2Proof.Machine

/-! ### Interfaces -/

/-- What interface `i` holds. -/
def Dev.pif (d : Dev) (i : Nat) : PtpIf := d.ptp.getD i PtpIf.reset

def Dev.setPif (d : Dev) (i : Nat) (f : PtpIf → PtpIf) : Dev := { d with ptp := d.ptp.modify i f }

/-- The interface is enabled. -/
def Dev.ptpOn (d : Dev) (i : Nat) : Bool := d.get F.PTP_IF_CFG_EN i == 1

/-- PTP_STATUS.SERVO: 0 DISABLED, 1 LISTENING, 2 UNCALIBRATED, 3 LOCKED, 4 HOLDOVER, 5 STEP_PENDING (R341). -/
def Dev.servo (d : Dev) : Nat := d.get F.PTP_STATUS_SERVO

/-- The selected interface. -/
def Dev.ifSel (d : Dev) : Nat := d.get F.PTP_STATUS_IF_SEL

/-- A parent is selected. -/
def Dev.hasParent (d : Dev) : Bool := d.get F.PTP_STATUS_GM_VALID == 1

/-- The firmware's servo disciplines the PHC: the Lath runs and PTP is not leased (R342). -/
def Dev.servoActs (d : Dev) : Bool := d.lathRuns && d.holder 14 == 7

/-- The servo enters a state (R341), which is raised; only LOCKED qualifies the PHC to the reference block. -/
def Dev.enterServo (d : Dev) (st : Nat) : Dev :=
  if d.servo = st then d
  else
    let d := (d.set F.PTP_STATUS_SERVO 0 st).hset H.ptpGood 0 0
    let d := if st = 2 then d.setPif d.ifSel fun p => { p with syncAt := d.clock.core } else d
    (d.raise 99 [st, d.ifSel]).reviewInput 4

/-! ### Choosing the master (R326, R327) -/

/-- The nanoseconds of `2^l` seconds. -/
def logSeconds (l : Int) : Nat := if l < 0 then 10 ^ 9 / 2 ^ l.natAbs else 10 ^ 9 * 2 ^ l.natAbs

/-- The CORE cycle at which an Announce is no longer qualified: after three announce intervals of its sender (R326). -/
def Announce.limit (a : Announce) : Nat := a.at_ + 3 * logSeconds a.logInterval

/-- What the dataset comparison of IEEE 1588 compares, most significant first: priority1, class, accuracy, variance, priority2 and
grandmasterIdentity, then, for one grandmaster, stepsRemoved and the sender (R326). -/
def Announce.order (a : Announce) : List Nat :=
  [a.priority1, a.clockClass, a.accuracy, a.variance, a.priority2, a.gm, a.steps, a.sender]

/-- The first list is smaller in dictionary order. -/
def dictLt : List Nat → List Nat → Bool
  | a :: l, b :: m => a < b || (a == b && dictLt l m)
  | _, _ => false

/-- The better of two. -/
def better (a b : Announce) : Announce := if dictLt b.order a.order then b else a

/-- The best of some Announces. -/
def bestOf : List Announce → Option Announce
  | [] => none
  | a :: l => some (l.foldl better a)

/-- The qualified Announces of interface `i`. -/
def Dev.heard (d : Dev) (i : Nat) : List Announce :=
  if d.ptpOn i then (d.pif i).announces.filter fun a => d.clock.core < a.limit else []

/-- The best Announce of an interface: its sender is the interface's own best master. -/
def Dev.bestHere (d : Dev) (i : Nat) : Option Announce := bestOf (d.heard i)

/-- The Announce that wins: on a standby the mirrored parent's while it is visible (R468), else by comparison (R326). -/
def Dev.winner (d : Dev) : Option Announce :=
  let all := (List.range 4).flatMap d.heard
  let mirrored := if d.role == 1 then all.filter fun a => some a.gm == d.csw.mirroredParent else []
  bestOf (if mirrored = [] then all else mirrored)

/-- The interface that is selected for a grandmaster: the lowest RANK, then the lowest index, of those that hear it (R326). -/
def Dev.pickIf (d : Dev) (gm : Nat) : Nat :=
  let hear := (List.range 4).filter fun i => (d.heard i).any fun a => a.gm == gm
  match hear with
  | [] => 0
  | i :: l => l.foldl (fun b j => if d.get F.PTP_IF_CFG_RANK j < d.get F.PTP_IF_CFG_RANK b then j else b) i

/-- The grandmaster that PTP_GM_ID names. -/
def Dev.gmId (d : Dev) : Nat := d.get F.PTP_GM_ID_HI_ID * 2 ^ 32 + d.get F.PTP_GM_ID_LO_ID

/-- The port whose messages an interface follows. -/
def Dev.parentPort (d : Dev) (i : Nat) : Option Announce :=
  if d.hasParent && i == d.ifSel then
    bestOf ((d.heard i).filter fun a => a.gm == d.gmId)
  else d.bestHere i

/-- An interface's STATE, raised when it changes. -/
def Dev.setIfState (d : Dev) (i : Nat) : Dev :=
  let st := if !d.ptpOn i then 0 else if d.hasParent && d.ifSel == i then 3 else if d.heard i = [] then 1 else 2
  if d.get F.PTP_IF_STATUS_STATE i = st then d else (d.set F.PTP_IF_STATUS_STATE i st).raise 101 [i, st]

/-- The parent and the selected interface are chosen again (R326, R327), and the servo follows (R341). -/
def Dev.chooseParent (d : Dev) : Dev :=
  let d := { d with ptp := d.ptp.map fun (p : PtpIf) => { p with announces := p.announces.filter fun a => d.clock.core < a.limit } }
  let st := d.servo
  let d := match d.winner with
    | none =>
      let d := d.set F.PTP_STATUS_GM_VALID 0 0
      if (List.range 4).all fun i => !d.ptpOn i then d.enterServo 0
      else if st = 2 || st = 3 then d.enterServo 4
      else if st = 0 then d.enterServo 1
      else d
    | some a =>
      let i := d.pickIf a.gm
      let old := d.gmId
      let had := d.hasParent
      let d := ((d.set F.PTP_STATUS_GM_VALID 0 1).set F.PTP_STATUS_IF_SEL 0 i).set F.PTP_GM_ID_LO_ID 0 a.gm |>.set F.PTP_GM_ID_HI_ID 0 (a.gm / 2 ^ 32)
      let d := if old = a.gm then d else d.raise 96 (words2 old ++ words2 a.gm)
      if st = 5 || (had && old = a.gm && st != 0 && st != 1) then d else d.enterServo 2
  d.each (List.range 4) Dev.setIfState

/-- An interface's earliest Announce loses qualification (R326). -/
def Dev.announceTimeout (d : Dev) (i : Nat) : Dev :=
  match (d.pif i).announces with
  | [] => d
  | a :: l =>
    let d := d.passToCore (l.foldl (fun m b => min m b.limit) a.limit)
    if d.lathRuns then d.chooseParent else d

/-- No Sync was used on the selected interface for three announce intervals of the parent (R341). -/
def Dev.syncTimeout (d : Dev) : Dev :=
  if !d.lathRuns || !(d.servo == 2 || d.servo == 3) then d
  else
    match d.parentPort d.ifSel with
    | some a => (d.passToCore ((d.pif d.ifSel).syncAt + 3 * logSeconds a.logInterval)).enterServo 4
    | none => d.enterServo 4

/-! ### The step limit (R335–R340) -/

/-- PTP_STEP_LIMIT in 2⁻¹⁶ ns. -/
def Dev.stepLimit (d : Dev) : Nat := 65536 * d.get F.PTP_STEP_LIMIT_NS

/-- PTP_STEP_PEND. -/
def Dev.stepPend (d : Dev) : Int := d.split F.PTP_STEP_PEND_LO_FRAC F.PTP_STEP_PEND_MID_NS F.PTP_STEP_PEND_HI_NS

def Dev.setStepPend (d : Dev) (v : Int) : Dev := d.setSplit F.PTP_STEP_PEND_LO_FRAC F.PTP_STEP_PEND_MID_NS F.PTP_STEP_PEND_HI_NS v

/-- PHC and TIME step together by the same signed value (R340). -/
def Dev.applyStep (d : Dev) (cause : Nat) (v : Int) : Dev := ((d.phcMove v).stepTime 4 v).raise 98 (cause :: signedWords v)

/-- An adjustment of the PHC: the first one sets it (R338), one beyond the limit is refused (R337), any other is added. -/
def Dev.adjust (d : Dev) (v : Int) : Dev :=
  let d := d.advanceMacs
  if d.get F.PTP_STATUS_SET == 0 then (d.set F.PTP_STATUS_SET 0 1).applyStep 0 v
  else if v.natAbs > d.stepLimit then ((d.setStepPend v).raise 97 (d.ifSel :: signedWords v)).enterServo 5
  else d.phcMove v

/-- The pending step is accepted (R339). -/
def Dev.acceptStep (d : Dev) : Dev :=
  if d.servo != 5 then d
  else
    let v := d.stepPend
    ((d.advanceMacs.setStepPend 0).applyStep 1 v).enterServo 2

/-- PTP_STEP_LIMIT takes a value, 0 as 1; at or above the pending step it ends STEP_PENDING (R339). -/
def Dev.writeStepLimit (d : Dev) (w : Nat) : Dev :=
  let d := d.set F.PTP_STEP_LIMIT_NS 0 (max 1 w)
  if d.servo == 5 && d.stepPend.natAbs ≤ d.stepLimit then d.enterServo 2 else d

/-! ### The servo (R330, R336, R341) -/

/-- The servo corrects the PHC by an adjustment and steers RATE, by a law that the manual leaves open (log entry 70). -/
def Dev.servoAdjust (d : Dev) (v : Int) : Dev :=
  let d := (d.setSplit F.PTP_PHC_ADJ_LO_FRAC F.PTP_PHC_ADJ_MID_NS F.PTP_PHC_ADJ_HI_NS v).adjust v
  if d.servo = 5 then d
  else
    let (rate, d) := d.fresh
    (d.phcRate rate).phcWritten

/-- PTP time is valid from the first entry to LOCKED: TIME takes the PHC's value, as an accepted time step (R37, R341). -/
def Dev.timeValidNow (d : Dev) : Dev :=
  if d.hget H.ptpValid == 1 then d
  else
    let v := (d.phc : Int) - d.clock.time16
    let d := (((d.hset H.ptpValid 0 1).addBuild 7 v).moveTime v).timeStepped
    if d.running then d else d.set F.TICK_STATUS_TIME_VALID 0 1

/-- The state that an offset of the selected interface leads to (R341).  In UNCALIBRATED the first offset after the entry is
not among the 16, as the worked examples of chapters 13 and 14 time them (log entry 88): the count begins at 1. -/
def Dev.servoState (d : Dev) (offset : Int) : Dev :=
  let d := if d.servo = 4 then d.enterServo 2 else d
  let good := offset.natAbs ≤ 100 * 65536
  let n := d.hget H.ptpGood
  let d := d.hset H.ptpGood 0 (if n = 0 ∨ ¬ good then 1 else min 17 (n + 1))
  if d.servo = 2 && d.hget H.ptpGood == 17 then (d.enterServo 3).timeValidNow
  else if d.servo = 3 && offset.natAbs > 1000 * 65536 && offset.natAbs ≤ d.stepLimit then (d.enterServo 2).hset H.ptpGood 0 1
  else d

/-- A new offset of the selected interface (R336, R337, R341). -/
def Dev.servoOffset (d : Dev) (offset : Int) : Dev :=
  if d.servo = 5 then d.setStepPend (-offset)
  else if d.servo < 2 then d
  else
    let d := d.servoState offset
    if d.servoActs then d.servoAdjust (-offset) else d

/-- A signed value stored in a register pair or register. -/
def Dev.publish (d : Dev) (i : Nat) (offset mpd : Int) : Dev :=
  let n := ofSigned 64 offset
  ((d.set F.PTP_IF_OFFSET_LO_OFFSET i n).set F.PTP_IF_OFFSET_HI_OFFSET i (n / 2 ^ 32)).set F.PTP_IF_MPD_MPD i (ofSigned 32 mpd)

/-- t2 − t1 − cS of a Sync is known (R330): with a mean path delay it gives an offset. -/
def Dev.syncMeasured (d : Dev) (i : Nat) (forward : Int) : Dev :=
  let d := d.setPif i fun p => { p with forward := some forward, syncAt := d.clock.core }
  match (d.pif i).mpd with
  | none => if i == d.ifSel && d.servo = 4 then d.enterServo 2 else d
  | some mpd =>
    let offset := forward - mpd - toSigned 32 (d.get F.PTP_IF_ASYM_A i)
    let d := d.publish i offset mpd
    if i == d.ifSel && d.hasParent then d.servoOffset offset else d

/-- The Delay_Resp path gives a mean path delay once t3 and t4 are both known (R330). -/
def Dev.pathMeasured (d : Dev) (i : Nat) : Dev :=
  let p := d.pif i
  match p.t3, p.t4, p.forward with
  | some t3, some t4, some f =>
    let mpd := (f + (t4 - t3)) / 2
    (d.setPif i fun p => { p with mpd := some mpd, reqSeq := none, t3 := none, t4 := none }).set F.PTP_IF_MPD_MPD i (ofSigned 32 mpd)
  | _, _, _ => d

/-! ### Received messages (R331, R333) -/

/-- The interface of a port: the enabled one bound to it, else the lowest one that names it. -/
def Dev.ifOf (d : Dev) (port : Nat) : Option Nat :=
  ((List.range 4).find? fun i => d.ptpOn i && d.get F.PTP_IF_CFG_BIND i == port).orElse fun _ =>
    (List.range 4).find? fun i => d.get F.PTP_IF_CFG_BIND i == port

/-- A two-step Sync that no Follow_Up reached ends with cause FOLLOW_UP when the next Sync arrives (R331). -/
def Dev.dropWaiting (d : Dev) (i : Nat) : Dev :=
  match (d.pif i).sync with
  | some w =>
    let d := if w.counted then d else d.bump C.PTP_IF_RX_FOLLOW_UP i
    d.setPif i fun p => { p with sync := none }
  | none => d

/-- Check 4 of R333. -/
def Dev.fromParent (d : Dev) (i : Nat) (x : PtpMsg) : Bool :=
  x.typ == 0xB || (d.hasParent && i == d.ifSel && (d.parentPort i).map Announce.sender == some x.source && (x.typ != 9 || x.mine))

/-- The message is used for the interface's own offset: it comes from the interface's own best master. -/
def Dev.ownMaster (d : Dev) (i : Nat) (x : PtpMsg) : Bool :=
  (d.parentPort i).map Announce.sender == some x.source && (x.typ != 9 || x.mine)

/-- The receive timestamp: the PHC at the SFD, `ago` units of 10 ps ago, less the correction of the mode (R328). -/
def Dev.rxStamp (d : Dev) (port ago : Nat) : Int := (d.stampPhc : Int) - tenPs ago - tenPs (d.corrections port).2

/-- A Sync: measured at once, or kept for its Follow_Up (R331). -/
def Dev.rxSync (d : Dev) (i port ago : Nat) (x : PtpMsg) (counted : Bool) : Dev :=
  let t2 := d.rxStamp port ago
  let d := d.dropWaiting i
  if x.twoStep then d.setPif i fun p => { p with sync := some ⟨x.seq, t2, x.corr, counted⟩ }
  else d.syncMeasured i (t2 - 65536 * x.stamp - x.corr)

/-- A Follow_Up: with the Sync of the same sequenceId it gives t1 (R331). -/
def Dev.rxFollowUp (d : Dev) (i : Nat) (x : PtpMsg) : Dev :=
  match (d.pif i).sync with
  | some w =>
    if w.seq != x.seq then d
    else
      let d := if w.counted then d else d.bump C.PTP_IF_RX_USED i
      (d.setPif i fun p => { p with sync := none }).syncMeasured i (w.t2 - 65536 * x.stamp - w.corr - x.corr)
  | none => d

/-- A Delay_Resp gives t4 (R330). -/
def Dev.rxDelayResp (d : Dev) (i : Nat) (x : PtpMsg) : Dev :=
  if (d.pif i).reqSeq = some x.seq then (d.setPif i fun p => { p with t4 := some (65536 * (x.stamp : Int) - x.corr) }).pathMeasured i else d

/-- An Announce is qualified from its receipt (R326). -/
def Dev.rxAnnounce (d : Dev) (i : Nat) (x : PtpMsg) : Dev :=
  let a : Announce := ⟨x.gm % 2 ^ 64, x.priority1, x.clockClass, x.accuracy, x.variance, x.priority2, x.steps, x.source, x.logInterval, d.clock.core⟩
  let d := d.setPif i fun p =>
    let rest := p.announces.filter fun b => b.sender != x.source
    { p with announces := if x.steps < 255 then a :: rest else rest }
  d.chooseParent

/-- What the firmware does with a message that reaches it. -/
def Dev.ptpDeliver (d : Dev) (i port ago : Nat) (x : PtpMsg) (counted : Bool) : Dev :=
  if !d.lathRuns then d
  else
    match x.typ with
    | 0 => d.rxSync i port ago x counted
    | 8 => d.rxFollowUp i x
    | 9 => d.rxDelayResp i x
    | 0xB => d.rxAnnounce i x
    | _ => d

/-- A PTP message, whose SFD passed `ago` units of 10 ps ago, reaches the PTP block on a port: the checks of R333 in order, each counted.  A two-step Sync is counted when
its Follow_Up or the next Sync comes. -/
def Dev.ptpMessage (d : Dev) (port ago : Nat) (x : PtpMsg) : Dev :=
  match d.ifOf port with
  | none => d
  | some i =>
    let d := d.bump C.PTP_IF_RX_ALL i
    if !d.ptpOn i then d.bump C.PTP_IF_RX_UNBOUND i
    else if x.version != 2 || !x.whole || !([0, 1, 8, 9, 0xB].contains x.typ) then d.bump C.PTP_IF_RX_MALFORMED i
    else if x.domain != d.get F.PTP_CFG_DOMAIN then d.bump C.PTP_IF_RX_DOMAIN i
    else if !d.fromParent i x then
      let d := d.bump C.PTP_IF_RX_NOT_PARENT i
      if i != d.ifSel && d.ownMaster i x then d.ptpDeliver i port ago x true else d
    else if x.typ == 0 && x.twoStep && d.lathRuns then d.ptpDeliver i port ago x false
    else (d.bump C.PTP_IF_RX_USED i).ptpDeliver i port ago x true

/-! ### Delay_Req and the transmit timestamp queue (R324, R332, R343, R344) -/

/-- An enabled interface sends a Delay_Req. -/
def Dev.delayReqSend (d : Dev) (i : Nat) : Dev :=
  if !d.lathRuns || !d.ptpOn i then d
  else
    let n := d.get F.PTP_IF_CFG_BIND i
    let seq := (d.pif i).nextSeq
    let d := d.setPif i fun p => { p with nextSeq := (seq + 1) % 65536, reqSeq := some seq, t3 := none, t4 := none }
    d.offerFrame n ⟨if d.get F.PTP_IF_CFG_TRANSPORT i == 0 then 90 else 64, d.now10, .delayReq i seq⟩

/-- The words of an instant in the layout of PTP_TXQ: NS, SEC[31:0], and SEC[47:32] with FRAC. -/
def stampWords (t : Nat) : Nat × Nat × Nat :=
  let ns := t / 65536
  (ns % 10 ^ 9, ns / 10 ^ 9 % 2 ^ 32, ns / 10 ^ 9 / 2 ^ 32 % 65536 * 65536 + t % 65536)

/-- A read of PTP_TXQ_POP removes the oldest entry and latches its words (R344): the word read, and what follows. -/
def Dev.popTxq (d : Dev) (q : Nat) : Nat × Dev :=
  match d.txq.getD q [] with
  | [] => (0, d)
  | e :: l =>
    let (ns, sec, hi) := stampWords e.time
    let d := ({ d with txq := d.txq.set q l }).bump C.PTP_TXQ_READ q
    let d := ((d.set F.PTP_TXQ_NS_NS q ns).set F.PTP_TXQ_SEC_SEC q sec).set F.PTP_TXQ_SECHI_SEC_HI q (hi / 65536) |>.set F.PTP_TXQ_SECHI_FRAC q hi
    (2 ^ 31 + e.port * 2 ^ 24 + e.seq % 65536 * 2 ^ 8 + e.typ % 16 * 2 ^ 4, d)

/-- The firmware takes t3 of an outstanding Delay_Req from the entry it read (R332). -/
def Dev.takeT3 (d : Dev) (e : TxStamp) : Dev :=
  match (List.range 4).find? fun i => d.ptpOn i && d.get F.PTP_IF_CFG_BIND i == e.port && (d.pif i).reqSeq == some e.seq with
  | some i => (d.setPif i fun p => { p with t3 := some e.time }).pathMeasured i
  | none => d

/-- A master reads PTP_TXQ_POP of a queue; master 0 is the Lath. -/
def Dev.readTxq (d : Dev) (m q : Nat) : Dev :=
  if m = 0 && !d.lathRuns then d
  else
    let d := d.each (List.range 34) fun d n => if txQueueOf n = q then d.macAdvance n else d
    d.busRead m (0x900400 + 0x20 * q) fun d =>
      let r := d.popTxq q
      match (d.txq.getD q []).head? with
      | some e => if m = 0 then (r.1, r.2.takeT3 e) else r
      | none => r

/-! ### Writes -/

/-- Another enabled interface has the same BIND. -/
def Dev.bindTaken (d : Dev) (i bind : Nat) : Bool := (List.range 4).any fun j => j != i && d.ptpOn j && d.get F.PTP_IF_CFG_BIND j == bind

/-- BIND as it is stored. -/
def storedBind (w : Nat) : Nat := if bits w 16 6 < 34 then bits w 16 6 else 0

/-- PTP_IF_CFG of an interface takes a word; a changed binding forgets what it heard. -/
def Dev.writeIfCfg (d : Dev) (i w : Nat) : Dev :=
  let on := bits w 31 1
  let bind := storedBind w
  if on = 1 && d.bindTaken i bind then d
  else
    let same := d.get F.PTP_IF_CFG_EN i = on && d.get F.PTP_IF_CFG_BIND i = bind && d.get F.PTP_IF_CFG_TRANSPORT i = bits w 15 1
    let d := ((((d.set F.PTP_IF_CFG_EN i on).set F.PTP_IF_CFG_BIND i bind).set F.PTP_IF_CFG_TRANSPORT i (bits w 15 1)).set
      F.PTP_IF_CFG_ONE_STEP_TX i (bits w 14 1)).set F.PTP_IF_CFG_RANK i (bits w 8 4)
    let d := if same then d else d.setPif i fun _ => PtpIf.reset
    if d.lathRuns then d.chooseParent.netSync else d

/-- DOMAIN takes a value; what was heard in another domain no longer counts. -/
def Dev.writeDomain (d : Dev) (w : Nat) : Dev :=
  if d.get F.PTP_CFG_DOMAIN = w % 256 then d
  else
    let d := { d.set F.PTP_CFG_DOMAIN 0 w with ptp := d.ptp.map fun (p : PtpIf) => { p with announces := [] } }
    if d.lathRuns then d.chooseParent else d

/-- A write of PTP_PHC_CTRL: ADJ_GO adds PTP_PHC_ADJ to the PHC (R335). -/
def Dev.writePhcCtrl (d : Dev) (w : Nat) : Dev :=
  if bit w 0 then d.adjust (d.split F.PTP_PHC_ADJ_LO_FRAC F.PTP_PHC_ADJ_MID_NS F.PTP_PHC_ADJ_HI_NS) else d

/-- The effect of a write at a PTP register's base offset; none where it acts by its access types. -/
def Dev.ptpWrite (d : Dev) (base i w : Nat) : Option Dev :=
  match base with
  | 0x900000 => some (d.writeDomain w)
  | 0x900008 => some (d.writeStepLimit w)
  | 0x90000C => some (if bit w 0 then d.acceptStep else d)
  | 0x90002C => some (d.phcRate w).phcWritten
  | 0x900030 => some (d.set F.PTP_PHC_ADJ_LO_FRAC 0 (w / 65536)).phcWritten
  | 0x900034 => some (d.set F.PTP_PHC_ADJ_MID_NS 0 w).phcWritten
  | 0x900038 => some (d.set F.PTP_PHC_ADJ_HI_NS 0 w).phcWritten
  | 0x90003C => some (d.writePhcCtrl w)
  | 0x900100 => some (d.writeIfCfg i w)
  | _ => none

/-- PTP_PHC_LO, _MID and _HI. -/
def Dev.phcWords (d : Dev) : Nat × Nat × Nat :=
  let (ns, sec, hi) := stampWords d.phc
  (hi % 65536 * 65536 + hi / 65536, ns, sec)

/-- PTP_IF_FIXED of an interface: the corrections of the mode of its port (R329). -/
def Dev.ifFixedView (d : Dev) (i : Nat) : Nat :=
  let c := d.corrections (d.get F.PTP_IF_CFG_BIND i)
  c.1 * 65536 + c.2

/-! ### Commands (R347) -/

/-- PTP_CONFIG (0x0520). -/
def ptpConfigSpec : Spec := { op := 0x0520, pars := [.opt 0x0101 (below 256), .opt 0x0102 any4], units := fun _ => [14] }

def Dev.ptpConfig (d : Dev) (q : Req) : Dev := d.command q ptpConfigSpec fun d ts =>
  let d := if hasTlv ts 0x0101 then d.writeDomain (tlvNum ts 0x0101) else d
  (if hasTlv ts 0x0102 then d.writeStepLimit (tlvNum ts 0x0102) else d).reply q 0x0520 St.ok

/-- PTP_IF_CONFIG (0x0521). -/
def ptpIfConfigSpec : Spec :=
  { op := 0x0521, pars := [.req 0x0101 (below 4), .req 0x0102 any4, .opt 0x0103 any4], units := fun _ => [14] }

def Dev.ptpIfConfig (d : Dev) (q : Req) : Dev := d.command q ptpIfConfigSpec fun d ts =>
  let i := tlvNum ts 0x0101
  let w := tlvNum ts 0x0102
  if bits w 31 1 = 1 && d.bindTaken i (storedBind w) then d.reply q 0x0521 St.badParam [statusDetail (tlvIndex ts 0x0102) 0xFF 0]
  else
    let d := if hasTlv ts 0x0103 then d.set F.PTP_IF_ASYM_A i (tlvNum ts 0x0103) else d
    (d.writeIfCfg i w).reply q 0x0521 St.ok

/-- PTP_STATUS_GET (0x0522). -/
def ptpStatusSpec : Spec := { op := 0x0522 }

def Dev.ptpStatusGet (d : Dev) (q : Req) : Dev := d.command q ptpStatusSpec fun d _ =>
  d.reply q 0x0522 St.ok [data ([w4 (d.storedAt 0x900004), w8 d.gmId, w4 (d.storedAt 0x900010), w4 (d.storedAt 0x900014),
    w4 (d.storedAt 0x900018)] ++ (List.range 4).flatMap fun i => [w4 (d.get F.PTP_IF_STATUS_STATE i),
    w8 (d.get F.PTP_IF_OFFSET_HI_OFFSET i * 2 ^ 32 + d.get F.PTP_IF_OFFSET_LO_OFFSET i), w4 (d.get F.PTP_IF_MPD_MPD i)])]

/-- PTP_STEP_ACCEPT (0x0523): reason 0x30 with no step pending, 0x31 when EXPECT is more than 1,000 ns off. -/
def ptpStepAcceptSpec : Spec := { op := 0x0523, pars := [.opt 0x0101 (num 8 fun _ => true)], units := fun _ => [14] }

def Dev.ptpStepAccept (d : Dev) (q : Req) : Dev := d.command q ptpStepAcceptSpec fun d ts =>
  let off := hasTlv ts 0x0101 && (d.stepPend - 65536 * toSigned 64 (tlvNum ts 0x0101)).natAbs > 65536000
  if d.servo != 5 then d.reply q 0x0523 St.badParam [statusDetail 0xFFFF 0xFF 0x30]
  else if off then d.reply q 0x0523 St.badParam [statusDetail (tlvIndex ts 0x0101) 0xFF 0x31]
  else d.acceptStep.reply q 0x0523 St.ok

/-! ### The rows -/

def execPtpMessageRx (port : Fin 34) (x : PtpMsg) (s : State) : Host.Outcome State Fault Refusal := lift (·.ptpMessage port 0 x) s
def execAnnounceTimeout (iface : Fin 4) (s : State) : Host.Outcome State Fault Refusal := lift (·.announceTimeout iface) s
def execSyncTimeout (s : State) : Host.Outcome State Fault Refusal := lift Dev.syncTimeout s
def execDelayReqSend (iface : Fin 4) (s : State) : Host.Outcome State Fault Refusal := lift (·.delayReqSend iface) s
def execTxqPop (m : Fin 8) (queue : Fin 10) (s : State) : Host.Outcome State Fault Refusal := lift (·.readTxq m queue) s
def execPhcAdjGo (m : Fin 8) (v : Word) (s : State) : Host.Outcome State Fault Refusal :=
  lift (fun d => d.busWrite m 0x90003C v.toNat (·.writePhcCtrl v.toNat)) s
def execStepAcceptWrite (m : Fin 8) (v : Word) (s : State) : Host.Outcome State Fault Refusal :=
  lift (fun d => d.busWrite m 0x90000C v.toNat fun d => if v.toNat % 2 = 1 then d.acceptStep else d) s
def execStepLimitWrite (m : Fin 8) (v : Word) (s : State) : Host.Outcome State Fault Refusal :=
  lift (fun d => d.busWrite m 0x900008 v.toNat (·.writeStepLimit v.toNat)) s
def execPtpConfig (q : Req) (s : State) : Host.Outcome State Fault Refusal := lift (·.ptpConfig q) s
def execPtpIfConfig (q : Req) (s : State) : Host.Outcome State Fault Refusal := lift (·.ptpIfConfig q) s
def execPtpStatusGet (q : Req) (s : State) : Host.Outcome State Fault Refusal := lift (·.ptpStatusGet q) s
def execPtpStepAccept (q : Req) (s : State) : Host.Outcome State Fault Refusal := lift (·.ptpStepAccept q) s

end Sys2Proof.Machine
end

