-- ==== Sys2Proof/Machine/TickCfg.lean ====
section
/-! DEFINITION. Control of the frame tick: start and stop, TICK_CFG, TIME's preset, commits from BAR0 and from COMMIT, and lock
regained (R32, R36, R43–R46, R50–R53). -/

namespace Sys2Proof.Machine

/-! ### Start and stop (R36, R53) -/

/-- The frame whose tick TIME `t16` (2⁻¹⁶ ns) reaches next, at `t16` or after it (R33, R36). -/
def firstFrame (code t16 : Nat) : Nat :=
  let f := frameOf code (t16 / 65536)
  if t16 ≤ 65536 * frameStart code f then f else f + 1

/-- The smallest TIME in ns with block number `b` (R34). -/
def blockStart (b : Nat) : Nat := (b * 1000000 + 2) / 3

/-- The block whose tick TIME `t16` reaches next, at `t16` or after it. -/
def firstBlock (t16 : Nat) : Nat :=
  let b := blockOf (t16 / 65536)
  if t16 ≤ 65536 * blockStart b then b else b + 1

/-- TICK_TIME_PRESET in ns. -/
def Dev.preset (d : Dev) : Nat := d.get F.TICK_TIME_PRESET_MID_NS * 2 ^ 32 + d.get F.TICK_TIME_PRESET_LO_NS

/-- The tick is started (R36, R52, R53): ignored while it runs, refused at a reserved HOUSE_RATE; TIME takes the preset while PTP time
is not valid; the first tick waits for its boundary. -/
def Dev.tickStart (d : Dev) : Dev :=
  if d.running then d
  else if d.rate > 10 then d.raise 37 [0]
  else
    let d := if d.timeValid = 1 then d else d.moveTime ((65536 * d.preset : Nat) - (d.clock.time16 : Nat))
    { d with tick := { d.tick with
      waiting := true, stopping := none, stepped := false
      next := firstFrame d.rate d.clock.time16, nextBlock := firstBlock d.clock.time16 } }

/-- The tick is to stop: at the end of the frame in progress, with its cause; a start that waits is cancelled. -/
def Dev.tickStop (d : Dev) (cause : Nat) : Dev :=
  if d.running then
    { d with tick := { d.tick with stopping := some (d.tick.stopping.getD cause) } }
  else { d with tick := { d.tick with waiting := false } }

/-- A write of TICK_CTRL: STOP prevails (R53). -/
def Dev.writeTickCtrl (d : Dev) (w : Nat) : Dev :=
  if bit w 1 then d.tickStop 0 else if bit w 0 then d.tickStart else d

/-- A write of TICK_CFG (R52). -/
def Dev.writeTickCfg (d : Dev) (w : Nat) : Dev :=
  let rate := fieldOf F.TICK_CFG_HOUSE_RATE w
  let block := fieldOf F.TICK_CFG_BLOCK_RATE w
  if d.running then
    let d := if rate = d.rate then d else d.raise 37 [0]
    if block = d.get F.TICK_CFG_BLOCK_RATE then d else d.raise 37 [4]
  else (d.set F.TICK_CFG_HOUSE_RATE 0 rate).set F.TICK_CFG_BLOCK_RATE 0 block

/-! ### Commits (R43–R46, R117) -/

/-- The groups of a mask whose unit a port does not hold. -/
def Dev.groupsBarred (d : Dev) (port mask : Nat) : Bool := (List.range 12).any fun u => bit mask u && d.holder u != port

/-- TARGET as BAR0 gives it. -/
def Dev.commitTarget (d : Dev) : Nat :=
  d.get F.TICK_COMMIT_FRAME_HI_TARGET * 2 ^ 32 + d.get F.TICK_COMMIT_FRAME_LO_TARGET

/-- A write of TICK_COMMIT by master `m`: GROUPS is stored, and GO issues the commit; the host's write with a group that P0 does not
hold is discarded whole (R117). -/
def Dev.writeTickCommit (d : Dev) (m w : Nat) : Dev :=
  let groups := fieldOf F.TICK_COMMIT_GROUPS w
  if bit w 31 && m == 1 && d.groupsBarred 0 groups then d.unleased 0x700028
  else
    let d := d.set F.TICK_COMMIT_GROUPS 0 groups
    if bit w 31 then
      let n := d.tick.bar0Issued + 1
      let d := { d with tick := { d.tick with bar0Issued := n } }
      (d.set F.TICK_COMMIT_STATUS_STATE 0 1).issueCommit d.commitTarget groups (.bar0 n)
    else d

/-- The lease check comes before that of GROUPS (R112, R117). -/
def commitSpec : Spec :=
  { op := 0x0510
    pars := [Par.frame, .req 0x0101 (num 4 fun g => 1 ≤ g && g < 4096)]
    unheld := fun d port ts => d.groupsBarred port (tlvNum ts 0x0101) }

/-- COMMIT (0x0510). -/
def Dev.commit (d : Dev) (q : Req) : Dev := d.command q commitSpec fun d ts =>
  let groups := tlvNum ts 0x0101
  let target := frameTlv ts
  let taken := (target = 0 ∨ d.tick.frame < target) ∧ d.tick.commits.length < 16
  let d := if taken then d.respond q.port q.src q.tag 0x0510 St.pending [] false else d
  d.issueCommit target groups (.command q.port q.tag q.src)

def tickStatusGetSpec : Spec := { op := 0x0511 }

/-- TICK_STATUS_GET (0x0511). -/
def Dev.tickStatusGet (d : Dev) (q : Req) : Dev := d.command q tickStatusGetSpec fun d _ =>
  d.reply q 0x0511 St.ok
    [data [w8 d.tick.frame, w4 (d.get F.TICK_EPOCH_EPOCH), w4 (d.get F.TICK_CUTOFF_CYCLES), w4 d.timeValid]]

def timePresetSpec : Spec := { op := 0x0512, pars := [.req 0x0101 (num 8 fun _ => true)] }

/-- TIME_PRESET (0x0512). -/
def Dev.timePreset (d : Dev) (q : Req) : Dev := d.command q timePresetSpec fun d ts =>
  if d.running then d.reply q 0x0512 St.badParam [statusDetail 0 0xFF 0]
  else
    let v := tlvNum ts 0x0101
    ((d.set F.TICK_TIME_PRESET_LO_NS 0 v).set F.TICK_TIME_PRESET_MID_NS 0 (v / 2 ^ 32)).reply q 0x0512 St.ok

/-! ### Lock (R31, R32) -/

/-- Bit `k` of CLK_STATUS.LOCK set or cleared, for domain `k + 1`. -/
def Dev.setLock (d : Dev) (k : Nat) (on : Bool) : Dev :=
  let v := d.get F.CLK_STATUS_LOCK
  d.set F.CLK_STATUS_LOCK 0 (if on then v ||| 2 ^ k else if bit v k then v - 2 ^ k else v)

/-- PIX, TIME and AUD are locked. -/
def Dev.tickClocks (d : Dev) : Bool := [1, 12, 13].all fun k => bit (d.get F.CLK_STATUS_LOCK) k

/-- A domain regains lock: transmit lanes whose PLL was lost send again (R174); the firmware may restart a tick that stopped under R38, as `restart` says, once the clocks of the tick are
locked. -/
def Dev.relock (d : Dev) (k : Nat) (restart : Bool) : Dev :=
  let d := d.setLock k true
  let d := if k = 7 then (d.each (List.range 16) fun d g => d.hset H.txPllLost g 0).txReviewAll else d
  if restart && d.lathRuns && d.hget H.tickLost == 1 && d.tickClocks then d.tickStart else d

def execTickStart (m : Fin 8) (v : Word) (s : State) : Host.Outcome State Fault Refusal :=
  lift (fun d => d.busWrite m 0x700004 v.toNat (·.writeTickCtrl v.toNat)) s
def execTickStop (m : Fin 8) (v : Word) (s : State) : Host.Outcome State Fault Refusal :=
  lift (fun d => d.busWrite m 0x700004 v.toNat (·.writeTickCtrl v.toNat)) s
def execTickCfgWrite (m : Fin 8) (v : Word) (s : State) : Host.Outcome State Fault Refusal :=
  lift (fun d => d.busWrite m 0x700000 v.toNat (·.writeTickCfg v.toNat)) s
def execTickCommitGo (m : Fin 8) (v : Word) (s : State) : Host.Outcome State Fault Refusal :=
  lift (fun d => d.busWrite m 0x700028 v.toNat (·.writeTickCommit m v.toNat)) s
def execCommit (q : Req) (s : State) : Host.Outcome State Fault Refusal := lift (·.commit q) s
def execTickStatusGet (q : Req) (s : State) : Host.Outcome State Fault Refusal := lift (·.tickStatusGet q) s
def execTimePreset (q : Req) (s : State) : Host.Outcome State Fault Refusal := lift (·.timePreset q) s
def execRelock (domain : Fin 18) (restart : Bool) (s : State) : Host.Outcome State Fault Refusal := lift (·.relock domain restart) s

end Sys2Proof.Machine
end

