-- ==== Sys2Proof/Machine/Boot.lean ====
section
/-! DEFINITION. Reset, boot and bring-up (R54–R75): power-on and device resets, the start-up steps, the Benram image and its push, first
roles, Lath restarts, and the commands IDENTIFY and RESET. -/

namespace Sys2Proof.Machine

/-! ### Resets (R72–R74) -/

/-- A register field keeps the value it has in `old`. -/
def Dev.carryField (d old : Dev) (f : Fld) : Dev := d.set f 0 (old.get f)

/-- The GPIO pins are sampled again after a reset (R124): the level on the ball is the pin's level, without an edge. -/
def Dev.samplePins (d : Dev) : Dev := d.each (d.hinsts H.gpioBall) fun d n =>
  let d := d.hset H.gpioPin n (d.hget H.gpioBall n)
  let active := d.activeLevel n (d.hget H.gpioPin n)
  (d.putBit F.GPIO_LEVEL_LEVEL n active).timeActive n active

/-- What no reset touches: what is burned in eFuse, the levels on the pins, the model's own trace of what was sent and its count of open
values. -/
def Dev.resetKeeps (d : Dev) : Dev :=
  let n := { Dev.reset with
    bist := { Bist.reset with efuse := d.bist.efuse }
    out := d.out
    free := d.free }
  let n := (n.hset H.pinSeat 0 (d.hget H.pinSeat)).each (d.hinsts H.gpioBall) fun n i => n.hset H.gpioBall i (d.hget H.gpioBall i)
  n.carryField d F.CSW_ROLE_CLAIM_IN

/-- POR_N low (R72): everything is reset, and waits for its rise. -/
def Dev.powerOn (d : Dev) : Dev := d.resetKeeps.samplePins

/-- A device reset at once: everything restarts from step 1; TEST_LATCH and the test access port stay (R503), the wear count is kept, and
the values that eFuse gives stay as the last power-on read them (R494); after a thermal trip it is held (R531). -/
def Dev.resetNow (d : Dev) (cause domain : Nat) : Dev :=
  let n := d.resetKeeps
  let n := { n with clock := ⟨d.clock.core, 0⟩, tap := d.tap }
  let n := ((n.hset H.testLatch 0 (d.hget H.testLatch)).hset H.porLow 0 0).hset H.tripHeld 0 (ofBool (cause = 8))
  let n := [F.HLT_WEAR_LO_WEAR, F.HLT_WEAR_HI_WEAR, F.HLT_STATUS_WEAR_VALID, F.LDG_EPOCH_EPOCH, F.RPR_STATUS_EFUSE_FREE,
    F.RPR_HBM_HARD_FREE, F.BOOT_IMAGE_SVN_MIN_SVN].foldl (fun n f => n.carryField d f) n
  (((n.set F.TOP_RESET_CAUSE_CAUSE 0 cause).set F.TOP_RESET_CAUSE_DOMAIN 0 domain).hset H.bootAt 0 d.clock.core).samplePins

/-- An eFuse word is being programmed. -/
def Dev.fuseBusy (d : Dev) : Bool := !d.bist.work.isEmpty

/-- A device reset (R72, R74): the power-on reset prevails while POR_N is low, and it waits for an eFuse word in progress. -/
def Dev.deviceReset (d : Dev) (cause domain : Nat) : Dev :=
  if d.hget H.porLow = 1 then d
  else if d.fuseBusy then d.onBist fun b => { b with resetAsked := some (true, cause + 16 * domain) }
  else d.resetNow cause domain

/-- Every pending tag of every port completes with INTERNAL_FAULT (R73). -/
def Dev.failTags (d : Dev) : Dev :=
  let d := d.each d.cmd.tags fun d (t : PendingTag) => d.sendAll t.port t.src t.opcode t.tag St.internalFault true [[]]
  let d := d.each d.cmd.queue fun d (k : Packet) => d.sendAll k.port k.src k.opcode k.tag St.internalFault true [[]]
  d.forgetTags fun _ => true

/-- A Lath restart begins (R72, R73, R85, R86, R119): tags and leases end, REMAP is cleared, what the firmware held is gone, and working
SRAM is restarted with the checkpoint banks that lie in it (R467; log entry 320); datapaths, tick, take list, role and keys stay. -/
def Dev.lathStop (d : Dev) (cause : Nat) (bursts : List Nat) : Dev :=
  let d := ((d.onBehalf 0 bursts).failTags).endAllLeases 3
  let d : Dev := { d with
    tick := { d.tick with changes := [] }
    cmd := { d.cmd with subs := [] }
    csw := { d.csw with switchover := none, peerWaits := [], receiving := none, banks := [none, none] }
    sram := []
    image := none
    bist := { d.bist with work := [], resetAsked := none } }
  let d := d.each (d.hinsts H.macCtlQueue) fun d i => d.hset H.macCtlQueue i 0
  let d := ((((d.set F.TOP_STATUS_LATH_RUN 0 0).set F.CSW_MIRROR_STATUS_SYNCED 0 0).set F.BUS_CTRL_REMAP 0 0).hset H.lathCause 0 cause).hset H.restartStep 0 7
  let d := ((d.set F.TOP_RESET_CAUSE_LATH_RESTARTS 0 (min 255 (d.get F.TOP_RESET_CAUSE_LATH_RESTARTS + 1))).set F.TOP_RESET_CAUSE_CAUSE 0
    cause).set F.TOP_RESET_CAUSE_DOMAIN 0 0
  (d.onHealth fun h => { h with restarts := d.clock.core :: h.restarts }).healthReview

/-- A Lath restart is requested (R72, R74): nothing happens while the Lath does not run, and it waits for an eFuse word. -/
def Dev.lathRestart (d : Dev) (cause : Nat) (bursts : List Nat) : Dev :=
  if !d.lathRuns then d
  else if d.fuseBusy then
    d.onBist fun b => { b with resetAsked := some (b.resetAsked.getD (false, cause)) }
  else d.lathStop cause bursts

/-- A reset that waited for the eFuse word takes place when that word completes, whatever words are left (R74, R494). -/
def Dev.askedReset (d : Dev) : Dev :=
  match d.bist.resetAsked with
  | some (true, c) => d.resetNow (c % 16) (c / 16)
  | some (false, c) => d.lathStop c []
  | none => d

/-- A write of TOP_RESET (R72): it acts only with the guard. -/
def Dev.writeTopReset (d : Dev) (w : Nat) (bursts : List Nat) : Dev :=
  if w / 2 ^ 24 ≠ 0x5A then d.raise 13 [w]
  else if w % 4 = 1 then d.deviceReset 1 0
  else if w % 4 = 2 then d.lathRestart 4 bursts
  else d

/-! ### The Benram image (R65–R67) -/

/-- A little-endian field of the header: `k` bytes at offset `a` (R65). -/
def imageField (x : ImageIn) (a k : Nat) : Nat := leVal (slice a k x.header)

/-- The body: BODY_LENGTH bytes after the header; what follows is no part of the image (DEDUCED, log entry 321). -/
def imageContent (x : ImageIn) : List Byte := x.body.take (imageField x 8 4)

/-- BODY_HASH matches the body. -/
def imageBodyOk (x : ImageIn) : Bool := (imageContent x).length == imageField x 8 4 && sha384 (imageContent x) == slice 0x20 48 x.header

/-- The first check of R66 that an image fails. -/
def Dev.imageFault (d : Dev) (x : ImageIn) : Option Nat :=
  let n := imageField x
  if x.header.take 4 ≠ beBytes 4 0x424E524D ∨ n 4 2 ≠ 1 then some 1
  else if n 8 4 < 4096 ∨ n 8 4 > 6291456 ∨ n 8 4 % 16 ≠ 0 ∨ n 12 4 % 4096 ≠ 0 ∨ n 12 4 + n 8 4 > 8388608 then some 2
  else if n 0x18 4 ≠ 0x4E515360 ∨ n 0x1C 1 > 2 ∨ n 0x1D 1 < 2 then some 3
  else if n 0x1E 1 > 3 ∨ d.bist.efuse.revoked.contains (n 0x1E 1) ∨ !d.keyFused (n 0x1E 1) (slice 0x60 96 x.header) then some 4
  else if !ecdsaOk (slice 0x60 96 x.header) (slice 0xC0 96 x.header) (x.header.take 0xC0) then some 5
  else if n 0x14 4 < d.bist.efuse.svn then some 6
  else if !imageBodyOk x then some 7
  else none

/-- The boot ROM has accepted an image from a source: 1 and 2 the flash slots, 3 host push. -/
def Dev.acceptImage (d : Dev) (src : Nat) (x : ImageIn) : Dev :=
  (({ d with image := some x }).set F.BOOT_STATUS_IMAGE_SRC 0 src).set F.BOOT_IMAGE_SVN_SVN 0 (imageField x 0x14 4)

/-- BOOT_FAIL (R61, R62): the Lath stays in the boot ROM, which shows it on P4 (R58); a push begins anew, and step 13 runs again after it, so
the role is OFFLINE until then (DEDUCED, log entry 322). -/
def Dev.bootFail (d : Dev) (step code detail : Nat) : Dev :=
  let d := (((d.set F.TOP_STATUS_BOOT_FAIL 0 1).set F.BOOT_STATUS_FAIL_CODE 0 code).set F.BOOT_FAIL_DETAIL_DETAIL 0 detail).set
    F.BOOT_STATUS_STEP 0 step
  let d := ((d.set F.TOP_STATUS_LATH_RUN 0 0).set F.TOP_STATUS_READY 0 0).hset H.seatWait 0 0
  let d := ((d.enterRole 4 0).set F.CSW_ROLE_CLAIM_OUT 0 0).set F.BOOT_PUSH_STATUS_STATE 0 0
  let d := ({ d with pushed := [], image := none }).hset H.pushOffset 0 0
  (((d.raise 8 [step, code]).emit (.bootText step code)).txReviewAll).healthReview

/-- The flash slots from number `k` on are tried (R67): the device, and whether one was accepted. -/
def Dev.trySlots (d : Dev) (k : Nat) : List ImageIn → Dev × Bool
  | [] => (d, false)
  | x :: rest =>
    match d.imageFault x with
    | none => (d.acceptImage (k + 1) x, true)
    | some c => Dev.trySlots ((d.set F.BOOT_STATUS_FALLBACK 0 1).raise 10 [k, c]) (k + 1) rest

/-- Step 7 (R67): an image was accepted, else the boot ROM waits for a host push, or fails. -/
def Dev.fetchImage (d : Dev) (slots : List ImageIn) : Dev × Bool :=
  if d.hget H.policyUsed = 1 then (d.hset H.pushState 0 1, false)
  else
    let r := d.trySlots 0 (slots.take 2)
    if r.2 then r
    else if d.hget H.policyUsed = 2 then (r.1.bootFail 7 0x04 0, false)
    else (r.1.hset H.pushState 0 1, false)

/-! ### The start-up steps (R59–R61) -/

/-- The next part of the start-up, unless the one before has stopped it. -/
def onward (r : Dev × Bool) (f : Dev → Dev × Bool) : Dev × Bool := if r.2 then f r.1 else r

/-- The boot ROM shows its steps on P4 (R58, R91); what the text says is open, and the model gives the step (log entry 323). -/
def Dev.showStep (d : Dev) (k : Nat) : Dev := if 3 ≤ k ∧ k ≤ 8 then d.emit (.bootText k 0) else d

/-- A step begins; the one that is stuck does not complete. -/
def Dev.atStep (d : Dev) (k stuck : Nat) (f : Dev → Dev × Bool) : Dev × Bool :=
  let d := (d.set F.BOOT_STATUS_STEP 0 k).showStep k
  if stuck = k then (d, false) else f d

/-- Step 1: eFuse.  A power-on reads the values that are reported (R494); the hashes of the public keys were fused at manufacture (log entry
324); a repair bank with an uncorrectable error is ignored (R61). -/
def Dev.bootFuses (d : Dev) (x : BootIn) (power : Bool) : Dev × Bool :=
  let d := d.hset H.repairIgnored 0 (wordOfBits (x.repairBad.map Fin.val).eraseDups)
  let d := if power then d.onBist fun b => { b with efuse := { b.efuse with keyHashes := x.keyHashes } } else d
  let d := d.set F.LDG_EPOCH_EPOCH 0 (d.get F.LDG_EPOCH_EPOCH + 1)
  let d := d.hset H.policyUsed 0 d.bist.efuse.policy
  let d := if power then
      (((d.set F.RPR_STATUS_EFUSE_FREE 0 (1024 - d.bist.efuse.repairs.length)).set F.RPR_HBM_HARD_FREE 0
        (128 - d.bist.efuse.hbm.length)).set F.BOOT_IMAGE_SVN_MIN_SVN 0 d.bist.efuse.svn).hset H.pinSeat 0 x.seat
    else d
  -- the bits of REED_RX, APORT, CAUSE and TCK read 1
  let d := d.set F.CLK_STATUS_LOCK 0 (x.locks.toNat ||| 0x2C040)
  if x.trimOk then (d, true) else (d.bootFail 1 0x01 0, false)

/-- The number of the pool whose units a partition tests unit by unit (R485). -/
def partitionPool (k : Nat) : Option Nat := if k = 26 then some 1 else if k = 27 then some 2 else if 28 ≤ k ∧ k ≤ 35 then some 0 else none

/-- A unit that fails at power-on is retired; its logical unit is served by another one from the start. -/
def Dev.retireAtBoot (d : Dev) (q u : Nat) : Dev :=
  let d := match q with
    | 0 => if u < 272 then d.fenUnitFailure u false u [] [] else d
    | 1 => (d.converterFailure u).cnvSwaps
    | 2 => d.set F.MV_SCALER_POOL_RETIRED 0 (d.get F.MV_SCALER_POOL_RETIRED + 1)
    | _ => d.set F.MERE_POOL_RETIRED 0 (d.get F.MERE_POOL_RETIRED + 1)
  (d.raise 866 [q, u]).healthReview

/-- A result that is not PASS. -/
def Dev.postResult (d : Dev) (p : PostIn) : Dev :=
  let k := p.partition
  let code := if p.complete then 2 else 3
  let d := (d.set F.BIST_POST_RESULT k code).raise 864 [k, p.unit, code]
  match partitionPool k with
  | some q => (d.set F.BIST_POST_RETIRED k (min 255 (d.get F.BIST_POST_RETIRED k + 1))).retireAtBoot q p.unit
  | none => d

/-- Logic BIST of the partitions `ks` (R485, R486). -/
def Dev.logicBist (d : Dev) (x : BootIn) (step : Nat) (ks : List Nat) : Dev × Bool :=
  let d := d.each ks fun d k =>
    (d.set F.BIST_POST_RESULT k 1).set F.BIST_POST_PATTERNS k (min 65535 (x.patterns.getD k 0 / 256))
  let bad := x.post.filter fun p => ks.contains p.partition
  let d := d.each bad Dev.postResult
  match bad.find? fun p => partitionPool p.partition == none with
  | some p => (d.bootFail step 0x03 p.partition, false)
  | none => (d, true)

/-- Step 3: the HBM stacks. -/
def Dev.trainMere (d : Dev) (x : BootIn) : Dev × Bool :=
  match x.badStack with
  | some k => (d.bootFail 3 0x06 k, false)
  | none => (((d.set F.MERE_STATUS_STACK_A_OK 0 1).set F.MERE_STATUS_STACK_B_OK 0 1).set F.MERE_STATUS_IN_SERVICE 0 1, true)

/-- The burned repairs that step 1 did not load, since their bank was ignored: in a Mere row or not, array, row or column. -/
def Dev.repairsIgnored (d : Dev) : List (Bool × Nat × Nat) :=
  let off := d.hget H.repairIgnored
  ((d.bist.efuse.repairs.zipIdx.filter fun r => bit off (r.2 / 256)).map fun r => (false, r.1.1, r.1.2)) ++
    if bit off 4 then d.bist.efuse.hbm.map fun r => (true, r.1, r.2) else []

/-- Step 4: memory BIST with soft repair.  It finds what the ignored banks would have repaired, too (R61). -/
def Dev.memoryBist (d : Dev) (x : BootIn) : Dev × Bool :=
  let d := d.each (d.repairsIgnored ++ x.repairs.filter fun r => !d.repairsIgnored.contains r) fun d r => d.softRepair r.1 r.2.1 r.2.2
  let d := d.each x.retired fun d r => d.retireAtBoot r.1 r.2
  if x.sramOk then (d, true) else (d.bootFail 4 0x02 0, false)

/-- Step 6: the keys (R61, R298, R503). -/
def Dev.loadKeys (d : Dev) (x : BootIn) : Dev × Bool :=
  if d.hget H.testLatch = 1 then (d.bootFail 6 0x07 6, false)
  else if x.keysOk then
    let d := (d.set F.TOP_STATUS_KEYS_VALID 0 1).each [1, 2, 3] fun d p => d.loadKey p (Config.keyStore p)
    let d := { d with csw := { d.csw with key := Config.keyStore 6 } }
    (d.each [0, 1] fun d i =>
      let k := beVal (Config.keyStore (4 + i))
      (d.installSa i 0 k false).installSa i 0 k true, true)
  else (((d.hset H.keyFail 0 1).raise 11 []).healthReview, true)

/-- Step 8: the image is copied into working SRAM (R59), and ENTRY is where the Lath begins. -/
def Dev.copyImage (d : Dev) : Dev :=
  match d.image with
  | some x =>
    { d with image := none, sram := Memory.writeBytes 0x800000 d.sram (imageField x 12 4) (imageContent x) }.hset H.lathEntry 0 (imageField x 0x10 4)
  | none => d

/-- The image runs from working SRAM. -/
def Dev.startLath (d : Dev) : Dev :=
  ((d.copyImage.set F.BUS_CTRL_REMAP 0 1).set F.TOP_STATUS_LATH_RUN 0 1).set F.TOP_STATUS_WINDOWS_OPEN 0 1

/-- Step 9 (R180, and the media and management ports): lanes and ports are enabled. -/
def Dev.initBlocks (d : Dev) : Dev :=
  let d := d.each (List.range 384) fun d n => (d.set F.REED_LANE_CFG_RX_EN n 1).set F.REED_LANE_CFG_TX_EN n 1
  let d := d.each (List.range 8) fun d p => (d.set F.ETH_PORT_CFG_MODE p 0).set F.ETH_PORT_CFG_ENABLE p 1
  let d := if d.get F.TOP_STATUS_KEYS_VALID = 1 then d.each [0, 1] fun d i => d.set F.MGT_CFG_EN i 1 else d
  d.txReviewAll

/-- Step 10: XO_IN is measured (R372). -/
def Dev.measureXo (d : Dev) (hz : Nat) : Dev :=
  if 10000000 ≤ hz + 500 ∧ hz ≤ 10000500 then d.set F.XO_STATUS_FREQ 0 1
  else if 20000000 ≤ hz + 1000 ∧ hz ≤ 20001000 then d.set F.XO_STATUS_FREQ 0 2
  else (d.set F.XO_STATUS_SRC 0 1).raise 71 [hz]

/-- The firmware writes a word of the board record to a REF or XO register, `off` bytes into their window (R374). -/
def Dev.boardWrite (d : Dev) (off w : Nat) : Dev :=
  let r := if off < 0x100 then d.refWrite (0x800000 + off) 0 w else d.refWrite (0x800100 + off % 0x20) ((off - 0x100) / 0x20) w
  match r with
  | some d => d
  | none => match off with
    | 0x18 => d.set F.REF_HOLDOVER_SPEC_SECONDS 0 w
    | 0x2C => d.set F.REF_PEAT_CTRL_PEAT_VALID 0 (bits w 31 1)
    | 0x30 => d.set F.REF_PHASE_ADJ_LO_FRAC 0 (w / 65536)
    | 0x34 => d.set F.REF_PHASE_ADJ_MID_NS 0 w
    | 0x38 => d.set F.REF_PHASE_ADJ_HI_NS 0 w
    | _ => d

/-- Steps 8 to 10; at step 10 XO_IN is measured and the firmware writes the board record, which leaves the reset values where it is empty
(R374). -/
def Dev.bootFirmware (d : Dev) (ten : Step10In) (stuck : Nat) : Dev :=
  (d.atStep 8 stuck fun d => d.startLath.atStep 9 stuck fun d => d.initBlocks.atStep 10 0 fun d =>
    ((((d.measureXo ten.xoHz).each ten.board fun d b => d.boardWrite b.1 b.2.toNat).hset H.step10At 0 d.clock.core).hset H.refOn 0 1, true)).1

/-- Steps 1 to 10. -/
def Dev.bootRun (d : Dev) (x : BootIn) (power : Bool) : Dev :=
  let s := x.stuck
  let r := d.atStep 1 s fun d => d.bootFuses x power
  let r := onward r fun d => d.atStep 2 s fun d => d.healthReview.logicBist x 2 [0, 1]
  let r := onward r fun d => d.atStep 3 s fun d => d.trainMere x
  let r := onward r fun d => d.atStep 4 s fun d => d.memoryBist x
  let r := onward r fun d => d.atStep 5 s fun d => d.logicBist x 5 ((List.range 38).map (· + 2))
  let r := onward r fun d => d.atStep 6 s fun d => d.loadKeys x
  let r := onward r fun d => d.atStep 7 s fun d => d.fetchImage x.slots
  if r.2 then r.1.bootFirmware x.ten s else r.1

/-- The device waits at the beginning of the start-up. -/
def Dev.startable (d : Dev) : Bool := d.get F.BOOT_STATUS_STEP == 0 && d.hget H.tripHeld == 0

/-- POR_N rises, or a device reset goes on to step 1. -/
def Dev.porRelease (d : Dev) (x : BootIn) : Dev :=
  let power := d.hget H.porLow == 1
  let d := d.hset H.porLow 0 0
  if d.startable then (if power then d.hset H.bootAt 0 d.clock.core else d).bootRun x power else d

/-- The step whose watchdog runs (R60): that of a Lath restart in progress, that of a pushed image's verification, else the start-up step in
progress; none at step 10, at READY, in BOOT_FAIL, and while the boot ROM waits for the host. -/
def Dev.watchedStep (d : Dev) : Option Nat :=
  let k := d.get F.BOOT_STATUS_STEP
  if d.get F.BOOT_PUSH_STATUS_STATE = 1 then some 7
  else if d.hget H.pushState = 1 ∨ d.get F.TOP_STATUS_BOOT_FAIL = 1 then none
  else if d.hget H.lathCause ≠ 0 ∧ !d.lathRuns then some (d.hget H.restartStep)
  else if k = 0 ∨ k = 10 ∨ k > 13 ∨ d.ready then none
  else some k

/-- A step's watchdog expires (R60). -/
def Dev.bootWatchdog (d : Dev) : Dev :=
  match d.watchedStep with
  | some k => d.bootFail k 0x05 k
  | none => d

/-! ### Host push (R62, R67, R68) -/

/-- The boot ROM takes a push: the link is up (R57), and it waits for one, or is in a BOOT_FAIL that a push leads out of. -/
def Dev.takesPush (d : Dev) : Bool :=
  d.get F.PCI_LINK_STATUS_UP == 1 && d.get F.BOOT_PUSH_STATUS_STATE != 1 &&
    (d.hget H.pushState == 1 ||
      (d.get F.TOP_STATUS_BOOT_FAIL == 1 && d.get F.BOOT_STATUS_FAIL_CODE != 7 &&
        !(d.get F.BOOT_STATUS_FAIL_CODE == 3 && d.get F.BOOT_FAIL_DETAIL_DETAIL ≤ 1)))

/-- A chunk or an image is refused: the push restarts from offset 0. -/
def Dev.pushRefused (d : Dev) : Dev := ({ d with pushed := [] }.set F.BOOT_PUSH_STATUS_STATE 0 3).hset H.pushOffset 0 0

/-- The firmware runs again after a Lath restart. -/
def Dev.lathResume (d : Dev) : Dev :=
  let c := d.hget H.lathCause
  ((d.startLath.netSync).hset H.lathCause 0 0).raise 12 [c] |>.healthReview

/-- An image has been accepted during a Lath restart, or at start-up; after a BOOT_FAIL start-up goes on at step 8 in either case (R62).
`stuck` is a step that does not complete. -/
def Dev.afterImage (d : Dev) (ten : Step10In) (stuck : Nat) : Dev :=
  if d.get F.TOP_STATUS_BOOT_FAIL = 1 then
    let d := ((d.set F.TOP_STATUS_BOOT_FAIL 0 0).set F.BOOT_STATUS_FAIL_CODE 0 0).set F.BOOT_FAIL_DETAIL_DETAIL 0 0
    (d.hset H.lathCause 0 0).bootFirmware ten stuck
  else if d.hget H.lathCause = 0 then d.bootFirmware ten stuck
  else if stuck = 8 then d.hset H.restartStep 0 8
  else d.lathResume

/-- The image that the accepted chunks make up (R65, R68). -/
def Dev.pushedImage (d : Dev) : ImageIn := ⟨d.pushed.take 512, d.pushed.drop 512⟩

/-- A write of BOOT_PUSH: `chunk` are the bytes that the host has written at the start of the staging area, `ten` what step 10 finds,
and `stuck` 7 where the verification does not complete, 8 or 9 where that step does not.  A LENGTH outside 16–262,144 or no multiple
of 16 refuses the chunk (DESIGN CHOICE, log entry 325). -/
def Dev.writeBootPush (d : Dev) (w : Nat) (chunk : List Byte) (ten : Step10In) (stuck : Nat) : Dev :=
  let len := fieldOf F.BOOT_PUSH_LENGTH w
  let d := (d.set F.BOOT_PUSH_LENGTH 0 len).set F.BOOT_PUSH_LAST 0 (fieldOf F.BOOT_PUSH_LAST w)
  if !bit w 31 || !d.takesPush then d
  else if d.get F.BOOT_PUSH_OFFSET_OFFSET ≠ d.hget H.pushOffset ∨ len < 16 ∨ len > 262144 ∨ len % 16 ≠ 0 then d.pushRefused
  else
    let d := { d with staging := Memory.writeBytes 0x100000 d.staging 0xC0000 chunk }
    let d := { d with pushed := d.pushed ++ Memory.bytes len 0xC0000 d.staging }
    if !bit w 30 then (d.hset H.pushOffset 0 (d.hget H.pushOffset + len)).set F.BOOT_PUSH_STATUS_STATE 0 0
    else if stuck = 7 then d.set F.BOOT_PUSH_STATUS_STATE 0 1
    else
      match d.imageFault d.pushedImage with
      | some _ => d.pushRefused
      | none =>
        let d := (d.acceptImage 3 d.pushedImage).set F.BOOT_PUSH_STATUS_STATE 0 2
        (({ d with pushed := [] }.hset H.pushOffset 0 0).hset H.pushState 0 0).afterImage ten stuck

/-- A Lath restart completes: steps 7 and 8 have run again; `stuck` is 8 where step 8 does not complete. -/
def Dev.lathRestartDone (d : Dev) (slots : List ImageIn) (stuck : Nat) : Dev :=
  if d.hget H.lathCause = 0 ∨ d.lathRuns ∨ d.hget H.pushState = 1 ∨ d.get F.TOP_STATUS_BOOT_FAIL = 1 ∨ d.hget H.restartStep = 8 then d
  else
    let r := d.fetchImage slots
    if !r.2 then r.1
    else if stuck = 8 then r.1.hset H.restartStep 0 8
    else r.1.lathResume

/-! ### Tick start and first role (R69–R71) -/

/-- Step 11 ends with the first frame tick, and step 12 begins: the Causeway trains (R59). -/
def Dev.leaveStep11 (d : Dev) : Dev :=
  if d.get F.BOOT_STATUS_STEP = 11 ∧ d.lathRuns then ((d.set F.BOOT_STATUS_STEP 0 12).set F.CSW_CFG_EN 0 1).causewayEnabled else d

/-- Step 11 (R69): the loop is LOCKED, or 10 s have passed since step 10 began.  A tick that has run on through a BOOT_FAIL needs no start
(R62; DEDUCED, log entry 322). -/
def Dev.bootTickStart (d : Dev) : Dev :=
  if d.get F.BOOT_STATUS_STEP ≠ 10 ∨ !d.lathRuns then d
  else
    let d := if d.get F.REF_STATUS_LOOP = 2 then d else d.passToCore (d.hget H.step10At + 10 ^ 10)
    let d := ((d.set F.BOOT_STATUS_STEP 0 11).hset H.xoDuty 0 0x8000).hset H.xoSince 0 d.clock.core
    if d.running then d.leaveStep11 else d.tickStart

/-- READY with the role taken (R71). -/
def Dev.becomeReady (d : Dev) : Dev :=
  let d := ((d.set F.TOP_STATUS_READY 0 1).set F.BOOT_STATUS_STEP 0 14).set F.BOOT_TIME_MS 0
    ((d.clock.core - d.hget H.bootAt) / 1000000)
  d.raise 9 [d.role]

/-- The first role while ACT_CLAIM_IN is asserted (R70). -/
def Dev.claimedRole (d : Dev) : Nat := if d.causewayUp then 2 else 3

/-- Causeway training has completed or timed out (R70). -/
def Dev.trainingEnd (d : Dev) : Dev :=
  if d.get F.BOOT_STATUS_STEP ≠ 12 ∨ !d.lathRuns then d
  else
    let d := d.set F.BOOT_STATUS_STEP 0 13
    if d.get F.CSW_ROLE_CLAIM_IN = 1 then (d.enterRole d.claimedRole 0).becomeReady
    else if d.hget H.pinSeat = 0 then (d.enterRole (if d.get F.CSW_ROLE_VETO = 1 then 3 else 0) 0).becomeReady
    else (d.hset H.seatWait 0 1).hset H.seatTicks 0 0

/-- Seat B has waited 3 frame ticks (R70). -/
def Dev.seatWaitEnd (d : Dev) : Dev :=
  if d.hget H.seatWait = 0 ∨ d.hget H.seatTicks < 3 ∨ !d.lathRuns then d
  else
    let d := d.hset H.seatWait 0 0
    let role := if d.get F.CSW_ROLE_CLAIM_IN = 1 then d.claimedRole else if d.get F.CSW_ROLE_VETO = 1 then 3 else 0
    (d.enterRole role 0).becomeReady

/-! ### Commands -/

/-- RESET (0x0102): it completes with OK before the reset begins. -/
def resetSpec : Spec := { op := 0x0102, ports := [0, 1, 2, 4], pars := [.req 0x0101 (num 4 (· < 2))] }

def Dev.resetCommand (d : Dev) (q : Req) (bursts : List Nat) : Dev := d.command q resetSpec fun d ts =>
  let d := d.reply q 0x0102 St.ok
  if tlvNum ts 0x0101 = 0 then d.deviceReset 2 0 else d.lathRestart 5 bursts

/-- What IDENTIFY returns. -/
def Dev.identity (d : Dev) : Tlv :=
  data [w4 (d.storedAt 0), w4 (d.storedAt 4), w4 (d.storedAt 8), w4 (d.storedAt 0x100000), w4 d.role]

def identifySpec : Spec := { op := 0x0101 }

/-- IDENTIFY (0x0101).  In BOOT_FAIL the boot ROM answers it on P0 and P4 (R62). -/
def Dev.identify (d : Dev) (q : Req) : Dev :=
  if d.get F.TOP_STATUS_BOOT_FAIL = 1 ∧ (q.port = 0 ∨ q.port = 4) then
    match d.cmd.queue.find? fun p => p.is q 0x0101 with
    | some p => { d with cmd := { d.cmd with queue := d.cmd.queue.erase p } }.turnAway q 0x0101 St.ok [d.identity] p.key
    | none =>
      if d.portUp q.port then ((d.bump C.CMD_RECEIVED q.port).acceptPacket q.port).turnAway q 0x0101 St.ok [d.identity] else d
  else d.command q identifySpec fun d _ => d.reply q 0x0101 St.ok [d.identity]

/-- A start-up, whose memory BIST leaves Mere cleared. -/
def bootWith (f : Dev → Dev) (s : State) : Host.Outcome State Fault Refusal :=
  .next { s with dev := (f s.dev).flush, mere := if s.dev.startable then [] else s.mere }

def execPorAssert (s : State) : Host.Outcome State Fault Refusal := lift (·.powerOn) s
def execPorRelease (x : BootIn) (s : State) : Host.Outcome State Fault Refusal := bootWith (·.porRelease x) s
def execBootWatchdog (s : State) : Host.Outcome State Fault Refusal := lift (·.bootWatchdog) s
def execBootPush (m : Fin 8) (v : Word) (chunk : List Byte) (x : BootRest) (s : State) : Host.Outcome State Fault Refusal :=
  lift (fun d => d.busWrite m 0x100010 v.toNat (·.writeBootPush v.toNat chunk x.ten x.stuck)) s
def execBootTickStart (s : State) : Host.Outcome State Fault Refusal := lift (·.bootTickStart) s
def execCausewayTrainingEnd (s : State) : Host.Outcome State Fault Refusal := lift (·.trainingEnd) s
def execSeatBClaimWait (s : State) : Host.Outcome State Fault Refusal := lift (·.seatWaitEnd) s
def execTopResetDevice (m : Fin 8) (v : Word) (s : State) : Host.Outcome State Fault Refusal :=
  lift (fun d => d.busWrite m 0xC v.toNat (·.writeTopReset v.toNat [])) s
def execTopResetLath (m : Fin 8) (v : Word) (bursts : List Nat) (s : State) : Host.Outcome State Fault Refusal :=
  lift (fun d => d.busWrite m 0xC v.toNat (·.writeTopReset v.toNat bursts)) s
def execReset (q : Req) (bursts : List Nat) (s : State) : Host.Outcome State Fault Refusal := lift (·.resetCommand q bursts) s
def execLockstepMismatch (bursts : List Nat) (s : State) : Host.Outcome State Fault Refusal := lift (·.lathRestart 6 bursts) s
def execLathWatchdog (bursts : List Nat) (s : State) : Host.Outcome State Fault Refusal := lift (·.lathRestart 7 bursts) s
def execLathRestartDone (x : RestartIn) (s : State) : Host.Outcome State Fault Refusal :=
  lift (·.lathRestartDone x.slots x.stuck) s
def execIdentify (q : Req) (s : State) : Host.Outcome State Fault Refusal := lift (·.identify q) s
def execEfuseWordWrite (readsBack : Bool) (s : State) : Host.Outcome State Fault Refusal := lift (fun d => (d.fuseWord readsBack).askedReset) s

end Sys2Proof.Machine
end

