-- ==== Sys2Proof/Machine/Pkg.lean ====
section
/-! DEFINITION. Rails and die temperature (R528, R531). -/

namespace Sys2Proof.Machine

/-- A rail has left its range for 1 µs (R528): nothing is watched while POR_N is low. -/
def Dev.railExcursion (d : Dev) (rail : Nat) : Dev :=
  if d.hget H.porLow = 1 then d
  else
    let d := d.set F.TOP_VMON_RAILS 0 (d.get F.TOP_VMON_RAILS ||| 2 ^ rail)
    d.raise 19 [d.get F.TOP_VMON_RAILS]

/-- A sensor has read its trip temperature for 1 ms (R531): sensors 0–15 are the die's, 16 and 17 the stacks'. -/
def Dev.thermalTrip (d : Dev) (sensor : Nat) : Dev :=
  if d.hget H.porLow = 1 ∨ d.hget H.tripHeld = 1 then d else d.deviceReset 8 sensor

/-- REPLACE_N is driven low: after a trip (R531), in BOOT_FAIL (R61), and from start-up step 6 on when the health level asks for a
replacement (R506). -/
def Dev.replaceLow (d : Dev) : Bool :=
  d.hget H.tripHeld == 1 || d.get F.TOP_STATUS_BOOT_FAIL == 1 || (d.get F.BOOT_STATUS_STEP ≥ 6 && d.replace)

def execRailExcursion (rail : Fin 8) (s : State) : Host.Outcome State Fault Refusal := lift (·.railExcursion rail) s
def execThermalTrip (sensor : Fin 18) (s : State) : Host.Outcome State Fault Refusal := lift (·.thermalTrip sensor) s

/-- Every sensor is below its release temperature: the device held in reset starts up. -/
def execThermalRecovery (x : BootIn) (s : State) : Host.Outcome State Fault Refusal :=
  if s.dev.hget H.tripHeld = 1 then bootWith (·.porRelease x) { s with dev := s.dev.hset H.tripHeld 0 0 } else .next s

end Sys2Proof.Machine
end

