-- ==== Sys2Proof/Machine/Event.lean ====
section
/-! DEFINITION. The event registers and the event log as the host and the firmware use them (R140–R151). -/

namespace Sys2Proof.Machine

/-- A W1C write of EVT_STATUS⟨g⟩; a group that stays pending is signalled again (R141). -/
def Dev.writeEvtStatus (d : Dev) (g w : Nat) : Dev :=
  let d := { d with evt := { d.evt with status := d.evt.status.filter fun n => !(n / 32 == g && bit w (n % 32)) } }
  d.signalGroup g

/-- A write of EVT_INT_EN⟨g⟩; a group that becomes or stays pending is signalled (R141). -/
def Dev.writeIntEn (d : Dev) (g w : Nat) : Dev := (d.set F.EVT_INT_EN_EN g w).signalGroup g

/-- The coalesce window of a source ends: what it holds is written at the end of this command's cycle (R147). -/
def Dev.windowEnds (d : Dev) (n : Nat) : Dev :=
  match (d.evt.source n).last with
  | none => d
  | some t => d.passTo ((t + d.window n) * 65536)

/-- A write of EVT_LOG_RD_HOST: clamped to EVT_LOG_WR, and ignored where it would move the index backwards (R150). -/
def Dev.writeRdHost (d : Dev) (w : Nat) : Dev :=
  let v := if serialGe 32 d.evt.wr w then w else d.evt.wr
  if serialGe 32 v d.evt.rdHost then { d with evt := { d.evt with rdHost := v } }.checkFull else d

/-- A write of EVT_CTRL: making the host index active sets it to EVT_LOG_WR; making it inactive may end a full log
(R149, R150). -/
def Dev.writeEvtCtrl (d : Dev) (w : Nat) : Dev :=
  let was := d.get F.EVT_CTRL_HOST_READER
  let d := d.set F.EVT_CTRL_HOST_READER 0 w
  if was = 0 ∧ w % 2 = 1 then { d with evt := { d.evt with rdHost := d.evt.wr } } else d.checkFull

/-- The firmware passes records it has read, while it runs (R22, R148). -/
def Dev.lathReads (d : Dev) (count : Nat) : Dev :=
  if !d.lathRuns then d
  else
    let k := min count (serialSub 32 d.evt.wr d.evt.rdLath)
    { d with evt := { d.evt with rdLath := (d.evt.rdLath + k) % 2 ^ 32 } }.checkFull

/-- EVENT_LOG_READ (0x0120). -/
def eventLogReadSpec : Spec :=
  { op := 0x0120, pars := [.req 0x0101 any4, .req 0x0102 (num 4 fun n => 1 ≤ n && n ≤ 113)] }

/-- The records of a port's response at most: each takes 36 bytes. -/
def logReadLimit (port : Nat) : Nat := payloadLimit port / 36

def Dev.eventLogRead (d : Dev) (q : Req) : Dev := d.command q eventLogReadSpec fun d ts =>
  let first := tlvNum ts 0x0101
  let behind := serialSub 32 d.evt.wr first
  if 4096 < behind ∧ behind < 2 ^ 31 then d.reply q 0x0120 St.badParam [statusDetail (tlvIndex ts 0x0101) 0xFF 0]
  else
    let n := if behind ≤ 4096 then min behind (min (tlvNum ts 0x0102) (logReadLimit q.port)) else 0
    let rs := (List.range n).filterMap fun k => d.evt.log.find? fun r => r.seq == (first + k) % 2 ^ 32
    d.reply q 0x0120 St.ok (rs.map fun r => data [r.bytes])

/-- EVENT_COUNTS_GET (0x0121): the four terms of the event ledger (R151). -/
def eventCountsGetSpec : Spec := { op := 0x0121 }

def Dev.eventCountsGet (d : Dev) (q : Req) : Dev := d.command q eventCountsGetSpec fun d _ =>
  d.reply q 0x0121 St.ok [data [w8 d.evt.raised, w8 d.evt.logged, w8 d.evt.coalesced, w8 d.evt.held]]

/-- EVT_GROUP_PENDING, and EVT_LOG_STATUS. -/
def Dev.groupPendingView (d : Dev) : Nat := wordOfBits d.pendingGroups
def Dev.logStatusView (d : Dev) : Nat := 2 ^ 31 * ofBool d.logFull + (d.evt.sources.filter fun s => s.held > 0).length

/-- A word of EVT_LOG: word `k` of the ring, 0 where no record was written yet. -/
def Dev.logWord (d : Dev) (k : Nat) : Nat :=
  ((d.evt.log.find? fun r => r.seq % 4096 == k / 8).map fun r => r.words.getD (k % 8) 0).getD 0

def execEvtStatusWrite (m : Fin 8) (g : Fin 32) (v : Word) (s : State) : Host.Outcome State Fault Refusal :=
  lift (fun d => d.busWrite m (0x400000 + 4 * g) v.toNat (·.writeEvtStatus g v.toNat)) s
def execEvtIntEnWrite (m : Fin 8) (g : Fin 32) (v : Word) (s : State) : Host.Outcome State Fault Refusal :=
  lift (fun d => d.busWrite m (0x400080 + 4 * g) v.toNat (·.writeIntEn g v.toNat)) s
def execCoalesceWindowEnd (event : Fin 1024) (s : State) : Host.Outcome State Fault Refusal := lift (·.windowEnds event) s
def execEvtLogRdHostWrite (m : Fin 8) (v : Word) (s : State) : Host.Outcome State Fault Refusal :=
  lift (fun d => d.busWrite m 0x40018C v.toNat (·.writeRdHost v.toNat)) s
def execHostReaderWrite (m : Fin 8) (v : Word) (s : State) : Host.Outcome State Fault Refusal :=
  lift (fun d => d.busWrite m 0x400184 v.toNat (·.writeEvtCtrl v.toNat)) s
def execLathReaderAdvance (count : Nat) (s : State) : Host.Outcome State Fault Refusal := lift (·.lathReads count) s
def execEventLogRead (q : Req) (s : State) : Host.Outcome State Fault Refusal := lift (·.eventLogRead q) s
def execEventCountsGet (q : Req) (s : State) : Host.Outcome State Fault Refusal := lift (·.eventCountsGet q) s

end Sys2Proof.Machine
end

