-- ==== Sys2Proof/Machine/Ledger.lean ====
section
/-! DEFINITION. The ledgers: their identities and equations (R512), the check at T3 and the fault table (R28, R29, R513), the
directory of the 64-bit copies (R514), wear (R518–R520), the firmware's health triggers (R507), and the health commands. -/

namespace Sys2Proof.Machine

/-! ### Equations -/

/-- A class of ledgers: its CLASS, the number of instances, the counts of the two sides in the order of the owning chapter, what
else stands on either side, and the instances that may not be all zero. -/
structure LedgerDef where
  cls : Nat
  count : Nat
  left : List Ctr
  right : List Ctr
  moreLeft : Dev → Nat → List Int
  moreRight : Dev → Nat → List Int
  others : Dev → List Nat

/-- A ledger of counts alone. -/
def plainLedger (cls count : Nat) (left right : List Ctr) : LedgerDef :=
  ⟨cls, count, left, right, fun _ _ => [], fun _ _ => [], fun _ => []⟩

/-- A ledger with an in-flight term. -/
def flightLedger (cls count : Nat) (left right : List Ctr) (flight : Dev → Nat → Nat) : LedgerDef :=
  ⟨cls, count, left, right, fun _ _ => [], fun d i => [(flight d i : Int)], fun _ => []⟩

/-- A ledger of other terms. -/
def termLedger (cls count : Nat) (left right : Dev → Nat → List Int) (others : Dev → List Nat) : LedgerDef :=
  ⟨cls, count, [], [], left, right, others⟩

/-- Numbers as terms. -/
def terms (l : List Nat) : List Int := l.map fun (n : Nat) => (n : Int)

/-- Frames queued on a MAC instance. -/
def Dev.macQueued (d : Dev) (n : Nat) : Nat := (((d.mac.find? fun q => q.inst == n).map MacQueue.frames).getD []).length

/-- Jobs of an engine in progress or waiting. -/
def Dev.jobsOpen (d : Dev) (l : Nat) : Nat :=
  let u := d.unit (d.unitFor l)
  u.job0.toList.length + u.job1.toList.length + u.blockDue.length + u.frameDue.length

/-- A mix job's block is in progress (R424). -/
def Dev.mixOpen (d : Dev) (j : Nat) : Nat := ofBool (d.hget H.mixOpen j == 1)

/-- Frames of the Causeway in reception: those whose delimiter came and that no command has judged yet (R458, R483). -/
def Dev.cswOpen (d : Dev) : Nat := d.csw.arrived.sum + (d.csw.stream.filter fun s => s != none && s != some []).length

/-- The firmware's and the command block's ledgers. -/
def systemLedgers : List LedgerDef :=
  [flightLedger 0x01 1 [K.COMMITS_ACCEPTED]
    [K.COMMITS_APPLIED, K.COMMITS_LATE, K.COMMITS_SUPERSEDED, K.COMMITS_LEASED, K.COMMITS_CANCELLED] fun d _ => d.tick.commits.length,
   flightLedger 0x02 8 [K.BUS_ISSUED] [K.BUS_COMPLETED, C.BUS_ON_BEHALF] fun d m => d.hget H.busOutstanding m,
   flightLedger 0x03 5 [C.CMD_RECEIVED] [C.CMD_MALFORMED, C.CMD_AUTH_FAILED, C.CMD_REPLAYED, C.CMD_OVERFLOWED]
     fun d p => d.cmd.accepted.getD p 0,
   termLedger 0x04 5 (fun d p => terms [d.cmd.issued.getD p 0])
     (fun d p => terms [d.cmd.completed.getD p 0,
       (d.cmd.tags.filter fun t => t.port == p).length + (d.cmd.queue.filter fun k => k.port == p).length])
     fun _ => List.range 5,
   termLedger 0x05 1 (fun d _ => terms [d.evt.raised]) (fun d _ => terms [d.evt.logged, d.evt.coalesced, d.evt.held + d.evt.buffer.length])
     fun _ => [0]]

/-- The ledgers of the links, of ingest and of the crosspoint. -/
def videoLedgers : List LedgerDef :=
  [plainLedger 0x06 384 [C.REED_SF_FRAMED] [C.REED_SF_ACCEPTED, C.REED_DISC_CODE, C.REED_DISC_FRAMING, C.REED_DISC_HEADER,
    C.REED_DISC_LENGTH, C.REED_DISC_PCRC],
   plainLedger 0x07 384 [K.REED_LCM_SETS] [C.REED_LCM_ACCEPTED, C.REED_LCM_DISCARDED],
   flightLedger 0x08 384 [C.REED_TX_WORDS_IN] [C.REED_TX_WORDS_SENT, C.REED_TX_WORDS_DROPPED]
     fun d n => ((List.range 4).map fun i => d.hget H.txQueue (4 * n + i)).sum,
   plainLedger 0x09 1536 [C.ING_LINES_IN] [C.ING_LINES_GOOD, C.ING_LINES_DAMAGED, C.ING_LINES_DISCARDED],
   flightLedger 0x0A 1536 [C.ING_FRAMES_DONE] [C.ING_FRAMES_DELIVERED, C.ING_FRAMES_DROPPED]
     fun d s => ((d.ing.rings.find? fun r => r.slot == s).map Ring.awaiting).getD 0,
   termLedger 0x0B 1 (fun d _ => terms [d.poolFree, d.poolUsed, d.get F.MERE_POOL_RETIRED]) (fun _ _ => [2048]) fun _ => [0],
   plainLedger 0x0C 1536 [C.XPT_SEAL_VOTED] [C.XPT_SEAL_AGREE, C.XPT_SEAL_CORRECTED, C.XPT_SEAL_SHADOW_FAIL, C.XPT_SEAL_ESCAPED,
    C.XPT_SEAL_UNCORR_MERE],
   ⟨0x0D, 1, [C.XPT_TL_ADMITTED], [C.XPT_TL_APPLIED, C.XPT_TL_SUPERSEDED, C.XPT_TL_CANCELLED, C.XPT_TL_REFUSED_ARM],
     fun _ _ => [], fun d _ => terms [d.xpt.entries.length, d.xpt.held.length], fun _ => []⟩,
   plainLedger 0x0E 1536 [K.EGR_ANC_IN] [K.EGR_ANC_OUT, C.EGR_ANC_DROPPED, C.EGR_AUD_PKT_REMOVED, K.EGR_AUD_EMBED_REMOVED],
   plainLedger 0x0F 2 [K.FABRIC_ISSUED] [K.FABRIC_RETURNED],
   plainLedger 0x10 16 [C.MV_TILES_DUE] [C.MV_TILES_DRAWN, C.MV_TILES_HELD, C.MV_TILES_SCREED, C.MV_TILES_HATCHED],
   plainLedger 0x11 64 [C.CNV_LINES_IN] [C.CNV_LINES_CONVERTED, C.CNV_LINES_PASSED]]

/-- The ledgers of the media ports, the flows and PTP. -/
def networkLedgers : List LedgerDef :=
  [plainLedger 0x12 34 [C.ETH_RX_FRAMES] [C.ETH_RX_DELIVERED, C.ETH_RX_MAC_CTRL, C.ETH_RX_CTRL_UNSUP, C.ETH_RX_PHY_ERR, C.ETH_RX_RUNT,
    C.ETH_RX_OVERSIZE, C.ETH_RX_FCS_ERR, C.ETH_RX_MACSEC_DROP, C.ETH_RX_VLAN_DROP, C.ETH_RX_FILTERED, C.ETH_RX_QUEUE_DROP],
   flightLedger 0x13 34 [C.ETH_TX_FRAMES_IN] [C.ETH_TX_SENT, C.ETH_TX_UNDERRUN, C.ETH_TX_OVERSIZE, C.ETH_TX_LINK_DROP, C.ETH_TX_PN_DROP]
     fun d n => d.macQueued n,
   flightLedger 0x14 34 [C.ETH_PAUSE_QUANTA_RX] [C.ETH_PAUSE_QUANTA_SERVED, C.ETH_PAUSE_QUANTA_CANCELLED, C.ETH_PAUSE_QUANTA_IGNORED]
     fun d n => d.hget H.pauseTimer n,
   plainLedger 0x15 4096 [C.IPM_RX_LEG_RX] [C.IPM_RX_LEG_VALID, C.IPM_RX_LEG_INVALID],
   ⟨0x16, 2048, [], [C.IPM_RX_USED, C.IPM_RX_DUPLICATE, C.IPM_RX_LATE, C.IPM_RX_OVERFLOW],
     fun d r => terms [d.count C.IPM_RX_LEG_VALID (2 * r), d.count C.IPM_RX_LEG_VALID (2 * r + 1)], fun _ _ => [],
     fun d => ((d.ctr.insts C.IPM_RX_LEG_VALID.id).map (· / 2)).foldl (fun l r => insertNat r l) []⟩,
   flightLedger 0x17 4096 [C.IPM_TX_LEG_MADE] [C.IPM_TX_LEG_SENT, C.IPM_TX_LEG_DROP] fun d g => d.ipmQueued g,
   plainLedger 0x18 32 [C.IPM_INST_OFFERED] [C.IPM_INST_MATCHED, C.IPM_INST_UNMATCHED, C.IPM_INST_IP_BAD],
   flightLedger 0x19 10 [C.PTP_TXQ_CAPTURED] [C.PTP_TXQ_READ, C.PTP_TXQ_OVERFLOWED] fun d q => (d.txq.getD q []).length,
   plainLedger 0x1A 4 [C.PTP_IF_RX_ALL] [C.PTP_IF_RX_USED, C.PTP_IF_RX_UNBOUND, C.PTP_IF_RX_MALFORMED, C.PTP_IF_RX_DOMAIN,
    C.PTP_IF_RX_NOT_PARENT, C.PTP_IF_RX_FOLLOW_UP]]

/-- The ledgers of the reference, of audio, of the Fen engines, the Causeway and self-test. -/
def otherLedgers : List LedgerDef :=
  [termLedger 0x1B 1 (fun d _ => [toSigned 64 (d.count K.PHASE_REQUESTED)])
    (fun d _ => [toSigned 64 (d.count K.PHASE_STEPPED), toSigned 64 (d.count K.PHASE_SLEWED), d.phaseRemain,
      toSigned 64 (d.count K.PHASE_REFUSED)]) (fun _ => [0]),
   plainLedger 0x1C 24 [C.APT_RECEIVED, C.APT_ZERO_INSERTED] [C.APT_DELIVERED, C.APT_DROPPED, C.APT_QUEUED],
   flightLedger 0x1D 1024 [C.AMX_JOB_BLOCKS_DUE] [C.AMX_JOB_BLOCKS_DONE, C.AMX_JOB_BLOCKS_OVERRUN] fun d j => d.mixOpen j,
   termLedger 0x1E 1 (fun d _ => terms [d.freeUnits, unitsIn d.unitRuns]) (fun _ _ => [131072]) (fun _ => [0]),
   flightLedger 0x1F 256 [C.FEN_JOBS_DUE] [C.FEN_JOBS_DONE, C.FEN_JOBS_OVERRUN, C.FEN_JOBS_TRAPPED] fun d l => d.jobsOpen l,
   flightLedger 0x20 1 [C.CSW_FR_RX] [C.CSW_FR_USED, C.CSW_FR_DUP, C.CSW_FR_RUNT, C.CSW_FR_OVERSIZE, C.CSW_FR_FCS, C.CSW_FR_MACSEC,
    C.CSW_FR_DELIM] fun d _ => d.cswOpen,
   flightLedger 0x21 1 [C.CSW_EPOCHS_BEGUN] [C.CSW_EPOCHS_COMMITTED, C.CSW_EPOCHS_DISCARDED] fun d _ => ofBool d.csw.receiving.isSome,
   plainLedger 0x22 1 [C.CSW_SEAL_RX] [C.CSW_SEAL_MATCH, C.CSW_SEAL_MISMATCH, C.CSW_SEAL_UNCMP],
   plainLedger 0x23 1 [C.CSW_LIVE_RX] [C.CSW_LIVE_APPLIED, C.CSW_LIVE_LATE],
   flightLedger 0x24 1 [C.BIST_SLICES_STARTED] [C.BIST_SLICES_PASS, C.BIST_SLICES_FAIL, C.BIST_SLICES_INCOMPLETE]
     fun d _ => ((List.range 4).filter fun q => d.get F.BIST_POOL_STATE q == 1).length]

/-- Every class of R512. -/
def ledgers : List LedgerDef := systemLedgers ++ videoLedgers ++ networkLedgers ++ otherLedgers

/-- The terms of one ledger. -/
def LedgerDef.terms (l : LedgerDef) (d : Dev) (i : Nat) : List Int × List Int :=
  (l.left.map (fun c => (d.count c i : Int)) ++ l.moreLeft d i, l.right.map (fun c => (d.count c i : Int)) ++ l.moreRight d i)

/-- By how much the left side exceeds the right. -/
def LedgerDef.imbalance (l : LedgerDef) (d : Dev) (i : Nat) : Int := (l.terms d i).1.sum - (l.terms d i).2.sum

/-- The identity of R512. -/
def LedgerDef.identity (l : LedgerDef) (i : Nat) : Nat := l.cls * 2 ^ 24 + i

/-- The instances that may have a term other than 0, rising. -/
def LedgerDef.insts (l : LedgerDef) (d : Dev) : List Nat :=
  sortBy (· ≤ ·) (((l.left ++ l.right).foldl (fun is c => unionNat is (d.ctr.insts c.id)) (l.others d)).filter (· < l.count))

/-- The class and the instance of an identity. -/
def ledgerOf (id : Nat) : Option (LedgerDef × Nat) :=
  (ledgers.find? fun l => l.cls == id / 2 ^ 24 && id % 2 ^ 24 < l.count).map fun l => (l, id % 2 ^ 24)

/-- How many ledgers there are, and how many stand before a class. -/
def ledgerTotal : Nat := (ledgers.map LedgerDef.count).sum
def ledgersBefore (cls : Nat) : Nat := ((ledgers.filter fun l => l.cls < cls).map LedgerDef.count).sum

/-! ### The check at T3 (R28, R29, R513) -/

/-- Every ledger's terms are latched. -/
def Dev.latchLedgers (d : Dev) : Dev :=
  d.onHealth fun h => { h with latched := ledgers.flatMap fun l => (l.insts d).map fun i =>
    let t := l.terms d i
    ⟨l.identity i, t.1 ++ t.2, t.1.sum - t.2.sum⟩ }

/-- The terms of a ledger as latched; all 0 where none is listed. -/
def Dev.latchedTerms (d : Dev) (l : LedgerDef) (i : Nat) : List Int :=
  match d.health.latched.find? fun r => r.id == l.identity i with
  | some r => r.terms
  | none => List.replicate ((l.terms d i).1.length + (l.terms d i).2.length) 0

/-- LEDGER_FAULT of a ledger (R29). -/
def Dev.ledgerFault (d : Dev) (id : Nat) (imb : Int) (frame : Nat) : Dev :=
  (d.raise 992 ([id] ++ words2 (ofSigned 64 imb) ++ [frame])).hset H.ledgerFault 0 1

/-- One ledger is checked (R513): against the value recorded for it, or against 0.  DEDUCED (log entry 300): an imbalance that changes
to 0 is a changed imbalance too, so it replaces the recorded value and raises LEDGER_FAULT with 0, and a return to the older value is a
change again. -/
def Dev.checkLedger (d : Dev) (frame id : Nat) (imb : Int) : Dev :=
  match d.health.faults.find? fun f => f.id == id with
  | some f =>
    if imb = f.imbalance then d
    else (d.onHealth fun h => { h with faults := h.faults.map fun (g : LedgerFault) =>
      if g.id = id then { g with imbalance := imb } else g }).ledgerFault id imb frame
  | none =>
    if imb = 0 then d
    else if d.health.faults.length < 64 then
      (d.onHealth fun h => { h with faults := h.faults ++ [⟨id, imb, frame⟩] }).ledgerFault id imb frame
    else (d.set F.LDG_STATUS_TABLE_FULL 0 1).ledgerFault id imb frame

/-- The place of a ledger in the order of the check. -/
def ledgerRank (id : Nat) : Nat := ledgersBefore (id / 2 ^ 24) + id % 2 ^ 24

/-- The identities and the imbalances to check, of the first `stop` ledgers: those latched (R28), and those of the fault table that
latched nothing but zeros. -/
def Dev.latchedExcess (d : Dev) (stop : Nat) : List (Nat × Int) :=
  let lines := d.health.latched.map fun r => (r.id, r.excess)
  let rest := (d.health.faults.filter fun f => !lines.any fun r => r.1 == f.id).map fun f => (f.id, (0 : Int))
  (sortBy (fun a b => a.1 ≤ b.1) (lines ++ rest)).filter fun r => ledgerRank r.1 < stop

/-- The ledgers are checked in ascending identity order; the last `left` of them stay unchecked (R42, R513).  A stopped Lath checks
none (R22). -/
def Dev.checkLedgers (d : Dev) (left frame : Nat) : Dev :=
  let left := if d.lathRuns then min left ledgerTotal else ledgerTotal
  let stop := ledgerTotal - left
  let d := d.each (d.latchedExcess stop) fun d e => d.checkLedger frame e.1 e.2
  let d := ((d.set F.LDG_STATUS_UNCHECKED 0 (min 65535 left)).set F.LDG_CHECKED_LO_FRAME 0 frame).set F.LDG_CHECKED_HI_FRAME 0 (frame / 2 ^ 32)
  let d := d.hset H.t3Left 0 (if d.lathRuns then min 65535 left else 0)
  if left = 0 then d else d.raise 993 [left, frame]

/-! ### Rates, wear and the firmware's triggers (R507, R519, R520) -/

/-- Sum of a count over all its instances. -/
def Dev.total (d : Dev) (c : Ctr) : Nat := ((d.ctr.filter fun e => e.fld == c.id).map Cell.val).sum

/-- The counts of the PLANE and the MERE_CE trigger, over all destinations and both stacks. -/
def Dev.planeTotal (d : Dev) : Nat :=
  d.total C.XPT_SEAL_CORRECTED + d.total C.XPT_SEAL_SHADOW_FAIL + d.total C.XPT_SEAL_ESCAPED + d.total C.XPT_SEAL_UNCORR_MERE
def Dev.ceTotal (d : Dev) : Nat := d.count C.MERE_ECC_CE_A + d.count C.MERE_ECC_CE_B

/-- What has been counted since the rates were last taken belongs to the TIME second in progress; seconds that lie more than 3,600
back are dropped. -/
def Dev.takeRates (d : Dev) : Dev :=
  let sec := d.now / 10 ^ 9
  let plane := d.planeTotal
  let ce := d.ceTotal
  d.onHealth fun h =>
    let r : RateSecond := ⟨sec, plane - h.planeSeen, ce - h.ceSeen⟩
    let kept := h.rates.filter fun r => sec ≤ r.second + 3600 && r.second ≤ sec
    { h with
      planeSeen := plane
      ceSeen := ce
      rates := if r.plane = 0 ∧ r.ce = 0 then kept else r :: kept }

/-- The sums over the last 3,600 whole seconds of TIME. -/
def Dev.rateSums (d : Dev) : Nat × Nat :=
  let sec := d.now / 10 ^ 9
  let rs := d.health.rates.filter fun r => r.second < sec
  ((rs.map RateSecond.plane).sum, (rs.map RateSecond.ce).sum)

/-- The wear count in units of 2⁻¹⁶ s. -/
def Dev.wear (d : Dev) : Nat := d.get F.HLT_WEAR_HI_WEAR * 2 ^ 32 + d.get F.HLT_WEAR_LO_WEAR

def Dev.setWear (d : Dev) (v : Nat) : Dev := (d.set F.HLT_WEAR_LO_WEAR 0 v).set F.HLT_WEAR_HI_WEAR 0 (v / 2 ^ 32)

/-- The wear trigger's condition (R507, bit 7). -/
def Dev.worn (d : Dev) : Bool :=
  d.get F.HLT_STATUS_WEAR_VALID == 1 && d.wear * 100 ≥ d.get F.HLT_WEAR_CFG_SERVICE_PCT * 1262304000 * 65536

/-- The firmware evaluates its triggers at T3, after the ledger check (R507). -/
def Dev.firmwareTriggers (d : Dev) : Dev :=
  if !d.lathRuns then d
  else
    let d := d.takeRates
    let s := d.rateSums
    let bs := (if d.hget H.ledgerFault == 1 then [0] else []) ++
      (if s.1 > d.get F.HLT_RATE_PLANE_PER_H then [3] else []) ++
      (if s.2 > d.get F.HLT_RATE_CE_PER_H then [4] else []) ++ if d.worn then [7] else []
    (d.setTriggers bs).hset H.ledgerFault 0 0

/-- The largest `n` below 2 ^ k with n ^ 160 ≤ v, by halving. -/
def root160 : Nat → Nat → Nat → Nat
  | 0, _, acc => acc
  | k + 1, v, acc => root160 k v (if (acc + 2 ^ k) ^ 160 ≤ v then acc + 2 ^ k else acc)

/-- The weight of a second in units of 2⁻¹⁶ s at a mean of `t` sixteenths of a degree, rounded down (R519, log entry 84): the
160th root of 2 ^ (2560 + t − 1360). -/
def wearWeight (t : Int) : Nat :=
  let t := min 2400 (max 400 t).toNat
  root160 24 (2 ^ (1200 + t)) 0

/-- The readings of a second: the mean of the hottest die sensor, its present value and the stack temperatures, in sixteenths of a
degree (R507, R519, R530). -/
def Dev.wearSecond (d : Dev) (mean tj hbmA hbmB : Int) : Dev :=
  let d := (d.set F.HLT_TJ_TJ 0 (ofSigned 16 tj)).set F.HLT_TJ_TJ_PEAK 0
    (ofSigned 16 (max tj (toSigned 16 (d.get F.HLT_TJ_TJ_PEAK))))
  let d := (d.set F.TOP_THERM_HBM_A 0 (ofSigned 16 hbmA)).set F.TOP_THERM_HBM_B 0 (ofSigned 16 hbmB)
  let d := (d.hset H.hbmFast 0 (ofBool (hbmA > 1360))).hset H.hbmFast 1 (ofBool (hbmB > 1360))
  if d.hget H.porLow == 1 then d else d.setWear (d.wear + wearWeight mean)

/-- The TJ trigger's condition begins: more than 105.0 °C for 1 s (R507). -/
def Dev.tjTimeout (d : Dev) (tj : Int) : Dev :=
  let d := d.set F.HLT_TJ_TJ 0 (ofSigned 16 tj)
  if tj ≤ 1680 || d.hget H.tjHot == 1 then d
  else ((d.hset H.tjHot 0 1).raise 18 [ofSigned 32 tj]).healthReview

/-- It ends (R507, R508). -/
def Dev.tjConditionEnd (d : Dev) (tj : Int) : Dev :=
  let d := d.set F.HLT_TJ_TJ 0 (ofSigned 16 tj)
  if tj > 1680 || d.hget H.tjHot == 0 then d
  else (d.hset H.tjHot 0 0).raise 18 [ofSigned 32 tj]

/-! ### Views -/

/-- An entry of the fault table as the register at word `j` shows it. -/
def Dev.faultWord (d : Dev) (e j : Nat) : Nat :=
  match d.health.faults[e]? with
  | none => 0
  | some f => match j with
    | 0 => f.id
    | 1 => ofSigned 64 f.imbalance % 2 ^ 32
    | 2 => ofSigned 64 f.imbalance / 2 ^ 32
    | _ => f.frame % 2 ^ 32

/-- The computed part of LDG_STATUS: FAULTED. -/
def Dev.ledgerStatusView (d : Dev) : Nat := d.health.faults.length * 2 ^ 16

/-- The 64-bit copy of a term at an offset of the copies' region (R514): the first class in whose instances it lies; the terms stand in the
order of the equation, as LEDGER_READ returns them (R151). -/
def Dev.ledgerCopy (d : Dev) (off : Nat) : Option Nat :=
  ledgers.findSome? fun l =>
    let base := Config.ledgerBase l.cls
    let stride := Config.ledgerStride l.cls
    if stride = 0 ∨ off < base then none
    else
      let i := (off - base) / stride
      let k := (off - base) % stride
      match ((l.terms d i).1 ++ (l.terms d i).2)[k / 8]? with
      | some t => if i < l.count then some (if k % 8 < 4 then ofSigned 64 t % 2 ^ 32 else ofSigned 64 t / 2 ^ 32) else none
      | none => none

/-! ### Commands -/

/-- HEALTH_STATUS_GET (0x0810). -/
def healthStatusGetSpec : Spec := { op := 0x0810 }

def Dev.healthStatusGet (d : Dev) (q : Req) : Dev := d.command q healthStatusGetSpec fun d _ =>
  d.reply q 0x0810 St.ok [data [w4 (d.storedAt 0xB00000 + d.healthStatusView), w4 (d.get F.HLT_TRIG_TRIG), w4 (d.storedAt 0xB00014), w8 d.wear]]

/-- HEALTH_CLEAR (0x0811): a W1C write of HLT_TRIG (R508). -/
def healthClearSpec : Spec := { op := 0x0811, pars := [.req 0x0101 any4] }

def Dev.healthClear (d : Dev) (q : Req) : Dev := d.command q healthClearSpec fun d ts =>
  (d.clearTriggers (tlvNum ts 0x0101)).reply q 0x0811 St.ok

/-- HLT_WEAR_CFG as stored: above 100 as 100. -/
def Dev.setWearCfg (d : Dev) (w : Nat) : Dev := d.set F.HLT_WEAR_CFG_SERVICE_PCT 0 (min 100 (fieldOf F.HLT_WEAR_CFG_SERVICE_PCT w))

/-- HLT_SPARE_LOW as stored. -/
def Dev.setSpareLow (d : Dev) (w : Nat) : Dev :=
  d.each [F.HLT_SPARE_LOW_MERE_RETIRED, F.HLT_SPARE_LOW_SCALER, F.HLT_SPARE_LOW_CNV, F.HLT_SPARE_LOW_FEN] fun d f => d.set f 0 (fieldOf f w)

/-- HLT_RATE as stored. -/
def Dev.setRateLimits (d : Dev) (w : Nat) : Dev := d.each [F.HLT_RATE_CE_PER_H, F.HLT_RATE_PLANE_PER_H] fun d f => d.set f 0 (fieldOf f w)

/-- HEALTH_CONFIG (0x0812). -/
def healthConfigSpec : Spec := { op := 0x0812, pars := [.opt 0x0101 any4, .opt 0x0102 any4, .opt 0x0103 any4] }

def Dev.healthConfig (d : Dev) (q : Req) : Dev := d.command q healthConfigSpec fun d ts =>
  let d := if hasTlv ts 0x0101 then d.setSpareLow (tlvNum ts 0x0101) else d
  let d := if hasTlv ts 0x0102 then d.setRateLimits (tlvNum ts 0x0102) else d
  let d := if hasTlv ts 0x0103 then d.setWearCfg (tlvNum ts 0x0103) else d
  d.healthReview.reply q 0x0812 St.ok

/-- WEAR_SET (0x0813): once per power-on, on P0 (R520). -/
def wearSetSpec : Spec := { op := 0x0813, ports := [0], pars := [.req 0x0101 (num 8 fun _ => true)] }

def Dev.wearSet (d : Dev) (q : Req) : Dev := d.command q wearSetSpec fun d ts =>
  if d.get F.HLT_STATUS_WEAR_VALID == 1 then d.reply q 0x0813 St.badParam [statusDetail 0xFFFF 0xFF 0x90]
  else ((d.setWear (d.wear + tlvNum ts 0x0101)).set F.HLT_STATUS_WEAR_VALID 0 1).reply q 0x0813 St.ok

/-- LEDGER_STATUS_GET (0x0814): the epoch and LDG_STATUS, then each used fault entry. -/
def ledgerStatusGetSpec : Spec := { op := 0x0814 }

def Dev.ledgerStatusGet (d : Dev) (q : Req) : Dev := d.command q ledgerStatusGetSpec fun d _ =>
  d.reply q 0x0814 St.ok (⟨0x0102, w4 (d.get F.LDG_EPOCH_EPOCH) ++ w4 (d.storedAt 0xC00004 + d.ledgerStatusView)⟩ ::
    d.health.faults.map fun f => data [w4 f.id, w8 (ofSigned 64 f.imbalance), w4 (f.frame % 2 ^ 32)])

/-- LEDGER_READ (0x0815): the terms as latched at the last T3, in the order of the equation. -/
def ledgerReadSpec : Spec := { op := 0x0815, pars := [.req 0x0101 any4] }

def Dev.ledgerRead (d : Dev) (q : Req) : Dev := d.command q ledgerReadSpec fun d ts =>
  match ledgerOf (tlvNum ts 0x0101) with
  | none => d.reply q 0x0815 St.badParam [statusDetail (tlvIndex ts 0x0101) 0xFF 0]
  | some (l, i) => d.reply q 0x0815 St.ok [data ((d.latchedTerms l i).map fun t => w8 (ofSigned 64 t))]

def execWearSecond (mean tj hbmA hbmB : Int) (s : State) : Host.Outcome State Fault Refusal := lift (·.wearSecond mean tj hbmA hbmB) s
def execTjTimeout (tj : Int) (s : State) : Host.Outcome State Fault Refusal := lift (·.tjTimeout tj) s
def execTjConditionEnd (tj : Int) (s : State) : Host.Outcome State Fault Refusal := lift (·.tjConditionEnd tj) s
def execHealthStatusGet (q : Req) (s : State) : Host.Outcome State Fault Refusal := lift (·.healthStatusGet q) s
def execHealthClear (q : Req) (s : State) : Host.Outcome State Fault Refusal := lift (·.healthClear q) s
def execHealthConfig (q : Req) (s : State) : Host.Outcome State Fault Refusal := lift (·.healthConfig q) s
def execWearSet (q : Req) (s : State) : Host.Outcome State Fault Refusal := lift (·.wearSet q) s
def execLedgerStatusGet (q : Req) (s : State) : Host.Outcome State Fault Refusal := lift (·.ledgerStatusGet q) s
def execLedgerRead (q : Req) (s : State) : Host.Outcome State Fault Refusal := lift (·.ledgerRead q) s
def execHltTrigWrite (m : Fin 8) (v : Word) (s : State) : Host.Outcome State Fault Refusal :=
  lift (fun d => d.busWrite m 0xB00004 v.toNat (·.clearTriggers v.toNat)) s

end Sys2Proof.Machine
end

