-- ==== Sys2Proof/Machine/Mere.lean ====
section
/-! DEFINITION. Mere's errors and its loss of service (R210, R211). -/

namespace Sys2Proof.Machine

/-- A device that has Mere in service. -/
def Dev.mereUp (d : Dev) : Bool := d.get F.MERE_STATUS_IN_SERVICE == 1

/-- Mere goes out of service until a device reset (R211): every slot that writes to it is judged again (cause 8), which
is raised with its cause. -/
def Dev.mereOut (d : Dev) (cause : Nat) : Dev :=
  if !d.mereUp then d
  else
    let d := d.set F.MERE_STATUS_IN_SERVICE 0 0
    let d := d.each d.liveSlots Dev.reviewSlot
    (d.raise 580 [cause]).healthReview

/-- The line of a Mere ring whose header the error met is damaged (R190, R210): in the frame whose buffer the offset lies in, for a buffer
in the pool in the frame that readout sends. -/
def Dev.damageLine (d : Dev) (slot line offset : Nat) : Dev :=
  let b := d.slotBase slot
  let r := d.ring b
  let page := offset / pageSize
  let hit := fun (f : RingFrame) => if page < 442368 then f.k % d.get F.MERE_SLOT_CFG_DEPTH b == page % 288 / 96 else some f.k == r.last
  if r.frames = [] then d
  else d.setRing { r with frames := r.frames.map fun f => if hit f then
    { f with lines := f.lines.map fun l => if l.member = slot - b ∧ l.number = line then { l with damaged := true } else l } else f }

/-- What an uncorrectable error does to the data it meets (R190, R210, R264, R317).  A damaged line header counts as one more
line in, damaged, so that the slot's ledger stays balanced (log entry 35). -/
def Dev.mereDamage (d : Dev) (offset : Nat) (k : MereHit) : Dev :=
  match k with
  | .content => d
  | .header slot line => (((d.damageLine slot line offset).bump C.ING_LINES_IN slot).bump C.ING_LINES_DAMAGED slot).raise 521 [slot, line]
  | .proxy tile => d.bump C.MV_PROXY_ERR (tile / 64)
  | .composition => d
  | .staging context n =>
    let d := (d.dropPackets (2 * context) n).dropPackets (2 * context + 1) n
    (d.bump C.IPM_TX_STAGE_ERR context n).raise 677 (context.val :: words2 offset)
  | .other => d

/-- A Mere access meets an ECC error (R210): stack 0 is A and 1 is B, `offset` is the BAR2 offset. -/
def Dev.mereError (d : Dev) (stack : Nat) (corrected : Bool) (offset : Nat) (k : MereHit) : Dev :=
  if corrected then (d.bump (if stack = 0 then C.MERE_ECC_CE_A else C.MERE_ECC_CE_B)).raise 576 [stack]
  else
    let d := d.bump (if stack = 0 then C.MERE_ECC_UE_A else C.MERE_ECC_UE_B)
    let d := if d.get F.MERE_ECC_ADDR_HI_VALID == 1 then d
      else ((d.set F.MERE_ECC_ADDR_HI_VALID 0 1).set F.MERE_ECC_ADDR_LO_ADDR 0 offset).set F.MERE_ECC_ADDR_HI_ADDR 0 (offset / 2 ^ 32)
    let d := d.raise 577 (words2 offset)
    let d := d.mereDamage offset k
    let n := d.hget H.mereErrors + 1
    let d := d.hset H.mereErrors 0 n
    if n > 64 then d.mereOut 2 else d

/-- A stack is lost (R211): cause 0 its PLL, 1 a retrain that failed. -/
def Dev.stackLost (d : Dev) (stack cause : Nat) : Dev :=
  (d.set (if stack = 0 then F.MERE_STATUS_STACK_A_OK else F.MERE_STATUS_STACK_B_OK) 0 0).mereOut cause

/-- A PHY retrain of a stack fails (R211). -/
def Dev.retrainFail (d : Dev) (stack : Nat) : Dev := d.stackLost stack 1

/-- A write of MERE_ECC_ADDR_HI: VALID is cleared by a 1 (R2, R210), which re-arms the capture. -/
def Dev.clearEccAddr (d : Dev) (w : Nat) : Dev := if bit w 31 then d.set F.MERE_ECC_ADDR_HI_VALID 0 0 else d

def execMereEccError (stack : Fin 2) (corrected : Bool) (offset : Nat) (hit : MereHit) (s : State) :
    Host.Outcome State Fault Refusal := lift (·.mereError stack corrected offset hit) s
def execMereRetrainFail (stack : Fin 2) (s : State) : Host.Outcome State Fault Refusal := lift (·.retrainFail stack) s
def execMereEccAddrClear (m : Fin 8) (v : Word) (s : State) : Host.Outcome State Fault Refusal :=
  lift (fun d => d.busWrite m 0x1500034 v.toNat fun d => d.clearEccAddr v.toNat) s

end Sys2Proof.Machine
end

