-- ==== Sys2Proof/Machine/RegWrite.lean ====
section
/-! DEFINITION. What a write of a register does (R2, R3, R47): by the access types of its fields, or by the rule that its chapter
gives; the admission of shadowed fields (R203, R207). -/

namespace Sys2Proof.Machine

/-! ### By access type (R2) -/

/-- A field that no chapter gives a rule of its own. -/
def Dev.writePart (d : Dev) (i w : Nat) : Part → Dev
  | .cnt _ => d
  | .fld f => match f.acc with
    | .rw => d.set f i (fieldOf f w)
    | .w1c => d.set f i (d.get f i - (d.get f i &&& fieldOf f w))
    | .w1s => d.set f i (d.get f i ||| fieldOf f w)
    | _ => d

def Dev.writeParts (d : Dev) (r : Reg) (i w : Nat) : Dev := d.each r.parts fun d p => d.writePart i w p

/-- The SH fields of a register. -/
def Reg.shFields (r : Reg) : List Fld := r.parts.filterMap fun p => match p with
  | .fld f => if f.acc = .sh then some f else none
  | .cnt _ => none

/-! ### Shadowed fields -/

/-- The word with a field replaced. -/
def withField (f : Fld) (w v : Nat) : Nat := w - bits w f.lsb f.width * 2 ^ f.lsb + v % 2 ^ f.width * 2 ^ f.lsb

/-- A field's value kept in a range. -/
def clampField (f : Fld) (lo hi w : Nat) : Nat := withField f w (min hi (max lo (fieldOf f w)))

/-- A gang code at a slot that is no multiple of the gang. -/
def misaligned (f : Fld) (i w : Nat) : Bool := i % gangSize (fieldOf f w) != 0

/-- A word keeps its values or is discarded. -/
def storedUnless (bad : Bool) (w : Nat) : Option Nat := if bad then none else some w

/-- What a write of `w` at a register's base offset stores in its shadow copies; none where the write is discarded. -/
def Dev.shadowStored (d : Dev) (base i w : Nat) : Option Nat :=
  match base with
  | 0x10C0000 => some (if w % 4 = 0 then withField F.REED_TXGRP_CFG_RATE w 3 else w)
  | 0x1400000 =>
    storedUnless (fieldOf F.ING_SLOT_CFG_FEED_KIND w = 3 || fieldOf F.ING_SLOT_CFG_PATH w = 3 || misaligned F.ING_SLOT_CFG_GANG i w) w
  | 0x1510000 =>
    some (clampField F.MERE_SLOT_CFG_FRAME_PAGES 96 160 (clampField F.MERE_SLOT_CFG_DELAY 1 6 (clampField F.MERE_SLOT_CFG_DEPTH 3 8 w)))
  | 0x1600000 => storedUnless (fieldOf F.XPT_DEST_CFG_LOSS_POLICY w = 3 || misaligned F.XPT_DEST_CFG_GANG i w) w
  | 0x160000C =>
    some ([F.XPT_AC_THRESH_SILENCE_FR, F.XPT_AC_THRESH_ERR_RATE, F.XPT_AC_THRESH_FREEZE_FR, F.XPT_AC_THRESH_BLACK_FR].foldl
      (fun w f => clampField f 1 255 w) w)
  | 0x1600010 => some (clampField F.XPT_AC_REVERT_REVERT_FRAMES 1 65535 w)
  | 0x1680100 =>
    storedUnless (!generatorFormat (fieldOf F.XPT_GEN_CFG_FORMAT w) || !d.supports (fieldOf F.XPT_GEN_CFG_RATE w))
      (if fieldOf F.XPT_GEN_CFG_PATTERN w < 5 then w else withField F.XPT_GEN_CFG_PATTERN w 0)
  | 0x1800000 =>
    storedUnless (!([0x10, 0x12, 0x20].contains (fieldOf F.MV_HEAD_CFG_FORMAT w)) || !d.supports (fieldOf F.MV_HEAD_CFG_RATE w)) w
  | 0x1800040 => storedUnless (fieldOf F.MV_CSET_PRESET w > 10) w
  | 0x1800408 => storedUnless (fieldOf F.MV_TILE_SRC_PROXY_SEL w = 3) w
  | 0x180040C => some (clampField F.MV_TILE_CORNICE_METERS 0 16 w)
  | 0x1802808 => some (clampField F.MV_GUARD_CTRL_CLEAR_FRAMES 1 15 w)
  | 0x1900000 => storedUnless (11 ≤ fieldOf F.CNV_CFG_PRESET w && fieldOf F.CNV_CFG_PRESET w ≤ 14) w
  | 0x1E00000 => some (clampField F.AMX_DEST_LIST_COUNT 0 4096 w)
  | _ => ipmStored base (i % 2) w

/-- The shadow copies of a register's fields take a word, if the hardware admits it (R203, R207, R312).  The other results are
the reason why it is discarded. -/
def Dev.loadShadow (d : Dev) (r : Reg) (i w : Nat) : Dev × Admission :=
  let ws := r.shFields.map fun f => sw f i (fieldOf f w)
  match d.admitShadow ws with
  | .admitted => (d.each r.shFields fun d f => d.load f i (fieldOf f w), .admitted)
  | .bandwidth claim => ((d.bump C.MERE_BW_REFUSED).raise 578 [claim, d.bwLimit], .bandwidth claim)
  | .pool slot asked free => (d.raise 579 [slot, asked, free], .pool slot asked free)
  | .store => (d, .store)

/-! ### Registers with rules of their own -/

/-- CMD_PORT_CTRL of a port: P3 takes no leases; a P4 that is disabled loses its leases (R119). -/
def Dev.writePortCtrlReg (d : Dev) (p w : Nat) : Dev :=
  let d := if p = 3 then d else d.set F.CMD_PORT_CTRL_LEASE_ALLOW p (w / 2)
  let was := d.get F.CMD_PORT_CTRL_ENABLE p
  let d := d.set F.CMD_PORT_CTRL_ENABLE p w
  if p = 4 ∧ was = 1 ∧ w % 2 = 0 then d.endPortLeases 4 2 else d

/-- A field takes a value that is kept in a range. -/
def Dev.setIn (d : Dev) (f : Fld) (i lo hi w : Nat) : Dev := d.set f i (min hi (max lo (fieldOf f w)))

/-- The registers of the windows below REF, and of GPIO, HLT, BIST and CSW. -/
def Dev.systemWrite (d : Dev) (m base i w : Nat) : Option Dev :=
  match base with
  | 0xC => some (d.writeTopReset w [])
  | 0x200000 => some (d.writeBusCtrl w)
  | 0x200004 => some (d.setIn F.BUS_TIMEOUT_CYCLES 0 256 65535 w)
  | 0x200008 => some (d.setIn F.BUS_ARB_STARVE 0 1 65535 w)
  | 0x200018 => some (d.clearSump w)
  | 0x200040 => some (d.setIn F.BUS_WEIGHT_WEIGHT i 1 15 w)
  | 0x400000 => some (d.writeEvtStatus i w)
  | 0x400080 => some (d.writeIntEn i w)
  | 0x400184 => some (d.writeEvtCtrl w)
  | 0x40018C => some (d.writeRdHost w)
  | 0x500000 => some (d.writePortCtrlReg i w)
  | 0x500104 => some (d.set F.CMD_UART_CFG_BAUD 0 (if w % 4 = 3 then 0 else w))
  | 0x500108 => some (d.setIn F.CMD_LEASE_CFG_TIMEOUT 0 10 6000 w)
  | 0x700000 => some (d.writeTickCfg w)
  | 0x700004 => some (d.writeTickCtrl w)
  | 0x700028 => some (d.writeTickCommit m w)
  | 0xA00000 => some (d.writeGpioCfg i w)
  | 0xA00100 => some ((d.setIn F.GPIO_TIMING_CHATTER_LIMIT 0 10 65535 w).set F.GPIO_TIMING_STUCK_TIME 0 (w / 65536))
  | 0xA00114 => some (d.writeGpioArm w)
  | 0xB00004 => some (d.clearTriggers w)
  | 0xB00008 => some (d.setSpareLow w).healthReview
  | 0xB0000C => some (d.setRateLimits w).healthReview
  | 0xB00010 => some (d.setWearCfg w).healthReview
  | 0xD00100 => some (d.setRollCfg w)
  | 0xF00000 =>
    some ((((d.setIn F.CSW_CFG_RESYNC_AFTER 0 1 255 w).set F.CSW_CFG_MACSEC_EN 0 (w / 4)).set F.CSW_CFG_AUTO_TAKEOVER 0 (w / 2)).set
      F.CSW_CFG_EN 0 w).causewayEnabled
  | 0xF00004 => some ((d.setIn F.CSW_TIMING_DIVERGE_LINES 0 1 255 w).setIn F.CSW_TIMING_LATH_LOSS_MS 0 600 65535 w)
  | 0xF0010C =>
    some (((d.setIn F.CSW_LANE_TXEQ_SWING i 0 12 w).set F.CSW_LANE_TXEQ_PRE i (w / 16)).set F.CSW_LANE_TXEQ_POST i (w / 256))
  | _ => none

/-- REED_LANE_CTRL of a lane; what the lane sees after a slip is open here. -/
def Dev.writeLaneCtrlFree (d : Dev) (n w : Nat) : Dev :=
  if bit w 2 then
    let (v, d) := d.fresh
    d.writeLaneCtrl n w (v % 2 == 1)
  else d.writeLaneCtrl n w false

/-- AMX_METER_CFG of a slot: one that begins to measure, or measures another channel, has measured nothing. -/
def Dev.writeMeterCfg (d : Dev) (j w : Nat) : Dev :=
  let was := (d.get F.AMX_METER_CFG_EN j, d.get F.AMX_METER_CFG_SPACE j, d.get F.AMX_METER_CFG_CHANNEL j)
  let d := d.each [F.AMX_METER_CFG_EN, F.AMX_METER_CFG_SPACE, F.AMX_METER_CFG_LOUD_EN, F.AMX_METER_CFG_WEIGHT, F.AMX_METER_CFG_GROUP,
    F.AMX_METER_CFG_CHANNEL] fun d f => d.set f j (fieldOf f w)
  if d.get F.AMX_METER_CFG_EN j = 1 ∧ was ≠ (1, d.get F.AMX_METER_CFG_SPACE j, d.get F.AMX_METER_CFG_CHANNEL j) then d.clearMeter j
  else d

/-- The registers of the signal blocks. -/
def Dev.blockWrite (d : Dev) (base i w : Nat) : Option Dev :=
  match base with
  | 0x1000004 => some (d.writeLaneCtrlFree i w)
  | 0x1000014 =>
    some (((d.setIn F.REED_LANE_TXEQ_SWING i 0 12 w).set F.REED_LANE_TXEQ_PRE i (w / 16)).set F.REED_LANE_TXEQ_POST i (w / 256))
  | 0x1400004 => some (d.reskim i w)
  | 0x14C000C => some (d.setIn F.ING_LOCK_CFG_LOCK_FRAMES 0 1 15 w)
  | 0x1500034 => some (d.clearEccAddr w)
  | 0x1680300 => some (d.writeInject w)
  | 0x1900014 => some (d.writeLutData i w)
  | 0x1B00040 => some (d.set F.MGT_SAK_DATA_KEY i w)
  | 0x1C90000 => some (d.writeIpmTimeout w)
  | 0x1D00000 => some (d.writePortCfg i w)
  | 0x1D00004 => some (d.writePortMask i w)
  | 0x1D0000C => some (d.writePortCtrl i w)
  | 0x1D00010 => some (d.writePortMute i w)
  | 0x1D10020 => some (d.writeGroupCtrl i w)
  | 0x1E80000 => some (d.writeMeterCfg i w)
  | 0x1EE0000 => some (d.writeLoudReset w)
  | 0x1F00404 => some (d.setIn F.FEN_SCHED_BLOCK_BUDGET 0 0 500000 w)
  | 0x1F10000 => if fieldOf F.FEN_JOB_CLASS w = 3 then some d else none
  | 0x2000000 => some (d.writeHalt i w)
  | 0x2000004 => some (d.clearGuardOvf i w)
  | 0x2000008 => some (d.set F.FEN_PAGE_PAGE i (if w % 8 < 6 then w else 0))
  | 0x2003800 => some (d.writeFenWindow (i / 4096) (i % 4096) w)
  | _ => none

/-- The registers whose chapter gives a write a rule of its own. -/
def Dev.ruledWrite (d : Dev) (m base i w : Nat) : Option Dev :=
  ((((d.systemWrite m base i w).or (d.refWrite base i w)).or (d.ptpWrite base i w)).or (d.ethWrite base i w)).or (d.blockWrite base i w)

/-- A write of `w` to instance `i` of a register by master `m`, and what admission made of it. -/
def Dev.writeReg (d : Dev) (m : Nat) (r : Reg) (i w : Nat) : Dev × Admission :=
  match d.ruledWrite m r.base i w with
  | some d => (d, .admitted)
  | none =>
    let d := d.writeParts r i w
    if r.shadowed then
      match d.shadowStored r.base i w with
      | some w => d.loadShadow r i w
      | none => (d, .admitted)
    else (if 0x1C80000 ≤ r.base ∧ r.base < 0x1C90000 then d.netSync else d, .admitted)

/-- A word of the MSI-X table (R141): its vector, and the word of the vector's entry. -/
def Dev.writeMsix (d : Dev) (v j w : Nat) : Dev :=
  (match j with
  | 0 => d.hset H.msixAddrLo v w
  | 1 => d.hset H.msixAddrHi v w
  | 2 => d.hset H.msixData v w
  | _ => d.hset H.msixControl v w).unmasked

/-- A write at an offset that a block defines, once it has passed the matrix. -/
def Dev.writeWord (d : Dev) (m off w : Nat) : Dev × Admission :=
  if inMsix off then (if off < 0x302000 then d.writeMsix (off / 16 % 64) (off / 4 % 4) w else d, .admitted)
  else
    match findReg off with
    | some (r, i) => d.writeReg m r i w
    | none => (d, .admitted)

/-- A BAR0 write of a register. -/
def Dev.storeWord (d : Dev) (m off w : Nat) : Dev := d.busWrite m off w fun d => (d.writeWord m off w).1

def execRegisterWrite (m : Fin 8) (word : Fin 16777216) (v : Word) (s : State) : Host.Outcome State Fault Refusal :=
  lift (·.storeWord m (4 * word) v.toNat) s

/-- A write of a register without SH fields is no shadow write. -/
def execShadowWrite (m : Fin 8) (word : Fin 16777216) (v : Word) (s : State) : Host.Outcome State Fault Refusal :=
  lift (fun d => if (findReg (4 * word)).any fun x => x.1.shadowed then d.storeWord m (4 * word) v.toNat else d) s

end Sys2Proof.Machine
end

