-- ==== Sys2Proof/Machine/RegRead.lean ====
section
/-! DEFINITION. What a read of a register returns (R2, R3): its stored fields and what is computed when it is read, the clearing of RC
fields (R5), the latching of split values (R137), and the I²C status port (R534). -/

namespace Sys2Proof.Machine

/-! ### Computed words -/

/-- The low or the high word of a 64-bit value. -/
def half (hi : Bool) (v : Nat) : Nat := if hi then v / 2 ^ 32 else v % 2 ^ 32

/-- A status register of Causeway lane `i` (R457): that of its receiver in the layout of a Reed lane's register at that offset, and TX_STATE,
which is SUPERFRAMES while the Causeway is enabled and the device is not in test mode. -/
def Dev.cswLaneWord (d : Dev) (off i : Nat) : Nat :=
  let v := match findReg off with
    | some (r, _) => d.word r.parts (384 + i)
    | none => 0
  if off = 0x1000008 ∧ d.get F.CSW_CFG_EN = 1 ∧ d.hget H.testLatch = 0 then v + 2 ^ 11 else v

/-- What the registers of the system blocks compute when they are read. -/
def Dev.systemView (d : Dev) (base i : Nat) : Nat :=
  match base with
  | 0x400000 => d.evt.word i
  | 0x400180 => d.groupPendingView
  | 0x400188 => d.evt.wr
  | 0x40018C => d.evt.rdHost
  | 0x400190 => d.evt.rdLath
  | 0x400194 => d.logStatusView
  | 0x440000 => d.logWord i
  | 0x500004 => d.portStatusView i
  | 0x700010 => half false d.tick.frame
  | 0x700014 => half true d.tick.frame
  | 0x70002C => d.tick.commits.length
  | 0x700030 => half false (blockOf d.now)
  | 0x700034 => half true (blockOf d.now)
  | 0x900020 => d.phcWords.1
  | 0x900024 => d.phcWords.2.1
  | 0x900028 => d.phcWords.2.2
  | 0x900108 => d.ifFixedView i
  | 0x90041C => (d.txq.getD i []).length
  | 0xB00000 => d.healthStatusView
  | 0xC00004 => d.ledgerStatusView
  | 0xC00100 => d.faultWord i 0
  | 0xC00104 => d.faultWord i 1
  | 0xC00108 => d.faultWord i 2
  | 0xC0010C => d.faultWord i 3
  | 0xC00800 => Config.ledgerBase i % 2 ^ 32
  | 0xC00804 => Config.ledgerStride i % 2 ^ 32
  | 0xD00180 => d.tapStatusView
  | 0xE00008 => half false Config.dieId
  | 0xE0000C => half true Config.dieId % 2 ^ 32
  | 0xF00008 => 8 * d.hget H.pinSeat
  | 0xF00100 => d.cswLaneWord 0x1000008 i
  | 0xF00104 => d.cswLaneWord 0x100000C i
  | 0xF00108 => d.cswLaneWord 0x1000010 i
  | _ => 0

/-- What the registers of the signal blocks compute when they are read. -/
def Dev.blockView (d : Dev) (base i : Nat) : Nat :=
  match base with
  | 0x1500004 => d.bwLimit
  | 0x1500008 => d.bwReserved
  | 0x150000C => d.bwClaimed
  | 0x1500014 => d.poolFree
  | 0x1510004 => granulesOf [d.inEffect, d.inShadow] i
  | 0x1600004 => d.destStatusView i
  | 0x1680000 => 65536 * d.xpt.held.length + d.xpt.used
  | 0x1800004 => d.headStatusView i
  | 0x1840004 => d.scalersFree
  | 0x1900004 => d.cnvStatusView i
  | 0x1A00004 => 2 ^ 8 * d.get F.ETH_PORT_CFG_MODE i
  | 0x1A10004 => d.macStatusView i
  | 0x1B00004 => d.mgtStatusView i
  | 0x1C00040 => d.rxStatusView i
  | 0x1C90004 => d.storeFree
  | 0x1D00018 => 2 ^ 25 * ofBool (d.leads i)
  | 0x1D10024 => d.runningMask i
  | 0x1ED0004 => (d.groupMembers i).length
  | 0x1F00400 => d.idleUnits.length
  | 0x2000004 => d.fenStatusView i
  | 0x2000040 => d.fenPtrView i
  | 0x2003800 => d.fenWindowView i
  | _ => 0

/-- Registers whose whole word is computed. -/
def Dev.wholeView (d : Dev) (r : Reg) (i : Nat) : Option Nat :=
  match r.base with
  | 0x800004 => some d.refStatusView
  | 0xF00040 => some ((d.count C.CSW_FR_TX + d.cmd.controlTx) % 2 ^ 32)
  | 0x80002C => some d.peatCtrlView
  | 0x800040 | 0x800044 | 0x800048 => some (d.slewNow.word r.parts i)
  | 0x80010C => some (d.refInView i)
  | 0x800114 => some (d.phaseView i)
  | _ => none

/-- The word that instance `i` of a register shows. -/
def Dev.regWord (d : Dev) (r : Reg) (i : Nat) : Nat :=
  match d.wholeView r i with
  | some v => v
  | none => d.word r.parts i + d.systemView r.base i + d.blockView r.base i

/-- A word of the MSI-X table or its PBA (R130, R141). -/
def Dev.msixWord (d : Dev) (off : Nat) : Nat :=
  let v := off / 16 % 64
  if off < 0x302000 then
    match off / 4 % 4 with
    | 0 => d.hget H.msixAddrLo v
    | 1 => d.hget H.msixAddrHi v
    | 2 => d.hget H.msixData v
    | _ => d.hget H.msixControl v
  else wordOfBits ((d.evt.pba.filter fun v => v / 32 == off / 4 % 2).map (· % 32))

/-- The word at a BAR0 offset. -/
def Dev.wordAt (d : Dev) (off : Nat) : Nat :=
  if inMsix off then d.msixWord off
  else
    match findReg off with
    | some (r, i) => d.regWord r i
    | none => (d.ledgerCopy off).getD 0

/-! ### What a read does -/

/-- An RC field is cleared to its reset value (R2, R5). -/
def Dev.clearRead (d : Dev) (r : Reg) (i : Nat) : Dev :=
  let d := if r.base = 0xF00104 then d.set F.REED_LANE_EYE_FOM_MIN (384 + i) 255 else d
  d.each r.parts fun d p => match p with
    | .fld f => if f.acc = .rc then d.set f i (f.dflt i) else d
    | .cnt _ => d

/-- Where the higher words of a split value lie above its lowest one (R137). -/
def higherWords (base : Nat) : List Nat :=
  if [0x700040, 0x800030, 0x800040, 0x900010, 0x900020, 0x900030, 0x1E80004].contains base then [4, 8]
  else if [0x200010, 0x300100, 0x700010, 0x700020, 0x700030, 0x900040, 0x900110, 0xB00018, 0xC00008, 0xC00104, 0xE00008, 0xF00024,
      0xF00030, 0x1500030, 0x1A10008, 0x1B00008, 0x1D1002C, 0x1D10034].contains base then [4]
  else []

/-- A master's latch of a higher word. -/
def Dev.latched (d : Dev) (m off : Nat) : Option Nat :=
  (d.latches.find? fun l => l.master == m && l.offset == off).map Latch.value

/-- A higher word is latched for a master. -/
def Dev.latch (d : Dev) (m off : Nat) : Dev :=
  { d with latches := ⟨m, off, d.wordAt off⟩ :: d.latches.filter fun l => !(l.master == m && l.offset == off) }

/-- Master `m` reads the word at a BAR0 offset that has passed the matrix. -/
def Dev.readWord (d : Dev) (m off : Nat) : Nat × Dev :=
  match d.latched m off with
  | some v => (v, d)
  | none =>
    match findReg off with
    | some (r, i) =>
      if r.base = 0x900400 then d.popTxq i
      else (d.wordAt off, (d.each (higherWords r.base) fun d k => d.latch m (off + k)).clearRead r i)
    | none => (d.wordAt off, d)

/-- A BAR0 read. -/
def Dev.loadWord (d : Dev) (m off : Nat) : Dev := d.busRead m off fun d => d.readWord m off

/-- The offset lies in the ranges that the I²C port shows, and is that of a register (R534). -/
def i2cShows (off : Nat) : Bool :=
  off % 4 == 0 && (off < 0x100 || (0xB00000 ≤ off && off < 0xB00100)) && (findReg off).isSome

/-- An I²C read (R534): it answers from the completion of start-up step 2, and clears nothing. -/
def Dev.i2cRead (d : Dev) (off : Nat) : Dev :=
  if d.get F.BOOT_STATUS_STEP ≤ 2 ∧ d.get F.TOP_STATUS_BOOT_FAIL = 0 then d
  else d.emit (.i2c (if i2cShows off then d.wordAt off else 0xDEC0DE00))

/-- A read of a register with an RC field. -/
def execReadClear (m : Fin 8) (word : Fin 16777216) (s : State) : Host.Outcome State Fault Refusal := lift (·.loadWord m (4 * word)) s

/-- A read of the lowest word of a split value. -/
def execLatchingRead (m : Fin 8) (word : Fin 16777216) (s : State) : Host.Outcome State Fault Refusal := lift (·.loadWord m (4 * word)) s

/-- The 4 bytes of offset are big-endian (R534). -/
def execI2cRead (off : Word) (s : State) : Host.Outcome State Fault Refusal := lift (·.i2cRead off.toNat) s

end Sys2Proof.Machine
end

