-- ==== Sys2Proof/Machine/Access.lean ====
section
/-! DEFINITION. Register access by command (R118), held configuration changes as the firmware writes them (R109), and writes of Mere
through BAR2 (R132). -/

namespace Sys2Proof.Machine

/-! ### CSR_READ and CSR_WRITE (R118) -/

/-- The bus master that carries a port's accesses (R76). -/
def csrMaster (port : Nat) : Nat := if port = 1 ∨ port = 2 then 3 else if port = 3 then 2 else 0

/-- How a command's accesses end. -/
inductive CsrEnd
  /-- All of them completed: the words that were read. -/
  | done (words : List Nat)
  /-- Word `k` met an end that the command reports: status and reason. -/
  | stopped (k status reason : Nat)
  deriving DecidableEq, Repr

/-- What a command reports of a word that met a bus error (R118, R499). -/
def Dev.csrError (d : Dev) (e : BusErr) : Nat × Nat :=
  if e = .decode then (St.badParam, 1)
  else if d.csrHung then (St.internalFault, 2)
  else (St.busySelftest, 0)

/-- Read `n` words from `off` on; `k` were read before, latest first in `acc`. -/
def Dev.csrReads (d : Dev) (m off k : Nat) (acc : List Nat) : Nat → Dev × CsrEnd
  | 0 => (d, .done acc.reverse)
  | n + 1 =>
    let d := d.transaction m
    match d.busFault off with
    | some a => (d.busFails m off false a, .stopped k (d.csrError a).1 (d.csrError a).2)
    | none =>
      let (v, d) := d.readWord m off
      (d.answer m (.data [v])).csrReads m (off + 4) (k + 1) (v :: acc) n

/-- Write words from `off` on.  A word that Mere's bandwidth does not allow ends the command (R207). -/
def Dev.csrWrites (d : Dev) (m off k : Nat) : List Nat → Dev × CsrEnd
  | [] => (d, .done [])
  | w :: ws =>
    let d := d.transaction m
    match d.busFault off with
    | some a => (d.busFails m off true a, .stopped k (d.csrError a).1 (d.csrError a).2)
    | none =>
      let (d, adm) := d.writeWord m off w
      let d := (d.mirror off w).answer m .done
      match adm with
      | .bandwidth _ => (d, .stopped k St.bandwidth 0)
      | _ => d.csrWrites m (off + 4) (k + 1) ws

/-- The response that a stopped command gives: STATUS_DETAIL names the word. -/
def Dev.csrReply (d : Dev) (q : Req) (op : Nat) : CsrEnd → Dev
  | .done ws => d.reply q op St.ok (if ws.isEmpty then [] else [data (ws.map w4)])
  | .stopped k status reason => d.reply q op status [statusDetail k 0xFF reason]

/-- An OFFSET of BAR0. -/
def csrOffset : List Byte → Bool := num 4 fun v => v % 4 == 0 && v < 0x4000000

def csrReadSpec : Spec := { op := 0x0910, pars := [.req 0x0101 csrOffset, .req 0x0102 (num 4 fun n => 1 ≤ n && n ≤ 256)] }

/-- CSR_READ (0x0910). -/
def Dev.csrRead (d : Dev) (q : Req) : Dev := d.command q csrReadSpec fun d ts =>
  let (d, e) := d.csrReads (csrMaster q.port) (tlvNum ts 0x0101) 0 [] (tlvNum ts 0x0102)
  d.csrReply q 0x0910 e

/-- The 4-byte words of a value. -/
def wordsIn (v : List Byte) : List Nat := (List.range (v.length / 4)).map fun k => beVal (slice (4 * k) 4 v)

/-- The word's window belongs to a unit that the port holds. -/
def Dev.heldBy (d : Dev) (port off : Nat) : Bool :=
  match unitOf off with
  | some u => d.holder u == port
  | none => false

/-- Some word of a CSR_WRITE falls in no unit that the port holds (R118): the lease condition, judged before the values (R112). -/
def Dev.wordsUnheld (d : Dev) (port : Nat) (ts : List Tlv) : Bool :=
  (List.range (((tlv? ts 0x0103).getD []).length / 4)).any fun k => !d.heldBy port (tlvNum ts 0x0101 + 4 * k)

def csrWriteSpec : Spec :=
  { op := 0x0911
    pars := [.req 0x0101 csrOffset, .req 0x0103 fun v => v.length % 4 == 0 && 4 ≤ v.length && v.length ≤ 1024]
    unheld := Dev.wordsUnheld }

/-- CSR_WRITE (0x0911): no word is written unless the port holds the unit of each. -/
def Dev.csrWrite (d : Dev) (q : Req) : Dev := d.command q csrWriteSpec fun d ts =>
  let off := tlvNum ts 0x0101
  let (d, e) := d.csrWrites (csrMaster q.port) off 0 (wordsIn ((tlv? ts 0x0103).getD []))
  d.csrReply q 0x0911 e

/-! ### Held configuration changes (R109, R116) -/

/-- The register that a field belongs to. -/
def regWith (id : Nat) : Option Reg :=
  (List.range 64).findSome? fun k => (regsOfWindow k).find? fun r => r.parts.any fun p => match p with
    | .fld f => f.id == id
    | .cnt _ => false

/-- The word that the shadow copies of a register's fields make, its other fields as they are. -/
def Dev.shadowWord (d : Dev) (r : Reg) (i : Nat) : Nat :=
  (r.parts.map fun p => match p with
    | .fld f => if f.acc = .wo ∨ f.acc = .view then 0 else d.getShadow f i % 2 ^ f.width * 2 ^ f.lsb
    | .cnt _ => 0).sum

/-- The registers that a list of writes touches, each once, in order. -/
def touchedRegs (ws : List ShadowWrite) : List (Reg × Nat) :=
  (ws.filterMap fun w => (regWith w.fld).map fun r => (r, w.inst)).foldl
    (fun l x => if l.any fun y => y.1.base == x.1.base && y.2 == x.2 then l else l ++ [x]) []

/-- The writes of a change reach the shadow copies, and their registers are mirrored (R463). -/
def Dev.writeHeld (d : Dev) (ws : List ShadowWrite) : Dev :=
  let d := d.each ws fun d w =>
    match shFields.find? fun f => f.id == w.fld with
    | some f => d.load f w.inst w.val
    | none => d
  d.each (touchedRegs (ws.filter fun w => (groupOf w.fld).isSome)) fun d x => d.live (.write (x.1.offset (x.2 - x.1.first)) (d.shadowWord x.1 x.2))

/-- One change is written, unless the hardware does not allow it (R203, R207): it then completes at once. -/
def Dev.writeChange (d : Dev) (h : HeldChange) : Dev :=
  let drop := fun d : Dev => { d with tick := { d.tick with changes := d.tick.changes.erase h } }
  match d.admitShadow h.writes with
  | .admitted =>
    let d := d.writeHeld h.writes
    { d with tick := { d.tick with changes := d.tick.changes.map fun c => if c = h then { c with written := true } else c } }
  | .bandwidth claim =>
    ((drop ((d.bump C.MERE_BW_REFUSED).raise 578 [claim, d.bwLimit]))).respond h.port h.src h.tag h.opcode St.bandwidth []
  | .pool slot asked free =>
    (drop (d.raise 579 [slot, asked, free])).respond h.port h.src h.tag h.opcode St.exhausted [statusDetail 0xFFFF 0xFF 3]
  | .store => (drop d).respond h.port h.src h.tag h.opcode St.exhausted [statusDetail 0xFFFF 0xFF 0x21]

/-- In the second half of frame N − 1 the firmware writes the changes that it holds for frame N, and commits them; while 16 commits are
pending they complete with RESOURCE_EXHAUSTED.  Changes that write no field are committed too, so that they complete at T0. -/
def Dev.heldChangeWrite (d : Dev) : Dev :=
  if !d.lathRuns || !d.running then d
  else
    let d := d.passToCore (d.tick.t0Core + framePeriod d.rate / 2)
    let n := d.tick.frame + 1
    let due := fun h : HeldChange => h.frame == n && !h.written
    match d.tick.changes.filter due with
    | [] => d
    | h :: hs =>
      if d.tick.commits.length ≥ 16 then d.endChanges due St.exhausted
      else
        let d := d.each (h :: hs) Dev.writeChange
        let done := d.tick.changes.filter fun h => h.frame == n && h.written
        if done.isEmpty then d else d.issueCommit n (groupsOf (done.flatMap HeldChange.writes)) (.firmware n h.port h.tag)

/-! ### BAR2 (R132) -/

/-- Why a BAR2 access is answered with TARGET_ERR: the target is hung (R84), or Mere is out of service (R211). -/
def Dev.mereRefuses (d : Dev) : Bool := d.hung 7 || !d.mereUp

/-- A host write through BAR2: the lease check comes first. -/
def bar2Write (off : Nat) (bytes : List Byte) (s : State) : State :=
  let d := s.dev.transaction 1
  if d.holder 2 != 0 then { s with dev := (d.unleased off).answer 1 .done }
  else if d.mereRefuses then { s with dev := d.answerError 1 true .target 1 none }
  else ({ s with dev := d.answer 1 .done }).writeMere off bytes

def execCsrRead (q : Req) (s : State) : Host.Outcome State Fault Refusal := lift (·.csrRead q) s
def execCsrWrite (q : Req) (s : State) : Host.Outcome State Fault Refusal := lift (·.csrWrite q) s
def execHeldChangeWrite (s : State) : Host.Outcome State Fault Refusal := lift (·.heldChangeWrite) s
def execBar2Write (off : BitVec 35) (bytes : List Byte) (s : State) : Host.Outcome State Fault Refusal :=
  lift (fun d => d) (bar2Write off.toNat bytes s)

end Sys2Proof.Machine
end

