-- ==== Sys2Proof/Machine/Block.lean ====
section
/-! DEFINITION. The audio block tick: overrunning jobs (R51, R382), the block of every destination channel, the source channels of
the new block (R401–R405), mute fades at serial ports, and meters (R419–R422). -/

namespace Sys2Proof.Machine

/-! ### The destination channels of the block that ends -/

/-- The first channel of a port (R401, R402). -/
def portChannel (p : Nat) : Nat := 57344 + 32 * p

/-- The mix jobs that did not complete their block. -/
def Dev.lateMixes (d : Dev) : List Nat := d.hinsts H.mixOpen

/-- The destination channels that a list, a change of one, a SCATTER or the block before delivers. -/
def Dev.deliverable (d : Dev) : List Nat :=
  (d.amx.destNext ++ d.amx.dest).foldl (fun l b => insertNat b.chan l)
    (d.amx.changed.foldl (fun l c => insertNat c.dest l) (d.insts F.AMX_DEST_LIST_COUNT))

/-- The channel lies in the range of mix job `j`. -/
def Dev.inJob (d : Dev) (k j : Nat) : Bool := d.get F.AMX_JOB_RANGE_FIRST j ≤ k && k ≤ d.get F.AMX_JOB_RANGE_LAST j

/-- The mix job that delivered channel `k` without its instructions having been commanded. -/
def Dev.mixedBy (d : Dev) (k : Nat) : Option Nat :=
  if d.amx.destNext.any (·.chan == k) || (tapsOf d.inEffect k).isEmpty && !d.amx.changed.any (·.dest == k) then none else d.jobOf k

/-- The block before, attenuated by a further 6 dB for each consecutive overrun, and zeros from the fourth on (R51). -/
def Dev.repeated (d : Dev) (space k : Nat) (last : List ChannelBlock) : ChannelBlock :=
  let xs := (List.range d.blockSamples).map fun i => sampleAt last k i
  ⟨k, if d.hget H.overRun (65536 * space + k) ≥ 3 then xs.map fun _ => 0 else xs.map Config.down6dB⟩

/-- Consecutive overruns are counted for the channels of a space that are late; the others start again. -/
def Dev.countRuns (d : Dev) (space : Nat) (late : List Nat) : Dev :=
  let overran := (d.hinsts H.overRun).filter fun i => i / 65536 == space && !late.contains (i % 65536)
  let d := d.each overran fun d i => d.hset H.overRun i 0
  d.each late fun d k => d.hset H.overRun (65536 * space + k) (min 4 (d.hget H.overRun (65536 * space + k) + 1))

/-- The block that channel `k` delivers. -/
def Dev.delivered (d : Dev) (late : List Nat) (k : Nat) : ChannelBlock :=
  if late.contains k then d.repeated 0 k d.amx.dest
  else
    match d.amx.destNext.find? (·.chan == k) with
    | some b => b
    | none => if (d.mixedBy k).isSome then (d.mixBlock k).1 else ⟨k, (List.range d.blockSamples).map fun _ => 0⟩

/-- Overflows of the mixes that were not commanded one by one count at the engine's unit (R433). -/
def Dev.mixOverflow (d : Dev) (l n : Nat) : Dev :=
  if n = 0 then d
  else
    let u := d.unitFor l
    let d := d.bump C.FEN_GUARD_OVF_CNT l n
    if d.get F.FEN_ENG_STATUS_GUARD_OVF u == 1 then d
    else
      let (pc, d) := d.fresh
      (d.set F.FEN_ENG_STATUS_GUARD_OVF u 1).raise 768 [l, 0, pc % 8192]

/-- One overrun of a job with its first destination channel (R51). -/
def Dev.blockOverrun (d : Dev) (block channel : Nat) : Dev := (d.bump C.TICK_BLK_OVERRUN).raise 35 (words2 block ++ [channel])

/-- The destination channels that a BLOCK job's SCATTERs wrote last, rising (R51). -/
def Dev.writtenBy (d : Dev) (j : Nat × Nat) : List Nat :=
  (d.amx.writers.filter fun w => w.2 == jobIndex j.1 j.2).foldl (fun l w => insertNat w.1 l) []

/-- A late job that is no mix job: its first destination channel is the lowest that it wrote, else that of its port; a job that has
neither has none, and the event carries an open value (R51). -/
def Dev.otherOverrun (d : Dev) (block : Nat) (ports : List PortJob) (j : Nat × Nat) : Dev :=
  match d.writtenBy j, ports.find? fun p => p.engine.val == j.1 && p.entry.val == j.2 with
  | k :: _, _ => d.blockOverrun block k
  | [], some p => d.blockOverrun block (portChannel p.port)
  | [], none => let (k, d) := d.fresh; d.blockOverrun block (k % 65536)

/-- Every late job counts (R51, R415). -/
def Dev.countOverruns (d : Dev) (block : Nat) (ports : List PortJob) (late : List (Nat × Nat)) : Dev :=
  let mixes := d.lateMixes
  let d := d.each mixes fun d j =>
    let d := if d.hget H.mixOpen j = 1 then d.bump C.AMX_JOB_BLOCKS_OVERRUN j else d
    d.blockOverrun block (d.get F.AMX_JOB_RANGE_FIRST j)
  let isMix := fun (j : Nat × Nat) => j.2 == 0 && mixes.any fun m => d.get F.AMX_JOB_ENGINE_ENGINE m == j.1
  d.each (late.filter fun j => !isMix j) fun d j => d.otherOverrun block ports j

/-- The ports of a direction (0 input) whose job is late. -/
def Dev.latePorts (d : Dev) (dir : Nat) (ports : List PortJob) (late : List (Nat × Nat)) : List Nat :=
  (ports.filter fun p => d.get F.APT_PORT_CFG_DIR p.port == dir && late.contains (p.engine.val, p.entry.val)).map (·.port.val)

/-- The channels of some ports. -/
def channelsOf (ports : List Nat) : List Nat := ports.flatMap fun p => (List.range 32).map (portChannel p + ·)

/-- The V, U and C bits of destination channel `k`: those of the source of a list of one tap at a gain of exactly 1 with no ramp in
progress, else zeros (R406). -/
def Dev.flagsOf (d : Dev) (k : Nat) : Option ChannelBlock :=
  if d.amx.ramps.any fun r => r.dest == k then none
  else
    match d.gainsAt k 0 with
    | [(s, g)] => if g = 2 ^ 28 then (d.amx.flags.find? fun b => b.chan == s).map fun b => ⟨k, b.samples⟩ else none
    | _ => none

/-- The block ends: every destination channel delivers its block, and the ramps advance. -/
def Dev.deliverBlock (d : Dev) (ports : List PortJob) (late : List (Nat × Nat)) : Dev :=
  let mixes := d.lateMixes
  let outs := channelsOf (d.latePorts 1 ports late) ++ late.flatMap d.writtenBy
  let ks := d.deliverable
  let lateKs := ks.filter fun k => mixes.any (d.inJob k) || outs.contains k
  let blocks := ks.map (d.delivered lateKs)
  let overran := (ks.filter fun k => !lateKs.contains k && (d.mixedBy k).isSome).map fun k => ((d.mixedBy k).getD 0, (d.mixBlock k).2)
  let d := d.each (overran.map Prod.fst).eraseDups fun d j =>
    d.mixOverflow (d.get F.AMX_JOB_ENGINE_ENGINE j) ((overran.filter fun o => o.1 == j).map Prod.snd).sum
  let d := (d.countRuns 0 lateKs).each mixes fun d j => d.hset H.mixOpen j 0
  -- what the last period transferred is played out in the new one
  ({ d with amx := { d.amx with
      dest := blocks, destNext := [], playing := d.amx.dest
      destFlags := ks.filterMap d.flagsOf, playFlags := d.amx.destFlags
      past := (Played.mk d.amx.playing d.amx.playFlags :: d.amx.past).take 4 } }).advanceRamps

/-! ### The source channels of the new block (R401–R405) -/

/-- An enabled audio or AES3 context that is RECEIVING names the channel. -/
def Dev.ipFeeds (d : Dev) (k : Nat) : Bool :=
  (d.insts F.IPM_RX_CFG_EN).any fun r =>
    let e := d.get F.IPM_RX_CFG_ESSENCE r
    (e == 1 || e == 2) && d.get F.IPM_RX_STATUS_STATE r == 2 && d.get F.IPM_RX_AUD_CHAN_BASE r ≤ k &&
      k < d.get F.IPM_RX_AUD_CHAN_BASE r + d.get F.IPM_RX_AUD_CHANNELS r

/-- The feeder of source channel `k` delivers (R403). -/
def Dev.feeds (d : Dev) (k : Nat) : Bool :=
  if k < 49152 then
    let s := k / 32
    d.hget H.ingExtract s == 1 && d.get F.ING_SLOT_STATUS_STATE s == 3 && d.extracted s (k % 32 / 4)
  else if k < 57344 then d.ipFeeds k
  else if k < 58112 then
    let p := (k - 57344) / 32
    d.get F.APT_PORT_CFG_DIR p == 0 && d.portState p == 4 && (k - 57344) % 32 < d.portSlots p
  else 61440 ≤ k

/-- The samples of a port's channel under its mute: 16 equal linear steps of a fade, from the first sample of the block on (R389). -/
def Dev.mutedSamples (d : Dev) (p c : Nat) (xs : List Int) : List Int :=
  let k := chanIx p c
  let step := fun (x : Int) (g : Nat) => divEven (x * g) 16
  match d.hget H.aptFade k with
  | 0 => if d.hget H.aptGain k = 0 then xs.map fun _ => 0 else xs
  | 1 => xs.zipIdx.map fun x => step x.1 (15 - x.2)
  | _ => xs.zipIdx.map fun x => step x.1 (min 16 (x.2 + 1))

/-- An input port's channel as it enters the channel space. -/
def Dev.muted (d : Dev) (b : ChannelBlock) : ChannelBlock :=
  if portChannel 0 ≤ b.chan && b.chan < portChannel 24 then
    ⟨b.chan, d.mutedSamples ((b.chan - 57344) / 32) (b.chan % 32) b.samples⟩
  else b

/-- The samples that enter for the new block, the returns of the block that ended among them (R405). -/
def Dev.enterBlock (d : Dev) (entering flags : List ChannelBlock) (late : List Nat) : Dev :=
  let old := d.amx.source
  let returns := d.amx.dest.filter fun b => 61440 ≤ b.chan
  let scattered := d.amx.sourceNext.filter fun b => d.feeds b.chan
  let fed := entering.filter fun b => b.chan < 58112 && d.feeds b.chan
  let repeats := (late.filter d.feeds).map fun k => d.repeated 1 k old
  let all := (returns ++ fed.map d.muted ++ scattered.map d.muted ++ repeats).foldl (fun l b => putBlock b l) []
  let bits := flags ++ d.amx.destFlags.filter fun b => 61440 ≤ b.chan
  { d.countRuns 1 late with amx := { d.amx with source := all, sourceNext := [], flags := bits } }

/-! ### Serial ports (R380, R382, R389) -/

/-- The member of a running group whose converter ratio is its leader's (R396): one that does not lead and has not drifted. -/
def Dev.follows (d : Dev) (p : Nat) : Option Nat :=
  let g := d.get F.APT_PORT_CFG_GROUP p
  let l := d.get F.APT_GROUP_STATUS_LEADER (g - 1)
  if g = 0 ∨ d.leads p ∨ d.hget H.aptDrift p = 1 ∨ d.portState l ≠ 4 ∨ !(d.members (g - 1)).contains l then none else some l

/-- A converter steers to a ratio, within 0.5 % of the nominal one, and moves so many whole pin frames (R380). -/
def Dev.steer (d : Dev) (p ratio : Nat) : Dev :=
  let n := d.nominalRatio p
  let r := min (n + n / 200) (max (n - n / 200) ratio)
  let t := d.hget H.aptFrac p + r
  ((d.hset H.aptRatio p r).hset H.aptMoved p (t / 2 ^ 32)).hset H.aptFrac p t

/-- A follower takes its leader's ratio, and with it the pin frames that it moves (R396). -/
def Dev.steerAs (d : Dev) (p l : Nat) : Dev :=
  ((d.hset H.aptRatio p (d.hget H.aptRatio l)).hset H.aptMoved p (d.hget H.aptMoved l)).hset H.aptFrac p (d.hget H.aptFrac l)

/-- The ratios of the running ports: each its own, then the followers of a running group their leader's (R380, R396). -/
def Dev.steerAll (d : Dev) (ports : List PortJob) : Dev :=
  let running := ports.filter fun j => d.portState j.port == 4 && j.ratio.isSome
  let d := d.each (running.filter fun j => (d.follows j.port).isNone) fun d j => d.steer j.port (j.ratio.getD 0)
  d.each running fun d j => match d.follows j.port with
    | some l => d.steerAs j.port l
    | none => d

/-- The samples of channel `c` among the slot words of a port. -/
def slotSamples (s c : Nat) (ws : List Nat) : List Int :=
  (List.range (ws.length / s)).map fun i => toSigned 32 (ws.getD (s * i + c) 0)

/-- An input port's converter takes its frames from the FIFO; those of a block that was late are removed as whole frames (R380, R382).
What it makes of them are the samples of the port's channels. -/
def Dev.convertIn (d : Dev) (p : Nat) (late : Bool) : List ChannelBlock × Dev :=
  let s := d.portSlots p
  let n := s * d.hget H.aptMoved p
  let q := d.pfifo p
  if d.hget H.aptFill p = 1 then ([], d)
  else if late then
    let k := min n (q.words.length / s * s)
    ([], (d.bump C.APT_DROPPED p k).setWords p (q.words.drop k))
  else
    let r := d.fifoOut p n
    ((List.range s).map fun c => ⟨portChannel p + c, (List.range d.blockSamples).map fun i => saturate 32
      (Config.resampled (d.hget H.aptRatio p) (slotSamples s c q.before) (slotSamples s c r.1) i)⟩,
      r.2.setPfifo p fun q => { q with before := r.1 })

/-- The slot words that an output port's converter makes of the block that plays out (R21, R406): each channel's samples under its mute,
rounded to the slot's width; a disabled slot is a zero word. -/
def Dev.wordsOut (d : Dev) (p : Nat) : List Nat :=
  let w := d.portWidth p
  let block := fun (bs : List ChannelBlock) c => (List.range d.blockSamples).map fun i => sampleAt bs (portChannel p + c) i
  let last := (d.amx.past.head?.map Played.blocks).getD []
  (List.range (d.hget H.aptMoved p)).flatMap fun f => (List.range (d.portSlots p)).map fun c =>
    if d.slotOn p c then
      ofSigned w (leavingBits w (Config.resampled (d.hget H.aptRatio p) (d.mutedSamples p c (block last c))
        (d.mutedSamples p c (block d.amx.playing c)) f)) * 2 ^ (32 - w)
    else 0

/-- A port job's part of the block: from the FIFO to the channel space, or the reverse; none where its own instructions move the words. -/
def Dev.portWords (d : Dev) (late : List (Nat × Nat)) (j : PortJob) : List ChannelBlock × Dev :=
  let p := j.port.val
  if d.portState p != 4 || j.ratio.isNone then ([], d)
  else if d.get F.APT_PORT_CFG_DIR p == 1 then ([], (d.fifoIn p (d.wordsOut p)).fillEnds p)
  else d.convertIn p (late.contains (j.engine.val, j.entry.val))

/-- The port jobs one after the other, with the channels that enter. -/
def Dev.portJobs (d : Dev) (late : List (Nat × Nat)) : List PortJob → List ChannelBlock × Dev
  | [] => ([], d)
  | j :: js =>
    let r := d.portWords late j
    let rest := r.2.portJobs late js
    (r.1 ++ rest.1, rest.2)

/-- The samples of channel `c` of port `p` in this block: an output port plays out the block of R21; those of a port that is not RUNNING
are zeros (R378). -/
def Dev.portSamples (d : Dev) (entering : List ChannelBlock) (p c : Nat) : List Int :=
  let bs := if d.portState p != 4 then [] else if d.get F.APT_PORT_CFG_DIR p == 0 then entering else d.amx.playing
  (List.range d.blockSamples).map fun i => sampleAt bs (portChannel p + c) i

/-- A block of a port passes its mute: of a port that is not RUNNING, where a fade runs or is waited for. -/
def Dev.portBlock (d : Dev) (entering : List ChannelBlock) (p : Nat) : Dev :=
  if d.portState p != 4 && !(d.hinsts H.aptWait ++ d.hinsts H.aptFade).any fun k => k / 32 == p then d
  else (d.each (List.range (min 32 (d.portSlots p))) fun d c => d.channelBlock p c (d.portSamples entering p c)).refreshMute p

/-! ### Meters (R419–R422) -/

/-- The block of the channel that a slot measures. -/
def Dev.measured (d : Dev) (j : Nat) : List Int :=
  let bs := if d.get F.AMX_METER_CFG_SPACE j == 0 then d.amx.source else d.amx.dest
  ((bs.find? fun b => b.chan == d.get F.AMX_METER_CFG_CHANNEL j).map ChannelBlock.samples).getD []

/-- The largest magnitude of a block and the position of the first sample at it. -/
def peakOf (xs : List Int) : Nat × Nat :=
  let m := xs.foldl (fun m x => max m x.natAbs) 0
  (m, (xs.findIdx? fun x => x.natAbs == m).getD 0)

/-- A field takes a value that is due. -/
def Dev.setDue (d : Dev) (f : Fld) (i : Nat) (v : Option (BitVec 16)) : Dev :=
  match v with
  | some x => d.set f i x.toNat
  | none => d

/-- A slot's measurement of block `b`. -/
def Dev.measure (d : Dev) (b : Nat) (m : MeterIn) : Dev :=
  let j := m.slot.val
  if d.get F.AMX_METER_CFG_EN j == 0 then d
  else
    let p := peakOf (d.measured j)
    let d := (d.set F.AMX_METER_PEAK_PEAK j (if p.1 = 0 then 0x8000 else Config.dbfs p.1)).set F.AMX_METER_CFG_PEAK_IDX j p.2
    let d := (d.set F.AMX_METER_PEAK_TRUE_PEAK j (if p.1 = 0 then 0x8000 else m.truePeak.toNat)).set F.AMX_METER_STAT_UPDATED j b
    if d.get F.AMX_METER_CFG_LOUD_EN j == 0 then d
    else ((d.setDue F.AMX_METER_LOUD_MOMENTARY j m.momentary).setDue F.AMX_METER_LOUD_SHORT j m.short).setDue
      F.AMX_METER_STAT_INTEGRATED j m.integrated

/-- A group's loudness, while it has members. -/
def Dev.measureGroup (d : Dev) (m : GroupIn) : Dev :=
  let g := m.group.val
  if g = 0 ∨ d.groupMembers g = [] then d
  else ((d.setDue F.AMX_LGROUP_LOUD_MOMENTARY g m.momentary).setDue F.AMX_LGROUP_LOUD_SHORT g m.short).setDue
    F.AMX_LGROUP_INT_INTEGRATED g m.integrated

/-! ### The block tick -/

/-- What the tick concludes: the block that ends, number `b`. -/
def Dev.blockEnds (d : Dev) (b : Nat) (x : BlockIn) : Dev × List (Nat × Nat) :=
  let (d, late) := d.fenBlockEnd (x.done.map fun j => (j.1.val, j.2.val)) (x.busy.map fun e => (e.1.val, e.2))
  let d := (d.countOverruns b x.ports late).deliverBlock x.ports late
  ((d.each x.meters fun d m => d.measure b m).each x.groups Dev.measureGroup, late)

/-- What the tick begins: the new block. -/
def Dev.blockBegins (d : Dev) (x : BlockIn) (late : List (Nat × Nat)) : Dev :=
  let ins := d.latePorts 0 x.ports late
  let (entered, d) := (d.steerAll x.ports).portJobs late x.ports
  let raw := entered ++ d.amx.sourceNext
  let d := d.each x.playout fun d e => d.audioPlayout e.1 e.2
  let (d, embedded) := d.extractAll d.blockSamples
  let b := d.tick.nextBlock - 1
  let ip := d.rxChannels b
  let d := (d.dropPlayed b).enterBlock (embedded ++ ip.map Prod.fst ++ entered) (ip.map Prod.snd) (channelsOf ins)
  let d := d.each (List.range 24) fun d p => d.portBlock raw p
  let d := (d.reviewMeters.placeMixes.startRamps).each (List.range 8) Dev.passLeadership
  (d.triggerAll 1 fun _ => true).fenBlockBegin

/-- The block tick (R34, R50, R51): the next one that TIME reaches. -/
def Dev.blockTick (d : Dev) (x : BlockIn) : Dev :=
  if !d.running && !d.tick.waiting then d
  else
    let b := d.tick.nextBlock
    let d := d.passTo (65536 * blockStart b)
    let d := { d with tick := { d.tick with
      nextBlock := b + 1
      block := if d.running then d.tick.block else d.get F.TICK_CFG_BLOCK_RATE } }
    let r := d.blockEnds (b - 1) x
    r.1.blockBegins x r.2

def execBlockTick (x : BlockIn) (s : State) : Host.Outcome State Fault Refusal := lift (·.blockTick x) s

end Sys2Proof.Machine
end

