-- ==== Sys2Proof/Machine/Csw.lean ====
section
/-! DEFINITION. Twin operation over the Causeway (R451–R484): the stream of a link and its frames, keepalives and keys, live items, checkpoints
and markers, seals and blame, roles, resynchronisation, and the redundancy commands. -/

namespace Sys2Proof.Machine

/-! ### The stream of a link (R458) -/

/-- What stands in a stretch of a link's stream that starts between two frames or in one: how many frames are complete, what is left of
the one in progress, and whether a delimiter failed. -/
def frames : Nat → List Byte → Nat × Option (List Byte)
  | 0, bs => (0, some bs)
  | _, [] => (0, some [])
  | n + 1, b :: bs =>
    if b = 0#8 then frames n bs
    else if b ≠ 0xD5#8 then (0, none)
    else if bs.length < 3 then (0, some (b :: bs))
    else
      let len := beVal (bs.take 2)
      if crc8 (b :: bs.take 2) ≠ beVal (slice 2 1 bs) then (0, none)
      else if bs.length < 3 + len then (0, some (b :: bs))
      else
        let r := frames n (bs.drop (3 + len))
        (r.1 + 1, r.2)

/-- The stream of a link goes on with some bytes: frames that begin are counted as received, a failed delimiter drops the frame in progress
(R458). -/
def Dev.streamIn (d : Dev) (k : Nat) (before bytes : List Byte) : Dev :=
  let r := frames (before.length + bytes.length) (before ++ bytes)
  let begun := r.1 + (if r.2 = some [] then 0 else 1) - (if before.isEmpty then 0 else 1)
  let d := d.bump C.CSW_FR_RX 0 begun
  let d := if r.2.isNone then d.bump C.CSW_FR_DELIM else d
  d.onCsw fun c => { c with stream := c.stream.set k r.2, arrived := c.arrived.modify k (· + r.1) }

/-- The four superframes of a link superframe, of equal SEQ, are taken (R458); one that is missing, or a gap in SEQ, is a loss, after which the
stream starts again at FIRST. -/
def Dev.linkSuperframe (d : Dev) (k : Nat) : Dev :=
  if d.get F.CSW_LINK_STATUS_UP k == 0 then d
  else
    let lanes := (List.range 4).map fun j => d.csw.laneIn.getD (4 * k + j) none
    let d := d.onCsw fun c => { c with laneIn := (List.range 4).foldl (fun l j => l.set (4 * k + j) none) c.laneIn }
    match lanes with
    | [some a, some b, some e, some f] =>
      if a.seq ≠ b.seq ∨ a.seq ≠ e.seq ∨ a.seq ≠ f.seq then d.dropFrame k
      else
        let next := match d.csw.linkSeq.getD k none with
          | some q => serialSub 16 a.seq q == 1
          | none => true
        let d := if next then d else d.dropFrame k
        let d := d.onCsw fun c => { c with linkSeq := c.linkSeq.set k (some a.seq) }
        let bytes := a.bytes ++ b.bytes ++ e.bytes ++ f.bytes
        match d.csw.stream.getD k none with
        | some before => d.streamIn k before bytes
        | none => if a.first < 4000 then d.streamIn k [] (bytes.drop a.first) else d
    | _ => d.dropFrame k

/-! ### Frames (R459, R461, R483) -/

/-- The frame's MACsec checks (R461): a HELLO is unprotected; else the SecTAG belongs to SA n or n + 1 and its ICV is right.  Without MACsec a
frame carries no SecTAG. -/
def Dev.frameSecure (d : Dev) (h : CswHead) (cls : Nat) : Bool :=
  cls == 9 ||
    match h.tag with
    | none => d.get F.CSW_CFG_MACSEC_EN == 0
    | some t => d.get F.CSW_CFG_MACSEC_EN == 1 && t.valid && t.icvOk && (t.an.val == d.csw.rxN % 4 || t.an.val == (d.csw.rxN + 1) % 4)

/-- A second copy of a CSEQ (R459). -/
def Dev.frameAgain (d : Dev) (h : CswHead) (cls : Nat) : Bool := serialGe 32 (d.csw.rxSeq.getD cls 0) h.cseq.toNat

/-- The count of a frame that is not used, by the first check that it fails (R278, R459, R461). -/
def Dev.frameFault (d : Dev) (h : CswHead) (cls : Nat) (again : Bool) : Option Ctr :=
  if h.length ≤ 63 then some C.CSW_FR_RUNT
  else if h.length ≥ 1523 then some C.CSW_FR_OVERSIZE
  else if !h.fcsOk then some C.CSW_FR_FCS
  else if !d.frameSecure h cls then some C.CSW_FR_MACSEC
  else if again then some C.CSW_FR_DUP
  else none

/-- The frame is one that its link's stream held, or else it is received now. -/
def Dev.frameArrives (d : Dev) (k : Nat) : Dev :=
  if d.csw.arrived.getD k 0 > 0 then d.onCsw fun c => { c with arrived := c.arrived.modify k (· - 1) } else d.bump C.CSW_FR_RX

/-- A used frame's CSEQ is noted, and its SA: the first frame under SA n + 1 moves the receiver to it (R461). -/
def Dev.frameUsed (d : Dev) (h : CswHead) (cls : Nat) : Dev :=
  let d := (d.bump C.CSW_FR_USED).onCsw fun c => { c with rxSeq := c.rxSeq.set cls h.cseq.toNat }
  match h.tag with
  | some t =>
    if cls ≠ 9 ∧ t.an.val = (d.csw.rxN + 1) % 4 then
      let n := (d.csw.rxN + 1) % 2 ^ 32
      (d.onCsw fun c => { c with rxN := n, rxSak := c.rxSakNext, rxSakNext := c.sak c.peerSalt ((n + 1) % 2 ^ 32) }).raise 840 [1, n]
    else d
  | none => d

/-- A frame of a CLASS arrives on a link that is UP: it is counted, and used when it passes the checks (R459, R483). -/
def Dev.frameIn (d : Dev) (h : CswHead) (cls : Nat) (again : Bool) (use : Dev → Dev) : Dev :=
  if d.get F.CSW_LINK_STATUS_UP h.link == 0 then d
  else
    let d := d.frameArrives h.link
    match d.frameFault h cls again with
    | some c => d.bump c
    | none => use (d.frameUsed h cls)

/-- A frame of a CLASS whose second copy is told by its CSEQ. -/
def Dev.classIn (d : Dev) (h : CswHead) (cls : Nat) (use : Dev → Dev) : Dev := d.frameIn h cls (d.frameAgain h cls) use

/-! ### KEEPALIVE, HELLO and keys (R459–R461) -/

/-- A KEEPALIVE was accepted on a link, whichever copy it was (R460). -/
def Dev.linkAlive (d : Dev) (k : Nat) : Dev :=
  (d.onCsw fun c => { c with alive := c.alive.set k (some d.clock.core) }).reviewCauseway []

/-- The standby asks the active seat to yield, once in a stay in STANDBY (R473). -/
def Dev.askYieldOnce (d : Dev) (cause : Nat) : Dev :=
  if d.role == 1 && d.get F.CSW_ROLE_TAKEOVER_OK == 1 && d.causewayUp && !d.csw.yieldAsked then
    (d.onCsw fun c => { c with yieldAsked := true }).askYield cause
  else d

/-- A seat in STANDBY or SYNCING that finds the claim silent while the Causeway is up takes the role (R455). -/
def Dev.claimIfSilent (d : Dev) : Dev :=
  if (d.role == 1 || d.role == 2) && d.get F.CSW_ROLE_CLAIM_IN == 0 && d.causewayUp then d.becomeActive 1 else d

/-- What the partner's KEEPALIVE leads to (R455, R473). -/
def Dev.peerSays (d : Dev) (k : CswKeep) : Dev :=
  let d := d.onCsw fun c => { c with peer := some k }
  if d.role == 3 && d.causewayUp && k.role.val == 0 then (d.enterRole 2 11).claimIfSilent
  else if k.role.val == 0 && k.health.val == 3 then d.askYieldOnce 2
  else d

def Dev.keepaliveIn (d : Dev) (h : CswHead) (k : CswKeep) : Dev :=
  let again := d.frameAgain h 0
  let good := (d.frameFault h 0 false).isNone && d.get F.CSW_LINK_STATUS_UP h.link == 1
  let d := d.frameIn h 0 again fun d => d
  if !good then d
  else
    let d := d.linkAlive h.link
    if again then d else d.peerSays k

/-- A HELLO with a salt that is new starts the partner's numbering and keys again (R459, R461). -/
def Dev.helloIn (d : Dev) (h : CswHead) (salt : List Byte) : Dev :=
  d.frameIn h 9 (d.csw.peerSalt == salt) fun d =>
    d.onCsw fun c => { c with
      peerSalt := salt, rxN := 0, rxSak := c.sak salt 0, rxSakNext := c.sak salt 1, rxSeq := (List.replicate 10 0).set 9 h.cseq.toNat, applied := [], cutKnown := true }

/-- The transmit SA's packet number: near its end the next SAK is announced for 1 ms and then used (R461). -/
def Dev.rekey (d : Dev) : Dev :=
  match d.csw.announced with
  | none =>
    if d.get F.CSW_CFG_MACSEC_EN == 1 && d.csw.txPn + d.cmd.controlPn ≥ 0xF0000000 then
      d.onCsw fun c => { c with announced := some d.clock.core }
    else d
  | some t =>
    if t + 1000000 ≤ d.clock.core then
      let n := (d.get F.CSW_KEY_TX_N + 1) % 2 ^ 32
      let d := (d.onCsw fun c => { c with announced := none, txPn := 0, txSak := c.sak c.salt n }).set F.CSW_KEY_TX_N 0 n
      { d with cmd := { d.cmd with controlPn := 0 } }.raise 840 [0, n]
    else d

/-- What a KEEPALIVE of this seat says (R459). -/
def Dev.keepalive (d : Dev) : CswKeep :=
  { role := ⟨d.role % 5, Nat.mod_lt _ (by decide)⟩
    takeoverOk := d.get F.CSW_ROLE_TAKEOVER_OK == 1
    claim := d.get F.CSW_ROLE_CLAIM_OUT == 1
    lath := d.lathRuns
    health := ⟨d.healthLevel % 4, Nat.mod_lt _ (by decide)⟩
    frame := BitVec.ofNat 48 d.tick.frame
    time := d.now
    next := d.csw.announced.map fun _ => BitVec.ofNat 32 (d.get F.CSW_KEY_TX_N + 1) }

/-- CORE reaches the cycle that lies `gap` after the last one, if there was one. -/
def Dev.passSince (d : Dev) (last : Option Nat) (gap : Nat) : Dev :=
  match last with
  | some t => d.passToCore (t + gap)
  | none => d

def Dev.keepaliveSend (d : Dev) : Dev :=
  let d := (d.passSince d.csw.keepAt 100000).rekey
  (d.onCsw fun c => { c with keepAt := some d.clock.core }).clink 0 (.keepalive d.keepalive)

/-- No KEEPALIVE on a link for 1 ms (R460). -/
def Dev.keepaliveTimeout (d : Dev) (k : Nat) : Dev := (d.passSince (d.csw.alive.getD k none) 1000000).reviewCauseway []

/-! ### TIME (R462, R477) -/

def Dev.timeSend (d : Dev) : Dev :=
  let d := d.passSince d.csw.timeAt 1000000
  (d.onCsw fun c => { c with timeAt := some d.clock.core }).clink 6
    (.time d.clock.time16 (d.get F.REF_STATUS_LOOP) (d.get F.REF_STATUS_SELECTED))

/-- CSW_TIME_OFFSET, in 2⁻¹⁶ ns. -/
def Dev.timeOffset (d : Dev) : Int := toSigned 64 (d.get F.CSW_TIME_OFFSET_LO_OFFSET + 2 ^ 32 * d.get F.CSW_TIME_OFFSET_HI_OFFSET)

/-- Link delay and offset from the four stamps, and the partner's reference (R351, R462); an offset above 200 ns is timed (R477). -/
def Dev.timeIn (d : Dev) (x : TimeIn) : Dev :=
  let up : Int := (x.t2 : Int) - x.t1
  let back : Int := (x.t4 : Int) - x.t3
  let off := ofSigned 64 ((up - back) / 2)
  let d := ((d.set F.CSW_LINK_DELAY_DELAY 0 (ofSigned 32 ((up + back) / 2))).set F.CSW_TIME_OFFSET_LO_OFFSET 0 off).set
    F.CSW_TIME_OFFSET_HI_OFFSET 0 (off / 2 ^ 32)
  let d := (d.hset H.refPeerLoop 0 x.loop).hset H.refPeerSel 0 x.selected
  let beyond := d.role == 1 && d.timeOffset.natAbs > 200 * 65536
  d.onCsw fun c => { c with offsetSince := if beyond then some (c.offsetSince.getD d.clock.core) else none }

/-- An offset above 200 ns for 1 s returns a standby to SYNCING (R477). -/
def Dev.offsetExcess (d : Dev) : Dev :=
  match d.csw.offsetSince with
  | some t => if d.role == 1 then (d.passToCore (t + 10 ^ 9)).enterRole 2 7 else d
  | none => d

/-! ### Live items (R463, R464, R476) -/

/-- The offset in this device that an item's offset names: in the Fen windows the unit that serves the engine (R463). -/
def Dev.itemOffset (d : Dev) (off : Nat) : Nat :=
  match fenWindowUnit off with
  | some l => fenOffset (d.unitFor l) (off % 0x100000 % 0x7800)
  | none => off

/-- The commit groups of a register's SH fields. -/
def Reg.groups (r : Reg) : List Nat := r.shFields.filterMap fun f => groupOf f.id

/-- A mirrored write, through bus master 2; its groups' shadow copies are now as of that item. -/
def Dev.itemWrite (d : Dev) (cseq off v : Nat) : Dev :=
  let off := d.itemOffset off
  let d := match findReg off with
    | some (r, _) => d.each r.groups fun d g => d.hset H.groupSeq g cseq
    | none => d
  d.busWrite 2 off v fun d => (d.writeWord 2 off v).1

/-- What follows when fields of some groups have taken new values outside a frame tick. -/
def Dev.afterEffect (d old : Dev) : Dev :=
  let d := d.each (unionNat (d.configuredSlots old) d.liveSlots) fun d s => d.slotApplied old s
  let d := d.each d.activeDests fun d i => d.destApplied old i
  ((((((d.reedApplied old).mvApplied old).listsApplied old).refApplied).ethApplied old).ipmApplied old)

/-- Commit groups take effect outside a frame tick. -/
def Dev.takeEffect (d : Dev) (groups : Nat) : Dev := (d.applyGroups groups).afterEffect d

/-- A value of a snapshot: both copies of the register's SH fields take it (R476). -/
def Dev.itemSnapshot (d : Dev) (off v : Nat) : Dev :=
  let off := d.itemOffset off
  match findReg off with
  | none => d
  | some (r, i) =>
    if r.shadowed then
      let old := d
      let d := d.each r.parts fun d p => match p with
        | .fld f => match f.acc with
          | .sh => (d.set f i (fieldOf f v)).load f i (fieldOf f v)
          | .rw => d.set f i (fieldOf f v)
          | _ => d
        | .cnt _ => d
      d.afterEffect old
    else (d.writeWord 2 off v).1

/-- A mirrored commit: pending for its frame, or applied at once when that frame's T0 has passed (R464). -/
def Dev.itemCommit (d : Dev) (cseq target groups port tag : Nat) : Dev × Bool :=
  let d := d.bump K.COMMITS_ACCEPTED
  if target ≠ 0 ∧ target ≤ d.tick.frame then
    let d := ((d.takeEffect groups).bump K.COMMITS_APPLIED).unconfirm cseq ⟨4, port, tag, groups, 0, target⟩
    (d.raise 839 (0x7FF :: words2 target), true)
  else
    let d := d.takeGroups groups
    ({ d with tick := { d.tick with commits := d.tick.commits ++ [⟨target, groups, .mirror port tag, groups == 0, cseq⟩] } }, false)

/-- In place of the number of a take command: no command of this device waits for a mirrored entry. -/
def noCommand : Nat := 2 ^ 64

/-- The switch line of destination `i` in frame `n` has passed. -/
def Dev.switchPassed (d : Dev) (i n : Nat) : Bool :=
  d.running && (n < d.tick.frame || (n == d.tick.frame && d.hget H.destSwitched i == d.get F.TICK_EPOCH_EPOCH + 1))

/-- A mirrored route for frame `n`: entered as applied when it comes after its switch line, and then carried from the next one; else pending,
in place of the entry for its destination and frame (R464). -/
def Dev.itemEntry (d : Dev) (cseq i s n port tag : Nat) : Dev × Bool :=
  if d.switchPassed i n then
    let d := (d.bump C.XPT_TL_APPLIED).hset H.destMain i s
    let d := d.onXpt fun x => { x with changeovers := (x.changeovers.filter fun c => c.dest != i) ++ [⟨i, s, false⟩] }
    ((d.unconfirm cseq ⟨3, port, tag, i, s, n⟩).raise 839 (i :: words2 n), true)
  else
    let old := d.xpt.entries.filter fun e => e.dest == i && e.frame == n
    let d := old.foldl (fun d e => (d.bump C.XPT_TL_SUPERSEDED).entryEnds e St.superseded) d
    let now := d.running && n == d.tick.frame
    let d := d.onXpt fun x => { x with entries := x.entries ++ [⟨noCommand, i, s, n, now, cseq, port, tag⟩] }
    (if now then d.adopt i s else d, false)

/-- Mirrored entries leave the list unapplied. -/
def Dev.itemCancel (d : Dev) (i n : Nat) : Dev :=
  d.each (d.xpt.entries.filter fun e => e.dest == i && e.frame == n) fun d e =>
    (d.bump C.XPT_TL_CANCELLED).entryEnds e St.superseded

/-- A held salvo's routes become pending for a frame. -/
def Dev.itemFire (d : Dev) (cseq id n port tag : Nat) : Dev × Bool :=
  let held := d.xpt.heldOf id
  let d := d.onXpt fun x => { x with held := x.held.filter fun h => h.salvo != id }
  held.foldl (fun (r : Dev × Bool) h =>
    let q := r.1.itemEntry cseq h.dest h.source n port tag
    (q.1, r.2 || q.2)) (d, false)

/-- A live item has its effect; whether it was late. -/
def Dev.applyItem (d : Dev) (cseq : Nat) : LiveItem → Dev × Bool
  | .write off v => (d.itemWrite cseq off v, false)
  | .commit t g p k => d.itemCommit cseq t g p k
  | .enlist i s n p k => (d.bump C.XPT_TL_ADMITTED).itemEntry cseq i s n p k
  | .cancel i n _ _ => (d.itemCancel i n, false)
  | .prepare id i s p k =>
    ((d.bump C.XPT_TL_ADMITTED).onXpt fun x => { x with
      held := (x.held.filter fun h => !(h.salvo == id && h.dest == i)) ++ [⟨id, i, s, p, k, cseq⟩] }, false)
  | .discard id =>
    ((d.bump C.XPT_TL_CANCELLED 0 (d.xpt.heldOf id).length).onXpt fun x => { x with held := x.held.filter fun h => h.salvo != id }, false)
  | .fire id n p k => d.itemFire cseq id n p k
  | .protect a n p => (d.each ((List.range n).map (a + ·)) fun d i => d.hset H.protectedBy i p, false)
  | .changeover i s b =>
    (d.onXpt fun x => { x with changeovers := (x.changeovers.filter fun c => c.dest != i) ++ [⟨i, s, b⟩] }, false)
  | .snapshot off v => (d.itemSnapshot off v, false)

/-- A gap in LIVE CSEQ (R468): the standby resynchronises; a seat that does so already asks again. -/
def Dev.liveGap (d : Dev) : Dev := if d.role == 1 then d.enterRole 2 7 else d.startRole 2

/-- A live item arrives (R464): STANDBY and SYNCING apply it. -/
def Dev.liveIn (d : Dev) (cseq : Nat) (gap : Bool) (item : LiveItem) : Dev :=
  if d.role != 1 && d.role != 2 then d
  else
    let (d, late) := (d.bump C.CSW_LIVE_RX).applyItem cseq item
    let d := d.bump (if late then C.CSW_LIVE_LATE else C.CSW_LIVE_APPLIED)
    let d := d.onCsw fun c => { c with applied := c.applied ++ [(cseq, item)] }
    if gap then d.liveGap else d

/-! ### Checkpoints and markers (R466–R468) -/

/-- The bytes over which a checkpoint's CRC runs here; the manual gives no layout (log entry 12). -/
def checkpointBytes (c : Checkpoint) : List Byte :=
  beBytes 4 c.epoch ++ beBytes 4 c.cut ++ beBytes 4 c.crc ++ beBytes 4 c.peat ++ beBytes 1 c.peatValid ++ beBytes 8 c.parent ++
    beBytes 1 c.iface ++ beBytes 1 c.servo ++ beBytes 4 c.rate ++ beBytes 10 c.stepPend ++ beBytes 4 c.ledgerEpoch ++
    c.ledgers.flatMap (fun l => beBytes 4 l.1 ++ beBytes 8 (ofSigned 64 l.2)) ++ beBytes 8 c.frame

/-- This seat's checkpoint of the epoch in progress (R466). -/
def Dev.ownCheckpoint (d : Dev) : Checkpoint :=
  { epoch := d.get F.TICK_EPOCH_EPOCH, cut := d.csw.cutSeq, crc := d.csw.cutCrc ^^^ 0xFFFFFFFF
    peat := d.get F.REF_PEAT_VALUE, peatValid := d.get F.REF_PEAT_CTRL_PEAT_VALID, parent := d.gmId
    iface := d.get F.PTP_STATUS_IF_SEL, servo := d.get F.PTP_STATUS_SERVO, rate := d.get F.PTP_PHC_RATE_RATE
    stepPend := (d.get F.PTP_STEP_PEND_HI_NS * 2 ^ 32 + d.get F.PTP_STEP_PEND_MID_NS) * 2 ^ 16 + d.get F.PTP_STEP_PEND_LO_FRAC
    ledgerEpoch := d.get F.LDG_EPOCH_EPOCH, ledgers := d.health.faults.map fun f => (f.id, f.imbalance), frame := d.tick.frame }

/-- The active seat's firmware sends the checkpoint of the epoch in phase T2 (R466); its cut is then the last. -/
def Dev.sendCheckpoint (d : Dev) : Dev :=
  if d.role != 0 || !d.causewayUp || !d.lathRuns || !d.running || d.csw.sent.isSome then d
  else
    let c := d.ownCheckpoint
    (d.onCsw fun s => { s with sent := some (c.epoch, crc32c (checkpointBytes c)), txCrc := s.sinceTick }).csend 3 (.checkpoint c)

/-- At half-frame the marker follows the checkpoint; one that is not sent by then is an overrun of T2 (R42, R467). -/
def Dev.sendMarker (d : Dev) : Dev :=
  if d.role != 0 || !d.causewayUp then d
  else
    match d.csw.sent with
    | some (e, crc) => if d.lathRuns then d.csend 4 (.marker e d.tick.frame crc) else d
    | none => d.raise 32 (2 :: words2 d.tick.frame)

/-- The live items up to a cut are behind it. -/
def Dev.cutAt (d : Dev) (cut : Nat) : Dev :=
  d.onCsw fun c => { c with applied := c.applied.filter (fun e => !serialGe 32 cut e.1), cutKnown := true }

/-- A received epoch fails (R467); RESYNC_AFTER failures in a row for another cause than a missing marker, or live items that do not match,
send the standby to SYNCING (R468). -/
def Dev.epochFails (d : Dev) (e : EpochRx) (cause : Nat) (mismatch : Bool) : Dev :=
  let d := match e.content with
    | some c => d.cutAt c.cut
    | none => d.onCsw fun c => { c with applied := [], cutKnown := false }
  let d := (d.discardEpoch e.epoch cause).onCsw fun c => { c with badRun := if cause = 1 then 0 else c.badRun + 1 }
  if d.role == 1 && (mismatch || d.csw.badRun ≥ d.get F.CSW_CFG_RESYNC_AFTER) then d.enterRole 2 7 else d

/-- A frame of a checkpoint (R466, R467): `content` is the whole checkpoint, known with its last frame. -/
def Dev.checkpointIn (d : Dev) (epoch : Nat) (gap : Bool) (bytes : List Byte) (content : Option Checkpoint) : Dev :=
  if d.role != 1 && d.role != 2 then d
  else
    let more := fun (e : EpochRx) (whole : Bool) =>
      { e with crc := bytes.foldl (crcByte 0x82F63B78) e.crc, content := content.orElse (fun _ => e.content), whole := whole }
    let begin_ := fun d : Dev =>
      (d.bump C.CSW_EPOCHS_BEGUN).onCsw fun c => { c with receiving := some (more ⟨epoch, 0xFFFFFFFF, none, true⟩ true) }
    match d.csw.receiving with
    | some e =>
      if e.epoch = epoch then d.onCsw fun c => { c with receiving := some (more e (e.whole && !gap)) }
      else begin_ (d.epochFails e 1 false)
    | none => begin_ d

/-- The grandmaster that a committed checkpoint names, in place of the seat's own comparison while it is visible (R468). -/
def Dev.mirrorParent (d : Dev) (gm : Nat) : Dev :=
  let seen := (List.range 4).any fun i => (d.heard i).any fun a => a.gm == gm
  let told := d.csw.parentTold == some gm
  let d := d.onCsw fun c => { c with mirroredParent := some gm, parentTold := if seen then none else some gm }
  let d := if seen || told then d else d.raise 841 (words2 gm)
  if d.role == 1 then d.chooseParent else d

/-- The epoch is committed (R467): its bank, CSW_EPOCH_COMMITTED and the frame number; what lies before its cut is confirmed. -/
def Dev.commitEpoch (d : Dev) (c : Checkpoint) : Dev :=
  let b := c.epoch % 2
  let d := (((d.set F.CSW_MIRROR_STATUS_BANK 0 b).set F.CSW_MIRROR_STATUS_SYNCED 0 1).set F.CSW_MIRROR_STATUS_DISCARD_RUN 0 0).set
    F.CSW_EPOCH_COMMITTED_EPOCH 0 c.epoch
  let d := ((d.set F.CSW_EPOCH_FRAME_LO_FRAME 0 c.frame).set F.CSW_EPOCH_FRAME_HI_FRAME 0 (c.frame / 2 ^ 32)).bump C.CSW_EPOCHS_COMMITTED
  let done := match d.csw.resyncDone with
    | some q => serialGe 32 (d.csw.rxSeq.getD 2 0) q
    | none => false
  let d := d.onCsw fun s => { s with
    receiving := none, banks := s.banks.set b (some c), committedCut := c.cut, badRun := 0
    unconfirmed := s.unconfirmed.filter fun u => !serialGe 32 c.cut u.cseq
    committedSince := s.committedSince || (d.role == 2 && done)
    framesSince := if s.committedSince then s.framesSince else 0 }
  (d.cutAt c.cut).mirrorParent c.parent

/-- The CRC-32C of the live items applied up to a cut. -/
def Csw.appliedCrc (c : Csw) (cut : Nat) : Nat :=
  ((c.applied.filter fun e => serialGe 32 cut e.1).foldl (fun k e => liveCrc k e.2) 0xFFFFFFFF) ^^^ 0xFFFFFFFF

/-- The half-frame of the frame in progress, and 100 µs. -/
def Dev.markerLimit (d : Dev) : Nat := d.tick.t0Core + framePeriod d.rate / 2 + 100000

/-- The marker of an epoch in reception: the conditions of R467 in turn. -/
def Dev.judgeEpoch (d : Dev) (e : EpochRx) (crc : Nat) : Dev :=
  match e.content with
  | none => d.epochFails e 4 false
  | some c =>
    if d.running && d.markerLimit < d.clock.core then d.epochFails e 1 false
    else if !e.whole then d.epochFails e 4 false
    else if e.crc ^^^ 0xFFFFFFFF ≠ crc then d.epochFails e 2 false
    else if !serialGe 32 (d.csw.rxSeq.getD 2 0) c.cut then d.epochFails e 3 false
    else if d.csw.cutKnown && d.csw.appliedCrc c.cut != c.crc then d.epochFails e 3 true
    else d.commitEpoch c

/-- A MARKER arrives (R467, R473): one without a checkpoint in reception finds its frames missing. -/
def Dev.markerIn (d : Dev) (epoch crc : Nat) : Dev :=
  if d.role != 1 && d.role != 2 then d
  else
    let d := d.onCsw fun c => { c with markerAt := d.clock.core }
    let lost := fun d : Dev => (d.bump C.CSW_EPOCHS_BEGUN).epochFails ⟨epoch, 0, none, false⟩ 4 false
    match d.csw.receiving with
    | some e => if e.epoch = epoch then d.judgeEpoch e crc else lost (d.epochFails e 1 false)
    | none => lost d

/-- Half-frame + 100 µs passes without a marker (R467). -/
def Dev.markerDeadline (d : Dev) : Dev :=
  match d.csw.receiving with
  | some e => (if d.running then d.passToCore d.markerLimit else d).epochFails e 1 false
  | none => d

/-- LATH_LOSS_MS without a marker (R473). -/
def Dev.lathLoss (d : Dev) : Dev :=
  if d.role != 1 || d.get F.CSW_ROLE_TAKEOVER_OK == 0 || !d.causewayUp then d
  else (d.passToCore (d.csw.markerAt + 1000000 * d.get F.CSW_TIMING_LATH_LOSS_MS)).askYieldOnce 1

/-! ### Seals and blame (R469–R472) -/

/-- A destination's divergence bit. -/
def Dev.setDivergent (d : Dev) (i : Nat) (on : Bool) : Dev :=
  let v := d.get F.CSW_DIVERGE_DIVERGENT (i / 32)
  d.set F.CSW_DIVERGE_DIVERGENT (i / 32) (if on then v ||| 2 ^ (i % 32) else v - if bit v (i % 32) then 2 ^ (i % 32) else 0)

/-- The destination is divergent. -/
def Dev.divergent (d : Dev) (i : Nat) : Bool := bit (d.get F.CSW_DIVERGE_DIVERGENT (i / 32)) (i % 32)

/-- A destination becomes divergent: it is raised, and its blame check waits its turn (R470, R471). -/
def Dev.diverges (d : Dev) (v : Divergence) : Dev :=
  let d := (d.setDivergent v.dest true).raise 835 (v.dest :: words2 v.frame ++ [v.line])
  if d.csw.noBlame.contains v.dest || d.csw.blameQueue.contains v.dest || (d.csw.blame.map Blame.dest) == some v.dest then d
  else
    let d := d.onCsw fun c => { c with blameQueue := c.blameQueue ++ [v.dest] }
    d.startBlame d.csw.blameQueue.length

/-- A mismatch of a line (R470). -/
def Dev.sealMismatch (d : Dev) (i frame line : Nat) : Dev :=
  let v : Divergence := match d.csw.diverging.find? fun v => v.dest == i with
    | some v =>
      if v.frame = frame then { v with count := v.count + 1 }
      else ⟨i, frame, 1, line, if v.frame + 1 = frame then v.run + 1 else 1⟩
    | none => ⟨i, frame, 1, line, 1⟩
  let d := d.onCsw fun c => { c with mismatchInFrame := true, diverging := v :: c.diverging.filter fun w => w.dest != i }
  if (v.count ≥ d.get F.CSW_TIMING_DIVERGE_LINES || v.run ≥ 3) && !d.divergent i then d.diverges v else d

/-- One received seal is compared with this seat's own (R470). -/
def Dev.sealIn (d : Dev) (i frame line value : Nat) : Dev :=
  let d := d.bump C.CSW_SEAL_RX
  match d.csw.seals.find? fun o => o.dest == i && o.frame == frame && o.line == line with
  | none => d.bump C.CSW_SEAL_UNCMP
  | some o =>
    if d.tick.frame > frame + 2 then d.bump C.CSW_SEAL_UNCMP
    else
      let d := d.onCsw fun c => { c with compared := c.compared + 1 }
      if o.value = value then d.bump C.CSW_SEAL_MATCH else (d.bump C.CSW_SEAL_MISMATCH).sealMismatch i frame line

/-- The seals of consecutive lines; the standby compares them (R454). -/
def Dev.sealsIn (d : Dev) (i frame first : Nat) (seals : List Word) : Dev :=
  if d.role != 1 then d else d.each seals.zipIdx fun d x => d.sealIn i frame (first + x.2) x.1.toNat

/-- The partner's part in a blame check (R471): its beginning, or its results. -/
def Dev.blameIn (d : Dev) (i slot : Nat) (agree : Bool) (seals : List Nat) : Dev :=
  let known := d.csw.blame.any fun b => b.dest == i && b.slot == slot
  let d := if d.role == 0 && !known then d.beginBlame i slot else d
  if agree && seals.isEmpty then d
  else
    match d.csw.blame with
    | some b =>
      if b.dest = i ∧ b.slot = slot then (d.onCsw fun c => { c with blame := some { b with peer := some (agree, seals) } }).blameCheck
      else d
    | none => d

/-- Eight frames after it began a blame check ends (R471). -/
def Dev.blameTimeout (d : Dev) : Dev :=
  match d.csw.blame with
  | some b => if b.began + 8 ≤ d.tick.frame then d.blameVerdict b else d
  | none => d

/-! ### Roles (R455, R473, R479, R480) -/

def Dev.yieldIn (d : Dev) : Dev := if d.role == 0 then d.enterRole 4 10 else d

/-- Seat B waits for its first role, and ACT_CLAIM_IN becomes asserted (R70). -/
def Dev.claimInWait (d : Dev) : Dev := ((d.hset H.seatWait 0 0).enterRole d.claimedRole 0).becomeReady

/-- ACT_CLAIM_IN changes, filtered (R452, R455, R480). -/
def Dev.claimChanges (d : Dev) (level : Bool) : Dev :=
  if (d.get F.CSW_ROLE_CLAIM_IN == 1) == level then d
  else
    let d := (d.set F.CSW_ROLE_CLAIM_IN 0 (ofBool level)).hset H.roleTurn 0 (d.hget H.roleTurn + 1)
    let d := d.onCsw fun c => { c with
      dualSince := if level && d.role == 0 then some d.clock.core else none
      silentTicks := if level then 0 else c.silentTicks }
    if !level then d.claimIfSilent
    else if d.hget H.seatWait == 1 && d.lathRuns then d.claimInWait
    else if (d.role == 1 || d.role == 2) && !d.causewayUp then d.isolate
    else d

/-- Both claims have stood for 1 ms: seat B steps down (R455, R480). -/
def Dev.dualTimeout (d : Dev) : Dev :=
  match d.csw.dualSince with
  | some t =>
    if d.role == 0 && d.hget H.pinSeat == 1 && d.get F.CSW_ROLE_CLAIM_IN == 1 then
      ((d.passToCore (t + 1000000)).enterRole 3 12).raise 838 [1]
    else d
  | none => d

/-- Claim and Causeway have been silent for 3 frame ticks (R455); a veto blocks the claim (R479). -/
def Dev.claimSilence (d : Dev) : Dev :=
  if d.csw.silentTicks < 3 || !(d.role == 1 || d.role == 2 || d.role == 3) then d
  else if d.get F.CSW_ROLE_VETO == 1 then d.raise 838 [2]
  else d.becomeActive 2

/-- A veto's time ends (R479). -/
def Dev.vetoExpiry (d : Dev) : Dev :=
  match d.csw.vetoEnd with
  | some t => ((d.passToCore t).set F.CSW_ROLE_VETO 0 0).onCsw fun c => { c with vetoEnd := none }
  | none => d

/-- A veto is set for some milliseconds, or ended with 0 (R479). -/
def Dev.setVeto (d : Dev) (ms : Nat) : Dev :=
  (d.set F.CSW_ROLE_VETO 0 (ofBool (ms != 0))).onCsw fun c => { c with
    vetoEnd := if ms = 0 then none else some (d.clock.core + 1000000 * ms) }

/-- The conditions of R477 but the resynchronisation's own. -/
def Dev.offsetGood (d : Dev) : Bool := d.timeOffset.natAbs ≤ 100 * 65536

/-! ### P3 (R459, R484) -/

/-- Both words are written to this seat's own registers, under their storing rules (R484). -/
def Dev.writePeerWords (d : Dev) (cfg timing : Nat) : Dev := ((d.writeWord 0 0xF00000 cfg).1.writeWord 0 0xF00004 timing).1

/-- A response on P3 is genuine. -/
def Dev.goodResponse (d : Dev) (bs : List Byte) : Bool :=
  let len := beVal (slice 8 2 bs)
  bs.length == 48 + len && beVal (bs.take 1) == 1 && beVal (slice 6 1 bs) == 3 && bit (beVal (slice 1 1 bs)) 1 &&
    (d.cmd.portKey 3).key.map (hmac · (bs.take (16 + len))) == some (bs.drop (16 + len))

/-- The partner's OK to PEER_CONFIG completes the REDUNDANCY_CONFIG that waits for it (R484). -/
def Dev.peerAnswers (d : Dev) (bs : List Byte) : Dev :=
  let tag := beVal (slice 4 2 bs)
  if !d.goodResponse bs || beVal (slice 2 2 bs) != 0x0782 || beVal (slice 10 2 bs) != St.ok then d
  else
    match d.csw.peerWaits.find? fun w => w.sent == tag with
    | some w =>
      let d := d.onCsw fun c => { c with peerWaits := c.peerWaits.erase w }
      (d.writePeerWords w.cfg w.timing).respond w.port w.src w.tag 0x0703 St.ok []
    | none => d

/-- An Igkix packet of P3: a response to this seat's request, or a request. -/
def Dev.controlIn (d : Dev) (bs : List Byte) : Dev :=
  if bit (beVal (slice 1 1 bs)) 0 then if d.portUp 3 then d.peerAnswers bs else d
  else d.receive 3 0 bs

/-- What REDUNDANCY_CONFIG answers when the partner was not updated (R484). -/
def notUpdated : List Tlv := [statusDetail 0xFFFF 3 0x73]

/-- No OK within 100 ms (R484). -/
def Dev.peerTimeout (d : Dev) : Dev :=
  match d.csw.peerWaits with
  | w :: rest =>
    let d := (d.passToCore w.limit).onCsw fun c => { c with peerWaits := rest }
    (d.writePeerWords w.cfg w.timing).respond w.port w.src w.tag 0x0703 St.ok notUpdated
  | [] => d

/-! ### Commands (R484) -/

def roleStatusSpec : Spec :=
  { op := 0x0701, ports := [0, 1, 2, 4], pars := [.opt 0x0101 (num 4 (· ≤ 60000)), .opt 0x0102 (num 4 (· ≤ 2))] }

/-- What ROLE_STATUS returns. -/
def Dev.roleData (d : Dev) : Tlv :=
  data [w4 (d.wordAt 0xF00008), w4 (d.wordAt 0xF0002C), w4 (d.get F.CSW_EPOCH_COMMITTED_EPOCH),
    w8 (d.get F.CSW_EPOCH_FRAME_HI_FRAME * 2 ^ 32 + d.get F.CSW_EPOCH_FRAME_LO_FRAME), w4 (d.linkWord 0), w4 (d.linkWord 1),
    w8 (ofSigned 64 d.timeOffset)]

/-- ROLE_STATUS with REQUEST (R455). -/
def Dev.roleRequest (d : Dev) (r : Nat) : Dev :=
  if r = 1 then d.enterRole 4 6
  else if r = 2 then
    if d.causewayUp && d.csw.peer.any (fun k => k.role.val == 0) then (d.enterRole 2 6).claimIfSilent else d.enterRole 3 6
  else d

/-- ROLE_STATUS (0x0701). -/
def Dev.roleStatus (d : Dev) (q : Req) : Dev := d.command q roleStatusSpec fun d ts =>
  let r := tlvNum ts 0x0102
  if hasTlv ts 0x0101 && (!(q.port == 1 || q.port == 2) || d.role == 0) then
    d.reply q 0x0701 St.badParam [statusDetail (tlvIndex ts 0x0101) 0xFF 0x72]
  else if (r = 1 ∧ d.role = 0) ∨ (r = 2 ∧ d.role ≠ 4) then d.reply q 0x0701 St.badParam [statusDetail (tlvIndex ts 0x0102) 0xFF 0x71]
  else
    let d := if hasTlv ts 0x0101 then d.setVeto (tlvNum ts 0x0101) else d
    let d := d.roleRequest r
    d.reply q 0x0701 St.ok [d.roleData]

def switchoverSpec : Spec := { op := 0x0702, pars := [Par.frame] }

/-- The partner is STANDBY with TAKEOVER_OK, as its last KEEPALIVE says. -/
def Dev.peerReady (d : Dev) : Bool := d.causewayUp && d.csw.peer.any fun k => k.role.val == 1 && k.takeoverOk

/-- SWITCHOVER (0x0702): it waits for its frame tick; a later one replaces an earlier one. -/
def Dev.switchover (d : Dev) (q : Req) : Dev := d.command q switchoverSpec fun d ts =>
  let n := frameTlv ts
  let target := if n = 0 then d.tick.frame + 1 else n
  if !d.peerReady then d.reply q 0x0702 St.badParam [statusDetail 0xFFFF 0xFF 0x70]
  else if target ≤ d.tick.frame then d.reply q 0x0702 St.badParam [statusDetail (tlvIndex ts 0x0001) 0xFF 0]
  else
    let d := match d.csw.switchover with
      | some (_, port, src, tag) => d.respond port src tag 0x0702 St.superseded []
      | none => d
    (d.onCsw fun c => { c with switchover := some (target, q.port, q.src, q.tag) }).respond q.port q.src q.tag 0x0702 St.pending [] false

def redundancyConfigSpec : Spec := { op := 0x0703, pars := [.req 0x0101 any4, .req 0x0102 any4] }

/-- REDUNDANCY_CONFIG (0x0703): the partner first, while the Causeway is up. -/
def Dev.redundancyConfig (d : Dev) (q : Req) : Dev := d.command q redundancyConfigSpec fun d ts =>
  let cfg := tlvNum ts 0x0101
  let timing := tlvNum ts 0x0102
  if !d.causewayUp then (d.writePeerWords cfg timing).reply q 0x0703 St.ok notUpdated
  else
    let tag := (d.csw.peerWaits.getLast?.map PeerWait.sent).getD 2 + 1
    let w : PeerWait := ⟨tag, cfg, timing, q.port, q.tag, q.src, d.clock.core + 100000000⟩
    let d := d.onCsw fun c => { c with peerWaits := c.peerWaits ++ [w] }
    d.transmit 3 0 0 0x0782 tag 0 (Tlv.bytes ⟨0x0101, w4 cfg⟩ ++ Tlv.bytes ⟨0x0102, w4 timing⟩) false

def blameStatusSpec : Spec := { op := 0x0704 }

/-- BLAME_STATUS (0x0704). -/
def Dev.blameStatus (d : Dev) (q : Req) : Dev := d.command q blameStatusSpec fun d _ =>
  d.reply q 0x0704 St.ok [data (w4 (d.wordAt 0xF000A0) :: (List.range 48).map fun w => w4 (d.get F.CSW_DIVERGE_DIVERGENT w))]

/-- The 16 bytes of a record (R475). -/
def ReportRecord.bytes (r : ReportRecord) : List Byte :=
  beBytes 1 r.kind ++ beBytes 1 r.port ++ beBytes 2 r.tag ++ beBytes 2 r.first ++ beBytes 2 r.second ++ beBytes 8 r.frame

def reportGetSpec : Spec := { op := 0x0705, pars := [.req 0x0101 any4, .req 0x0102 (num 4 fun n => 1 ≤ n && n ≤ 80)] }

/-- TAKEOVER_REPORT_GET (0x0705): the header, then the records from FROM on. -/
def Dev.reportGet (d : Dev) (q : Req) : Dev := d.command q reportGetSpec fun d ts =>
  let r := d.csw.report.getD ⟨0, 0, 0, 0, 0, [], 0⟩
  let head : Tlv := ⟨0x0102, (([w4 r.cause, w4 r.flags, w4 r.epoch, w8 r.epochFrame, w8 r.frame, w4 r.records.length, w4 r.overflow] :
    List (List Byte))).flatten⟩
  d.reply q 0x0705 St.ok (head :: (slice (tlvNum ts 0x0101) (tlvNum ts 0x0102) r.records).map fun e => data [e.bytes])

def resyncRequestSpec : Spec := { op := 0x0780, ports := [3] }

/-- RESYNC_REQUEST (0x0780): the active seat sends a snapshot at its next T0 (R476). -/
def Dev.resyncRequest (d : Dev) (q : Req) : Dev := d.command q resyncRequestSpec fun d _ =>
  ((if d.role == 0 then d.onCsw fun c => { c with snapshotAsked := true } else d)).reply q 0x0780 St.ok

def resyncDoneSpec : Spec := { op := 0x0781, ports := [3], pars := [.req 0x0101 any4] }

/-- RESYNC_DONE (0x0781): applied once the live items up to its CSEQ are. -/
def Dev.resyncDone (d : Dev) (q : Req) : Dev := d.command q resyncDoneSpec fun d ts =>
  ((if d.role == 2 then d.onCsw fun c => { c with resyncDone := some (tlvNum ts 0x0101) } else d)).reply q 0x0781 St.ok

def peerConfigSpec : Spec := { op := 0x0782, ports := [3], pars := [.req 0x0101 any4, .req 0x0102 any4] }

/-- PEER_CONFIG (0x0782): it answers OK, and then writes both words. -/
def Dev.peerConfig (d : Dev) (q : Req) : Dev := d.command q peerConfigSpec fun d ts =>
  (d.reply q 0x0782 St.ok).writePeerWords (tlvNum ts 0x0101) (tlvNum ts 0x0102)

/-! ### The snapshot (R476) -/

/-- The words of a register's instances with their offsets. -/
def Reg.offsets (r : Reg) : List Nat := (List.range (r.dims.foldl (fun n x => n * x.2) 1)).map r.offset

/-- Every mirrored register as a snapshot item; the windows of Fen units stand for the engines that the units serve. -/
def Dev.snapshotItems (d : Dev) : List LiveItem :=
  (List.range 64).flatMap fun k => (regsOfWindow k).flatMap fun r => (r.offsets.filter fun o => mirrored o r).filterMap fun o =>
    (d.mirrorOffset o).map fun p => .snapshot p (d.wordAt o &&& r.mirrorMask)

/-- The active seat sends the whole of its mirrored state, and RESYNC_DONE after it. -/
def Dev.sendSnapshot (d : Dev) : Dev :=
  let entries : List LiveItem := d.xpt.entries.map fun e => .enlist e.dest e.source e.frame e.port e.tag
  let held : List LiveItem := d.xpt.held.map fun h => .prepare h.salvo h.dest h.source h.port h.tag
  let prot : List LiveItem := (List.range 1536).map fun i => .protect i 1 (d.hget H.protectedBy i)
  let d := d.each (d.snapshotItems ++ entries ++ held ++ prot) fun d x => d.live x
  let d := d.onCsw fun c => { c with snapshotAsked := false }
  d.transmit 3 0 0 0x0781 2 0 (Tlv.bytes ⟨0x0101, w4 (d.csw.txSeq.getD 2 0)⟩) false

/-! ### The rows -/

def execCausewaySuperframe (link : Fin 2) (s : State) : Host.Outcome State Fault Refusal := lift (·.linkSuperframe link) s
def execKeepalive (h : CswHead) (k : CswKeep) (s : State) : Host.Outcome State Fault Refusal := lift (·.keepaliveIn h k) s
def execControl (h : CswHead) (bytes : List Byte) (s : State) : Host.Outcome State Fault Refusal :=
  lift (fun d => d.classIn h 1 (·.controlIn bytes)) s
def execLive (h : CswHead) (item : LiveItem) (s : State) : Host.Outcome State Fault Refusal :=
  lift (fun d => d.classIn h 2 (·.liveIn h.cseq.toNat (serialSub 32 h.cseq.toNat (d.csw.rxSeq.getD 2 0) != 1) item)) s
def execCheckpoint (h : CswHead) (epoch : BitVec 32) (bytes : List Byte) (content : Option Checkpoint) (s : State) :
    Host.Outcome State Fault Refusal :=
  lift (fun d => d.classIn h 3
    (·.checkpointIn epoch.toNat (serialSub 32 h.cseq.toNat (d.csw.rxSeq.getD 3 0) != 1) bytes content)) s
def execMarker (h : CswHead) (epoch : BitVec 32) (crc : BitVec 32) (s : State) : Host.Outcome State Fault Refusal :=
  lift (fun d => d.classIn h 4 (·.markerIn epoch.toNat crc.toNat)) s
def execMarkerDeadline (s : State) : Host.Outcome State Fault Refusal := lift (·.markerDeadline) s
def execSeal (h : CswHead) (dest : Fin 1536) (frame : BitVec 48) (first : BitVec 16) (seals : List Word) (s : State) :
    Host.Outcome State Fault Refusal := lift (fun d => d.classIn h 5 (·.sealsIn dest frame.toNat first.toNat seals)) s
def execTime (h : CswHead) (x : TimeIn) (s : State) : Host.Outcome State Fault Refusal := lift (fun d => d.classIn h 6 (·.timeIn x)) s
def execYieldReq (h : CswHead) (s : State) : Host.Outcome State Fault Refusal := lift (fun d => d.classIn h 7 (·.yieldIn)) s
def execBlame (h : CswHead) (dest : Fin 1536) (slot : BitVec 11) (agree : Bool) (seals : List Nat) (s : State) :
    Host.Outcome State Fault Refusal := lift (fun d => d.classIn h 8 (·.blameIn dest slot.toNat agree seals)) s
def execBlameTimeout (s : State) : Host.Outcome State Fault Refusal := lift (·.blameTimeout) s
def execHello (h : CswHead) (salt : List Byte) (s : State) : Host.Outcome State Fault Refusal := lift (·.helloIn h salt) s
def execKeepaliveSend (s : State) : Host.Outcome State Fault Refusal := lift (·.keepaliveSend) s
def execTimeSend (s : State) : Host.Outcome State Fault Refusal := lift (·.timeSend) s
def execKeepaliveTimeout (link : Fin 2) (s : State) : Host.Outcome State Fault Refusal := lift (·.keepaliveTimeout link) s
def execActClaimInChange (level : Bool) (s : State) : Host.Outcome State Fault Refusal := lift (·.claimChanges level) s
def execDualActiveTimeout (s : State) : Host.Outcome State Fault Refusal := lift (·.dualTimeout) s
def execClaimSilenceTimeout (s : State) : Host.Outcome State Fault Refusal := lift (·.claimSilence) s
def execLathLossTimeout (s : State) : Host.Outcome State Fault Refusal := lift (·.lathLoss) s
def execOffsetExcess (s : State) : Host.Outcome State Fault Refusal := lift (·.offsetExcess) s
def execVetoExpiry (s : State) : Host.Outcome State Fault Refusal := lift (·.vetoExpiry) s
def execPeerConfigTimeout (s : State) : Host.Outcome State Fault Refusal := lift (·.peerTimeout) s
def execRoleStatus (q : Req) (s : State) : Host.Outcome State Fault Refusal := lift (·.roleStatus q) s
def execSwitchover (q : Req) (s : State) : Host.Outcome State Fault Refusal := lift (·.switchover q) s
def execRedundancyConfig (q : Req) (s : State) : Host.Outcome State Fault Refusal := lift (·.redundancyConfig q) s
def execBlameStatus (q : Req) (s : State) : Host.Outcome State Fault Refusal := lift (·.blameStatus q) s
def execTakeoverReportGet (q : Req) (s : State) : Host.Outcome State Fault Refusal := lift (·.reportGet q) s
def execResyncRequest (q : Req) (s : State) : Host.Outcome State Fault Refusal := lift (·.resyncRequest q) s
def execResyncDone (q : Req) (s : State) : Host.Outcome State Fault Refusal := lift (·.resyncDone q) s
def execPeerConfig (q : Req) (s : State) : Host.Outcome State Fault Refusal := lift (·.peerConfig q) s

end Sys2Proof.Machine
end

