-- ==== Sys2Proof/Machine/MacRx.lean ====
section
/-! DEFINITION. Received Ethernet frames (R278–R284, R296): the checks in order, and the hand-off. -/

namespace Sys2Proof.Machine

/-- The own address of an instance; 0 matches no frame (R283). -/
def Dev.macAddr (d : Dev) (n : Nat) : Nat := d.get F.ETH_ADDR_HI_ADDR n * 2 ^ 32 + d.get F.ETH_ADDR_LO_ADDR n

/-- The hash bin of a group address is set (R282). -/
def Dev.binSet (d : Dev) (n mac : Nat) : Bool :=
  let b := hashBin mac
  bit (d.get F.ETH_HASH_BITS (128 * n + b / 32)) (b % 32)

/-- BCAST_EN of an instance. -/
def Dev.takesBroadcast (d : Dev) (n : Nat) : Bool :=
  (if n < 32 then d.get F.ETH_MAC_CFG_BCAST_EN n else d.get F.MGT_CFG_BCAST_EN (n - 32)) == 1

/-- Check 8: the destination address. -/
def Dev.addressed (d : Dev) (n mac : Nat) : Bool :=
  if mac = 2 ^ 48 - 1 then d.takesBroadcast n
  else if bit mac 40 then d.binSet n mac
  else d.macAddr n != 0 && mac == d.macAddr n

/-- Check 7: the VLAN tag of a media instance; a management port has no table. -/
def Dev.vlanPasses (d : Dev) (n : Nat) (tag : Option (Nat × Nat)) : Bool :=
  n ≥ 32 || match tag with
    | none => d.get F.ETH_MAC_CFG_UNTAGGED_EN n == 1
    | some (tpid, vid) => tpid == 0x8100 &&
        if vid = 0 then d.get F.ETH_MAC_CFG_UNTAGGED_EN n == 1
        else (List.range 16).any fun k => d.get F.ETH_VLAN_EN (16 * n + k) == 1 && d.get F.ETH_VLAN_VID (16 * n + k) == vid

/-- Check 6: the MACsec checks of a management port (R296): tag, SA, replay window and ICV. -/
def Dev.secPasses (d : Dev) (i : Nat) (tag : Option SecTag) : Bool :=
  if d.get F.MGT_MACSEC_CFG_EN i == 0 then tag.isNone
  else
    match tag with
    | none => false
    | some t =>
      let sa := 4 * i + t.an
      t.valid && d.hget H.macRxSa sa == 1 && 1 ≤ t.pn && d.hget H.macRxPn sa ≤ t.pn + d.get F.MGT_MACSEC_CFG_REPLAY_WIN i && t.icvOk

/-- A frame that passed moves the replay window on. -/
def Dev.secAccept (d : Dev) (i : Nat) (tag : Option SecTag) : Dev :=
  match tag with
  | some t =>
    let sa := 4 * i + t.an
    if d.hget H.macRxPn sa ≤ t.pn then d.hset H.macRxPn sa (t.pn + 1) else d
  | none => d

/-- A MACsec drop: the first in each second is raised. -/
def Dev.secDrop (d : Dev) (i : Nat) (tag : Option SecTag) : Dev :=
  let d := d.bump C.ETH_RX_MACSEC_DROP (32 + i)
  if d.hget H.macSecDrop i = d.second1 then d
  else (d.hset H.macSecDrop i d.second1).raise (648 + i) [5, (tag.map fun t => t.an.val).getD 0]

/-- The group address of PAUSE frames. -/
def pauseMac : Nat := 0x0180C2000001

/-- A frame for the Lath control queue: the firmware takes it at once while it runs; else it waits, 64 per port (R281). -/
def Dev.ctlQueue (d : Dev) (n : Nat) : Option Dev :=
  let q := txQueueOf n
  if d.lathRuns then some d else if d.hget H.macCtlQueue q < 64 then some (d.hset H.macCtlQueue q (d.hget H.macCtlQueue q + 1)) else none

/-- The receive buffer of an instance in bytes: 512 KB for a media instance, 64 KB for a management port (R281). -/
def rxBuffer (n : Nat) : Nat := 1024 * if n < 32 then 512 else 64

/-- MAX_FRAME in effect in the cycle in which the SFD of a frame was received, whose last byte is received now (R279). -/
def Dev.maxAtSfd (d : Dev) (n : Nat) (x : EthIn) : Nat :=
  if d.now10 + 1 - d.byteTime n x.length < d.hget H.maxFrameAt n then d.hget H.maxFrameWas n else d.maxFrame n

/-- Checks 9 and 10, and the hand-off of a frame that passes them: where it goes to, none where its class is filtered. -/
def Dev.handOn (d : Dev) (n : Nat) (x : EthIn) : Dev :=
  let deliver := fun (f : Dev → Dev) => if x.waiting + x.length ≤ rxBuffer n then f (d.bump C.ETH_RX_DELIVERED n) else d.bump C.ETH_RX_QUEUE_DROP n
  let filtered := d.bump C.ETH_RX_FILTERED n
  match x.body with
  | .ptp m => deliver fun d => d.ptpMessage n (d.byteTime n x.length) m
  | .udp flow y =>
    if n < 32 then deliver fun d => d.flowDatagram n flow
    else if y.dstAddr.toNat = d.get F.MGT_IPV4_IPV4 (n - 32) ∧ y.dstPort.toNat = d.get F.CMD_UDP_PORT_PORT then deliver fun d => d.datagram (n - 32) y
    else filtered
  | .lath =>
    match d.ctlQueue n with
    | some d => d.bump C.ETH_RX_DELIVERED n
    | none => d.bump C.ETH_RX_QUEUE_DROP n
  | _ => filtered

/-- Checks 7 and 8, then the rest. -/
def Dev.afterSec (d : Dev) (n : Nat) (x : EthIn) : Dev :=
  if !d.vlanPasses n x.vlan then d.bump C.ETH_RX_VLAN_DROP n
  else if !d.addressed n x.dst then d.bump C.ETH_RX_FILTERED n
  else d.handOn n x

/-- A received frame, checked in the order of R281. -/
def Dev.macFrameRx (d : Dev) (n : Nat) (x : EthIn) : Dev :=
  if !d.instLink n then d
  else
    let d := ((d.bump C.ETH_RX_FRAMES n).bump C.ETH_FEC_CORR_CW n x.corrected).bump C.ETH_FEC_UNCORR_CW n x.uncorrected
    let d := if n < 32 && x.uncorrected > 0 then d.raise (608 + n) [3, x.uncorrected] else d
    if x.uncorrected > 0 || x.pcsError then d.bump C.ETH_RX_PHY_ERR n
    else if x.length < 64 then d.bump C.ETH_RX_RUNT n
    else if (if n < 32 then x.length else x.inner) > d.maxAtSfd n x then d.bump C.ETH_RX_OVERSIZE n
    else if !x.fcsOk then d.bump C.ETH_RX_FCS_ERR n
    else
      match x.body with
      | .pause quanta =>
        if x.dst = pauseMac || (d.macAddr n != 0 && x.dst == d.macAddr n) then (d.bump C.ETH_RX_MAC_CTRL n).pauseFrame n quanta.toNat
        else d.bump C.ETH_RX_FILTERED n
      | .control => d.bump C.ETH_RX_CTRL_UNSUP n
      | _ =>
        if n < 32 then d.afterSec n x
        else if !d.secPasses (n - 32) x.secTag then d.secDrop (n - 32) x.secTag
        else (d.secAccept (n - 32) x.secTag).afterSec n x

def execMacFrameRx (inst : Fin 34) (x : EthIn) (s : State) : Host.Outcome State Fault Refusal := lift (·.macFrameRx inst x) s

end Sys2Proof.Machine
end

