-- ==== Sys2Proof/Machine/Matrix.lean ====
section
/-! DEFINITION. Accesses that the bus matrix carries out at their targets, and bursts in progress (R76–R88). -/

namespace Sys2Proof.Machine

/-- The bytes of a write, each word's lowest byte at the lowest address (DESIGN CHOICE, log entry 318). -/
def accessBytes (x : Access) : List Byte := (x.words.flatMap (leBytes 4) ++ List.replicate (x.size * x.beats) 0).take (x.size * x.beats)

/-- The words that the bytes of a read make, the lowest address in the lowest byte. -/
def readWords : Nat → List Byte → List Nat
  | 0, _ => []
  | _ + 1, [] => []
  | n + 1, b :: bs => leVal ((b :: bs).take 4) :: readWords n ((b :: bs).drop 4)

/-- What a decoded access reaches: the row of its target, or row 2 through the low window while that is working SRAM (R77). -/
def Dev.placeOf (d : Dev) (k : Nat) : Nat := if k = 0 then (if d.get F.BUS_CTRL_REMAP = 1 then 2 else 1) else k

/-- The first address of a row of R77. -/
def rowBase (k : Nat) : Nat :=
  [0, 0x10000000, 0x20000000, 0x30000000, 0x40000000, 0x50000000, 0x70000000, 0x800000000, 0x1000000000].getD k 0

/-- `n` bytes that a memory target returns: boot ROM and flash hold what the implementation put there. -/
def State.readTarget (s : State) (place off n : Nat) : List Byte :=
  match place with
  | 1 => (List.range n).map fun i => Config.romByte (off + i)
  | 2 => Memory.bytes n off s.dev.sram
  | 3 => Memory.bytes n off s.dev.scratch
  | 5 => s.dev.mailboxRead off n
  | 6 => (List.range n).map fun i => Config.flashByte (off + i)
  | _ => Memory.bytes n off s.mere

/-- Bytes written at a memory target. -/
def State.writeTarget (s : State) (place off : Nat) (bytes : List Byte) : State :=
  match place with
  | 2 => { s with dev := { s.dev with sram := Memory.writeBytes 0x800000 s.dev.sram off bytes } }
  | 3 => { s with dev := { s.dev with scratch := Memory.writeBytes 0x4000 s.dev.scratch off bytes } }
  | 5 => { s with dev := s.dev.mailboxWrite off bytes }
  | 7 => s.writeMere off bytes
  | _ => s

/-- The answer to an access that was carried out. -/
def State.answerAccess (s : State) (m place off n : Nat) (write : Bool) : State :=
  let words := readWords n (s.readTarget place off n)
  { s with dev := s.dev.answer m (if write then .done else .data words) }

/-- A burst in progress ends: its last beats are exchanged, and it is answered (R83). -/
def State.finishBurst (s : State) (b : Burst) : State :=
  let done := b.size * (b.beats - b.left)
  let s := if b.write then s.writeTarget b.place (b.addr + done) (b.bytes.drop done) else s
  let s := s.answerAccess b.master b.place b.addr (b.size * b.beats) b.write
  let d := { s.dev with bursts := s.dev.bursts.erase b }
  { s with dev := (d.hset H.busOutstanding b.master (d.hget H.busOutstanding b.master - 1)).bump K.BUS_COMPLETED b.master }

/-- The bursts that end before an access of `m` to target `k` is accepted: those of `m` at that target (R83), and its oldest while it holds
every ID it may (R76). -/
def State.endEarlier (s : State) (m k : Nat) : State :=
  let s := (s.dev.bursts.filter fun b => b.master == m && b.target == k).foldl State.finishBurst s
  match s.dev.bursts.filter fun b => b.master == m with
  | b :: bs => if bs.length + 1 ≥ idLimit m then s.finishBurst b else s
  | [] => s

/-- An accepted access at a memory target: it is carried out, or stays in progress with its last beats to come. -/
def State.memoryAccess (s : State) (m k : Nat) (x : Access) : State :=
  let place := s.dev.placeOf k
  let off := x.addr - rowBase k
  let done := x.size * (x.beats - x.left)
  if k = 7 ∧ m = 1 ∧ x.write then bar2Write off (accessBytes x) s
  else if x.left = 0 then
    let s := { s with dev := s.dev.transaction m }
    (if x.write then s.writeTarget place off (accessBytes x) else s).answerAccess m place off (x.size * x.beats) x.write
  else
    let d := (s.dev.bump K.BUS_ISSUED m).hset H.busOutstanding m (s.dev.hget H.busOutstanding m + 1)
    let s := { s with dev := { d with bursts := d.bursts ++ [⟨m, k, place, off, x.size, x.beats, x.left, x.write, (accessBytes x)⟩] } }
    if x.write then s.writeTarget place off ((accessBytes x).take done) else s

/-- An accepted access in CSR space: a read or a write of a register. -/
def Dev.csrAccess (d : Dev) (m : Nat) (x : Access) : Dev :=
  let off := x.addr - 0x40000000
  if x.write then d.storeWord m off (x.words.getD 0 0) else d.loadWord m off

/-- An access to a target (R77–R84): it waits for the target, and is carried out there unless the target refuses it.  What outbound
translation and the sump make of an access is said by their own commands. -/
def State.busAccess (s : State) (m : Nat) (x : Access) : State :=
  match s.dev.targetOf x.addr with
  | none => s
  | some k =>
    if k = 8 ∧ !s.dev.hung 8 ∧ s.dev.targetTakes 8 x then s
    else if k = 4 ∧ !s.dev.hung 4 ∧ s.dev.targetTakes 4 x ∧ !s.dev.decodes (x.addr - 0x40000000) then s
    else
      let s := { s with dev := s.dev.arbitrate m k x }
      let s := s.endEarlier m k
      match s.dev.refusedAccess m k x with
      | some d => { s with dev := d }
      | none => if k = 4 then { s with dev := s.dev.csrAccess m x } else s.memoryAccess m k x

/-- A master makes an access whose effect reaches beyond the device proper. -/
def State.access (s : State) (m : Nat) (f : State → State) : State := if m = 7 ∧ !s.dev.debugOn then s else f s

def execSumpAccess (m : Fin 8) (x : Access) (s : State) : Host.Outcome State Fault Refusal := lift (fun d => d.access m (·.sumpAccess m x)) s
def execTargetError (m : Fin 8) (x : Access) (s : State) : Host.Outcome State Fault Refusal :=
  lift (fun d => d) (s.access m (·.busAccess m x))
def execTargetTimeout (m : Fin 8) (x : Access) (s : State) : Host.Outcome State Fault Refusal := lift (fun d => d.access m (·.targetTimeout m x)) s
def execOutboundAccess (m : Fin 8) (x : Access) (answer : List Nat) (s : State) : Host.Outcome State Fault Refusal :=
  lift (fun d => d.access m (·.outbound m x answer)) s

end Sys2Proof.Machine
end

