-- ==== Sys2Proof/Machine/Tick.lean ====
section
/-! DEFINITION. The frame tick: T0, the cutoff, half-frame and T3 (R39–R42), the start and the stop of the tick (R38, R542), frame
renumbering (R37), and loss of lock (R31, R32). -/

namespace Sys2Proof.Machine

/-! ### The cutoff (R40) -/

/-- The format and rate, among those of the enabled destinations that start a frame at frame `n`, that switches first. -/
def Dev.firstSwitch (d : Dev) (n : Nat) : Option (Nat × Nat) :=
  let is := (d.insts F.XPT_DEST_CFG_ENABLE).filter fun i =>
    d.destOn i && d.get F.XPT_DEST_STATUS_FORMAT i != 0 && startsFrame d.rate (d.get F.XPT_DEST_STATUS_RATE i) n
  let fs := is.map fun i => (d.get F.XPT_DEST_STATUS_FORMAT i, d.get F.XPT_DEST_STATUS_RATE i)
  (sortBy (fun a b => switchStart a.1 a.2 ≤ switchStart b.1 b.2) fs).head?

/-- The cutoff of frame `n`, in CORE cycles after T0. -/
def Dev.cutoffAt (d : Dev) (n : Nat) : Nat :=
  match d.firstSwitch n with
  | some f => cutoffOf f.1 f.2
  | none => 4 * (rateD d.rate * 10 ^ 9) / (rateN d.rate * 1125)

/-! ### Commits and changes at T0 (R39, R43, R109) -/

/-- A field that is not shadowed takes the value of a held change. -/
def Dev.storePlain (d : Dev) (w : ShadowWrite) : Dev :=
  match (regWith w.fld).bind fun r => r.parts.findSome? fun p => match p with
    | .fld f => if f.id = w.fld ∧ f.acc ≠ .sh then some f else none
    | .cnt _ => none with
  | some f => d.set f w.inst w.val
  | none => d

/-- The commit is for the tick of frame `n` (R45). -/
def Commit.due (c : Commit) (n : Nat) : Bool := c.target ≤ n

/-- A commit is applied; the partner's is unconfirmed until the next committed epoch (R474, R475). -/
def Dev.commitApplied (d : Dev) (n : Nat) (c : Commit) : Dev :=
  let d := d.commitEnds c .applied
  match c.issuer with
  | .mirror _ _ => d.unconfirm c.cseq { c.record 4 with frame := n }
  | _ => d

/-- The commits for frame `n` are applied together, with the other fields of the firmware's changes. -/
def Dev.applyDue (d : Dev) (n : Nat) : Dev :=
  let cs := d.tick.commits.filter fun c => c.due n
  let ws := (d.tick.changes.filter fun h => h.written && h.frame ≤ n).flatMap HeldChange.writes
  let d := { d with tick := { d.tick with commits := d.tick.commits.filter fun c => !c.due n } }
  let d := d.applyGroups (cs.foldl (fun m c => m ||| c.groups) 0)
  let d := d.each ws Dev.storePlain
  d.each cs fun d c => d.commitApplied n c

/-- What the blocks do with the values that took effect: `old` is the device before them. -/
def Dev.blocksAtT0 (d old : Dev) (n : Nat) (mv : Bool) (x : TickIn) : Dev :=
  let d := d.listsApplied old
  let d := if mv then d.mvApplied old else d
  let d := (((d.reedApplied old).refApplied).ethApplied old).ipmApplied old
  let d := (((d.ingTick old n).xptTick old n).cnvTick n).cnvSwaps
  (d.headsTick n d.tick.t0Time x.found x.errors x.guards).freeReleased

/-- Pools without an idle unit abort the slice under test at their tick (R498). -/
def Dev.poolDemand (d : Dev) : Dev := if d.testing 3 && d.poolSize ≤ d.poolUsed then d.abortTest 3 5 else d

/-! ### Roles at T0 (R455, R470, R477, R484) -/

/-- A divergence bit clears after 16 consecutive frames without a mismatch (R470). -/
def Dev.clearDiverging (d : Dev) (n : Nat) : Dev :=
  let old := d.csw.diverging.filter fun v => v.frame + 16 < n
  (d.each old fun d v => d.setDivergent v.dest false).onCsw fun c => { c with diverging := c.diverging.filter fun v => !(v.frame + 16 < n) }

/-- A standby's frame ends: TAKEOVER_OK is set once a whole frame was compared without a mismatch (R477). -/
def Dev.standbyFrame (d : Dev) : Dev :=
  if d.role != 1 then d
  else
    let whole := d.csw.standbySince ≥ 1 && d.csw.compared > 0 && !d.csw.mismatchInFrame && !d.csw.barred
    let d := if whole then d.set F.CSW_ROLE_TAKEOVER_OK 0 1 else d
    d.onCsw fun c => { c with standbySince := c.standbySince + 1, compared := 0, mismatchInFrame := false }

/-- A seat that resynchronises becomes STANDBY when the conditions hold (R477). -/
def Dev.syncingFrame (d : Dev) : Dev :=
  if d.role != 2 || !d.csw.committedSince then d
  else
    let d := d.onCsw fun c => { c with framesSince := c.framesSince + 1 }
    if d.csw.framesSince ≥ 8 && d.offsetGood then d.enterRole 1 8 else d

/-- A SWITCHOVER takes effect at its frame tick (R484). -/
def Dev.switchoverTick (d : Dev) (n : Nat) : Dev :=
  match d.csw.switchover with
  | some (t, _) => if t ≤ n ∧ d.role = 0 then d.enterRole 1 5 else d
  | none => d

/-- Consecutive frame ticks with the claim and the Causeway silent (R455), and those that seat B waits for (R70). -/
def Dev.countSilence (d : Dev) : Dev :=
  let silent := d.get F.CSW_ROLE_CLAIM_IN == 0 && !d.causewayUp && (d.role == 1 || d.role == 2 || d.role == 3)
  let d := d.onCsw fun c => { c with silentTicks := if silent then c.silentTicks + 1 else 0 }
  if d.hget H.seatWait = 1 then d.hset H.seatTicks 0 (min 3 (d.hget H.seatTicks + 1)) else d

/-- What the tick of frame `n` does to the redundancy state. -/
def Dev.rolesAtT0 (d : Dev) (n : Nat) : Dev :=
  let d := (((d.switchoverTick n).countSilence.standbyFrame).syncingFrame).clearDiverging n
  (if d.csw.snapshotAsked && d.role == 0 then d.sendSnapshot else d).askResync

/-! ### T0 -/

/-- The cut of the next checkpoint is behind every live item before T0 (R466). -/
def Dev.saveCut (d : Dev) : Dev :=
  d.onCsw fun c => { c with cutSeq := c.txSeq.getD 2 0, cutCrc := c.txCrc, sinceTick := 0xFFFFFFFF, sent := none }

/-- An unfinished ledger check of the frame that ends (R42). -/
def Dev.t3Overrun (d : Dev) : Dev :=
  if d.hget H.t3Left = 0 then d else (d.hset H.t3Left 0 0).raise 32 (3 :: words2 d.tick.frame)

/-- Frame `n` begins: its number, its T0, the epoch and the phases. -/
def Dev.openFrame (d : Dev) (n : Nat) : Dev :=
  let d := d.passTo (65536 * frameStart d.rate n)
  let t0 := 65536 * frameStart d.rate n
  let d := { d with tick := { d.tick with
    waiting := false, stepped := false, frame := n, next := n + 1, rateOfTargets := d.rate
    t0Time := t0, t0Core := d.clock.core - (d.clock.time16 - t0) / 65536 } }
  let d := (d.set F.TICK_EPOCH_EPOCH 0 (d.get F.TICK_EPOCH_EPOCH + 1)).set F.TICK_STATUS_RUN 0 1
  let d := ((d.set F.TICK_STATUS_T1_OPEN 0 1).set F.TICK_STATUS_T2_OPEN 0 1).set F.TICK_STATUS_T3_OPEN 0 0
  if d.hget H.ptpValid = 1 then d.set F.TICK_STATUS_TIME_VALID 0 1 else d

/-- T0 of frame `n` (R39). -/
def Dev.atT0 (d : Dev) (n : Nat) (x : TickIn) : Dev :=
  let d := ((d.t3Overrun.saveCut).openFrame n).salvosEnd
  let mv := d.tick.commits.any fun c => c.due n && bit c.groups 5
  let old := d
  let d := ((d.applyDue n).blocksAtT0 old n mv x).poolDemand
  let d := d.set F.TICK_CUTOFF_CYCLES 0 (d.cutoffAt n)
  ((d.rolesAtT0 n).triggerAll 2 fun _ => true).fenFrameTick

/-! ### The first tick after a start (R36, R542) -/

/-- Pending items that no longer name their instant complete with LATE (R542). -/
def Dev.settlePending (d : Dev) (n : Nat) : Dev :=
  let all := d.rate != d.tick.rateOfTargets
  let late := fun (c : Commit) => c.target != 0 && (c.target < n || all)
  let cs := d.tick.commits.filter late
  let d := { d with tick := { d.tick with commits := d.tick.commits.filter fun c => !late c } }
  let d := d.each cs fun d c => d.commitEnds c .late
  let d := d.each (d.xpt.entries.filter fun e => e.frame < n || all) fun d e => (d.bump C.XPT_TL_CANCELLED).entryEnds e St.late
  d.endChanges (fun h => !h.written && (h.frame ≤ n || all)) St.late

/-- The first frame tick after a start.  A HOUSE_RATE that was rewritten to a reserved value while the start waited refuses it here, where
the rate takes effect (R52).  A row that comes when TIME has passed the boundary takes the next boundary that TIME has yet to reach
(DEDUCED, log entry 110). -/
def Dev.firstTick (d : Dev) (x : TickIn) : Dev :=
  if d.rate > 10 then { d with tick := { d.tick with waiting := false } }.raise 37 [0] else
  let n := firstFrame d.rate d.clock.time16
  let d := (d.settlePending n).hset H.tickLost 0 0
  let d := { d with tick := { d.tick with block := d.get F.TICK_CFG_BLOCK_RATE } }
  ((d.atT0 n x).txReviewAll).leaveStep11

/-- The tick that the device is at: running, not about to stop, and not stepped. -/
def Dev.ticking (d : Dev) : Bool := d.running && d.tick.stopping.isNone && !d.tick.stepped

/-- A frame tick (R39). -/
def Dev.frameTick (d : Dev) (x : TickIn) : Dev :=
  if d.tick.waiting then d.firstTick x
  else if d.ticking then d.atT0 d.tick.next x
  else d

/-- The first frame tick after a start (R542). -/
def Dev.tickRestart (d : Dev) (x : TickIn) : Dev := if d.tick.waiting then d.firstTick x else d

/-! ### Renumbering (R37) -/

/-- A frame number moved by D. -/
def movedBy (v : Int) (n : Nat) : Nat := ((n : Int) + v).toNat

/-- A pending commit's target, and that of the changes it commits, move. -/
def Commit.moved (v : Int) (c : Commit) : Commit :=
  { c with
    target := if c.target = 0 then 0 else movedBy v c.target
    issuer := match c.issuer with
      | .firmware f p t => .firmware (movedBy v f) p t
      | i => i }

/-- Every pending target moves by D; so does what the model measures by frame numbers. -/
def Dev.moveTargets (d : Dev) (v : Int) : Dev :=
  let move := movedBy v
  { d with
    tick := { d.tick with
      commits := d.tick.commits.map (Commit.moved v)
      changes := d.tick.changes.map fun (h : HeldChange) => { h with frame := move h.frame } }
    xpt := { d.xpt with
      entries := d.xpt.entries.map fun (e : Entry) => { e with frame := move e.frame }
      cmds := d.xpt.cmds.map fun (c : TakeCmd) => { c with frame := if c.frame = 0 then 0 else move c.frame } }
    csw := { d.csw with blame := d.csw.blame.map fun (b : Blame) => { b with began := move b.began } }
    bist := { d.bist with pools := d.bist.pools.map fun (p : PoolTest) => { p with wait := p.wait.map fun e => (e.1, move e.2) } } }

/-- The first frame tick after a time step renumbers the frames. -/
def Dev.renumberTick (d : Dev) (x : TickIn) : Dev :=
  if d.running && d.tick.stopping.isNone && d.tick.stepped then
    let n := d.tick.next
    let v : Int := (n : Int) - ((d.tick.frame : Int) + 1)
    (((d.passTo (65536 * frameStart d.rate n)).moveTargets v).raise 34 (words2 (ofSigned 64 v))).atT0 n x
  else d

/-! ### The other phases (R39, R41, R42) -/

/-- The cutoff passes. -/
def Dev.cutoff (d : Dev) : Dev :=
  if !d.running then d
  else ((d.passToCore (d.tick.t0Core + d.get F.TICK_CUTOFF_CYCLES)).set F.TICK_STATUS_T1_OPEN 0 0).sendCheckpoint

/-- Half-frame: T2 ends. -/
def Dev.halfFrame (d : Dev) : Dev :=
  if !d.running then d
  else ((d.passToCore (d.tick.t0Core + framePeriod d.rate / 2)).set F.TICK_STATUS_T2_OPEN 0 0).salvosEnd.sendMarker

/-- T3 begins (R28, R191, R238, R445): `unchecked` ledgers are not evaluated in time (R42). -/
def Dev.phase3 (d : Dev) (unchecked : Nat) : Dev :=
  if !d.running then d
  else
    let d := (d.passToCore (d.tick.t0Core + 7 * framePeriod d.rate / 8)).set F.TICK_STATUS_T3_OPEN 0 1
    let d := ((d.salvosEnd.latchLedgers.latchMonitors).changeovers).fenT3 d.tick.frame
    (d.checkLedgers unchecked d.tick.frame).firmwareTriggers

/-- The frame in progress ends and the tick stops (R38, R53). -/
def Dev.tickHalt (d : Dev) : Dev :=
  match d.tick.stopping with
  | none => d
  | some cause =>
    if !d.running then d
    else
      let d := d.t3Overrun.passTo (65536 * frameStart d.rate d.tick.next)
      let d := { d with tick := { d.tick with stopping := none, stepped := false } }
      let d := ((d.set F.TICK_STATUS_RUN 0 0).set F.TICK_STATUS_T1_OPEN 0 0).set F.TICK_STATUS_T2_OPEN 0 0
      let d := (d.set F.TICK_STATUS_T3_OPEN 0 0).hset H.tickLost 0 (ofBool (cause != 0))
      let d := if d.hget H.ptpValid = 1 then d.set F.TICK_STATUS_TIME_VALID 0 1 else d
      ((d.raise 38 [cause]).txReviewAll).healthReview

/-! ### Loss of lock (R31, R32) -/

/-- The domains whose lock bit reads 1 always: their state is in their own blocks. -/
def perInstance (n : Nat) : Bool := n == 7 || n == 15 || n == 16 || n == 18

/-- The lanes of a Causeway link go down, for the loss of their clock. -/
def Dev.causeLost (d : Dev) (k : Nat) : Dev :=
  let lanes := ((List.range 4).map fun j => 384 + 4 * (k % 2) + j).filter fun n => d.laneState n != 0
  (d.each lanes fun d n => d.enterLane n 0 2).reviewLink (k % 2)

/-- What a domain's loss leads to, by the table of R31; the domains are numbered as there, `inst` is the instance, and `bursts` those
in progress at a bus master that goes away (R86), or the words of a port's partial frame. -/
def Dev.lockConsequence (d : Dev) (n inst : Nat) (bursts : List Nat) : Dev :=
  match n with
  | 1 | 3 | 4 | 10 | 17 => d.deviceReset 3 n
  | 2 | 13 | 14 => d.tickStop n
  | 5 => d.stackLost 0 0
  | 6 => d.stackLost 1 0
  | 7 => d.cdrLost (inst % 392)
  | 8 =>
    let g := inst % 16
    (d.hset H.txPllLost g 1).each ((List.range 24).map (24 * g + ·)) Dev.txReview
  | 9 => d.mediaDown (inst % 32) 0
  | 11 => (d.mgtDown 0 bursts).mgtDown 1 (if d.get F.MGT_STATUS_LINK 0 = 1 then [] else bursts)
  | 12 => d.pciReset bursts
  | 15 => d.clockLost (inst % 24) (bursts.headD 0)
  | 16 => d.causeLost inst
  | _ => d

/-- A PLL or synthesiser loses lock. -/
def Dev.lossOfLock (d : Dev) (n inst : Nat) (bursts : List Nat) : Dev :=
  let was := bit (d.get F.CLK_STATUS_LOCK) (n - 1)
  let d := if perInstance n || !was then d else (d.setLock (n - 1) false).raise 36 [n]
  (d.lockConsequence n inst bursts).healthReview

def execFrameTick (x : TickIn) (s : State) : Host.Outcome State Fault Refusal := lift (·.frameTick x) s
def execCutoff (s : State) : Host.Outcome State Fault Refusal := lift (·.cutoff) s
def execHalfFrame (s : State) : Host.Outcome State Fault Refusal := lift (·.halfFrame) s
def execLedgerLatch (unchecked : Nat) (s : State) : Host.Outcome State Fault Refusal := lift (·.phase3 unchecked) s
def execTickRestart (x : TickIn) (s : State) : Host.Outcome State Fault Refusal := lift (·.tickRestart x) s
def execRenumberTick (x : TickIn) (s : State) : Host.Outcome State Fault Refusal := lift (·.renumberTick x) s
def execTickHalt (s : State) : Host.Outcome State Fault Refusal := lift (·.tickHalt) s
def execLossOfLock (domain : Fin 18) (inst : Nat) (bursts : List Nat) (s : State) : Host.Outcome State Fault Refusal :=
  lift (·.lossOfLock (domain + 1) inst bursts) s

end Sys2Proof.Machine
end

