-- ==== Sys2Proof/Machine/Dispatch.lean ====
section
/-! DEFINITION. What each command of the table does: one arm for each constructor, each one call of the
command's meaning. -/

namespace Sys2Proof.Machine

def exec (i : Instr) (s : State) : Host.Outcome State Fault Refusal :=
  match i with
  | .registerWrite m word v => Sys2Proof.Machine.execRegisterWrite m word v s
  | .shadowWrite m word v => Sys2Proof.Machine.execShadowWrite m word v s
  | .readClear m word => Sys2Proof.Machine.execReadClear m word s
  | .latchingRead m word => Sys2Proof.Machine.execLatchingRead m word s
  | .bar2Write off bytes => Sys2Proof.Machine.execBar2Write off bytes s
  | .tickStart m v => Sys2Proof.Machine.execTickStart m v s
  | .tickStop m v => Sys2Proof.Machine.execTickStop m v s
  | .tickCfgWrite m v => Sys2Proof.Machine.execTickCfgWrite m v s
  | .tickCommitGo m v => Sys2Proof.Machine.execTickCommitGo m v s
  | .frameTick x => Sys2Proof.Machine.execFrameTick x s
  | .cutoff => Sys2Proof.Machine.execCutoff s
  | .halfFrame => Sys2Proof.Machine.execHalfFrame s
  | .ledgerLatch unchecked => Sys2Proof.Machine.execLedgerLatch unchecked s
  | .blockTick x => Sys2Proof.Machine.execBlockTick x s
  | .tickRestart x => Sys2Proof.Machine.execTickRestart x s
  | .renumberTick x => Sys2Proof.Machine.execRenumberTick x s
  | .tickHalt => Sys2Proof.Machine.execTickHalt s
  | .lossOfLock domain inst bursts => Sys2Proof.Machine.execLossOfLock domain inst bursts s
  | .commit q => Sys2Proof.Machine.execCommit q s
  | .tickStatusGet q => Sys2Proof.Machine.execTickStatusGet q s
  | .timePreset q => Sys2Proof.Machine.execTimePreset q s
  | .porAssert => Sys2Proof.Machine.execPorAssert s
  | .porRelease x => Sys2Proof.Machine.execPorRelease x s
  | .bootWatchdog => Sys2Proof.Machine.execBootWatchdog s
  | .bootPush m v chunk x => Sys2Proof.Machine.execBootPush m v chunk x s
  | .bootTickStart => Sys2Proof.Machine.execBootTickStart s
  | .causewayTrainingEnd => Sys2Proof.Machine.execCausewayTrainingEnd s
  | .seatBClaimWait => Sys2Proof.Machine.execSeatBClaimWait s
  | .topResetDevice m v => Sys2Proof.Machine.execTopResetDevice m v s
  | .topResetLath m v bursts => Sys2Proof.Machine.execTopResetLath m v bursts s
  | .reset q bursts => Sys2Proof.Machine.execReset q bursts s
  | .perst bursts => Sys2Proof.Machine.execPerst bursts s
  | .lockstepMismatch bursts => Sys2Proof.Machine.execLockstepMismatch bursts s
  | .lathWatchdog bursts => Sys2Proof.Machine.execLathWatchdog bursts s
  | .lathRestartDone x => Sys2Proof.Machine.execLathRestartDone x s
  | .identify q => Sys2Proof.Machine.execIdentify q s
  | .sumpAccess m x => Sys2Proof.Machine.execSumpAccess m x s
  | .busSumpClear m v => Sys2Proof.Machine.execBusSumpClear m v s
  | .targetError m x => Sys2Proof.Machine.execTargetError m x s
  | .targetTimeout m x => Sys2Proof.Machine.execTargetTimeout m x s
  | .lateTargetResponse target => Sys2Proof.Machine.execLateTargetResponse target s
  | .remap m v => Sys2Proof.Machine.execRemap m v s
  | .p0Doorbell slot bytes => Sys2Proof.Machine.execP0Doorbell slot bytes s
  | .rspReadyClear hi v => Sys2Proof.Machine.execRspReadyClear hi v s
  | .mgmtDatagram port x => Sys2Proof.Machine.execMgmtDatagram port x s
  | .uartPacket bytes => Sys2Proof.Machine.execUartPacket bytes s
  | .heldChangeWrite => Sys2Proof.Machine.execHeldChangeWrite s
  | .leaseTimeout port => Sys2Proof.Machine.execLeaseTimeout port s
  | .nop q => Sys2Proof.Machine.execNop q s
  | .portStatusGet q => Sys2Proof.Machine.execPortStatusGet q s
  | .portKeySet q => Sys2Proof.Machine.execPortKeySet q s
  | .notifySubscribe q => Sys2Proof.Machine.execNotifySubscribe q s
  | .gpioConfig q => Sys2Proof.Machine.execGpioConfig q s
  | .gpioSet q => Sys2Proof.Machine.execGpioSet q s
  | .gpioGet q => Sys2Proof.Machine.execGpioGet q s
  | .protect q => Sys2Proof.Machine.execProtect q s
  | .unprotect q => Sys2Proof.Machine.execUnprotect q s
  | .protectGet q => Sys2Proof.Machine.execProtectGet q s
  | .leaseTake q => Sys2Proof.Machine.execLeaseTake q s
  | .leaseRenew q => Sys2Proof.Machine.execLeaseRenew q s
  | .leaseRelease q => Sys2Proof.Machine.execLeaseRelease q s
  | .leaseStatus q => Sys2Proof.Machine.execLeaseStatus q s
  | .csrRead q => Sys2Proof.Machine.execCsrRead q s
  | .csrWrite q => Sys2Proof.Machine.execCsrWrite q s
  | .acceptedEdge pin level => Sys2Proof.Machine.execAcceptedEdge pin level s
  | .debounceWindowEnd pin => Sys2Proof.Machine.execDebounceWindowEnd pin s
  | .chatterWindowEnd => Sys2Proof.Machine.execChatterWindowEnd s
  | .stuckTimeExpiry pin => Sys2Proof.Machine.execStuckTimeExpiry pin s
  | .activeLowWrite m pin v => Sys2Proof.Machine.execActiveLowWrite m pin v s
  | .gpioArmWrite m v => Sys2Proof.Machine.execGpioArmWrite m v s
  | .evtStatusWrite m g v => Sys2Proof.Machine.execEvtStatusWrite m g v s
  | .evtIntEnWrite m g v => Sys2Proof.Machine.execEvtIntEnWrite m g v s
  | .coalesceWindowEnd event => Sys2Proof.Machine.execCoalesceWindowEnd event s
  | .evtLogRdHostWrite m v => Sys2Proof.Machine.execEvtLogRdHostWrite m v s
  | .hostReaderWrite m v => Sys2Proof.Machine.execHostReaderWrite m v s
  | .pcieLinkEvent up speed width => Sys2Proof.Machine.execPcieLinkEvent up speed width s
  | .outboundAccess m x answer => Sys2Proof.Machine.execOutboundAccess m x answer s
  | .eventLogRead q => Sys2Proof.Machine.execEventLogRead q s
  | .eventCountsGet q => Sys2Proof.Machine.execEventCountsGet q s
  | .reedSuperframe lane start groups => Sys2Proof.Machine.execReedSuperframe lane start groups s
  | .fomReading lane f => Sys2Proof.Machine.execFomReading lane f s
  | .laneTrainingStart lane => Sys2Proof.Machine.execLaneTrainingStart lane s
  | .trainingTimeout lane => Sys2Proof.Machine.execTrainingTimeout lane s
  | .alignmentTimeout lane => Sys2Proof.Machine.execAlignmentTimeout lane s
  | .lossOfSignal lane => Sys2Proof.Machine.execLossOfSignal lane s
  | .cdrUnlock lane => Sys2Proof.Machine.execCdrUnlock lane s
  | .rateTryEnd lane => Sys2Proof.Machine.execRateTryEnd lane s
  | .retrain m lane v => Sys2Proof.Machine.execRetrain m lane v s
  | .bitslip m lane v comma => Sys2Proof.Machine.execBitslip m lane v comma s
  | .lcmSend m lane v => Sys2Proof.Machine.execLcmSend m lane v s
  | .reedSuperframeSend lane content => Sys2Proof.Machine.execReedSuperframeSend lane content s
  | .txgrpResume group => Sys2Proof.Machine.execTxgrpResume group s
  | .ingestLine slot l => Sys2Proof.Machine.execIngestLine slot l s
  | .noTrsTimeout slot => Sys2Proof.Machine.execNoTrsTimeout slot s
  | .sourceFrameEnd slot f => Sys2Proof.Machine.execSourceFrameEnd slot f s
  | .reskim m slot v => Sys2Proof.Machine.execReskim m slot v s
  | .mereEccError stack corrected offset hit => Sys2Proof.Machine.execMereEccError stack corrected offset hit s
  | .mereRetrainFail stack => Sys2Proof.Machine.execMereRetrainFail stack s
  | .mereEccAddrClear m v => Sys2Proof.Machine.execMereEccAddrClear m v s
  | .xptInject m v => Sys2Proof.Machine.execXptInject m v s
  | .sealVote dest l => Sys2Proof.Machine.execSealVote dest l s
  | .sluiceSwitch dest anc space => Sys2Proof.Machine.execSluiceSwitch dest anc space s
  | .take q => Sys2Proof.Machine.execTake q s
  | .salvo q => Sys2Proof.Machine.execSalvo q s
  | .salvoPrepare q => Sys2Proof.Machine.execSalvoPrepare q s
  | .salvoFire q => Sys2Proof.Machine.execSalvoFire q s
  | .salvoDiscard q => Sys2Proof.Machine.execSalvoDiscard q s
  | .takeCancel q => Sys2Proof.Machine.execTakeCancel q s
  | .takeListGet q => Sys2Proof.Machine.execTakeListGet q s
  | .triggerBind q => Sys2Proof.Machine.execTriggerBind q s
  | .destConfig q => Sys2Proof.Machine.execDestConfig q s
  | .sourceConfig q => Sys2Proof.Machine.execSourceConfig q s
  | .changeoverConfig q => Sys2Proof.Machine.execChangeoverConfig q s
  | .destStatusGet q => Sys2Proof.Machine.execDestStatusGet q s
  | .sourceStatusGet q => Sys2Proof.Machine.execSourceStatusGet q s
  | .generatorConfig q => Sys2Proof.Machine.execGeneratorConfig q s
  | .compositionComplete head => Sys2Proof.Machine.execCompositionComplete head s
  | .scalerFailure scaler => Sys2Proof.Machine.execScalerFailure scaler s
  | .converterFailure unit => Sys2Proof.Machine.execConverterFailure unit s
  | .cnvLutDataWrite m c v => Sys2Proof.Machine.execCnvLutDataWrite m c v s
  | .headConfig q => Sys2Proof.Machine.execHeadConfig q s
  | .tileConfig q => Sys2Proof.Machine.execTileConfig q s
  | .corniceConfig q => Sys2Proof.Machine.execCorniceConfig q s
  | .guardConfig q => Sys2Proof.Machine.execGuardConfig q s
  | .csetConfig q => Sys2Proof.Machine.execCsetConfig q s
  | .headStatusGet q => Sys2Proof.Machine.execHeadStatusGet q s
  | .converterConfig q => Sys2Proof.Machine.execConverterConfig q s
  | .converterLutLoad q => Sys2Proof.Machine.execConverterLutLoad q s
  | .converterStatusGet q => Sys2Proof.Machine.execConverterStatusGet q s
  | .macFrameRx inst x => Sys2Proof.Machine.execMacFrameRx inst x s
  | .pauseQuantumEnd inst => Sys2Proof.Machine.execPauseQuantumEnd inst s
  | .macFrameTx inst x => Sys2Proof.Machine.execMacFrameTx inst x s
  | .transmitUnderrun inst x => Sys2Proof.Machine.execTransmitUnderrun inst x s
  | .linkUp inst lane x => Sys2Proof.Machine.execLinkUp inst lane x s
  | .linkDown inst lane bursts => Sys2Proof.Machine.execLinkDown inst lane bursts s
  | .ignorePauseWrite m inst v => Sys2Proof.Machine.execIgnorePauseWrite m inst v s
  | .txStartWrite m inst v => Sys2Proof.Machine.execTxStartWrite m inst v s
  | .utilisationWindow port sent received => Sys2Proof.Machine.execUtilisationWindow port sent received s
  | .upshift port => Sys2Proof.Machine.execUpshift port s
  | .renegTimeout port => Sys2Proof.Machine.execRenegTimeout port s
  | .saInstall m port v => Sys2Proof.Machine.execSaInstall m port v s
  | .legTimeout context leg => Sys2Proof.Machine.execLegTimeout context leg s
  | .flowLossTimeout context => Sys2Proof.Machine.execFlowLossTimeout context s
  | .linePlayout context qs anc l => Sys2Proof.Machine.execLinePlayout context qs anc l s
  | .packetSchedule context p => Sys2Proof.Machine.execPacketSchedule context p s
  | .igmpQuery inst version group maxResp => Sys2Proof.Machine.execIgmpQuery inst version group maxResp s
  | .queryResponseDue inst => Sys2Proof.Machine.execQueryResponseDue inst s
  | .igmpReportRepeat inst => Sys2Proof.Machine.execIgmpReportRepeat inst s
  | .rxFlowConfig q => Sys2Proof.Machine.execRxFlowConfig q s
  | .txFlowConfig q => Sys2Proof.Machine.execTxFlowConfig q s
  | .instanceConfig q => Sys2Proof.Machine.execInstanceConfig q s
  | .flowStatusGet q => Sys2Proof.Machine.execFlowStatusGet q s
  | .igmpStatusGet q => Sys2Proof.Machine.execIgmpStatusGet q s
  | .ptpMessageRx port x => Sys2Proof.Machine.execPtpMessageRx port x s
  | .announceTimeout iface => Sys2Proof.Machine.execAnnounceTimeout iface s
  | .syncTimeout => Sys2Proof.Machine.execSyncTimeout s
  | .delayReqSend iface => Sys2Proof.Machine.execDelayReqSend iface s
  | .txqPop m queue => Sys2Proof.Machine.execTxqPop m queue s
  | .phcAdjGo m v => Sys2Proof.Machine.execPhcAdjGo m v s
  | .stepAcceptWrite m v => Sys2Proof.Machine.execStepAcceptWrite m v s
  | .stepLimitWrite m v => Sys2Proof.Machine.execStepLimitWrite m v s
  | .ptpConfig q => Sys2Proof.Machine.execPtpConfig q s
  | .ptpIfConfig q => Sys2Proof.Machine.execPtpIfConfig q s
  | .ptpStatusGet q => Sys2Proof.Machine.execPtpStatusGet q s
  | .ptpStepAccept q => Sys2Proof.Machine.execPtpStepAccept q s
  | .activityTimeout pin => Sys2Proof.Machine.execActivityTimeout pin s
  | .ptpWriteTimeout => Sys2Proof.Machine.execPtpWriteTimeout s
  | .frequencyGate input reading => Sys2Proof.Machine.execFrequencyGate input reading s
  | .soakEnd input => Sys2Proof.Machine.execSoakEnd input s
  | .selectorEvaluation => Sys2Proof.Machine.execSelectorEvaluation s
  | .loopSecond x => Sys2Proof.Machine.execLoopSecond x s
  | .peatUpdate => Sys2Proof.Machine.execPeatUpdate s
  | .phaseAdjustGo m v => Sys2Proof.Machine.execPhaseAdjustGo m v s
  | .slewComplete => Sys2Proof.Machine.execSlewComplete s
  | .refInputConfig q => Sys2Proof.Machine.execRefInputConfig q s
  | .refLoopConfig q => Sys2Proof.Machine.execRefLoopConfig q s
  | .refStatusGet q => Sys2Proof.Machine.execRefStatusGet q s
  | .refPhaseAdjust q => Sys2Proof.Machine.execRefPhaseAdjust q s
  | .refForce q => Sys2Proof.Machine.execRefForce q s
  | .xoTrimSet q => Sys2Proof.Machine.execXoTrimSet q s
  | .aportFrame port x => Sys2Proof.Machine.execAportFrame port x s
  | .fsTimeout port cycles => Sys2Proof.Machine.execFsTimeout port cycles s
  | .portCfgWrite m port v => Sys2Proof.Machine.execPortCfgWrite m port v s
  | .portRestart m port v => Sys2Proof.Machine.execPortRestart m port v s
  | .maskWrite m port v => Sys2Proof.Machine.execMaskWrite m port v s
  | .muteWrite m port v => Sys2Proof.Machine.execMuteWrite m port v s
  | .zcTimeout port channel => Sys2Proof.Machine.execZcTimeout port channel s
  | .groupArm m group v offsets => Sys2Proof.Machine.execGroupArm m group v offsets s
  | .groupFire m group v => Sys2Proof.Machine.execGroupFire m group v s
  | .groupStart group => Sys2Proof.Machine.execGroupStart group s
  | .aportConfig q => Sys2Proof.Machine.execAportConfig q s
  | .aportMute q => Sys2Proof.Machine.execAportMute q s
  | .aportGroupConfig q => Sys2Proof.Machine.execAportGroupConfig q s
  | .aportArm q offsets => Sys2Proof.Machine.execAportArm q offsets s
  | .aportStart q => Sys2Proof.Machine.execAportStart q s
  | .aportRestart q => Sys2Proof.Machine.execAportRestart q s
  | .aportStatusGet q => Sys2Proof.Machine.execAportStatusGet q s
  | .loudResetWrite m v => Sys2Proof.Machine.execLoudResetWrite m v s
  | .mixSet q => Sys2Proof.Machine.execMixSet q s
  | .tapGain q => Sys2Proof.Machine.execTapGain q s
  | .route q => Sys2Proof.Machine.execRoute q s
  | .mixGet q => Sys2Proof.Machine.execMixGet q s
  | .destMute q => Sys2Proof.Machine.execDestMute q s
  | .amxStatusGet q => Sys2Proof.Machine.execAmxStatusGet q s
  | .meterEnable q => Sys2Proof.Machine.execMeterEnable q s
  | .meterDisable q => Sys2Proof.Machine.execMeterDisable q s
  | .meterGet q => Sys2Proof.Machine.execMeterGet q s
  | .loudnessReset q => Sys2Proof.Machine.execLoudnessReset q s
  | .fenNop u => Sys2Proof.Machine.execFenNop u s
  | .mac2 u => Sys2Proof.Machine.execMac2 u s
  | .mac u => Sys2Proof.Machine.execMac u s
  | .clr u => Sys2Proof.Machine.execClr u s
  | .wb u => Sys2Proof.Machine.execWb u s
  | .mfs u => Sys2Proof.Machine.execMfs u s
  | .mts u => Sys2Proof.Machine.execMts u s
  | .alu u => Sys2Proof.Machine.execAlu u s
  | .shf u => Sys2Proof.Machine.execShf u s
  | .ldi u => Sys2Proof.Machine.execLdi u s
  | .ld u => Sys2Proof.Machine.execLd u s
  | .st u => Sys2Proof.Machine.execSt u s
  | .ld2 u => Sys2Proof.Machine.execLd2 u s
  | .setp u => Sys2Proof.Machine.execSetp u s
  | .maxi u => Sys2Proof.Machine.execMaxi u s
  | .mini u => Sys2Proof.Machine.execMini u s
  | .rep u => Sys2Proof.Machine.execRep u s
  | .repk u => Sys2Proof.Machine.execRepk u s
  | .repr u => Sys2Proof.Machine.execRepr u s
  | .brk u => Sys2Proof.Machine.execBrk u s
  | .br u => Sys2Proof.Machine.execBr u s
  | .call u => Sys2Proof.Machine.execCall u s
  | .ret u => Sys2Proof.Machine.execRet u s
  | .reti u => Sys2Proof.Machine.execReti u s
  | .swi u => Sys2Proof.Machine.execSwi u s
  | .gather u => Sys2Proof.Machine.execGather u s
  | .scatter u => Sys2Proof.Machine.execScatter u s
  | .gatherComplete u index words => Sys2Proof.Machine.execGatherComplete u index words s
  | .waitg u => Sys2Proof.Machine.execWaitg u s
  | .jend u => Sys2Proof.Machine.execJend u s
  | .backgroundDispatch l => Sys2Proof.Machine.execBackgroundDispatch l s
  | .swap l dst => Sys2Proof.Machine.execSwap l dst s
  | .fenUnitFailure u byMemory spare ports slots => Sys2Proof.Machine.execFenUnitFailure u byMemory spare ports slots s
  | .haltWrite m u v => Sys2Proof.Machine.execHaltWrite m u v s
  | .guardOvfClear m u v => Sys2Proof.Machine.execGuardOvfClear m u v s
  | .pmWindowWrite m u word v => Sys2Proof.Machine.execPmWindowWrite m u word v s
  | .causewaySuperframe link => Sys2Proof.Machine.execCausewaySuperframe link s
  | .keepalive h k => Sys2Proof.Machine.execKeepalive h k s
  | .control h bytes => Sys2Proof.Machine.execControl h bytes s
  | .live h item => Sys2Proof.Machine.execLive h item s
  | .checkpoint h epoch bytes content => Sys2Proof.Machine.execCheckpoint h epoch bytes content s
  | .marker h epoch crc => Sys2Proof.Machine.execMarker h epoch crc s
  | .markerDeadline => Sys2Proof.Machine.execMarkerDeadline s
  | .sealRx h dest frame first seals => Sys2Proof.Machine.execSeal h dest frame first seals s
  | .time h x => Sys2Proof.Machine.execTime h x s
  | .yieldReq h => Sys2Proof.Machine.execYieldReq h s
  | .blame h dest slot agree seals => Sys2Proof.Machine.execBlame h dest slot agree seals s
  | .blameTimeout => Sys2Proof.Machine.execBlameTimeout s
  | .hello h salt => Sys2Proof.Machine.execHello h salt s
  | .keepaliveSend => Sys2Proof.Machine.execKeepaliveSend s
  | .timeSend => Sys2Proof.Machine.execTimeSend s
  | .keepaliveTimeout link => Sys2Proof.Machine.execKeepaliveTimeout link s
  | .actClaimInChange level => Sys2Proof.Machine.execActClaimInChange level s
  | .dualActiveTimeout => Sys2Proof.Machine.execDualActiveTimeout s
  | .claimSilenceTimeout => Sys2Proof.Machine.execClaimSilenceTimeout s
  | .lathLossTimeout => Sys2Proof.Machine.execLathLossTimeout s
  | .offsetExcess => Sys2Proof.Machine.execOffsetExcess s
  | .vetoExpiry => Sys2Proof.Machine.execVetoExpiry s
  | .peerConfigTimeout => Sys2Proof.Machine.execPeerConfigTimeout s
  | .roleStatus q => Sys2Proof.Machine.execRoleStatus q s
  | .switchover q => Sys2Proof.Machine.execSwitchover q s
  | .redundancyConfig q => Sys2Proof.Machine.execRedundancyConfig q s
  | .blameStatus q => Sys2Proof.Machine.execBlameStatus q s
  | .takeoverReportGet q => Sys2Proof.Machine.execTakeoverReportGet q s
  | .resyncRequest q => Sys2Proof.Machine.execResyncRequest q s
  | .resyncDone q => Sys2Proof.Machine.execResyncDone q s
  | .peerConfig q => Sys2Proof.Machine.execPeerConfig q s
  | .sliceStart pool unit => Sys2Proof.Machine.execSliceStart pool unit s
  | .sliceEnd pool r => Sys2Proof.Machine.execSliceEnd pool r s
  | .unitRestore pool => Sys2Proof.Machine.execUnitRestore pool s
  | .efuseWordWrite readsBack => Sys2Proof.Machine.execEfuseWordWrite readsBack s
  | .nonceExpiry => Sys2Proof.Machine.execNonceExpiry s
  | .bypass => Sys2Proof.Machine.execBypass s
  | .idcode => Sys2Proof.Machine.execIdcode s
  | .samplePreload levels => Sys2Proof.Machine.execSamplePreload levels s
  | .extest => Sys2Proof.Machine.execExtest s
  | .extestPulse => Sys2Proof.Machine.execExtestPulse s
  | .extestTrain => Sys2Proof.Machine.execExtestTrain s
  | .scanEnter => Sys2Proof.Machine.execScanEnter s
  | .mbistRun => Sys2Proof.Machine.execMbistRun s
  | .debug => Sys2Proof.Machine.execDebug s
  | .tapReset => Sys2Proof.Machine.execTapReset s
  | .bistStatusGet q => Sys2Proof.Machine.execBistStatusGet q s
  | .rollConfig q => Sys2Proof.Machine.execRollConfig q s
  | .repairStatusGet q => Sys2Proof.Machine.execRepairStatusGet q s
  | .efuseNonceGet q nonce => Sys2Proof.Machine.execEfuseNonceGet q nonce s
  | .efuseProgram q keyOk sigOk => Sys2Proof.Machine.execEfuseProgram q keyOk sigOk s
  | .hltTrigWrite m v => Sys2Proof.Machine.execHltTrigWrite m v s
  | .tjTimeout tj => Sys2Proof.Machine.execTjTimeout tj s
  | .wearSecond mean tj hbmA hbmB => Sys2Proof.Machine.execWearSecond mean tj hbmA hbmB s
  | .healthStatusGet q => Sys2Proof.Machine.execHealthStatusGet q s
  | .healthClear q => Sys2Proof.Machine.execHealthClear q s
  | .healthConfig q => Sys2Proof.Machine.execHealthConfig q s
  | .wearSet q => Sys2Proof.Machine.execWearSet q s
  | .ledgerStatusGet q => Sys2Proof.Machine.execLedgerStatusGet q s
  | .ledgerRead q => Sys2Proof.Machine.execLedgerRead q s
  | .railExcursion rail => Sys2Proof.Machine.execRailExcursion rail s
  | .thermalTrip sensor => Sys2Proof.Machine.execThermalTrip sensor s
  | .thermalRecovery x => Sys2Proof.Machine.execThermalRecovery x s
  | .i2cRead off => Sys2Proof.Machine.execI2cRead off s
  | .relock domain restart => Sys2Proof.Machine.execRelock domain restart s
  | .refPinEdge x => Sys2Proof.Machine.execRefPinEdge x s
  | .signalDetected lane => Sys2Proof.Machine.execSignalDetected lane s
  | .lathReaderAdvance count => Sys2Proof.Machine.execLathReaderAdvance count s
  | .fenReloadDone l image => Sys2Proof.Machine.execFenReloadDone l image s
  | .pciConfigWrite x => Sys2Proof.Machine.execPciConfigWrite x s
  | .tjConditionEnd tj => Sys2Proof.Machine.execTjConditionEnd tj s

end Sys2Proof.Machine
end

