-- ==== Sys2Proof/Laws/Map.lean ====
section
/-! SUPPORT. A table of values after a value is stored: that value at its own key, the old one at every other. -/

namespace Sys2Proof.Machine

theorem Map.find?_put (m : Map) (f i v g j : Nat) :
    (m.put f i v).find? g j = if g = f ∧ j = i then some v else m.find? g j := by
  induction m with
  | nil => simp only [Map.put, Map.find?]; grind
  | cons c m ih => simp only [Map.put]; split <;> (try split) <;> simp only [Map.find?, ih] <;> grind

theorem Map.find?_drop (m : Map) (f i g j : Nat) :
    (m.drop f i).find? g j = if g = f ∧ j = i then none else m.find? g j := by
  induction m with
  | nil => simp [Map.drop, Map.find?]
  | cons c m ih =>
    simp only [Map.drop] at ih ⊢
    rw [List.filter_cons]
    split <;> simp only [Map.find?, ih] <;> grind

/-- A value that is stored is read back at its key, with the default that was named when it was stored. -/
theorem Map.getD_store_same (m : Map) (f i v d : Nat) : ((m.store f i v d).find? f i).getD d = v := by
  unfold Map.store; split <;> simp_all [Map.find?_put, Map.find?_drop]

/-- Every other key reads as before. -/
theorem Map.find?_store_ne (m : Map) {f i g j : Nat} (v d : Nat) (h : ¬(g = f ∧ j = i)) :
    (m.store f i v d).find? g j = m.find? g j := by
  unfold Map.store; split <;> simp [Map.find?_put, Map.find?_drop, h]

end Sys2Proof.Machine
end

