-- ==== Sys2Proof/Laws/State.lean ====
section
/-! SUPPORT. What each named operation leaves as it was, one lemma for each part of the state, and what a field,
an implied value or a count reads after each. -/

namespace Sys2Proof.Machine

/-! ### set -/

@[simp] theorem Dev.set_shadow (d : Dev) (f : Fld) (i v : Nat) : (d.set f i v).shadow = d.shadow := rfl
@[simp] theorem Dev.set_ctr (d : Dev) (f : Fld) (i v : Nat) : (d.set f i v).ctr = d.ctr := rfl
@[simp] theorem Dev.set_hid (d : Dev) (f : Fld) (i v : Nat) : (d.set f i v).hid = d.hid := rfl
@[simp] theorem Dev.set_clock (d : Dev) (f : Fld) (i v : Nat) : (d.set f i v).clock = d.clock := rfl
@[simp] theorem Dev.set_tick (d : Dev) (f : Fld) (i v : Nat) : (d.set f i v).tick = d.tick := rfl
@[simp] theorem Dev.set_evt (d : Dev) (f : Fld) (i v : Nat) : (d.set f i v).evt = d.evt := rfl
@[simp] theorem Dev.set_cmd (d : Dev) (f : Fld) (i v : Nat) : (d.set f i v).cmd = d.cmd := rfl
@[simp] theorem Dev.set_out (d : Dev) (f : Fld) (i v : Nat) : (d.set f i v).out = d.out := rfl
@[simp] theorem Dev.set_free (d : Dev) (f : Fld) (i v : Nat) : (d.set f i v).free = d.free := rfl
@[simp] theorem Dev.set_csw (d : Dev) (f : Fld) (i v : Nat) : (d.set f i v).csw = d.csw := rfl
@[simp] theorem Dev.set_xpt (d : Dev) (f : Fld) (i v : Nat) : (d.set f i v).xpt = d.xpt := rfl
@[simp] theorem Dev.set_ing (d : Dev) (f : Fld) (i v : Nat) : (d.set f i v).ing = d.ing := rfl
@[simp] theorem Dev.set_mv (d : Dev) (f : Fld) (i v : Nat) : (d.set f i v).mv = d.mv := rfl
@[simp] theorem Dev.set_apt (d : Dev) (f : Fld) (i v : Nat) : (d.set f i v).apt = d.apt := rfl
@[simp] theorem Dev.set_amx (d : Dev) (f : Fld) (i v : Nat) : (d.set f i v).amx = d.amx := rfl
@[simp] theorem Dev.set_reed (d : Dev) (f : Fld) (i v : Nat) : (d.set f i v).reed = d.reed := rfl
@[simp] theorem Dev.set_latches (d : Dev) (f : Fld) (i v : Nat) : (d.set f i v).latches = d.latches := rfl
@[simp] theorem Dev.set_refHist (d : Dev) (f : Fld) (i v : Nat) : (d.set f i v).refHist = d.refHist := rfl
@[simp] theorem Dev.set_mac (d : Dev) (f : Fld) (i v : Nat) : (d.set f i v).mac = d.mac := rfl
@[simp] theorem Dev.set_txq (d : Dev) (f : Fld) (i v : Nat) : (d.set f i v).txq = d.txq := rfl
@[simp] theorem Dev.set_ipm (d : Dev) (f : Fld) (i v : Nat) : (d.set f i v).ipm = d.ipm := rfl
@[simp] theorem Dev.set_ptp (d : Dev) (f : Fld) (i v : Nat) : (d.set f i v).ptp = d.ptp := rfl
@[simp] theorem Dev.set_fen (d : Dev) (f : Fld) (i v : Nat) : (d.set f i v).fen = d.fen := rfl
@[simp] theorem Dev.set_bist (d : Dev) (f : Fld) (i v : Nat) : (d.set f i v).bist = d.bist := rfl
@[simp] theorem Dev.set_tap (d : Dev) (f : Fld) (i v : Nat) : (d.set f i v).tap = d.tap := rfl
@[simp] theorem Dev.set_health (d : Dev) (f : Fld) (i v : Nat) : (d.set f i v).health = d.health := rfl
@[simp] theorem Dev.set_sram (d : Dev) (f : Fld) (i v : Nat) : (d.set f i v).sram = d.sram := rfl
@[simp] theorem Dev.set_scratch (d : Dev) (f : Fld) (i v : Nat) : (d.set f i v).scratch = d.scratch := rfl
@[simp] theorem Dev.set_staging (d : Dev) (f : Fld) (i v : Nat) : (d.set f i v).staging = d.staging := rfl
@[simp] theorem Dev.set_pushed (d : Dev) (f : Fld) (i v : Nat) : (d.set f i v).pushed = d.pushed := rfl
@[simp] theorem Dev.set_image (d : Dev) (f : Fld) (i v : Nat) : (d.set f i v).image = d.image := rfl
@[simp] theorem Dev.set_bursts (d : Dev) (f : Fld) (i v : Nat) : (d.set f i v).bursts = d.bursts := rfl

/-! ### hset -/

@[simp] theorem Dev.hset_reg (d : Dev) (f : Fld) (i v : Nat) : (d.hset f i v).reg = d.reg := rfl
@[simp] theorem Dev.hset_shadow (d : Dev) (f : Fld) (i v : Nat) : (d.hset f i v).shadow = d.shadow := rfl
@[simp] theorem Dev.hset_ctr (d : Dev) (f : Fld) (i v : Nat) : (d.hset f i v).ctr = d.ctr := rfl
@[simp] theorem Dev.hset_clock (d : Dev) (f : Fld) (i v : Nat) : (d.hset f i v).clock = d.clock := rfl
@[simp] theorem Dev.hset_tick (d : Dev) (f : Fld) (i v : Nat) : (d.hset f i v).tick = d.tick := rfl
@[simp] theorem Dev.hset_evt (d : Dev) (f : Fld) (i v : Nat) : (d.hset f i v).evt = d.evt := rfl
@[simp] theorem Dev.hset_cmd (d : Dev) (f : Fld) (i v : Nat) : (d.hset f i v).cmd = d.cmd := rfl
@[simp] theorem Dev.hset_out (d : Dev) (f : Fld) (i v : Nat) : (d.hset f i v).out = d.out := rfl
@[simp] theorem Dev.hset_free (d : Dev) (f : Fld) (i v : Nat) : (d.hset f i v).free = d.free := rfl
@[simp] theorem Dev.hset_csw (d : Dev) (f : Fld) (i v : Nat) : (d.hset f i v).csw = d.csw := rfl
@[simp] theorem Dev.hset_xpt (d : Dev) (f : Fld) (i v : Nat) : (d.hset f i v).xpt = d.xpt := rfl
@[simp] theorem Dev.hset_ing (d : Dev) (f : Fld) (i v : Nat) : (d.hset f i v).ing = d.ing := rfl
@[simp] theorem Dev.hset_mv (d : Dev) (f : Fld) (i v : Nat) : (d.hset f i v).mv = d.mv := rfl
@[simp] theorem Dev.hset_apt (d : Dev) (f : Fld) (i v : Nat) : (d.hset f i v).apt = d.apt := rfl
@[simp] theorem Dev.hset_amx (d : Dev) (f : Fld) (i v : Nat) : (d.hset f i v).amx = d.amx := rfl
@[simp] theorem Dev.hset_reed (d : Dev) (f : Fld) (i v : Nat) : (d.hset f i v).reed = d.reed := rfl
@[simp] theorem Dev.hset_latches (d : Dev) (f : Fld) (i v : Nat) : (d.hset f i v).latches = d.latches := rfl
@[simp] theorem Dev.hset_refHist (d : Dev) (f : Fld) (i v : Nat) : (d.hset f i v).refHist = d.refHist := rfl
@[simp] theorem Dev.hset_mac (d : Dev) (f : Fld) (i v : Nat) : (d.hset f i v).mac = d.mac := rfl
@[simp] theorem Dev.hset_txq (d : Dev) (f : Fld) (i v : Nat) : (d.hset f i v).txq = d.txq := rfl
@[simp] theorem Dev.hset_ipm (d : Dev) (f : Fld) (i v : Nat) : (d.hset f i v).ipm = d.ipm := rfl
@[simp] theorem Dev.hset_ptp (d : Dev) (f : Fld) (i v : Nat) : (d.hset f i v).ptp = d.ptp := rfl
@[simp] theorem Dev.hset_fen (d : Dev) (f : Fld) (i v : Nat) : (d.hset f i v).fen = d.fen := rfl
@[simp] theorem Dev.hset_bist (d : Dev) (f : Fld) (i v : Nat) : (d.hset f i v).bist = d.bist := rfl
@[simp] theorem Dev.hset_tap (d : Dev) (f : Fld) (i v : Nat) : (d.hset f i v).tap = d.tap := rfl
@[simp] theorem Dev.hset_health (d : Dev) (f : Fld) (i v : Nat) : (d.hset f i v).health = d.health := rfl
@[simp] theorem Dev.hset_sram (d : Dev) (f : Fld) (i v : Nat) : (d.hset f i v).sram = d.sram := rfl
@[simp] theorem Dev.hset_scratch (d : Dev) (f : Fld) (i v : Nat) : (d.hset f i v).scratch = d.scratch := rfl
@[simp] theorem Dev.hset_staging (d : Dev) (f : Fld) (i v : Nat) : (d.hset f i v).staging = d.staging := rfl
@[simp] theorem Dev.hset_pushed (d : Dev) (f : Fld) (i v : Nat) : (d.hset f i v).pushed = d.pushed := rfl
@[simp] theorem Dev.hset_image (d : Dev) (f : Fld) (i v : Nat) : (d.hset f i v).image = d.image := rfl
@[simp] theorem Dev.hset_bursts (d : Dev) (f : Fld) (i v : Nat) : (d.hset f i v).bursts = d.bursts := rfl

/-! ### bump -/

@[simp] theorem Dev.bump_reg (d : Dev) (c : Ctr) (i n : Nat) : (d.bump c i n).reg = d.reg := rfl
@[simp] theorem Dev.bump_shadow (d : Dev) (c : Ctr) (i n : Nat) : (d.bump c i n).shadow = d.shadow := rfl
@[simp] theorem Dev.bump_hid (d : Dev) (c : Ctr) (i n : Nat) : (d.bump c i n).hid = d.hid := rfl
@[simp] theorem Dev.bump_clock (d : Dev) (c : Ctr) (i n : Nat) : (d.bump c i n).clock = d.clock := rfl
@[simp] theorem Dev.bump_tick (d : Dev) (c : Ctr) (i n : Nat) : (d.bump c i n).tick = d.tick := rfl
@[simp] theorem Dev.bump_evt (d : Dev) (c : Ctr) (i n : Nat) : (d.bump c i n).evt = d.evt := rfl
@[simp] theorem Dev.bump_cmd (d : Dev) (c : Ctr) (i n : Nat) : (d.bump c i n).cmd = d.cmd := rfl
@[simp] theorem Dev.bump_out (d : Dev) (c : Ctr) (i n : Nat) : (d.bump c i n).out = d.out := rfl
@[simp] theorem Dev.bump_free (d : Dev) (c : Ctr) (i n : Nat) : (d.bump c i n).free = d.free := rfl
@[simp] theorem Dev.bump_csw (d : Dev) (c : Ctr) (i n : Nat) : (d.bump c i n).csw = d.csw := rfl
@[simp] theorem Dev.bump_xpt (d : Dev) (c : Ctr) (i n : Nat) : (d.bump c i n).xpt = d.xpt := rfl
@[simp] theorem Dev.bump_ing (d : Dev) (c : Ctr) (i n : Nat) : (d.bump c i n).ing = d.ing := rfl
@[simp] theorem Dev.bump_mv (d : Dev) (c : Ctr) (i n : Nat) : (d.bump c i n).mv = d.mv := rfl
@[simp] theorem Dev.bump_apt (d : Dev) (c : Ctr) (i n : Nat) : (d.bump c i n).apt = d.apt := rfl
@[simp] theorem Dev.bump_amx (d : Dev) (c : Ctr) (i n : Nat) : (d.bump c i n).amx = d.amx := rfl
@[simp] theorem Dev.bump_reed (d : Dev) (c : Ctr) (i n : Nat) : (d.bump c i n).reed = d.reed := rfl
@[simp] theorem Dev.bump_latches (d : Dev) (c : Ctr) (i n : Nat) : (d.bump c i n).latches = d.latches := rfl
@[simp] theorem Dev.bump_refHist (d : Dev) (c : Ctr) (i n : Nat) : (d.bump c i n).refHist = d.refHist := rfl
@[simp] theorem Dev.bump_mac (d : Dev) (c : Ctr) (i n : Nat) : (d.bump c i n).mac = d.mac := rfl
@[simp] theorem Dev.bump_txq (d : Dev) (c : Ctr) (i n : Nat) : (d.bump c i n).txq = d.txq := rfl
@[simp] theorem Dev.bump_ipm (d : Dev) (c : Ctr) (i n : Nat) : (d.bump c i n).ipm = d.ipm := rfl
@[simp] theorem Dev.bump_ptp (d : Dev) (c : Ctr) (i n : Nat) : (d.bump c i n).ptp = d.ptp := rfl
@[simp] theorem Dev.bump_fen (d : Dev) (c : Ctr) (i n : Nat) : (d.bump c i n).fen = d.fen := rfl
@[simp] theorem Dev.bump_bist (d : Dev) (c : Ctr) (i n : Nat) : (d.bump c i n).bist = d.bist := rfl
@[simp] theorem Dev.bump_tap (d : Dev) (c : Ctr) (i n : Nat) : (d.bump c i n).tap = d.tap := rfl
@[simp] theorem Dev.bump_health (d : Dev) (c : Ctr) (i n : Nat) : (d.bump c i n).health = d.health := rfl
@[simp] theorem Dev.bump_sram (d : Dev) (c : Ctr) (i n : Nat) : (d.bump c i n).sram = d.sram := rfl
@[simp] theorem Dev.bump_scratch (d : Dev) (c : Ctr) (i n : Nat) : (d.bump c i n).scratch = d.scratch := rfl
@[simp] theorem Dev.bump_staging (d : Dev) (c : Ctr) (i n : Nat) : (d.bump c i n).staging = d.staging := rfl
@[simp] theorem Dev.bump_pushed (d : Dev) (c : Ctr) (i n : Nat) : (d.bump c i n).pushed = d.pushed := rfl
@[simp] theorem Dev.bump_image (d : Dev) (c : Ctr) (i n : Nat) : (d.bump c i n).image = d.image := rfl
@[simp] theorem Dev.bump_bursts (d : Dev) (c : Ctr) (i n : Nat) : (d.bump c i n).bursts = d.bursts := rfl

/-! ### load -/

@[simp] theorem Dev.load_reg (d : Dev) (f : Fld) (i v : Nat) : (d.load f i v).reg = d.reg := rfl
@[simp] theorem Dev.load_ctr (d : Dev) (f : Fld) (i v : Nat) : (d.load f i v).ctr = d.ctr := rfl
@[simp] theorem Dev.load_hid (d : Dev) (f : Fld) (i v : Nat) : (d.load f i v).hid = d.hid := rfl
@[simp] theorem Dev.load_clock (d : Dev) (f : Fld) (i v : Nat) : (d.load f i v).clock = d.clock := rfl
@[simp] theorem Dev.load_tick (d : Dev) (f : Fld) (i v : Nat) : (d.load f i v).tick = d.tick := rfl
@[simp] theorem Dev.load_evt (d : Dev) (f : Fld) (i v : Nat) : (d.load f i v).evt = d.evt := rfl
@[simp] theorem Dev.load_cmd (d : Dev) (f : Fld) (i v : Nat) : (d.load f i v).cmd = d.cmd := rfl
@[simp] theorem Dev.load_out (d : Dev) (f : Fld) (i v : Nat) : (d.load f i v).out = d.out := rfl
@[simp] theorem Dev.load_free (d : Dev) (f : Fld) (i v : Nat) : (d.load f i v).free = d.free := rfl
@[simp] theorem Dev.load_csw (d : Dev) (f : Fld) (i v : Nat) : (d.load f i v).csw = d.csw := rfl
@[simp] theorem Dev.load_xpt (d : Dev) (f : Fld) (i v : Nat) : (d.load f i v).xpt = d.xpt := rfl
@[simp] theorem Dev.load_ing (d : Dev) (f : Fld) (i v : Nat) : (d.load f i v).ing = d.ing := rfl
@[simp] theorem Dev.load_mv (d : Dev) (f : Fld) (i v : Nat) : (d.load f i v).mv = d.mv := rfl
@[simp] theorem Dev.load_apt (d : Dev) (f : Fld) (i v : Nat) : (d.load f i v).apt = d.apt := rfl
@[simp] theorem Dev.load_amx (d : Dev) (f : Fld) (i v : Nat) : (d.load f i v).amx = d.amx := rfl
@[simp] theorem Dev.load_reed (d : Dev) (f : Fld) (i v : Nat) : (d.load f i v).reed = d.reed := rfl
@[simp] theorem Dev.load_latches (d : Dev) (f : Fld) (i v : Nat) : (d.load f i v).latches = d.latches := rfl
@[simp] theorem Dev.load_refHist (d : Dev) (f : Fld) (i v : Nat) : (d.load f i v).refHist = d.refHist := rfl
@[simp] theorem Dev.load_mac (d : Dev) (f : Fld) (i v : Nat) : (d.load f i v).mac = d.mac := rfl
@[simp] theorem Dev.load_txq (d : Dev) (f : Fld) (i v : Nat) : (d.load f i v).txq = d.txq := rfl
@[simp] theorem Dev.load_ipm (d : Dev) (f : Fld) (i v : Nat) : (d.load f i v).ipm = d.ipm := rfl
@[simp] theorem Dev.load_ptp (d : Dev) (f : Fld) (i v : Nat) : (d.load f i v).ptp = d.ptp := rfl
@[simp] theorem Dev.load_fen (d : Dev) (f : Fld) (i v : Nat) : (d.load f i v).fen = d.fen := rfl
@[simp] theorem Dev.load_bist (d : Dev) (f : Fld) (i v : Nat) : (d.load f i v).bist = d.bist := rfl
@[simp] theorem Dev.load_tap (d : Dev) (f : Fld) (i v : Nat) : (d.load f i v).tap = d.tap := rfl
@[simp] theorem Dev.load_health (d : Dev) (f : Fld) (i v : Nat) : (d.load f i v).health = d.health := rfl
@[simp] theorem Dev.load_sram (d : Dev) (f : Fld) (i v : Nat) : (d.load f i v).sram = d.sram := rfl
@[simp] theorem Dev.load_scratch (d : Dev) (f : Fld) (i v : Nat) : (d.load f i v).scratch = d.scratch := rfl
@[simp] theorem Dev.load_staging (d : Dev) (f : Fld) (i v : Nat) : (d.load f i v).staging = d.staging := rfl
@[simp] theorem Dev.load_pushed (d : Dev) (f : Fld) (i v : Nat) : (d.load f i v).pushed = d.pushed := rfl
@[simp] theorem Dev.load_image (d : Dev) (f : Fld) (i v : Nat) : (d.load f i v).image = d.image := rfl
@[simp] theorem Dev.load_bursts (d : Dev) (f : Fld) (i v : Nat) : (d.load f i v).bursts = d.bursts := rfl

/-! ### emit -/

@[simp] theorem Dev.emit_reg (d : Dev) (o : Out) : (d.emit o).reg = d.reg := rfl
@[simp] theorem Dev.emit_shadow (d : Dev) (o : Out) : (d.emit o).shadow = d.shadow := rfl
@[simp] theorem Dev.emit_ctr (d : Dev) (o : Out) : (d.emit o).ctr = d.ctr := rfl
@[simp] theorem Dev.emit_hid (d : Dev) (o : Out) : (d.emit o).hid = d.hid := rfl
@[simp] theorem Dev.emit_clock (d : Dev) (o : Out) : (d.emit o).clock = d.clock := rfl
@[simp] theorem Dev.emit_tick (d : Dev) (o : Out) : (d.emit o).tick = d.tick := rfl
@[simp] theorem Dev.emit_evt (d : Dev) (o : Out) : (d.emit o).evt = d.evt := rfl
@[simp] theorem Dev.emit_cmd (d : Dev) (o : Out) : (d.emit o).cmd = d.cmd := rfl
@[simp] theorem Dev.emit_free (d : Dev) (o : Out) : (d.emit o).free = d.free := rfl
@[simp] theorem Dev.emit_csw (d : Dev) (o : Out) : (d.emit o).csw = d.csw := rfl
@[simp] theorem Dev.emit_xpt (d : Dev) (o : Out) : (d.emit o).xpt = d.xpt := rfl
@[simp] theorem Dev.emit_ing (d : Dev) (o : Out) : (d.emit o).ing = d.ing := rfl
@[simp] theorem Dev.emit_mv (d : Dev) (o : Out) : (d.emit o).mv = d.mv := rfl
@[simp] theorem Dev.emit_apt (d : Dev) (o : Out) : (d.emit o).apt = d.apt := rfl
@[simp] theorem Dev.emit_amx (d : Dev) (o : Out) : (d.emit o).amx = d.amx := rfl
@[simp] theorem Dev.emit_reed (d : Dev) (o : Out) : (d.emit o).reed = d.reed := rfl
@[simp] theorem Dev.emit_latches (d : Dev) (o : Out) : (d.emit o).latches = d.latches := rfl
@[simp] theorem Dev.emit_refHist (d : Dev) (o : Out) : (d.emit o).refHist = d.refHist := rfl
@[simp] theorem Dev.emit_mac (d : Dev) (o : Out) : (d.emit o).mac = d.mac := rfl
@[simp] theorem Dev.emit_txq (d : Dev) (o : Out) : (d.emit o).txq = d.txq := rfl
@[simp] theorem Dev.emit_ipm (d : Dev) (o : Out) : (d.emit o).ipm = d.ipm := rfl
@[simp] theorem Dev.emit_ptp (d : Dev) (o : Out) : (d.emit o).ptp = d.ptp := rfl
@[simp] theorem Dev.emit_fen (d : Dev) (o : Out) : (d.emit o).fen = d.fen := rfl
@[simp] theorem Dev.emit_bist (d : Dev) (o : Out) : (d.emit o).bist = d.bist := rfl
@[simp] theorem Dev.emit_tap (d : Dev) (o : Out) : (d.emit o).tap = d.tap := rfl
@[simp] theorem Dev.emit_health (d : Dev) (o : Out) : (d.emit o).health = d.health := rfl
@[simp] theorem Dev.emit_sram (d : Dev) (o : Out) : (d.emit o).sram = d.sram := rfl
@[simp] theorem Dev.emit_scratch (d : Dev) (o : Out) : (d.emit o).scratch = d.scratch := rfl
@[simp] theorem Dev.emit_staging (d : Dev) (o : Out) : (d.emit o).staging = d.staging := rfl
@[simp] theorem Dev.emit_pushed (d : Dev) (o : Out) : (d.emit o).pushed = d.pushed := rfl
@[simp] theorem Dev.emit_image (d : Dev) (o : Out) : (d.emit o).image = d.image := rfl
@[simp] theorem Dev.emit_bursts (d : Dev) (o : Out) : (d.emit o).bursts = d.bursts := rfl

/-! ### report -/

@[simp] theorem Dev.report_reg (d : Dev) (f : Dev → Dev) : (d.report f).reg = d.reg := rfl
@[simp] theorem Dev.report_shadow (d : Dev) (f : Dev → Dev) : (d.report f).shadow = d.shadow := rfl
@[simp] theorem Dev.report_ctr (d : Dev) (f : Dev → Dev) : (d.report f).ctr = d.ctr := rfl
@[simp] theorem Dev.report_hid (d : Dev) (f : Dev → Dev) : (d.report f).hid = d.hid := rfl
@[simp] theorem Dev.report_clock (d : Dev) (f : Dev → Dev) : (d.report f).clock = d.clock := rfl
@[simp] theorem Dev.report_tick (d : Dev) (f : Dev → Dev) : (d.report f).tick = d.tick := rfl
@[simp] theorem Dev.report_free (d : Dev) (f : Dev → Dev) : (d.report f).free = d.free := rfl
@[simp] theorem Dev.report_csw (d : Dev) (f : Dev → Dev) : (d.report f).csw = d.csw := rfl
@[simp] theorem Dev.report_xpt (d : Dev) (f : Dev → Dev) : (d.report f).xpt = d.xpt := rfl
@[simp] theorem Dev.report_ing (d : Dev) (f : Dev → Dev) : (d.report f).ing = d.ing := rfl
@[simp] theorem Dev.report_mv (d : Dev) (f : Dev → Dev) : (d.report f).mv = d.mv := rfl
@[simp] theorem Dev.report_apt (d : Dev) (f : Dev → Dev) : (d.report f).apt = d.apt := rfl
@[simp] theorem Dev.report_amx (d : Dev) (f : Dev → Dev) : (d.report f).amx = d.amx := rfl
@[simp] theorem Dev.report_reed (d : Dev) (f : Dev → Dev) : (d.report f).reed = d.reed := rfl
@[simp] theorem Dev.report_latches (d : Dev) (f : Dev → Dev) : (d.report f).latches = d.latches := rfl
@[simp] theorem Dev.report_refHist (d : Dev) (f : Dev → Dev) : (d.report f).refHist = d.refHist := rfl
@[simp] theorem Dev.report_mac (d : Dev) (f : Dev → Dev) : (d.report f).mac = d.mac := rfl
@[simp] theorem Dev.report_txq (d : Dev) (f : Dev → Dev) : (d.report f).txq = d.txq := rfl
@[simp] theorem Dev.report_ipm (d : Dev) (f : Dev → Dev) : (d.report f).ipm = d.ipm := rfl
@[simp] theorem Dev.report_ptp (d : Dev) (f : Dev → Dev) : (d.report f).ptp = d.ptp := rfl
@[simp] theorem Dev.report_fen (d : Dev) (f : Dev → Dev) : (d.report f).fen = d.fen := rfl
@[simp] theorem Dev.report_bist (d : Dev) (f : Dev → Dev) : (d.report f).bist = d.bist := rfl
@[simp] theorem Dev.report_tap (d : Dev) (f : Dev → Dev) : (d.report f).tap = d.tap := rfl
@[simp] theorem Dev.report_health (d : Dev) (f : Dev → Dev) : (d.report f).health = d.health := rfl
@[simp] theorem Dev.report_sram (d : Dev) (f : Dev → Dev) : (d.report f).sram = d.sram := rfl
@[simp] theorem Dev.report_scratch (d : Dev) (f : Dev → Dev) : (d.report f).scratch = d.scratch := rfl
@[simp] theorem Dev.report_staging (d : Dev) (f : Dev → Dev) : (d.report f).staging = d.staging := rfl
@[simp] theorem Dev.report_pushed (d : Dev) (f : Dev → Dev) : (d.report f).pushed = d.pushed := rfl
@[simp] theorem Dev.report_image (d : Dev) (f : Dev → Dev) : (d.report f).image = d.image := rfl
@[simp] theorem Dev.report_bursts (d : Dev) (f : Dev → Dev) : (d.report f).bursts = d.bursts := rfl

/-! ### fresh -/

@[simp] theorem Dev.fresh_reg (d : Dev) : (d.fresh.2).reg = d.reg := rfl
@[simp] theorem Dev.fresh_shadow (d : Dev) : (d.fresh.2).shadow = d.shadow := rfl
@[simp] theorem Dev.fresh_ctr (d : Dev) : (d.fresh.2).ctr = d.ctr := rfl
@[simp] theorem Dev.fresh_hid (d : Dev) : (d.fresh.2).hid = d.hid := rfl
@[simp] theorem Dev.fresh_clock (d : Dev) : (d.fresh.2).clock = d.clock := rfl
@[simp] theorem Dev.fresh_tick (d : Dev) : (d.fresh.2).tick = d.tick := rfl
@[simp] theorem Dev.fresh_evt (d : Dev) : (d.fresh.2).evt = d.evt := rfl
@[simp] theorem Dev.fresh_cmd (d : Dev) : (d.fresh.2).cmd = d.cmd := rfl
@[simp] theorem Dev.fresh_out (d : Dev) : (d.fresh.2).out = d.out := rfl
@[simp] theorem Dev.fresh_csw (d : Dev) : (d.fresh.2).csw = d.csw := rfl
@[simp] theorem Dev.fresh_xpt (d : Dev) : (d.fresh.2).xpt = d.xpt := rfl
@[simp] theorem Dev.fresh_ing (d : Dev) : (d.fresh.2).ing = d.ing := rfl
@[simp] theorem Dev.fresh_mv (d : Dev) : (d.fresh.2).mv = d.mv := rfl
@[simp] theorem Dev.fresh_apt (d : Dev) : (d.fresh.2).apt = d.apt := rfl
@[simp] theorem Dev.fresh_amx (d : Dev) : (d.fresh.2).amx = d.amx := rfl
@[simp] theorem Dev.fresh_reed (d : Dev) : (d.fresh.2).reed = d.reed := rfl
@[simp] theorem Dev.fresh_latches (d : Dev) : (d.fresh.2).latches = d.latches := rfl
@[simp] theorem Dev.fresh_refHist (d : Dev) : (d.fresh.2).refHist = d.refHist := rfl
@[simp] theorem Dev.fresh_mac (d : Dev) : (d.fresh.2).mac = d.mac := rfl
@[simp] theorem Dev.fresh_txq (d : Dev) : (d.fresh.2).txq = d.txq := rfl
@[simp] theorem Dev.fresh_ipm (d : Dev) : (d.fresh.2).ipm = d.ipm := rfl
@[simp] theorem Dev.fresh_ptp (d : Dev) : (d.fresh.2).ptp = d.ptp := rfl
@[simp] theorem Dev.fresh_fen (d : Dev) : (d.fresh.2).fen = d.fen := rfl
@[simp] theorem Dev.fresh_bist (d : Dev) : (d.fresh.2).bist = d.bist := rfl
@[simp] theorem Dev.fresh_tap (d : Dev) : (d.fresh.2).tap = d.tap := rfl
@[simp] theorem Dev.fresh_health (d : Dev) : (d.fresh.2).health = d.health := rfl
@[simp] theorem Dev.fresh_sram (d : Dev) : (d.fresh.2).sram = d.sram := rfl
@[simp] theorem Dev.fresh_scratch (d : Dev) : (d.fresh.2).scratch = d.scratch := rfl
@[simp] theorem Dev.fresh_staging (d : Dev) : (d.fresh.2).staging = d.staging := rfl
@[simp] theorem Dev.fresh_pushed (d : Dev) : (d.fresh.2).pushed = d.pushed := rfl
@[simp] theorem Dev.fresh_image (d : Dev) : (d.fresh.2).image = d.image := rfl
@[simp] theorem Dev.fresh_bursts (d : Dev) : (d.fresh.2).bursts = d.bursts := rfl

/-! ### pass -/

@[simp] theorem Dev.pass_reg (d : Dev) (n : Nat) : (d.pass n).reg = d.reg := rfl
@[simp] theorem Dev.pass_shadow (d : Dev) (n : Nat) : (d.pass n).shadow = d.shadow := rfl
@[simp] theorem Dev.pass_ctr (d : Dev) (n : Nat) : (d.pass n).ctr = d.ctr := rfl
@[simp] theorem Dev.pass_hid (d : Dev) (n : Nat) : (d.pass n).hid = d.hid := rfl
@[simp] theorem Dev.pass_tick (d : Dev) (n : Nat) : (d.pass n).tick = d.tick := rfl
@[simp] theorem Dev.pass_evt (d : Dev) (n : Nat) : (d.pass n).evt = d.evt := rfl
@[simp] theorem Dev.pass_cmd (d : Dev) (n : Nat) : (d.pass n).cmd = d.cmd := rfl
@[simp] theorem Dev.pass_out (d : Dev) (n : Nat) : (d.pass n).out = d.out := rfl
@[simp] theorem Dev.pass_free (d : Dev) (n : Nat) : (d.pass n).free = d.free := rfl
@[simp] theorem Dev.pass_csw (d : Dev) (n : Nat) : (d.pass n).csw = d.csw := rfl
@[simp] theorem Dev.pass_xpt (d : Dev) (n : Nat) : (d.pass n).xpt = d.xpt := rfl
@[simp] theorem Dev.pass_ing (d : Dev) (n : Nat) : (d.pass n).ing = d.ing := rfl
@[simp] theorem Dev.pass_mv (d : Dev) (n : Nat) : (d.pass n).mv = d.mv := rfl
@[simp] theorem Dev.pass_apt (d : Dev) (n : Nat) : (d.pass n).apt = d.apt := rfl
@[simp] theorem Dev.pass_amx (d : Dev) (n : Nat) : (d.pass n).amx = d.amx := rfl
@[simp] theorem Dev.pass_reed (d : Dev) (n : Nat) : (d.pass n).reed = d.reed := rfl
@[simp] theorem Dev.pass_latches (d : Dev) (n : Nat) : (d.pass n).latches = d.latches := rfl
@[simp] theorem Dev.pass_refHist (d : Dev) (n : Nat) : (d.pass n).refHist = d.refHist := rfl
@[simp] theorem Dev.pass_mac (d : Dev) (n : Nat) : (d.pass n).mac = d.mac := rfl
@[simp] theorem Dev.pass_txq (d : Dev) (n : Nat) : (d.pass n).txq = d.txq := rfl
@[simp] theorem Dev.pass_ipm (d : Dev) (n : Nat) : (d.pass n).ipm = d.ipm := rfl
@[simp] theorem Dev.pass_ptp (d : Dev) (n : Nat) : (d.pass n).ptp = d.ptp := rfl
@[simp] theorem Dev.pass_fen (d : Dev) (n : Nat) : (d.pass n).fen = d.fen := rfl
@[simp] theorem Dev.pass_bist (d : Dev) (n : Nat) : (d.pass n).bist = d.bist := rfl
@[simp] theorem Dev.pass_tap (d : Dev) (n : Nat) : (d.pass n).tap = d.tap := rfl
@[simp] theorem Dev.pass_health (d : Dev) (n : Nat) : (d.pass n).health = d.health := rfl
@[simp] theorem Dev.pass_sram (d : Dev) (n : Nat) : (d.pass n).sram = d.sram := rfl
@[simp] theorem Dev.pass_scratch (d : Dev) (n : Nat) : (d.pass n).scratch = d.scratch := rfl
@[simp] theorem Dev.pass_staging (d : Dev) (n : Nat) : (d.pass n).staging = d.staging := rfl
@[simp] theorem Dev.pass_pushed (d : Dev) (n : Nat) : (d.pass n).pushed = d.pushed := rfl
@[simp] theorem Dev.pass_image (d : Dev) (n : Nat) : (d.pass n).image = d.image := rfl
@[simp] theorem Dev.pass_bursts (d : Dev) (n : Nat) : (d.pass n).bursts = d.bursts := rfl

/-! ### passTo -/

@[simp] theorem Dev.passTo_reg (d : Dev) (t : Nat) : (d.passTo t).reg = d.reg := rfl
@[simp] theorem Dev.passTo_shadow (d : Dev) (t : Nat) : (d.passTo t).shadow = d.shadow := rfl
@[simp] theorem Dev.passTo_ctr (d : Dev) (t : Nat) : (d.passTo t).ctr = d.ctr := rfl
@[simp] theorem Dev.passTo_hid (d : Dev) (t : Nat) : (d.passTo t).hid = d.hid := rfl
@[simp] theorem Dev.passTo_tick (d : Dev) (t : Nat) : (d.passTo t).tick = d.tick := rfl
@[simp] theorem Dev.passTo_evt (d : Dev) (t : Nat) : (d.passTo t).evt = d.evt := rfl
@[simp] theorem Dev.passTo_cmd (d : Dev) (t : Nat) : (d.passTo t).cmd = d.cmd := rfl
@[simp] theorem Dev.passTo_out (d : Dev) (t : Nat) : (d.passTo t).out = d.out := rfl
@[simp] theorem Dev.passTo_free (d : Dev) (t : Nat) : (d.passTo t).free = d.free := rfl
@[simp] theorem Dev.passTo_csw (d : Dev) (t : Nat) : (d.passTo t).csw = d.csw := rfl
@[simp] theorem Dev.passTo_xpt (d : Dev) (t : Nat) : (d.passTo t).xpt = d.xpt := rfl
@[simp] theorem Dev.passTo_ing (d : Dev) (t : Nat) : (d.passTo t).ing = d.ing := rfl
@[simp] theorem Dev.passTo_mv (d : Dev) (t : Nat) : (d.passTo t).mv = d.mv := rfl
@[simp] theorem Dev.passTo_apt (d : Dev) (t : Nat) : (d.passTo t).apt = d.apt := rfl
@[simp] theorem Dev.passTo_amx (d : Dev) (t : Nat) : (d.passTo t).amx = d.amx := rfl
@[simp] theorem Dev.passTo_reed (d : Dev) (t : Nat) : (d.passTo t).reed = d.reed := rfl
@[simp] theorem Dev.passTo_latches (d : Dev) (t : Nat) : (d.passTo t).latches = d.latches := rfl
@[simp] theorem Dev.passTo_refHist (d : Dev) (t : Nat) : (d.passTo t).refHist = d.refHist := rfl
@[simp] theorem Dev.passTo_mac (d : Dev) (t : Nat) : (d.passTo t).mac = d.mac := rfl
@[simp] theorem Dev.passTo_txq (d : Dev) (t : Nat) : (d.passTo t).txq = d.txq := rfl
@[simp] theorem Dev.passTo_ipm (d : Dev) (t : Nat) : (d.passTo t).ipm = d.ipm := rfl
@[simp] theorem Dev.passTo_ptp (d : Dev) (t : Nat) : (d.passTo t).ptp = d.ptp := rfl
@[simp] theorem Dev.passTo_fen (d : Dev) (t : Nat) : (d.passTo t).fen = d.fen := rfl
@[simp] theorem Dev.passTo_bist (d : Dev) (t : Nat) : (d.passTo t).bist = d.bist := rfl
@[simp] theorem Dev.passTo_tap (d : Dev) (t : Nat) : (d.passTo t).tap = d.tap := rfl
@[simp] theorem Dev.passTo_health (d : Dev) (t : Nat) : (d.passTo t).health = d.health := rfl
@[simp] theorem Dev.passTo_sram (d : Dev) (t : Nat) : (d.passTo t).sram = d.sram := rfl
@[simp] theorem Dev.passTo_scratch (d : Dev) (t : Nat) : (d.passTo t).scratch = d.scratch := rfl
@[simp] theorem Dev.passTo_staging (d : Dev) (t : Nat) : (d.passTo t).staging = d.staging := rfl
@[simp] theorem Dev.passTo_pushed (d : Dev) (t : Nat) : (d.passTo t).pushed = d.pushed := rfl
@[simp] theorem Dev.passTo_image (d : Dev) (t : Nat) : (d.passTo t).image = d.image := rfl
@[simp] theorem Dev.passTo_bursts (d : Dev) (t : Nat) : (d.passTo t).bursts = d.bursts := rfl

/-! ### passToCore -/

@[simp] theorem Dev.passToCore_reg (d : Dev) (c : Nat) : (d.passToCore c).reg = d.reg := rfl
@[simp] theorem Dev.passToCore_shadow (d : Dev) (c : Nat) : (d.passToCore c).shadow = d.shadow := rfl
@[simp] theorem Dev.passToCore_ctr (d : Dev) (c : Nat) : (d.passToCore c).ctr = d.ctr := rfl
@[simp] theorem Dev.passToCore_hid (d : Dev) (c : Nat) : (d.passToCore c).hid = d.hid := rfl
@[simp] theorem Dev.passToCore_tick (d : Dev) (c : Nat) : (d.passToCore c).tick = d.tick := rfl
@[simp] theorem Dev.passToCore_evt (d : Dev) (c : Nat) : (d.passToCore c).evt = d.evt := rfl
@[simp] theorem Dev.passToCore_cmd (d : Dev) (c : Nat) : (d.passToCore c).cmd = d.cmd := rfl
@[simp] theorem Dev.passToCore_out (d : Dev) (c : Nat) : (d.passToCore c).out = d.out := rfl
@[simp] theorem Dev.passToCore_free (d : Dev) (c : Nat) : (d.passToCore c).free = d.free := rfl
@[simp] theorem Dev.passToCore_csw (d : Dev) (c : Nat) : (d.passToCore c).csw = d.csw := rfl
@[simp] theorem Dev.passToCore_xpt (d : Dev) (c : Nat) : (d.passToCore c).xpt = d.xpt := rfl
@[simp] theorem Dev.passToCore_ing (d : Dev) (c : Nat) : (d.passToCore c).ing = d.ing := rfl
@[simp] theorem Dev.passToCore_mv (d : Dev) (c : Nat) : (d.passToCore c).mv = d.mv := rfl
@[simp] theorem Dev.passToCore_apt (d : Dev) (c : Nat) : (d.passToCore c).apt = d.apt := rfl
@[simp] theorem Dev.passToCore_amx (d : Dev) (c : Nat) : (d.passToCore c).amx = d.amx := rfl
@[simp] theorem Dev.passToCore_reed (d : Dev) (c : Nat) : (d.passToCore c).reed = d.reed := rfl
@[simp] theorem Dev.passToCore_latches (d : Dev) (c : Nat) : (d.passToCore c).latches = d.latches := rfl
@[simp] theorem Dev.passToCore_refHist (d : Dev) (c : Nat) : (d.passToCore c).refHist = d.refHist := rfl
@[simp] theorem Dev.passToCore_mac (d : Dev) (c : Nat) : (d.passToCore c).mac = d.mac := rfl
@[simp] theorem Dev.passToCore_txq (d : Dev) (c : Nat) : (d.passToCore c).txq = d.txq := rfl
@[simp] theorem Dev.passToCore_ipm (d : Dev) (c : Nat) : (d.passToCore c).ipm = d.ipm := rfl
@[simp] theorem Dev.passToCore_ptp (d : Dev) (c : Nat) : (d.passToCore c).ptp = d.ptp := rfl
@[simp] theorem Dev.passToCore_fen (d : Dev) (c : Nat) : (d.passToCore c).fen = d.fen := rfl
@[simp] theorem Dev.passToCore_bist (d : Dev) (c : Nat) : (d.passToCore c).bist = d.bist := rfl
@[simp] theorem Dev.passToCore_tap (d : Dev) (c : Nat) : (d.passToCore c).tap = d.tap := rfl
@[simp] theorem Dev.passToCore_health (d : Dev) (c : Nat) : (d.passToCore c).health = d.health := rfl
@[simp] theorem Dev.passToCore_sram (d : Dev) (c : Nat) : (d.passToCore c).sram = d.sram := rfl
@[simp] theorem Dev.passToCore_scratch (d : Dev) (c : Nat) : (d.passToCore c).scratch = d.scratch := rfl
@[simp] theorem Dev.passToCore_staging (d : Dev) (c : Nat) : (d.passToCore c).staging = d.staging := rfl
@[simp] theorem Dev.passToCore_pushed (d : Dev) (c : Nat) : (d.passToCore c).pushed = d.pushed := rfl
@[simp] theorem Dev.passToCore_image (d : Dev) (c : Nat) : (d.passToCore c).image = d.image := rfl
@[simp] theorem Dev.passToCore_bursts (d : Dev) (c : Nat) : (d.passToCore c).bursts = d.bursts := rfl

/-! ### raise -/

@[simp] theorem Dev.signal_cmd (d : Dev) (v : Nat) : (d.signal v).cmd = d.cmd := by unfold Dev.signal; split <;> (try split) <;> rfl

@[simp] theorem Dev.signalGroup_cmd (d : Dev) (g : Nat) : (d.signalGroup g).cmd = d.cmd := by unfold Dev.signalGroup; split <;> simp

@[simp] theorem Dev.raise_cmd (d : Dev) (n : Nat) (args : List Nat) : (d.raise n args).cmd = d.cmd := by
  unfold Dev.raise Dev.report; dsimp only; split <;> simp

@[simp] theorem Dev.raise_reg (d : Dev) (n : Nat) (args : List Nat) : (d.raise n args).reg = d.reg := Dev.report_reg ..
@[simp] theorem Dev.raise_shadow (d : Dev) (n : Nat) (args : List Nat) : (d.raise n args).shadow = d.shadow := Dev.report_shadow ..
@[simp] theorem Dev.raise_ctr (d : Dev) (n : Nat) (args : List Nat) : (d.raise n args).ctr = d.ctr := Dev.report_ctr ..
@[simp] theorem Dev.raise_hid (d : Dev) (n : Nat) (args : List Nat) : (d.raise n args).hid = d.hid := Dev.report_hid ..
@[simp] theorem Dev.raise_clock (d : Dev) (n : Nat) (args : List Nat) : (d.raise n args).clock = d.clock := Dev.report_clock ..
@[simp] theorem Dev.raise_tick (d : Dev) (n : Nat) (args : List Nat) : (d.raise n args).tick = d.tick := Dev.report_tick ..
@[simp] theorem Dev.raise_free (d : Dev) (n : Nat) (args : List Nat) : (d.raise n args).free = d.free := Dev.report_free ..
@[simp] theorem Dev.raise_csw (d : Dev) (n : Nat) (args : List Nat) : (d.raise n args).csw = d.csw := Dev.report_csw ..
@[simp] theorem Dev.raise_xpt (d : Dev) (n : Nat) (args : List Nat) : (d.raise n args).xpt = d.xpt := Dev.report_xpt ..
@[simp] theorem Dev.raise_ing (d : Dev) (n : Nat) (args : List Nat) : (d.raise n args).ing = d.ing := Dev.report_ing ..
@[simp] theorem Dev.raise_mv (d : Dev) (n : Nat) (args : List Nat) : (d.raise n args).mv = d.mv := Dev.report_mv ..
@[simp] theorem Dev.raise_apt (d : Dev) (n : Nat) (args : List Nat) : (d.raise n args).apt = d.apt := Dev.report_apt ..
@[simp] theorem Dev.raise_amx (d : Dev) (n : Nat) (args : List Nat) : (d.raise n args).amx = d.amx := Dev.report_amx ..
@[simp] theorem Dev.raise_reed (d : Dev) (n : Nat) (args : List Nat) : (d.raise n args).reed = d.reed := Dev.report_reed ..
@[simp] theorem Dev.raise_latches (d : Dev) (n : Nat) (args : List Nat) : (d.raise n args).latches = d.latches := Dev.report_latches ..
@[simp] theorem Dev.raise_refHist (d : Dev) (n : Nat) (args : List Nat) : (d.raise n args).refHist = d.refHist := Dev.report_refHist ..
@[simp] theorem Dev.raise_mac (d : Dev) (n : Nat) (args : List Nat) : (d.raise n args).mac = d.mac := Dev.report_mac ..
@[simp] theorem Dev.raise_txq (d : Dev) (n : Nat) (args : List Nat) : (d.raise n args).txq = d.txq := Dev.report_txq ..
@[simp] theorem Dev.raise_ipm (d : Dev) (n : Nat) (args : List Nat) : (d.raise n args).ipm = d.ipm := Dev.report_ipm ..
@[simp] theorem Dev.raise_ptp (d : Dev) (n : Nat) (args : List Nat) : (d.raise n args).ptp = d.ptp := Dev.report_ptp ..
@[simp] theorem Dev.raise_fen (d : Dev) (n : Nat) (args : List Nat) : (d.raise n args).fen = d.fen := Dev.report_fen ..
@[simp] theorem Dev.raise_bist (d : Dev) (n : Nat) (args : List Nat) : (d.raise n args).bist = d.bist := Dev.report_bist ..
@[simp] theorem Dev.raise_tap (d : Dev) (n : Nat) (args : List Nat) : (d.raise n args).tap = d.tap := Dev.report_tap ..
@[simp] theorem Dev.raise_health (d : Dev) (n : Nat) (args : List Nat) : (d.raise n args).health = d.health := Dev.report_health ..
@[simp] theorem Dev.raise_sram (d : Dev) (n : Nat) (args : List Nat) : (d.raise n args).sram = d.sram := Dev.report_sram ..
@[simp] theorem Dev.raise_scratch (d : Dev) (n : Nat) (args : List Nat) : (d.raise n args).scratch = d.scratch := Dev.report_scratch ..
@[simp] theorem Dev.raise_staging (d : Dev) (n : Nat) (args : List Nat) : (d.raise n args).staging = d.staging := Dev.report_staging ..
@[simp] theorem Dev.raise_pushed (d : Dev) (n : Nat) (args : List Nat) : (d.raise n args).pushed = d.pushed := Dev.report_pushed ..
@[simp] theorem Dev.raise_image (d : Dev) (n : Nat) (args : List Nat) : (d.raise n args).image = d.image := Dev.report_image ..
@[simp] theorem Dev.raise_bursts (d : Dev) (n : Nat) (args : List Nat) : (d.raise n args).bursts = d.bursts := Dev.report_bursts ..

/-! ### setKey -/

@[simp] theorem Dev.setKey_reg (d : Dev) (p : Nat) (f : PortKey → PortKey) : (d.setKey p f).reg = d.reg := rfl
@[simp] theorem Dev.setKey_shadow (d : Dev) (p : Nat) (f : PortKey → PortKey) : (d.setKey p f).shadow = d.shadow := rfl
@[simp] theorem Dev.setKey_ctr (d : Dev) (p : Nat) (f : PortKey → PortKey) : (d.setKey p f).ctr = d.ctr := rfl
@[simp] theorem Dev.setKey_hid (d : Dev) (p : Nat) (f : PortKey → PortKey) : (d.setKey p f).hid = d.hid := rfl
@[simp] theorem Dev.setKey_clock (d : Dev) (p : Nat) (f : PortKey → PortKey) : (d.setKey p f).clock = d.clock := rfl
@[simp] theorem Dev.setKey_tick (d : Dev) (p : Nat) (f : PortKey → PortKey) : (d.setKey p f).tick = d.tick := rfl
@[simp] theorem Dev.setKey_evt (d : Dev) (p : Nat) (f : PortKey → PortKey) : (d.setKey p f).evt = d.evt := rfl
@[simp] theorem Dev.setKey_out (d : Dev) (p : Nat) (f : PortKey → PortKey) : (d.setKey p f).out = d.out := rfl
@[simp] theorem Dev.setKey_free (d : Dev) (p : Nat) (f : PortKey → PortKey) : (d.setKey p f).free = d.free := rfl
@[simp] theorem Dev.setKey_csw (d : Dev) (p : Nat) (f : PortKey → PortKey) : (d.setKey p f).csw = d.csw := rfl
@[simp] theorem Dev.setKey_xpt (d : Dev) (p : Nat) (f : PortKey → PortKey) : (d.setKey p f).xpt = d.xpt := rfl
@[simp] theorem Dev.setKey_ing (d : Dev) (p : Nat) (f : PortKey → PortKey) : (d.setKey p f).ing = d.ing := rfl
@[simp] theorem Dev.setKey_mv (d : Dev) (p : Nat) (f : PortKey → PortKey) : (d.setKey p f).mv = d.mv := rfl
@[simp] theorem Dev.setKey_apt (d : Dev) (p : Nat) (f : PortKey → PortKey) : (d.setKey p f).apt = d.apt := rfl
@[simp] theorem Dev.setKey_amx (d : Dev) (p : Nat) (f : PortKey → PortKey) : (d.setKey p f).amx = d.amx := rfl
@[simp] theorem Dev.setKey_reed (d : Dev) (p : Nat) (f : PortKey → PortKey) : (d.setKey p f).reed = d.reed := rfl
@[simp] theorem Dev.setKey_latches (d : Dev) (p : Nat) (f : PortKey → PortKey) : (d.setKey p f).latches = d.latches := rfl
@[simp] theorem Dev.setKey_refHist (d : Dev) (p : Nat) (f : PortKey → PortKey) : (d.setKey p f).refHist = d.refHist := rfl
@[simp] theorem Dev.setKey_mac (d : Dev) (p : Nat) (f : PortKey → PortKey) : (d.setKey p f).mac = d.mac := rfl
@[simp] theorem Dev.setKey_txq (d : Dev) (p : Nat) (f : PortKey → PortKey) : (d.setKey p f).txq = d.txq := rfl
@[simp] theorem Dev.setKey_ipm (d : Dev) (p : Nat) (f : PortKey → PortKey) : (d.setKey p f).ipm = d.ipm := rfl
@[simp] theorem Dev.setKey_ptp (d : Dev) (p : Nat) (f : PortKey → PortKey) : (d.setKey p f).ptp = d.ptp := rfl
@[simp] theorem Dev.setKey_fen (d : Dev) (p : Nat) (f : PortKey → PortKey) : (d.setKey p f).fen = d.fen := rfl
@[simp] theorem Dev.setKey_bist (d : Dev) (p : Nat) (f : PortKey → PortKey) : (d.setKey p f).bist = d.bist := rfl
@[simp] theorem Dev.setKey_tap (d : Dev) (p : Nat) (f : PortKey → PortKey) : (d.setKey p f).tap = d.tap := rfl
@[simp] theorem Dev.setKey_health (d : Dev) (p : Nat) (f : PortKey → PortKey) : (d.setKey p f).health = d.health := rfl
@[simp] theorem Dev.setKey_sram (d : Dev) (p : Nat) (f : PortKey → PortKey) : (d.setKey p f).sram = d.sram := rfl
@[simp] theorem Dev.setKey_scratch (d : Dev) (p : Nat) (f : PortKey → PortKey) : (d.setKey p f).scratch = d.scratch := rfl
@[simp] theorem Dev.setKey_staging (d : Dev) (p : Nat) (f : PortKey → PortKey) : (d.setKey p f).staging = d.staging := rfl
@[simp] theorem Dev.setKey_pushed (d : Dev) (p : Nat) (f : PortKey → PortKey) : (d.setKey p f).pushed = d.pushed := rfl
@[simp] theorem Dev.setKey_image (d : Dev) (p : Nat) (f : PortKey → PortKey) : (d.setKey p f).image = d.image := rfl
@[simp] theorem Dev.setKey_bursts (d : Dev) (p : Nat) (f : PortKey → PortKey) : (d.setKey p f).bursts = d.bursts := rfl

/-! ### transmit -/

@[simp] theorem Dev.transmit_reg (d : Dev) (p dst flags op tag status : Nat) (pl : List Byte) (fin : Bool) : (d.transmit p dst flags op tag status pl fin).reg = d.reg := Dev.report_reg ..
@[simp] theorem Dev.transmit_shadow (d : Dev) (p dst flags op tag status : Nat) (pl : List Byte) (fin : Bool) : (d.transmit p dst flags op tag status pl fin).shadow = d.shadow := Dev.report_shadow ..
@[simp] theorem Dev.transmit_ctr (d : Dev) (p dst flags op tag status : Nat) (pl : List Byte) (fin : Bool) : (d.transmit p dst flags op tag status pl fin).ctr = d.ctr := Dev.report_ctr ..
@[simp] theorem Dev.transmit_hid (d : Dev) (p dst flags op tag status : Nat) (pl : List Byte) (fin : Bool) : (d.transmit p dst flags op tag status pl fin).hid = d.hid := Dev.report_hid ..
@[simp] theorem Dev.transmit_clock (d : Dev) (p dst flags op tag status : Nat) (pl : List Byte) (fin : Bool) : (d.transmit p dst flags op tag status pl fin).clock = d.clock := Dev.report_clock ..
@[simp] theorem Dev.transmit_tick (d : Dev) (p dst flags op tag status : Nat) (pl : List Byte) (fin : Bool) : (d.transmit p dst flags op tag status pl fin).tick = d.tick := Dev.report_tick ..
@[simp] theorem Dev.transmit_free (d : Dev) (p dst flags op tag status : Nat) (pl : List Byte) (fin : Bool) : (d.transmit p dst flags op tag status pl fin).free = d.free := Dev.report_free ..
@[simp] theorem Dev.transmit_csw (d : Dev) (p dst flags op tag status : Nat) (pl : List Byte) (fin : Bool) : (d.transmit p dst flags op tag status pl fin).csw = d.csw := Dev.report_csw ..
@[simp] theorem Dev.transmit_xpt (d : Dev) (p dst flags op tag status : Nat) (pl : List Byte) (fin : Bool) : (d.transmit p dst flags op tag status pl fin).xpt = d.xpt := Dev.report_xpt ..
@[simp] theorem Dev.transmit_ing (d : Dev) (p dst flags op tag status : Nat) (pl : List Byte) (fin : Bool) : (d.transmit p dst flags op tag status pl fin).ing = d.ing := Dev.report_ing ..
@[simp] theorem Dev.transmit_mv (d : Dev) (p dst flags op tag status : Nat) (pl : List Byte) (fin : Bool) : (d.transmit p dst flags op tag status pl fin).mv = d.mv := Dev.report_mv ..
@[simp] theorem Dev.transmit_apt (d : Dev) (p dst flags op tag status : Nat) (pl : List Byte) (fin : Bool) : (d.transmit p dst flags op tag status pl fin).apt = d.apt := Dev.report_apt ..
@[simp] theorem Dev.transmit_amx (d : Dev) (p dst flags op tag status : Nat) (pl : List Byte) (fin : Bool) : (d.transmit p dst flags op tag status pl fin).amx = d.amx := Dev.report_amx ..
@[simp] theorem Dev.transmit_reed (d : Dev) (p dst flags op tag status : Nat) (pl : List Byte) (fin : Bool) : (d.transmit p dst flags op tag status pl fin).reed = d.reed := Dev.report_reed ..
@[simp] theorem Dev.transmit_latches (d : Dev) (p dst flags op tag status : Nat) (pl : List Byte) (fin : Bool) : (d.transmit p dst flags op tag status pl fin).latches = d.latches := Dev.report_latches ..
@[simp] theorem Dev.transmit_refHist (d : Dev) (p dst flags op tag status : Nat) (pl : List Byte) (fin : Bool) : (d.transmit p dst flags op tag status pl fin).refHist = d.refHist := Dev.report_refHist ..
@[simp] theorem Dev.transmit_mac (d : Dev) (p dst flags op tag status : Nat) (pl : List Byte) (fin : Bool) : (d.transmit p dst flags op tag status pl fin).mac = d.mac := Dev.report_mac ..
@[simp] theorem Dev.transmit_txq (d : Dev) (p dst flags op tag status : Nat) (pl : List Byte) (fin : Bool) : (d.transmit p dst flags op tag status pl fin).txq = d.txq := Dev.report_txq ..
@[simp] theorem Dev.transmit_ipm (d : Dev) (p dst flags op tag status : Nat) (pl : List Byte) (fin : Bool) : (d.transmit p dst flags op tag status pl fin).ipm = d.ipm := Dev.report_ipm ..
@[simp] theorem Dev.transmit_ptp (d : Dev) (p dst flags op tag status : Nat) (pl : List Byte) (fin : Bool) : (d.transmit p dst flags op tag status pl fin).ptp = d.ptp := Dev.report_ptp ..
@[simp] theorem Dev.transmit_fen (d : Dev) (p dst flags op tag status : Nat) (pl : List Byte) (fin : Bool) : (d.transmit p dst flags op tag status pl fin).fen = d.fen := Dev.report_fen ..
@[simp] theorem Dev.transmit_bist (d : Dev) (p dst flags op tag status : Nat) (pl : List Byte) (fin : Bool) : (d.transmit p dst flags op tag status pl fin).bist = d.bist := Dev.report_bist ..
@[simp] theorem Dev.transmit_tap (d : Dev) (p dst flags op tag status : Nat) (pl : List Byte) (fin : Bool) : (d.transmit p dst flags op tag status pl fin).tap = d.tap := Dev.report_tap ..
@[simp] theorem Dev.transmit_health (d : Dev) (p dst flags op tag status : Nat) (pl : List Byte) (fin : Bool) : (d.transmit p dst flags op tag status pl fin).health = d.health := Dev.report_health ..
@[simp] theorem Dev.transmit_sram (d : Dev) (p dst flags op tag status : Nat) (pl : List Byte) (fin : Bool) : (d.transmit p dst flags op tag status pl fin).sram = d.sram := Dev.report_sram ..
@[simp] theorem Dev.transmit_scratch (d : Dev) (p dst flags op tag status : Nat) (pl : List Byte) (fin : Bool) : (d.transmit p dst flags op tag status pl fin).scratch = d.scratch := Dev.report_scratch ..
@[simp] theorem Dev.transmit_staging (d : Dev) (p dst flags op tag status : Nat) (pl : List Byte) (fin : Bool) : (d.transmit p dst flags op tag status pl fin).staging = d.staging := Dev.report_staging ..
@[simp] theorem Dev.transmit_pushed (d : Dev) (p dst flags op tag status : Nat) (pl : List Byte) (fin : Bool) : (d.transmit p dst flags op tag status pl fin).pushed = d.pushed := Dev.report_pushed ..
@[simp] theorem Dev.transmit_image (d : Dev) (p dst flags op tag status : Nat) (pl : List Byte) (fin : Bool) : (d.transmit p dst flags op tag status pl fin).image = d.image := Dev.report_image ..
@[simp] theorem Dev.transmit_bursts (d : Dev) (p dst flags op tag status : Nat) (pl : List Byte) (fin : Bool) : (d.transmit p dst flags op tag status pl fin).bursts = d.bursts := Dev.report_bursts ..

/-! ### sendAll -/

@[simp] theorem Dev.sendAll_reg (d : Dev) (p dst op tag status : Nat) (fin : Bool) (pls : List (List Byte)) : (d.sendAll p dst op tag status fin pls).reg = d.reg := by
  induction pls generalizing d with
  | nil => rfl
  | cons a l ih => cases l with
    | nil => rfl
    | cons b l => rw [show d.sendAll p dst op tag status fin (a :: b :: l) =
        (d.transmit p dst 1 op tag status a false).sendAll p dst op tag status fin (b :: l) from rfl, ih]; rfl
@[simp] theorem Dev.sendAll_shadow (d : Dev) (p dst op tag status : Nat) (fin : Bool) (pls : List (List Byte)) : (d.sendAll p dst op tag status fin pls).shadow = d.shadow := by
  induction pls generalizing d with
  | nil => rfl
  | cons a l ih => cases l with
    | nil => rfl
    | cons b l => rw [show d.sendAll p dst op tag status fin (a :: b :: l) =
        (d.transmit p dst 1 op tag status a false).sendAll p dst op tag status fin (b :: l) from rfl, ih]; rfl
@[simp] theorem Dev.sendAll_ctr (d : Dev) (p dst op tag status : Nat) (fin : Bool) (pls : List (List Byte)) : (d.sendAll p dst op tag status fin pls).ctr = d.ctr := by
  induction pls generalizing d with
  | nil => rfl
  | cons a l ih => cases l with
    | nil => rfl
    | cons b l => rw [show d.sendAll p dst op tag status fin (a :: b :: l) =
        (d.transmit p dst 1 op tag status a false).sendAll p dst op tag status fin (b :: l) from rfl, ih]; rfl
@[simp] theorem Dev.sendAll_hid (d : Dev) (p dst op tag status : Nat) (fin : Bool) (pls : List (List Byte)) : (d.sendAll p dst op tag status fin pls).hid = d.hid := by
  induction pls generalizing d with
  | nil => rfl
  | cons a l ih => cases l with
    | nil => rfl
    | cons b l => rw [show d.sendAll p dst op tag status fin (a :: b :: l) =
        (d.transmit p dst 1 op tag status a false).sendAll p dst op tag status fin (b :: l) from rfl, ih]; rfl
@[simp] theorem Dev.sendAll_clock (d : Dev) (p dst op tag status : Nat) (fin : Bool) (pls : List (List Byte)) : (d.sendAll p dst op tag status fin pls).clock = d.clock := by
  induction pls generalizing d with
  | nil => rfl
  | cons a l ih => cases l with
    | nil => rfl
    | cons b l => rw [show d.sendAll p dst op tag status fin (a :: b :: l) =
        (d.transmit p dst 1 op tag status a false).sendAll p dst op tag status fin (b :: l) from rfl, ih]; rfl
@[simp] theorem Dev.sendAll_tick (d : Dev) (p dst op tag status : Nat) (fin : Bool) (pls : List (List Byte)) : (d.sendAll p dst op tag status fin pls).tick = d.tick := by
  induction pls generalizing d with
  | nil => rfl
  | cons a l ih => cases l with
    | nil => rfl
    | cons b l => rw [show d.sendAll p dst op tag status fin (a :: b :: l) =
        (d.transmit p dst 1 op tag status a false).sendAll p dst op tag status fin (b :: l) from rfl, ih]; rfl
@[simp] theorem Dev.sendAll_free (d : Dev) (p dst op tag status : Nat) (fin : Bool) (pls : List (List Byte)) : (d.sendAll p dst op tag status fin pls).free = d.free := by
  induction pls generalizing d with
  | nil => rfl
  | cons a l ih => cases l with
    | nil => rfl
    | cons b l => rw [show d.sendAll p dst op tag status fin (a :: b :: l) =
        (d.transmit p dst 1 op tag status a false).sendAll p dst op tag status fin (b :: l) from rfl, ih]; rfl
@[simp] theorem Dev.sendAll_csw (d : Dev) (p dst op tag status : Nat) (fin : Bool) (pls : List (List Byte)) : (d.sendAll p dst op tag status fin pls).csw = d.csw := by
  induction pls generalizing d with
  | nil => rfl
  | cons a l ih => cases l with
    | nil => rfl
    | cons b l => rw [show d.sendAll p dst op tag status fin (a :: b :: l) =
        (d.transmit p dst 1 op tag status a false).sendAll p dst op tag status fin (b :: l) from rfl, ih]; rfl
@[simp] theorem Dev.sendAll_xpt (d : Dev) (p dst op tag status : Nat) (fin : Bool) (pls : List (List Byte)) : (d.sendAll p dst op tag status fin pls).xpt = d.xpt := by
  induction pls generalizing d with
  | nil => rfl
  | cons a l ih => cases l with
    | nil => rfl
    | cons b l => rw [show d.sendAll p dst op tag status fin (a :: b :: l) =
        (d.transmit p dst 1 op tag status a false).sendAll p dst op tag status fin (b :: l) from rfl, ih]; rfl
@[simp] theorem Dev.sendAll_ing (d : Dev) (p dst op tag status : Nat) (fin : Bool) (pls : List (List Byte)) : (d.sendAll p dst op tag status fin pls).ing = d.ing := by
  induction pls generalizing d with
  | nil => rfl
  | cons a l ih => cases l with
    | nil => rfl
    | cons b l => rw [show d.sendAll p dst op tag status fin (a :: b :: l) =
        (d.transmit p dst 1 op tag status a false).sendAll p dst op tag status fin (b :: l) from rfl, ih]; rfl
@[simp] theorem Dev.sendAll_mv (d : Dev) (p dst op tag status : Nat) (fin : Bool) (pls : List (List Byte)) : (d.sendAll p dst op tag status fin pls).mv = d.mv := by
  induction pls generalizing d with
  | nil => rfl
  | cons a l ih => cases l with
    | nil => rfl
    | cons b l => rw [show d.sendAll p dst op tag status fin (a :: b :: l) =
        (d.transmit p dst 1 op tag status a false).sendAll p dst op tag status fin (b :: l) from rfl, ih]; rfl
@[simp] theorem Dev.sendAll_apt (d : Dev) (p dst op tag status : Nat) (fin : Bool) (pls : List (List Byte)) : (d.sendAll p dst op tag status fin pls).apt = d.apt := by
  induction pls generalizing d with
  | nil => rfl
  | cons a l ih => cases l with
    | nil => rfl
    | cons b l => rw [show d.sendAll p dst op tag status fin (a :: b :: l) =
        (d.transmit p dst 1 op tag status a false).sendAll p dst op tag status fin (b :: l) from rfl, ih]; rfl
@[simp] theorem Dev.sendAll_amx (d : Dev) (p dst op tag status : Nat) (fin : Bool) (pls : List (List Byte)) : (d.sendAll p dst op tag status fin pls).amx = d.amx := by
  induction pls generalizing d with
  | nil => rfl
  | cons a l ih => cases l with
    | nil => rfl
    | cons b l => rw [show d.sendAll p dst op tag status fin (a :: b :: l) =
        (d.transmit p dst 1 op tag status a false).sendAll p dst op tag status fin (b :: l) from rfl, ih]; rfl
@[simp] theorem Dev.sendAll_reed (d : Dev) (p dst op tag status : Nat) (fin : Bool) (pls : List (List Byte)) : (d.sendAll p dst op tag status fin pls).reed = d.reed := by
  induction pls generalizing d with
  | nil => rfl
  | cons a l ih => cases l with
    | nil => rfl
    | cons b l => rw [show d.sendAll p dst op tag status fin (a :: b :: l) =
        (d.transmit p dst 1 op tag status a false).sendAll p dst op tag status fin (b :: l) from rfl, ih]; rfl
@[simp] theorem Dev.sendAll_latches (d : Dev) (p dst op tag status : Nat) (fin : Bool) (pls : List (List Byte)) : (d.sendAll p dst op tag status fin pls).latches = d.latches := by
  induction pls generalizing d with
  | nil => rfl
  | cons a l ih => cases l with
    | nil => rfl
    | cons b l => rw [show d.sendAll p dst op tag status fin (a :: b :: l) =
        (d.transmit p dst 1 op tag status a false).sendAll p dst op tag status fin (b :: l) from rfl, ih]; rfl
@[simp] theorem Dev.sendAll_refHist (d : Dev) (p dst op tag status : Nat) (fin : Bool) (pls : List (List Byte)) : (d.sendAll p dst op tag status fin pls).refHist = d.refHist := by
  induction pls generalizing d with
  | nil => rfl
  | cons a l ih => cases l with
    | nil => rfl
    | cons b l => rw [show d.sendAll p dst op tag status fin (a :: b :: l) =
        (d.transmit p dst 1 op tag status a false).sendAll p dst op tag status fin (b :: l) from rfl, ih]; rfl
@[simp] theorem Dev.sendAll_mac (d : Dev) (p dst op tag status : Nat) (fin : Bool) (pls : List (List Byte)) : (d.sendAll p dst op tag status fin pls).mac = d.mac := by
  induction pls generalizing d with
  | nil => rfl
  | cons a l ih => cases l with
    | nil => rfl
    | cons b l => rw [show d.sendAll p dst op tag status fin (a :: b :: l) =
        (d.transmit p dst 1 op tag status a false).sendAll p dst op tag status fin (b :: l) from rfl, ih]; rfl
@[simp] theorem Dev.sendAll_txq (d : Dev) (p dst op tag status : Nat) (fin : Bool) (pls : List (List Byte)) : (d.sendAll p dst op tag status fin pls).txq = d.txq := by
  induction pls generalizing d with
  | nil => rfl
  | cons a l ih => cases l with
    | nil => rfl
    | cons b l => rw [show d.sendAll p dst op tag status fin (a :: b :: l) =
        (d.transmit p dst 1 op tag status a false).sendAll p dst op tag status fin (b :: l) from rfl, ih]; rfl
@[simp] theorem Dev.sendAll_ipm (d : Dev) (p dst op tag status : Nat) (fin : Bool) (pls : List (List Byte)) : (d.sendAll p dst op tag status fin pls).ipm = d.ipm := by
  induction pls generalizing d with
  | nil => rfl
  | cons a l ih => cases l with
    | nil => rfl
    | cons b l => rw [show d.sendAll p dst op tag status fin (a :: b :: l) =
        (d.transmit p dst 1 op tag status a false).sendAll p dst op tag status fin (b :: l) from rfl, ih]; rfl
@[simp] theorem Dev.sendAll_ptp (d : Dev) (p dst op tag status : Nat) (fin : Bool) (pls : List (List Byte)) : (d.sendAll p dst op tag status fin pls).ptp = d.ptp := by
  induction pls generalizing d with
  | nil => rfl
  | cons a l ih => cases l with
    | nil => rfl
    | cons b l => rw [show d.sendAll p dst op tag status fin (a :: b :: l) =
        (d.transmit p dst 1 op tag status a false).sendAll p dst op tag status fin (b :: l) from rfl, ih]; rfl
@[simp] theorem Dev.sendAll_fen (d : Dev) (p dst op tag status : Nat) (fin : Bool) (pls : List (List Byte)) : (d.sendAll p dst op tag status fin pls).fen = d.fen := by
  induction pls generalizing d with
  | nil => rfl
  | cons a l ih => cases l with
    | nil => rfl
    | cons b l => rw [show d.sendAll p dst op tag status fin (a :: b :: l) =
        (d.transmit p dst 1 op tag status a false).sendAll p dst op tag status fin (b :: l) from rfl, ih]; rfl
@[simp] theorem Dev.sendAll_bist (d : Dev) (p dst op tag status : Nat) (fin : Bool) (pls : List (List Byte)) : (d.sendAll p dst op tag status fin pls).bist = d.bist := by
  induction pls generalizing d with
  | nil => rfl
  | cons a l ih => cases l with
    | nil => rfl
    | cons b l => rw [show d.sendAll p dst op tag status fin (a :: b :: l) =
        (d.transmit p dst 1 op tag status a false).sendAll p dst op tag status fin (b :: l) from rfl, ih]; rfl
@[simp] theorem Dev.sendAll_tap (d : Dev) (p dst op tag status : Nat) (fin : Bool) (pls : List (List Byte)) : (d.sendAll p dst op tag status fin pls).tap = d.tap := by
  induction pls generalizing d with
  | nil => rfl
  | cons a l ih => cases l with
    | nil => rfl
    | cons b l => rw [show d.sendAll p dst op tag status fin (a :: b :: l) =
        (d.transmit p dst 1 op tag status a false).sendAll p dst op tag status fin (b :: l) from rfl, ih]; rfl
@[simp] theorem Dev.sendAll_health (d : Dev) (p dst op tag status : Nat) (fin : Bool) (pls : List (List Byte)) : (d.sendAll p dst op tag status fin pls).health = d.health := by
  induction pls generalizing d with
  | nil => rfl
  | cons a l ih => cases l with
    | nil => rfl
    | cons b l => rw [show d.sendAll p dst op tag status fin (a :: b :: l) =
        (d.transmit p dst 1 op tag status a false).sendAll p dst op tag status fin (b :: l) from rfl, ih]; rfl
@[simp] theorem Dev.sendAll_sram (d : Dev) (p dst op tag status : Nat) (fin : Bool) (pls : List (List Byte)) : (d.sendAll p dst op tag status fin pls).sram = d.sram := by
  induction pls generalizing d with
  | nil => rfl
  | cons a l ih => cases l with
    | nil => rfl
    | cons b l => rw [show d.sendAll p dst op tag status fin (a :: b :: l) =
        (d.transmit p dst 1 op tag status a false).sendAll p dst op tag status fin (b :: l) from rfl, ih]; rfl
@[simp] theorem Dev.sendAll_scratch (d : Dev) (p dst op tag status : Nat) (fin : Bool) (pls : List (List Byte)) : (d.sendAll p dst op tag status fin pls).scratch = d.scratch := by
  induction pls generalizing d with
  | nil => rfl
  | cons a l ih => cases l with
    | nil => rfl
    | cons b l => rw [show d.sendAll p dst op tag status fin (a :: b :: l) =
        (d.transmit p dst 1 op tag status a false).sendAll p dst op tag status fin (b :: l) from rfl, ih]; rfl
@[simp] theorem Dev.sendAll_staging (d : Dev) (p dst op tag status : Nat) (fin : Bool) (pls : List (List Byte)) : (d.sendAll p dst op tag status fin pls).staging = d.staging := by
  induction pls generalizing d with
  | nil => rfl
  | cons a l ih => cases l with
    | nil => rfl
    | cons b l => rw [show d.sendAll p dst op tag status fin (a :: b :: l) =
        (d.transmit p dst 1 op tag status a false).sendAll p dst op tag status fin (b :: l) from rfl, ih]; rfl
@[simp] theorem Dev.sendAll_pushed (d : Dev) (p dst op tag status : Nat) (fin : Bool) (pls : List (List Byte)) : (d.sendAll p dst op tag status fin pls).pushed = d.pushed := by
  induction pls generalizing d with
  | nil => rfl
  | cons a l ih => cases l with
    | nil => rfl
    | cons b l => rw [show d.sendAll p dst op tag status fin (a :: b :: l) =
        (d.transmit p dst 1 op tag status a false).sendAll p dst op tag status fin (b :: l) from rfl, ih]; rfl
@[simp] theorem Dev.sendAll_image (d : Dev) (p dst op tag status : Nat) (fin : Bool) (pls : List (List Byte)) : (d.sendAll p dst op tag status fin pls).image = d.image := by
  induction pls generalizing d with
  | nil => rfl
  | cons a l ih => cases l with
    | nil => rfl
    | cons b l => rw [show d.sendAll p dst op tag status fin (a :: b :: l) =
        (d.transmit p dst 1 op tag status a false).sendAll p dst op tag status fin (b :: l) from rfl, ih]; rfl
@[simp] theorem Dev.sendAll_bursts (d : Dev) (p dst op tag status : Nat) (fin : Bool) (pls : List (List Byte)) : (d.sendAll p dst op tag status fin pls).bursts = d.bursts := by
  induction pls generalizing d with
  | nil => rfl
  | cons a l ih => cases l with
    | nil => rfl
    | cons b l => rw [show d.sendAll p dst op tag status fin (a :: b :: l) =
        (d.transmit p dst 1 op tag status a false).sendAll p dst op tag status fin (b :: l) from rfl, ih]; rfl

/-! ### respond -/

@[simp] theorem Dev.respond_reg (d : Dev) (p src tag op status : Nat) (ts : List Tlv) (fin : Bool) : (d.respond p src tag op status ts fin).reg = d.reg := by unfold Dev.respond; split <;> rfl
@[simp] theorem Dev.respond_shadow (d : Dev) (p src tag op status : Nat) (ts : List Tlv) (fin : Bool) : (d.respond p src tag op status ts fin).shadow = d.shadow := by unfold Dev.respond; split <;> rfl
@[simp] theorem Dev.respond_ctr (d : Dev) (p src tag op status : Nat) (ts : List Tlv) (fin : Bool) : (d.respond p src tag op status ts fin).ctr = d.ctr := by unfold Dev.respond; split <;> rfl
@[simp] theorem Dev.respond_hid (d : Dev) (p src tag op status : Nat) (ts : List Tlv) (fin : Bool) : (d.respond p src tag op status ts fin).hid = d.hid := by unfold Dev.respond; split <;> rfl
@[simp] theorem Dev.respond_clock (d : Dev) (p src tag op status : Nat) (ts : List Tlv) (fin : Bool) : (d.respond p src tag op status ts fin).clock = d.clock := by unfold Dev.respond; split <;> rfl
@[simp] theorem Dev.respond_tick (d : Dev) (p src tag op status : Nat) (ts : List Tlv) (fin : Bool) : (d.respond p src tag op status ts fin).tick = d.tick := by unfold Dev.respond; split <;> rfl
@[simp] theorem Dev.respond_free (d : Dev) (p src tag op status : Nat) (ts : List Tlv) (fin : Bool) : (d.respond p src tag op status ts fin).free = d.free := by unfold Dev.respond; split <;> rfl
@[simp] theorem Dev.respond_csw (d : Dev) (p src tag op status : Nat) (ts : List Tlv) (fin : Bool) : (d.respond p src tag op status ts fin).csw = d.csw := by unfold Dev.respond; split <;> rfl
@[simp] theorem Dev.respond_xpt (d : Dev) (p src tag op status : Nat) (ts : List Tlv) (fin : Bool) : (d.respond p src tag op status ts fin).xpt = d.xpt := by unfold Dev.respond; split <;> rfl
@[simp] theorem Dev.respond_ing (d : Dev) (p src tag op status : Nat) (ts : List Tlv) (fin : Bool) : (d.respond p src tag op status ts fin).ing = d.ing := by unfold Dev.respond; split <;> rfl
@[simp] theorem Dev.respond_mv (d : Dev) (p src tag op status : Nat) (ts : List Tlv) (fin : Bool) : (d.respond p src tag op status ts fin).mv = d.mv := by unfold Dev.respond; split <;> rfl
@[simp] theorem Dev.respond_apt (d : Dev) (p src tag op status : Nat) (ts : List Tlv) (fin : Bool) : (d.respond p src tag op status ts fin).apt = d.apt := by unfold Dev.respond; split <;> rfl
@[simp] theorem Dev.respond_amx (d : Dev) (p src tag op status : Nat) (ts : List Tlv) (fin : Bool) : (d.respond p src tag op status ts fin).amx = d.amx := by unfold Dev.respond; split <;> rfl
@[simp] theorem Dev.respond_reed (d : Dev) (p src tag op status : Nat) (ts : List Tlv) (fin : Bool) : (d.respond p src tag op status ts fin).reed = d.reed := by unfold Dev.respond; split <;> rfl
@[simp] theorem Dev.respond_latches (d : Dev) (p src tag op status : Nat) (ts : List Tlv) (fin : Bool) : (d.respond p src tag op status ts fin).latches = d.latches := by unfold Dev.respond; split <;> rfl
@[simp] theorem Dev.respond_refHist (d : Dev) (p src tag op status : Nat) (ts : List Tlv) (fin : Bool) : (d.respond p src tag op status ts fin).refHist = d.refHist := by unfold Dev.respond; split <;> rfl
@[simp] theorem Dev.respond_mac (d : Dev) (p src tag op status : Nat) (ts : List Tlv) (fin : Bool) : (d.respond p src tag op status ts fin).mac = d.mac := by unfold Dev.respond; split <;> rfl
@[simp] theorem Dev.respond_txq (d : Dev) (p src tag op status : Nat) (ts : List Tlv) (fin : Bool) : (d.respond p src tag op status ts fin).txq = d.txq := by unfold Dev.respond; split <;> rfl
@[simp] theorem Dev.respond_ipm (d : Dev) (p src tag op status : Nat) (ts : List Tlv) (fin : Bool) : (d.respond p src tag op status ts fin).ipm = d.ipm := by unfold Dev.respond; split <;> rfl
@[simp] theorem Dev.respond_ptp (d : Dev) (p src tag op status : Nat) (ts : List Tlv) (fin : Bool) : (d.respond p src tag op status ts fin).ptp = d.ptp := by unfold Dev.respond; split <;> rfl
@[simp] theorem Dev.respond_fen (d : Dev) (p src tag op status : Nat) (ts : List Tlv) (fin : Bool) : (d.respond p src tag op status ts fin).fen = d.fen := by unfold Dev.respond; split <;> rfl
@[simp] theorem Dev.respond_bist (d : Dev) (p src tag op status : Nat) (ts : List Tlv) (fin : Bool) : (d.respond p src tag op status ts fin).bist = d.bist := by unfold Dev.respond; split <;> rfl
@[simp] theorem Dev.respond_tap (d : Dev) (p src tag op status : Nat) (ts : List Tlv) (fin : Bool) : (d.respond p src tag op status ts fin).tap = d.tap := by unfold Dev.respond; split <;> rfl
@[simp] theorem Dev.respond_health (d : Dev) (p src tag op status : Nat) (ts : List Tlv) (fin : Bool) : (d.respond p src tag op status ts fin).health = d.health := by unfold Dev.respond; split <;> rfl
@[simp] theorem Dev.respond_sram (d : Dev) (p src tag op status : Nat) (ts : List Tlv) (fin : Bool) : (d.respond p src tag op status ts fin).sram = d.sram := by unfold Dev.respond; split <;> rfl
@[simp] theorem Dev.respond_scratch (d : Dev) (p src tag op status : Nat) (ts : List Tlv) (fin : Bool) : (d.respond p src tag op status ts fin).scratch = d.scratch := by unfold Dev.respond; split <;> rfl
@[simp] theorem Dev.respond_staging (d : Dev) (p src tag op status : Nat) (ts : List Tlv) (fin : Bool) : (d.respond p src tag op status ts fin).staging = d.staging := by unfold Dev.respond; split <;> rfl
@[simp] theorem Dev.respond_pushed (d : Dev) (p src tag op status : Nat) (ts : List Tlv) (fin : Bool) : (d.respond p src tag op status ts fin).pushed = d.pushed := by unfold Dev.respond; split <;> rfl
@[simp] theorem Dev.respond_image (d : Dev) (p src tag op status : Nat) (ts : List Tlv) (fin : Bool) : (d.respond p src tag op status ts fin).image = d.image := by unfold Dev.respond; split <;> rfl
@[simp] theorem Dev.respond_bursts (d : Dev) (p src tag op status : Nat) (ts : List Tlv) (fin : Bool) : (d.respond p src tag op status ts fin).bursts = d.bursts := by unfold Dev.respond; split <;> rfl

/-! ### reply -/

@[simp] theorem Dev.reply_reg (d : Dev) (q : Req) (op status : Nat) (ts : List Tlv) : (d.reply q op status ts).reg = d.reg := by unfold Dev.reply; simp
@[simp] theorem Dev.reply_shadow (d : Dev) (q : Req) (op status : Nat) (ts : List Tlv) : (d.reply q op status ts).shadow = d.shadow := by unfold Dev.reply; simp
@[simp] theorem Dev.reply_ctr (d : Dev) (q : Req) (op status : Nat) (ts : List Tlv) : (d.reply q op status ts).ctr = d.ctr := by unfold Dev.reply; simp
@[simp] theorem Dev.reply_hid (d : Dev) (q : Req) (op status : Nat) (ts : List Tlv) : (d.reply q op status ts).hid = d.hid := by unfold Dev.reply; simp
@[simp] theorem Dev.reply_clock (d : Dev) (q : Req) (op status : Nat) (ts : List Tlv) : (d.reply q op status ts).clock = d.clock := by unfold Dev.reply; simp
@[simp] theorem Dev.reply_tick (d : Dev) (q : Req) (op status : Nat) (ts : List Tlv) : (d.reply q op status ts).tick = d.tick := by unfold Dev.reply; simp
@[simp] theorem Dev.reply_free (d : Dev) (q : Req) (op status : Nat) (ts : List Tlv) : (d.reply q op status ts).free = d.free := by unfold Dev.reply; simp
@[simp] theorem Dev.reply_csw (d : Dev) (q : Req) (op status : Nat) (ts : List Tlv) : (d.reply q op status ts).csw = d.csw := by unfold Dev.reply; simp
@[simp] theorem Dev.reply_xpt (d : Dev) (q : Req) (op status : Nat) (ts : List Tlv) : (d.reply q op status ts).xpt = d.xpt := by unfold Dev.reply; simp
@[simp] theorem Dev.reply_ing (d : Dev) (q : Req) (op status : Nat) (ts : List Tlv) : (d.reply q op status ts).ing = d.ing := by unfold Dev.reply; simp
@[simp] theorem Dev.reply_mv (d : Dev) (q : Req) (op status : Nat) (ts : List Tlv) : (d.reply q op status ts).mv = d.mv := by unfold Dev.reply; simp
@[simp] theorem Dev.reply_apt (d : Dev) (q : Req) (op status : Nat) (ts : List Tlv) : (d.reply q op status ts).apt = d.apt := by unfold Dev.reply; simp
@[simp] theorem Dev.reply_amx (d : Dev) (q : Req) (op status : Nat) (ts : List Tlv) : (d.reply q op status ts).amx = d.amx := by unfold Dev.reply; simp
@[simp] theorem Dev.reply_reed (d : Dev) (q : Req) (op status : Nat) (ts : List Tlv) : (d.reply q op status ts).reed = d.reed := by unfold Dev.reply; simp
@[simp] theorem Dev.reply_latches (d : Dev) (q : Req) (op status : Nat) (ts : List Tlv) : (d.reply q op status ts).latches = d.latches := by unfold Dev.reply; simp
@[simp] theorem Dev.reply_refHist (d : Dev) (q : Req) (op status : Nat) (ts : List Tlv) : (d.reply q op status ts).refHist = d.refHist := by unfold Dev.reply; simp
@[simp] theorem Dev.reply_mac (d : Dev) (q : Req) (op status : Nat) (ts : List Tlv) : (d.reply q op status ts).mac = d.mac := by unfold Dev.reply; simp
@[simp] theorem Dev.reply_txq (d : Dev) (q : Req) (op status : Nat) (ts : List Tlv) : (d.reply q op status ts).txq = d.txq := by unfold Dev.reply; simp
@[simp] theorem Dev.reply_ipm (d : Dev) (q : Req) (op status : Nat) (ts : List Tlv) : (d.reply q op status ts).ipm = d.ipm := by unfold Dev.reply; simp
@[simp] theorem Dev.reply_ptp (d : Dev) (q : Req) (op status : Nat) (ts : List Tlv) : (d.reply q op status ts).ptp = d.ptp := by unfold Dev.reply; simp
@[simp] theorem Dev.reply_fen (d : Dev) (q : Req) (op status : Nat) (ts : List Tlv) : (d.reply q op status ts).fen = d.fen := by unfold Dev.reply; simp
@[simp] theorem Dev.reply_bist (d : Dev) (q : Req) (op status : Nat) (ts : List Tlv) : (d.reply q op status ts).bist = d.bist := by unfold Dev.reply; simp
@[simp] theorem Dev.reply_tap (d : Dev) (q : Req) (op status : Nat) (ts : List Tlv) : (d.reply q op status ts).tap = d.tap := by unfold Dev.reply; simp
@[simp] theorem Dev.reply_health (d : Dev) (q : Req) (op status : Nat) (ts : List Tlv) : (d.reply q op status ts).health = d.health := by unfold Dev.reply; simp
@[simp] theorem Dev.reply_sram (d : Dev) (q : Req) (op status : Nat) (ts : List Tlv) : (d.reply q op status ts).sram = d.sram := by unfold Dev.reply; simp
@[simp] theorem Dev.reply_scratch (d : Dev) (q : Req) (op status : Nat) (ts : List Tlv) : (d.reply q op status ts).scratch = d.scratch := by unfold Dev.reply; simp
@[simp] theorem Dev.reply_staging (d : Dev) (q : Req) (op status : Nat) (ts : List Tlv) : (d.reply q op status ts).staging = d.staging := by unfold Dev.reply; simp
@[simp] theorem Dev.reply_pushed (d : Dev) (q : Req) (op status : Nat) (ts : List Tlv) : (d.reply q op status ts).pushed = d.pushed := by unfold Dev.reply; simp
@[simp] theorem Dev.reply_image (d : Dev) (q : Req) (op status : Nat) (ts : List Tlv) : (d.reply q op status ts).image = d.image := by unfold Dev.reply; simp
@[simp] theorem Dev.reply_bursts (d : Dev) (q : Req) (op status : Nat) (ts : List Tlv) : (d.reply q op status ts).bursts = d.bursts := by unfold Dev.reply; simp

/-! ### turnAway -/

@[simp] theorem Dev.turnAway_reg (d : Dev) (q : Req) (op status : Nat) (ts : List Tlv) : (d.turnAway q op status ts).reg = d.reg := Dev.report_reg ..
@[simp] theorem Dev.turnAway_shadow (d : Dev) (q : Req) (op status : Nat) (ts : List Tlv) : (d.turnAway q op status ts).shadow = d.shadow := Dev.report_shadow ..
@[simp] theorem Dev.turnAway_ctr (d : Dev) (q : Req) (op status : Nat) (ts : List Tlv) : (d.turnAway q op status ts).ctr = d.ctr := Dev.report_ctr ..
@[simp] theorem Dev.turnAway_hid (d : Dev) (q : Req) (op status : Nat) (ts : List Tlv) : (d.turnAway q op status ts).hid = d.hid := Dev.report_hid ..
@[simp] theorem Dev.turnAway_clock (d : Dev) (q : Req) (op status : Nat) (ts : List Tlv) : (d.turnAway q op status ts).clock = d.clock := Dev.report_clock ..
@[simp] theorem Dev.turnAway_tick (d : Dev) (q : Req) (op status : Nat) (ts : List Tlv) : (d.turnAway q op status ts).tick = d.tick := Dev.report_tick ..
@[simp] theorem Dev.turnAway_free (d : Dev) (q : Req) (op status : Nat) (ts : List Tlv) : (d.turnAway q op status ts).free = d.free := Dev.report_free ..
@[simp] theorem Dev.turnAway_csw (d : Dev) (q : Req) (op status : Nat) (ts : List Tlv) : (d.turnAway q op status ts).csw = d.csw := Dev.report_csw ..
@[simp] theorem Dev.turnAway_xpt (d : Dev) (q : Req) (op status : Nat) (ts : List Tlv) : (d.turnAway q op status ts).xpt = d.xpt := Dev.report_xpt ..
@[simp] theorem Dev.turnAway_ing (d : Dev) (q : Req) (op status : Nat) (ts : List Tlv) : (d.turnAway q op status ts).ing = d.ing := Dev.report_ing ..
@[simp] theorem Dev.turnAway_mv (d : Dev) (q : Req) (op status : Nat) (ts : List Tlv) : (d.turnAway q op status ts).mv = d.mv := Dev.report_mv ..
@[simp] theorem Dev.turnAway_apt (d : Dev) (q : Req) (op status : Nat) (ts : List Tlv) : (d.turnAway q op status ts).apt = d.apt := Dev.report_apt ..
@[simp] theorem Dev.turnAway_amx (d : Dev) (q : Req) (op status : Nat) (ts : List Tlv) : (d.turnAway q op status ts).amx = d.amx := Dev.report_amx ..
@[simp] theorem Dev.turnAway_reed (d : Dev) (q : Req) (op status : Nat) (ts : List Tlv) : (d.turnAway q op status ts).reed = d.reed := Dev.report_reed ..
@[simp] theorem Dev.turnAway_latches (d : Dev) (q : Req) (op status : Nat) (ts : List Tlv) : (d.turnAway q op status ts).latches = d.latches := Dev.report_latches ..
@[simp] theorem Dev.turnAway_refHist (d : Dev) (q : Req) (op status : Nat) (ts : List Tlv) : (d.turnAway q op status ts).refHist = d.refHist := Dev.report_refHist ..
@[simp] theorem Dev.turnAway_mac (d : Dev) (q : Req) (op status : Nat) (ts : List Tlv) : (d.turnAway q op status ts).mac = d.mac := Dev.report_mac ..
@[simp] theorem Dev.turnAway_txq (d : Dev) (q : Req) (op status : Nat) (ts : List Tlv) : (d.turnAway q op status ts).txq = d.txq := Dev.report_txq ..
@[simp] theorem Dev.turnAway_ipm (d : Dev) (q : Req) (op status : Nat) (ts : List Tlv) : (d.turnAway q op status ts).ipm = d.ipm := Dev.report_ipm ..
@[simp] theorem Dev.turnAway_ptp (d : Dev) (q : Req) (op status : Nat) (ts : List Tlv) : (d.turnAway q op status ts).ptp = d.ptp := Dev.report_ptp ..
@[simp] theorem Dev.turnAway_fen (d : Dev) (q : Req) (op status : Nat) (ts : List Tlv) : (d.turnAway q op status ts).fen = d.fen := Dev.report_fen ..
@[simp] theorem Dev.turnAway_bist (d : Dev) (q : Req) (op status : Nat) (ts : List Tlv) : (d.turnAway q op status ts).bist = d.bist := Dev.report_bist ..
@[simp] theorem Dev.turnAway_tap (d : Dev) (q : Req) (op status : Nat) (ts : List Tlv) : (d.turnAway q op status ts).tap = d.tap := Dev.report_tap ..
@[simp] theorem Dev.turnAway_health (d : Dev) (q : Req) (op status : Nat) (ts : List Tlv) : (d.turnAway q op status ts).health = d.health := Dev.report_health ..
@[simp] theorem Dev.turnAway_sram (d : Dev) (q : Req) (op status : Nat) (ts : List Tlv) : (d.turnAway q op status ts).sram = d.sram := Dev.report_sram ..
@[simp] theorem Dev.turnAway_scratch (d : Dev) (q : Req) (op status : Nat) (ts : List Tlv) : (d.turnAway q op status ts).scratch = d.scratch := Dev.report_scratch ..
@[simp] theorem Dev.turnAway_staging (d : Dev) (q : Req) (op status : Nat) (ts : List Tlv) : (d.turnAway q op status ts).staging = d.staging := Dev.report_staging ..
@[simp] theorem Dev.turnAway_pushed (d : Dev) (q : Req) (op status : Nat) (ts : List Tlv) : (d.turnAway q op status ts).pushed = d.pushed := Dev.report_pushed ..
@[simp] theorem Dev.turnAway_image (d : Dev) (q : Req) (op status : Nat) (ts : List Tlv) : (d.turnAway q op status ts).image = d.image := Dev.report_image ..
@[simp] theorem Dev.turnAway_bursts (d : Dev) (q : Req) (op status : Nat) (ts : List Tlv) : (d.turnAway q op status ts).bursts = d.bursts := Dev.report_bursts ..

/-! ### holdTag -/

@[simp] theorem Dev.holdTag_reg (d : Dev) (q : Req) (op : Nat) (key : Option (List Byte)) : (d.holdTag q op key).reg = d.reg := rfl
@[simp] theorem Dev.holdTag_shadow (d : Dev) (q : Req) (op : Nat) (key : Option (List Byte)) : (d.holdTag q op key).shadow = d.shadow := rfl
@[simp] theorem Dev.holdTag_ctr (d : Dev) (q : Req) (op : Nat) (key : Option (List Byte)) : (d.holdTag q op key).ctr = d.ctr := rfl
@[simp] theorem Dev.holdTag_hid (d : Dev) (q : Req) (op : Nat) (key : Option (List Byte)) : (d.holdTag q op key).hid = d.hid := rfl
@[simp] theorem Dev.holdTag_clock (d : Dev) (q : Req) (op : Nat) (key : Option (List Byte)) : (d.holdTag q op key).clock = d.clock := rfl
@[simp] theorem Dev.holdTag_tick (d : Dev) (q : Req) (op : Nat) (key : Option (List Byte)) : (d.holdTag q op key).tick = d.tick := rfl
@[simp] theorem Dev.holdTag_evt (d : Dev) (q : Req) (op : Nat) (key : Option (List Byte)) : (d.holdTag q op key).evt = d.evt := rfl
@[simp] theorem Dev.holdTag_out (d : Dev) (q : Req) (op : Nat) (key : Option (List Byte)) : (d.holdTag q op key).out = d.out := rfl
@[simp] theorem Dev.holdTag_free (d : Dev) (q : Req) (op : Nat) (key : Option (List Byte)) : (d.holdTag q op key).free = d.free := rfl
@[simp] theorem Dev.holdTag_csw (d : Dev) (q : Req) (op : Nat) (key : Option (List Byte)) : (d.holdTag q op key).csw = d.csw := rfl
@[simp] theorem Dev.holdTag_xpt (d : Dev) (q : Req) (op : Nat) (key : Option (List Byte)) : (d.holdTag q op key).xpt = d.xpt := rfl
@[simp] theorem Dev.holdTag_ing (d : Dev) (q : Req) (op : Nat) (key : Option (List Byte)) : (d.holdTag q op key).ing = d.ing := rfl
@[simp] theorem Dev.holdTag_mv (d : Dev) (q : Req) (op : Nat) (key : Option (List Byte)) : (d.holdTag q op key).mv = d.mv := rfl
@[simp] theorem Dev.holdTag_apt (d : Dev) (q : Req) (op : Nat) (key : Option (List Byte)) : (d.holdTag q op key).apt = d.apt := rfl
@[simp] theorem Dev.holdTag_amx (d : Dev) (q : Req) (op : Nat) (key : Option (List Byte)) : (d.holdTag q op key).amx = d.amx := rfl
@[simp] theorem Dev.holdTag_reed (d : Dev) (q : Req) (op : Nat) (key : Option (List Byte)) : (d.holdTag q op key).reed = d.reed := rfl
@[simp] theorem Dev.holdTag_latches (d : Dev) (q : Req) (op : Nat) (key : Option (List Byte)) : (d.holdTag q op key).latches = d.latches := rfl
@[simp] theorem Dev.holdTag_refHist (d : Dev) (q : Req) (op : Nat) (key : Option (List Byte)) : (d.holdTag q op key).refHist = d.refHist := rfl
@[simp] theorem Dev.holdTag_mac (d : Dev) (q : Req) (op : Nat) (key : Option (List Byte)) : (d.holdTag q op key).mac = d.mac := rfl
@[simp] theorem Dev.holdTag_txq (d : Dev) (q : Req) (op : Nat) (key : Option (List Byte)) : (d.holdTag q op key).txq = d.txq := rfl
@[simp] theorem Dev.holdTag_ipm (d : Dev) (q : Req) (op : Nat) (key : Option (List Byte)) : (d.holdTag q op key).ipm = d.ipm := rfl
@[simp] theorem Dev.holdTag_ptp (d : Dev) (q : Req) (op : Nat) (key : Option (List Byte)) : (d.holdTag q op key).ptp = d.ptp := rfl
@[simp] theorem Dev.holdTag_fen (d : Dev) (q : Req) (op : Nat) (key : Option (List Byte)) : (d.holdTag q op key).fen = d.fen := rfl
@[simp] theorem Dev.holdTag_bist (d : Dev) (q : Req) (op : Nat) (key : Option (List Byte)) : (d.holdTag q op key).bist = d.bist := rfl
@[simp] theorem Dev.holdTag_tap (d : Dev) (q : Req) (op : Nat) (key : Option (List Byte)) : (d.holdTag q op key).tap = d.tap := rfl
@[simp] theorem Dev.holdTag_health (d : Dev) (q : Req) (op : Nat) (key : Option (List Byte)) : (d.holdTag q op key).health = d.health := rfl
@[simp] theorem Dev.holdTag_sram (d : Dev) (q : Req) (op : Nat) (key : Option (List Byte)) : (d.holdTag q op key).sram = d.sram := rfl
@[simp] theorem Dev.holdTag_scratch (d : Dev) (q : Req) (op : Nat) (key : Option (List Byte)) : (d.holdTag q op key).scratch = d.scratch := rfl
@[simp] theorem Dev.holdTag_staging (d : Dev) (q : Req) (op : Nat) (key : Option (List Byte)) : (d.holdTag q op key).staging = d.staging := rfl
@[simp] theorem Dev.holdTag_pushed (d : Dev) (q : Req) (op : Nat) (key : Option (List Byte)) : (d.holdTag q op key).pushed = d.pushed := rfl
@[simp] theorem Dev.holdTag_image (d : Dev) (q : Req) (op : Nat) (key : Option (List Byte)) : (d.holdTag q op key).image = d.image := rfl
@[simp] theorem Dev.holdTag_bursts (d : Dev) (q : Req) (op : Nat) (key : Option (List Byte)) : (d.holdTag q op key).bursts = d.bursts := rfl

/-! ### acceptPacket -/

@[simp] theorem Dev.acceptPacket_reg (d : Dev) (p : Nat) : (d.acceptPacket p).reg = d.reg := rfl
@[simp] theorem Dev.acceptPacket_shadow (d : Dev) (p : Nat) : (d.acceptPacket p).shadow = d.shadow := rfl
@[simp] theorem Dev.acceptPacket_ctr (d : Dev) (p : Nat) : (d.acceptPacket p).ctr = d.ctr := rfl
@[simp] theorem Dev.acceptPacket_hid (d : Dev) (p : Nat) : (d.acceptPacket p).hid = d.hid := rfl
@[simp] theorem Dev.acceptPacket_clock (d : Dev) (p : Nat) : (d.acceptPacket p).clock = d.clock := rfl
@[simp] theorem Dev.acceptPacket_tick (d : Dev) (p : Nat) : (d.acceptPacket p).tick = d.tick := rfl
@[simp] theorem Dev.acceptPacket_evt (d : Dev) (p : Nat) : (d.acceptPacket p).evt = d.evt := rfl
@[simp] theorem Dev.acceptPacket_out (d : Dev) (p : Nat) : (d.acceptPacket p).out = d.out := rfl
@[simp] theorem Dev.acceptPacket_free (d : Dev) (p : Nat) : (d.acceptPacket p).free = d.free := rfl
@[simp] theorem Dev.acceptPacket_csw (d : Dev) (p : Nat) : (d.acceptPacket p).csw = d.csw := rfl
@[simp] theorem Dev.acceptPacket_xpt (d : Dev) (p : Nat) : (d.acceptPacket p).xpt = d.xpt := rfl
@[simp] theorem Dev.acceptPacket_ing (d : Dev) (p : Nat) : (d.acceptPacket p).ing = d.ing := rfl
@[simp] theorem Dev.acceptPacket_mv (d : Dev) (p : Nat) : (d.acceptPacket p).mv = d.mv := rfl
@[simp] theorem Dev.acceptPacket_apt (d : Dev) (p : Nat) : (d.acceptPacket p).apt = d.apt := rfl
@[simp] theorem Dev.acceptPacket_amx (d : Dev) (p : Nat) : (d.acceptPacket p).amx = d.amx := rfl
@[simp] theorem Dev.acceptPacket_reed (d : Dev) (p : Nat) : (d.acceptPacket p).reed = d.reed := rfl
@[simp] theorem Dev.acceptPacket_latches (d : Dev) (p : Nat) : (d.acceptPacket p).latches = d.latches := rfl
@[simp] theorem Dev.acceptPacket_refHist (d : Dev) (p : Nat) : (d.acceptPacket p).refHist = d.refHist := rfl
@[simp] theorem Dev.acceptPacket_mac (d : Dev) (p : Nat) : (d.acceptPacket p).mac = d.mac := rfl
@[simp] theorem Dev.acceptPacket_txq (d : Dev) (p : Nat) : (d.acceptPacket p).txq = d.txq := rfl
@[simp] theorem Dev.acceptPacket_ipm (d : Dev) (p : Nat) : (d.acceptPacket p).ipm = d.ipm := rfl
@[simp] theorem Dev.acceptPacket_ptp (d : Dev) (p : Nat) : (d.acceptPacket p).ptp = d.ptp := rfl
@[simp] theorem Dev.acceptPacket_fen (d : Dev) (p : Nat) : (d.acceptPacket p).fen = d.fen := rfl
@[simp] theorem Dev.acceptPacket_bist (d : Dev) (p : Nat) : (d.acceptPacket p).bist = d.bist := rfl
@[simp] theorem Dev.acceptPacket_tap (d : Dev) (p : Nat) : (d.acceptPacket p).tap = d.tap := rfl
@[simp] theorem Dev.acceptPacket_health (d : Dev) (p : Nat) : (d.acceptPacket p).health = d.health := rfl
@[simp] theorem Dev.acceptPacket_sram (d : Dev) (p : Nat) : (d.acceptPacket p).sram = d.sram := rfl
@[simp] theorem Dev.acceptPacket_scratch (d : Dev) (p : Nat) : (d.acceptPacket p).scratch = d.scratch := rfl
@[simp] theorem Dev.acceptPacket_staging (d : Dev) (p : Nat) : (d.acceptPacket p).staging = d.staging := rfl
@[simp] theorem Dev.acceptPacket_pushed (d : Dev) (p : Nat) : (d.acceptPacket p).pushed = d.pushed := rfl
@[simp] theorem Dev.acceptPacket_image (d : Dev) (p : Nat) : (d.acceptPacket p).image = d.image := rfl
@[simp] theorem Dev.acceptPacket_bursts (d : Dev) (p : Nat) : (d.acceptPacket p).bursts = d.bursts := rfl

/-! ### flush -/

@[simp] theorem Dev.flush_reg (d : Dev) : (d.flush).reg = d.reg := Dev.report_reg ..
@[simp] theorem Dev.flush_shadow (d : Dev) : (d.flush).shadow = d.shadow := Dev.report_shadow ..
@[simp] theorem Dev.flush_ctr (d : Dev) : (d.flush).ctr = d.ctr := Dev.report_ctr ..
@[simp] theorem Dev.flush_hid (d : Dev) : (d.flush).hid = d.hid := Dev.report_hid ..
@[simp] theorem Dev.flush_clock (d : Dev) : (d.flush).clock = d.clock := Dev.report_clock ..
@[simp] theorem Dev.flush_tick (d : Dev) : (d.flush).tick = d.tick := Dev.report_tick ..
@[simp] theorem Dev.flush_free (d : Dev) : (d.flush).free = d.free := Dev.report_free ..
@[simp] theorem Dev.flush_csw (d : Dev) : (d.flush).csw = d.csw := Dev.report_csw ..
@[simp] theorem Dev.flush_xpt (d : Dev) : (d.flush).xpt = d.xpt := Dev.report_xpt ..
@[simp] theorem Dev.flush_ing (d : Dev) : (d.flush).ing = d.ing := Dev.report_ing ..
@[simp] theorem Dev.flush_mv (d : Dev) : (d.flush).mv = d.mv := Dev.report_mv ..
@[simp] theorem Dev.flush_apt (d : Dev) : (d.flush).apt = d.apt := Dev.report_apt ..
@[simp] theorem Dev.flush_amx (d : Dev) : (d.flush).amx = d.amx := Dev.report_amx ..
@[simp] theorem Dev.flush_reed (d : Dev) : (d.flush).reed = d.reed := Dev.report_reed ..
@[simp] theorem Dev.flush_latches (d : Dev) : (d.flush).latches = d.latches := Dev.report_latches ..
@[simp] theorem Dev.flush_refHist (d : Dev) : (d.flush).refHist = d.refHist := Dev.report_refHist ..
@[simp] theorem Dev.flush_mac (d : Dev) : (d.flush).mac = d.mac := Dev.report_mac ..
@[simp] theorem Dev.flush_txq (d : Dev) : (d.flush).txq = d.txq := Dev.report_txq ..
@[simp] theorem Dev.flush_ipm (d : Dev) : (d.flush).ipm = d.ipm := Dev.report_ipm ..
@[simp] theorem Dev.flush_ptp (d : Dev) : (d.flush).ptp = d.ptp := Dev.report_ptp ..
@[simp] theorem Dev.flush_fen (d : Dev) : (d.flush).fen = d.fen := Dev.report_fen ..
@[simp] theorem Dev.flush_bist (d : Dev) : (d.flush).bist = d.bist := Dev.report_bist ..
@[simp] theorem Dev.flush_tap (d : Dev) : (d.flush).tap = d.tap := Dev.report_tap ..
@[simp] theorem Dev.flush_health (d : Dev) : (d.flush).health = d.health := Dev.report_health ..
@[simp] theorem Dev.flush_sram (d : Dev) : (d.flush).sram = d.sram := Dev.report_sram ..
@[simp] theorem Dev.flush_scratch (d : Dev) : (d.flush).scratch = d.scratch := Dev.report_scratch ..
@[simp] theorem Dev.flush_staging (d : Dev) : (d.flush).staging = d.staging := Dev.report_staging ..
@[simp] theorem Dev.flush_pushed (d : Dev) : (d.flush).pushed = d.pushed := Dev.report_pushed ..
@[simp] theorem Dev.flush_image (d : Dev) : (d.flush).image = d.image := Dev.report_image ..
@[simp] theorem Dev.flush_bursts (d : Dev) : (d.flush).bursts = d.bursts := Dev.report_bursts ..

/-! ### Reading a field, an implied value, a count, a shadow copy -/

@[simp] theorem Dev.hget_set (d : Dev) (f : Fld) (i v : Nat) (g : Fld) (j : Nat) : (d.set f i v).hget g j = d.hget g j := by simp [Dev.hget]
@[simp] theorem Dev.count_set (d : Dev) (f : Fld) (i v : Nat) (k : Ctr) (j : Nat) : (d.set f i v).count k j = d.count k j := by simp [Dev.count]
@[simp] theorem Dev.get_hset (d : Dev) (f : Fld) (i v : Nat) (g : Fld) (j : Nat) : (d.hset f i v).get g j = d.get g j := by simp [Dev.get]
@[simp] theorem Dev.count_hset (d : Dev) (f : Fld) (i v : Nat) (k : Ctr) (j : Nat) : (d.hset f i v).count k j = d.count k j := by simp [Dev.count]
@[simp] theorem Dev.getShadow_hset (d : Dev) (f : Fld) (i v : Nat) (g : Fld) (j : Nat) : (d.hset f i v).getShadow g j = d.getShadow g j := by simp [Dev.getShadow, Dev.get]
@[simp] theorem Dev.get_bump (d : Dev) (c : Ctr) (i n : Nat) (g : Fld) (j : Nat) : (d.bump c i n).get g j = d.get g j := by simp [Dev.get]
@[simp] theorem Dev.hget_bump (d : Dev) (c : Ctr) (i n : Nat) (g : Fld) (j : Nat) : (d.bump c i n).hget g j = d.hget g j := by simp [Dev.hget]
@[simp] theorem Dev.getShadow_bump (d : Dev) (c : Ctr) (i n : Nat) (g : Fld) (j : Nat) : (d.bump c i n).getShadow g j = d.getShadow g j := by simp [Dev.getShadow, Dev.get]
@[simp] theorem Dev.get_load (d : Dev) (f : Fld) (i v : Nat) (g : Fld) (j : Nat) : (d.load f i v).get g j = d.get g j := by simp [Dev.get]
@[simp] theorem Dev.hget_load (d : Dev) (f : Fld) (i v : Nat) (g : Fld) (j : Nat) : (d.load f i v).hget g j = d.hget g j := by simp [Dev.hget]
@[simp] theorem Dev.count_load (d : Dev) (f : Fld) (i v : Nat) (k : Ctr) (j : Nat) : (d.load f i v).count k j = d.count k j := by simp [Dev.count]
@[simp] theorem Dev.get_emit (d : Dev) (o : Out) (g : Fld) (j : Nat) : (d.emit o).get g j = d.get g j := by simp [Dev.get]
@[simp] theorem Dev.hget_emit (d : Dev) (o : Out) (g : Fld) (j : Nat) : (d.emit o).hget g j = d.hget g j := by simp [Dev.hget]
@[simp] theorem Dev.count_emit (d : Dev) (o : Out) (k : Ctr) (j : Nat) : (d.emit o).count k j = d.count k j := by simp [Dev.count]
@[simp] theorem Dev.getShadow_emit (d : Dev) (o : Out) (g : Fld) (j : Nat) : (d.emit o).getShadow g j = d.getShadow g j := by simp [Dev.getShadow, Dev.get]
@[simp] theorem Dev.get_report (d : Dev) (f : Dev → Dev) (g : Fld) (j : Nat) : (d.report f).get g j = d.get g j := by simp [Dev.get]
@[simp] theorem Dev.hget_report (d : Dev) (f : Dev → Dev) (g : Fld) (j : Nat) : (d.report f).hget g j = d.hget g j := by simp [Dev.hget]
@[simp] theorem Dev.count_report (d : Dev) (f : Dev → Dev) (k : Ctr) (j : Nat) : (d.report f).count k j = d.count k j := by simp [Dev.count]
@[simp] theorem Dev.getShadow_report (d : Dev) (f : Dev → Dev) (g : Fld) (j : Nat) : (d.report f).getShadow g j = d.getShadow g j := by simp [Dev.getShadow, Dev.get]
@[simp] theorem Dev.get_fresh (d : Dev) (g : Fld) (j : Nat) : (d.fresh.2).get g j = d.get g j := by simp [Dev.get]
@[simp] theorem Dev.hget_fresh (d : Dev) (g : Fld) (j : Nat) : (d.fresh.2).hget g j = d.hget g j := by simp [Dev.hget]
@[simp] theorem Dev.count_fresh (d : Dev) (k : Ctr) (j : Nat) : (d.fresh.2).count k j = d.count k j := by simp [Dev.count]
@[simp] theorem Dev.getShadow_fresh (d : Dev) (g : Fld) (j : Nat) : (d.fresh.2).getShadow g j = d.getShadow g j := by simp [Dev.getShadow, Dev.get]
@[simp] theorem Dev.get_pass (d : Dev) (n : Nat) (g : Fld) (j : Nat) : (d.pass n).get g j = d.get g j := by simp [Dev.get]
@[simp] theorem Dev.hget_pass (d : Dev) (n : Nat) (g : Fld) (j : Nat) : (d.pass n).hget g j = d.hget g j := by simp [Dev.hget]
@[simp] theorem Dev.count_pass (d : Dev) (n : Nat) (k : Ctr) (j : Nat) : (d.pass n).count k j = d.count k j := by simp [Dev.count]
@[simp] theorem Dev.getShadow_pass (d : Dev) (n : Nat) (g : Fld) (j : Nat) : (d.pass n).getShadow g j = d.getShadow g j := by simp [Dev.getShadow, Dev.get]
@[simp] theorem Dev.get_passTo (d : Dev) (t : Nat) (g : Fld) (j : Nat) : (d.passTo t).get g j = d.get g j := by simp [Dev.get]
@[simp] theorem Dev.hget_passTo (d : Dev) (t : Nat) (g : Fld) (j : Nat) : (d.passTo t).hget g j = d.hget g j := by simp [Dev.hget]
@[simp] theorem Dev.count_passTo (d : Dev) (t : Nat) (k : Ctr) (j : Nat) : (d.passTo t).count k j = d.count k j := by simp [Dev.count]
@[simp] theorem Dev.getShadow_passTo (d : Dev) (t : Nat) (g : Fld) (j : Nat) : (d.passTo t).getShadow g j = d.getShadow g j := by simp [Dev.getShadow, Dev.get]
@[simp] theorem Dev.get_passToCore (d : Dev) (c : Nat) (g : Fld) (j : Nat) : (d.passToCore c).get g j = d.get g j := by simp [Dev.get]
@[simp] theorem Dev.hget_passToCore (d : Dev) (c : Nat) (g : Fld) (j : Nat) : (d.passToCore c).hget g j = d.hget g j := by simp [Dev.hget]
@[simp] theorem Dev.count_passToCore (d : Dev) (c : Nat) (k : Ctr) (j : Nat) : (d.passToCore c).count k j = d.count k j := by simp [Dev.count]
@[simp] theorem Dev.getShadow_passToCore (d : Dev) (c : Nat) (g : Fld) (j : Nat) : (d.passToCore c).getShadow g j = d.getShadow g j := by simp [Dev.getShadow, Dev.get]
@[simp] theorem Dev.get_raise (d : Dev) (n : Nat) (args : List Nat) (g : Fld) (j : Nat) : (d.raise n args).get g j = d.get g j := by simp [Dev.get]
@[simp] theorem Dev.hget_raise (d : Dev) (n : Nat) (args : List Nat) (g : Fld) (j : Nat) : (d.raise n args).hget g j = d.hget g j := by simp [Dev.hget]
@[simp] theorem Dev.count_raise (d : Dev) (n : Nat) (args : List Nat) (k : Ctr) (j : Nat) : (d.raise n args).count k j = d.count k j := by simp [Dev.count]
@[simp] theorem Dev.getShadow_raise (d : Dev) (n : Nat) (args : List Nat) (g : Fld) (j : Nat) : (d.raise n args).getShadow g j = d.getShadow g j := by simp [Dev.getShadow, Dev.get]
@[simp] theorem Dev.get_setKey (d : Dev) (p : Nat) (f : PortKey → PortKey) (g : Fld) (j : Nat) : (d.setKey p f).get g j = d.get g j := by simp [Dev.get]
@[simp] theorem Dev.hget_setKey (d : Dev) (p : Nat) (f : PortKey → PortKey) (g : Fld) (j : Nat) : (d.setKey p f).hget g j = d.hget g j := by simp [Dev.hget]
@[simp] theorem Dev.count_setKey (d : Dev) (p : Nat) (f : PortKey → PortKey) (k : Ctr) (j : Nat) : (d.setKey p f).count k j = d.count k j := by simp [Dev.count]
@[simp] theorem Dev.getShadow_setKey (d : Dev) (p : Nat) (f : PortKey → PortKey) (g : Fld) (j : Nat) : (d.setKey p f).getShadow g j = d.getShadow g j := by simp [Dev.getShadow, Dev.get]
@[simp] theorem Dev.get_transmit (d : Dev) (p dst flags op tag status : Nat) (pl : List Byte) (fin : Bool) (g : Fld) (j : Nat) : (d.transmit p dst flags op tag status pl fin).get g j = d.get g j := by simp [Dev.get]
@[simp] theorem Dev.hget_transmit (d : Dev) (p dst flags op tag status : Nat) (pl : List Byte) (fin : Bool) (g : Fld) (j : Nat) : (d.transmit p dst flags op tag status pl fin).hget g j = d.hget g j := by simp [Dev.hget]
@[simp] theorem Dev.count_transmit (d : Dev) (p dst flags op tag status : Nat) (pl : List Byte) (fin : Bool) (k : Ctr) (j : Nat) : (d.transmit p dst flags op tag status pl fin).count k j = d.count k j := by simp [Dev.count]
@[simp] theorem Dev.getShadow_transmit (d : Dev) (p dst flags op tag status : Nat) (pl : List Byte) (fin : Bool) (g : Fld) (j : Nat) : (d.transmit p dst flags op tag status pl fin).getShadow g j = d.getShadow g j := by simp [Dev.getShadow, Dev.get]
@[simp] theorem Dev.get_sendAll (d : Dev) (p dst op tag status : Nat) (fin : Bool) (pls : List (List Byte)) (g : Fld) (j : Nat) : (d.sendAll p dst op tag status fin pls).get g j = d.get g j := by simp [Dev.get]
@[simp] theorem Dev.hget_sendAll (d : Dev) (p dst op tag status : Nat) (fin : Bool) (pls : List (List Byte)) (g : Fld) (j : Nat) : (d.sendAll p dst op tag status fin pls).hget g j = d.hget g j := by simp [Dev.hget]
@[simp] theorem Dev.count_sendAll (d : Dev) (p dst op tag status : Nat) (fin : Bool) (pls : List (List Byte)) (k : Ctr) (j : Nat) : (d.sendAll p dst op tag status fin pls).count k j = d.count k j := by simp [Dev.count]
@[simp] theorem Dev.getShadow_sendAll (d : Dev) (p dst op tag status : Nat) (fin : Bool) (pls : List (List Byte)) (g : Fld) (j : Nat) : (d.sendAll p dst op tag status fin pls).getShadow g j = d.getShadow g j := by simp [Dev.getShadow, Dev.get]
@[simp] theorem Dev.get_respond (d : Dev) (p src tag op status : Nat) (ts : List Tlv) (fin : Bool) (g : Fld) (j : Nat) : (d.respond p src tag op status ts fin).get g j = d.get g j := by simp [Dev.get]
@[simp] theorem Dev.hget_respond (d : Dev) (p src tag op status : Nat) (ts : List Tlv) (fin : Bool) (g : Fld) (j : Nat) : (d.respond p src tag op status ts fin).hget g j = d.hget g j := by simp [Dev.hget]
@[simp] theorem Dev.count_respond (d : Dev) (p src tag op status : Nat) (ts : List Tlv) (fin : Bool) (k : Ctr) (j : Nat) : (d.respond p src tag op status ts fin).count k j = d.count k j := by simp [Dev.count]
@[simp] theorem Dev.getShadow_respond (d : Dev) (p src tag op status : Nat) (ts : List Tlv) (fin : Bool) (g : Fld) (j : Nat) : (d.respond p src tag op status ts fin).getShadow g j = d.getShadow g j := by simp [Dev.getShadow, Dev.get]
@[simp] theorem Dev.get_reply (d : Dev) (q : Req) (op status : Nat) (ts : List Tlv) (g : Fld) (j : Nat) : (d.reply q op status ts).get g j = d.get g j := by simp [Dev.get]
@[simp] theorem Dev.hget_reply (d : Dev) (q : Req) (op status : Nat) (ts : List Tlv) (g : Fld) (j : Nat) : (d.reply q op status ts).hget g j = d.hget g j := by simp [Dev.hget]
@[simp] theorem Dev.count_reply (d : Dev) (q : Req) (op status : Nat) (ts : List Tlv) (k : Ctr) (j : Nat) : (d.reply q op status ts).count k j = d.count k j := by simp [Dev.count]
@[simp] theorem Dev.getShadow_reply (d : Dev) (q : Req) (op status : Nat) (ts : List Tlv) (g : Fld) (j : Nat) : (d.reply q op status ts).getShadow g j = d.getShadow g j := by simp [Dev.getShadow, Dev.get]
@[simp] theorem Dev.get_turnAway (d : Dev) (q : Req) (op status : Nat) (ts : List Tlv) (g : Fld) (j : Nat) : (d.turnAway q op status ts).get g j = d.get g j := by simp [Dev.get]
@[simp] theorem Dev.hget_turnAway (d : Dev) (q : Req) (op status : Nat) (ts : List Tlv) (g : Fld) (j : Nat) : (d.turnAway q op status ts).hget g j = d.hget g j := by simp [Dev.hget]
@[simp] theorem Dev.count_turnAway (d : Dev) (q : Req) (op status : Nat) (ts : List Tlv) (k : Ctr) (j : Nat) : (d.turnAway q op status ts).count k j = d.count k j := by simp [Dev.count]
@[simp] theorem Dev.getShadow_turnAway (d : Dev) (q : Req) (op status : Nat) (ts : List Tlv) (g : Fld) (j : Nat) : (d.turnAway q op status ts).getShadow g j = d.getShadow g j := by simp [Dev.getShadow, Dev.get]
@[simp] theorem Dev.get_holdTag (d : Dev) (q : Req) (op : Nat) (key : Option (List Byte)) (g : Fld) (j : Nat) : (d.holdTag q op key).get g j = d.get g j := by simp [Dev.get]
@[simp] theorem Dev.hget_holdTag (d : Dev) (q : Req) (op : Nat) (key : Option (List Byte)) (g : Fld) (j : Nat) : (d.holdTag q op key).hget g j = d.hget g j := by simp [Dev.hget]
@[simp] theorem Dev.count_holdTag (d : Dev) (q : Req) (op : Nat) (key : Option (List Byte)) (k : Ctr) (j : Nat) : (d.holdTag q op key).count k j = d.count k j := by simp [Dev.count]
@[simp] theorem Dev.getShadow_holdTag (d : Dev) (q : Req) (op : Nat) (key : Option (List Byte)) (g : Fld) (j : Nat) : (d.holdTag q op key).getShadow g j = d.getShadow g j := by simp [Dev.getShadow, Dev.get]
@[simp] theorem Dev.get_acceptPacket (d : Dev) (p : Nat) (g : Fld) (j : Nat) : (d.acceptPacket p).get g j = d.get g j := by simp [Dev.get]
@[simp] theorem Dev.hget_acceptPacket (d : Dev) (p : Nat) (g : Fld) (j : Nat) : (d.acceptPacket p).hget g j = d.hget g j := by simp [Dev.hget]
@[simp] theorem Dev.count_acceptPacket (d : Dev) (p : Nat) (k : Ctr) (j : Nat) : (d.acceptPacket p).count k j = d.count k j := by simp [Dev.count]
@[simp] theorem Dev.getShadow_acceptPacket (d : Dev) (p : Nat) (g : Fld) (j : Nat) : (d.acceptPacket p).getShadow g j = d.getShadow g j := by simp [Dev.getShadow, Dev.get]
@[simp] theorem Dev.get_flush (d : Dev) (g : Fld) (j : Nat) : (d.flush).get g j = d.get g j := by simp [Dev.get]
@[simp] theorem Dev.hget_flush (d : Dev) (g : Fld) (j : Nat) : (d.flush).hget g j = d.hget g j := by simp [Dev.hget]
@[simp] theorem Dev.count_flush (d : Dev) (k : Ctr) (j : Nat) : (d.flush).count k j = d.count k j := by simp [Dev.count]
@[simp] theorem Dev.getShadow_flush (d : Dev) (g : Fld) (j : Nat) : (d.flush).getShadow g j = d.getShadow g j := by simp [Dev.getShadow, Dev.get]

/-- A field that is set reads as the value cut to its width. -/
@[simp] theorem Dev.get_set_same (d : Dev) (f : Fld) (i v : Nat) : (d.set f i v).get f i = v % 2 ^ f.width := by
  simp only [Dev.get, Dev.set]; exact Map.getD_store_same ..

/-- Every other field, and every other instance, reads as before. -/
theorem Dev.get_set_ne (d : Dev) {f : Fld} {i : Nat} {g : Fld} {j : Nat} (v : Nat) (h : ¬(g.id = f.id ∧ j = i)) :
    (d.set f i v).get g j = d.get g j := by
  simp only [Dev.get, Dev.set, Map.find?_store_ne _ _ _ h]

@[simp] theorem Dev.hget_hset_same (d : Dev) (f : Fld) (i v : Nat) : (d.hset f i v).hget f i = v % 2 ^ f.width := by
  simp only [Dev.hget, Dev.hset]; exact Map.getD_store_same ..

theorem Dev.hget_hset_ne (d : Dev) {f : Fld} {i : Nat} {g : Fld} {j : Nat} (v : Nat) (h : ¬(g.id = f.id ∧ j = i)) :
    (d.hset f i v).hget g j = d.hget g j := by
  simp only [Dev.hget, Dev.hset, Map.find?_store_ne _ _ _ h]

@[simp] theorem Dev.count_bump_same (d : Dev) (c : Ctr) (i n : Nat) : (d.bump c i n).count c i = (d.count c i + n) % 2 ^ 64 := by
  exact Map.getD_store_same ..

theorem Dev.count_bump_ne (d : Dev) {c : Ctr} {i : Nat} {k : Ctr} {j : Nat} (n : Nat) (h : ¬(k.id = c.id ∧ j = i)) :
    (d.bump c i n).count k j = d.count k j := by
  show ((d.ctr.store c.id i _ 0).find? k.id j).getD 0 = _
  rw [Map.find?_store_ne _ _ _ h]; rfl

/-- A value loaded into a shadow copy is what it holds, and the value in effect stays (R47). -/
@[simp] theorem Dev.getShadow_load_same (d : Dev) (f : Fld) (i v : Nat) : (d.load f i v).getShadow f i = v % 2 ^ f.width := by
  simp only [Dev.getShadow, Dev.load, Dev.get]; exact Map.getD_store_same ..

theorem Dev.getShadow_load_ne (d : Dev) {f : Fld} {i : Nat} {g : Fld} {j : Nat} (v : Nat) (h : ¬(g.id = f.id ∧ j = i)) :
    (d.load f i v).getShadow g j = d.getShadow g j := by
  simp only [Dev.getShadow, Dev.load, Dev.get, Map.find?_store_ne _ _ _ h]

end Sys2Proof.Machine
end

