-- ==== Sys2Proof/Safety.lean ====
section
/-! DEFINITION. What counts as a safe run, the invariant of the state, and the terms in which claims about commands are
stated. -/

namespace Sys2Proof.Machine

/-- A step that goes on: no fault and no refusal. -/
def State.safe (s : State) : Prop := ∃ t, step s = .next t

/-- The Mere bytes are in their canonical form. -/
def State.wf (s : State) : Prop := Memory.wf s.mere = true

/-- The outcome of a command that leaves the device `d`: the events of its cycle are logged at its end (R138, R139). -/
def State.becomes (s : State) (d : Dev) : Host.Outcome State Fault Refusal := .next { s with dev := d.flush }

/-- A read of master `m` at BAR0 offset `off` reaches the register there: the master has access (R504), the register target is not
hung (R84), the window is open and defines the offset (R63, R135), and no unit under test lies there (R499). -/
def Dev.Readable (d : Dev) (m off : Nat) : Prop := (m = 7 → d.debugOn = true) ∧ d.busFault off = none

/-- A write reaches it when the host also holds the lease unit of the window (R117). -/
def Dev.Reaches (d : Dev) (m off : Nat) : Prop := d.Readable m off ∧ d.hostBarred m off = false

/-- A write that has reached its register is mirrored to the partner (R463) and answered (R81). -/
def Dev.written (d : Dev) (m off w : Nat) : Dev := (d.mirror off w).answer m .done

/-- A request that the firmware takes up (R106), whose tag is good (R105), and the device that goes on to the checks of R112. -/
def Dev.TakesUp (d : Dev) (q : Req) (op : Nat) (e : Dev) : Prop :=
  ∃ d0, d.takeUp q op = some d0 ∧ 0 < q.tag ∧ q.tag < 65536 ∧ d0.tagPending q.port q.tag = false ∧
    (d0.cmd.tags.filter fun t => t.port == q.port.val).length < 256 ∧ e = d0.holdTag q op (d.headKey q op)

/-- A request taken up that passes the general checks of R112 for its opcode, with the TLVs that it carries and the device that hands
it on. -/
def Dev.Accepts (d : Dev) (q : Req) (sp : Spec) (ts : List Tlv) (e : Dev) : Prop :=
  d.TakesUp q sp.op e ∧ e.judge q sp = .accept ts

/-- Unit `n` runs a job and the instruction at its place has opcode `op` (R447). -/
def Dev.FenRuns (d : Dev) (n op : Nat) : Prop :=
  (d.unit n).running = true ∧ (d.unit n).pc < 8192 ∧ bits ((d.unit n).program (d.unit n).pc) 26 6 = op

/-- The instruction at the place of unit `n`. -/
def Dev.fenWord (d : Dev) (n : Nat) : Nat := (d.unit n).program (d.unit n).pc

/-- A frame of a CLASS arrives on a link that is UP and passes the checks of R459 and R461, its CSEQ being new; the device that uses
it. -/
def Dev.FrameUses (d : Dev) (h : CswHead) (cls : Nat) (e : Dev) : Prop :=
  d.get F.CSW_LINK_STATUS_UP h.link = 1 ∧ (d.frameArrives h.link).frameFault h cls (d.frameAgain h cls) = none ∧
    e = (d.frameArrives h.link).frameUsed h cls

/-- Two devices differ at most in the event system, the command block and what was sent. -/
def Dev.SameButReports (d e : Dev) : Prop := e = { d with evt := e.evt, cmd := e.cmd, out := e.out }

/-- Mix lists that pass every check of a mix command (R401, R407–R409, R413, R415): every source exists and is named once, no list is longer than
4,096 taps, none that sounds is above the gain load, none is named to a leased Fen's job, the table has the units `us` for them, and the
engines have room for their jobs. -/
def Dev.ListsFit (d : Dev) (ts : List Tlv) (ramp : Nat) (lists : List (Nat × List (Nat × Int))) (us : List Nat) : Prop :=
  let n := d.changeFrame (frameTlv ts)
  let sizes := lists.map fun l => unitsFor l.2.length
  let e := d.fresh.2
  let ws := (lists.zip us).flatMap fun p => listWrites p.1.1 p.2 ramp p.1.2
  (∀ l ∈ lists, (∀ t ∈ l.2, reservedChannel t.1 = false) ∧ l.2.length ≤ 4096 ∧ repeatsSource l.2 = false ∧
    (d.sounds n l.1 = false ∨ gainLoad l.2 ≤ loadLimit)) ∧
  (d.holder 13 = 7 ∨ ∀ l ∈ lists, (d.jobOf l.1).isSome = true) ∧
  sizes.sum ≤ 131072 - unitsIn d.unitRuns ∧ allot d.unitRuns (d.fresh.1 % 131072) sizes = some us ∧
  e.placeable (e.mixJobs (e.listLengths (e.heldWrites ws) ((e.plannedAt n).over ws))) = true

end Sys2Proof.Machine
end

