-- ==== Sys2Proof/Laws/Command.lean ====
section
/-! SUPPORT. What the shared forms of the commands do: a lifted effect, a register access and a request; and what test mode brings. -/

namespace Sys2Proof.Machine

theorem lift_eq (f : Dev → Dev) (s : State) : lift f s = s.becomes (f s.dev) := rfl

/-- A lifted effect answers a next state. -/
theorem lift_next (f : Dev → Dev) (s : State) : ∃ t, lift f s = .next t ∧ t.mere = s.mere ∧ t.pending = s.pending :=
  ⟨_, rfl, rfl, rfl⟩

/-- What every single effect keeps, their sequence keeps. -/
theorem Dev.each_keeps {α β : Type} (P : Dev → β) (f : Dev → α → Dev) (l : List α) (h : ∀ d a, P (f d a) = P d) (d : Dev) :
    P (d.each l f) = P d := by
  unfold Dev.each
  induction l generalizing d with
  | nil => rfl
  | cons a l ih => rw [List.foldl_cons, ih, h]

/-- What one effect of a sequence brings and the others keep holds after it. -/
theorem Dev.each_brings {α β : Type} [DecidableEq α] (P : Dev → β) (f : Dev → α → Dev) (l : List α) (a : α) (v : β) (ha : a ∈ l)
    (h : ∀ d b, b ≠ a → P (f d b) = P d) (h' : ∀ d, P (f d a) = v) (d : Dev) : P (d.each l f) = v := by
  have keep : ∀ (l : List α) (d : Dev), P d = v → P (l.foldl f d) = v := by
    intro l; induction l with
    | nil => intro d hd; exact hd
    | cons b l ih =>
      intro d hd; refine ih _ ?_
      by_cases hb : b = a
      · rw [hb, h']
      · rw [h _ _ hb, hd]
  unfold Dev.each
  induction l generalizing d with
  | nil => cases ha
  | cons b l ih =>
    rw [List.foldl_cons]
    by_cases hb : b = a
    · exact keep _ _ (by rw [hb, h'])
    · exact ih ((List.mem_cons.mp ha).resolve_left fun e => hb e.symm) _

/-- Reporting changes the event system, the command block and what is sent only. -/
theorem Dev.sameButReports_report (d : Dev) (f : Dev → Dev) : d.SameButReports (d.report f) := by
  unfold Dev.SameButReports Dev.report
  generalize f d = e
  rfl

theorem Dev.access_of {d : Dev} {m : Nat} (h : m = 7 → d.debugOn = true) (f : Dev → Dev) : d.access m f = f d := by
  unfold Dev.access
  rw [if_neg]
  rintro ⟨h7, hd⟩
  simp [h h7] at hd

@[simp] theorem Dev.hostBarred_transaction (d : Dev) (m k off : Nat) : (d.transaction k).hostBarred m off = d.hostBarred m off := by
  unfold Dev.hostBarred Dev.holder Dev.transaction; simp

@[simp] theorem Dev.get_transaction (d : Dev) (m : Nat) (f : Fld) (i : Nat) : (d.transaction m).get f i = d.get f i := by
  simp [Dev.transaction]

/-! What an access counts changes the counts alone. -/

@[simp] theorem Dev.transaction_reg (d : Dev) (m : Nat) : (d.transaction m).reg = d.reg := by simp [Dev.transaction]
@[simp] theorem Dev.transaction_shadow (d : Dev) (m : Nat) : (d.transaction m).shadow = d.shadow := by simp [Dev.transaction]
@[simp] theorem Dev.transaction_hid (d : Dev) (m : Nat) : (d.transaction m).hid = d.hid := by simp [Dev.transaction]
@[simp] theorem Dev.transaction_clock (d : Dev) (m : Nat) : (d.transaction m).clock = d.clock := by simp [Dev.transaction]
@[simp] theorem Dev.transaction_tick (d : Dev) (m : Nat) : (d.transaction m).tick = d.tick := by simp [Dev.transaction]
@[simp] theorem Dev.transaction_evt (d : Dev) (m : Nat) : (d.transaction m).evt = d.evt := by simp [Dev.transaction]
@[simp] theorem Dev.transaction_cmd (d : Dev) (m : Nat) : (d.transaction m).cmd = d.cmd := by simp [Dev.transaction]
@[simp] theorem Dev.transaction_out (d : Dev) (m : Nat) : (d.transaction m).out = d.out := by simp [Dev.transaction]
@[simp] theorem Dev.transaction_free (d : Dev) (m : Nat) : (d.transaction m).free = d.free := by simp [Dev.transaction]
@[simp] theorem Dev.transaction_csw (d : Dev) (m : Nat) : (d.transaction m).csw = d.csw := by simp [Dev.transaction]
@[simp] theorem Dev.transaction_xpt (d : Dev) (m : Nat) : (d.transaction m).xpt = d.xpt := by simp [Dev.transaction]
@[simp] theorem Dev.transaction_ing (d : Dev) (m : Nat) : (d.transaction m).ing = d.ing := by simp [Dev.transaction]
@[simp] theorem Dev.transaction_amx (d : Dev) (m : Nat) : (d.transaction m).amx = d.amx := by simp [Dev.transaction]
@[simp] theorem Dev.transaction_reed (d : Dev) (m : Nat) : (d.transaction m).reed = d.reed := by simp [Dev.transaction]
@[simp] theorem Dev.transaction_latches (d : Dev) (m : Nat) : (d.transaction m).latches = d.latches := by simp [Dev.transaction]
@[simp] theorem Dev.transaction_refHist (d : Dev) (m : Nat) : (d.transaction m).refHist = d.refHist := by simp [Dev.transaction]
@[simp] theorem Dev.transaction_mac (d : Dev) (m : Nat) : (d.transaction m).mac = d.mac := by simp [Dev.transaction]
@[simp] theorem Dev.transaction_txq (d : Dev) (m : Nat) : (d.transaction m).txq = d.txq := by simp [Dev.transaction]
@[simp] theorem Dev.transaction_ipm (d : Dev) (m : Nat) : (d.transaction m).ipm = d.ipm := by simp [Dev.transaction]
@[simp] theorem Dev.transaction_ptp (d : Dev) (m : Nat) : (d.transaction m).ptp = d.ptp := by simp [Dev.transaction]
@[simp] theorem Dev.transaction_fen (d : Dev) (m : Nat) : (d.transaction m).fen = d.fen := by simp [Dev.transaction]
@[simp] theorem Dev.transaction_bist (d : Dev) (m : Nat) : (d.transaction m).bist = d.bist := by simp [Dev.transaction]
@[simp] theorem Dev.transaction_tap (d : Dev) (m : Nat) : (d.transaction m).tap = d.tap := by simp [Dev.transaction]
@[simp] theorem Dev.transaction_health (d : Dev) (m : Nat) : (d.transaction m).health = d.health := by simp [Dev.transaction]
@[simp] theorem Dev.hget_transaction (d : Dev) (m : Nat) (f : Fld) (i : Nat) : (d.transaction m).hget f i = d.hget f i := by
  simp [Dev.transaction]
@[simp] theorem Dev.running_transaction (d : Dev) (m : Nat) : (d.transaction m).running = d.running := by simp [Dev.running]
@[simp] theorem Dev.lathRuns_transaction (d : Dev) (m : Nat) : (d.transaction m).lathRuns = d.lathRuns := by simp [Dev.lathRuns]
@[simp] theorem Dev.rate_transaction (d : Dev) (m : Nat) : (d.transaction m).rate = d.rate := by simp [Dev.rate]
@[simp] theorem Dev.holder_transaction (d : Dev) (m u : Nat) : (d.transaction m).holder u = d.holder u := by simp [Dev.holder]

@[simp] theorem Dev.busFault_transaction (d : Dev) (k off : Nat) : (d.transaction k).busFault off = d.busFault off := by
  unfold Dev.busFault Dev.csrHung Dev.windowOpen Dev.underTest; simp

/-- A write that reaches its register. -/
theorem Dev.busWrite_of {d : Dev} {m off : Nat} (h : d.Reaches m off) (w : Nat) (effect : Dev → Dev) :
    d.busWrite m off w effect = (effect (d.transaction m)).written m off w := by
  obtain ⟨⟨h7, hf⟩, hb⟩ := h
  unfold Dev.busWrite
  rw [Dev.access_of h7]
  simp [hb, hf, Dev.written]

/-- A read that reaches its register. -/
theorem Dev.busRead_of {d : Dev} {m off : Nat} (h : d.Readable m off) (value : Dev → Nat × Dev) :
    d.busRead m off value = (value (d.transaction m)).2.answer m (.data [(value (d.transaction m)).1]) := by
  obtain ⟨h7, hf⟩ := h
  unfold Dev.busRead
  rw [Dev.access_of h7]
  simp [hf]

/-- A live item leaves every part but the Causeway, the counts and what was sent; so does the mirroring of a write. -/
theorem Dev.mirror_eq (d : Dev) (off w : Nat) :
    d.mirror off w = { d with csw := (d.mirror off w).csw, ctr := (d.mirror off w).ctr, out := (d.mirror off w).out } := by
  unfold Dev.mirror; split
  · split <;> rfl
  · rfl

@[simp] theorem Dev.written_reg (d : Dev) (m off w : Nat) : (d.written m off w).reg = d.reg := by
  unfold Dev.written Dev.answer; rw [Dev.mirror_eq]; rfl

@[simp] theorem Dev.written_shadow (d : Dev) (m off w : Nat) : (d.written m off w).shadow = d.shadow := by
  unfold Dev.written Dev.answer; rw [Dev.mirror_eq]; rfl

@[simp] theorem Dev.written_hid (d : Dev) (m off w : Nat) : (d.written m off w).hid = d.hid := by
  unfold Dev.written Dev.answer; rw [Dev.mirror_eq]; rfl

@[simp] theorem Dev.written_tick (d : Dev) (m off w : Nat) : (d.written m off w).tick = d.tick := by
  unfold Dev.written Dev.answer; rw [Dev.mirror_eq]; rfl

@[simp] theorem Dev.written_clock (d : Dev) (m off w : Nat) : (d.written m off w).clock = d.clock := by
  unfold Dev.written Dev.answer; rw [Dev.mirror_eq]; rfl

@[simp] theorem Dev.get_written (d : Dev) (m off w : Nat) (f : Fld) (i : Nat) : (d.written m off w).get f i = d.get f i := by
  simp [Dev.get]

@[simp] theorem Dev.hget_written (d : Dev) (m off w : Nat) (f : Fld) (i : Nat) : (d.written m off w).hget f i = d.hget f i := by
  simp [Dev.hget]

/-- A request taken up is judged, and answered or handed on. -/
theorem Dev.command_takesUp {d e : Dev} {q : Req} {sp : Spec} (h : d.TakesUp q sp.op e) (body : Dev → List Tlv → Dev) :
    d.command q sp body = match e.judge q sp with
      | .refuse status ts => e.reply q sp.op status ts
      | .accept ts => body e ts := by
  obtain ⟨d0, h0, h1, h2, h3, h4, h5⟩ := h
  unfold Dev.command
  have ht : d0.tagFault q = none := by
    unfold Dev.tagFault
    rw [if_neg (by omega), if_neg (by simp [h3]), if_neg (by omega)]
  subst h5
  simp only [h0, ht] <;> rfl

/-- A request that passes the general checks goes to its opcode's own conditions and effect. -/
theorem Dev.command_of {d e : Dev} {q : Req} {sp : Spec} {ts : List Tlv} (h : d.Accepts q sp ts e) (body : Dev → List Tlv → Dev) :
    d.command q sp body = body e ts := by
  rw [Dev.command_takesUp h.1, h.2]

/-! ### Test mode (R502) -/

/-- What the transmit lanes' review and the health review leave: the command block, the TAP, TEST_LATCH and the role word. -/
def Dev.testView (d : Dev) : Command × Tap × Nat × Nat := (d.cmd, d.tap, d.hget H.testLatch 0, d.get F.CSW_ROLE_CLAIM_OUT 0)

theorem Dev.dropQueued_testView (d : Dev) (j : Nat) : (d.dropQueued j).testView = d.testView := by
  refine Prod.ext rfl (Prod.ext rfl (Prod.ext ?_ rfl))
  exact Dev.hget_hset_ne (f := H.txQueue) (i := j) (g := H.testLatch) (j := 0) (d.bump C.REED_TX_WORDS_DROPPED (j / 4) (d.fifoOf j).length) 0
    (by intro h; exact absurd h.1 (by decide))

theorem Dev.txReview_testView (d : Dev) (n : Nat) : (d.txReview n).testView = d.testView := by
  have hs : ∀ (d : Dev) i, (d.hset H.txSeq i 0).testView = d.testView := fun d i => by
    refine Prod.ext rfl (Prod.ext rfl (Prod.ext ?_ rfl))
    exact Dev.hget_hset_ne _ _ (by intro h; exact absurd h.1 (by decide))
  have hc : ∀ (d : Dev) i, (d.hset H.txCredit i 0).testView = d.testView := fun d i => by
    refine Prod.ext rfl (Prod.ext rfl (Prod.ext ?_ rfl))
    exact Dev.hget_hset_ne _ _ (by intro h; exact absurd h.1 (by decide))
  have ht : ∀ (d : Dev) i v, (d.set F.REED_LANE_STATUS_TX_STATE i v).testView = d.testView := fun d i v => by
    refine Prod.ext rfl (Prod.ext rfl (Prod.ext (by simp [Dev.testView]) ?_))
    exact Dev.get_set_ne _ _ (by intro h; exact absurd h.1 (by decide))
  have hr : ∀ (d : Dev) m a, (d.raise m a).testView = d.testView := fun d m a => by simp [Dev.testView, Dev.hget, Dev.get]
  simp only [Dev.txReview]
  split
  · rfl
  · rw [hr]
    split
    · rw [Dev.each_keeps _ _ _ fun d i => hc d _, Dev.startSeq, Dev.each_keeps _ _ _ hs, ht]
    · rw [Dev.each_keeps _ _ _ fun d i => Dev.dropQueued_testView d _, ht]

theorem Dev.healthReview_testView (d : Dev) : d.healthReview.testView = d.testView := by
  have hr : ∀ (d : Dev) m a, (d.raise m a).testView = d.testView := fun d m a => by simp [Dev.testView, Dev.hget, Dev.get]
  have ht : ∀ (d : Dev) v, (d.set F.HLT_TRIG_TRIG 0 v).testView = d.testView := fun d v => by
    refine Prod.ext rfl (Prod.ext rfl (Prod.ext (by simp [Dev.testView]) ?_))
    exact Dev.get_set_ne _ _ (by intro h; exact absurd h.1 (by decide))
  have h1 : ∀ (d : Dev) b, (d.setTrigger b).testView = d.testView := fun d b => by
    simp only [Dev.setTrigger]; split
    · rfl
    · rw [hr, ht]
  simp only [Dev.healthReview, Dev.setTriggers, Dev.levelCheck]
  split
  · rw [Dev.each_keeps _ _ _ h1]
  · rw [hr, Dev.each_keeps _ _ _ h1]

/-- No key is left in the key store (R502). -/
theorem Dev.zeroise_keys (d : Dev) : ∀ k ∈ d.zeroise.cmd.keys, k.key = none := by
  simp only [Dev.zeroise]
  rw [Dev.each_keeps Dev.cmd (fun d i => (d.hset H.macRxSa i 0).hset H.macRxKey i 0) _ (fun _ _ => rfl),
    Dev.each_keeps Dev.cmd (fun d i => (d.hset H.macTxSa i 0).hset H.macTxKey i 0) _ (fun _ _ => rfl),
    Dev.each_keeps Dev.cmd (fun d i => d.set F.MGT_SAK_DATA_KEY i 0) _ (fun _ _ => rfl)]
  intro k hk
  obtain ⟨x, -, rfl⟩ := List.mem_map.mp hk
  rfl

/-- Test mode: no key, TEST_LATCH set, no claim, and the TAP's instruction (R502). -/
theorem Dev.testMode_view (d : Dev) (code : Nat) (scan : Bool) : (d.testMode code scan).testView =
    (d.zeroise.cmd, { d.tap with ir := code, drives := !scan, scan := d.tap.scan || scan }, 1, 0) := by
  have hr : ∀ (d : Dev) m a, (d.raise m a).testView = d.testView := fun d m a => by simp [Dev.testView, Dev.hget, Dev.get]
  have hz : d.zeroise.tap = d.tap := by
    simp only [Dev.zeroise]
    rw [Dev.each_keeps Dev.tap (fun d i => (d.hset H.macRxSa i 0).hset H.macRxKey i 0) _ (fun _ _ => rfl),
      Dev.each_keeps Dev.tap (fun d i => (d.hset H.macTxSa i 0).hset H.macTxKey i 0) _ (fun _ _ => rfl),
      Dev.each_keeps Dev.tap (fun d i => d.set F.MGT_SAK_DATA_KEY i 0) _ (fun _ _ => rfl)]
  simp only [Dev.testMode, Dev.healthReview_testView, Dev.txReviewAll]
  rw [Dev.each_keeps _ _ _ Dev.txReview_testView, hr]
  generalize d.zeroise = z at hz ⊢
  refine Prod.ext rfl (Prod.ext (by simp [Dev.testView, hz]) (Prod.ext ?_ ?_))
  · exact Dev.hget_hset_same z H.testLatch 0 1
  · exact Dev.get_set_same (z.hset H.testLatch 0 1) F.CSW_ROLE_CLAIM_OUT 0 0

end Sys2Proof.Machine
end

