-- ==== Sys2Proof/Laws/Exec.lean ====
section
/-! SUPPORT. What `exec` is for each row: the effect of the row's meaning on the device, with the events of the cycle logged. -/

namespace Sys2Proof.Machine

theorem exec_registerWrite (m : Fin 8) (word : Fin 16777216) (v : Word) (s : State) : exec (.registerWrite m word v) s = s.becomes (s.dev.storeWord m (4 * word) v.toNat) := rfl
theorem exec_shadowWrite (m : Fin 8) (word : Fin 16777216) (v : Word) (s : State) : exec (.shadowWrite m word v) s = s.becomes (if (findReg (4 * word)).any fun x => x.1.shadowed then s.dev.storeWord m (4 * word) v.toNat else s.dev) := rfl
theorem exec_readClear (m : Fin 8) (word : Fin 16777216) (s : State) : exec (.readClear m word) s = s.becomes (s.dev.loadWord m (4 * word)) := rfl
theorem exec_latchingRead (m : Fin 8) (word : Fin 16777216) (s : State) : exec (.latchingRead m word) s = s.becomes (s.dev.loadWord m (4 * word)) := rfl
theorem exec_tickStart (m : Fin 8) (v : Word) (s : State) : exec (.tickStart m v) s = s.becomes (s.dev.busWrite m 0x700004 v.toNat (·.writeTickCtrl v.toNat)) := rfl
theorem exec_tickStop (m : Fin 8) (v : Word) (s : State) : exec (.tickStop m v) s = s.becomes (s.dev.busWrite m 0x700004 v.toNat (·.writeTickCtrl v.toNat)) := rfl
theorem exec_tickCfgWrite (m : Fin 8) (v : Word) (s : State) : exec (.tickCfgWrite m v) s = s.becomes (s.dev.busWrite m 0x700000 v.toNat (·.writeTickCfg v.toNat)) := rfl
theorem exec_tickCommitGo (m : Fin 8) (v : Word) (s : State) : exec (.tickCommitGo m v) s = s.becomes (s.dev.busWrite m 0x700028 v.toNat (·.writeTickCommit m v.toNat)) := rfl
theorem exec_frameTick (x : TickIn) (s : State) : exec (.frameTick x) s = s.becomes (s.dev.frameTick x) := rfl
theorem exec_cutoff (s : State) : exec (.cutoff) s = s.becomes (s.dev.cutoff) := rfl
theorem exec_halfFrame (s : State) : exec (.halfFrame) s = s.becomes (s.dev.halfFrame) := rfl
theorem exec_ledgerLatch (unchecked : Nat) (s : State) : exec (.ledgerLatch unchecked) s = s.becomes (s.dev.phase3 unchecked) := rfl
theorem exec_blockTick (x : BlockIn) (s : State) : exec (.blockTick x) s = s.becomes (s.dev.blockTick x) := rfl
theorem exec_tickRestart (x : TickIn) (s : State) : exec (.tickRestart x) s = s.becomes (s.dev.tickRestart x) := rfl
theorem exec_renumberTick (x : TickIn) (s : State) : exec (.renumberTick x) s = s.becomes (s.dev.renumberTick x) := rfl
theorem exec_tickHalt (s : State) : exec (.tickHalt) s = s.becomes (s.dev.tickHalt) := rfl
theorem exec_lossOfLock (domain : Fin 18) (inst : Nat) (bursts : List Nat) (s : State) : exec (.lossOfLock domain inst bursts) s = s.becomes (s.dev.lossOfLock (domain + 1) inst bursts) := rfl
theorem exec_commit (q : Req) (s : State) : exec (.commit q) s = s.becomes (s.dev.commit q) := rfl
theorem exec_tickStatusGet (q : Req) (s : State) : exec (.tickStatusGet q) s = s.becomes (s.dev.tickStatusGet q) := rfl
theorem exec_timePreset (q : Req) (s : State) : exec (.timePreset q) s = s.becomes (s.dev.timePreset q) := rfl
theorem exec_porAssert (s : State) : exec (.porAssert) s = s.becomes (s.dev.powerOn) := rfl
theorem exec_bootWatchdog (s : State) : exec (.bootWatchdog) s = s.becomes (s.dev.bootWatchdog) := rfl
theorem exec_bootPush (m : Fin 8) (v : Word) (chunk : List Byte) (x : BootRest) (s : State) : exec (.bootPush m v chunk x) s = s.becomes (s.dev.busWrite m 0x100010 v.toNat (·.writeBootPush v.toNat chunk x.ten x.stuck)) := rfl
theorem exec_bootTickStart (s : State) : exec (.bootTickStart) s = s.becomes (s.dev.bootTickStart) := rfl
theorem exec_causewayTrainingEnd (s : State) : exec (.causewayTrainingEnd) s = s.becomes (s.dev.trainingEnd) := rfl
theorem exec_seatBClaimWait (s : State) : exec (.seatBClaimWait) s = s.becomes (s.dev.seatWaitEnd) := rfl
theorem exec_topResetDevice (m : Fin 8) (v : Word) (s : State) : exec (.topResetDevice m v) s = s.becomes (s.dev.busWrite m 0xC v.toNat (·.writeTopReset v.toNat [])) := rfl
theorem exec_topResetLath (m : Fin 8) (v : Word) (bursts : List Nat) (s : State) : exec (.topResetLath m v bursts) s = s.becomes (s.dev.busWrite m 0xC v.toNat (·.writeTopReset v.toNat bursts)) := rfl
theorem exec_reset (q : Req) (bursts : List Nat) (s : State) : exec (.reset q bursts) s = s.becomes (s.dev.resetCommand q bursts) := rfl
theorem exec_perst (bursts : List Nat) (s : State) : exec (.perst bursts) s = s.becomes (s.dev.pciReset bursts) := rfl
theorem exec_lockstepMismatch (bursts : List Nat) (s : State) : exec (.lockstepMismatch bursts) s = s.becomes (s.dev.lathRestart 6 bursts) := rfl
theorem exec_lathWatchdog (bursts : List Nat) (s : State) : exec (.lathWatchdog bursts) s = s.becomes (s.dev.lathRestart 7 bursts) := rfl
theorem exec_lathRestartDone (x : RestartIn) (s : State) : exec (.lathRestartDone x) s = s.becomes (s.dev.lathRestartDone x.slots x.stuck) := rfl
theorem exec_identify (q : Req) (s : State) : exec (.identify q) s = s.becomes (s.dev.identify q) := rfl
theorem exec_sumpAccess (m : Fin 8) (x : Access) (s : State) : exec (.sumpAccess m x) s = s.becomes (s.dev.access m (·.sumpAccess m x)) := rfl
theorem exec_busSumpClear (m : Fin 8) (v : Word) (s : State) : exec (.busSumpClear m v) s = s.becomes (s.dev.busWrite m 0x200018 v.toNat (·.clearSump v.toNat)) := rfl
theorem exec_targetTimeout (m : Fin 8) (x : Access) (s : State) : exec (.targetTimeout m x) s = s.becomes (s.dev.access m (·.targetTimeout m x)) := rfl
theorem exec_lateTargetResponse (target : Fin 9) (s : State) : exec (.lateTargetResponse target) s = s.becomes (s.dev.lateResponse target) := rfl
theorem exec_remap (m : Fin 8) (v : Word) (s : State) : exec (.remap m v) s = s.becomes (s.dev.busWrite m 0x200000 v.toNat (·.writeBusCtrl v.toNat)) := rfl
theorem exec_p0Doorbell (slot : Fin 64) (bytes : List Byte) (s : State) : exec (.p0Doorbell slot bytes) s = s.becomes (s.dev.mailboxAccess (·.doorbell slot bytes)) := rfl
theorem exec_rspReadyClear (hi : Bool) (v : Word) (s : State) : exec (.rspReadyClear hi v) s = s.becomes (s.dev.mailboxAccess (·.clearReadyBits hi v.toNat)) := rfl
theorem exec_mgmtDatagram (port : Fin 2) (x : Datagram) (s : State) : exec (.mgmtDatagram port x) s = s.becomes (s.dev.datagram port x) := rfl
theorem exec_uartPacket (bytes : List Byte) (s : State) : exec (.uartPacket bytes) s = s.becomes (s.dev.uartPacket bytes) := rfl
theorem exec_heldChangeWrite (s : State) : exec (.heldChangeWrite) s = s.becomes (s.dev.heldChangeWrite) := rfl
theorem exec_leaseTimeout (port : Fin 5) (s : State) : exec (.leaseTimeout port) s = s.becomes (s.dev.leaseTimeout port) := rfl
theorem exec_nop (q : Req) (s : State) : exec (.nop q) s = s.becomes (s.dev.nop q) := rfl
theorem exec_portStatusGet (q : Req) (s : State) : exec (.portStatusGet q) s = s.becomes (s.dev.portStatusGet q) := rfl
theorem exec_portKeySet (q : Req) (s : State) : exec (.portKeySet q) s = s.becomes (s.dev.portKeySet q) := rfl
theorem exec_notifySubscribe (q : Req) (s : State) : exec (.notifySubscribe q) s = s.becomes (s.dev.notifySubscribe q) := rfl
theorem exec_gpioConfig (q : Req) (s : State) : exec (.gpioConfig q) s = s.becomes (s.dev.gpioConfig q) := rfl
theorem exec_gpioSet (q : Req) (s : State) : exec (.gpioSet q) s = s.becomes (s.dev.gpioSet q) := rfl
theorem exec_gpioGet (q : Req) (s : State) : exec (.gpioGet q) s = s.becomes (s.dev.gpioGet q) := rfl
theorem exec_protect (q : Req) (s : State) : exec (.protect q) s = s.becomes (s.dev.protect q) := rfl
theorem exec_unprotect (q : Req) (s : State) : exec (.unprotect q) s = s.becomes (s.dev.unprotect q) := rfl
theorem exec_protectGet (q : Req) (s : State) : exec (.protectGet q) s = s.becomes (s.dev.protectGet q) := rfl
theorem exec_leaseTake (q : Req) (s : State) : exec (.leaseTake q) s = s.becomes (s.dev.leaseTake q) := rfl
theorem exec_leaseRenew (q : Req) (s : State) : exec (.leaseRenew q) s = s.becomes (s.dev.leaseRenew q) := rfl
theorem exec_leaseRelease (q : Req) (s : State) : exec (.leaseRelease q) s = s.becomes (s.dev.leaseRelease q) := rfl
theorem exec_leaseStatus (q : Req) (s : State) : exec (.leaseStatus q) s = s.becomes (s.dev.leaseStatus q) := rfl
theorem exec_csrRead (q : Req) (s : State) : exec (.csrRead q) s = s.becomes (s.dev.csrRead q) := rfl
theorem exec_csrWrite (q : Req) (s : State) : exec (.csrWrite q) s = s.becomes (s.dev.csrWrite q) := rfl
theorem exec_acceptedEdge (pin : Fin 32) (level : Bool) (s : State) : exec (.acceptedEdge pin level) s = s.becomes (s.dev.ballChanges pin level) := rfl
theorem exec_debounceWindowEnd (pin : Fin 32) (s : State) : exec (.debounceWindowEnd pin) s = s.becomes (s.dev.debounceEnds pin) := rfl
theorem exec_chatterWindowEnd (s : State) : exec (.chatterWindowEnd) s = s.becomes (s.dev.chatterEnds) := rfl
theorem exec_stuckTimeExpiry (pin : Fin 32) (s : State) : exec (.stuckTimeExpiry pin) s = s.becomes (s.dev.stuckExpires pin) := rfl
theorem exec_activeLowWrite (m : Fin 8) (pin : Fin 32) (v : Word) (s : State) : exec (.activeLowWrite m pin v) s = s.becomes (s.dev.busWrite m (0xA00000 + 4 * pin) v.toNat (·.writeGpioCfg pin v.toNat)) := rfl
theorem exec_gpioArmWrite (m : Fin 8) (v : Word) (s : State) : exec (.gpioArmWrite m v) s = s.becomes (s.dev.busWrite m 0xA00114 v.toNat (·.writeGpioArm v.toNat)) := rfl
theorem exec_evtStatusWrite (m : Fin 8) (g : Fin 32) (v : Word) (s : State) : exec (.evtStatusWrite m g v) s = s.becomes (s.dev.busWrite m (0x400000 + 4 * g) v.toNat (·.writeEvtStatus g v.toNat)) := rfl
theorem exec_evtIntEnWrite (m : Fin 8) (g : Fin 32) (v : Word) (s : State) : exec (.evtIntEnWrite m g v) s = s.becomes (s.dev.busWrite m (0x400080 + 4 * g) v.toNat (·.writeIntEn g v.toNat)) := rfl
theorem exec_coalesceWindowEnd (event : Fin 1024) (s : State) : exec (.coalesceWindowEnd event) s = s.becomes (s.dev.windowEnds event) := rfl
theorem exec_evtLogRdHostWrite (m : Fin 8) (v : Word) (s : State) : exec (.evtLogRdHostWrite m v) s = s.becomes (s.dev.busWrite m 0x40018C v.toNat (·.writeRdHost v.toNat)) := rfl
theorem exec_hostReaderWrite (m : Fin 8) (v : Word) (s : State) : exec (.hostReaderWrite m v) s = s.becomes (s.dev.busWrite m 0x400184 v.toNat (·.writeEvtCtrl v.toNat)) := rfl
theorem exec_pcieLinkEvent (up : Bool) (speed : Fin 8) (width : Fin 16) (s : State) : exec (.pcieLinkEvent up speed width) s = s.becomes (s.dev.linkEvent up speed width) := rfl
theorem exec_outboundAccess (m : Fin 8) (x : Access) (answer : List Nat) (s : State) : exec (.outboundAccess m x answer) s = s.becomes (s.dev.access m (·.outbound m x answer)) := rfl
theorem exec_eventLogRead (q : Req) (s : State) : exec (.eventLogRead q) s = s.becomes (s.dev.eventLogRead q) := rfl
theorem exec_eventCountsGet (q : Req) (s : State) : exec (.eventCountsGet q) s = s.becomes (s.dev.eventCountsGet q) := rfl
theorem exec_reedSuperframe (lane : Fin 392) (start : Nat) (groups : List Nat) (s : State) : exec (.reedSuperframe lane start groups) s = s.becomes (s.dev.superframeIn lane start groups) := rfl
theorem exec_fomReading (lane : Fin 392) (f : FomIn) (s : State) : exec (.fomReading lane f) s = s.becomes (s.dev.fomReading lane f) := rfl
theorem exec_laneTrainingStart (lane : Fin 392) (s : State) : exec (.laneTrainingStart lane) s = s.becomes (s.dev.trainingStart lane) := rfl
theorem exec_trainingTimeout (lane : Fin 392) (s : State) : exec (.trainingTimeout lane) s = s.becomes (s.dev.trainingTimeout lane) := rfl
theorem exec_alignmentTimeout (lane : Fin 392) (s : State) : exec (.alignmentTimeout lane) s = s.becomes (s.dev.alignmentTimeout lane) := rfl
theorem exec_lossOfSignal (lane : Fin 392) (s : State) : exec (.lossOfSignal lane) s = s.becomes (s.dev.signalLost lane) := rfl
theorem exec_cdrUnlock (lane : Fin 392) (s : State) : exec (.cdrUnlock lane) s = s.becomes (s.dev.cdrLost lane) := rfl
theorem exec_rateTryEnd (lane : Fin 384) (s : State) : exec (.rateTryEnd lane) s = s.becomes (s.dev.rateTryEnd lane) := rfl
theorem exec_retrain (m : Fin 8) (lane : Fin 384) (v : Word) (s : State) : exec (.retrain m lane v) s = s.becomes ((fun d => d.busWrite m (laneCtrlOff lane) (v.toNat ||| 2) fun d => d.writeLaneCtrl lane (v.toNat ||| 2) false) s.dev) := rfl
theorem exec_bitslip (m : Fin 8) (lane : Fin 384) (v : Word) (comma : Bool) (s : State) : exec (.bitslip m lane v comma) s = s.becomes ((fun d => d.busWrite m (laneCtrlOff lane) (v.toNat ||| 4) fun d => d.writeLaneCtrl lane (v.toNat ||| 4) comma) s.dev) := rfl
theorem exec_lcmSend (m : Fin 8) (lane : Fin 384) (v : Word) (s : State) : exec (.lcmSend m lane v) s = s.becomes ((fun d => d.busWrite m (laneCtrlOff lane) (v.toNat ||| 64) fun d => d.writeLaneCtrl lane (v.toNat ||| 64) false) s.dev) := rfl
theorem exec_reedSuperframeSend (lane : Fin 384) (_content : Computed) (s : State) : exec (.reedSuperframeSend lane _content) s = s.becomes (s.dev.superframeOut lane) := rfl
theorem exec_txgrpResume (group : Fin 16) (s : State) : exec (.txgrpResume group) s = s.becomes (s.dev.txgrpResume group) := rfl
theorem exec_noTrsTimeout (slot : Fin 1536) (s : State) : exec (.noTrsTimeout slot) s = s.becomes (s.dev.noTrs slot) := rfl
theorem exec_reskim (m : Fin 8) (slot : Fin 1536) (v : Word) (s : State) : exec (.reskim m slot v) s = s.becomes (s.dev.busWrite m (reskimOff slot) v.toNat (·.reskim slot v.toNat)) := rfl
theorem exec_mereEccError (stack : Fin 2) (corrected : Bool) (offset : Nat) (hit : MereHit) (s : State) : exec (.mereEccError stack corrected offset hit) s = s.becomes (s.dev.mereError stack corrected offset hit) := rfl
theorem exec_mereRetrainFail (stack : Fin 2) (s : State) : exec (.mereRetrainFail stack) s = s.becomes (s.dev.retrainFail stack) := rfl
theorem exec_mereEccAddrClear (m : Fin 8) (v : Word) (s : State) : exec (.mereEccAddrClear m v) s = s.becomes ((fun d => d.busWrite m 0x1500034 v.toNat fun d => d.clearEccAddr v.toNat) s.dev) := rfl
theorem exec_xptInject (m : Fin 8) (v : Word) (s : State) : exec (.xptInject m v) s = s.becomes (s.dev.busWrite m xptInjectOff v.toNat (·.writeInject v.toNat)) := rfl
theorem exec_sealVote (dest : Fin 1536) (l : VoteLine) (s : State) : exec (.sealVote dest l) s = s.becomes (s.dev.egress dest l) := rfl
theorem exec_sluiceSwitch (dest : Fin 1536) (_anc _space : Computed) (s : State) : exec (.sluiceSwitch dest _anc _space) s = s.becomes (s.dev.sluice dest) := rfl
theorem exec_take (q : Req) (s : State) : exec (.take q) s = s.becomes (s.dev.take q) := rfl
theorem exec_salvo (q : Req) (s : State) : exec (.salvo q) s = s.becomes (s.dev.salvo q) := rfl
theorem exec_salvoPrepare (q : Req) (s : State) : exec (.salvoPrepare q) s = s.becomes (s.dev.salvoPrepare q) := rfl
theorem exec_salvoFire (q : Req) (s : State) : exec (.salvoFire q) s = s.becomes (s.dev.salvoFire q) := rfl
theorem exec_salvoDiscard (q : Req) (s : State) : exec (.salvoDiscard q) s = s.becomes (s.dev.salvoDiscard q) := rfl
theorem exec_takeCancel (q : Req) (s : State) : exec (.takeCancel q) s = s.becomes (s.dev.takeCancel q) := rfl
theorem exec_takeListGet (q : Req) (s : State) : exec (.takeListGet q) s = s.becomes (s.dev.takeListGet q) := rfl
theorem exec_triggerBind (q : Req) (s : State) : exec (.triggerBind q) s = s.becomes (s.dev.triggerBind q) := rfl
theorem exec_destConfig (q : Req) (s : State) : exec (.destConfig q) s = s.becomes (s.dev.destConfig q) := rfl
theorem exec_sourceConfig (q : Req) (s : State) : exec (.sourceConfig q) s = s.becomes (s.dev.sourceConfig q) := rfl
theorem exec_changeoverConfig (q : Req) (s : State) : exec (.changeoverConfig q) s = s.becomes (s.dev.changeoverConfig q) := rfl
theorem exec_destStatusGet (q : Req) (s : State) : exec (.destStatusGet q) s = s.becomes (s.dev.destStatusGet q) := rfl
theorem exec_sourceStatusGet (q : Req) (s : State) : exec (.sourceStatusGet q) s = s.becomes (s.dev.sourceStatusGet q) := rfl
theorem exec_generatorConfig (q : Req) (s : State) : exec (.generatorConfig q) s = s.becomes (s.dev.generatorConfig q) := rfl
theorem exec_compositionComplete (head : Fin 16) (s : State) : exec (.compositionComplete head) s = s.becomes (s.dev.compositionComplete head) := rfl
theorem exec_scalerFailure (scaler : Fin 256) (s : State) : exec (.scalerFailure scaler) s = s.becomes ((s.dev.scalerFailure scaler).healthReview) := rfl
theorem exec_converterFailure (unit : Fin 68) (s : State) : exec (.converterFailure unit) s = s.becomes ((s.dev.converterFailure unit).healthReview) := rfl
theorem exec_cnvLutDataWrite (m : Fin 8) (c : Fin 64) (v : Word) (s : State) : exec (.cnvLutDataWrite m c v) s = s.becomes ((fun d => d.busWrite m (0x1900014 + 0x40 * c) v.toNat fun d => d.writeLutData c v.toNat) s.dev) := rfl
theorem exec_headConfig (q : Req) (s : State) : exec (.headConfig q) s = s.becomes (s.dev.headConfig q) := rfl
theorem exec_tileConfig (q : Req) (s : State) : exec (.tileConfig q) s = s.becomes (s.dev.tileConfig q) := rfl
theorem exec_corniceConfig (q : Req) (s : State) : exec (.corniceConfig q) s = s.becomes (s.dev.corniceConfig q) := rfl
theorem exec_guardConfig (q : Req) (s : State) : exec (.guardConfig q) s = s.becomes (s.dev.guardConfig q) := rfl
theorem exec_csetConfig (q : Req) (s : State) : exec (.csetConfig q) s = s.becomes (s.dev.csetConfig q) := rfl
theorem exec_headStatusGet (q : Req) (s : State) : exec (.headStatusGet q) s = s.becomes (s.dev.headStatusGet q) := rfl
theorem exec_converterConfig (q : Req) (s : State) : exec (.converterConfig q) s = s.becomes (s.dev.converterConfig q) := rfl
theorem exec_converterLutLoad (q : Req) (s : State) : exec (.converterLutLoad q) s = s.becomes (s.dev.converterLutLoad q) := rfl
theorem exec_converterStatusGet (q : Req) (s : State) : exec (.converterStatusGet q) s = s.becomes (s.dev.converterStatusGet q) := rfl
theorem exec_macFrameRx (inst : Fin 34) (x : EthIn) (s : State) : exec (.macFrameRx inst x) s = s.becomes (s.dev.macFrameRx inst x) := rfl
theorem exec_pauseQuantumEnd (inst : Fin 34) (s : State) : exec (.pauseQuantumEnd inst) s = s.becomes (s.dev.quantumEnds inst) := rfl
theorem exec_macFrameTx (inst : Fin 34) (x : TxIn) (s : State) : exec (.macFrameTx inst x) s = s.becomes (s.dev.macFrameTx inst x) := rfl
theorem exec_transmitUnderrun (inst : Fin 34) (x : TxIn) (s : State) : exec (.transmitUnderrun inst x) s = s.becomes (s.dev.underrun inst x) := rfl
theorem exec_linkUp (inst : Fin 34) (lane : Fin 8) (x : LinkIn) (s : State) : exec (.linkUp inst lane x) s = s.becomes (s.dev.linkUp inst lane x.held x.mgt) := rfl
theorem exec_linkDown (inst : Fin 34) (lane : Fin 8) (bursts : List Nat) (s : State) : exec (.linkDown inst lane bursts) s = s.becomes (s.dev.linkDown inst lane bursts) := rfl
theorem exec_ignorePauseWrite (m : Fin 8) (inst : Fin 34) (v : Word) (s : State) : exec (.ignorePauseWrite m inst v) s = s.becomes ((fun d => d.busWrite m (macCfgOff inst) v.toNat fun d => if inst.val < 32 then d.writeMacCfg inst v.toNat else d.writeMgtCfg (inst.val - 32) v.toNat) s.dev) := rfl
theorem exec_txStartWrite (m : Fin 8) (inst : Fin 32) (v : Word) (s : State) : exec (.txStartWrite m inst v) s = s.becomes (s.dev.busWrite m (0x1A10010 + 0x400 * inst) v.toNat (·.writeTxStart inst v.toNat)) := rfl
theorem exec_utilisationWindow (port : Fin 2) (sent received : Nat) (s : State) : exec (.utilisationWindow port sent received) s = s.becomes (s.dev.utilisation port sent received) := rfl
theorem exec_upshift (port : Fin 2) (s : State) : exec (.upshift port) s = s.becomes (s.dev.upshift port) := rfl
theorem exec_renegTimeout (port : Fin 2) (s : State) : exec (.renegTimeout port) s = s.becomes (s.dev.renegFails port) := rfl
theorem exec_saInstall (m : Fin 8) (port : Fin 2) (v : Word) (s : State) : exec (.saInstall m port v) s = s.becomes (s.dev.busWrite m (0x1B00060 + 0x1000 * port) v.toNat (·.writeSaCtrl port v.toNat)) := rfl
theorem exec_legTimeout (context : Fin 2048) (leg : Fin 2) (s : State) : exec (.legTimeout context leg) s = s.becomes (s.dev.legTimeout context leg) := rfl
theorem exec_flowLossTimeout (context : Fin 2048) (s : State) : exec (.flowLossTimeout context) s = s.becomes (s.dev.flowLoss context) := rfl
theorem exec_linePlayout (context : Fin 2048) (qs : List Nat) (anc : List Nat) (l : PlayIn) (s : State) : exec (.linePlayout context qs anc l) s = s.becomes (s.dev.linePlayout context qs anc l) := rfl
theorem exec_packetSchedule (context : Fin 2048) (p : PktIn) (s : State) : exec (.packetSchedule context p) s = s.becomes (s.dev.packetSchedule context p) := rfl
theorem exec_igmpQuery (inst : Fin 32) (version : Nat) (group : Nat) (maxResp : Nat) (s : State) : exec (.igmpQuery inst version group maxResp) s = s.becomes (s.dev.igmpQuery inst version group maxResp) := rfl
theorem exec_queryResponseDue (inst : Fin 32) (s : State) : exec (.queryResponseDue inst) s = s.becomes (s.dev.igmpAnswer inst) := rfl
theorem exec_igmpReportRepeat (inst : Fin 32) (s : State) : exec (.igmpReportRepeat inst) s = s.becomes (s.dev.igmpRepeat inst) := rfl
theorem exec_rxFlowConfig (q : Req) (s : State) : exec (.rxFlowConfig q) s = s.becomes (s.dev.rxFlowConfig q) := rfl
theorem exec_txFlowConfig (q : Req) (s : State) : exec (.txFlowConfig q) s = s.becomes (s.dev.txFlowConfig q) := rfl
theorem exec_instanceConfig (q : Req) (s : State) : exec (.instanceConfig q) s = s.becomes (s.dev.instanceConfig q) := rfl
theorem exec_flowStatusGet (q : Req) (s : State) : exec (.flowStatusGet q) s = s.becomes (s.dev.flowStatusGet q) := rfl
theorem exec_igmpStatusGet (q : Req) (s : State) : exec (.igmpStatusGet q) s = s.becomes (s.dev.igmpStatusGet q) := rfl
theorem exec_ptpMessageRx (port : Fin 34) (x : PtpMsg) (s : State) : exec (.ptpMessageRx port x) s = s.becomes (s.dev.ptpMessage port 0 x) := rfl
theorem exec_announceTimeout (iface : Fin 4) (s : State) : exec (.announceTimeout iface) s = s.becomes (s.dev.announceTimeout iface) := rfl
theorem exec_syncTimeout (s : State) : exec (.syncTimeout) s = s.becomes (s.dev.syncTimeout) := rfl
theorem exec_delayReqSend (iface : Fin 4) (s : State) : exec (.delayReqSend iface) s = s.becomes (s.dev.delayReqSend iface) := rfl
theorem exec_txqPop (m : Fin 8) (queue : Fin 10) (s : State) : exec (.txqPop m queue) s = s.becomes (s.dev.readTxq m queue) := rfl
theorem exec_phcAdjGo (m : Fin 8) (v : Word) (s : State) : exec (.phcAdjGo m v) s = s.becomes (s.dev.busWrite m 0x90003C v.toNat (·.writePhcCtrl v.toNat)) := rfl
theorem exec_stepAcceptWrite (m : Fin 8) (v : Word) (s : State) : exec (.stepAcceptWrite m v) s = s.becomes ((fun d => d.busWrite m 0x90000C v.toNat fun d => if v.toNat % 2 = 1 then d.acceptStep else d) s.dev) := rfl
theorem exec_stepLimitWrite (m : Fin 8) (v : Word) (s : State) : exec (.stepLimitWrite m v) s = s.becomes (s.dev.busWrite m 0x900008 v.toNat (·.writeStepLimit v.toNat)) := rfl
theorem exec_ptpConfig (q : Req) (s : State) : exec (.ptpConfig q) s = s.becomes (s.dev.ptpConfig q) := rfl
theorem exec_ptpIfConfig (q : Req) (s : State) : exec (.ptpIfConfig q) s = s.becomes (s.dev.ptpIfConfig q) := rfl
theorem exec_ptpStatusGet (q : Req) (s : State) : exec (.ptpStatusGet q) s = s.becomes (s.dev.ptpStatusGet q) := rfl
theorem exec_ptpStepAccept (q : Req) (s : State) : exec (.ptpStepAccept q) s = s.becomes (s.dev.ptpStepAccept q) := rfl
theorem exec_activityTimeout (pin : Fin 4) (s : State) : exec (.activityTimeout pin) s = s.becomes (s.dev.whileRef (·.edgeLate pin)) := rfl
theorem exec_ptpWriteTimeout (s : State) : exec (.ptpWriteTimeout) s = s.becomes (s.dev.phcSilent) := rfl
theorem exec_frequencyGate (input : Fin 7) (reading : Int) (s : State) : exec (.frequencyGate input reading) s = s.becomes (s.dev.whileRef (·.gateReading input reading)) := rfl
theorem exec_soakEnd (input : Fin 7) (s : State) : exec (.soakEnd input) s = s.becomes (s.dev.whileRef (·.soakEnds input)) := rfl
theorem exec_selectorEvaluation (s : State) : exec (.selectorEvaluation) s = s.becomes (s.dev.evaluateRef) := rfl
theorem exec_loopSecond (x : LoopIn) (s : State) : exec (.loopSecond x) s = s.becomes (s.dev.loopSecond x) := rfl
theorem exec_peatUpdate (s : State) : exec (.peatUpdate) s = s.becomes (s.dev.peatUpdate) := rfl
theorem exec_phaseAdjustGo (m : Fin 8) (v : Word) (s : State) : exec (.phaseAdjustGo m v) s = s.becomes (s.dev.busWrite m 0x80003C v.toNat (·.writePhaseCtrl v.toNat)) := rfl
theorem exec_slewComplete (s : State) : exec (.slewComplete) s = s.becomes (s.dev.slewEnds) := rfl
theorem exec_refInputConfig (q : Req) (s : State) : exec (.refInputConfig q) s = s.becomes (s.dev.refInputConfig q) := rfl
theorem exec_refLoopConfig (q : Req) (s : State) : exec (.refLoopConfig q) s = s.becomes (s.dev.refLoopConfig q) := rfl
theorem exec_refStatusGet (q : Req) (s : State) : exec (.refStatusGet q) s = s.becomes (s.dev.refStatusGet q) := rfl
theorem exec_refPhaseAdjust (q : Req) (s : State) : exec (.refPhaseAdjust q) s = s.becomes (s.dev.refPhaseAdjust q) := rfl
theorem exec_refForce (q : Req) (s : State) : exec (.refForce q) s = s.becomes (s.dev.refForce q) := rfl
theorem exec_xoTrimSet (q : Req) (s : State) : exec (.xoTrimSet q) s = s.becomes (s.dev.xoTrimSet q) := rfl
theorem exec_aportFrame (port : Fin 24) (x : PortFrame) (s : State) : exec (.aportFrame port x) s = s.becomes (s.dev.portFrame port x) := rfl
theorem exec_fsTimeout (port : Fin 24) (cycles : List BclkCycle) (s : State) : exec (.fsTimeout port cycles) s = s.becomes (s.dev.fsTimeout port cycles) := rfl
theorem exec_portCfgWrite (m : Fin 8) (port : Fin 24) (v : Word) (s : State) : exec (.portCfgWrite m port v) s = s.becomes (s.dev.busWrite m (aptPort port) v.toNat (·.writePortCfg port v.toNat)) := rfl
theorem exec_portRestart (m : Fin 8) (port : Fin 24) (v : Word) (s : State) : exec (.portRestart m port v) s = s.becomes (s.dev.busWrite m (aptPort port + 0xC) v.toNat (·.writePortCtrl port v.toNat)) := rfl
theorem exec_maskWrite (m : Fin 8) (port : Fin 24) (v : Word) (s : State) : exec (.maskWrite m port v) s = s.becomes (s.dev.busWrite m (aptPort port + 4) v.toNat (·.writePortMask port v.toNat)) := rfl
theorem exec_muteWrite (m : Fin 8) (port : Fin 24) (v : Word) (s : State) : exec (.muteWrite m port v) s = s.becomes (s.dev.busWrite m (aptPort port + 0x10) v.toNat (·.writePortMute port v.toNat)) := rfl
theorem exec_zcTimeout (port : Fin 24) (channel : Fin 32) (s : State) : exec (.zcTimeout port channel) s = s.becomes (s.dev.zcTimeout port channel) := rfl
theorem exec_groupArm (m : Fin 8) (group : Fin 8) (v : Word) (_offsets : Computed) (s : State) : exec (.groupArm m group v _offsets) s = s.becomes ((fun d => d.busWrite m (aptGroup group) (v.toNat ||| 2 ^ 31) fun d => d.writeGroupCtrl group (v.toNat ||| 2 ^ 31)) s.dev) := rfl
theorem exec_groupFire (m : Fin 8) (group : Fin 8) (v : Word) (s : State) : exec (.groupFire m group v) s = s.becomes ((fun d => d.busWrite m (aptGroup group) (v.toNat ||| 2 ^ 30) fun d => d.writeGroupCtrl group (v.toNat ||| 2 ^ 30)) s.dev) := rfl
theorem exec_groupStart (group : Fin 8) (s : State) : exec (.groupStart group) s = s.becomes (s.dev.groupStart group) := rfl
theorem exec_aportConfig (q : Req) (s : State) : exec (.aportConfig q) s = s.becomes (s.dev.aportConfig q) := rfl
theorem exec_aportMute (q : Req) (s : State) : exec (.aportMute q) s = s.becomes (s.dev.aportMute q) := rfl
theorem exec_aportGroupConfig (q : Req) (s : State) : exec (.aportGroupConfig q) s = s.becomes (s.dev.aportGroupConfig q) := rfl
theorem exec_aportArm (q : Req) (_offsets : Computed) (s : State) : exec (.aportArm q _offsets) s = s.becomes (s.dev.aportArm q) := rfl
theorem exec_aportStart (q : Req) (s : State) : exec (.aportStart q) s = s.becomes (s.dev.aportStart q) := rfl
theorem exec_aportRestart (q : Req) (s : State) : exec (.aportRestart q) s = s.becomes (s.dev.aportRestart q) := rfl
theorem exec_aportStatusGet (q : Req) (s : State) : exec (.aportStatusGet q) s = s.becomes (s.dev.aportStatusGet q) := rfl
theorem exec_loudResetWrite (m : Fin 8) (v : Word) (s : State) : exec (.loudResetWrite m v) s = s.becomes ((fun d => d.busWrite m 0x01EE0000 v.toNat fun d => d.writeLoudReset v.toNat) s.dev) := rfl
theorem exec_mixSet (q : Req) (s : State) : exec (.mixSet q) s = s.becomes (s.dev.mixSet q) := rfl
theorem exec_tapGain (q : Req) (s : State) : exec (.tapGain q) s = s.becomes (s.dev.tapGain q) := rfl
theorem exec_route (q : Req) (s : State) : exec (.route q) s = s.becomes (s.dev.routeAudio q) := rfl
theorem exec_mixGet (q : Req) (s : State) : exec (.mixGet q) s = s.becomes (s.dev.mixGet q) := rfl
theorem exec_destMute (q : Req) (s : State) : exec (.destMute q) s = s.becomes (s.dev.destMute q) := rfl
theorem exec_amxStatusGet (q : Req) (s : State) : exec (.amxStatusGet q) s = s.becomes (s.dev.amxStatusGet q) := rfl
theorem exec_meterEnable (q : Req) (s : State) : exec (.meterEnable q) s = s.becomes (s.dev.meterEnable q) := rfl
theorem exec_meterDisable (q : Req) (s : State) : exec (.meterDisable q) s = s.becomes (s.dev.meterDisable q) := rfl
theorem exec_meterGet (q : Req) (s : State) : exec (.meterGet q) s = s.becomes (s.dev.meterGet q) := rfl
theorem exec_loudnessReset (q : Req) (s : State) : exec (.loudnessReset q) s = s.becomes (s.dev.loudnessReset q) := rfl
theorem exec_fenNop (u : Fin 272) (s : State) : exec (.fenNop u) s = s.becomes (s.dev.fenRow u.val 0x00 Dev.fenNop) := rfl
theorem exec_mac2 (u : Fin 272) (s : State) : exec (.mac2 u) s = s.becomes (s.dev.fenRow u.val 0x01 Dev.fenMac2) := rfl
theorem exec_mac (u : Fin 272) (s : State) : exec (.mac u) s = s.becomes (s.dev.fenRow u.val 0x02 Dev.fenMac) := rfl
theorem exec_clr (u : Fin 272) (s : State) : exec (.clr u) s = s.becomes (s.dev.fenRow u.val 0x03 (onlyUnit fenClr)) := rfl
theorem exec_wb (u : Fin 272) (s : State) : exec (.wb u) s = s.becomes (s.dev.fenRow u.val 0x04 Dev.fenWb) := rfl
theorem exec_mfs (u : Fin 272) (s : State) : exec (.mfs u) s = s.becomes (s.dev.fenRow u.val 0x05 Dev.fenMfs) := rfl
theorem exec_mts (u : Fin 272) (s : State) : exec (.mts u) s = s.becomes (s.dev.fenRow u.val 0x06 (onlyUnit fenMts)) := rfl
theorem exec_alu (u : Fin 272) (s : State) : exec (.alu u) s = s.becomes (s.dev.fenRow u.val 0x08 Dev.fenAlu) := rfl
theorem exec_shf (u : Fin 272) (s : State) : exec (.shf u) s = s.becomes (s.dev.fenRow u.val 0x09 (onlyUnit fenShf)) := rfl
theorem exec_ldi (u : Fin 272) (s : State) : exec (.ldi u) s = s.becomes (s.dev.fenRow u.val 0x0A (onlyUnit fenLdi)) := rfl
theorem exec_ld (u : Fin 272) (s : State) : exec (.ld u) s = s.becomes (s.dev.fenRow u.val 0x10 Dev.fenLd) := rfl
theorem exec_st (u : Fin 272) (s : State) : exec (.st u) s = s.becomes (s.dev.fenRow u.val 0x11 Dev.fenSt) := rfl
theorem exec_ld2 (u : Fin 272) (s : State) : exec (.ld2 u) s = s.becomes (s.dev.fenRow u.val 0x12 Dev.fenLd2) := rfl
theorem exec_setp (u : Fin 272) (s : State) : exec (.setp u) s = s.becomes (s.dev.fenRow u.val 0x13 (onlyUnit fenSetp)) := rfl
theorem exec_maxi (u : Fin 272) (s : State) : exec (.maxi u) s = s.becomes (s.dev.fenRow u.val 0x18 Dev.fenMaxi) := rfl
theorem exec_mini (u : Fin 272) (s : State) : exec (.mini u) s = s.becomes (s.dev.fenRow u.val 0x19 Dev.fenMini) := rfl
theorem exec_rep (u : Fin 272) (s : State) : exec (.rep u) s = s.becomes (s.dev.fenRow u.val 0x20 (onlyUnit fenRep)) := rfl
theorem exec_repk (u : Fin 272) (s : State) : exec (.repk u) s = s.becomes (s.dev.fenRow u.val 0x21 (onlyUnit fenRepk)) := rfl
theorem exec_repr (u : Fin 272) (s : State) : exec (.repr u) s = s.becomes (s.dev.fenRow u.val 0x22 (onlyUnit fenRepr)) := rfl
theorem exec_brk (u : Fin 272) (s : State) : exec (.brk u) s = s.becomes (s.dev.fenRow u.val 0x23 (onlyUnit fenBrk)) := rfl
theorem exec_br (u : Fin 272) (s : State) : exec (.br u) s = s.becomes (s.dev.fenRow u.val 0x24 (onlyUnit fenBr)) := rfl
theorem exec_call (u : Fin 272) (s : State) : exec (.call u) s = s.becomes (s.dev.fenRow u.val 0x25 (onlyUnit fenCall)) := rfl
theorem exec_ret (u : Fin 272) (s : State) : exec (.ret u) s = s.becomes (s.dev.fenRow u.val 0x26 (onlyUnit fenRet)) := rfl
theorem exec_reti (u : Fin 272) (s : State) : exec (.reti u) s = s.becomes (s.dev.fenRow u.val 0x27 Dev.fenReti) := rfl
theorem exec_swi (u : Fin 272) (s : State) : exec (.swi u) s = s.becomes (s.dev.fenRow u.val 0x28 Dev.fenSwi) := rfl
theorem exec_gather (u : Fin 272) (s : State) : exec (.gather u) s = s.becomes ((fun d => d.fenRow u.val 0x30 fun d => d.fenTransfer false) s.dev) := rfl
theorem exec_scatter (u : Fin 272) (s : State) : exec (.scatter u) s = s.becomes ((fun d => d.fenRow u.val 0x31 fun d => d.fenTransfer true) s.dev) := rfl
theorem exec_gatherComplete (u : Fin 272) (index : Fin 4) (words : List Word) (s : State) : exec (.gatherComplete u index words) s = s.becomes (s.dev.gatherComplete u.val index.val (words.map BitVec.toNat)) := rfl
theorem exec_waitg (u : Fin 272) (s : State) : exec (.waitg u) s = s.becomes (s.dev.fenRow u.val 0x32 (onlyUnit fenWaitg)) := rfl
theorem exec_jend (u : Fin 272) (s : State) : exec (.jend u) s = s.becomes (s.dev.fenRow u.val 0x3F Dev.fenJend) := rfl
theorem exec_backgroundDispatch (l : Fin 256) (s : State) : exec (.backgroundDispatch l) s = s.becomes (s.dev.backgroundDispatch l.val) := rfl
theorem exec_swap (l : Fin 256) (dst : Fin 272) (s : State) : exec (.swap l dst) s = s.becomes (s.dev.fenSwap l.val dst.val) := rfl
theorem exec_fenUnitFailure (u : Fin 272) (byMemory : Bool) (spare : Fin 272) (ports : List (Fin 24)) (slots : List (Fin 16384)) (s : State) : exec (.fenUnitFailure u byMemory spare ports slots) s = s.becomes (s.dev.fenUnitFailure u byMemory spare (ports.map Fin.val) (slots.map Fin.val)) := rfl
theorem exec_haltWrite (m : Fin 8) (u : Fin 272) (v : Word) (s : State) : exec (.haltWrite m u v) s = s.becomes (s.dev.busWrite m (fenOffset u 0) v.toNat (·.writeHalt u v.toNat)) := rfl
theorem exec_guardOvfClear (m : Fin 8) (u : Fin 272) (v : Word) (s : State) : exec (.guardOvfClear m u v) s = s.becomes (s.dev.busWrite m (fenOffset u 4) v.toNat (·.clearGuardOvf u v.toNat)) := rfl
theorem exec_pmWindowWrite (m : Fin 8) (u : Fin 272) (word : Fin 4096) (v : Word) (s : State) : exec (.pmWindowWrite m u word v) s = s.becomes (s.dev.busWrite m (fenOffset u (0x3800 + 4 * word)) v.toNat (·.writeFenWindow u word v.toNat)) := rfl
theorem exec_causewaySuperframe (link : Fin 2) (s : State) : exec (.causewaySuperframe link) s = s.becomes (s.dev.linkSuperframe link) := rfl
theorem exec_keepalive (h : CswHead) (k : CswKeep) (s : State) : exec (.keepalive h k) s = s.becomes (s.dev.keepaliveIn h k) := rfl
theorem exec_control (h : CswHead) (bytes : List Byte) (s : State) : exec (.control h bytes) s = s.becomes (s.dev.classIn h 1 (·.controlIn bytes)) := rfl
theorem exec_live (h : CswHead) (item : LiveItem) (s : State) : exec (.live h item) s = s.becomes (s.dev.classIn h 2 (·.liveIn h.cseq.toNat (serialSub 32 h.cseq.toNat (s.dev.csw.rxSeq.getD 2 0) != 1) item)) := rfl
theorem exec_checkpoint (h : CswHead) (epoch : BitVec 32) (bytes : List Byte) (content : Option Checkpoint) (s : State) : exec (.checkpoint h epoch bytes content) s = s.becomes (s.dev.classIn h 3 (·.checkpointIn epoch.toNat (serialSub 32 h.cseq.toNat (s.dev.csw.rxSeq.getD 3 0) != 1) bytes content)) := rfl
theorem exec_marker (h : CswHead) (epoch : BitVec 32) (crc : BitVec 32) (s : State) : exec (.marker h epoch crc) s = s.becomes (s.dev.classIn h 4 (·.markerIn epoch.toNat crc.toNat)) := rfl
theorem exec_markerDeadline (s : State) : exec (.markerDeadline) s = s.becomes (s.dev.markerDeadline) := rfl
theorem exec_sealRx (h : CswHead) (dest : Fin 1536) (frame : BitVec 48) (first : BitVec 16) (seals : List Word) (s : State) : exec (.sealRx h dest frame first seals) s = s.becomes (s.dev.classIn h 5 (·.sealsIn dest frame.toNat first.toNat seals)) := rfl
theorem exec_time (h : CswHead) (x : TimeIn) (s : State) : exec (.time h x) s = s.becomes (s.dev.classIn h 6 (·.timeIn x)) := rfl
theorem exec_yieldReq (h : CswHead) (s : State) : exec (.yieldReq h) s = s.becomes (s.dev.classIn h 7 (·.yieldIn)) := rfl
theorem exec_blame (h : CswHead) (dest : Fin 1536) (slot : BitVec 11) (agree : Bool) (seals : List Nat) (s : State) : exec (.blame h dest slot agree seals) s = s.becomes (s.dev.classIn h 8 (·.blameIn dest slot.toNat agree seals)) := rfl
theorem exec_blameTimeout (s : State) : exec (.blameTimeout) s = s.becomes (s.dev.blameTimeout) := rfl
theorem exec_hello (h : CswHead) (salt : List Byte) (s : State) : exec (.hello h salt) s = s.becomes (s.dev.helloIn h salt) := rfl
theorem exec_keepaliveSend (s : State) : exec (.keepaliveSend) s = s.becomes (s.dev.keepaliveSend) := rfl
theorem exec_timeSend (s : State) : exec (.timeSend) s = s.becomes (s.dev.timeSend) := rfl
theorem exec_keepaliveTimeout (link : Fin 2) (s : State) : exec (.keepaliveTimeout link) s = s.becomes (s.dev.keepaliveTimeout link) := rfl
theorem exec_actClaimInChange (level : Bool) (s : State) : exec (.actClaimInChange level) s = s.becomes (s.dev.claimChanges level) := rfl
theorem exec_dualActiveTimeout (s : State) : exec (.dualActiveTimeout) s = s.becomes (s.dev.dualTimeout) := rfl
theorem exec_claimSilenceTimeout (s : State) : exec (.claimSilenceTimeout) s = s.becomes (s.dev.claimSilence) := rfl
theorem exec_lathLossTimeout (s : State) : exec (.lathLossTimeout) s = s.becomes (s.dev.lathLoss) := rfl
theorem exec_offsetExcess (s : State) : exec (.offsetExcess) s = s.becomes (s.dev.offsetExcess) := rfl
theorem exec_vetoExpiry (s : State) : exec (.vetoExpiry) s = s.becomes (s.dev.vetoExpiry) := rfl
theorem exec_peerConfigTimeout (s : State) : exec (.peerConfigTimeout) s = s.becomes (s.dev.peerTimeout) := rfl
theorem exec_roleStatus (q : Req) (s : State) : exec (.roleStatus q) s = s.becomes (s.dev.roleStatus q) := rfl
theorem exec_switchover (q : Req) (s : State) : exec (.switchover q) s = s.becomes (s.dev.switchover q) := rfl
theorem exec_redundancyConfig (q : Req) (s : State) : exec (.redundancyConfig q) s = s.becomes (s.dev.redundancyConfig q) := rfl
theorem exec_blameStatus (q : Req) (s : State) : exec (.blameStatus q) s = s.becomes (s.dev.blameStatus q) := rfl
theorem exec_takeoverReportGet (q : Req) (s : State) : exec (.takeoverReportGet q) s = s.becomes (s.dev.reportGet q) := rfl
theorem exec_resyncRequest (q : Req) (s : State) : exec (.resyncRequest q) s = s.becomes (s.dev.resyncRequest q) := rfl
theorem exec_resyncDone (q : Req) (s : State) : exec (.resyncDone q) s = s.becomes (s.dev.resyncDone q) := rfl
theorem exec_peerConfig (q : Req) (s : State) : exec (.peerConfig q) s = s.becomes (s.dev.peerConfig q) := rfl
theorem exec_sliceStart (pool : Fin 4) (unit : Fin 2048) (s : State) : exec (.sliceStart pool unit) s = s.becomes (s.dev.sliceStart pool unit) := rfl
theorem exec_sliceEnd (pool : Fin 4) (r : SliceResult) (s : State) : exec (.sliceEnd pool r) s = s.becomes (s.dev.sliceEnd pool r) := rfl
theorem exec_unitRestore (pool : Fin 4) (s : State) : exec (.unitRestore pool) s = s.becomes (s.dev.unitRestore pool) := rfl
theorem exec_efuseWordWrite (readsBack : Bool) (s : State) : exec (.efuseWordWrite readsBack) s = s.becomes ((s.dev.fuseWord readsBack).askedReset) := rfl
theorem exec_nonceExpiry (s : State) : exec (.nonceExpiry) s = s.becomes (s.dev.nonceExpiry) := rfl
theorem exec_bypass (s : State) : exec (.bypass) s = s.becomes (s.dev.setIr 0xFFFF) := rfl
theorem exec_idcode (s : State) : exec (.idcode) s = s.becomes ((s.dev.setIr 0x0001).emit (.tdo 0x215369CB)) := rfl
theorem exec_samplePreload (levels : List Bool) (s : State) : exec (.samplePreload levels) s = s.becomes (s.dev.preload levels) := rfl
theorem exec_extest (s : State) : exec (.extest) s = s.becomes (s.dev.testMode 0x0003 false) := rfl
theorem exec_extestPulse (s : State) : exec (.extestPulse) s = s.becomes (s.dev.testMode 0x0004 false) := rfl
theorem exec_extestTrain (s : State) : exec (.extestTrain) s = s.becomes (s.dev.testMode 0x0005 false) := rfl
theorem exec_scanEnter (s : State) : exec (.scanEnter) s = s.becomes (s.dev.testMode 0x0010 true) := rfl
theorem exec_mbistRun (s : State) : exec (.mbistRun) s = s.becomes (s.dev.testMode 0x0011 true) := rfl
theorem exec_debug (s : State) : exec (.debug) s = s.becomes ((s.dev.enterDebug).debugOut) := rfl
theorem exec_tapReset (s : State) : exec (.tapReset) s = s.becomes (s.dev.tapReset) := rfl
theorem exec_bistStatusGet (q : Req) (s : State) : exec (.bistStatusGet q) s = s.becomes (s.dev.bistStatusGet q) := rfl
theorem exec_rollConfig (q : Req) (s : State) : exec (.rollConfig q) s = s.becomes (s.dev.rollConfig q) := rfl
theorem exec_repairStatusGet (q : Req) (s : State) : exec (.repairStatusGet q) s = s.becomes (s.dev.repairStatusGet q) := rfl
theorem exec_efuseNonceGet (q : Req) (nonce : BitVec 128) (s : State) : exec (.efuseNonceGet q nonce) s = s.becomes (s.dev.efuseNonceGet q nonce.toNat) := rfl
theorem exec_efuseProgram (q : Req) (_keyOk _sigOk : Computed) (s : State) : exec (.efuseProgram q _keyOk _sigOk) s = s.becomes (s.dev.efuseProgram q) := rfl
theorem exec_hltTrigWrite (m : Fin 8) (v : Word) (s : State) : exec (.hltTrigWrite m v) s = s.becomes (s.dev.busWrite m 0xB00004 v.toNat (·.clearTriggers v.toNat)) := rfl
theorem exec_tjTimeout (tj : Int) (s : State) : exec (.tjTimeout tj) s = s.becomes (s.dev.tjTimeout tj) := rfl
theorem exec_wearSecond (mean tj hbmA hbmB : Int) (s : State) : exec (.wearSecond mean tj hbmA hbmB) s = s.becomes (s.dev.wearSecond mean tj hbmA hbmB) := rfl
theorem exec_healthStatusGet (q : Req) (s : State) : exec (.healthStatusGet q) s = s.becomes (s.dev.healthStatusGet q) := rfl
theorem exec_healthClear (q : Req) (s : State) : exec (.healthClear q) s = s.becomes (s.dev.healthClear q) := rfl
theorem exec_healthConfig (q : Req) (s : State) : exec (.healthConfig q) s = s.becomes (s.dev.healthConfig q) := rfl
theorem exec_wearSet (q : Req) (s : State) : exec (.wearSet q) s = s.becomes (s.dev.wearSet q) := rfl
theorem exec_ledgerStatusGet (q : Req) (s : State) : exec (.ledgerStatusGet q) s = s.becomes (s.dev.ledgerStatusGet q) := rfl
theorem exec_ledgerRead (q : Req) (s : State) : exec (.ledgerRead q) s = s.becomes (s.dev.ledgerRead q) := rfl
theorem exec_railExcursion (rail : Fin 8) (s : State) : exec (.railExcursion rail) s = s.becomes (s.dev.railExcursion rail) := rfl
theorem exec_thermalTrip (sensor : Fin 18) (s : State) : exec (.thermalTrip sensor) s = s.becomes (s.dev.thermalTrip sensor) := rfl
theorem exec_i2cRead (off : Word) (s : State) : exec (.i2cRead off) s = s.becomes (s.dev.i2cRead off.toNat) := rfl
theorem exec_relock (domain : Fin 18) (restart : Bool) (s : State) : exec (.relock domain restart) s = s.becomes (s.dev.relock domain restart) := rfl
theorem exec_refPinEdge (x : PinEdge) (s : State) : exec (.refPinEdge x) s = s.becomes (s.dev.whileRef (·.pinEdge x.pin x.falling)) := rfl
theorem exec_signalDetected (lane : Fin 392) (s : State) : exec (.signalDetected lane) s = s.becomes (s.dev.signalDetected lane) := rfl
theorem exec_lathReaderAdvance (count : Nat) (s : State) : exec (.lathReaderAdvance count) s = s.becomes (s.dev.lathReads count) := rfl
theorem exec_fenReloadDone (l : Fin 256) (image : List Word) (s : State) : exec (.fenReloadDone l image) s = s.becomes (s.dev.reloadDone l.val (image.map BitVec.toNat)) := rfl
theorem exec_pciConfigWrite (x : PciConfig) (s : State) : exec (.pciConfigWrite x) s = s.becomes (s.dev.pciConfig x) := rfl
theorem exec_tjConditionEnd (tj : Int) (s : State) : exec (.tjConditionEnd tj) s = s.becomes (s.dev.tjConditionEnd tj) := rfl

/-- BAR2_WRITE: the device and the Mere bytes after it. -/
theorem exec_bar2Write (off : BitVec 35) (bytes : List Byte) (s : State) :
    exec (.bar2Write off bytes) s = (bar2Write off.toNat bytes s).becomes (bar2Write off.toNat bytes s).dev := rfl

/-- POR_RELEASE: memory BIST leaves Mere cleared. -/
theorem exec_porRelease (x : BootIn) (s : State) :
    exec (.porRelease x) s = .next { s with dev := (s.dev.porRelease x).flush, mere := if s.dev.startable then [] else s.mere } := rfl

theorem exec_ingestLine (slot : Fin 1536) (l : LineIn) (s : State) :
    exec (.ingestLine slot l) s = liftMere (s.dev.slotBase slot) (·.ingestLine slot l) s := rfl

theorem exec_sourceFrameEnd (slot : Fin 1536) (f : FrameIn) (s : State) :
    exec (.sourceFrameEnd slot f) s = liftMere (s.dev.slotBase slot) (·.frameEnds slot f) s := rfl

theorem exec_targetError (m : Fin 8) (x : Access) (s : State) :
    exec (.targetError m x) s = (s.access m (·.busAccess m x)).becomes (s.access m (·.busAccess m x)).dev := rfl

theorem exec_thermalRecovery (x : BootIn) (s : State) : exec (.thermalRecovery x) s = execThermalRecovery x s := rfl

end Sys2Proof.Machine
end

