-- ==== Sys2Proof/Certificates/Slice0/Obligations.lean ====
section
/-! DEFINITION. The statements for the provers, in the manual's order: what each command does where its rules let it act, the
frames that follow, and what holds of every step. -/

open Sys2Proof Sys2Proof.Machine

/-- O1. A step takes the command at the front of the queue and carries it out on the state with the queue's rest (the form of a block's
step; log entry 2 for the empty queue, on which one CORE cycle passes and nothing else changes, the model's own choice). -/
def Obligations.StepRunsTheFrontCommand : Prop :=
  (∀ (c : Instr) (rest : List Instr) (s : State), step { s with pending := c :: rest } = exec c { s with pending := rest }) ∧
  (∀ s : State, s.pending = [] →
    step s = .next { s with dev := { s.dev with clock := ⟨s.dev.clock.core + 1, s.dev.clock.time16 + 65536⟩ } })

/-- O2. Every command answers a next state with the queue as it was. The bytes of Mere are as they were after every command but six: a
host write through BAR2 (R132), an access of a bus master (R77), a line and the end of a source frame, whose lines and proxies
Mere takes (R202, R204), and a start-up (POR_RELEASE, THERMAL_RECOVERY), whose memory BIST clears them (log entry 40). -/
def Obligations.OnlySixCommandsTouchMere : Prop :=
  ∀ (c : Instr) (s : State), ∃ t, exec c s = .next t ∧ t.pending = s.pending ∧
    ((∀ off bytes, c ≠ .bar2Write off bytes) → (∀ m x, c ≠ .targetError m x) → (∀ b l, c ≠ .ingestLine b l) →
      (∀ b f, c ≠ .sourceFrameEnd b f) → (∀ x, c ≠ .porRelease x) → (∀ x, c ≠ .thermalRecovery x) → t.mere = s.mere)

/-- O3. The canonical form of the Mere bytes (addresses strictly rising, no entry equal to what an unlisted byte reads as) is an
invariant of every step, from every state that has it. -/
def Obligations.MereStaysCanonical : Prop :=
  ∀ s t : State, s.wf → step s = .next t → t.wf

/-- O4. Mere has its canonical form after reset, and nothing is listed and no command is pending (log entry 40 names what a byte then
reads as, the model's choice). -/
def Obligations.ResetMereIsCanonical : Prop :=
  State.reset.wf ∧ State.reset.mere = [] ∧ State.reset.pending = []

/-- O5. R33: the frame number of TIME t is floor(t × n ÷ (d × 10⁹)), and the frame tick of frame F lies at the smallest t with that
frame number. -/
def Obligations.FrameTickIsTheSmallestTime : Prop :=
  ∀ code t f : Nat, frameOf code t = t * rateN code / (rateD code * 10 ^ 9) ∧
    frameOf code (frameStart code f) = f ∧ (frameOf code t = f → frameStart code f ≤ t)

/-- O6. R34: the block number of TIME t is floor(t × 3 ÷ 10⁶), and the audio block tick of block B lies at the smallest t with that
block number. -/
def Obligations.BlockTickIsTheSmallestTime : Prop :=
  ∀ t b : Nat, blockOf t = t * 3 / 10 ^ 6 ∧ blockOf (blockStart b) = b ∧ (blockOf t = b → blockStart b ≤ t)

/-- O7. TICK_CTRL.START loads TIME from the preset while PTP time is not valid and waits for the first boundary (R36); STOP stops the
tick at the end of the frame in progress or cancels the wait, and prevails over START (R53); TICK_CFG takes its fields only
while the tick is stopped, and while it runs raises CFG_WHILE_RUN for each field that differs (R52); TIME_PRESET stores the
preset; lock regained sets the domain's bit, transmit lanes whose PLL is locked again leave OFF (R174), and the firmware may
then restart a tick that its loss stopped (log entry 2: CORE and TIME keep step, the model's choice). -/
def Obligations.TickControlActs : Prop :=
  (∀ (m : Fin 8) (v : Word) (s : State), s.dev.Reaches m 0x700004 → bit v.toNat 0 = true → bit v.toNat 1 = false →
    s.dev.running = false → s.dev.rate ≤ 10 → ∃ t, exec (.tickStart m v) s = .next t ∧
      t.dev.tick.waiting = true ∧ t.dev.tick.stopping = none ∧ t.dev.running = false ∧
      t.dev.clock.core = s.dev.clock.core ∧
      t.dev.clock.time16 = (if s.dev.timeValid = 1 then s.dev.clock.time16 else 65536 * s.dev.preset % 2 ^ 80) ∧
      t.dev.tick.next = firstFrame s.dev.rate t.dev.clock.time16 ∧
      t.dev.tick.commits = s.dev.tick.commits ∧ t.dev.reg = s.dev.reg ∧ t.dev.shadow = s.dev.shadow) ∧
  (∀ (m : Fin 8) (v : Word) (s : State), s.dev.Reaches m 0x700004 → bit v.toNat 1 = true →
    ∃ t, exec (.tickStop m v) s = .next t ∧ t.dev.reg = s.dev.reg ∧ t.dev.shadow = s.dev.shadow ∧ t.dev.clock = s.dev.clock ∧
      t.dev.tick = if s.dev.running then { s.dev.tick with stopping := some (s.dev.tick.stopping.getD 0) }
        else { s.dev.tick with waiting := false }) ∧
  (∀ (m : Fin 8) (v : Word) (s : State), s.dev.Reaches m 0x700004 → bit v.toNat 0 = true → bit v.toNat 1 = false →
    s.dev.running = true → exec (.tickStart m v) s = s.becomes ((s.dev.transaction m).written m 0x700004 v.toNat)) ∧
  (∀ (m : Fin 8) (v : Word) (s : State), s.dev.Reaches m 0x700004 → bit v.toNat 0 = true → bit v.toNat 1 = false →
    s.dev.running = false → 10 < s.dev.rate →
    exec (.tickStart m v) s = s.becomes (((s.dev.transaction m).raise 37 [0]).written m 0x700004 v.toNat)) ∧
  (∀ (m : Fin 8) (v : Word) (s : State), s.dev.Reaches m 0x700000 → s.dev.running = false →
    ∃ t, exec (.tickCfgWrite m v) s = .next t ∧
      t.dev.get F.TICK_CFG_HOUSE_RATE = bits v.toNat 0 4 ∧ t.dev.get F.TICK_CFG_BLOCK_RATE = bits v.toNat 4 1 ∧
      (∀ g j, g.id ≠ F.TICK_CFG_HOUSE_RATE.id → g.id ≠ F.TICK_CFG_BLOCK_RATE.id → t.dev.get g j = s.dev.get g j) ∧
      t.dev.tick = s.dev.tick ∧ t.dev.shadow = s.dev.shadow) ∧
  (∀ (m : Fin 8) (v : Word) (s : State), s.dev.Reaches m 0x700000 → s.dev.running = true →
    bits v.toNat 0 4 ≠ s.dev.rate → bits v.toNat 4 1 ≠ s.dev.get F.TICK_CFG_BLOCK_RATE →
    exec (.tickCfgWrite m v) s =
      s.becomes ((((s.dev.transaction m).raise 37 [0]).raise 37 [4]).written m 0x700000 v.toNat)) ∧
  (∀ (q : Req) (s : State) (ts : List Tlv) (e : Dev), s.dev.Accepts q timePresetSpec ts e → e.running = false →
    exec (.timePreset q) s = s.becomes (((e.set F.TICK_TIME_PRESET_LO_NS 0 (tlvNum ts 0x0101)).set F.TICK_TIME_PRESET_MID_NS 0
      (tlvNum ts 0x0101 / 2 ^ 32)).reply q 0x0512 St.ok)) ∧
  (∀ (k : Fin 18) (restart : Bool) (s : State),
    let d := s.dev.set F.CLK_STATUS_LOCK 0 (s.dev.get F.CLK_STATUS_LOCK ||| 2 ^ k.val)
    let d := if k.val = 7 then (d.each (List.range 16) fun d g => d.hset H.txPllLost g 0).txReviewAll else d
    exec (.relock k restart) s =
      s.becomes (if restart && d.lathRuns && d.hget H.tickLost == 1 && d.tickClocks then d.tickStart else d))

/-- O8. A running tick opens its next frame at T0 (TIME at the frame's boundary, the epoch one more, T1 and T2 open, T3 closed), applies
the commits due and lets every block take its values (R39); the first tick after a start, at a rate that is not reserved (R52),
settles what is pending first (R542); the cutoff closes T1, half-frame T2, and T3 latches the ledgers (R39, R41, R42); a tick
that stops ends the frame in progress and raises its event with the cause (R38, R53); the audio block tick ends one block and
begins the next (R50, R51). The named phases are the model's own operations, one per block of the device. -/
def Obligations.TickPhasesAct : Prop :=
  (∀ (x : TickIn) (s : State), s.dev.tick.waiting = false → s.dev.ticking = true →
    let n := s.dev.tick.next
    let o := s.dev.t3Overrun.saveCut.openFrame n
    let a := o.salvosEnd
    let mv := a.tick.commits.any fun c => c.due n && bit c.groups 5
    let d := ((a.applyDue n).blocksAtT0 a n mv x).poolDemand
    exec (.frameTick x) s =
      s.becomes (((d.set F.TICK_CUTOFF_CYCLES 0 (d.cutoffAt n)).rolesAtT0 n).triggerAll 2 fun _ => true).fenFrameTick ∧
    o.tick.frame = n ∧ o.tick.next = n + 1 ∧ o.get F.TICK_EPOCH_EPOCH = (s.dev.get F.TICK_EPOCH_EPOCH + 1) % 2 ^ 32 ∧
    o.running = true ∧ o.get F.TICK_STATUS_T1_OPEN = 1 ∧ o.get F.TICK_STATUS_T2_OPEN = 1 ∧ o.get F.TICK_STATUS_T3_OPEN = 0 ∧
    o.tick.t0Time = 65536 * frameStart s.dev.rate n ∧
    o.clock.time16 = max s.dev.clock.time16 (65536 * frameStart s.dev.rate n)) ∧
  (∀ (x : TickIn) (s : State), s.dev.tick.waiting = true → s.dev.rate ≤ 10 →
    let n := firstFrame s.dev.rate s.dev.clock.time16
    let d := (s.dev.settlePending n).hset H.tickLost 0 0
    let first := ((({ d with tick := { d.tick with block := d.get F.TICK_CFG_BLOCK_RATE } }).atT0 n x).txReviewAll).leaveStep11
    exec (.frameTick x) s = s.becomes first ∧ exec (.tickRestart x) s = s.becomes first) ∧
  (∀ (x : TickIn) (s : State), s.dev.running = true → s.dev.tick.stopping = none → s.dev.tick.stepped = true →
    let n := s.dev.tick.next
    let v : Int := (n : Int) - ((s.dev.tick.frame : Int) + 1)
    exec (.renumberTick x) s = s.becomes
      ((((s.dev.passTo (65536 * frameStart s.dev.rate n)).moveTargets v).raise 34 (words2 (ofSigned 64 v))).atT0 n x)) ∧
  (∀ s : State, s.dev.running = true →
    exec .cutoff s = s.becomes
      ((s.dev.passToCore (s.dev.tick.t0Core + s.dev.get F.TICK_CUTOFF_CYCLES)).set F.TICK_STATUS_T1_OPEN 0 0).sendCheckpoint) ∧
  (∀ s : State, s.dev.running = true →
    exec .halfFrame s = s.becomes
      ((s.dev.passToCore (s.dev.tick.t0Core + framePeriod s.dev.rate / 2)).set F.TICK_STATUS_T2_OPEN 0 0).salvosEnd.sendMarker) ∧
  (∀ (k : Nat) (s : State), s.dev.running = true →
    let d := (s.dev.passToCore (s.dev.tick.t0Core + 7 * framePeriod s.dev.rate / 8)).set F.TICK_STATUS_T3_OPEN 0 1
    let e := d.salvosEnd.latchLedgers.latchMonitors.changeovers.fenT3 d.tick.frame
    exec (.ledgerLatch k) s = s.becomes (e.checkLedgers k e.tick.frame).firmwareTriggers) ∧
  (∀ (cause : Nat) (s : State), s.dev.running = true → s.dev.tick.stopping = some cause → s.dev.hget H.t3Left = 0 →
    s.dev.hget H.ptpValid = 0 →
    let d := s.dev.passTo (65536 * frameStart s.dev.rate s.dev.tick.next)
    let d := { d with tick := { d.tick with stopping := none, stepped := false } }
    let d := (((d.set F.TICK_STATUS_RUN 0 0).set F.TICK_STATUS_T1_OPEN 0 0).set F.TICK_STATUS_T2_OPEN 0 0).set F.TICK_STATUS_T3_OPEN 0 0
    exec .tickHalt s = s.becomes (((d.hset H.tickLost 0 (ofBool (cause != 0))).raise 38 [cause]).txReviewAll.healthReview)) ∧
  (∀ (x : BlockIn) (s : State), s.dev.running = true →
    let b := s.dev.tick.nextBlock
    let d := s.dev.passTo (65536 * blockStart b)
    let r := ({ d with tick := { d.tick with nextBlock := b + 1 } }).blockEnds (b - 1) x
    exec (.blockTick x) s = s.becomes (r.1.blockBegins x r.2))

/-- O9. A commit from TICK_COMMIT or COMMIT that names groups reaches the tick block as the last pending one, with its groups taken from
the earlier ones (R46), and is mirrored (R463; the item's layout is log entry 12). One for a frame whose T0 has passed completes
LATE (R44), before 16 pending ones are looked for (log entry 302, the model's choice); one with 16 pending completes
RESOURCE_EXHAUSTED (R46); COMMIT with GROUPS 0 completes BAD_PARAM (R43). TICK_STATUS_GET answers the frame, the epoch, the
cutoff and TIME_VALID. In the second half of a frame the firmware writes the changes it holds for the next frame (R109). -/
def Obligations.CommitsAct : Prop :=
  (∀ (m : Fin 8) (v : Word) (s : State), s.dev.Reaches m 0x700028 → bit v.toNat 31 = true →
    (m = 1 → s.dev.groupsBarred 0 (bits v.toNat 0 12) = false) → s.dev.tick.commits.length < 16 →
    (s.dev.commitTarget = 0 ∨ s.dev.tick.frame < s.dev.commitTarget) →
    let g := bits v.toNat 0 12
    let n := s.dev.tick.bar0Issued + 1
    let c : Commit := ⟨s.dev.commitTarget, g, .bar0 n, g == 0, s.dev.csw.nextSeq 2⟩
    let d := (s.dev.transaction m).set F.TICK_COMMIT_GROUPS 0 g
    let d := (({ d with tick := { d.tick with bar0Issued := n } }.set F.TICK_COMMIT_STATUS_STATE 0 1).bump
      K.COMMITS_ACCEPTED).takeGroups g
    let d := { d with tick := { d.tick with commits := d.tick.commits ++ [c] } }
    exec (.tickCommitGo m v) s = s.becomes ((d.live
      (if c.target = 0 ∧ d.running then { c with target := d.tick.frame + 1 } else c).item).written m 0x700028 v.toNat)) ∧
  (∀ (q : Req) (s : State) (ts : List Tlv) (e : Dev), s.dev.Accepts q commitSpec ts e →
    1 ≤ tlvNum ts 0x0101 → tlvNum ts 0x0101 < 4096 → e.groupsBarred q.port (tlvNum ts 0x0101) = false →
    e.tick.commits.length < 16 → (frameTlv ts = 0 ∨ e.tick.frame < frameTlv ts) →
    let c : Commit := ⟨frameTlv ts, tlvNum ts 0x0101, .command q.port q.tag q.src, false, e.csw.nextSeq 2⟩
    let d := ((e.respond q.port q.src q.tag 0x0510 St.pending [] false).bump K.COMMITS_ACCEPTED).takeGroups (tlvNum ts 0x0101)
    let d := { d with tick := { d.tick with commits := d.tick.commits ++ [c] } }
    exec (.commit q) s = s.becomes (d.live
      (if c.target = 0 ∧ d.running then { c with target := d.tick.frame + 1 } else c).item)) ∧
  (∀ (q : Req) (s : State) (ts : List Tlv) (e : Dev), s.dev.Accepts q commitSpec ts e →
    1 ≤ tlvNum ts 0x0101 → tlvNum ts 0x0101 < 4096 → e.groupsBarred q.port (tlvNum ts 0x0101) = false → e.lathRuns = true →
    frameTlv ts ≠ 0 → frameTlv ts ≤ e.tick.frame →
    exec (.commit q) s = s.becomes ((((e.bump K.COMMITS_ACCEPTED).bump K.COMMITS_LATE).raise 33
      (words2 (frameTlv ts) ++ [tlvNum ts 0x0101])).respond q.port q.src q.tag 0x0510 St.late [])) ∧
  (∀ (q : Req) (s : State) (ts : List Tlv) (e : Dev), s.dev.Accepts q commitSpec ts e →
    1 ≤ tlvNum ts 0x0101 → tlvNum ts 0x0101 < 4096 → e.groupsBarred q.port (tlvNum ts 0x0101) = false → e.lathRuns = true →
    (frameTlv ts = 0 ∨ e.tick.frame < frameTlv ts) → 16 ≤ e.tick.commits.length →
    exec (.commit q) s = s.becomes (e.respond q.port q.src q.tag 0x0510 St.exhausted [])) ∧
  (∀ (q : Req) (s : State) (e : Dev), s.dev.TakesUp q 0x0510 e → e.ready = true → e.rolePermits q.port 0x0510 = true →
    let r := parseTlvs (q.payload.length + 1) 0 q.payload
    commitSpec.form r.1 r.2 = none → tlvNum r.1 0x0101 = 0 →
    ∃ i, valueFault (commitSpec.parsAt e.frameNow) 0 r.1 = some i ∧
      exec (.commit q) s = s.becomes (e.reply q 0x0510 St.badParam [statusDetail i 0xFF 0])) ∧
  (∀ (q : Req) (s : State) (ts : List Tlv) (e : Dev), s.dev.Accepts q tickStatusGetSpec ts e →
    exec (.tickStatusGet q) s = s.becomes (e.reply q 0x0511 St.ok
      [data [w8 e.tick.frame, w4 (e.get F.TICK_EPOCH_EPOCH), w4 (e.get F.TICK_CUTOFF_CYCLES), w4 e.timeValid]])) ∧
  (∀ (s : State) (h : HeldChange) (hs : List HeldChange), s.dev.lathRuns = true → s.dev.running = true →
    s.dev.tick.changes.filter (fun c => c.frame == s.dev.tick.frame + 1 && !c.written) = h :: hs → s.dev.tick.commits.length < 16 →
    let n := s.dev.tick.frame + 1
    let d := (s.dev.passToCore (s.dev.tick.t0Core + framePeriod s.dev.rate / 2)).each (h :: hs) Dev.writeChange
    let done := d.tick.changes.filter fun h => h.frame == n && h.written
    exec .heldChangeWrite s = s.becomes (if done.isEmpty then d
      else d.issueCommit n (groupsOf (done.flatMap HeldChange.writes)) (.firmware n h.port h.tag)))

/-- O10. A commit that names groups takes each of them away from every pending commit; those left with no group leave the pending list,
and an empty commit stays (R43, R46). The copies in effect change only in TICK_COMMIT_STATUS (R44). -/
def Obligations.ATakenGroupLeavesTheEarlierCommits : Prop :=
  ∀ (d : Dev) (groups : Nat),
    (d.takeGroups groups).tick.commits =
      (d.tick.commits.map fun c => { c with groups := c.groups &&& (0xFFF ^^^ groups) }).filter (fun c => c.groups != 0 || c.empty) ∧
    (d.takeGroups groups).shadow = d.shadow ∧
    ∀ (g : Fld) (j : Nat), g.id ≠ F.TICK_COMMIT_STATUS_STATE.id → g.id ≠ F.TICK_COMMIT_STATUS_APPLIED_EPOCH.id →
      (d.takeGroups groups).get g j = d.get g j

/-- O11. A commit applies every shadow copy of the groups it names and no field of any other group (R43): after it, a field of a named
group has its shadow copy's value in effect, every other field keeps its value, and every shadow copy reads as before (R47),
where the tables are in the form that TableFormIsKept states. -/
def Obligations.ACommitAppliesItsGroups : Prop :=
  ∀ (d : Dev) (mask : Nat), d.reg.sorted = true → d.shadow.sorted = true → ∀ f ∈ shFields, ∀ i,
    (d.applyGroups mask).get f i = (if (groupOf f.id).any (bit mask) then d.getShadow f i else d.get f i) ∧
    (d.applyGroups mask).getShadow f i = d.getShadow f i

/-- O12. R6: when an SH field is written more than once before the commit that applies it, the last value written takes effect, and the
earlier ones are discarded without an event; where the tables are in the form that TableFormIsKept states. -/
def Obligations.TheLastShadowWriteTakesEffect : Prop :=
  ∀ (d : Dev) (f : Fld) (i mask g : Nat) (vs : List Nat) (v : Nat), f ∈ shFields → groupOf f.id = some g → bit mask g = true →
    d.reg.sorted = true → d.shadow.sorted = true →
    let e := ((vs ++ [v]).foldl (fun d v => d.load f i v) d)
    e.get f i = d.get f i ∧ (e.applyGroups mask).get f i = v % 2 ^ f.width ∧
    (e.applyGroups mask).evt = d.evt ∧ (e.applyGroups mask).out = d.out

/-- O13. The tables that hold the registers, the shadow copies, the implied values and the counts keep their order (keys rising strictly,
so each key is listed once) under every operation that writes them: a store of a field, of an implied value, of a shadow copy or
of a count, a commit and the reload of shadow copies; and they have it after reset. -/
def Obligations.TableFormIsKept : Prop :=
  (∀ (d : Dev) (f : Fld) (i v : Nat), d.reg.sorted = true → (d.set f i v).reg.sorted = true) ∧
  (∀ (d : Dev) (f : Fld) (i v : Nat), d.hid.sorted = true → (d.hset f i v).hid.sorted = true) ∧
  (∀ (d : Dev) (f : Fld) (i v : Nat), d.shadow.sorted = true → (d.load f i v).shadow.sorted = true) ∧
  (∀ (d : Dev) (c : Ctr) (i n : Nat), d.ctr.sorted = true → (d.bump c i n).ctr.sorted = true) ∧
  (∀ (d : Dev) (mask : Nat), d.reg.sorted = true → d.shadow.sorted = true →
    (d.applyGroups mask).reg.sorted = true ∧ (d.applyGroups mask).shadow.sorted = true) ∧
  (∀ (d : Dev) (mask : Nat), d.shadow.sorted = true → (d.reloadGroups mask).shadow.sorted = true) ∧
  State.reset.dev.reg.sorted = true ∧ State.reset.dev.shadow.sorted = true ∧ State.reset.dev.hid.sorted = true ∧
    State.reset.dev.ctr.sorted = true

/-- O14. POR_N low returns every register, shadow copy, count and implied value to its reset value, but for what is burned in eFuse and
the levels on the pins, which are sampled again (R72, R124); a device reset by TOP_RESET does so too, keeps what R494 and R503
keep, and names its cause and domain (R72); a Lath restart answers every pending tag, ends the leases and clears LATH_RUN and
REMAP (R73, R85, R119), while the datapaths stay; it waits for an eFuse word in progress (R74), and ends when steps 7 and 8 have
run again (R73). Reset values that the spec does not state are those of the log (entry 1 names them). -/
def Obligations.ResetsReturnToTheirValues : Prop :=
  (∀ s : State, ∃ t, exec .porAssert s = .next t ∧
    (∀ f i, f.id ≠ F.CSW_ROLE_CLAIM_IN.id → f.id ≠ F.GPIO_LEVEL_LEVEL.id → t.dev.get f i = f.dflt i) ∧
    (∀ f i, f.id ∉ [H.pinSeat, H.gpioBall, H.gpioPin, H.gpioActive].map Fld.id → t.dev.hget f i = f.dflt i) ∧
    (∀ n, t.dev.hget H.gpioPin n = t.dev.hget H.gpioBall n) ∧
    t.dev.shadow = [] ∧ t.dev.ctr = [] ∧ t.dev.clock = ⟨0, 0⟩ ∧ t.dev.tick = Tick.reset ∧
    t.dev.bist = { Bist.reset with efuse := s.dev.bist.efuse } ∧ t.mere = s.mere) ∧
  (∀ (m : Fin 8) (v : Word) (s : State), s.dev.Reaches m 0xC → v.toNat = 0x5A000001 → s.dev.hget H.porLow ≠ 1 → s.dev.bist.work = [] →
    exec (.topResetDevice m v) s = s.becomes (((s.dev.transaction m).resetNow 1 0).written m 0xC v.toNat) ∧
    ∃ t, exec (.topResetDevice m v) s = .next t ∧
      (∀ f i, f.id ∉ [F.CSW_ROLE_CLAIM_IN, F.HLT_WEAR_LO_WEAR, F.HLT_WEAR_HI_WEAR, F.HLT_STATUS_WEAR_VALID, F.LDG_EPOCH_EPOCH,
        F.RPR_STATUS_EFUSE_FREE, F.RPR_HBM_HARD_FREE, F.BOOT_IMAGE_SVN_MIN_SVN, F.TOP_RESET_CAUSE_CAUSE,
        F.TOP_RESET_CAUSE_DOMAIN, F.GPIO_LEVEL_LEVEL].map Fld.id → t.dev.get f i = f.dflt i) ∧
      t.dev.get F.TOP_RESET_CAUSE_CAUSE = 1 ∧ t.dev.get F.TOP_RESET_CAUSE_DOMAIN = 0 ∧ t.dev.shadow = [] ∧
      t.dev.hget H.testLatch = s.dev.hget H.testLatch % 2 ∧ t.dev.clock = ⟨s.dev.clock.core, 0⟩) ∧
  (∀ (m : Fin 8) (v : Word) (bursts : List Nat) (s : State), s.dev.Reaches m 0xC → v.toNat = 0x5A000002 → s.dev.bist.work = [] →
    s.dev.lathRuns = true →
    exec (.topResetLath m v bursts) s = s.becomes (((s.dev.transaction m).lathStop 4 bursts).written m 0xC v.toNat)) ∧
  (∀ (bursts : List Nat) (s : State), s.dev.bist.work = [] → s.dev.lathRuns = true →
    exec (.lockstepMismatch bursts) s = s.becomes (s.dev.lathStop 6 bursts) ∧
    exec (.lathWatchdog bursts) s = s.becomes (s.dev.lathStop 7 bursts)) ∧
  (∀ (bursts : List Nat) (s : State), s.dev.bist.work ≠ [] → s.dev.lathRuns = true →
    exec (.lathWatchdog bursts) s = s.becomes { s.dev with bist :=
      { s.dev.bist with resetAsked := some (s.dev.bist.resetAsked.getD (false, 7)) } }) ∧
  (∀ (q : Req) (bursts : List Nat) (s : State) (ts : List Tlv) (e : Dev), s.dev.Accepts q resetSpec ts e →
    exec (.reset q bursts) s = s.becomes (if tlvNum ts 0x0101 = 0 then (e.reply q 0x0102 St.ok).deviceReset 2 0
      else (e.reply q 0x0102 St.ok).lathRestart 5 bursts)) ∧
  (∀ (slots : List ImageIn) (stuck : Nat) (s : State), s.dev.hget H.lathCause ≠ 0 → s.dev.lathRuns = false → s.dev.hget H.pushState ≠ 1 →
    s.dev.get F.TOP_STATUS_BOOT_FAIL ≠ 1 → s.dev.hget H.restartStep ≠ 8 → (s.dev.fetchImage slots).2 = true →
    let d := (s.dev.fetchImage slots).1
    exec (.lathRestartDone ⟨slots, stuck⟩) s = s.becomes (if stuck = 8 then d.hset H.restartStep 0 8 else
      (((d.startLath.netSync).hset H.lathCause 0 0).raise 12 [d.hget H.lathCause]).healthReview))

/-- O15. POR_N rising begins the steps, each of which ends in the next or in BOOT_FAIL (R59, R61); a watchdog that expires ends a step in
BOOT_FAIL with code 5 (R60); BOOT_PUSH takes the chunks of an image in order while the link is up and the boot ROM waits for one
or a BOOT_FAIL may end so (R57, R62), and an accepted image goes on with steps 8 to 10, or ends the Lath restart; a refused
chunk restarts the push (R68; which LENGTHs are refused is log entry 325, the model's choice); step 11 starts the tick (R69);
the end of Causeway training or of seat B's wait gives the first role and READY (R70, R71); IDENTIFY answers in operation and,
in BOOT_FAIL, from the boot ROM (R62). -/
def Obligations.StartUpActs : Prop :=
  (∀ (x : BootIn) (s : State), s.dev.get F.BOOT_STATUS_STEP = 0 → s.dev.hget H.tripHeld = 0 → s.dev.hget H.porLow = 1 →
    exec (.porRelease x) s = .next { s with
      dev := ((((s.dev.hset H.porLow 0 0).hset H.bootAt 0 s.dev.clock.core).bootRun x true)).flush, mere := [] }) ∧
  (∀ (x : BootIn) (power : Bool) (d : Dev), x.stuck = 1 → d.bootRun x power = d.set F.BOOT_STATUS_STEP 0 1) ∧
  (∀ (x : BootIn) (power : Bool) (d : Dev), x.stuck ≠ 1 → x.trimOk = false →
    d.bootRun x power = ((d.set F.BOOT_STATUS_STEP 0 1).bootFuses { x with trimOk := true } power).1.bootFail 1 0x01 0) ∧
  (∀ (s : State) (k : Nat), s.dev.watchedStep = some k →
    let d := (((s.dev.set F.TOP_STATUS_BOOT_FAIL 0 1).set F.BOOT_STATUS_FAIL_CODE 0 5).set F.BOOT_FAIL_DETAIL_DETAIL 0 k).set
      F.BOOT_STATUS_STEP 0 k
    let d := ((d.set F.TOP_STATUS_LATH_RUN 0 0).set F.TOP_STATUS_READY 0 0).hset H.seatWait 0 0
    let d := ((d.enterRole 4 0).set F.CSW_ROLE_CLAIM_OUT 0 0).set F.BOOT_PUSH_STATUS_STATE 0 0
    let d := ({ d with pushed := [], image := none }).hset H.pushOffset 0 0
    exec .bootWatchdog s = s.becomes ((((d.raise 8 [k, 5]).emit (.bootText k 5)).txReviewAll).healthReview)) ∧
  (∀ d : Dev, d.get F.BOOT_PUSH_STATUS_STATE ≠ 1 → d.hget H.pushState ≠ 1 → d.get F.TOP_STATUS_BOOT_FAIL ≠ 1 →
    (d.hget H.lathCause ≠ 0 → d.lathRuns = false → d.watchedStep = some (d.hget H.restartStep)) ∧
    (d.hget H.lathCause = 0 → 1 ≤ d.get F.BOOT_STATUS_STEP → d.get F.BOOT_STATUS_STEP ≤ 13 → d.get F.BOOT_STATUS_STEP ≠ 10 →
      d.ready = false → d.watchedStep = some (d.get F.BOOT_STATUS_STEP))) ∧
  (∀ d : Dev, d.get F.BOOT_PUSH_STATUS_STATE = 1 → d.watchedStep = some 7) ∧
  (∀ (m : Fin 8) (v : Word) (chunk : List Byte) (ten : Step10In) (stuck : Nat) (s : State), s.dev.Reaches m 0x100010 →
    bit v.toNat 31 = true → s.dev.takesPush = true →
    let len := fieldOf F.BOOT_PUSH_LENGTH v.toNat
    let d := ((s.dev.transaction m).set F.BOOT_PUSH_LENGTH 0 len).set F.BOOT_PUSH_LAST 0 (fieldOf F.BOOT_PUSH_LAST v.toNat)
    let good := s.dev.get F.BOOT_PUSH_OFFSET_OFFSET = s.dev.hget H.pushOffset ∧ 16 ≤ len ∧ len ≤ 262144 ∧ len % 16 = 0
    let t := { d with staging := Memory.writeBytes 0x100000 d.staging 0xC0000 chunk }
    let t := { t with pushed := t.pushed ++ Memory.bytes len 0xC0000 t.staging }
    let image : ImageIn := ⟨t.pushed.take 512, t.pushed.drop 512⟩
    let refused := fun d : Dev => s.becomes
      ((({ d with pushed := [] }.set F.BOOT_PUSH_STATUS_STATE 0 3).hset H.pushOffset 0 0).written m 0x100010 v.toNat)
    (good → bit v.toNat 30 = false → exec (.bootPush m v chunk ⟨ten, stuck⟩) s = s.becomes
      (((t.hset H.pushOffset 0 (s.dev.hget H.pushOffset + len)).set F.BOOT_PUSH_STATUS_STATE 0 0).written m 0x100010 v.toNat)) ∧
    (¬good → exec (.bootPush m v chunk ⟨ten, stuck⟩) s = refused d) ∧
    (good → bit v.toNat 30 = true → stuck = 7 → exec (.bootPush m v chunk ⟨ten, stuck⟩) s = s.becomes
      ((t.set F.BOOT_PUSH_STATUS_STATE 0 1).written m 0x100010 v.toNat)) ∧
    (good → bit v.toNat 30 = true → stuck ≠ 7 → (∃ c, t.imageFault image = some c) →
      exec (.bootPush m v chunk ⟨ten, stuck⟩) s = refused t) ∧
    (good → bit v.toNat 30 = true → stuck ≠ 7 → t.imageFault image = none →
      let d := ((({ t with image := some image }).set F.BOOT_STATUS_IMAGE_SRC 0 3).set F.BOOT_IMAGE_SVN_SVN 0 (imageField image 0x14 4)).set
        F.BOOT_PUSH_STATUS_STATE 0 2
      let d := ({ d with pushed := [] }.hset H.pushOffset 0 0).hset H.pushState 0 0
      (s.dev.get F.TOP_STATUS_BOOT_FAIL ≠ 1 → s.dev.hget H.lathCause = 0 →
        exec (.bootPush m v chunk ⟨ten, stuck⟩) s = s.becomes ((d.bootFirmware ten stuck).written m 0x100010 v.toNat)) ∧
      (s.dev.get F.TOP_STATUS_BOOT_FAIL ≠ 1 → s.dev.hget H.lathCause ≠ 0 → stuck ≠ 8 →
        exec (.bootPush m v chunk ⟨ten, stuck⟩) s = s.becomes ((d.lathResume).written m 0x100010 v.toNat)) ∧
      (s.dev.get F.TOP_STATUS_BOOT_FAIL = 1 →
        let d := ((d.set F.TOP_STATUS_BOOT_FAIL 0 0).set F.BOOT_STATUS_FAIL_CODE 0 0).set F.BOOT_FAIL_DETAIL_DETAIL 0 0
        exec (.bootPush m v chunk ⟨ten, stuck⟩) s = s.becomes (((d.hset H.lathCause 0 0).bootFirmware ten stuck).written m 0x100010 v.toNat)))) ∧
  (∀ s : State, s.dev.get F.BOOT_STATUS_STEP = 10 → s.dev.lathRuns = true →
    let d := if s.dev.get F.REF_STATUS_LOOP = 2 then s.dev else s.dev.passToCore (s.dev.hget H.step10At + 10 ^ 10)
    let d := ((d.set F.BOOT_STATUS_STEP 0 11).hset H.xoDuty 0 0x8000).hset H.xoSince 0 d.clock.core
    exec .bootTickStart s = s.becomes (if d.running then d.leaveStep11 else d.tickStart)) ∧
  (∀ s : State, s.dev.get F.BOOT_STATUS_STEP = 12 → s.dev.lathRuns = true →
    let d := s.dev.set F.BOOT_STATUS_STEP 0 13
    exec .causewayTrainingEnd s = s.becomes
      (if s.dev.get F.CSW_ROLE_CLAIM_IN = 1 then (d.enterRole (if s.dev.causewayUp then 2 else 3) 0).becomeReady
      else if s.dev.hget H.pinSeat = 0 then (d.enterRole (if s.dev.get F.CSW_ROLE_VETO = 1 then 3 else 0) 0).becomeReady
      else (d.hset H.seatWait 0 1).hset H.seatTicks 0 0)) ∧
  (∀ s : State, s.dev.hget H.seatWait ≠ 0 → 3 ≤ s.dev.hget H.seatTicks → s.dev.lathRuns = true →
    exec .seatBClaimWait s = s.becomes ((((s.dev.hset H.seatWait 0 0).enterRole
      (if s.dev.get F.CSW_ROLE_CLAIM_IN = 1 then (if s.dev.causewayUp then 2 else 3)
        else if s.dev.get F.CSW_ROLE_VETO = 1 then 3 else 0) 0)).becomeReady)) ∧
  (∀ (q : Req) (s : State) (ts : List Tlv) (e : Dev), s.dev.Accepts q identifySpec ts e → s.dev.get F.TOP_STATUS_BOOT_FAIL = 0 →
    exec (.identify q) s = s.becomes (e.reply q 0x0101 St.ok [data [w4 (e.storedAt 0), w4 (e.storedAt 4), w4 (e.storedAt 8),
      w4 (e.storedAt 0x100000), w4 e.role]])) ∧
  (∀ (q : Req) (s : State), s.dev.get F.TOP_STATUS_BOOT_FAIL = 1 → q.port = 4 → s.dev.portUp 4 = true →
    (s.dev.cmd.queue.find? fun p => p.is q 0x0101) = none →
    let d := (s.dev.bump C.CMD_RECEIVED 4).acceptPacket 4
    exec (.identify q) s = s.becomes (d.turnAway q 0x0101 St.ok [s.dev.identity]))

/-- O16. A write stores in an RW field the bits of the field, clears in a W1C field the bits written 1 and sets them in a W1S field, and
leaves a field of every other type as it is; no other field changes (R2). A read of a register sets each of its RC fields to its
reset value and changes no other field (R2). -/
def Obligations.AccessTypesAct : Prop :=
  (∀ (d : Dev) (f : Fld) (i w : Nat),
    let t := d.writePart i w (.fld f)
    (f.acc = .rw → t.get f i = bits w f.lsb f.width % 2 ^ f.width) ∧
    (f.acc = .w1c → t.get f i = (d.get f i - (d.get f i &&& bits w f.lsb f.width)) % 2 ^ f.width) ∧
    (f.acc = .w1s → t.get f i = (d.get f i ||| bits w f.lsb f.width) % 2 ^ f.width) ∧
    (f.acc ≠ .rw → f.acc ≠ .w1c → f.acc ≠ .w1s → t = d) ∧
    t.shadow = d.shadow ∧ t.hid = d.hid ∧ t.ctr = d.ctr ∧
    ∀ g j, ¬(g.id = f.id ∧ j = i) → t.get g j = d.get g j) ∧
  (∀ (d : Dev) (r : Reg) (i : Nat) (g : Fld) (j : Nat), r.base ≠ 0xF00104 →
    (∀ f, Part.fld f ∈ r.parts → f.acc = .rc → ¬(g.id = f.id ∧ j = i)) → (d.clearRead r i).get g j = d.get g j) ∧
  (∀ (d : Dev) (r : Reg) (i : Nat) (f : Fld), r.base ≠ 0xF00104 → r.parts = [.fld f] → f.acc = .rc →
    (d.clearRead r i).get f i = f.dflt i % 2 ^ f.width)

/-- O17. A write that reaches a register without a rule of its own acts by the types of its fields; one that reaches a register with SH
fields loads their shadow copies and leaves the values in effect of the SH fields (R47), or is discarded and reported where
Mere's bandwidth does not allow it (R207); a read answers the register's word, clears its RC fields and latches the higher words
of a split value, and a read of a latched word answers the latched value (R137); a host write that lacks the lease is discarded,
counted and reported (R117); a write of BAR2 stores its bytes and no other, and the lines of the Mere rings that hold those
bytes read as Mere then has them (R132); the I2C port answers a word and clears nothing (R534). -/
def Obligations.RegisterAccessActs : Prop :=
  (∀ (m : Fin 8) (word : Fin 16777216) (v : Word) (s : State) (r : Reg) (i : Nat), s.dev.Reaches m (4 * word) →
    inMsix (4 * word) = false → findReg (4 * word) = some (r, i) → r.shadowed = false →
    (s.dev.transaction m).ruledWrite m r.base i v.toNat = none → ¬(0x1C80000 ≤ r.base ∧ r.base < 0x1C90000) →
    exec (.registerWrite m word v) s =
      s.becomes (((s.dev.transaction m).writeParts r i v.toNat).written m (4 * word) v.toNat)) ∧
  (∀ (m : Fin 8) (word : Fin 16777216) (v : Word) (s : State) (e : Dev) (r : Reg) (i : Nat), s.dev.Reaches m (4 * word) →
    inMsix (4 * word) = false → findReg (4 * word) = some (r, i) →
    (s.dev.transaction m).ruledWrite m r.base i v.toNat = some e →
    exec (.registerWrite m word v) s = s.becomes (e.written m (4 * word) v.toNat)) ∧
  (∀ (m : Fin 8) (word : Fin 16777216) (v : Word) (s : State) (r : Reg) (i w : Nat), s.dev.Reaches m (4 * word) →
    inMsix (4 * word) = false → findReg (4 * word) = some (r, i) → r.shadowed = true →
    (s.dev.transaction m).ruledWrite m r.base i v.toNat = none →
    let d := (s.dev.transaction m).writeParts r i v.toNat
    d.shadowStored r.base i v.toNat = some w →
    let ws := r.shFields.map fun f => sw f i (fieldOf f w)
    (d.admitShadow ws = .admitted →
      let t := (d.each r.shFields fun d f => d.load f i (fieldOf f w)).written m (4 * word) v.toNat
      exec (.shadowWrite m word v) s = s.becomes t ∧ exec (.registerWrite m word v) s = s.becomes t) ∧
    (∀ claim, d.admitShadow ws = .bandwidth claim → exec (.shadowWrite m word v) s =
      s.becomes (((d.bump C.MERE_BW_REFUSED).raise 578 [claim, d.bwLimit]).written m (4 * word) v.toNat))) ∧
  (∀ (m : Fin 8) (word : Fin 16777216) (v : Word) (s : State), s.dev.Reaches m (4 * word) →
    0x301000 ≤ 4 * word.val → 4 * word.val < 0x301400 → exec (.registerWrite m word v) s = s.becomes
      (((s.dev.transaction m).writeMsix (4 * word / 16 % 64) (4 * word / 4 % 4) v.toNat).written m (4 * word) v.toNat)) ∧
  (∀ (m : Fin 8) (word : Fin 16777216) (v : Word) (s : State), s.dev.Readable m (4 * word) →
    s.dev.hostBarred m (4 * word) = true → exec (.registerWrite m word v) s =
      s.becomes ((((s.dev.transaction m).bump C.CMD_UNLEASED_WR).raise 965 [4 * word.val]).answer m .done)) ∧
  (∀ (m : Fin 8) (word : Fin 16777216) (s : State) (r : Reg) (i : Nat), s.dev.Readable m (4 * word) →
    findReg (4 * word) = some (r, i) → r.base ≠ 0x900400 → (s.dev.transaction m).latched m (4 * word) = none →
    let d := s.dev.transaction m
    let t := (((d.each (higherWords r.base) fun d k => d.latch m (4 * word + k)).clearRead r i).answer m
      (.data [d.wordAt (4 * word)]))
    exec (.readClear m word) s = s.becomes t ∧ exec (.latchingRead m word) s = s.becomes t) ∧
  (∀ (m : Fin 8) (word : Fin 16777216) (s : State) (x : Nat), s.dev.Readable m (4 * word) →
    (s.dev.transaction m).latched m (4 * word) = some x →
    exec (.latchingRead m word) s = s.becomes ((s.dev.transaction m).answer m (.data [x]))) ∧
  (∀ (d : Dev) (m off : Nat), (d.latch m off).latched m off = some (d.wordAt off)) ∧
  (∀ (off : BitVec 35) (bytes : List Byte) (s : State), s.dev.holder 2 = 0 → s.dev.mereRefuses = false → s.wf →
    ∃ t, exec (.bar2Write off bytes) s = .next t ∧ 
      t.dev = (((s.dev.transaction 1).answer 1 .done).reload t.mere off.toNat bytes.length).flush ∧ ∀ a,
      Memory.read t.mere a = if off.toNat ≤ a ∧ a < off.toNat + bytes.length ∧ a < 2 ^ 35 then bytes.getD (a - off.toNat) 0
        else Memory.read s.mere a) ∧
  (∀ (off : BitVec 35) (bytes : List Byte) (s : State), s.dev.holder 2 ≠ 0 → ∃ t, exec (.bar2Write off bytes) s = .next t ∧
    t.mere = s.mere ∧
    t.dev = ((((s.dev.transaction 1).bump C.CMD_UNLEASED_WR).raise 965 [off.toNat]).answer 1 .done).flush) ∧
  (∀ (off : Word) (s : State), (2 < s.dev.get F.BOOT_STATUS_STEP ∨ s.dev.get F.TOP_STATUS_BOOT_FAIL = 1) →
    exec (.i2cRead off) s = s.becomes (s.dev.emit (.i2c (if i2cShows off.toNat then s.dev.wordAt off.toNat else 0xDEC0DE00))))

/-- O18. An access outside every target, or at an offset that no block defines, goes to the sump, which captures the first, counts the
later ones and reads 0xDEC0DE00 in every word (R77, R80); masters that wait for a target get it in weighted turns, a starved one
first (R82; how the turns run is log entry 316, the model's choice); an accepted access is carried out at its target (R77; byte
order: log entry 318, the model's choice); one that its target cannot take is answered TARGET_ERR with an event (R78, R79); a
target that stays silent is answered for after BUS_TIMEOUT and marked hung (R84), and its late response is only counted;
clearing the sump's VALID re-arms it (R80); REMAP sets and stays set (R85); an outbound window passes an access to host memory,
or refuses it with its cause (R133). -/
def Obligations.BusMatrixActs : Prop :=
  (∀ (m : Fin 8) (x : Access) (s : State), s.dev.targetOf x.addr = none → (m = 7 → s.dev.debugOn = true) →
    let d := (s.dev.arbitrate m 9 x).transaction m
    let n := x.beats * max 1 (x.size / 4)
    (goodBurst x = true → s.dev.get F.BUS_SUMP_INFO_VALID ≠ 1 →
      let d := ((((((d.set F.BUS_SUMP_ADDR_LO_ADDR 0 x.addr).set F.BUS_SUMP_ADDR_HI_ADDR 0 (x.addr / 2 ^ 32)).set
        F.BUS_SUMP_INFO_VALID 0 1).set F.BUS_SUMP_INFO_WRITE 0 (ofBool x.write)).set
        F.BUS_SUMP_INFO_BEATS 0 (x.beats - 1)).set F.BUS_SUMP_INFO_MASTER 0 m).raise 896 (m :: words2 x.addr)
      exec (.sumpAccess m x) s = s.becomes (d.answerError m x.write .decode n none)) ∧
    (goodBurst x = true → s.dev.get F.BUS_SUMP_INFO_VALID = 1 →
      exec (.sumpAccess m x) s = s.becomes ((d.set F.BUS_SUMP_INFO_OVERFLOW 0
        (min 32767 (s.dev.get F.BUS_SUMP_INFO_OVERFLOW + 1))).answerError m x.write .decode n (some (896, m :: words2 x.addr)))) ∧
    (goodBurst x = false →
      exec (.sumpAccess m x) s = s.becomes ((((s.dev.arbitrate m 9 x).raise 897 [m, 9]).transaction m).answerError m x.write .target n none))) ∧
  (∀ (d : Dev) (e : BusErr) (n : Nat) (owed : Option (Nat × List Nat)),
    d.answerError 1 true e n owed = d.aerReport ∧ d.answerError 1 false e n owed = d.answer 1 .completerAbort) ∧
  (∀ (d : Dev) (m n : Nat) (owed : Option (Nat × List Nat)), m = 0 ∨ m = 2 ∨ m = 3 →
    d.answerError m false .decode n owed = d.answer m (.decodeErr (List.replicate n 0xDEC0DE00)) ∧
    d.answerError m true .decode n owed = d.answer m (.decodeErr []) ∧
    ∀ w, d.answerError m w .target n owed = d.answer m .targetErr) ∧
  (∀ (m : Fin 8) (v : Word) (s : State), s.dev.Reaches m 0x200018 → bit v.toNat 31 = true →
    exec (.busSumpClear m v) s = s.becomes ((((s.dev.transaction m).set F.BUS_SUMP_INFO_VALID 0 0).set
      F.BUS_SUMP_INFO_OVERFLOW 0 0).written m 0x200018 v.toNat)) ∧
  (∀ (m : Fin 8) (x : Access) (s : State) (k : Nat), (m = 7 → s.dev.debugOn = true) → s.dev.targetOf x.addr = some k →
    (k = 8 → s.dev.hung 8 = true ∨ s.dev.targetTakes 8 x = false) →
    (k = 4 → s.dev.hung 4 = true ∨ s.dev.targetTakes 4 x = false ∨ s.dev.decodes (x.addr - 0x40000000) = true) →
    let e := ({ s with dev := s.dev.arbitrate m k x }).endEarlier m k
    (e.dev.hung k = true → exec (.targetError m x) s = e.becomes (e.dev.busError m x .target (some (897, [m.val, k])))) ∧
    (e.dev.hung k = false → e.dev.targetTakes k x = false →
      exec (.targetError m x) s = e.becomes ((e.dev.raise 897 [m, k]).busError m x .target none)) ∧
    (e.dev.hung k = false → e.dev.targetTakes k x = true → k ≠ 4 →
      exec (.targetError m x) s = (e.memoryAccess m k x).becomes (e.memoryAccess m k x).dev) ∧
    (e.dev.hung k = false → e.dev.targetTakes k x = true → k = 4 → e.dev.meetsTest x = false →
      exec (.targetError m x) s = e.becomes (e.dev.csrAccess m x))) ∧
  (∀ (s : State) (m : Nat) (x : Access), x.left = 0 →
    let n := x.size * x.beats
    let d := s.dev.transaction m
    (x.write = true →
      s.memoryAccess m 2 x = { s with dev := ({ d with sram := Memory.writeBytes 0x800000 d.sram (x.addr - 0x20000000) (accessBytes x) }).answer m .done } ∧
      s.memoryAccess m 3 x = { s with dev := ({ d with scratch := Memory.writeBytes 0x4000 d.scratch (x.addr - 0x30000000) (accessBytes x) }).answer m .done }) ∧
    (x.write = false →
      s.memoryAccess m 2 x = { s with dev := d.answer m (.data (readWords n (Memory.bytes n (x.addr - 0x20000000) d.sram))) } ∧
      s.memoryAccess m 3 x = { s with dev := d.answer m (.data (readWords n (Memory.bytes n (x.addr - 0x30000000) d.scratch))) })) ∧
  (∀ (d : Dev) (k m : Nat) (ws : List (Nat × Nat)), m < 8 →
    let starved := fun m => ws.any fun w => w.1 == m && w.2 ≥ d.get F.BUS_ARB_STARVE
    let asks := fun m => ws.any fun w => w.1 == m
    let turn := d.hget H.busTurn k
    (starved m = true → (∀ j, j < m → starved j = false) → d.grantNext k ws = m) ∧
    ((∀ j, j < 8 → starved j = false) → asks turn = true → d.hget H.busUsed k < d.get F.BUS_WEIGHT_WEIGHT turn → d.grantNext k ws = turn) ∧
    ((∀ j, j < 8 → starved j = false) → (asks turn = false ∨ d.get F.BUS_WEIGHT_WEIGHT turn ≤ d.hget H.busUsed k) →
      (∃ i, i < 8 ∧ m = (turn + 1 + i) % 8 ∧ asks m = true ∧ ∀ j, j < i → asks ((turn + 1 + j) % 8) = false) → d.grantNext k ws = m)) ∧
  (∀ (m : Fin 8) (x : Access) (s : State) (k : Nat), (m = 7 → s.dev.debugOn = true) → s.dev.targetOf x.addr = some k →
    s.dev.hung k = false → s.dev.targetTakes k x = true →
    let d := s.dev.pass (s.dev.get F.BUS_TIMEOUT_CYCLES)
    let d := (d.set F.BUS_HUNG_TARGETS 0 (s.dev.get F.BUS_HUNG_TARGETS ||| 2 ^ k)).raise 898 [k]
    let d := d.each (d.bursts.filter fun b => b.target == k) fun d b =>
      ((d.hset H.busOutstanding b.master (d.hget H.busOutstanding b.master - 1)).bump K.BUS_COMPLETED b.master).answerError b.master
        b.write .target (b.left * max 1 (b.size / 4)) none
    exec (.targetTimeout m x) s = s.becomes (({ d with bursts := d.bursts.filter fun b => b.target != k }).busError m x .target none)) ∧
  (∀ (k : Fin 9) (s : State), s.dev.hung k = true →
    exec (.lateTargetResponse k) s = s.becomes (s.dev.bump K.BUS_LATE_RESPONSES)) ∧
  (∀ (m : Fin 8) (v : Word) (s : State), s.dev.Reaches m 0x200000 → bit v.toNat 0 = true →
    exec (.remap m v) s = s.becomes (((s.dev.transaction m).set F.BUS_CTRL_REMAP 0 1).written m 0x200000 v.toNat)) ∧
  (∀ (m : Fin 8) (x : Access) (answer : List Nat) (s : State), (m = 7 → s.dev.debugOn = true) → s.dev.targetOf x.addr = some 8 → s.dev.hung 8 = false →
    s.dev.targetTakes 8 x = true →
    let w := (x.addr - 0x1000000000) / 2 ^ 32
    (s.dev.get F.PCI_OB_CTRL_EN w ≠ 0 → s.dev.get F.PCI_LINK_STATUS_BME ≠ 0 → s.dev.get F.PCI_LINK_STATUS_UP ≠ 0 →
      exec (.outboundAccess m x answer) s = s.becomes (((s.dev.emit (.host (s.dev.get F.PCI_OB_BASE_HI_BASE w * 2 ^ 32 +
        s.dev.get F.PCI_OB_BASE_LO_BASE w * 4096 + x.addr % 2 ^ 32) x.write (if x.write then x.words else []))).transaction m).answer m
        (if x.write then .done else .data answer))) ∧
    (s.dev.get F.PCI_OB_CTRL_EN w = 0 → s.dev.evt.obErr = false →
      exec (.outboundAccess m x answer) s = s.becomes (({ s.dev with evt := { s.dev.evt with obErr := true } }.raise 901
        [w, 0]).busError m x .target (some (897, [m.val, 8])))))

/-- O19. CSR_READ reads its words in order and answers them, or stops at the first that meets an error and names it (R118); CSR_WRITE
writes nothing unless its port holds the unit of every word (R118), and then writes its words in order, each of them mirrored
(R463). -/
def Obligations.CsrCommandsAct : Prop :=
  (∀ (q : Req) (s : State) (ts : List Tlv) (e : Dev), s.dev.Accepts q csrReadSpec ts e →
    let r := e.csrReads (csrMaster q.port) (tlvNum ts 0x0101) 0 [] (tlvNum ts 0x0102)
    exec (.csrRead q) s = s.becomes (r.1.csrReply q 0x0910 r.2)) ∧
  (∀ (d : Dev) (m off k : Nat) (acc : List Nat) (n : Nat), d.busFault off = none →
    let r := (d.transaction m).readWord m off
    d.csrReads m off k acc (n + 1) = (r.2.answer m (.data [r.1])).csrReads m (off + 4) (k + 1) (r.1 :: acc) n) ∧
  (∀ (d : Dev) (m off k : Nat) (acc : List Nat), d.csrReads m off k acc 0 = (d, .done acc.reverse)) ∧
  (∀ (d : Dev) (m off k : Nat) (acc : List Nat) (n : Nat), d.csrHung = false → d.windowOpen off = false →
    d.csrReads m off k acc (n + 1) =
      ((d.transaction m).sumpAnswer m (0x40000000 + off) 4 1 false, .stopped k St.badParam 1)) ∧
  (∀ (q : Req) (s : State) (ts : List Tlv) (e : Dev), s.dev.Accepts q csrWriteSpec ts e →
    let r := e.csrWrites (csrMaster q.port) (tlvNum ts 0x0101) 0 (wordsIn ((tlv? ts 0x0103).getD []))
    exec (.csrWrite q) s = s.becomes (r.1.csrReply q 0x0911 r.2)) ∧
  (∀ (q : Req) (s : State) (e : Dev), s.dev.TakesUp q 0x0911 e → e.ready = true → e.rolePermits q.port 0x0911 = true →
    let r := parseTlvs (q.payload.length + 1) 0 q.payload
    csrWriteSpec.form r.1 r.2 = none →
    ((List.range (((tlv? r.1 0x0103).getD []).length / 4)).any fun k => !e.heldBy q.port (tlvNum r.1 0x0101 + 4 * k)) = true →
    exec (.csrWrite q) s = s.becomes (e.reply q 0x0911 St.leased)) ∧
  (∀ (d : Dev) (m off k w : Nat) (ws : List Nat), d.busFault off = none →
    let r := (d.transaction m).writeWord m off w
    r.2 = .admitted →
    d.csrWrites m off k (w :: ws) = ((r.1.mirror off w).answer m .done).csrWrites m (off + 4) (k + 1) ws)

/-- O20. Logging a command's events at its end changes the event system, the command block and what is sent, and nothing else. A write of
EVT_STATUS clears the bits written 1 and one of EVT_INT_EN stores its bits; a group that is then pending is signalled again
(R141); the end of a coalesce window lets what its source holds be logged (R147); the readers' indices move forward only, up to
EVT_LOG_WR (R148, R150); EVENT_LOG_READ answers the records that the ring still holds, EVENT_COUNTS_GET the four terms of the
event ledger (R151); the PCI Express link, which trains only after start-up step 2 (R59), has its changes stored and reported,
and going down is a reset (R143, R72); the host's writes of bus mastering, a base address and a vector are kept, and a
configuration read answers the identification and the base addresses of R130. -/
def Obligations.EventCommandsAct : Prop :=
  (∀ d : Dev, d.SameButReports d.flush) ∧
  (∀ (m : Fin 8) (g : Fin 32) (v : Word) (s : State), s.dev.Reaches m (0x400000 + 4 * g) →
    let d := s.dev.transaction m
    let kept := d.evt.status.filter fun n => !(n / 32 == g.val && bit v.toNat (n % 32))
    exec (.evtStatusWrite m g v) s = s.becomes ((({ d with evt := { d.evt with status := kept } }).signalGroup g).written m
      (0x400000 + 4 * g) v.toNat)) ∧
  (∀ (m : Fin 8) (g : Fin 32) (v : Word) (s : State), s.dev.Reaches m (0x400080 + 4 * g) →
    exec (.evtIntEnWrite m g v) s = s.becomes ((((s.dev.transaction m).set F.EVT_INT_EN_EN g v.toNat).signalGroup g).written m
      (0x400080 + 4 * g) v.toNat)) ∧
  (∀ (n : Fin 1024) (t : Nat) (s : State), (s.dev.evt.source n).last = some t →
    exec (.coalesceWindowEnd n) s = s.becomes (s.dev.passTo ((t + s.dev.window n) * 65536))) ∧
  (∀ (m : Fin 8) (v : Word) (s : State), s.dev.Reaches m 0x40018C →
    let d := s.dev.transaction m
    let w := if serialGe 32 s.dev.evt.wr v.toNat then v.toNat else s.dev.evt.wr
    exec (.evtLogRdHostWrite m v) s = s.becomes ((if serialGe 32 w s.dev.evt.rdHost then
      { d with evt := { d.evt with rdHost := w } }.checkFull else d).written m 0x40018C v.toNat)) ∧
  (∀ (m : Fin 8) (v : Word) (s : State), s.dev.Reaches m 0x400184 → s.dev.get F.EVT_CTRL_HOST_READER = 0 → v.toNat % 2 = 1 →
    let d := (s.dev.transaction m).set F.EVT_CTRL_HOST_READER 0 v.toNat
    exec (.hostReaderWrite m v) s = s.becomes
      (({ d with evt := { d.evt with rdHost := d.evt.wr } }).written m 0x400184 v.toNat)) ∧
  (∀ (k : Nat) (s : State), s.dev.lathRuns = true → exec (.lathReaderAdvance k) s = s.becomes
    ({ s.dev with evt := { s.dev.evt with rdLath :=
      (s.dev.evt.rdLath + min k (serialSub 32 s.dev.evt.wr s.dev.evt.rdLath)) % 2 ^ 32 } }.checkFull)) ∧
  (∀ (q : Req) (s : State) (ts : List Tlv) (e : Dev), s.dev.Accepts q eventLogReadSpec ts e →
    serialSub 32 e.evt.wr (tlvNum ts 0x0101) ≤ 4096 →
    let n := min (serialSub 32 e.evt.wr (tlvNum ts 0x0101)) (min (tlvNum ts 0x0102) (payloadLimit q.port / 36))
    exec (.eventLogRead q) s = s.becomes (e.reply q 0x0120 St.ok (((List.range n).filterMap fun k =>
      e.evt.log.find? fun r => r.seq == (tlvNum ts 0x0101 + k) % 2 ^ 32).map fun r => data [r.bytes]))) ∧
  (∀ (q : Req) (s : State) (ts : List Tlv) (e : Dev), s.dev.Accepts q eventCountsGetSpec ts e →
    exec (.eventCountsGet q) s = s.becomes
      (e.reply q 0x0121 St.ok [data [w8 e.evt.raised, w8 e.evt.logged, w8 e.evt.coalesced, w8 e.evt.held]])) ∧
  (∀ (speed : Fin 8) (width : Fin 16) (s : State), 3 ≤ s.dev.get F.BOOT_STATUS_STEP → s.dev.hget H.pciWasReset = 0 →
    exec (.pcieLinkEvent true speed width) s = s.becomes
      ((s.dev.setPciStatus (s.dev.get F.PCI_LINK_STATUS_BME) width speed 1).hset H.pciWasReset 0 0)) ∧
  (∀ (speed : Fin 8) (width : Fin 16) (s : State), 3 ≤ s.dev.get F.BOOT_STATUS_STEP → s.dev.hget H.pciWasReset = 1 → s.dev.hget H.msixEnable = 1 →
    exec (.pcieLinkEvent true speed width) s = s.becomes
      (((s.dev.setPciStatus (s.dev.get F.PCI_LINK_STATUS_BME) width speed 1).hset H.pciWasReset 0 0).signalPending)) ∧
  (∀ (speed : Fin 8) (width : Fin 16) (bursts : List Nat) (s : State),
    exec (.pcieLinkEvent false speed width) s = s.becomes (s.dev.pciReset []) ∧
    exec (.perst bursts) s = s.becomes (s.dev.pciReset bursts) ∧
    (s.dev.pciReset bursts).get F.PCI_LINK_STATUS_UP = 0 ∧ (s.dev.pciReset bursts).get F.PCI_LINK_STATUS_BME = 0) ∧
  (∀ (on : Bool) (s : State), exec (.pciConfigWrite (.busMaster on)) s = s.becomes (s.dev.setPciStatus (ofBool on)
    (s.dev.get F.PCI_LINK_STATUS_WIDTH) (s.dev.get F.PCI_LINK_STATUS_SPEED) (s.dev.get F.PCI_LINK_STATUS_UP)).unmasked) ∧
  (∀ (k : Fin 6) (v : BitVec 32) (s : State), exec (.pciConfigWrite (.bar k v)) s = s.becomes (s.dev.hset H.pciBar k v.toNat) ∧
    exec (.pciConfigWrite (.read 0)) s = s.becomes (s.dev.emit (.config 0x15361F8C)) ∧
    exec (.pciConfigWrite (.read ⟨k + 4, by omega⟩)) s =
      s.becomes (s.dev.emit (.config (s.dev.hget H.pciBar k &&& barMask k ||| barType k)))) ∧
  (∀ (n : Fin 64) (a b c : Nat) (s : State),
    exec (.pciConfigWrite (.vector n a b c)) s = s.becomes (((((s.dev.hset H.msixAddrLo n a).hset H.msixAddrHi n (a / 2 ^ 32)).hset
      H.msixData n b).hset H.msixControl n c).unmasked))

/-- O21. A packet on a port that is up is counted, checked in the order of R99 and queued with the CORE time of its arrival, or refused
and counted: malformed, authentication failure, replay, or a full queue (R99, R102). A doorbell owns its slot and hands over its
request (R94, R95); a cleared ready bit of a final response returns the slot (R94); a datagram to the port's own address and UDP
port, and a SLIP frame with a good CRC-32C, are received (R90, R91). While the mailbox target is hung the host's writes there
are refused (R84). A request that comes while another packet is next in acceptance order waits in its port's queue (R106, R107).
The replay window of R101 takes a counter once. At the end of each command the firmware completes the packet at the head of the
acceptance order whose opcode no chapter defines with BAD_OPCODE (R112, R129), and leaves any other for its own command. -/
def Obligations.PortsTakePacketsInOrder : Prop :=
  (∀ (d : Dev) (p src : Nat) (bs : List Byte), d.portUp p = true → goodPacket p bs = false →
    d.receive p src bs = (d.bump C.CMD_RECEIVED p).bump C.CMD_MALFORMED p) ∧
  (∀ (d : Dev) (p src : Nat) (bs : List Byte), d.portUp p = true → goodPacket p bs = true → keyed p = false →
    (d.cmd.queue.filter fun k => k.port == p).length < 256 →
    let e := (d.bump C.CMD_RECEIVED p).acceptPacket p
    d.receive p src bs = { e with cmd := { e.cmd with queue := e.cmd.queue ++
      [⟨p, d.clock.core, src, beVal (slice 2 2 bs), beVal (slice 4 2 bs), bs.drop 16, none⟩] } }) ∧
  (∀ (d : Dev) (p src : Nat) (bs : List Byte) (key : List Byte) (x : Sender), d.portUp p = true → goodPacket p bs = true →
    keyed p = true → (d.cmd.portKey p).key = some key → hmac key (bs.take (bs.length - 32)) = bs.drop (bs.length - 32) →
    d.sender? p src = some x → x.accepts (beVal (slice 12 4 bs)) = true →
    (d.cmd.queue.filter fun k => k.port == p).length < 256 →
    let e := ((d.bump C.CMD_RECEIVED p).setSender (x.accepted (beVal (slice 12 4 bs)))).acceptPacket p
    d.receive p src bs = { e with cmd := { e.cmd with queue := e.cmd.queue ++
      [⟨p, d.clock.core, src, beVal (slice 2 2 bs), beVal (slice 4 2 bs), (bs.take (bs.length - 32)).drop 16, none⟩] } }) ∧
  (∀ (d : Dev) (p src : Nat) (bs : List Byte) (key : List Byte), d.portUp p = true → goodPacket p bs = true →
    keyed p = true → (d.cmd.portKey p).key = some key → hmac key (bs.take (bs.length - 32)) ≠ bs.drop (bs.length - 32) →
    d.receive p src bs = (d.bump C.CMD_RECEIVED p).authFails p src (beVal (slice 2 2 bs)) (beVal (slice 4 2 bs))) ∧
  (∀ (x : Sender) (c : Nat), x.accepts c = true → x.window < 2 ^ 64 → (x.accepted c).accepts c = false ∧
    (x.accepted c).high = max x.high c ∧ (x.accepted c).window < 2 ^ 64) ∧
  (∀ (k : Fin 64) (bytes : List Byte) (s : State), s.dev.mailboxHung = false → s.dev.portUp 0 = true →
    s.dev.cmd.owned.contains k.val = false →
    let bs := bytes.take 4096
    let d := s.dev.transaction 1
    let d := { d with cmd := { d.cmd with
      owned := insertNat k d.cmd.owned, requests := setSlot d.cmd.requests k bs } }
    exec (.p0Doorbell k bytes) s = s.becomes ((d.receive 0 k (bs.take (16 + beVal (slice 8 2 bs)))).answer 1 .done)) ∧
  (∀ (k : Fin 64) (bytes : List Byte) (s : State), s.dev.mailboxHung = false → s.dev.portUp 0 = true →
    s.dev.cmd.owned.contains k.val = true →
    exec (.p0Doorbell k bytes) s = s.becomes ((((s.dev.transaction 1).bump C.CMD_RECEIVED 0).bump C.CMD_MALFORMED 0).answer 1 .done)) ∧
  (∀ (k : Fin 64) (bytes : List Byte) (v : Word) (hi : Bool) (s : State), s.dev.mailboxHung = true →
    let refused := s.becomes ((s.dev.transaction 1).answerError 1 true .target 1 none)
    exec (.p0Doorbell k bytes) s = refused ∧ exec (.rspReadyClear hi v) s = refused) ∧
  (∀ (v : Word) (s : State), s.dev.mailboxHung = false → exec (.rspReadyClear false v) s =
    s.becomes (((s.dev.transaction 1).each ((List.range 32).filter (bit v.toNat)) Dev.clearReady).answer 1 .done)) ∧
  (∀ (q : Req) (s : State) (h : Packet), s.dev.lathRuns = true → headPacket s.dev.cmd.queue = some h → h.is q 0x0103 = false →
    (s.dev.cmd.queue.any fun p => p.is q 0x0103) = false → s.dev.portUp q.port = true →
    exec (.nop q) s = s.becomes ((s.dev.bump C.CMD_RECEIVED q.port).enqueue q.port q.src 0x0103 q.tag q.payload)) ∧
  (∀ (d : Dev) (k : Nat), d.cmd.ready.contains k = true → d.cmd.readyFinal.contains k = true →
    (d.cmd.waits.find? fun w => w.slot == k) = none →
    d.clearReady k = { d with cmd := { d.cmd with
      ready := d.cmd.ready.filter (· != k)
      readyFinal := d.cmd.readyFinal.filter (· != k)
      owned := d.cmd.owned.filter (· != k) } }) ∧
  (∀ (m : Fin 2) (x : Datagram) (s : State), x.fragment = false → x.dstAddr.toNat = s.dev.get F.MGT_IPV4_IPV4 m →
    x.dstPort.toNat = s.dev.get F.CMD_UDP_PORT_PORT →
    exec (.mgmtDatagram m x) s =
      s.becomes (s.dev.receive (m + 1) (x.srcAddr.toNat * 65536 + x.srcPort.toNat) x.bytes)) ∧
  (∀ (bytes bs : List Byte) (s : State), s.dev.uartTakes = true → s.dev.portUp 4 = true →
    unslip (bytes.dropWhile (· == 0xC0#8)) = some bs → 4 ≤ bs.length →
    beBytes 4 (crc32c (bs.take (bs.length - 4))) = bs.drop (bs.length - 4) →
    exec (.uartPacket bytes) s = s.becomes (s.dev.receive 4 0 (bs.take (bs.length - 4)))) ∧
  (∀ (d : Dev) (q : Req) (op stamp : Nat) (key : Option (List Byte)), d.lathRuns = true →
    d.cmd.queue = [⟨q.port, stamp, q.src, op, q.tag, q.payload, key⟩] → opcodes.contains op = false → d.tagFault q = none →
    d.serveQueues = { d with cmd := { d.cmd with queue := [] } }.turnAway q op St.badOpcode [] key) ∧
  (∀ (d : Dev) (p : Packet), headPacket d.cmd.queue = some p → opcodes.contains p.opcode = true → d.serveQueues = d)

/-- O22. NOP answers the frame number; PORT_STATUS_GET the status and the counts of each named port (R128); PORT_KEY_SET loads a key,
clears the port's senders and enables the port (R104); NOTIFY_SUBSCRIBE adds, changes or removes the sender's subscription, four
at most on a port (R129). LEASE_TAKE gives the named units to the port and completes the held changes that touch them, or
answers LEASED with the holder (R115, R116); LEASE_RENEW restarts the timeout; LEASE_RELEASE and the timeout free units (R119,
R120); LEASE_STATUS answers the holders. PROTECT and UNPROTECT change the protecting port of a range, or answer PROTECTED with
it (R121-R123); PROTECT_GET answers it. -/
def Obligations.SystemCommandsAct : Prop :=
  (∀ (q : Req) (s : State) (ts : List Tlv) (e : Dev), s.dev.Accepts q nopSpec ts e →
    exec (.nop q) s = s.becomes (e.reply q 0x0103 St.ok [data [w8 e.frameNow]])) ∧
  (∀ (q : Req) (s : State) (ts : List Tlv) (e : Dev), s.dev.Accepts q portStatusGetSpec ts e →
    exec (.portStatusGet q) s = s.becomes (e.reply q 0x0104 St.ok (((List.range 5).filter (bit (tlvNum ts 0x0004))).map fun p =>
      data [w4 (e.portStatusView p), w8 (e.count C.CMD_RECEIVED p), w8 (e.count C.CMD_MALFORMED p),
        w8 (e.count C.CMD_AUTH_FAILED p), w8 (e.count C.CMD_REPLAYED p), w8 (e.count C.CMD_OVERFLOWED p),
        w8 (e.cmd.accepted.getD p 0), w8 (e.cmd.issued.getD p 0), w8 (e.cmd.completed.getD p 0)]))) ∧
  (∀ (q : Req) (s : State) (ts : List Tlv) (e : Dev), s.dev.Accepts q portKeySetSpec ts e →
    exec (.portKeySet q) s = s.becomes ((e.loadKey (tlvNum ts 0x0101) ((tlv? ts 0x0102).getD [])).reply q 0x0105 St.ok)) ∧
  (∀ (d : Dev) (p : Nat) (key : List Byte), p < d.cmd.keys.length →
    ((d.loadKey p key).cmd.portKey p).key = some key ∧ ((d.loadKey p key).cmd.portKey p).tx = 0 ∧
    (d.loadKey p key).get F.CMD_PORT_CTRL_ENABLE p = 1 ∧
    (d.loadKey p key).cmd.senders = d.cmd.senders.filter fun s => s.port != p) ∧
  (∀ (q : Req) (s : State) (ts : List Tlv) (e : Dev), s.dev.Accepts q notifySubscribeSpec ts e →
    let rest := e.cmd.subs.filter fun s => !(s.port == q.port.val && s.src == q.src)
    (tlvNum ts 0x0101 = 0 → exec (.notifySubscribe q) s =
      s.becomes ({ e with cmd := { e.cmd with subs := rest } }.reply q 0x0106 St.ok)) ∧
    (tlvNum ts 0x0101 ≠ 0 → (rest.filter fun s => s.port == q.port.val).length < 4 →
      (e.cmd.subs.find? fun s => s.port == q.port.val && s.src == q.src) = none → exec (.notifySubscribe q) s =
      s.becomes (Dev.reply { e with cmd := { e.cmd with subs := rest ++ [⟨q.port, q.src, tlvNum ts 0x0101, 0, 0⟩] } } q
        0x0106 St.ok)) ∧
    (tlvNum ts 0x0101 ≠ 0 → 4 ≤ (rest.filter fun s => s.port == q.port.val).length →
      exec (.notifySubscribe q) s = s.becomes (e.reply q 0x0106 St.exhausted))) ∧
  (∀ (q : Req) (s : State) (ts : List Tlv) (e : Dev), s.dev.Accepts q leaseTakeSpec ts e → (e.role = 0 ∨ e.role = 4) →
    e.get F.CMD_PORT_CTRL_LEASE_ALLOW q.port ≠ 0 →
    let units := unitList (tlvNum ts 0x0101)
    ((∀ u ∈ units, e.holder u = 7 ∨ e.holder u = q.port) → exec (.leaseTake q) s = s.becomes
      (((((e.endChanges (·.touches units) St.leased).each units fun d u => d.set F.CMD_LEASE_HOLDER_HOLDER u q.port).hset H.leaseTime
        q.port e.clock.core).raise 963 [q.port, wordOfBits units]).reply q 0x0901 St.ok)) ∧
    (∀ u, units.find? (fun u => e.holder u != 7 && e.holder u != q.port) = some u →
      exec (.leaseTake q) s = s.becomes (e.reply q 0x0901 St.leased [statusDetail 0 (e.holder u) 0]))) ∧
  (∀ (q : Req) (s : State) (ts : List Tlv) (e : Dev), s.dev.Accepts q leaseRenewSpec ts e →
    exec (.leaseRenew q) s = s.becomes ((e.hset H.leaseTime q.port e.clock.core).reply q 0x0902 St.ok)) ∧
  (∀ (q : Req) (s : State) (ts : List Tlv) (e : Dev), s.dev.Accepts q leaseReleaseSpec ts e →
    exec (.leaseRelease q) s = s.becomes
      ((e.endLease q.port ((unitList (tlvNum ts 0x0101)).filter fun u => e.holder u == q.port) 0).reply q 0x0903 St.ok)) ∧
  (∀ (q : Req) (s : State) (ts : List Tlv) (e : Dev), s.dev.Accepts q leaseStatusSpec ts e →
    exec (.leaseStatus q) s = s.becomes (e.reply q 0x0904 St.ok ((List.range 16).map fun u => data [w4 (e.holder u)]))) ∧
  (∀ (port : Fin 5) (s : State), s.dev.unitsOf port ≠ [] →
    let d := s.dev.passToCore (s.dev.hget H.leaseTime port + s.dev.get F.CMD_LEASE_CFG_TIMEOUT * 100000000)
    exec (.leaseTimeout port) s = s.becomes
      (((d.each (s.dev.unitsOf port) fun d u => d.freeUnit port u)).raise 964 [port, wordOfBits (s.dev.unitsOf port), 1])) ∧
  (∀ (d : Dev) (port u : Nat), 12 ≤ u → d.freeUnit port u = d.set F.CMD_LEASE_HOLDER_HOLDER u 7) ∧
  (∀ (q : Req) (s : State) (ts : List Tlv) (e : Dev), s.dev.Accepts q protectSpec ts e →
    let r := tlvRange ts
    (e.barredDests q.port r = [] → exec (.protect q) s = s.becomes
      ((((e.each (rangeList r) fun d i => d.hset H.protectedBy i q.port).raise 966 [q.port, r.1, r.2]).live
        (.protect r.1 r.2 q.port)).reply q 0x0220 St.ok)) ∧
    (∀ i is, e.barredDests q.port r = i :: is → exec (.protect q) s =
      s.becomes (e.reply q 0x0220 St.protected_ [statusDetail (tlvIndex ts 2) (e.hget H.protectedBy i) 0]))) ∧
  (∀ (q : Req) (s : State) (ts : List Tlv) (e : Dev), s.dev.Accepts q unprotectSpec ts e →
    let r := tlvRange ts
    ((hasTlv ts 0x0101 = true ∧ q.port = 0) ∨ (hasTlv ts 0x0101 = false ∧ e.barredDests q.port r = [])) →
    ((rangeList r).any fun i => e.hget H.protectedBy i != 0xFF) = true →
    exec (.unprotect q) s = s.becomes
      ((((e.each (rangeList r) fun d i => d.hset H.protectedBy i 0xFF).raise 966 [q.port, r.1, r.2]).live
        (.protect r.1 r.2 0xFF)).reply q 0x0221 St.ok)) ∧
  (∀ (q : Req) (s : State) (ts : List Tlv) (e : Dev), s.dev.Accepts q protectGetSpec ts e →
    exec (.protectGet q) s = s.becomes
      (e.reply q 0x0222 St.ok [data ((rangeList (tlvRange ts)).map fun i => beBytes 1 (e.hget H.protectedBy i))]))

/-- O23. An accepted edge sets the pin's level and opens its debounce window, counts for the chatter check and raises the pin's event
with its direction unless the pin chatters; an active edge of a TRIGGER or armed START pin also acts (R124, R125); the end of
the window takes a level that differs (R125); chatter begins and ends by the count of a 100 ms window (R126); a pin active for
STUCK_TIME is marked and raised (R127). A write of GPIO_CFG stores its fields, FUNC 5 to 7 as 0 (R548); GPIO_ARM only sets; the
commands configure, set and answer the pins. -/
def Obligations.GpioActs : Prop :=
  (∀ (pin : Fin 32) (level : Bool) (s : State), s.dev.hget H.gpioWindow pin = 0 → s.dev.hget H.gpioPin pin ≠ ofBool level →
    exec (.acceptedEdge pin level) s = s.becomes
      (((s.dev.hset H.gpioBall pin (ofBool level)).hset H.gpioWindow pin 0).acceptEdge pin (ofBool level))) ∧
  (∀ (d : Dev) (n level : Nat),
    let active := level != d.get F.GPIO_CFG_ACTIVE_LOW n
    let us := d.get F.GPIO_CFG_DEBOUNCE_US n
    let e := (d.hset H.gpioPin n level).hset H.gpioWindow n (if us = 0 then 0 else d.clock.core + 1000 * us + 1)
    let e := (e.putBit F.GPIO_LEVEL_LEVEL n active).timeActive n active
    (e.watches n = false → d.acceptEdge n level = e) ∧
    (e.watches n = true → bit ((e.hset H.gpioEdges n (e.hget H.gpioEdges n + 1)).get F.GPIO_CHATTER_CHATTER) n = false →
      d.acceptEdge n level =
        (let r := (e.hset H.gpioEdges n (e.hget H.gpioEdges n + 1)).raise (928 + n) [if active then 0 else 1]
         if active then r.edgeActs n else r))) ∧
  (∀ (pin : Fin 32) (s : State), s.dev.hget H.gpioWindow pin ≠ 0 →
    let d := (s.dev.passToCore (s.dev.hget H.gpioWindow pin - 1)).hset H.gpioWindow pin 0
    exec (.debounceWindowEnd pin) s = s.becomes
      (if d.hget H.gpioBall pin == d.hget H.gpioPin pin then d else d.acceptEdge pin (d.hget H.gpioBall pin))) ∧
  (∀ s : State, exec .chatterWindowEnd s = s.becomes
    ((s.dev.passToCore (s.dev.hget H.bootAt + ((s.dev.clock.core - s.dev.hget H.bootAt) / 100000000 + 1) * 100000000)).each (List.range 32) Dev.chatterPin)) ∧
  (∀ (d : Dev) (n : Nat), d.watches n = true → (d.hset H.gpioEdges n 0).watches n = true →
    d.get F.GPIO_TIMING_CHATTER_LIMIT / 10 < d.hget H.gpioEdges n → bit (d.get F.GPIO_CHATTER_CHATTER) n = false →
    d.chatterPin n = (((d.hset H.gpioEdges n 0).hset H.gpioQuiet n 0).putBit F.GPIO_CHATTER_CHATTER n true).raise (928 + n) [2]) ∧
  (∀ (pin : Fin 32) (s : State), s.dev.get F.GPIO_TIMING_STUCK_TIME ≠ 0 → s.dev.hget H.gpioActive pin ≠ 0 →
    s.dev.watches pin = true → bit (s.dev.get F.GPIO_STUCK_STUCK) pin = false →
    exec (.stuckTimeExpiry pin) s = s.becomes (((s.dev.passToCore (s.dev.hget H.gpioActive pin - 1 +
      100000000 * s.dev.get F.GPIO_TIMING_STUCK_TIME + 1)).putBit F.GPIO_STUCK_STUCK pin true).raise (928 + pin) [4])) ∧
  (∀ (m : Fin 8) (pin : Fin 32) (v : Word) (s : State), s.dev.Reaches m (0xA00000 + 4 * pin) →
    exec (.activeLowWrite m pin v) s =
      s.becomes (((s.dev.transaction m).writeGpioCfg pin v.toNat).written m (0xA00000 + 4 * pin) v.toNat)) ∧
  (∀ (d : Dev) (n w : Nat),
    (d.writeGpioCfg n w).get F.GPIO_CFG_FUNC n = (if bits w 0 3 > 4 then 0 else bits w 0 3) ∧
    (d.writeGpioCfg n w).get F.GPIO_CFG_ACTIVE_LOW n = bits w 3 1 ∧ (d.writeGpioCfg n w).get F.GPIO_CFG_OPEN_DRAIN n = bits w 4 1 ∧
    (d.writeGpioCfg n w).get F.GPIO_CFG_DEBOUNCE_US n = bits w 8 16 ∧ (d.writeGpioCfg n w).evt = d.evt) ∧
  (∀ (m : Fin 8) (v : Word) (s : State), s.dev.Reaches m 0xA00114 → exec (.gpioArmWrite m v) s = s.becomes
    (((s.dev.transaction m).set F.GPIO_ARM_ARM 0 (s.dev.get F.GPIO_ARM_ARM ||| v.toNat)).written m 0xA00114 v.toNat)) ∧
  (∀ (q : Req) (s : State) (ts : List Tlv) (e : Dev), s.dev.Accepts q gpioConfigSpec ts e → hasTlv ts 0x0103 = false →
    let n := tlvNum ts 0x0101
    exec (.gpioConfig q) s =
      s.becomes (((e.writeGpioCfg n (tlvNum ts 0x0102)).mirrorReg (0xA00000 + 4 * n)).reply q 0x0110 St.ok)) ∧
  (∀ (q : Req) (s : State) (ts : List Tlv) (e : Dev), s.dev.Accepts q gpioConfigSpec ts e → hasTlv ts 0x0103 = true →
    let n := tlvNum ts 0x0101
    let t := tlvNum ts 0x0103
    let d := ((e.set F.GPIO_TALLY_SRC n (bits t 16 11)).set F.GPIO_TALLY_DEST n (bits t 0 11)).mirrorReg (0xA00080 + 4 * n)
    exec (.gpioConfig q) s =
      s.becomes (((d.writeGpioCfg n (tlvNum ts 0x0102)).mirrorReg (0xA00000 + 4 * n)).reply q 0x0110 St.ok)) ∧
  (∀ (q : Req) (s : State) (ts : List Tlv) (e : Dev), s.dev.Accepts q gpioSetSpec ts e →
    let mask := tlvNum ts 0x0101
    exec (.gpioSet q) s = s.becomes (((e.set F.GPIO_OUT_OUT 0 ((e.get F.GPIO_OUT_OUT &&& (0xFFFFFFFF ^^^ mask)) |||
      (tlvNum ts 0x0102 &&& mask))).mirrorReg 0xA00108).reply q 0x0111 St.ok)) ∧
  (∀ (q : Req) (s : State) (ts : List Tlv) (e : Dev), s.dev.Accepts q gpioGetSpec ts e →
    exec (.gpioGet q) s = s.becomes (e.reply q 0x0112 St.ok
      [data [w4 (e.get F.GPIO_LEVEL_LEVEL), w4 (e.get F.GPIO_CHATTER_CHATTER), w4 (e.get F.GPIO_STUCK_STUCK)]]))

/-- O24. R157: the payload words of a segment, ten bits each, are packed four to a group of five bytes, the first word first with its
most significant bit first; unpacking gives the words back, and every group of five bytes is the packing of the four words it
unpacks to. R153: a run of data characters and of the six control characters, coded under a running disparity, decodes to itself
with the same disparity after it (the tables of the code are log entry 327, taken from IEEE 802.3). -/
def Obligations.WordsAndBytesAgree : Prop :=
  (∀ a b c e : Nat, a < 1024 → b < 1024 → c < 1024 → e < 1024 →
    packWords [a, b, c, e] = beBytes 5 (((a * 2 ^ 10 + b) * 2 ^ 10 + c) * 2 ^ 10 + e)) ∧
  (∀ ws : List Nat, ws.length % 4 = 0 → (∀ w ∈ ws, w < 1024) → unpackWords (packWords ws) = ws ∧
    (packWords ws).length = ws.length / 4 * 5) ∧
  (∀ bs : List Byte, bs.length % 5 = 0 → packWords (unpackWords bs) = bs) ∧
  (∀ (cs : List LaneChar) (plus : Bool), (∀ c ∈ cs, violation c = false) →
    decodeGroups plus (encodeChars plus cs).1 = (cs, (encodeChars plus cs).2))

/-- O25. A lane that is DOWN and enabled with a signal trains after 10 ms; TRAINING ends after 200 ms and automatic ALIGNING after 50 ms
unless only idle is received; loss of signal and loss of CDR lock take it down with their causes (R166, R168); a transition to
DOWN prevails over another one of the same CORE cycle, and the lowest cause is recorded (R167); rate detection tries the next
rate every 10 ms (R169); a reading sets the eye registers and moves the lane by its limits (R166, R167, R168). A superframe is
decoded, counted and checked in the order of R165, and must start where one is expected; a good one is accepted and its words
handed on, a bad one counted by the check that failed. RETRAIN, BITSLIP and LCM_SEND act with the stored bits of their write
(R161, R166, R170). -/
def Obligations.LanesReceive : Prop :=
  (∀ (lane : Fin 392) (s : State), s.dev.laneState lane = 0 → s.dev.rxEnabled lane = true → s.dev.hget H.reedSignal lane = 1 →
    exec (.laneTrainingStart lane) s = s.becomes ((s.dev.passToCore (s.dev.hget H.reedSince lane + 10000000)).laneTo lane 1 0)) ∧
  (∀ (lane : Fin 392) (s : State), s.dev.cycleState lane = 1 → s.dev.laneState lane = 1 →
    exec (.trainingTimeout lane) s = s.becomes ((s.dev.passToCore (s.dev.cycleSince lane + 200000000)).laneDown lane 5)) ∧
  (∀ (lane : Fin 392) (s : State), s.dev.laneState lane = 2 → s.dev.get F.REED_LANE_CTRL_AUTO_ALIGN lane = 1 →
    s.dev.get F.REED_LANE_STATUS_IDLE_SEEN lane = 0 →
    exec (.alignmentTimeout lane) s = s.becomes ((s.dev.passToCore (s.dev.hget H.reedAlign lane + 50000000)).laneDown lane 6)) ∧
  (∀ (lane : Fin 392) (s : State), s.dev.laneState lane = 2 → s.dev.get F.REED_LANE_STATUS_IDLE_SEEN lane = 1 →
    exec (.alignmentTimeout lane) s = s.becomes s.dev) ∧
  (∀ (lane : Fin 392) (s : State), 1 ≤ s.dev.cycleState lane →
    exec (.lossOfSignal lane) s = s.becomes (((s.dev.hset H.reedSignal lane 0).hset H.reedCdr lane 0).laneDown lane 1)) ∧
  (∀ (lane : Fin 392) (s : State), 2 ≤ s.dev.cycleState lane →
    exec (.cdrUnlock lane) s = s.becomes (((s.dev.hset H.reedCdr lane 0).hset H.reedGood lane 0).laneDown lane 2)) ∧
  (∀ (d : Dev) (n cause : Nat),
    (d.cycleState n = d.laneState n → d.laneDown n cause = d.laneTo n 0 cause) ∧
    (d.cycleState n ≠ d.laneState n → d.laneState n ≠ 0 → d.laneDown n cause = (d.unraise (128 + n) 0).laneTo n 0 cause) ∧
    (d.cycleState n ≠ d.laneState n → d.laneState n = 0 → d.get F.REED_LANE_STATUS_CAUSE n ≤ cause → d.laneDown n cause = d) ∧
    (d.cycleState n ≠ d.laneState n → d.laneState n = 0 → cause < d.get F.REED_LANE_STATUS_CAUSE n → n < 384 → d.laneDown n cause =
      (((d.unraise (128 + n) 0).set F.REED_LANE_STATUS_CAUSE n cause).raise (128 + n)
        [0, 0, cause, ((d.unraise (128 + n) 0).set F.REED_LANE_STATUS_CAUSE n cause).get F.REED_LANE_EYE_FOM n]))) ∧
  (∀ (lane : Fin 384) (s : State), s.dev.laneState lane = 1 → s.dev.get F.REED_LANE_CFG_RX_RATE lane = 0 →
    s.dev.hget H.reedCdr lane = 0 →
    let d := s.dev.passToCore (s.dev.hget H.reedTrySince lane + 10000000)
    exec (.rateTryEnd lane) s = s.becomes ((d.hset H.reedTry lane
      (if s.dev.hget H.reedTry lane ≤ 1 then 3 else s.dev.hget H.reedTry lane - 1)).hset H.reedTrySince lane d.clock.core)) ∧
  (∀ (lane : Fin 392) (s : State), s.dev.clock.core < s.dev.hget H.reedSince lane + 10000000 →
    exec (.signalDetected lane) s = s.becomes (s.dev.hset H.reedSignal lane 1)) ∧
  (∀ (lane : Fin 392) (s : State), s.dev.hget H.reedSince lane + 10000000 ≤ s.dev.clock.core → s.dev.laneState lane = 0 →
    s.dev.rxEnabled lane = true → exec (.signalDetected lane) s = s.becomes ((((s.dev.hset H.reedSignal lane 1).passToCore
      (s.dev.hget H.reedSince lane + 10000000))).laneTo lane 1 0)) ∧
  (∀ (lane : Fin 392) (f : FomIn) (s : State), s.dev.cycleState lane ≠ 0 → s.dev.laneState lane = s.dev.cycleState lane →
    let st := s.dev.laneState lane
    let d := (s.dev.readEye lane f).readLock lane f
    let good := d.hget H.reedGood lane + 1
    (f.cdr = false → 2 ≤ st → exec (.fomReading lane f) s = s.becomes (d.laneDown lane 2)) ∧
    (f.cdr = true → f.fom.toNat < 20 → exec (.fomReading lane f) s = s.becomes (d.laneDown lane 3)) ∧
    (f.cdr = true → 40 ≤ f.fom.toNat → st = 1 → 10 ≤ good → exec (.fomReading lane f) s = s.becomes (d.laneTo lane 2 0)) ∧
    (f.cdr = true → 20 ≤ f.fom.toNat → f.fom.toNat < 40 → st = 3 →
      exec (.fomReading lane f) s = s.becomes (((d.laneTo lane 4 0).set F.REED_LANE_STATUS_DEG_FOM lane 1).readCounts lane 0)) ∧
    (f.cdr = true → 40 ≤ f.fom.toNat → st = 4 → d.hget H.reedDiscards lane ≤ d.get F.REED_DEG_CFG_DEG_DISCARDS → 1000 ≤ good →
      exec (.fomReading lane f) s = s.becomes ((d.laneTo lane 3 0).readCounts lane 0)) ∧
    (f.cdr = true → 40 ≤ f.fom.toNat → st = 3 → exec (.fomReading lane f) s = s.becomes (d.readCounts lane 0))) ∧
  (∀ (lane : Fin 392) (start : Nat) (groups : List Nat) (s : State), 2 ≤ s.dev.laneState lane →
    let p := (decodeGroups (s.dev.rxDisparity lane start groups) groups).2
    let d := ((s.dev.laneBump C.REED_SF_FRAMED lane).hset H.reedNext lane (start + 1025)).hset H.reedPlus lane (ofBool p)
    let d := if s.dev.get F.REED_LANE_CTRL_AUTO_ALIGN lane = 1 then d.set F.REED_LANE_STATUS_COMMA_ALIGNED lane 1 else d
    let d := d.set F.REED_LANE_STATUS_IDLE_SEEN lane 0
    (∀ h ds, s.dev.checkGroups lane start groups = .inl (h, ds) →
      exec (.reedSuperframe lane start groups) s = s.becomes ((d.hset H.reedStart lane (start + 1)).sfAccept lane start h ds)) ∧
    (∀ k, s.dev.checkGroups lane start groups = .inr k →
      exec (.reedSuperframe lane start groups) s = s.becomes (d.sfDiscard lane k))) ∧
  (∀ (d : Dev) (n start : Nat) (gs : List Nat),
    let cs := (decodeGroups (d.rxDisparity n start gs) gs).1
    ((cs.any violation = true ∨ cs.length ≠ 1024) → d.startExpected n start = true → d.checkGroups n start gs = .inr 1) ∧
    (d.startExpected n start = true → d.checkGroups n start gs = checkSuperframe n cs) ∧
    (d.startExpected n start = false → cs.any violation = false → d.checkGroups n start gs = .inr 2)) ∧
  (∀ (m : Fin 8) (lane : Fin 384) (v : Word) (s : State), s.dev.Reaches m (laneCtrlOff lane) →
    exec (.retrain m lane v) s = s.becomes (((s.dev.transaction m).writeLaneCtrl lane (v.toNat ||| 2) false).written m
      (laneCtrlOff lane) (v.toNat ||| 2)) ∧
    (∀ comma, exec (.bitslip m lane v comma) s = s.becomes (((s.dev.transaction m).writeLaneCtrl lane (v.toNat ||| 4) comma).written m
      (laneCtrlOff lane) (v.toNat ||| 4))) ∧
    exec (.lcmSend m lane v) s = s.becomes (((s.dev.transaction m).writeLaneCtrl lane (v.toNat ||| 64) false).written m
      (laneCtrlOff lane) (v.toNat ||| 64))) ∧
  (∀ (d : Dev) (n w : Nat) (comma : Bool),
    let c := ((d.set F.REED_LANE_CTRL_ADAPT_FREEZE n (fieldOf F.REED_LANE_CTRL_ADAPT_FREEZE w)).set F.REED_LANE_CTRL_TX_INVERT n
      (fieldOf F.REED_LANE_CTRL_TX_INVERT w)).set F.REED_LANE_CTRL_RX_INVERT n (fieldOf F.REED_LANE_CTRL_RX_INVERT w)
    let c := c.set F.REED_LANE_CTRL_AUTO_ALIGN n (fieldOf F.REED_LANE_CTRL_AUTO_ALIGN w)
    (bit w 1 = true → bit w 2 = false → bit w 6 = false → c.cycleState n ≠ 0 → d.writeLaneCtrl n w comma = c.laneDown n 7) ∧
    (bit w 1 = false → bit w 2 = false → bit w 6 = true → d.writeLaneCtrl n w comma = c.hset H.lcmPending n 1) ∧
    (bit w 1 = false → bit w 2 = true → bit w 6 = false → d.writeLaneCtrl n w comma = c.bitslip n comma))

/-- O26. A transmit lane that sends superframes takes from each sub-channel's FIFO the whole groups of words that its word rate makes due
and that the FIFO holds, and sends one superframe, coded, with the next SEQ (R174, R175; the credit of the word rate is log
entry 331, the model's choice). Words of a destination join its sub-channel's FIFO, or are counted and dropped while the lane
sends no superframes or cannot carry the format (R11, R182). A transmit group whose rate was changed resumes its superframes
(R176). -/
def Obligations.LanesTransmit : Prop :=
  (∀ (lane : Fin 384) (s : State), s.dev.get F.REED_LANE_STATUS_TX_STATE lane ≠ 2 →
    exec (.reedSuperframeSend lane ()) s = s.becomes s.dev) ∧
  (∀ (lane : Fin 384) (s : State), s.dev.get F.REED_LANE_STATUS_TX_STATE lane = 2 →
    let go := fun (a : Dev × List (List Nat)) i => let r := a.1.takeWords (4 * lane + i); (r.1, a.2 ++ [r.2])
    let r := (List.range 4).foldl go (s.dev, [])
    let d := r.1
    let words := r.2
    let carries := (List.range 4).filter fun i => d.txCarries (4 * lane + i)
    let on := (List.range 4).filter fun i => d.destOn (4 * lane + i)
    let lock := wordOfBits ((List.range 4).filter fun i =>
      d.destSource (4 * lane + i) != 0x7FF && d.hget H.destLost (4 * lane + i) == 0)
    let groups := ((List.range 4).map fun i => (words.getD i []).length / 4 * 2 ^ (6 * i)).sum
    let seq := d.hget H.txSeq lane
    let h : SfHeader := ⟨seq, wordOfBits carries, lock, if wordOfBits on = 0 then 2 else 1, d.txPos lane, groups⟩
    let f := (d.hset H.txSeq lane (seq + 1)).nextFragment lane seq
    let g := encodeChars (f.1.hget H.txPlus lane == 1) (superframe h words f.2)
    exec (.reedSuperframeSend lane ()) s = s.becomes ((f.1.hset H.txPlus lane (ofBool g.2)).emit (.superframe lane g.1))) ∧
  (∀ (d : Dev) (j : Nat), d.txCarries j = true →
    let ws := d.fifoOf j
    let due := min (208 * 100100) (d.hget H.txCredit j + d.wordsDue j)
    let k := min (min 50 (due / 400400)) (ws.length / 4)
    d.takeWords j = (((d.hset H.txCredit j (min (8 * 100100) (due - 400400 * k))).bump C.REED_TX_WORDS_SENT (j / 4) (4 * k)).setFifo j
      (ws.drop (4 * k)), ws.take (4 * k))) ∧
  (∀ (d : Dev) (j : Nat), d.txCarries j = false → d.takeWords j =
    ((d.bump C.REED_TX_WORDS_DROPPED (j / 4) (d.fifoOf j).length).setFifo j [], [])) ∧
  (∀ (d : Dev) (j : Nat) (ws : List Nat),
    let e := d.bump C.REED_TX_WORDS_IN (j / 4) ws.length
    (d.get F.REED_LANE_STATUS_TX_STATE (j / 4) = 2 → d.overCapacity j = false →
      d.pushWords j ws = e.setFifo j (d.fifoOf j ++ ws)) ∧
    ((d.get F.REED_LANE_STATUS_TX_STATE (j / 4) ≠ 2 ∨ d.overCapacity j = true) →
      d.pushWords j ws = e.bump C.REED_TX_WORDS_DROPPED (j / 4) ws.length)) ∧
  (∀ (g : Fin 16) (s : State), s.dev.hget H.txIdle g ≠ 0 →
    exec (.txgrpResume g) s = s.becomes (((s.dev.hset H.txIdle g 0).each ((List.range 24).map (24 * g.val + ·)) Dev.txReview).capacityReviewAll))

/-- O27. A line that arrives at an enabled gang is numbered, marked, sealed, counted and kept, and its bytes reach Mere where the slot
writes there (R202; the header's layout is log entry 332, the model's choice): LINES_IN, and LINES_GOOD or LINES_DAMAGED (with
its event, also for a line that a GAP interrupts) while the gang is LOCKED, LINES_DISCARDED else, so too for a DISABLED slot
(R190, R212); four line periods without an EAV are loss cause 3 (R189); a complete source frame moves the slot's state, its ring
and its monitors (R188, R543); a slot that is enabled takes the lowest loss cause that holds as LOSS_CAUSE and is LOST (R189);
RESKIM returns a slot that fell back while it lies inside the window (R201); a lock that is lost clears its bit of CLK_STATUS,
is raised, and has the consequence the table of R31 gives its domain. -/
def Obligations.IngestActs : Prop :=
  (∀ (slot : Fin 1536) (l : LineIn) (s : State), s.dev.slotState (s.dev.slotBase slot) ≠ 0 →
    let b := s.dev.slotBase slot
    let d := s.dev.pass l.wait
    let damaged := l.damaged || d.hget H.ingGap slot == 1
    let d := d.hset H.ingGap slot 0
    let d := if l.eav then (d.hset H.ingEav slot d.clock.core).hset H.ingNoTrs slot 0 else d
    let crc := lineSeal l.words
    let d := ((d.countLine slot l.number).lineMarks slot l).hset H.ingSeal slot crc
    let n := d.hget H.ingCount slot
    let d := (d.reviewSlot b).lineCounts slot b damaged
    let d := if l.eav && slot.val == b && !d.ipStored b then d.window' slot else d
    let d := if slot.val == b && n == 1 then d.frameStarts slot else d
    let d := d.keepLine slot b ⟨slot - b, n, crc, damaged, l.words⟩
    let d := (d.blameLine slot n crc (lineSeal l.witness)).reviewSlot b
    exec (.ingestLine slot l) s = .next { s with
      dev := d.flush, mere := ((({ s with dev := d } : State).storeLine s.dev b).storeProxy s.dev b).mere }) ∧
  (∀ (slot : Fin 1536) (l : LineIn) (s : State), s.dev.slotState (s.dev.slotBase slot) = 0 →
    exec (.ingestLine slot l) s = .next { s with
      dev := (((s.dev.pass l.wait).bump C.ING_LINES_IN slot).bump C.ING_LINES_DISCARDED slot).flush }) ∧
  (∀ (s : State) (old : Dev) (b : Nat) (f : RingFrame) (l : StoredLine) (o : Nat), (s.dev.ring b).frames.getLast? = some f →
    ((s.dev.ring b).frames.getLast?.map fun f => (f.k, f.lines.length)) ≠ ((old.ring b).frames.getLast?.map fun f => (f.k, f.lines.length)) →
    (placed f.lines).getLast? = some (l, o) →
    s.storeLine old b = { s with mere := writeAt s.mere (s.dev.linePlace b f.k l o) (lineImage l) }) ∧
  (∀ (d : Dev) (i b : Nat) (damaged : Bool),
    (d.slotState b ≠ 3 → d.lineCounts i b damaged = (d.bump C.ING_LINES_IN i).bump C.ING_LINES_DISCARDED i) ∧
    (d.slotState b = 3 → damaged = false → d.lineCounts i b damaged = (d.bump C.ING_LINES_IN i).bump C.ING_LINES_GOOD i) ∧
    (d.slotState b = 3 → damaged = true →
      d.lineCounts i b damaged = (((d.bump C.ING_LINES_IN i).bump C.ING_LINES_DAMAGED i).raise 521 [i, d.hget H.ingCount i]))) ∧
  (∀ (slot : Fin 1536) (s : State), s.dev.slotState (s.dev.slotBase slot) ≠ 0 →
    exec (.noTrsTimeout slot) s = s.becomes (((s.dev.passToCore (s.dev.hget H.ingEav slot + s.dev.trsLimit (s.dev.slotBase slot))).hset H.ingNoTrs
      slot 1).reviewSlot (s.dev.slotBase slot))) ∧
  (∀ (slot : Fin 1536) (f : FrameIn) (s : State), s.dev.slotState slot ≠ 0 → s.dev.slotBase slot = slot →
    let ls := linesOf s.dev.ing.current slot
    let members := s.dev.slotMembers slot
    let crcLines := (members.map fun m => s.dev.hget H.ingCrcLines m).sum
    let d := (s.dev.hset H.ingDetFmt slot f.fmt).hset H.ingDetRate slot f.rate
    let d := d.hset H.ingOversize slot (ofBool (pagesOf ls members.length > d.get F.MERE_SLOT_CFG_FRAME_PAGES slot))
    let d := (d.set F.ING_SLOT_STATUS_PID_MISMATCH slot (ofBool f.pidMismatch)).lockCount slot f
    let d := (d.hset H.ingWinBad slot 0).hset H.ingLtc slot (d.hget H.ingLtc slot - 1)
    let d := d.each members fun d m => (d.hset H.ingCrcLines m 0).hset H.ingCount m 0
    let d := (d.onIng fun x => { x with current := putLines x.current slot [] }).reviewSlot slot
    let d := if d.slotState slot == 2 && d.causes slot == [] && d.get F.ING_LOCK_CFG_LOCK_FRAMES ≤ d.hget H.ingRun slot then
      d.lockSlot slot else d
    let d := if s.dev.slotState slot == 3 && d.slotState slot == 3 then
        let d := if d.ipStored slot then d.keep slot ls else if d.writesMere slot then d.ringEnd slot else d
        (d.monitors slot f ls crcLines).audioLayout slot ls
      else d
    let d := (d.proxyDone slot f.fmt ls).blameFrame slot
    exec (.sourceFrameEnd slot f) s = .next { s with
      dev := d.flush, mere := ((({ s with dev := d } : State).storeLine s.dev slot).storeProxy s.dev slot).mere }) ∧
  (∀ (d : Dev) (i c : Nat) (cs : List Nat), d.slotState i ≠ 0 → d.slotState i ≠ 1 → d.causes i = c :: cs → c ≠ 4 →
    d.reviewSlot i = ((((d.hset H.ingRun i 0).set F.ING_SLOT_STATUS_LOSS_CAUSE i c).enterState i 1).raise 512 [i, c])) ∧
  (∀ (d : Dev) (i : Nat), d.slotState i = 1 → d.causes i = [] → d.reviewSlot i = d.set F.ING_SLOT_STATUS_STATE i 2) ∧
  (∀ (m : Fin 8) (slot : Fin 1536) (v : Word) (s : State), s.dev.Reaches m (reskimOff slot) → v.toNat % 2 = 1 →
    s.dev.get F.ING_SLOT_STATUS_FELL_BACK slot = 1 → s.dev.hget H.ingOutside slot = 0 → s.dev.slotState slot = 3 →
    exec (.reskim m slot v) s = s.becomes (((((s.dev.transaction m).set F.ING_SLOT_STATUS_FELL_BACK slot 0).set
      F.ING_SLOT_STATUS_ON_SKIM slot 1).setVisible slot true).written m (reskimOff slot) v.toNat)) ∧
  (∀ (n : Fin 18) (inst : Nat) (bursts : List Nat) (s : State), perInstance (n + 1) = false →
    bit (s.dev.get F.CLK_STATUS_LOCK) n = true →
    exec (.lossOfLock n inst bursts) s = s.becomes
      ((((s.dev.setLock n false).raise 36 [n + 1]).lockConsequence (n + 1) inst bursts).healthReview)) ∧
  (∀ (n : Fin 18) (inst : Nat) (bursts : List Nat) (s : State), perInstance (n + 1) = true →
    exec (.lossOfLock n inst bursts) s = s.becomes ((s.dev.lockConsequence (n + 1) inst bursts).healthReview)) ∧
  (∀ (d : Dev) (inst : Nat) (bursts : List Nat),
    (∀ n ∈ [1, 3, 4, 10, 17], d.lockConsequence n inst bursts = d.deviceReset 3 n) ∧
    (∀ n ∈ [2, 13, 14], d.lockConsequence n inst bursts = d.tickStop n) ∧
    d.lockConsequence 5 inst bursts = d.stackLost 0 0 ∧ d.lockConsequence 6 inst bursts = d.stackLost 1 0 ∧
    d.lockConsequence 12 inst bursts = d.pciReset bursts)

/-- O28. A corrected error is counted for its stack and raised; an uncorrectable one is counted, captures its offset while VALID is 0 and
only then, is raised with the offset, and damages what it meets; more than 64 of them, or a failed retrain, take Mere out of
service with the cause raised, once (R211); writing 1 to VALID re-arms the capture (R210). -/
def Obligations.MereErrorsAct : Prop :=
  (∀ (stack : Fin 2) (o : Nat) (hit : MereHit) (s : State), exec (.mereEccError stack true o hit) s =
    s.becomes ((s.dev.bump (if stack.val = 0 then C.MERE_ECC_CE_A else C.MERE_ECC_CE_B)).raise 576 [stack])) ∧
  (∀ (stack : Fin 2) (o : Nat) (hit : MereHit) (s : State),
    let d := s.dev.bump (if stack.val = 0 then C.MERE_ECC_UE_A else C.MERE_ECC_UE_B)
    let c := ((d.set F.MERE_ECC_ADDR_HI_VALID 0 1).set F.MERE_ECC_ADDR_LO_ADDR 0 o).set F.MERE_ECC_ADDR_HI_ADDR 0 (o / 2 ^ 32)
    let e := ((if s.dev.get F.MERE_ECC_ADDR_HI_VALID = 1 then d else c).raise 577 (words2 o)).mereDamage o hit
    exec (.mereEccError stack false o hit) s = s.becomes
      (if e.hget H.mereErrors + 1 > 64 then (e.hset H.mereErrors 0 (e.hget H.mereErrors + 1)).mereOut 2
       else e.hset H.mereErrors 0 (e.hget H.mereErrors + 1))) ∧
  (∀ (d : Dev) (o : Nat) (slot : Fin 1536) (line : Nat),
    d.mereDamage o (.header slot line) = (((d.damageLine slot line o).bump C.ING_LINES_IN slot).bump C.ING_LINES_DAMAGED slot).raise 521 [slot, line] ∧
    d.mereDamage o .content = d ∧ d.mereDamage o .composition = d ∧ d.mereDamage o .other = d) ∧
  (∀ (stack : Fin 2) (s : State), exec (.mereRetrainFail stack) s = s.becomes
    ((s.dev.set (if stack.val = 0 then F.MERE_STATUS_STACK_A_OK else F.MERE_STATUS_STACK_B_OK) 0 0).mereOut 1)) ∧
  (∀ (d : Dev) (cause : Nat), d.get F.MERE_STATUS_IN_SERVICE = 1 →
    let e := d.set F.MERE_STATUS_IN_SERVICE 0 0
    d.mereOut cause = ((e.each e.liveSlots Dev.reviewSlot).raise 580 [cause]).healthReview) ∧
  (∀ (d : Dev) (cause : Nat), d.get F.MERE_STATUS_IN_SERVICE ≠ 1 → d.mereOut cause = d) ∧
  (∀ (m : Fin 8) (v : Word) (s : State), s.dev.Reaches m 0x1500034 → bit v.toNat 31 = true →
    exec (.mereEccAddrClear m v) s = s.becomes (((s.dev.transaction m).set F.MERE_ECC_ADDR_HI_VALID 0 0).written m 0x1500034
      v.toNat)) ∧
  (∀ (m : Fin 8) (v : Word) (s : State), s.dev.Reaches m 0x1500034 → bit v.toNat 31 = false →
    exec (.mereEccAddrClear m v) s = s.becomes ((s.dev.transaction m).written m 0x1500034 v.toNat))

/-- O29. Every line that an enabled destination sends is voted; the plane whose seal agrees with the check leaves, the counts of R214
tell which planes failed, and the selected plane changes when it failed and the other passed (R16, R17); on the skim path the
line has left already, so a failure is counted as escaped (R213). Both planes take one source line, with the seal that came with
it (R15): black between a take's adoption and its switch line, what the loss policy asks while the source is lost, else the
source's line (R213, R232, R235); a faulted plane's words are the command's operand. The line that leaves, of the passing plane
or of the previous frame (R16), passes the converter, the ANC stage and the output seal (R240, R242, R268). An injection
corrupts the next COUNT lines of one plane (R216). -/
def Obligations.TheSealVoteActs : Prop :=
  (∀ (i : Fin 1536) (l : VoteLine) (s : State), s.dev.running = true → s.dev.destOn i = true → s.dev.destIdle i = false →
    let p := s.dev.pick i l.number
    let a := if s.dev.injects i 0 then corruptLine (l.faultA.getD p.words) else l.faultA.getD p.words
    let b := if s.dev.injects i 1 then corruptLine (l.faultB.getD p.words) else l.faultB.getD p.words
    let extra := s.dev.blankingDelta i l.number
    let d := (s.dev.useInjections i).each [0, 1] fun d p => (d.bump K.FABRIC_ISSUED p).bump K.FABRIC_RETURNED p
    let v := d.vote i l.number p.skim (lineSeal a == p.crc) (lineSeal b == p.crc)
    let sent := if v.2 = 0 then a else if v.2 = 1 then b else p.before
    let c := v.1.convert i sent.active
    let n := c.1.ancStage i l.number extra sent.anc (p.repeated || v.2 == 2)
    exec (.sealVote i l) s = s.becomes (n.1.sendLine i l.number v.2 extra ⟨n.2.1, c.2⟩ n.2.2)) ∧
  (∀ (i : Fin 1536) (l : VoteLine) (s : State), (s.dev.running = false ∨ s.dev.destOn i = false ∨ s.dev.destIdle i = true) →
    exec (.sealVote i l) s = s.becomes s.dev) ∧
  (∀ (d : Dev) (i n : Nat),
    (d.hget H.destBlack i = 1 → d.pick i n = made (d.destBlackLine i n) (d.destBlackLine i n) true) ∧
    (d.hget H.destBlack i ≠ 1 → d.hget H.destLost i = 1 →
      (d.get F.XPT_DEST_CFG_LOSS_POLICY i = 0 → d.pick i n = d.heldLine i (d.destSource i) n) ∧
      (d.get F.XPT_DEST_CFG_LOSS_POLICY i ≠ 0 → d.pick i n = made (d.destBlackLine i n) (d.destBlackLine i n) true)) ∧
    (d.hget H.destBlack i ≠ 1 → d.hget H.destLost i ≠ 1 → d.pick i n = d.liveLine i (d.destSource i) n)) ∧
  (∀ (d : Dev) (i s n : Nat),
    (s < 1536 → d.slotOnSkim s = true → d.liveLine i s n = d.stored i n (d.skimLine s n) false true none) ∧
    (1536 ≤ s → s < 1552 → d.liveLine i s n = d.headLine i (s - 1536) n false)) ∧
  (∀ (d : Dev) (i line : Nat) (sent other : Bool), d.get F.XPT_DEST_STATUS_PLANE i < 2 →
    let p := d.get F.XPT_DEST_STATUS_PLANE i
    let e := d.bump C.XPT_SEAL_VOTED i
    let v := d.vote i line false (if p = 0 then sent else other) (if p = 0 then other else sent)
    (sent = true → other = true → v = (e.bump C.XPT_SEAL_AGREE i, p)) ∧
    (sent = true → other = false → v = ((e.bump C.XPT_SEAL_CORRECTED i).raise 544 [i, 1 - p, line], p)) ∧
    (sent = false → other = true →
      v = (((e.bump C.XPT_SEAL_CORRECTED i).raise 544 [i, p, line]).selectPlane i (1 - p), 1 - p)) ∧
    (sent = false → other = false → v = ((e.bump C.XPT_SEAL_UNCORR_MERE i).raise 545 [i, line, 0], 2))) ∧
  (∀ (d : Dev) (i line : Nat) (sent other : Bool), d.get F.XPT_DEST_STATUS_PLANE i < 2 →
    let p := d.get F.XPT_DEST_STATUS_PLANE i
    let e := d.bump C.XPT_SEAL_VOTED i
    let v := d.vote i line true (if p = 0 then sent else other) (if p = 0 then other else sent)
    (sent = true → other = true → v = (e.bump C.XPT_SEAL_AGREE i, p)) ∧
    (sent = true → other = false → v = ((e.bump C.XPT_SEAL_SHADOW_FAIL i).raise 547 [i, 1 - p, line], p)) ∧
    (sent = false → other = true →
      v = (((e.bump C.XPT_SEAL_ESCAPED i).raise 546 [i, p, line]).selectPlane i (1 - p), p)) ∧
    (sent = false → other = false →
      v = ((((e.bump C.XPT_SEAL_ESCAPED i).raise 546 [i, p, line]).bump C.XPT_SEAL_UNCORR_SKIM i).raise 545 [i, line, 1], p))) ∧
  (∀ (m : Fin 8) (v : Word) (s : State), s.dev.Reaches m 0x1680300 →
    let plane := fieldOf F.XPT_INJECT_PLANE v.toNat
    let count := fieldOf F.XPT_INJECT_COUNT v.toNat
    let dest := fieldOf F.XPT_INJECT_DEST v.toNat
    let d := (((s.dev.transaction m).set F.XPT_INJECT_PLANE 0 plane).set F.XPT_INJECT_COUNT 0 count).set F.XPT_INJECT_DEST 0 dest
    (fieldOf F.XPT_INJECT_GO v.toNat = 1 → count ≠ 0 → dest < 1536 →
      exec (.xptInject m v) s = s.becomes ((d.onXpt fun x => { x with
        injections := (x.injections.filter fun j => !(j.dest == dest && j.plane == plane)) ++ [⟨dest, plane, count⟩] }).written m
          0x1680300 v.toNat)) ∧
    (fieldOf F.XPT_INJECT_GO v.toNat = 0 → exec (.xptInject m v) s = s.becomes (d.written m 0x1680300 v.toNat)))

/-- O30. At the switch line of a frame that the destination starts, once in that frame, the armed take is applied; else the changeover
that waits, where its frame meets the divisors of R220; else the lost source resumes (R18, R236, R238, R239). A take makes its
source the main source and cancels the changeover; it is counted, its entry settles with OK, and ON_BACKUP is cleared; the
members of a gang move with its base (R233). -/
def Obligations.TheSwitchLineActs : Prop :=
  (∀ (i : Fin 1536) (s : State),
    let mark := s.dev.get F.TICK_EPOCH_EPOCH + 1
    let t := s.dev.tick.t0Core + switchStart (s.dev.get F.XPT_DEST_STATUS_FORMAT i) (s.dev.destRate i)
    let d := (s.dev.passToCore t).hset H.destSwitched i mark
    s.dev.running = true → s.dev.destStarts i s.dev.tick.frame = true → s.dev.hget H.destSwitched i ≠ mark →
    isBase s.dev.inEffect F.XPT_DEST_CFG_GANG i = true →
      (∀ e, (s.dev.xpt.entries.find? fun e => e.dest == i.val && e.armed) = some e →
        exec (.sluiceSwitch i () ()) s = s.becomes (d.applyTake e).salvosEnd) ∧
      (∀ c, (s.dev.xpt.entries.find? fun e => e.dest == i.val && e.armed) = none →
        (s.dev.xpt.changeovers.find? fun c => c.dest == i.val && s.dev.allows c.dest c.source s.dev.tick.frame) = some c →
        exec (.sluiceSwitch i () ()) s = s.becomes (d.applyChangeover c).salvosEnd) ∧
      ((s.dev.xpt.entries.find? fun e => e.dest == i.val && e.armed) = none →
        (s.dev.xpt.changeovers.find? fun c => c.dest == i.val && s.dev.allows c.dest c.source s.dev.tick.frame) = none →
        exec (.sluiceSwitch i () ()) s = s.becomes (d.resume i).salvosEnd)) ∧
  (∀ (i : Fin 1536) (s : State),
    (s.dev.running = false ∨ s.dev.hget H.destSwitched i = s.dev.get F.TICK_EPOCH_EPOCH + 1 ∨
      isBase s.dev.inEffect F.XPT_DEST_CFG_GANG i = false) →
    exec (.sluiceSwitch i () ()) s = s.becomes s.dev) ∧
  (∀ (d : Dev) (e : Entry),
    let c := ((d.carry e.dest e.source).hset H.destMain e.dest e.source).set F.XPT_DEST_STATUS_ON_BACKUP e.dest 0
    let c := (c.hset H.destRevertRun e.dest 0).onXpt fun x => { x with changeovers := x.changeovers.filter fun c => c.dest != e.dest }
    d.applyTake e = ((c.bump C.XPT_TL_APPLIED).entryEnds e St.ok).unconfirm e.cseq ⟨3, e.port, e.tag, e.dest, e.source, e.frame⟩) ∧
  (∀ (d : Dev) (i src k : Nat), src < 1568 → k < gangSize (d.get F.XPT_DEST_CFG_GANG i) →
    (d.carry i src).get F.XPT_DEST_STATUS_SOURCE (i + k) = src + k ∧
    (d.carry i src).count C.XPT_TAKES_APPLIED i = (d.count C.XPT_TAKES_APPLIED i + 1) % 2 ^ 64)

/-- O31. TAKE checks each destination of its range at its own effective frame and admits those that pass while entries are free (R221,
R222); SALVO does so with one effective frame for all its routes, and admits all the remaining ones or none (R225);
SALVO_PREPARE holds its routes without the cutoff check (R228); SALVO_FIRE fires a held identity, or answers BAD_PARAM where it
holds none; SALVO_DISCARD and TAKE_CANCEL free entries and count them in TL_CANCELLED; a frame number more than 2^20 ahead is
BAD_PARAM (R219); TRIGGER_BIND binds or unbinds a pin (R229). -/
def Obligations.TakeCommandsAct : Prop :=
  (∀ (q : Req) (s : State) (ts : List Tlv) (e : Dev), s.dev.Accepts q takeSpec ts e →
    let rs := (rangeList (tlvRange ts)).map fun i => (i, tlvNum ts 0x0003, e.effectiveFrame [(i, tlvNum ts 0x0003)] (frameTlv ts))
    let cs := takeEntries e.xpt e.xpt.free rs (rs.map fun r => e.checkRoute q.port r.1 r.2.1 r.2.2 (some (frameTlv ts)))
    let c := e.newTake q 0x0201 ((rangeList (tlvRange ts)).length > 1) false
    exec (.take q) s = s.becomes
      (e.startTake { c with frame := (rs.map fun r => r.2.2).headD 0, index := tlvIndex ts 0x0002, routes := outcomes rs cs } (passed rs cs))) ∧
  (∀ p ∈ ([(takeSpec, Instr.take), (salvoSpec, Instr.salvo), (fireSpec, Instr.salvoFire)] : List (Spec × (Req → Instr))),
    ∀ (q : Req) (s : State) (e : Dev), s.dev.TakesUp q p.1.op e → e.ready = true → e.rolePermits q.port p.1.op = true →
    let r := parseTlvs (q.payload.length + 1) 0 q.payload
    p.1.form r.1 r.2 = none → e.frameNow + 2 ^ 20 < frameTlv r.1 →
    ∃ i, valueFault (p.1.parsAt e.frameNow) 0 r.1 = some i ∧
      exec (p.2 q) s = s.becomes (e.reply q p.1.op St.badParam [statusDetail i 0xFF 0])) ∧
  (∀ (d : Dev) (port i src n : Nat) (target : Option Nat), d.checkRoute port i src n target =
    if d.routeNamed d.inEffect i src = false then some St.badParam
    else if (∃ t, target = some t ∧ (t ≠ 0 ∧ t < d.frameNow ∨ d.tooLate n = true)) then some St.late
    else if d.barredBy port i = true then some St.protected_
    else if d.compatible (d.viewAt n) i src = false then some St.formatMismatch
    else if d.unreserved (d.viewAt n) i src = true then some St.bandwidth else none) ∧
  (∀ (q : Req) (s : State) (ts : List Tlv) (e : Dev), s.dev.Accepts q salvoSpec ts e →
    ((twiceNamed 0 [] ts).orElse fun _ => routeOver ts) = none →
    let routes := routesOf (tlvAll ts 0x0101)
    let n := e.effectiveFrame (routes.filter fun r => e.routeNamed e.inEffect r.1 r.2) (frameTlv ts)
    let rs := routes.map fun r => (r.1, r.2, n)
    let cs := salvoEntries e.xpt rs (routes.map fun r => e.checkRoute q.port r.1 r.2 n (some (frameTlv ts)))
    exec (.salvo q) s = s.becomes
      (e.startTake { e.newTake q 0x0202 true true with frame := n, routes := outcomes rs cs } (passed rs cs))) ∧
  (∀ (q : Req) (s : State) (ts : List Tlv) (e : Dev) (i : Nat), s.dev.Accepts q salvoSpec ts e →
    ((twiceNamed 0 [] ts).orElse fun _ => routeOver ts) = some i →
    exec (.salvo q) s = s.becomes (e.reply q 0x0202 St.badParam [statusDetail i 0xFF 0])) ∧
  (∀ (q : Req) (s : State) (ts : List Tlv) (e : Dev), s.dev.Accepts q prepareSpec ts e →
    let held := e.xpt.heldOf (tlvNum ts 0x0102)
    let routes := routesOf (tlvAll ts 0x0101)
    (held.isEmpty = true ∨ hasTlv ts 0x0103 = true) →
    ((twiceNamed 0 (held.map HeldRoute.dest) ts).orElse fun _ => routeOver ts) = none → held.length + routes.length ≤ 1536 →
    let rs := routes.map fun r => (r.1, r.2, e.frameNow)
    let cs := routes.map fun r => e.checkRoute q.port r.1 r.2 e.frameNow none
    let cs := if (passed rs cs).length > e.xpt.free then cs.map fun c => some (c.getD St.exhausted) else cs
    let statuses := cs.map fun c => c.getD St.ok
    let d := e.holdRoutes (tlvNum ts 0x0102) (((held.map HeldRoute.port).head?).getD q.port)
      (((held.map HeldRoute.tag).head?).getD q.tag) (passed rs cs)
    exec (.salvoPrepare q) s = s.becomes (d.takeRespond { d.newTake q 0x0203 true false with
      routes := List.zipWith (fun r s => ⟨r.1, r.2, s⟩) routes statuses } ((statuses.find? (· != St.ok)).getD St.ok) true)) ∧
  (∀ (q : Req) (s : State) (ts : List Tlv) (e : Dev), s.dev.Accepts q fireSpec ts e →
    let id := tlvNum ts 0x0102
    (e.xpt.heldOf id = [] → exec (.salvoFire q) s = s.becomes
      (e.reply q 0x0204 St.badParam [statusDetail (tlvIndex ts 0x0102) 0xFF 0])) ∧
    (e.xpt.heldOf id ≠ [] → exec (.salvoFire q) s = s.becomes
      (e.fire (e.newTake q 0x0204 true true) id (frameTlv ts)))) ∧
  (∀ (q : Req) (s : State) (ts : List Tlv) (e : Dev), s.dev.Accepts q discardSpec ts e →
    let id := tlvNum ts 0x0102
    (e.xpt.heldOf id).length ≠ 0 → exec (.salvoDiscard q) s = s.becomes
      (((((e.bump C.XPT_TL_CANCELLED 0 (e.xpt.heldOf id).length).onXpt fun x => { x with
        held := x.held.filter fun h => h.salvo != id }).live (.discard id)).reply q 0x0205 St.ok))) ∧
  (∀ (q : Req) (s : State) (ts : List Tlv) (e : Dev), s.dev.Accepts q cancelSpec ts e →
    let n := frameTlv ts
    let r := tlvRange ts
    (e.tooLate n = true → exec (.takeCancel q) s = s.becomes (e.reply q 0x0206 St.late)) ∧
    (e.tooLate n = false → exec (.takeCancel q) s = s.becomes
      (((e.xpt.entries.filter fun t => t.frame == n && r.1 ≤ t.dest && t.dest < r.1 + r.2).foldl (fun d t =>
        ((d.bump C.XPT_TL_CANCELLED).live (.cancel t.dest n t.port t.tag)).entryEnds t St.superseded) e).reply q 0x0206 St.ok))) ∧
  (∀ (q : Req) (s : State) (ts : List Tlv) (e : Dev), s.dev.Accepts q takeListSpec ts e →
    let r := tlvRange ts
    let es := sortBy (fun (a b : Entry) => a.dest < b.dest || (a.dest == b.dest && a.frame ≤ b.frame))
      (e.xpt.entries.filter fun t => r.1 ≤ t.dest && t.dest < r.1 + r.2)
    exec (.takeListGet q) s = s.becomes (e.reply q 0x0207 St.ok
      (es.map fun t => data [w4 t.dest, w4 t.source, w8 t.frame, w4 t.port, w4 t.tag]))) ∧
  (∀ (q : Req) (s : State) (ts : List Tlv) (e : Dev), s.dev.Accepts q triggerSpec ts e →
    let pin := tlvNum ts 0x0101
    let id := tlvNum ts 0x0102
    let d := if id = 0xFF then e.set F.XPT_TRIG_EN pin 0 else (e.set F.XPT_TRIG_EN pin 1).set F.XPT_TRIG_SALVO_ID pin id
    exec (.triggerBind q) s = s.becomes ((d.mirrorReg (0x1680200 + 4 * pin)).reply q 0x0208 St.ok))

/-- O32. A configuration command whose checks pass holds its shadow writes for its frame (R547); a gang code that the range does not fit
is BAD_PARAM, a guarded setting of a destination that another port protects is PROTECTED (R122), a fixed mode that the lane or
the house rate does not allow is FORMAT_MISMATCH, and writes that the checks of a commit refuse are refused with that status.
The status commands answer the status registers and the seal counts of each named instance. -/
def Obligations.CrosspointConfigActs : Prop :=
  (∀ (q : Req) (s : State) (ts : List Tlv) (e : Dev), s.dev.Accepts q destConfigSpec ts e →
    let r := tlvRange ts
    let ws := destWrites ts
    let n := e.changeFrame (frameTlv ts)
    let v := e.plannedAt n
    let z := gangSize (tlvNum ts 0x0102)
    let hw := e.heldWrites ws
    let odd := hasTlv ts 0x0102 && (r.1 % z != 0 || r.2 % z != 0)
    let attached := hasTlv ts 0x0102 && (rangeList r).any fun i =>
      e.hasConverter hw v i && gangSize ((v.over ws) F.XPT_DEST_CFG_GANG i) != gangSize (v F.XPT_DEST_CFG_GANG i)
    let unfit := hasTlv ts 0x0101 && (rangeList r).any fun i => e.modeMismatch v i (tlvNum ts 0x0101)
    (odd = true → exec (.destConfig q) s = s.becomes (e.reply q 0x0210 St.badParam [statusDetail (tlvIndex ts 2) 0xFF 0])) ∧
    (odd = false → attached = true → exec (.destConfig q) s =
      s.becomes (e.reply q 0x0210 St.badParam [statusDetail (tlvIndex ts 0x0102) 0xFF 0x16])) ∧
    (∀ i, odd = false → attached = false → e.rangeBarred q.port r ws = some i →
      exec (.destConfig q) s = s.becomes (e.replyProtected q 0x0210 ts i)) ∧
    (odd = false → attached = false → e.rangeBarred q.port r ws = none → unfit = true →
      exec (.destConfig q) s = s.becomes (e.reply q 0x0210 St.formatMismatch)) ∧
    (∀ st, odd = false → attached = false → e.rangeBarred q.port r ws = none → unfit = false → e.admission n ws = some st →
      exec (.destConfig q) s = s.becomes (e.refuse q 0x0210 st)) ∧
    (odd = false → attached = false → e.rangeBarred q.port r ws = none → unfit = false → e.admission n ws = none →
      exec (.destConfig q) s = s.becomes (e.holdChange q 0x0210 (frameTlv ts) ws))) ∧
  (∀ (q : Req) (s : State) (ts : List Tlv) (e : Dev), s.dev.Accepts q sourceConfigSpec ts e →
    let r := tlvRange ts 0x0101
    let feed := tlvRange ts 0x0102
    let n := e.changeFrame (frameTlv ts)
    let ws := sourceWrites ts ++ e.bundleWrites (e.plannedAt n) ((e.plannedAt n).over (sourceWrites ts)) (sourceWrites ts)
    (hasTlv ts 0x0102 && feed.1 != 0 && feed.2 + r.2 - 1 > (if feed.1 = 1 then 1535 else 2047)) = false →
    (hasTlv ts 0x0103 = true → r.1 % gangSize (tlvNum ts 0x0103) ≠ 0 →
      exec (.sourceConfig q) s = s.becomes (e.reply q 0x0211 St.badParam [statusDetail (tlvIndex ts 0x0103) 0xFF 0])) ∧
    ((hasTlv ts 0x0103 && r.1 % gangSize (tlvNum ts 0x0103) != 0) = false → e.admission n ws = none →
      exec (.sourceConfig q) s = s.becomes (e.holdChange q 0x0211 (frameTlv ts) ws))) ∧
  (∀ (q : Req) (s : State) (ts : List Tlv) (e : Dev), s.dev.Accepts q changeoverConfigSpec ts e →
    let r := tlvRange ts
    let ws := changeoverWrites ts
    let v := e.plannedAt (e.changeFrame (frameTlv ts))
    let bad := (rangeList r).findSome? fun i => if isBase v F.XPT_DEST_CFG_GANG i then e.checkSource v i (tlvNum ts 0x0003) else none
    (∀ i, e.rangeBarred q.port r ws = some i → exec (.changeoverConfig q) s = s.becomes (e.replyProtected q 0x0212 ts i)) ∧
    (e.rangeBarred q.port r ws = none → (hasTlv ts 0x0003 = false ∨ tlvNum ts 0x0003 = 0x7FF ∨ bad = none) →
      exec (.changeoverConfig q) s = s.becomes (e.holdChange q 0x0212 (frameTlv ts) ws))) ∧
  (∀ (q : Req) (s : State) (ts : List Tlv) (e : Dev), s.dev.Accepts q generatorConfigSpec ts e →
    let w := tlvNum ts 0x0102
    (generatorFormat (bits w 16 8) = false → exec (.generatorConfig q) s =
      s.becomes (e.reply q 0x0215 St.badParam [statusDetail (tlvIndex ts 0x0102) 0xFF 0])) ∧
    (generatorFormat (bits w 16 8) = true → e.supports (bits w 12 4) = false →
      exec (.generatorConfig q) s = s.becomes (e.reply q 0x0215 St.formatMismatch)) ∧
    (generatorFormat (bits w 16 8) = true → e.supports (bits w 12 4) = true → exec (.generatorConfig q) s =
      s.becomes (e.holdChange q 0x0215 (frameTlv ts) (generatorWrites (tlvNum ts 0x0101) w)))) ∧
  (∀ (q : Req) (s : State) (ts : List Tlv) (e : Dev), s.dev.Accepts q destStatusGetSpec ts e →
    exec (.destStatusGet q) s = s.becomes (e.reply q 0x0213 St.ok ((rangeList (tlvRange ts)).map fun i =>
      data (w4 (e.storedAt (0x1600000 + 0x40 * i + 4) + e.destStatusView i) ::
        [0x20, 0x24, 0x28, 0x2C, 0x30, 0x34, 0x38].map fun o => w4 (e.storedAt (0x1600000 + 0x40 * i + o)))))) ∧
  (∀ (q : Req) (s : State) (ts : List Tlv) (e : Dev), s.dev.Accepts q sourceStatusGetSpec ts e →
    exec (.sourceStatusGet q) s = s.becomes (e.reply q 0x0214 St.ok ((rangeList (tlvRange ts 0x0101)).map fun i =>
      data [w4 (e.storedAt (0x1400000 + 0x200 * i + 8)), w4 (e.storedAt (0x1400000 + 0x200 * i + 0x10)),
        w4 (e.storedAt (0x1400000 + 0x200 * i + 0x14))])))

/-- O33. HEAD_CONFIG, TILE_CONFIG, CORNICE_CONFIG, GUARD_CONFIG and CSET_CONFIG hold their shadow writes for their frame when their
checks pass; a FORMAT or RATE that no head composes is BAD_PARAM (R246), an enabled tile passes the checks of R252 in their
order or is turned away with their status and reason, and a tile and a guarded region never meet (R263). A head that completes
its composition is no longer composing, and readout sends that buffer next (R247). A failed scaler is retired; while eight
spares hold nothing else happens, and the ninth failure faults it and raises the heads whose tiles it served (R253).
HEAD_STATUS_GET answers the head's status and those of its tiles and regions. -/
def Obligations.MultiviewerActs : Prop :=
  (∀ (h : Fin 16) (s : State), s.dev.hget H.mvComposing h = 1 → exec (.compositionComplete h) s = s.becomes
    ((((s.dev.hset H.mvComposing h 0).hset H.mvReady h 1).hset H.mvDone h 1).set F.MV_HEAD_STATUS_RUN h 0)) ∧
  (∀ (n : Fin 256) (s : State), s.dev.get F.MV_SCALER_POOL_RETIRED + s.dev.hget H.scalerTest ≠ 8 →
    let d := s.dev.set F.MV_SCALER_POOL_RETIRED 0 (s.dev.get F.MV_SCALER_POOL_RETIRED + 1)
    let e := d.hset H.scalerFault n 1
    let heads := (List.range 16).filter fun h => e.tilesOn.any fun i =>
      i / 64 == h && e.hget H.tileScaled i == 1 && e.get F.MV_TILE_STATUS_SCALER i == n
    (s.dev.get F.MV_SCALER_POOL_RETIRED < 8 → exec (.scalerFailure n) s = s.becomes d.healthReview) ∧
    (8 ≤ s.dev.get F.MV_SCALER_POOL_RETIRED → exec (.scalerFailure n) s = s.becomes
      (e.each heads fun d h => (d.set F.MV_HEAD_STATUS_SCALER_FAULT h 1).raise 807 [n, h]).healthReview)) ∧
  (∀ (q : Req) (s : State) (ts : List Tlv) (e : Dev), s.dev.Accepts q headConfigSpec ts e →
    let bad := hasTlv ts 0x0102 && !e.headFormat (tlvNum ts 0x0102)
    (bad = true → exec (.headConfig q) s = s.becomes (e.reply q 0x0601 St.badParam [statusDetail (tlvIndex ts 0x0102) 0xFF 0])) ∧
    let n := e.changeFrame (frameTlv ts)
    (∀ st, bad = false → e.raisesClaim n (headWrites ts) = true → e.admission n (headWrites ts) = some st →
      exec (.headConfig q) s = s.becomes (e.refuse q 0x0601 st)) ∧
    (bad = false → (e.raisesClaim n (headWrites ts) = false ∨ e.admission n (headWrites ts) = none) →
      exec (.headConfig q) s = s.becomes (e.holdChange q 0x0601 (frameTlv ts) (headWrites ts)))) ∧
  (∀ (q : Req) (s : State) (ts : List Tlv) (e : Dev), s.dev.Accepts q tileConfigSpec ts e →
    let ws := tileWrites ts
    let i := 64 * tlvNum ts 0x0101 + tlvNum ts 0x0106
    let n := e.changeFrame (frameTlv ts)
    let v := (e.plannedAt n).over ws
    let c := if (tileCfg v i).en then e.checkTile (e.heldWrites ws) v i else .ok (0, 0)
    (∀ st, c = .error st → exec (.tileConfig q) s = s.becomes (e.refuse q 0x0602 st)) ∧
    let charged := (tileCfg v i).en && v F.ING_SLOT_CFG_PATH (gangBase v F.ING_SLOT_CFG_GANG (tileCfg v i).source) == 1
    (∀ k st, c = .ok k → (charged = true ∨ e.raisesClaim n ws = true) → e.admission n ws = some st →
      exec (.tileConfig q) s = s.becomes (e.refuse q 0x0602 st)) ∧
    let fits := (charged = false ∧ e.raisesClaim n ws = false) ∨ e.admission n ws = none
    (∀ k, c = .ok k → fits → e.onGuard (e.heldWrites ws) v i = true →
      exec (.tileConfig q) s = s.becomes (e.refuse q 0x0602 (St.badParam, 0x14))) ∧
    (∀ k, c = .ok k → fits → e.onGuard (e.heldWrites ws) v i = false →
      let d := e.holdChange q 0x0602 (frameTlv ts) ws
      exec (.tileConfig q) s = s.becomes (if d.tick.changes.length > e.tick.changes.length then
        d.hset H.tilePlan i (1 + 16 * k.1 + k.2) else d))) ∧
  (∀ (d : Dev) (ws : List ShadowWrite) (v : View) (i : Nat),
    let t := tileCfg v i
    let raster := d.tileRaster v t.source
    let p := proxySize raster (t.proxy raster)
    (t.placed (headRaster (v F.MV_HEAD_CFG_FORMAT (i / 64))) = false → d.checkTile ws v i = .error (St.badParam, 0x15)) ∧
    (t.placed (headRaster (v F.MV_HEAD_CFG_FORMAT (i / 64))) = true → 1536 ≤ t.source → d.checkTile ws v i = .error (St.badParam, 0x13)) ∧
    (t.placed (headRaster (v F.MV_HEAD_CFG_FORMAT (i / 64))) = true → t.source < 1536 → proxyCharge p.1 = none →
      d.checkTile ws v i = .error (St.linebuf, 0)) ∧
    (∀ c, d.checkTile ws v i = .ok c → t.placed (headRaster (v F.MV_HEAD_CFG_FORMAT (i / 64))) = true ∧ t.source < 1536 ∧
      proxyCharge p.1 = some c ∧ t.scales p = true)) ∧
  (∀ (q : Req) (s : State) (ts : List Tlv) (e : Dev), s.dev.Accepts q corniceConfigSpec ts e →
    exec (.corniceConfig q) s = s.becomes ((e.holdChange q 0x0603 (frameTlv ts) (corniceWrites ts)).reviewMeters)) ∧
  (∀ (q : Req) (s : State) (ts : List Tlv) (e : Dev), s.dev.Accepts q guardConfigSpec ts e →
    let g := 64 * tlvNum ts 0x0101 + tlvNum ts 0x010D
    let v := (e.plannedAt (e.changeFrame (frameTlv ts))).over (guardWrites ts)
    (e.onTile (e.heldWrites (guardWrites ts)) v g = true → exec (.guardConfig q) s = s.becomes (e.refuse q 0x0604 (St.badParam, 0x14))) ∧
    (e.onTile (e.heldWrites (guardWrites ts)) v g = false → exec (.guardConfig q) s = s.becomes
      (e.holdChange q 0x0604 (frameTlv ts) (guardWrites ts)))) ∧
  (∀ (q : Req) (s : State) (ts : List Tlv) (e : Dev), s.dev.Accepts q csetConfigSpec ts e →
    exec (.csetConfig q) s = s.becomes (e.holdChange q 0x0605 (frameTlv ts)
      [sw F.MV_CSET_PRESET (7 * tlvNum ts 0x0101 + (tlvNum ts 0x0110 - 1)) (tlvNum ts 0x0111)])) ∧
  (∀ (q : Req) (s : State) (ts : List Tlv) (e : Dev), s.dev.Accepts q headStatusGetSpec ts e →
    let h := tlvNum ts 0x0101
    let base := 0x1800000 + 0x4000 * h
    exec (.headStatusGet q) s = s.becomes (e.reply q 0x0606 St.ok (⟨0x0102, w4 (e.storedAt (base + 4) + e.headStatusView h)⟩ ::
      ((List.range 64).map (fun t => data [w4 (e.storedAt (base + 0x410 + 0x20 * t))]) ++
        (List.range 64).map fun r => data [w4 (e.storedAt (base + 0x2808 + 0x10 * r))]))))

/-- O34. A failed unit that serves a converter is replaced by a spare at the next T0, which spare being left open (log entry 33); without
one, and without a unit under test, FAULT is set and raised (R272). A LUT entry is stored and INDEX advances, but a bank in
effect, or one that a pending commit names, keeps its entries and the write is counted in LUT_REFUSED (R269). CONVERTER_CONFIG
holds its writes where R267 is kept, and is BAD_PARAM with reason 0x16 else; CONVERTER_LUT_LOAD stores its entries at once.
Preset 0 leaves the words as they are, and the matrix and tables of preset 15 are applied in the order of R268. -/
def Obligations.ConvertersAct : Prop :=
  (∀ (d : Dev) (c : Nat) (ws : List Nat), d.liveCnv F.CNV_CFG_PRESET c = 0 → d.convertWords c ws = ws) ∧
  (∀ (d : Dev) (c t v : Nat) (bank : Nat), v < 2 ^ 14 → v % 4 = 0 → d.throughLut c bank t v = d.lutEntry c bank t (v / 4)) ∧
  (∀ (u : Fin 68) (s : State), s.dev.poolUnit 1 ≠ u →
    let d := s.dev.hset H.cnvFailed u 1
    (d.cnvServed u = none → exec (.converterFailure u) s = s.becomes d.healthReview) ∧
    (∀ c n, d.cnvServed u = some c → d.fresh.2.cnvSpares[d.fresh.1 % max 1 d.fresh.2.cnvSpares.length]? = some n →
      exec (.converterFailure u) s = s.becomes (d.fresh.2.hset H.cnvSwap c (n + 1)).healthReview) ∧
    (∀ c, d.cnvServed u = some c → d.fresh.2.cnvSpares = [] → d.fresh.2.testing 1 = false →
      exec (.converterFailure u) s = s.becomes
        ((d.fresh.2.set F.CNV_STATUS_FAULT c 1).raise 817 [c, d.fresh.2.get F.CNV_CFG_DEST c]).healthReview)) ∧
  (∀ (m : Fin 8) (c : Fin 64) (v : Word) (s : State), s.dev.Reaches m (0x1900014 + 0x40 * c) →
    let d := s.dev.transaction m
    let bank := d.get F.CNV_LUT_ADDR_BANK c
    let index := d.get F.CNV_LUT_ADDR_INDEX c
    (d.bankTaken c bank = true → exec (.cnvLutDataWrite m c v) s = s.becomes
      ((d.bump C.CNV_LUT_REFUSED c).written m (0x1900014 + 0x40 * c) v.toNat)) ∧
    (d.bankTaken c bank = false → exec (.cnvLutDataWrite m c v) s = s.becomes
      (((d.lutStore c bank (d.get F.CNV_LUT_ADDR_TABLE c) index v.toNat).set F.CNV_LUT_ADDR_INDEX c (index + 1)).written m
        (0x1900014 + 0x40 * c) v.toNat))) ∧
  (∀ (d : Dev) (c bank table index v : Nat), table < 6 →
    d.lutStore c bank table index v = d.hset H.cnvLut (((c * 2 + bank) * 7 + table) * 4096 + index) v) ∧
  (∀ (q : Req) (s : State) (ts : List Tlv) (e : Dev), s.dev.Accepts q converterConfigSpec ts e →
    let c := tlvNum ts 0x0101
    let ws := optWrites ts 0x0102 cnvCfgFields c
    let ok := e.cnvRules (e.heldWrites ws) ((e.plannedAt (e.changeFrame (frameTlv ts))).over ws) c
    (ok = true → exec (.converterConfig q) s = s.becomes (e.holdChange q 0x0610 (frameTlv ts) ws)) ∧
    (ok = false → exec (.converterConfig q) s = s.becomes
      (e.reply q 0x0610 St.badParam [statusDetail (tlvIndex ts 0x0102) 0xFF 0x16]))) ∧
  (∀ (q : Req) (s : State) (ts : List Tlv) (e : Dev), s.dev.Accepts q converterLutLoadSpec ts e →
    let c := tlvNum ts 0x0101
    let bank := tlvNum ts 0x0103
    let table := tlvNum ts 0x0104
    let bytes := (tlv? ts 0x0106).getD []
    let size := if table = 6 then 12 else 4096
    (size < tlvNum ts 0x0105 + bytes.length / 2 → exec (.converterLutLoad q) s = s.becomes
      (e.reply q 0x0611 St.badParam [statusDetail (tlvIndex ts 0x0105) 0xFF 0])) ∧
    (tlvNum ts 0x0105 + bytes.length / 2 ≤ size → e.bankTaken c bank = true → exec (.converterLutLoad q) s = s.becomes
      (e.reply q 0x0611 St.badParam [statusDetail (tlvIndex ts 0x0103) 0xFF 0x17])) ∧
    (tlvNum ts 0x0105 + bytes.length / 2 ≤ size → e.bankTaken c bank = false → exec (.converterLutLoad q) s = s.becomes
      ((e.each (List.range (bytes.length / 2)) fun d k =>
        d.lutStore c bank table (tlvNum ts 0x0105 + k) (beVal (slice (2 * k) 2 bytes))).reply q 0x0611 St.ok))) ∧
  (∀ (q : Req) (s : State) (ts : List Tlv) (e : Dev), s.dev.Accepts q converterStatusGetSpec ts e →
    let c := tlvNum ts 0x0101
    exec (.converterStatusGet q) s = s.becomes (e.reply q 0x0612 St.ok
      [data (w4 (e.storedAt (0x1900000 + 0x40 * c + 4) + e.cnvStatusView c) ::
        [0x20, 0x24, 0x28, 0x2C].map fun o => w4 (e.storedAt (0x1900000 + 0x40 * c + o)))]))

/-- O35. An instance whose link is up counts the frame and its codewords, and raises uncorrectable codewords of a media instance; then
the checks of R281 run in order, and the frame is counted in the one class of the first that it fails: PHY error, runt,
oversize, FCS, MAC control and pause, MACsec, VLAN, address; one that passes them all is handed on by its class. MAX_FRAME is
the one in effect when the frame's SFD was received (R279). A frame on an instance without a link changes nothing. -/
def Obligations.ReceivedFramesAreChecked : Prop :=
  (∀ (n : Fin 34) (x : EthIn) (s : State), s.dev.instLink n = false → exec (.macFrameRx n x) s = s.becomes s.dev) ∧
  (∀ (n : Fin 34) (x : EthIn) (s : State), s.dev.instLink n = true →
    let d := ((s.dev.bump C.ETH_RX_FRAMES n).bump C.ETH_FEC_CORR_CW n x.corrected).bump C.ETH_FEC_UNCORR_CW n x.uncorrected
    let size := if n.val < 32 then x.length else x.inner
    (0 < x.uncorrected → exec (.macFrameRx n x) s = s.becomes
      ((if n.val < 32 then d.raise (608 + n) [3, x.uncorrected] else d).bump C.ETH_RX_PHY_ERR n)) ∧
    (x.uncorrected = 0 → x.pcsError = true → exec (.macFrameRx n x) s = s.becomes (d.bump C.ETH_RX_PHY_ERR n)) ∧
    (x.uncorrected = 0 → x.pcsError = false → x.length < 64 → exec (.macFrameRx n x) s = s.becomes (d.bump C.ETH_RX_RUNT n)) ∧
    (x.uncorrected = 0 → x.pcsError = false → 64 ≤ x.length → d.maxAtSfd n x < size →
      exec (.macFrameRx n x) s = s.becomes (d.bump C.ETH_RX_OVERSIZE n)) ∧
    (x.uncorrected = 0 → x.pcsError = false → 64 ≤ x.length → size ≤ d.maxAtSfd n x → x.fcsOk = false →
      exec (.macFrameRx n x) s = s.becomes (d.bump C.ETH_RX_FCS_ERR n)) ∧
    (x.uncorrected = 0 → x.pcsError = false → 64 ≤ x.length → size ≤ d.maxAtSfd n x → x.fcsOk = true →
      (∀ quanta, x.body = .pause quanta → x.dst = pauseMac →
        exec (.macFrameRx n x) s = s.becomes ((d.bump C.ETH_RX_MAC_CTRL n).pauseFrame n quanta.toNat)) ∧
      (x.body = .control → exec (.macFrameRx n x) s = s.becomes (d.bump C.ETH_RX_CTRL_UNSUP n)) ∧
      (x.body ≠ .control → (∀ quanta, x.body ≠ .pause quanta) →
        exec (.macFrameRx n x) s = s.becomes
          (if n.val < 32 then d.afterSec n x
           else if d.secPasses (n - 32) x.secTag = false then d.secDrop (n - 32) x.secTag
           else (d.secAccept (n - 32) x.secTag).afterSec n x)))) ∧
  (∀ (d : Dev) (n : Nat) (x : EthIn), d.afterSec n x =
    if d.vlanPasses n x.vlan = false then d.bump C.ETH_RX_VLAN_DROP n
    else if d.addressed n x.dst = false then d.bump C.ETH_RX_FILTERED n else d.handOn n x) ∧
  (∀ (d : Dev) (n : Nat) (x : EthIn), (d.hget H.maxFrameAt n ≤ d.now10 + 1 - d.byteTime n x.length → d.maxAtSfd n x = d.maxFrame n) ∧
    (d.now10 + 1 - d.byteTime n x.length < d.hget H.maxFrameAt n → d.maxAtSfd n x = d.hget H.maxFrameWas n))

/-- O36. A frame whose first bytes suffice is offered: counted in and queued, or dropped in its class (R280, R289); an underrun ends the
frame with a wrong FCS, raises TX_START and the event (R290); a quantum of pause is served when it ends (R285); a link that
comes up or goes down sets its status, is raised, and going down drops what is queued (R276, R286); a write of the MAC's
configuration clamps MAX_FRAME and ends a pause when it ignores pauses (R279, R286), and TX_START is clamped to 1 to 32, the
larger of a write and a raise in one cycle staying (R291); lanes that have not held their locks for HOLD_MS show them but bring
no link up (R276); an instance that the mode does not create counts nothing (R274); a management port restarts negotiation when
its queue exceeds UPSHIFT_KB (R294), and is down 2 s later where it has not come up (R295); MGT_SA_CTRL installs the key of
MGT_SAK_DATA as a receive or transmit SA with packet number 1 (R297). -/
def Obligations.MacsTransmitAndPause : Prop :=
  (∀ (n : Fin 34) (x : TxIn) (s : State), min x.length (256 * s.dev.get F.ETH_TX_START_STEPS n) ≤ x.fifo →
    exec (.macFrameTx n x) s = s.becomes (s.dev.offerFrame n ⟨x.length, s.dev.now10, txKind x⟩)) ∧
  (∀ (d : Dev) (n : Nat) (f : TxFrame), f.paced = false → n < 32 →
    let e := (d.macAdvance n).bump C.ETH_TX_FRAMES_IN n
    ((d.macAdvance n).instThere n = false → d.offerFrame n f = d.macAdvance n) ∧
    ((d.macAdvance n).instThere n = true → e.maxFrame n < f.length → d.offerFrame n f = e.frameLost n C.ETH_TX_OVERSIZE f) ∧
    ((d.macAdvance n).instThere n = true → f.length ≤ e.maxFrame n → e.instSends n = false →
      d.offerFrame n f = e.frameLost n C.ETH_TX_LINK_DROP f) ∧
    ((d.macAdvance n).instThere n = true → f.length ≤ e.maxFrame n → e.instSends n = true →
      d.offerFrame n f = (e.setFrames n (e.macFrames n ++ [f])).macAdvance n)) ∧
  (∀ (n : Fin 34) (x : TxIn) (s : State),
    let d := s.dev.macAdvance n
    let st := max d.now10 (d.hget H.macBusy n)
    let e := ((d.bump C.ETH_TX_FRAMES_IN n).bump C.ETH_TX_UNDERRUN n).hset H.macBusy n (st + d.byteTime n (8 + max 60 x.fifo + 4))
    let e := if d.macsecOn n then e.nextPn (n - 32) else e
    d.instSends n = true → d.hget H.pauseTimer n = 0 → x.length ≤ d.maxFrame n → d.mayStart n x = true → x.fifo < x.length →
    d.pnSpent n = false → x.event = none → exec (.transmitUnderrun n x) s = s.becomes
      ((e.raiseStart n).raise (macEvent n) [if n.val < 32 then 2 else 4, (e.raiseStart n).get F.ETH_TX_START_STEPS n])) ∧
  (∀ (d : Dev) (n : Nat), d.hget H.txStartCycle n ≠ d.clock.core + 1 →
    (d.raiseStart n).get F.ETH_TX_START_STEPS n = min 32 (d.get F.ETH_TX_START_STEPS n + 1)) ∧
  (∀ (n : Fin 34) (s : State), (s.dev.macAdvance n).hget H.pauseTimer n ≠ 0 →
    let d := s.dev.macAdvance n
    exec (.pauseQuantumEnd n) s = s.becomes
      ((d.passToCore ((d.hget H.pauseFrom n + d.quantum n + 99) / 100)).macAdvance n)) ∧
  (∀ (m : Fin 34) (lane : Fin 8) (held : Nat) (x : MgtLink) (s : State), m.val < 32 → s.dev.get F.ETH_LINK_HOLD_HOLD_MS 0 ≤ held → s.dev.instValid m = true →
    s.dev.get F.ETH_PORT_CFG_ENABLE (m / 4) ≠ 0 → s.dev.get F.ETH_MAC_STATUS_LINK m ≠ 1 →
    let d := s.dev.each (lanesOf (s.dev.get F.ETH_PORT_CFG_MODE (m / 4)) (m % 4)) fun d j => d.setLane (m / 4) j true
    exec (.linkUp m lane ⟨held, x⟩) s = s.becomes (((d.set F.ETH_MAC_STATUS_LINK m 1).raise (608 + m) [0, lane]).txLegs m true)) ∧
  (∀ (m : Fin 34) (lane : Fin 8) (held : Nat) (x : MgtLink) (s : State), m.val < 32 → s.dev.instValid m = true →
    held < s.dev.get F.ETH_LINK_HOLD_HOLD_MS 0 → exec (.linkUp m lane ⟨held, x⟩) s = s.becomes
      (s.dev.each (lanesOf (s.dev.get F.ETH_PORT_CFG_MODE (m / 4)) (m % 4)) fun d j => d.setLane (m / 4) j true)) ∧
  (∀ (m : Fin 34) (lane : Fin 8) (bursts : List Nat) (s : State), 32 ≤ m.val → s.dev.get F.MGT_STATUS_LINK (m - 32) ≠ 0 →
    let i := m.val - 32
    let d := (s.dev.onBehalf 3 bursts).dropQueue m
    let d := ((d.set F.MGT_STATUS_LINK i 0).set F.MGT_STATUS_SPEED i 0).set F.MGT_STATUS_DOWNSHIFTED i 0
    exec (.linkDown m lane bursts) s = s.becomes (((d.hset H.macIdle i 0).raise (648 + i) [1, 0]).endPortLeases (1 + i) 2)) ∧
  (∀ (m : Fin 34) (lane : Fin 8) (bursts : List Nat) (s : State), m.val < 32 →
    (lanesOf (s.dev.get F.ETH_PORT_CFG_MODE (m / 4)) (m % 4)).contains lane.val = true →
    let d := s.dev.setLane (m / 4) lane false
    d.get F.ETH_MAC_STATUS_LINK m ≠ 0 → exec (.linkDown m lane bursts) s = s.becomes
      ((((d.dropQueue m).set F.ETH_MAC_STATUS_LINK m 0).raise (608 + m) [1, lane]).txLegs m false)) ∧
  (∀ (b : Fin 8) (m : Fin 34) (v : Word) (s : State), s.dev.Reaches b (macCfgOff m) →
    let d := s.dev.transaction b
    (m.val < 32 → exec (.ignorePauseWrite b m v) s = s.becomes ((d.writeMacCfg m v.toNat).written b (macCfgOff m) v.toNat)) ∧
    (32 ≤ m.val → exec (.ignorePauseWrite b m v) s = s.becomes ((d.writeMgtCfg (m - 32) v.toNat).written b (macCfgOff m) v.toNat))) ∧
  (∀ (d : Dev) (m w : Nat),
    let e := ((d.macAdvance m).keepMaxFrame m w).set F.ETH_MAC_CFG_MAX_FRAME m (min 9216 (max 1518 (bits w 16 14)))
    d.writeMacCfg m w = (((e.set F.ETH_MAC_CFG_UNTAGGED_EN m (bits w 2 1)).set F.ETH_MAC_CFG_BCAST_EN m (bits w 1 1)).set
      F.ETH_MAC_CFG_IGNORE_PAUSE m (bits w 0 1)).pauseRule m) ∧
  (∀ (b : Fin 8) (m : Fin 32) (v : Word) (s : State), s.dev.Reaches b (0x1A10010 + 0x400 * m) →
    exec (.txStartWrite b m v) s = s.becomes (((s.dev.transaction b).writeStart m v.toNat).written b (0x1A10010 + 0x400 * m) v.toNat)) ∧
  (∀ (d : Dev) (n w : Nat),
    let v := min 32 (max 1 (bits w 0 6))
    (d.hget H.txStartCycle n ≠ d.clock.core + 1 → (d.writeStart n w).get F.ETH_TX_START_STEPS n = v) ∧
    (d.hget H.txStartCycle n = d.clock.core + 1 → d.hget H.txStartRaised n ≤ 32 →
      (d.writeStart n w).get F.ETH_TX_START_STEPS n = max v (d.hget H.txStartRaised n))) ∧
  (∀ (i : Fin 2) (sent received : Nat) (s : State),
    let d := (s.dev.passToCore ((s.dev.clock.core / 10 ^ 9 + 1) * 10 ^ 9)).macAdvance (32 + i)
    let run := if 20 * max sent received < 10 ^ 10 then min 60 (d.hget H.macIdle i + 1) else 0
    (d.get F.MGT_STATUS_SPEED i ≠ 2 → exec (.utilisationWindow i sent received) s = s.becomes (d.hset H.macIdle i 0)) ∧
    (d.get F.MGT_STATUS_SPEED i = 2 → run ≠ 60 → exec (.utilisationWindow i sent received) s = s.becomes (d.hset H.macIdle i run)) ∧
    (d.get F.MGT_STATUS_SPEED i = 2 → run = 60 → d.get F.MGT_CFG_DOWNSHIFT_EN i = 1 → d.get F.MGT_STATUS_PEER_KX i = 1 →
      exec (.utilisationWindow i sent received) s = s.becomes ((d.hset H.macIdle i run).renegotiate i 2 true))) ∧
  (∀ (i : Fin 2) (s : State),
    let d := s.dev.macAdvance (32 + i)
    d.get F.MGT_STATUS_DOWNSHIFTED i = 1 → d.get F.MGT_STATUS_RENEG i = 0 →
    1024 * d.get F.MGT_SHIFT_CFG_UPSHIFT_KB i < ((d.macFrames (32 + i)).map TxFrame.length).sum →
    exec (.upshift i) s = s.becomes (d.renegotiate i 3 false)) ∧
  (∀ (d : Dev) (i kind : Nat) (down : Bool),
    let e := (((d.set F.MGT_STATUS_DOWNSHIFTED i (ofBool down)).set F.MGT_STATUS_RENEG i 1).set F.MGT_STATUS_LINK i 0).set
      F.MGT_STATUS_SPEED i 0
    d.renegotiate i kind down = ((((e.pauseCancel (32 + i)).hset H.macReneg i e.clock.core).hset H.macIdle i 0).raise (648 + i)
      [kind, d.get F.MGT_STATUS_SPEED i])) ∧
  (∀ (i : Fin 2) (s : State), s.dev.get F.MGT_STATUS_RENEG i ≠ 0 →
    let d := (s.dev.passToCore (s.dev.hget H.macReneg i + 2 * 10 ^ 9)).dropQueue (32 + i)
    exec (.renegTimeout i) s = s.becomes ((((d.set F.MGT_STATUS_RENEG i 0).set F.MGT_STATUS_DOWNSHIFTED i 0).raise (648 + i)
      [1, 0]).endPortLeases (1 + i) 2)) ∧
  (∀ (b : Fin 8) (i : Fin 2) (v : Word) (s : State), s.dev.Reaches b (0x1B00060 + 0x1000 * i) →
    let w := v.toNat
    let an := bits w 0 2
    let d := ((s.dev.transaction b).set F.MGT_SA_CTRL_DIR i (bits w 8 1)).set F.MGT_SA_CTRL_AN i an
    (bit w 31 = true → bit w 8 = true → exec (.saInstall b i v) s = s.becomes
      ((((d.hset H.macRxSa (4 * i + an) 1).hset H.macRxKey (4 * i + an) (d.sakData i)).hset H.macRxPn (4 * i + an) 1).written b
        (0x1B00060 + 0x1000 * i) w)) ∧
    (bit w 31 = true → bit w 8 = false → exec (.saInstall b i v) s = s.becomes
      (((((d.macAdvance (32 + i)).hset H.macTxSa i (an + 1)).hset H.macTxKey i (d.sakData i)).set F.MGT_TX_PN_PN i 1).written b
        (0x1B00060 + 0x1000 * i) w)) ∧
    (bit w 31 = false → exec (.saInstall b i v) s = s.becomes (d.written b (0x1B00060 + 0x1000 * i) w)))

/-- O37. A leg without a valid packet for LEG_MS goes down (R307); a receiving context without a used packet for LOSS_MS is LOST, raised,
and its slots look at their causes (R307); a valid packet is classed once: duplicate, late, overflow or used (R306), and an
invalid one is counted with its cause (R304); a line is rebuilt from the packets that carry it and delivered at its time to
every slot that the context feeds, damaged where a packet is missing (R308, R309); a query, the answer that it asks for and the
repetition of a report (R319). -/
def Obligations.FlowsReceiveAndPlay : Prop :=
  (∀ (r : Fin 2048) (leg : Fin 2) (s : State), s.dev.get (legUp leg) r ≠ 0 →
    exec (.legTimeout r leg) s = s.becomes
      ((s.dev.passToCore ((s.dev.rx r).valid.getD leg 0 + 10 ^ 6 * s.dev.get F.IPM_TIMEOUT_LEG_MS)).setLeg r leg false)) ∧
  (∀ (d : Dev) (r leg : Nat), d.get (legUp leg) r = 1 →
    d.setLeg r leg false = (d.set (legUp leg) r 0).raise 673 [0, r, leg, 0]) ∧
  (∀ (r : Fin 2048) (s : State), s.dev.get F.IPM_RX_STATUS_STATE r = 2 →
    let d := s.dev.passToCore ((s.dev.rx r).used + 10 ^ 6 * s.dev.get F.IPM_TIMEOUT_LOSS_MS)
    exec (.flowLossTimeout r) s = s.becomes (((d.set F.IPM_RX_STATUS_STATE r 3).raise 672 [r, 1]).contextChanged r)) ∧
  (∀ (d : Dev) (inst k : Nat) (x : RtpIn), x.headerOk = true → (d.bump C.IPM_INST_OFFERED inst).matchLeg inst x = some k →
    let e := ((d.bump C.IPM_INST_OFFERED inst).bump C.IPM_INST_MATCHED inst).bump C.IPM_RX_LEG_RX k
    let y := { x with seq := x.seq % 2 ^ seqBits (e.get F.IPM_RX_CFG_ESSENCE (k / 2)), ts := x.ts % 2 ^ 32 }
    (∀ cause, e.invalidCause (k / 2) y = some cause → d.flowDatagram inst x = e.packetInvalid (k / 2) (k % 2) cause) ∧
    (e.invalidCause (k / 2) y = none → d.flowDatagram inst x = e.packetValid (k / 2) (k % 2) y)) ∧
  (∀ (d : Dev) (r leg : Nat) (x : RtpIn),
    let e := ((d.bump C.IPM_RX_LEG_VALID (2 * r + leg)).setRx { d.rx r with valid := (d.rx r).valid.set leg d.clock.core }).setLeg r leg true
    (e.mergeClass (e.rx r) x = .duplicate → d.packetValid r leg x = e.packetDuplicate r leg x) ∧
    (e.mergeClass (e.rx r) x = .late → d.packetValid r leg x = e.packetLate r x) ∧
    (e.mergeClass (e.rx r) x = .overflow → d.packetValid r leg x = e.bump C.IPM_RX_OVERFLOW r) ∧
    (e.mergeClass (e.rx r) x = .used → d.packetValid r leg x = e.packetUsed r leg x)) ∧
  (∀ (r : Fin 2048) (qs anc : List Nat) (l : PlayIn) (s : State), s.dev.get F.IPM_RX_CFG_EN r ≠ 0 →
    s.dev.get F.IPM_RX_CFG_ESSENCE r = 0 →
    let ta := s.dev.lineTa r l.number qs
    let d := (s.dev.awaitLine r l.number ta)
    let d := d.setRx { d.rx r with lineTa := ta, line := l.number }
    let p := d.playPackets r qs
    let a := match p.2.ancOf r with
      | some k => p.2.playPackets k anc
      | none => (false, p.2)
    exec (.linePlayout r qs anc l) s = s.becomes
      (a.2.each ((a.2.fedSlots r).filter fun i => l.member < sourceGang a.2.inEffect i) fun e i =>
        e.ingestLine (i + l.member) ⟨0, true, l.number, 0, false, l.damaged || p.1 || a.1, s.dev.rebuilt r i l.member l.number qs anc, l.witness⟩)) ∧
  (∀ (n : Fin 32) (version group maxResp : Nat) (s : State), s.dev.lathRuns = true → s.dev.instLink n = true →
    let d := if version < 3 then (s.dev.bump C.IPM_INST_IGMP_OLD_QUERIER n).raise 678 [n, group, version] else s.dev
    exec (.igmpQuery n version group maxResp) s = s.becomes
      { d with ipm := { d.ipm with asked := d.ipm.asked ++ [⟨n, group, d.clock.core + 10 ^ 6 * maxResp⟩] } }) ∧
  (∀ (n : Fin 32) (a : IgmpAsked) (s : State), (s.dev.ipm.asked.find? fun a => a.inst == n.val) = some a → s.dev.lathRuns = true →
    let d := { s.dev with ipm := { s.dev.ipm with asked := s.dev.ipm.asked.erase a } }
    exec (.queryResponseDue n) s = s.becomes
      (d.each (d.ipm.igmp.filter fun r => r.inst == n.val && (a.group == 0 || r.group == a.group)) fun d r =>
        d.igmpSend ⟨n, if r.exclude then 2 else 1, r.group, r.sources⟩)) ∧
  (∀ (n : Fin 32) (r : IgmpReport) (s : State), (s.dev.ipm.repeats.find? fun r => r.inst == n.val) = some r → s.dev.lathRuns = true →
    exec (.igmpReportRepeat n) s = s.becomes
      ({ s.dev with ipm := { s.dev.ipm with repeats := s.dev.ipm.repeats.erase r } }.igmpSend r))

/-- O38. When an enabled context's scheduled time arrives while the tick runs, both its legs get the same packet with the context's next
sequence number (R315), addressed as the leg is configured (R314); an audio packet is scheduled at the end of its samples and
carries the number of its first sample as timestamp (R314); a leg that is enabled counts it made and offers it to its instance,
and a video leg that falls more than its staging behind loses its oldest packet (R317); the status and membership commands
answer what the contexts and instances hold. -/
def Obligations.FlowsAreSent : Prop :=
  (∀ (x : Fin 2048) (p : PktIn) (due limit ts : Nat) (s : State), s.dev.get F.IPM_TX_CFG_EN x ≠ 0 → s.dev.running = true →
    s.dev.schedule x p = some (due, limit, ts) →
    let d := s.dev.passTo due
    let seq := d.hget H.ipmTxSeq x
    let e := d.hset H.ipmTxSeq x ((seq + 1) % 2 ^ seqBits (d.get F.IPM_TX_CFG_ESSENCE x))
    let b := e.txBody x p
    let red := e.sendPacket (2 * x) due limit (e.txPacket (2 * x) seq ts b.1 b.2)
    exec (.packetSchedule x p) s = s.becomes
      (red.sendPacket (2 * x + 1) due limit (red.txPacket (2 * x + 1) seq ts b.1 b.2))) ∧
  (∀ (x : Fin 2048) (p : PktIn) (s : State), (s.dev.get F.IPM_TX_CFG_EN x = 0 ∨ s.dev.running = false ∨ s.dev.schedule x p = none) →
    exec (.packetSchedule x p) s = s.becomes s.dev) ∧
  (∀ (d : Dev) (x : Nat) (p : PktIn), d.get F.IPM_TX_CFG_ESSENCE x = 1 → d.get F.IPM_TX_CFG_PTIME x = 0 →
    d.schedule x p = some ((p.sample + 48) * (65536 * 10 ^ 9) / 48000, 6553600000, p.sample % 2 ^ 32)) ∧
  (∀ (d : Dev) (leg due limit : Nat) (p : RtpOut),
    let inst := d.get F.IPM_TX_LEG_CTRL_INST leg
    let e := (d.bump C.IPM_TX_LEG_MADE leg).offerFrame inst ⟨rtpLength p, d.now10, .flow leg due limit p⟩
    (d.get F.IPM_TX_LEG_CTRL_LEG_EN leg = 0 → d.sendPacket leg due limit p = d) ∧
    (d.get F.IPM_TX_LEG_CTRL_LEG_EN leg ≠ 0 → e.get F.IPM_TX_CFG_ESSENCE (leg / 2) = 0 →
      e.stagingBytes (leg / 2) < e.ipmQueued leg * rtpLength p → d.sendPacket leg due limit p = e.dropPackets leg 1) ∧
    (d.get F.IPM_TX_LEG_CTRL_LEG_EN leg ≠ 0 → e.get F.IPM_TX_CFG_ESSENCE (leg / 2) ≠ 0 →
      d.sendPacket leg due limit p = e)) ∧
  (∀ (d : Dev) (leg seq ts : Nat) (b : RtpBody) (mk : Bool),
    let p := d.txPacket leg seq ts b mk
    p.seq = seq ∧ p.ts = ts ∧ p.ssrc = d.get F.IPM_TX_SSRC_SSRC (leg / 2) ∧ p.pt = d.get F.IPM_TX_CFG_PT (leg / 2) ∧
      p.dstIp = d.get F.IPM_TX_LEG_DST_DST_IP leg ∧ p.dstPort = d.get F.IPM_TX_LEG_PORT_DST_PORT leg ∧
      p.srcPort = d.get F.IPM_TX_LEG_PORT_SRC_PORT leg ∧ p.srcIp = d.get F.IPM_INST_IPV4_IPV4 (d.get F.IPM_TX_LEG_CTRL_INST leg) ∧
      p.body = b ∧ p.marker = mk) ∧
  (∀ (q : Req) (s : State) (ts : List Tlv) (e : Dev), s.dev.Accepts q flowStatusSpec ts e →
    (2048 < tlvNum ts 0x0102 + tlvNum ts 0x0103 → exec (.flowStatusGet q) s = s.becomes
      (e.reply q 0x0404 St.badParam [statusDetail (tlvIndex ts 0x0103) 0xFF 0])) ∧
    (tlvNum ts 0x0102 + tlvNum ts 0x0103 ≤ 2048 → exec (.flowStatusGet q) s = s.becomes
      (e.reply q 0x0404 St.ok ((List.range (tlvNum ts 0x0103)).map fun i => e.flowStatus (tlvNum ts 0x0102 + i) (tlvNum ts 0x0101))))) ∧
  (∀ (q : Req) (s : State) (ts : List Tlv) (e : Dev), s.dev.Accepts q igmpStatusSpec ts e →
    exec (.igmpStatusGet q) s = s.becomes (e.reply q 0x0405 St.ok
      ((e.ipm.igmp.filter fun r => r.inst == tlvNum ts 0x0101).map fun r =>
        data (w4 r.group :: w4 (if r.exclude then 2 else 1) :: w4 r.sources.length :: r.sources.map w4))))

/-- O39. A flow configuration that a check turns away is answered with that check's status, naming its TLV and reason; else its shadow
writes are held for its frame, and for a receive flow memberships and hash bins follow the planned configuration (R284, R319).
An unsupported essence or packet time is BAD_PARAM with reason 0x23 (R302), two legs of one tuple with 0x20 (R303), overlapping
channels with 0x62 (R404), audio at a block rate other than 48 kHz is FORMAT_MISMATCH (R301), and too many groups or too much
load is EXHAUSTED (R318, R320). -/
def Obligations.FlowConfigurationIsChecked : Prop :=
  (∀ (q : Req) (s : State) (ts : List Tlv) (e : Dev), s.dev.Accepts q rxFlowSpec ts e →
    let fault := e.rxFlowFault ts (e.changeFrame (frameTlv ts)) (rxFlowWrites ts)
    (∀ f, fault = some f → exec (.rxFlowConfig q) s = s.becomes (e.refuseFlow q 0x0401 ts f)) ∧
    (fault = none → exec (.rxFlowConfig q) s = s.becomes
      ((e.holdChange q 0x0401 (frameTlv ts) (rxFlowWrites ts)).netSync))) ∧
  (∀ (q : Req) (s : State) (ts : List Tlv) (e : Dev), s.dev.Accepts q txFlowSpec ts e →
    let fault := e.txFlowFault ts (e.changeFrame (frameTlv ts)) (txFlowWrites ts)
    (∀ f, fault = some f → exec (.txFlowConfig q) s = s.becomes (e.refuseFlow q 0x0402 ts f)) ∧
    (fault = none → exec (.txFlowConfig q) s = s.becomes
      (e.holdChange q 0x0402 (frameTlv ts) (txFlowWrites ts)))) ∧
  (∀ (q : Req) (s : State) (ts : List Tlv) (e : Dev), s.dev.Accepts q instanceConfigSpec ts e →
    let m := tlvNum ts 0x0101
    exec (.instanceConfig q) s = s.becomes (e.holdChange q 0x0403 (frameTlv ts)
      (optWrites ts 0x0102 [F.IPM_INST_IPV4_IPV4] m ++
        optWrites ts 0x0103 [F.IPM_INST_TX_VLAN_EN, F.IPM_INST_TX_PCP, F.IPM_INST_TX_VID] m ++
        optWrites ts 0x0104 [F.IPM_INST_DSCP_DSCP_ANC, F.IPM_INST_DSCP_DSCP_AUD, F.IPM_INST_DSCP_DSCP_VID] m))) ∧
  (∀ (d : Dev) (ts : List Tlv) (n : Nat) (ws : List ShadowWrite),
    let r := tlvNum ts 0x0101
    let v := (d.plannedAt n).over ws
    (cfgUnsupported ts = true → d.rxFlowFault ts n ws = some (St.badParam, 0x0102, 0x23)) ∧
    (cfgUnsupported ts = false → legsDistinct ts = false → d.rxFlowFault ts n ws = some (St.badParam, 0x0103, 0)) ∧
    (cfgUnsupported ts = false → legsDistinct ts = true → rxFault v d.blocks48 r = none → v F.IPM_RX_CFG_EN r = 0 →
      d.tupleClash (d.heldWrites ws) v r = true → d.rxFlowFault ts n ws = some (St.badParam, 0x0103, 0x20))) ∧
  (∀ (v : View) (r : Nat), v F.IPM_RX_CFG_EN r = 1 → v F.IPM_RX_LEG_CTRL_LEG_EN (2 * r) = 1 →
    (v F.IPM_RX_CFG_ESSENCE r = 1 ∨ v F.IPM_RX_CFG_ESSENCE r = 2) → rxFault v false r = some (St.formatMismatch, 0, 0))

/-- O40. A message on a bound port is counted in the class of the first check of R333 that it fails, or used and delivered; an
interface's Announces lose qualification and the parent is chosen again (R326); a servo that misses its Syncs goes to holdover
(R341); an enabled interface sends its Delay_Req with the next sequence number (R330). An adjustment of the PHC sets it the
first time, moves it while it is within the step limit, and else waits as the pending step (R335, R337, R338); accepting the
step applies it to PHC and TIME together (R339, R340), and a step limit at or above it ends STEP_PENDING. A read of PTP_TXQ_POP
takes the oldest entry of the queue (R344). -/
def Obligations.NetworkTimeActs : Prop :=
  (∀ (port : Fin 34) (x : PtpMsg) (s : State) (i : Nat), s.dev.ifOf port = some i →
    let d := s.dev.bump C.PTP_IF_RX_ALL i
    let bad := x.version != 2 || !x.whole || !([0, 1, 8, 9, 0xB].contains x.typ)
    (d.ptpOn i = false → exec (.ptpMessageRx port x) s = s.becomes (d.bump C.PTP_IF_RX_UNBOUND i)) ∧
    (d.ptpOn i = true → bad = true → exec (.ptpMessageRx port x) s = s.becomes (d.bump C.PTP_IF_RX_MALFORMED i)) ∧
    (d.ptpOn i = true → bad = false → x.domain ≠ d.get F.PTP_CFG_DOMAIN →
      exec (.ptpMessageRx port x) s = s.becomes (d.bump C.PTP_IF_RX_DOMAIN i)) ∧
    (d.ptpOn i = true → bad = false → x.domain = d.get F.PTP_CFG_DOMAIN → d.fromParent i x = false → i = d.ifSel →
      exec (.ptpMessageRx port x) s = s.becomes (d.bump C.PTP_IF_RX_NOT_PARENT i)) ∧
    (d.ptpOn i = true → bad = false → x.domain = d.get F.PTP_CFG_DOMAIN → d.fromParent i x = true → x.twoStep = false →
      exec (.ptpMessageRx port x) s = s.becomes ((d.bump C.PTP_IF_RX_USED i).ptpDeliver i port 0 x true))) ∧
  (∀ (i : Fin 4) (a : Announce) (l : List Announce) (s : State), (s.dev.pif i).announces = a :: l → s.dev.lathRuns = true →
    exec (.announceTimeout i) s = s.becomes
      ((s.dev.passToCore (l.foldl (fun m b => min m b.limit) a.limit)).chooseParent)) ∧
  (∀ (a : Announce) (s : State), s.dev.lathRuns = true → (s.dev.servo = 2 ∨ s.dev.servo = 3) → s.dev.parentPort s.dev.ifSel = some a →
    exec .syncTimeout s = s.becomes
      ((s.dev.passToCore ((s.dev.pif s.dev.ifSel).syncAt + 3 * logSeconds a.logInterval)).enterServo 4)) ∧
  (∀ (i : Fin 4) (s : State), s.dev.lathRuns = true → s.dev.ptpOn i = true →
    let n := s.dev.get F.PTP_IF_CFG_BIND i
    let seq := (s.dev.pif i).nextSeq
    let d := s.dev.setPif i fun p => { p with nextSeq := (seq + 1) % 65536, reqSeq := some seq, t3 := none, t4 := none }
    exec (.delayReqSend i) s = s.becomes (d.offerFrame n
      ⟨if d.get F.PTP_IF_CFG_TRANSPORT i == 0 then 90 else 64, d.now10, .delayReq i seq⟩)) ∧
  (∀ (m : Fin 8) (k : Fin 10) (s : State), m ≠ 0 →
    let d := s.dev.each (List.range 34) fun d n => if txQueueOf n = k.val then d.macAdvance n else d
    d.Readable m (0x900400 + 0x20 * k) →
    let r := (d.transaction m).popTxq k
    exec (.txqPop m k) s = s.becomes (r.2.answer m (.data [r.1]))) ∧
  (∀ (d : Dev) (k : Nat), d.txq.getD k [] = [] → d.popTxq k = (0, d)) ∧
  (∀ (d : Dev) (k : Nat) (e : TxStamp) (l : List TxStamp), d.txq.getD k [] = e :: l →
    (d.popTxq k).1 = 2 ^ 31 + e.port * 2 ^ 24 + e.seq % 65536 * 2 ^ 8 + e.typ % 16 * 2 ^ 4 ∧
    (d.popTxq k).2.txq = d.txq.set k l ∧ (d.popTxq k).2.count C.PTP_TXQ_READ k = (d.count C.PTP_TXQ_READ k + 1) % 2 ^ 64) ∧
  (∀ (m : Fin 8) (v : Word) (s : State), s.dev.Reaches m 0x90003C → bit v.toNat 0 = true →
    let d := s.dev.transaction m
    exec (.phcAdjGo m v) s = s.becomes
      ((d.adjust (d.split F.PTP_PHC_ADJ_LO_FRAC F.PTP_PHC_ADJ_MID_NS F.PTP_PHC_ADJ_HI_NS)).written m 0x90003C v.toNat)) ∧
  (∀ (d : Dev) (v : Int),
    let e := d.advanceMacs
    (e.get F.PTP_STATUS_SET = 0 → d.adjust v = (e.set F.PTP_STATUS_SET 0 1).applyStep 0 v) ∧
    (e.get F.PTP_STATUS_SET ≠ 0 → e.stepLimit < v.natAbs →
      d.adjust v = (((e.setStepPend v).raise 97 (e.ifSel :: signedWords v)).enterServo 5)) ∧
    (e.get F.PTP_STATUS_SET ≠ 0 → v.natAbs ≤ e.stepLimit → d.adjust v = e.phcMove v)) ∧
  (∀ (d : Dev) (cause : Nat) (v : Int), d.applyStep cause v = ((d.phcMove v).stepTime 4 v).raise 98 (cause :: signedWords v)) ∧
  (∀ (m : Fin 8) (v : Word) (s : State), s.dev.Reaches m 0x90000C → v.toNat % 2 = 1 →
    let d := s.dev.transaction m
    (d.servo = 5 → exec (.stepAcceptWrite m v) s = s.becomes
      ((((d.advanceMacs.setStepPend 0).applyStep 1 d.stepPend).enterServo 2).written m 0x90000C v.toNat)) ∧
    (d.servo ≠ 5 → exec (.stepAcceptWrite m v) s = s.becomes (d.written m 0x90000C v.toNat))) ∧
  (∀ (m : Fin 8) (v : Word) (s : State), s.dev.Reaches m 0x900008 →
    let d := (s.dev.transaction m).set F.PTP_STEP_LIMIT_NS 0 (max 1 v.toNat)
    (d.servo = 5 → d.stepPend.natAbs ≤ d.stepLimit → exec (.stepLimitWrite m v) s = s.becomes
      ((d.enterServo 2).written m 0x900008 v.toNat)) ∧
    (d.servo ≠ 5 → exec (.stepLimitWrite m v) s = s.becomes (d.written m 0x900008 v.toNat))) ∧
  (∀ (q : Req) (s : State) (ts : List Tlv) (e : Dev), s.dev.Accepts q ptpConfigSpec ts e →
    let d := if hasTlv ts 0x0101 then e.writeDomain (tlvNum ts 0x0101) else e
    exec (.ptpConfig q) s = s.becomes
      ((if hasTlv ts 0x0102 then d.writeStepLimit (tlvNum ts 0x0102) else d).reply q 0x0520 St.ok)) ∧
  (∀ (q : Req) (s : State) (ts : List Tlv) (e : Dev), s.dev.Accepts q ptpIfConfigSpec ts e →
    let i := tlvNum ts 0x0101
    let w := tlvNum ts 0x0102
    let taken := bits w 31 1 = 1 ∧ e.bindTaken i (storedBind w) = true
    (taken → exec (.ptpIfConfig q) s = s.becomes (e.reply q 0x0521 St.badParam [statusDetail (tlvIndex ts 0x0102) 0xFF 0])) ∧
    (¬taken → exec (.ptpIfConfig q) s = s.becomes
      (((if hasTlv ts 0x0103 then e.set F.PTP_IF_ASYM_A i (tlvNum ts 0x0103) else e).writeIfCfg i w).reply q 0x0521 St.ok))) ∧
  (∀ (q : Req) (s : State) (ts : List Tlv) (e : Dev), s.dev.Accepts q ptpStatusSpec ts e →
    exec (.ptpStatusGet q) s = s.becomes (e.reply q 0x0522 St.ok [data ([w4 (e.storedAt 0x900004), w8 e.gmId,
      w4 (e.storedAt 0x900010), w4 (e.storedAt 0x900014), w4 (e.storedAt 0x900018)] ++ (List.range 4).flatMap fun i =>
      [w4 (e.get F.PTP_IF_STATUS_STATE i), w8 (e.get F.PTP_IF_OFFSET_HI_OFFSET i * 2 ^ 32 + e.get F.PTP_IF_OFFSET_LO_OFFSET i),
        w4 (e.get F.PTP_IF_MPD_MPD i)])])) ∧
  (∀ (q : Req) (s : State) (ts : List Tlv) (e : Dev), s.dev.Accepts q ptpStepAcceptSpec ts e →
    let off := hasTlv ts 0x0101 && (e.stepPend - 65536 * toSigned 64 (tlvNum ts 0x0101)).natAbs > 65536000
    (e.servo ≠ 5 → exec (.ptpStepAccept q) s = s.becomes (e.reply q 0x0523 St.badParam [statusDetail 0xFFFF 0xFF 0x30])) ∧
    (e.servo = 5 → off = true → exec (.ptpStepAccept q) s = s.becomes
      (e.reply q 0x0523 St.badParam [statusDetail (tlvIndex ts 0x0101) 0xFF 0x31])) ∧
    (e.servo = 5 → off = false → exec (.ptpStepAccept q) s = s.becomes (e.acceptStep.reply q 0x0523 St.ok)))

/-- O41. An edge of a REF pin counts towards two consecutive correct periods, or begins again, and its input is reviewed; only the edge
that FALLING selects is sampled (R349), and the block acts from step 10 of start-up on (R69); an edge that is 1.5 periods late,
and RATE and ADJ of the PHC unwritten for 4 s, are reviewed too (R351, R352). A gate's reading moves an active input as R354
says: below ACCEPT_PPB a failed one soaks, or is qualified where SOAK_S is 0; above REJECT_PPB a soaking or qualified one fails
with cause 3; between them a failed or soaking one fails with cause 4. SOAK_S seconds in SOAKING make it QUALIFIED. -/
def Obligations.ReferenceInputsAct : Prop :=
  (∀ (p : Fin 4) (falling : Bool) (s : State), s.dev.refOn = true →
    ofBool falling = s.dev.get F.REF_IN_CFG_FALLING (s.dev.pinOwner p) →
    let i := s.dev.pinOwner p
    let n := s.dev.nominal p
    let last := s.dev.hget H.refEdge p
    let gap := s.dev.clock.core + 1 - last
    let good := last != 0 && n.1 ≤ 2 * gap * n.2 && 2 * gap * n.2 ≤ 5 * n.1
    let d := s.dev.hset H.refGood p (if good then min 2 (s.dev.hget H.refGood p + 1) else 0)
    let d := (d.hset H.refEdge p (d.clock.core + 1)).reviewInput i
    exec (.refPinEdge ⟨p, falling⟩) s = s.becomes
      (if d.carriesPhase i && (if d.refType i == 2 then p.val == i + 1 else p.val == i) then
        d.phaseMeasured i (d.edgePhase i d.clock.time16) else d)) ∧
  (∀ (p : Fin 4) (falling : Bool) (s : State), (s.dev.refOn = false ∨
    ofBool falling ≠ s.dev.get F.REF_IN_CFG_FALLING (s.dev.pinOwner p)) → exec (.refPinEdge ⟨p, falling⟩) s = s.becomes s.dev) ∧
  (∀ (p : Fin 4) (s : State), s.dev.refOn = true → s.dev.hget H.refEdge p ≠ 0 →
    let n := s.dev.nominal p
    let d := s.dev.passToCore (s.dev.hget H.refEdge p - 1 + 5 * n.1 / (2 * n.2) + 1)
    exec (.activityTimeout p) s = s.becomes (((d.hset H.refGood p 0).hset H.refEdge p 0).reviewInput (d.pinOwner p))) ∧
  (∀ (s : State), s.dev.hget H.refPhcWrite ≠ 0 →
    exec .ptpWriteTimeout s = s.becomes ((s.dev.passToCore (s.dev.hget H.refPhcWrite + 4 * 10 ^ 9)).reviewInput 4)) ∧
  (∀ (i : Fin 7) (v : Int) (s : State), s.dev.refOn = true → s.dev.refState i ≠ 0 → s.dev.refActive i = true → s.dev.refBar i = none →
    let d := s.dev.passToCore (s.dev.hget H.refGate i + s.dev.gateLength i)
    let d := (d.hset H.refGate i d.clock.core).set F.REF_IN_FREQ_VALUE i (ofSigned 32 (saturate 32 v))
    let low := v.natAbs ≤ 65536 * d.get F.REF_LIMITS_ACCEPT_PPB
    let high := 65536 * d.get F.REF_LIMITS_REJECT_PPB < v.natAbs
    (d.refState i = 1 → low → exec (.frequencyGate i v) s = s.becomes
      (d.enterInput i (if d.get F.REF_IN_CFG_SOAK_S i == 0 then 3 else 2) 0)) ∧
    (d.refState i = 1 → ¬low → ¬high → exec (.frequencyGate i v) s = s.becomes (d.enterInput i 1 4)) ∧
    (d.refState i = 2 → high → exec (.frequencyGate i v) s = s.becomes (d.enterInput i 1 3)) ∧
    (d.refState i = 2 → ¬high → low → exec (.frequencyGate i v) s = s.becomes d) ∧
    (d.refState i = 2 → ¬high → ¬low → exec (.frequencyGate i v) s = s.becomes (d.enterInput i 1 4)) ∧
    (d.refState i = 3 → high → exec (.frequencyGate i v) s = s.becomes (d.enterInput i 1 3)) ∧
    (d.refState i = 3 → ¬high → exec (.frequencyGate i v) s = s.becomes d)) ∧
  (∀ (i : Fin 7) (v : Int) (s : State), (s.dev.refOn = false ∨ s.dev.refState i = 0 ∨ s.dev.refActive i = false ∨
      (s.dev.refBar i).isSome = true) →
    exec (.frequencyGate i v) s = s.becomes s.dev) ∧
  (∀ (i : Fin 7) (s : State), s.dev.refOn = true → (s.dev.reviewInput i).refState i = 2 →
    let d := s.dev.reviewInput i
    exec (.soakEnd i) s = s.becomes
      ((d.passToCore (d.hget H.refSoak i + d.get F.REF_IN_CFG_SOAK_S i * 10 ^ 9)).enterInput i 3 0)) ∧
  (∀ (d : Dev) (i st cause : Nat), d.refState i = 3 → st ≠ 3 → st ≠ 2 →
    d.enterInput i st cause = ((((d.set F.REF_IN_STATUS_STATE i st).set F.REF_IN_STATUS_FAIL_CAUSE i cause).bump
      C.REF_IN_LOSSES i).raise 66 [i, st, cause]))

/-- O42. From step 10 of start-up on (R69), an evaluation each millisecond of CORE time slews, reviews the inputs, selects as R356 to
R360 say, and aligns; a second of TIME ends with the loop's lock criteria and its averages (R362, R366, R367); the peat average
is the mean of at least 150 seconds before the last 60 (R366). A phase adjustment of an aligned input is refused and counted as
such, one by step moves TIME at once, and one by slew adds to what remains (R368 to R371); the slew ends after the time it
takes. The commands configure, force and trim: while the tick runs a configuration is held for its frame, else written at once
(R374). -/
def Obligations.ReferenceLoopActs : Prop :=
  (∀ (x : LoopIn) (s : State), s.dev.refOn = false → exec .selectorEvaluation s = s.becomes s.dev ∧
    exec (.loopSecond x) s = s.becomes s.dev) ∧
  (∀ (s : State), s.dev.refOn = true →
    let d := ((s.dev.passToCore ((s.dev.clock.core / 10 ^ 6 + 1) * 10 ^ 6)).slewNow)
    let d := (d.holdNow.holdoverCheck).reviewInputs
    let sel := d.selection
    let d := ((d.select sel.1 sel.2).set F.REF_STATUS_FORCED 0 (ofBool sel.2)).conflictCheck
    let d := d.set F.REF_STATUS_STANDBY 0 (d.choose (d.qualified.filter (· != sel.1)))
    exec .selectorEvaluation s = s.becomes ((d.sampleInputs.alignSlew (10 ^ 6)).hset H.refSlewRate 0 (d.get F.REF_SLEW_NS_PER_S))) ∧
  (∀ (d : Dev), (d.get F.REF_CTRL_FORCE_EN = 1 → d.qualified.contains (d.get F.REF_CTRL_FORCE_IN) = true →
      d.selection = (d.get F.REF_CTRL_FORCE_IN, true)) ∧
    (d.get F.REF_CTRL_FORCE_EN = 0 → d.get F.REF_CTRL_REVERTIVE = 0 → d.qualified.contains (d.get F.REF_STATUS_SELECTED) = true →
      d.selection = (d.get F.REF_STATUS_SELECTED, false))) ∧
  (∀ (x : LoopIn) (s : State), s.dev.refOn = true → s.dev.get F.REF_STATUS_LOOP ≠ 2 →
    let d := s.dev.passTo ((s.dev.now / 10 ^ 9 + 1) * 10 ^ 9 * 65536)
    let d := { d with refHist := (none :: d.refHist).take 360 }
    let e := if d.get F.REF_STATUS_LOOP == 3 || d.get F.REF_STATUS_LOOP == 4 then
      d.holdNow.holdoverCheck else d.lockSecond x
    exec (.loopSecond x) s = s.becomes (e.hset H.refSteady 0 (ofBool (e.get F.REF_STATUS_LOOP == 2)))) ∧
  (∀ (x : LoopIn) (s : State), s.dev.refOn = true → s.dev.get F.REF_STATUS_LOOP = 2 → s.dev.hget H.refSteady = 1 →
    let d := s.dev.passTo ((s.dev.now / 10 ^ 9 + 1) * 10 ^ 9 * 65536)
    let d := (d.set F.REF_AVG_1S_VALUE 0 (ofSigned 32 x.mean)).set F.REF_PEAT_CTRL_AVG_VALID 0 1
    let e := { d with refHist := (some x.mean :: d.refHist).take 360 }.lockSecond x
    exec (.loopSecond x) s = s.becomes (e.hset H.refSteady 0 (ofBool (e.get F.REF_STATUS_LOOP == 2)))) ∧
  (∀ (s : State), s.dev.lathRuns = true → s.dev.holder 10 = 7 →
    let vs := (s.dev.refHist.drop 60).filterMap id
    (vs.length < 150 → exec .peatUpdate s = s.becomes (s.dev.set F.REF_PEAT_CTRL_PEAT_VALID 0 0)) ∧
    (150 ≤ vs.length → exec .peatUpdate s = s.becomes (((s.dev.set F.REF_PEAT_VALUE 0 (ofSigned 32 (vs.sum / (vs.length : Int)))).hset
      H.refPeatAt 0 (s.dev.clock.core + 1)).set F.REF_PEAT_CTRL_PEAT_VALID 0 1))) ∧
  (∀ (m : Fin 8) (v : Word) (s : State), s.dev.Reaches m 0x80003C →
    let d := (s.dev.transaction m).set F.REF_PHASE_CTRL_STEP 0 (bits v.toNat 1 1)
    exec (.phaseAdjustGo m v) s = s.becomes
      ((if bit v.toNat 0 then d.phaseAdjust (bit v.toNat 1) d.phaseAdj else d).written m 0x80003C v.toNat)) ∧
  (∀ (d : Dev) (step : Bool) (v : Int),
    (d.aligned = true → d.phaseAdjust step v =
      ((d.phaseTerm K.PHASE_REQUESTED v).phaseTerm K.PHASE_REFUSED v).raise 70 (2 :: signedWords v)) ∧
    (d.aligned = false → d.phaseAdjust true v = d.stepTime 7 v) ∧
    (d.aligned = false →
      let e := (d.slewNow.phaseTerm K.PHASE_REQUESTED v).addBuild 7 v
      d.phaseAdjust false v = e.setSplit F.REF_PHASE_REMAIN_LO_FRAC F.REF_PHASE_REMAIN_MID_NS F.REF_PHASE_REMAIN_HI_NS
        (e.phaseRemain + v))) ∧
  (∀ (s : State),
    let r := s.dev.slewNow
    let n := r.phaseRemain.natAbs
    (n = 0 → exec .slewComplete s = s.becomes r) ∧
    (n ≠ 0 → exec .slewComplete s = s.becomes
      ((r.pass ((n * 10 ^ 9 + 65536 * r.hget H.refSlewRate - 1) / (65536 * r.hget H.refSlewRate))).slewNow))) ∧
  (∀ (q : Req) (s : State) (ts : List Tlv) (e : Dev), s.dev.Accepts q refInputConfigSpec ts e →
    let i := tlvNum ts 0x0101
    let bad := hasTlv ts 0x0102 && !goodType i (bits (tlvNum ts 0x0102) 24 3)
    (bad = true → exec (.refInputConfig q) s = s.becomes
      (e.reply q 0x0530 St.badParam [statusDetail (tlvIndex ts 0x0102) 0xFF 0])) ∧
    (bad = false → exec (.refInputConfig q) s = s.becomes (e.refChange q 0x0530 ts
      ((if hasTlv ts 0x0102 then refCfgWrites i (tlvNum ts 0x0102) else []) ++
        (if hasTlv ts 0x0103 then writesOf [F.REF_IN_SYNC_RATE, F.REF_IN_SYNC_LINES] i (tlvNum ts 0x0103) else []) ++
        tlvAtAll ts 0x0104 [i] F.REF_IN_DELAY_NS ++ tlvAtAll ts 0x0105 [0] F.REF_SLOT_SEL_SLOT)))) ∧
  (∀ (q : Req) (s : State) (ts : List Tlv) (e : Dev), s.dev.Accepts q refLoopConfigSpec ts e →
    exec (.refLoopConfig q) s = s.becomes (e.refChange q 0x0531 ts (refLoopWrites ts))) ∧
  (∀ (d : Dev) (q : Req) (op : Nat) (ts : List Tlv) (ws : List ShadowWrite), d.refChange q op ts ws =
    if d.running then d.holdChange q op (frameTlv ts) ws
    else (d.writeNow refFields ws).reviewInputs.reply q op St.ok) ∧
  (∀ (q : Req) (s : State) (ts : List Tlv) (e : Dev), s.dev.Accepts q refStatusGetSpec ts e →
    exec (.refStatusGet q) s = s.becomes (e.reply q 0x0532 St.ok (data [w4 e.refStatusView, w4 (e.get F.REF_CTRL_VALUE_VALUE),
      w4 (e.get F.REF_PEAT_VALUE), w4 (e.get F.REF_HOLDOVER_TIME_SECONDS)] ::
      (List.range 7).map fun i => data [w4 (e.refInView i), w4 (e.get F.REF_IN_FREQ_VALUE i), w4 (e.phaseView i)]))) ∧
  (∀ (q : Req) (s : State) (ts : List Tlv) (e : Dev), s.dev.Accepts q refPhaseAdjustSpec ts e →
    let d := e.setSplit F.REF_PHASE_ADJ_LO_FRAC F.REF_PHASE_ADJ_MID_NS F.REF_PHASE_ADJ_HI_NS (toSigned 64 (tlvNum ts 0x0101))
    let d := d.writePhaseCtrl (2 * tlvNum ts 0x0102 + 1)
    exec (.refPhaseAdjust q) s = s.becomes (if e.aligned then d.reply q 0x0533 St.badParam [statusDetail 0xFFFF 0xFF 0x40]
      else d.reply q 0x0533 St.ok)) ∧
  (∀ (q : Req) (s : State) (ts : List Tlv) (e : Dev), s.dev.Accepts q refForceSpec ts e →
    let v := tlvNum ts 0x0101
    let d := if v = 0xFF then e.set F.REF_CTRL_FORCE_EN 0 0 else (e.set F.REF_CTRL_FORCE_EN 0 1).set F.REF_CTRL_FORCE_IN 0 v
    exec (.refForce q) s = s.becomes ((d.mirrorReg 0x800000).reply q 0x0534 St.ok)) ∧
  (∀ (q : Req) (s : State) (ts : List Tlv) (e : Dev), s.dev.Accepts q xoTrimSetSpec ts e →
    exec (.xoTrimSet q) s = s.becomes ((((e.hset H.xoDuty 0 e.xoDutyNow).hset H.xoSince 0 e.clock.core).set F.XO_CFG_TRIM 0
      (tlvNum ts 0x0101)).reply q 0x0535 St.ok))

/-- O43. A frame of a port that acquires its clock counts towards READY, and one that is far off loses its clock; a RUNNING port samples
and drives its pins on the edge that BCLK_FALL selects (R377), and its words pass its FIFO, which drops what it cannot hold and
makes up zero words (R378, R383); no FS edge for two nominal periods loses the clock too. APT_PORT_CFG is stored unless R376 or
R379 discards it, and EN starts or stops the port; the mask is pending until an FS edge and holds no bit at or above S (R386); a
mute waits for a zero crossing or its timeout (R389); a restart empties the FIFO and fades the channels (R385). ARM arms the
READY members of a group within its offset (R393), FIRE triggers it (R392), and its start sets the RUNNING members, the index
and the time (R395). -/
def Obligations.AudioPortsAct : Prop :=
  (∀ (p : Fin 24) (x : PortFrame) (s : State), ((s.dev.pass x.wait).portState p = 0 ∨ (s.dev.pass x.wait).isFrame p x.cycles = false) →
    exec (.aportFrame p x) s = s.becomes (s.dev.pass x.wait)) ∧
  (∀ (p : Fin 24) (x : PortFrame) (s : State),
    let d := s.dev.pass x.wait
    let e := ((d.set F.APT_PORT_FS_PPB p (ofSigned 32 x.ppb)).hset H.aptEdge p (d.clock.core + 1)).applyMask p
    let e := if e.get F.APT_PORT_CFG_DIR p = 1 then e.serialise p (List.replicate (e.portSlots p) 0) else e
    (d.portState p = 1 ∨ d.portState p = 5) → d.isFrame p x.cycles = true → exec (.aportFrame p x) s = s.becomes (e.acquire p x)) ∧
  (∀ (d : Dev) (p : Nat) (x : PortFrame), d.acqCause p x = 0 →
    let e := (d.set F.APT_PORT_STATUS_ACQ_CAUSE p 0).hset H.aptRun p (d.hget H.aptRun p + 1)
    (d.hget H.aptRun p + 1 < 16 → d.acquire p x = e) ∧
    (16 ≤ d.hget H.aptRun p + 1 → d.acquire p x = e.portTo p (if e.portState p = 1 then 2 else 4))) ∧
  (∀ (p : Fin 24) (x : PortFrame) (s : State),
    let d := s.dev.pass x.wait
    let e := ((d.set F.APT_PORT_FS_PPB p (ofSigned 32 x.ppb)).hset H.aptEdge p (d.clock.core + 1)).applyMask p
    d.portState p = 4 → d.isFrame p x.cycles = true → e.hget H.aptRestart p = 0 →
    (5000000 < x.ppb.natAbs → exec (.aportFrame p x) s = s.becomes ((e.pinFrame p x.cycles).clockLost p 0)) ∧
    (x.ppb.natAbs ≤ 5000000 → (e.pinFrame p x.cycles).get F.APT_PORT_CFG_GROUP p = 0 →
      exec (.aportFrame p x) s = s.becomes ((((e.pinFrame p x.cycles).countIndex p).checkDrift p).resumeAt p))) ∧
  (∀ (d : Dev) (p : Nat) (c : BclkCycle),
    (d.get F.APT_PORT_CFG_BCLK_FALL p = 1 → d.sampleCycle p c = (c.fsFall, c.sdFall)) ∧
    (d.get F.APT_PORT_CFG_BCLK_FALL p = 0 → d.sampleCycle p c = (c.fsRise, c.sdRise))) ∧
  (∀ (d : Dev) (p : Nat) (ws : List Nat), (d.pfifo p).words.length + ws.length ≤ 4096 →
    d.fifoIn p ws = ((d.bump C.APT_RECEIVED p ws.length).bump C.APT_DROPPED p 0).setWords p ((d.pfifo p).words ++ ws)) ∧
  (∀ (d : Dev) (p n : Nat), n ≤ (d.pfifo p).words.length →
    d.fifoOut p n = ((d.pfifo p).words.take n,
      ((d.bump C.APT_DELIVERED p n).bump C.APT_ZERO_INSERTED p 0).setWords p ((d.pfifo p).words.drop n))) ∧
  (∀ (d : Dev) (p n : Nat), (d.pfifo p).words.length < n → d.get F.APT_PORT_CFG_DIR p = 1 →
    let zeros := n - (d.pfifo p).words.length
    (d.fifoOut p n).1 = (d.pfifo p).words ++ List.replicate zeros 0 ∧
    (d.fifoOut p n).2 = (((d.bump C.APT_DELIVERED p n).bump C.APT_ZERO_INSERTED p zeros).setWords p []).slip p 2 zeros) ∧
  (∀ (p : Fin 24) (cycles : List BclkCycle) (s : State), 2 ≤ s.dev.portState p → s.dev.portState p ≤ 4 →
    let d := s.dev.passToCore (s.dev.hget H.aptEdge p - 1 + 2 * s.dev.portPeriod p)
    (d.portState p = 4 → d.hget H.aptRestart p = 0 → exec (.fsTimeout p cycles) s = s.becomes
      ((d.partFrame p cycles).2.clockLost p (d.partFrame p cycles).1)) ∧
    ((d.portState p ≠ 4 ∨ d.hget H.aptRestart p ≠ 0) → exec (.fsTimeout p cycles) s = s.becomes (d.clockLost p 0))) ∧
  (∀ (m : Fin 8) (p : Fin 24) (v : Word) (s : State), s.dev.Reaches m (aptPort p) →
    let d := s.dev.transaction m
    let e := portCfgFields.foldl (fun d f => d.set f p (fieldOf f (portCfgWord v.toNat))) d
    (d.portCfgRefusal p v.toNat ≠ 0 → exec (.portCfgWrite m p v) s = s.becomes (d.written m (aptPort p) v.toNat)) ∧
    (d.portCfgRefusal p v.toNat = 0 → bit v.toNat 31 = true → e.portState p = 0 →
      exec (.portCfgWrite m p v) s = s.becomes ((e.portTo p 1).written m (aptPort p) v.toNat)) ∧
    (d.portCfgRefusal p v.toNat = 0 → bit v.toNat 31 = false →
      exec (.portCfgWrite m p v) s = s.becomes ((e.portTo p 0).written m (aptPort p) v.toNat))) ∧
  (∀ (m : Fin 8) (p : Fin 24) (v : Word) (s : State), s.dev.Reaches m (aptPort p + 0xC) → bit v.toNat 0 = true →
    exec (.portRestart m p v) s = s.becomes (((s.dev.transaction m).restartPort p).written m (aptPort p + 0xC) v.toNat)) ∧
  (∀ (m : Fin 8) (p : Fin 24) (v : Word) (s : State), s.dev.Reaches m (aptPort p + 4) →
    let d := s.dev.transaction m
    exec (.maskWrite m p v) s = s.becomes
      ((d.set F.APT_PORT_MASK_MASK p (v.toNat % 2 ^ d.portSlots p)).written m (aptPort p + 4) v.toNat)) ∧
  (∀ (m : Fin 8) (p : Fin 24) (v : Word) (s : State), s.dev.Reaches m (aptPort p + 0x10) →
    exec (.muteWrite m p v) s = s.becomes
      ((((s.dev.transaction m).set F.APT_PORT_MUTE_MUTE p v.toNat).settlePort p).written m (aptPort p + 0x10) v.toNat)) ∧
  (∀ (p : Fin 24) (c : Fin 32) (s : State), s.dev.hget H.aptWait (chanIx p c) ≠ 0 →
    let k := chanIx p c
    let d := s.dev.passToCore (s.dev.hget H.aptSince k + 1000000 * s.dev.get F.APT_ZC_CFG_ZC_TIMEOUT_MS)
    let d := ((d.beginFade p c (s.dev.hget H.aptWait k)).bump C.APT_ZC_TIMEOUTS p).refreshMute p
    let sec := d.clock.core / 1000000000 + 1
    exec (.zcTimeout p c) s = s.becomes
      (if d.hget H.aptZcSecond p = sec then d else (d.hset H.aptZcSecond p sec).raise (704 + p) [2, c])) ∧
  (∀ (m : Fin 8) (g : Fin 8) (v : Word) (s : State), s.dev.Reaches m (aptGroup g) →
    bit v.toNat 30 = false →
    let w := v.toNat ||| 2 ^ 31
    let src := bits w 20 3
    let d := ((s.dev.transaction m).set F.APT_GROUP_CTRL_START_SRC g (if src > 4 then 0 else src)).set F.APT_GROUP_CTRL_PIN g (bits w 0 5)
    bit w 31 = true → bit w 30 = false →
    exec (.groupArm m g v ()) s = s.becomes ((d.armGroup g).written m (aptGroup g) w)) ∧
  (∀ (m : Fin 8) (g : Fin 8) (v : Word) (s : State), s.dev.Reaches m (aptGroup g) →
    let w := v.toNat ||| 2 ^ 30
    let d := ((s.dev.transaction m).set F.APT_GROUP_CTRL_START_SRC g 4).set F.APT_GROUP_CTRL_PIN g (bits w 0 5)
    bits w 20 3 = 4 → bit w 31 = false → bit w 30 = true →
    exec (.groupFire m g v) s = s.becomes ((d.trigger g).written m (aptGroup g) w)) ∧
  (∀ (g : Fin 8) (s : State), s.dev.hget H.aptTrigger g ≠ 0 →
    let d := (s.dev.passTo ((s.dev.hget H.aptTrigger g - 1 + 1000) * 65536)).hset H.aptTrigger g 0
    let started := (d.members g).filter fun p => d.portState p == 3
    let missed := d.get F.APT_GROUP_MISSED_MISSED g ||| wordOfBits ((d.members g).filter fun p => !started.contains p)
    let e := (if d.runningMask g = 0 then d.set F.APT_GROUP_STATUS_LEADER g (d.candidate g) else d).each started fun d p => d.portTo p 4
    let e := ((e.set F.APT_GROUP_MISSED_MISSED g missed).set F.APT_GROUP_INDEX_LO_INDEX g 0).set F.APT_GROUP_INDEX_HI_INDEX g 0
    let e := (e.set F.APT_GROUP_TIME_LO_NS g e.now).set F.APT_GROUP_TIME_HI_NS g (e.now / 2 ^ 32)
    exec (.groupStart g) s = s.becomes (e.raise 728 ([(g + 1) * 2 ^ 24 + wordOfBits started, missed] ++ words2 e.now)))

/-- O44. APORT_CONFIG stores the configuration and the mask, or names why R376 or R379 refuses it; APORT_MUTE changes the selected mute
bits; APORT_GROUP_CONFIG stores the start source and pin; APORT_ARM is LEASED while the pins it needs are, and 0x52 with no
member READY; APORT_START fires an armed group with START_SRC 4, 0x53 else; APORT_RESTART restarts a port; APORT_STATUS_GET
answers the status words of a range of ports. What they change of a register is mirrored (R463). -/
def Obligations.AudioPortCommandsAct : Prop :=
  (∀ (q : Req) (s : State) (ts : List Tlv) (e : Dev), s.dev.Accepts q aportConfigSpec ts e →
    let p := tlvNum ts 0x0101
    let w := tlvNum ts 0x0102
    let r := if hasTlv ts 0x0102 then e.portCfgRefusal p w else 0
    let d := if hasTlv ts 0x0102 then (e.writePortCfg p w).mirrorReg (aptPort p) else e
    (r ≠ 0 → exec (.aportConfig q) s = s.becomes (e.reply q 0x0350 St.badParam [statusDetail (tlvIndex ts 0x0102) 0xFF r])) ∧
    (r = 0 → exec (.aportConfig q) s = s.becomes
      ((if hasTlv ts 0x0103 then (d.writePortMask p (tlvNum ts 0x0103)).mirrorReg (aptPort p + 4) else d).reply q 0x0350 St.ok))) ∧
  (∀ (q : Req) (s : State) (ts : List Tlv) (e : Dev), s.dev.Accepts q aportMuteSpec ts e →
    let p := tlvNum ts 0x0101
    let sel := tlvNum ts 0x0104
    let v := (e.get F.APT_PORT_MUTE_MUTE p &&& (0xFFFFFFFF ^^^ sel)) ||| (tlvNum ts 0x0105 &&& sel)
    exec (.aportMute q) s = s.becomes
      ((((e.set F.APT_PORT_MUTE_MUTE p v).settlePort p).mirrorReg (aptPort p + 0x10)).reply q 0x0351 St.ok)) ∧
  (∀ (q : Req) (s : State) (ts : List Tlv) (e : Dev), s.dev.Accepts q aportGroupConfigSpec ts e →
    let g := tlvNum ts 0x0106 - 1
    let v := (tlv? ts 0x0107).getD []
    exec (.aportGroupConfig q) s = s.becomes ((((e.set F.APT_GROUP_CTRL_START_SRC g (beVal (v.take 2))).set F.APT_GROUP_CTRL_PIN g
      (beVal (v.drop 2))).mirrorReg (aptGroup g)).reply q 0x0352 St.ok)) ∧
  (∀ (q : Req) (s : State) (ts : List Tlv) (e : Dev), s.dev.Accepts q aportArmSpec ts e →
    let g := tlvNum ts 0x0106 - 1
    let leased := e.get F.APT_GROUP_CTRL_START_SRC g == 3 && e.holder 15 != 7
    let some_ := (e.members g).any fun p => e.portState p == 2
    (leased = true → exec (.aportArm q ()) s = s.becomes (e.reply q 0x0353 St.leased)) ∧
    (leased = false → some_ = false → exec (.aportArm q ()) s = s.becomes
      (e.reply q 0x0353 St.badParam [statusDetail (tlvIndex ts 0x0106) 0xFF 0x52])) ∧
    (leased = false → some_ = true → exec (.aportArm q ()) s = s.becomes
      (((e.armGroup g).mirrorReg (aptGroup g)).reply q 0x0353 St.ok))) ∧
  (∀ (q : Req) (s : State) (ts : List Tlv) (e : Dev), s.dev.Accepts q aportStartSpec ts e →
    let g := tlvNum ts 0x0106 - 1
    let no := e.get F.APT_GROUP_CTRL_ARM g == 0 || e.get F.APT_GROUP_CTRL_START_SRC g != 4
    (no = true → exec (.aportStart q) s = s.becomes (e.reply q 0x0354 St.badParam [statusDetail (tlvIndex ts 0x0106) 0xFF 0x53])) ∧
    (no = false → exec (.aportStart q) s = s.becomes (((e.trigger g).mirrorReg (aptGroup g)).reply q 0x0354 St.ok))) ∧
  (∀ (q : Req) (s : State) (ts : List Tlv) (e : Dev), s.dev.Accepts q aportRestartSpec ts e →
    exec (.aportRestart q) s = s.becomes ((e.restartPort (tlvNum ts 0x0101)).reply q 0x0355 St.ok)) ∧
  (∀ (q : Req) (s : State) (ts : List Tlv) (e : Dev), s.dev.Accepts q aportStatusGetSpec ts e →
    let first := tlvNum ts 0x0108
    let n := tlvNum ts 0x0109
    (24 < first + n → exec (.aportStatusGet q) s = s.becomes (e.reply q 0x0356 St.badParam [statusDetail (tlvIndex ts 0x0109) 0xFF 0])) ∧
    (first + n ≤ 24 → exec (.aportStatusGet q) s = s.becomes (e.reply q 0x0356 St.ok ((rangeList (first, n)).map fun p =>
      data (w4 (e.portStatusWord p) :: [0x1C, 0x40, 0x44, 0x48, 0x4C, 0x50, 0x54, 0x58, 0x5C].map fun o =>
        w4 (e.storedAt (aptPort p + o))))))) ∧
  (∀ (d : Dev) (g : Nat), d.get F.APT_GROUP_CTRL_ARM g ≠ 0 →
    let missed := (d.members g).filter fun p => d.portState p != 3
    d.trigger g = (((d.set F.APT_GROUP_CTRL_ARM g 0).hset H.aptTrigger g (d.now + 1)).set F.APT_GROUP_MISSED_MISSED g
      (wordOfBits missed)))

/-- O45. A new list is turned away with 0x60 for a reserved source, 0x63 above 4,096 taps, 0x64 for a repeated source and 0x61 above the
gain load of 4,096 (R401, R407, R409, R413); it is EXHAUSTED with 0x66 where the table has no units for it (R408) and with 0x70
where its mix jobs have no engine (R415); else it is held for its frame. MIX_SET gives the list, appending to the planned one
where it asks so; TAP_GAIN changes, adds or removes one tap; ROUTE gives each destination one tap at unity; DEST_MUTE holds the
mute bits, and unmutes no list above the gain load. MIX_GET answers the list in effect (R544), AMX_STATUS_GET the free units and
each channel's load. -/
def Obligations.MixCommandsAct : Prop :=
  (∀ (q : Req) (s : State) (ts : List Tlv) (e : Dev), s.dev.Accepts q mixSetSpec ts e →
    let k := tlvNum ts 0x0101
    let old := if hasTlv ts 0x0104 then tapsOf (e.plannedAt (e.changeFrame (frameTlv ts))) k else []
    exec (.mixSet q) s = s.becomes (e.newLists q 0x0301 ts (tlvNum ts 0x0102 480) [(k, old ++ (tlvAll ts 0x0103).map tapOf)])) ∧
  (∀ (q : Req) (s : State) (ts : List Tlv) (e : Dev), s.dev.Accepts q tapGainSpec ts e →
    let k := tlvNum ts 0x0101
    let src := tlvNum ts 0x0105
    let g := toSigned 32 (tlvNum ts 0x0106)
    let old := tapsOf (e.plannedAt (e.changeFrame (frameTlv ts))) k
    let new := if hasTlv ts 0x0107 then old.filter (·.1 != src)
      else if old.any (·.1 == src) then old.map fun t => if t.1 = src then (src, g) else t
      else old ++ [(src, g)]
    exec (.tapGain q) s = s.becomes (e.newLists q 0x0302 ts (tlvNum ts 0x0102 480) [(k, new)])) ∧
  (∀ (q : Req) (s : State) (ts : List Tlv) (e : Dev), s.dev.Accepts q routeSpec ts e →
    let src := tlvNum ts 0x0108
    let k := tlvNum ts 0x0109
    let n := tlvNum ts 0x010A
    (crossesRow src n = true → exec (.route q) s = s.becomes
      (e.reply q 0x0303 St.badParam [statusDetail (tlvIndex ts 0x0108) 0xFF 0x60])) ∧
    (crossesRow src n = false → crossesRow k n = true → exec (.route q) s = s.becomes
      (e.reply q 0x0303 St.badParam [statusDetail (tlvIndex ts 0x0109) 0xFF 0x60])) ∧
    (crossesRow src n = false → crossesRow k n = false → exec (.route q) s = s.becomes
      (e.newLists q 0x0303 ts (tlvNum ts 0x0102 480) ((List.range n).map fun i => (k + i, [(src + i, 0x10000000)]))))) ∧
  (∀ (d : Dev) (q : Req) (op : Nat) (ts : List Tlv) (ramp : Nat) (lists : List (Nat × List (Nat × Int))),
    let refuse := fun (d : Dev) (e : Nat × Nat) => d.reply q op e.1 [statusDetail 0xFFFF 0xFF e.2]
    let sizes := lists.map fun l => unitsFor l.2.length
    let fault := lists.findSome? fun l => listFault (d.sounds (d.changeFrame (frameTlv ts)) l.1) l.2
    let free := d.holder 13 = 7 ∨ ∀ l ∈ lists, (d.jobOf l.1).isSome = true
    (fault = none → ¬free → d.newLists q op ts ramp lists = d.reply q op St.leased) ∧
    (∀ e, fault = some e → d.newLists q op ts ramp lists = refuse d e) ∧
    (fault = none → free → 131072 - unitsIn d.unitRuns < sizes.sum →
      d.newLists q op ts ramp lists = refuse d (St.exhausted, 0x66)) ∧
    (∀ us, fault = none → free → sizes.sum ≤ 131072 - unitsIn d.unitRuns →
      allot d.unitRuns (d.fresh.1 % 131072) sizes = some us →
      let e := d.fresh.2
      let ws := (lists.zip us).flatMap fun p => listWrites p.1.1 p.2 ramp p.1.2
      let fits := e.placeable (e.mixJobs (e.listLengths (e.heldWrites ws) ((e.plannedAt (d.changeFrame (frameTlv ts))).over ws)))
      (fits = false → d.newLists q op ts ramp lists = refuse e (St.exhausted, 0x70)) ∧
      (fits = true → d.newLists q op ts ramp lists = (e.holdChange q op (frameTlv ts) ws).checkTable))) ∧
  (∀ (b : Bool) (ts : List (Nat × Int)),
    let ok := ∀ t ∈ ts, t.1 < 58112 ∨ 61439 < t.1
    ((∃ t ∈ ts, 58112 ≤ t.1 ∧ t.1 ≤ 61439) → listFault b ts = some (St.badParam, 0x60)) ∧
    (ok → 4096 < ts.length → listFault b ts = some (St.badParam, 0x63)) ∧
    (ok → ts.length ≤ 4096 → ¬(ts.map Prod.fst).Nodup → listFault b ts = some (St.badParam, 0x64)) ∧
    (ok → ts.length ≤ 4096 → (ts.map Prod.fst).Nodup → 4096 * 2 ^ 28 < gainLoad ts → listFault true ts = some (St.badParam, 0x61)) ∧
    (ok → ts.length ≤ 4096 → (ts.map Prod.fst).Nodup → (b = false ∨ gainLoad ts ≤ 4096 * 2 ^ 28) → listFault b ts = none)) ∧
  (∀ (q : Req) (s : State) (ts : List Tlv) (e : Dev), s.dev.Accepts q mixGetSpec ts e →
    let k := tlvNum ts 0x0101
    exec (.mixGet q) s = s.becomes (e.reply q 0x0304 St.ok (⟨0x0102, w4 (e.get F.AMX_DEST_RAMP_RAMP_LEN k) ++
      w4 (e.get F.AMX_DEST_RAMP_MUTE k)⟩ :: (tapsOf e.inEffect k).map fun t => data [w4 t.1, w4 (ofSigned 32 t.2)]))) ∧
  (∀ (q : Req) (s : State) (ts : List Tlv) (e : Dev), s.dev.Accepts q destMuteSpec ts e →
    let k := tlvNum ts 0x0109
    let n := tlvNum ts 0x010A
    let v := tlvNum ts 0x010B
    let loud := v == 0 && (List.range n).any fun i => e.overloads (e.changeFrame (frameTlv ts)) (k + i)
    (crossesRow k n = true → exec (.destMute q) s = s.becomes
      (e.reply q 0x0305 St.badParam [statusDetail (tlvIndex ts 0x0109) 0xFF 0x60])) ∧
    (crossesRow k n = false → loud = true → exec (.destMute q) s = s.becomes
      (e.reply q 0x0305 St.badParam [statusDetail 0xFFFF 0xFF 0x61])) ∧
    (crossesRow k n = false → loud = false → exec (.destMute q) s = s.becomes
      (e.holdChange q 0x0305 (frameTlv ts) ((List.range n).map fun i => sw F.AMX_DEST_RAMP_MUTE (k + i) v)))) ∧
  (∀ (q : Req) (s : State) (ts : List Tlv) (e : Dev), s.dev.Accepts q amxStatusGetSpec ts e →
    let k := tlvNum ts 0x0109
    let n := tlvNum ts 0x010A
    (65536 < k + n → exec (.amxStatusGet q) s = s.becomes (e.reply q 0x0306 St.badParam [statusDetail (tlvIndex ts 0x0109) 0xFF 0])) ∧
    (k + n ≤ 65536 → exec (.amxStatusGet q) s = s.becomes
      (e.reply q 0x0306 St.ok (⟨0x0102, w4 e.freeUnits⟩ :: (List.range n).map fun i => e.amxStatusOf (k + i)))))

/-- O46. METER_ENABLE gives a channel the slot that it has or a free one, 0x65 where its group is full and 0x67 where no slot is free;
METER_DISABLE frees the slot unless a cornice names it; METER_GET answers slots or one group; LOUDNESS_RESET and a GO of
AMX_LOUD_RESET start INTEGRATED of one slot or one group again, which is raised (R420). MIX_SET, TAP_GAIN and ROUTE complete on
lists that pass every check: their writes are held for the frame and the table is reviewed; DEST_MUTE holds its mute bits, and
MIX_GET and AMX_STATUS_GET answer OK with what is in effect. -/
def Obligations.MetersAct : Prop :=
  (∀ (q : Req) (s : State) (ts : List Tlv) (e : Dev) (us : List Nat), s.dev.Accepts q mixSetSpec ts e →
    let k := tlvNum ts 0x0101
    let old := if hasTlv ts 0x0104 then tapsOf (e.plannedAt (e.changeFrame (frameTlv ts))) k else []
    let lists := [(k, old ++ (tlvAll ts 0x0103).map tapOf)]
    let ramp := tlvNum ts 0x0102 480
    let ws := (lists.zip us).flatMap fun p => listWrites p.1.1 p.2 ramp p.1.2
    e.ListsFit ts ramp lists us → exec (.mixSet q) s = s.becomes ((e.fresh.2.holdChange q 0x0301 (frameTlv ts) ws).checkTable)) ∧
  (∀ (q : Req) (s : State) (ts : List Tlv) (e : Dev) (us : List Nat), s.dev.Accepts q tapGainSpec ts e →
    let k := tlvNum ts 0x0101
    let src := tlvNum ts 0x0105
    let g := toSigned 32 (tlvNum ts 0x0106)
    let old := tapsOf (e.plannedAt (e.changeFrame (frameTlv ts))) k
    let new := if hasTlv ts 0x0107 then old.filter (·.1 != src)
      else if old.any (·.1 == src) then old.map fun t => if t.1 = src then (src, g) else t
      else old ++ [(src, g)]
    let ramp := tlvNum ts 0x0102 480
    let ws := ([(k, new)].zip us).flatMap fun p => listWrites p.1.1 p.2 ramp p.1.2
    e.ListsFit ts ramp [(k, new)] us → exec (.tapGain q) s = s.becomes ((e.fresh.2.holdChange q 0x0302 (frameTlv ts) ws).checkTable)) ∧
  (∀ (q : Req) (s : State) (ts : List Tlv) (e : Dev) (us : List Nat), s.dev.Accepts q routeSpec ts e →
    let src := tlvNum ts 0x0108
    let k := tlvNum ts 0x0109
    let n := tlvNum ts 0x010A
    let lists := (List.range n).map fun i => (k + i, [(src + i, (0x10000000 : Int))])
    let ramp := tlvNum ts 0x0102 480
    let ws := (lists.zip us).flatMap fun p => listWrites p.1.1 p.2 ramp p.1.2
    crossesRow src n = false → crossesRow k n = false → e.ListsFit ts ramp lists us →
    exec (.route q) s = s.becomes ((e.fresh.2.holdChange q 0x0303 (frameTlv ts) ws).checkTable)) ∧
  (∀ (q : Req) (s : State) (ts : List Tlv) (e : Dev), s.dev.Accepts q mixGetSpec ts e →
    let k := tlvNum ts 0x0101
    exec (.mixGet q) s = s.becomes (e.reply q 0x0304 St.ok (⟨0x0102, w4 (e.get F.AMX_DEST_RAMP_RAMP_LEN k) ++
      w4 (e.get F.AMX_DEST_RAMP_MUTE k)⟩ :: (tapsOf e.inEffect k).map fun t => data [w4 t.1, w4 (ofSigned 32 t.2)]))) ∧
  (∀ (q : Req) (s : State) (ts : List Tlv) (e : Dev), s.dev.Accepts q destMuteSpec ts e →
    let k := tlvNum ts 0x0109
    let n := tlvNum ts 0x010A
    let v := tlvNum ts 0x010B
    crossesRow k n = false → (v ≠ 0 ∨ ∀ i < n, e.overloads (e.changeFrame (frameTlv ts)) (k + i) = false) →
    exec (.destMute q) s = s.becomes
      (e.holdChange q 0x0305 (frameTlv ts) ((List.range n).map fun i => sw F.AMX_DEST_RAMP_MUTE (k + i) v))) ∧
  (∀ (q : Req) (s : State) (ts : List Tlv) (e : Dev), s.dev.Accepts q amxStatusGetSpec ts e →
    let k := tlvNum ts 0x0109
    let n := tlvNum ts 0x010A
    k + n ≤ 65536 → exec (.amxStatusGet q) s = s.becomes
      (e.reply q 0x0306 St.ok (⟨0x0102, w4 e.freeUnits⟩ :: (List.range n).map fun i => e.amxStatusOf (k + i)))) ∧
  (∀ (q : Req) (s : State) (ts : List Tlv) (e : Dev), s.dev.Accepts q meterEnableSpec ts e →
    let opts := tlvNum ts 0x0112
    let g := bits opts 16 7
    let space := tlvNum ts 0x0110
    let ch := tlvNum ts 0x0111
    let full := g != 0 && ((e.groupMembers g).filter fun j => e.meterOf space ch != some j).length ≥ 32
    (full = true → exec (.meterEnable q) s = s.becomes
      (e.reply q 0x0310 St.badParam [statusDetail (tlvIndex ts 0x0112) 0xFF 0x65])) ∧
    (∀ d, full = false → e.allotMeter space ch = (none, d) → exec (.meterEnable q) s = s.becomes
      (d.reply q 0x0310 St.exhausted [statusDetail 0xFFFF 0xFF 0x67])) ∧
    (∀ j d, full = false → e.allotMeter space ch = (some j, d) →
      let d := (d.set F.AMX_METER_CFG_WEIGHT j (bits opts 28 1)).set F.AMX_METER_CFG_GROUP j g
      let d := ((d.hset H.meterCmd j 1).hset H.meterCmdLoud j (bits opts 29 1)).trimMeters
      exec (.meterEnable q) s = s.becomes ((d.mirrorReg (0x1E80000 + 16 * j)).reply q 0x0310 St.ok [data [w4 j]]))) ∧
  (∀ (d : Dev) (space ch j : Nat), d.meterOf space ch = some j → d.allotMeter space ch = (some j, d)) ∧
  (∀ (q : Req) (s : State) (ts : List Tlv) (e : Dev), s.dev.Accepts q meterDisableSpec ts e →
    (e.meterOf (tlvNum ts 0x0110) (tlvNum ts 0x0111) = none → exec (.meterDisable q) s = s.becomes
      (e.reply q 0x0311 St.badParam [statusDetail (tlvIndex ts 0x0111) 0xFF 0])) ∧
    (∀ j, e.meterOf (tlvNum ts 0x0110) (tlvNum ts 0x0111) = some j →
      let d := ((e.hset H.meterCmd j 0).hset H.meterCmdLoud j 0).trimMeters
      exec (.meterDisable q) s = s.becomes (((d.mirrorReg (0x1E80000 + 16 * j)).reviewMeters).reply q 0x0311 St.ok))) ∧
  (∀ (q : Req) (s : State) (ts : List Tlv) (e : Dev), s.dev.Accepts q meterGetSpec ts e →
    let g := tlvNum ts 0x0114
    (hasTlv ts 0x0114 = true → hasTlv ts 0x0113 = false → hasTlv ts 0x010A = false → exec (.meterGet q) s = s.becomes
      (e.reply q 0x0312 St.ok [data [w4 (e.word [.fld F.AMX_LGROUP_LOUD_SHORT, .fld F.AMX_LGROUP_LOUD_MOMENTARY] g),
        w4 (e.word [.fld F.AMX_LGROUP_INT_INTEGRATED] g + (e.groupMembers g).length)]])) ∧
    (hasTlv ts 0x0113 = true → hasTlv ts 0x010A = true → hasTlv ts 0x0114 = false → tlvNum ts 0x0113 + tlvNum ts 0x010A ≤ 16384 →
      exec (.meterGet q) s = s.becomes (e.reply q 0x0312 St.ok
        ((List.range (tlvNum ts 0x010A)).map fun i => data (e.meterWords (tlvNum ts 0x0113 + i)))))) ∧
  (∀ (q : Req) (s : State) (ts : List Tlv) (e : Dev), s.dev.Accepts q loudnessResetSpec ts e →
    (hasTlv ts 0x0113 = true → hasTlv ts 0x0114 = false → exec (.loudnessReset q) s = s.becomes
      (((e.set F.AMX_METER_STAT_INTEGRATED (tlvNum ts 0x0113) 0x8000).raise 739 [0, tlvNum ts 0x0113]).reply q 0x0313 St.ok)) ∧
    (hasTlv ts 0x0113 = false → hasTlv ts 0x0114 = true → exec (.loudnessReset q) s = s.becomes
      (((e.set F.AMX_LGROUP_INT_INTEGRATED (tlvNum ts 0x0114) 0x8000).raise 739 [1, tlvNum ts 0x0114]).reply q 0x0313 St.ok))) ∧
  (∀ (m : Fin 8) (v : Word) (s : State), s.dev.Reaches m 0x1EE0000 →
    let i := bits v.toNat 0 14
    let d := ((s.dev.transaction m).set F.AMX_LOUD_RESET_GROUP 0 (bits v.toNat 30 1)).set F.AMX_LOUD_RESET_INDEX 0 i
    (bit v.toNat 31 = false → exec (.loudResetWrite m v) s = s.becomes (d.written m 0x1EE0000 v.toNat)) ∧
    (bit v.toNat 31 = true → bit v.toNat 30 = false → exec (.loudResetWrite m v) s = s.becomes
      (((d.set F.AMX_METER_STAT_INTEGRATED i 0x8000).raise 739 [0, i]).written m 0x1EE0000 v.toNat)) ∧
    (bit v.toNat 31 = true → bit v.toNat 30 = true → 1 ≤ i → i ≤ 127 → exec (.loudResetWrite m v) s = s.becomes
      (((d.set F.AMX_LGROUP_INT_INTEGRATED i 0x8000).raise 739 [1, i]).written m 0x1EE0000 v.toNat)))

/-- O47. No instruction does anything on a unit that runs no job. At a place beyond word 8,191 every instruction traps PM_RANGE, and at a
word whose opcode the summary does not list every one traps ILLEGAL; one whose opcode is another's changes nothing (which
command the sender gives is its choice). A trap is recorded in FEN_TRAP, counted in TRAPS and raised; from levels 0 and 1 it
enters level 2 at word 8 with its cause and place in the copies for level 2, from level 2 it enters level 3 at word 12 with the
copies for level 3, and at level 3 it is recorded as DOUBLE and the job is abandoned (R447). Units keep their registers apart
(R425). -/
def Obligations.FenInstructionsAreFetched : Prop :=
  (∀ (u : Fin 272) (s : State), ∀ c ∈ [Instr.fenNop u, .mac2 u, .mac u, .clr u, .wb u, .mfs u, .mts u, .alu u, .shf u, .ldi u, .ld u, .st u,
      .ld2 u, .setp u, .maxi u, .mini u, .rep u, .repk u, .repr u, .brk u, .br u, .call u, .ret u, .reti u, .swi u, .gather u, .scatter u,
      .waitg u, .jend u],
    let U := s.dev.unit u
    (U.running = false → exec c s = s.becomes s.dev) ∧
    (U.running = true → 8192 ≤ U.pc → exec c s = s.becomes (s.dev.fenTrap u 4)) ∧
    (U.running = true → U.pc < 8192 → fenOpcodes.contains (bits (s.dev.fenWord u) 26 6) = false →
      exec c s = s.becomes (s.dev.fenTrap u 1))) ∧
  (∀ (d : Dev) (n op : Nat) (f : Dev → Nat → Nat → Dev × FenFlow), (d.unit n).running = true → (d.unit n).pc < 8192 →
    fenOpcodes.contains (bits (d.fenWord n) 26 6) = true → bits (d.fenWord n) 26 6 ≠ op → d.fenRow n op f = d) ∧
  (∀ (d : Dev) (n cause : Nat),
    let U := d.unit n
    let pc := U.pc % 8192
    let c := if U.level = 3 then 8 else cause
    let e := ((((d.set F.FEN_TRAP_CAUSE n c).set F.FEN_TRAP_LEVEL n U.level).set F.FEN_TRAP_PC n pc).bump C.FEN_TRAPS (d.engineOf n)).raise 769
      [d.engineOf n, U.entry.getD 0, c, pc]
    (U.level < 2 → d.fenTrap n cause = e.setUnit n
      (FenUnit.goto { U with trapCause := U.trapCause.set 0 c, trapPc := U.trapPc.set 0 pc, level := 2, under := U.level } 8)) ∧
    (U.level = 2 → d.fenTrap n cause = e.setUnit n
      (FenUnit.goto { U with trapCause := U.trapCause.set 1 c, trapPc := U.trapPc.set 1 pc, level := 3 } 12)) ∧
    (U.level = 3 → d.fenTrap n cause =
      (e.setUnit n { U with trapCause := U.trapCause.set 1 8, trapPc := U.trapPc.set 1 pc }).trapJob n)) ∧
  (∀ (d : Dev) (n m : Nat) (x : FenUnit), (d.setUnit n x).unit m = if m = n then x else d.unit m) ∧
  (∀ (u : Fin 272) (s : State), s.dev.FenRuns u 0x28 → exec (.swi u) s = s.becomes (s.dev.fenTrap u 7))

/-- O48. On a unit that runs a job and holds the instruction at its place: NOP only completes. MAC and MAC2 add their 64-bit products, or
subtract them with SUB; an addition that keeps the 72-bit range stores its sum, one that leaves it stores the bound, holds the
accumulator at its depth, sets GUARD_OVF and counts, raising only as FEN_ENG_STATUS.GUARD_OVF becomes 1; a held accumulator
ignores it (R433). MAC2 traps ILLEGAL for one accumulator twice or an odd register, with no other effect (R434). CLR clears the
accumulators of MASK that are not held. WB delivers bits s + 31 … s rounded convergently or cut, saturated, WB_SAT recording it
(R432); beyond s = 40 the value before saturation is open. MFS and MTS read and write special registers, MFS of an unlisted one
an open value (logged). ALU adds and subtracts saturating, takes logic, magnitude, negation, minimum and maximum, and traps on
another FN; the negative of 0x8000_0000 is open. SHF shifts with saturation, zeros or the sign, and traps on FN 3. LDI loads the
low half sign-extended or the high half. Each then completes (the rules at the end of an iteration). -/
def Obligations.FenArithmeticActs : Prop :=
  (∀ (u : Fin 272) (s : State), s.dev.FenRuns u 0x00 → exec (.fenNop u) s = s.becomes (s.dev.onUnit u FenUnit.advance)) ∧
  (∀ (u : Fin 272) (s : State), s.dev.FenRuns u 0x02 →
    let w := s.dev.fenWord u
    exec (.mac u) s = s.becomes ((s.dev.accumulateIn u (bits w 24 2)
      ((s.dev.unit u).product (bits w 16 6) (bits w 10 6) (bits w 0 1))).onUnit u FenUnit.advance)) ∧
  (∀ (u : Fin 272) (s : State), s.dev.FenRuns u 0x01 →
    let w := s.dev.fenWord u
    let U := s.dev.unit u
    let (a, b, g, h) := (bits w 24 2, bits w 22 2, bits w 16 6, bits w 10 6)
    (a = b ∨ g % 2 = 1 ∨ h % 2 = 1 → exec (.mac2 u) s = s.becomes (s.dev.fenTrap u 1)) ∧
    (a ≠ b → g % 2 = 0 → h % 2 = 0 → exec (.mac2 u) s = s.becomes (((s.dev.accumulateIn u a (U.product g h (bits w 0 1))).accumulateIn u b
      (U.product (g + 1) (h + 1) (bits w 0 1))).onUnit u FenUnit.advance))) ∧
  (∀ (U : FenUnit) (x y sub : Nat), U.product x y sub = (if sub = 1 then -1 else 1) * (toSigned 32 (U.g.getD x 0) * toSigned 32 (U.g.getD y 0))) ∧
  (∀ (d : Dev) (n k : Nat) (p : Int),
    let U := d.unit n
    let t := U.bank.acc.getD k 0 + p
    (U.bank.hold.getD k 0 ≠ 0 → d.accumulateIn n k p = d) ∧
    (U.bank.hold.getD k 0 = 0 → -(2 ^ 71) ≤ t → t < 2 ^ 71 →
      d.accumulateIn n k p = d.setUnit n (U.onBank fun b => { b with acc := b.acc.set k t })) ∧
    (U.bank.hold.getD k 0 = 0 → (t < -(2 ^ 71) ∨ 2 ^ 71 ≤ t) →
      let v : Int := if t < 0 then -(2 ^ 71) else 2 ^ 71 - 1
      let e := (d.setUnit n (FenUnit.onBank { U with guardOvf := 1 } fun b =>
        { b with acc := b.acc.set k v, hold := b.hold.set k (if U.level = 3 ∧ b.depth = 0 then 10 else 1 + b.depth) })).bump C.FEN_GUARD_OVF_CNT (d.engineOf n)
      d.accumulateIn n k p = if e.get F.FEN_ENG_STATUS_GUARD_OVF n = 1 then e
        else (e.set F.FEN_ENG_STATUS_GUARD_OVF n 1).raise 768 [d.engineOf n, U.entry.getD 0, U.pc])) ∧
  (∀ (u : Fin 272) (s : State), s.dev.FenRuns u 0x03 →
    exec (.clr u) s = s.becomes ((s.dev.setUnit u ((s.dev.unit u).onBank fun b =>
      ((List.range 4).filter (bit (s.dev.fenWord u))).foldl (fun b k => if b.hold.getD k 0 ≠ 0 then b else { b with acc := b.acc.set k 0 })
        b)).onUnit u FenUnit.advance)) ∧
  (∀ (u : Fin 272) (s : State), s.dev.FenRuns u 0x04 →
    let w := s.dev.fenWord u
    let U := s.dev.unit u
    let a : Int := U.bank.acc.getD (bits w 18 2) 0
    let n := bits w 8 6
    let out := fun (d : Dev) (q : Int) =>
      let v := if q < -(2 ^ 31) then -(2 ^ 31) else if 2 ^ 31 ≤ q then 2 ^ 31 - 1 else q
      let R := U.setReg (bits w 20 6) (ofSigned 32 v)
      s.becomes ((d.setUnit u (if v = q then R else { R with wbSat := 1 })).onUnit u FenUnit.advance)
    (n ≤ 40 → bit w 0 = true → exec (.wb u) s = out s.dev (a / (2 ^ n : Nat))) ∧
    (n ≤ 40 → bit w 0 = false → exec (.wb u) s = out s.dev (divEven a (2 ^ n))) ∧
    (40 < n → exec (.wb u) s = out s.dev.fresh.2 (toSigned 72 s.dev.fresh.1))) ∧
  (∀ (u : Fin 272) (s : State), s.dev.FenRuns u 0x05 →
    let w := s.dev.fenWord u
    let U := s.dev.unit u
    (∀ v, U.special (bits w 0 12) = some v →
      exec (.mfs u) s = s.becomes ((s.dev.setUnit u (U.setReg (bits w 20 6) v)).onUnit u FenUnit.advance)) ∧
    (U.special (bits w 0 12) = none →
      exec (.mfs u) s = s.becomes ((s.dev.fresh.2.setUnit u (U.setReg (bits w 20 6) s.dev.fresh.1)).onUnit u FenUnit.advance))) ∧
  (∀ (u : Fin 272) (s : State), s.dev.FenRuns u 0x06 →
    let w := s.dev.fenWord u
    let U := s.dev.unit u
    exec (.mts u) s = s.becomes ((s.dev.setUnit u (U.setSpecial (bits w 0 12) (U.reg (bits w 14 6)))).onUnit u FenUnit.advance)) ∧
  (∀ (u : Fin 272) (s : State), s.dev.FenRuns u 0x08 →
    let w := s.dev.fenWord u
    let U := s.dev.unit u
    let (x, y) := (U.sreg (bits w 14 6), U.sreg (bits w 8 6))
    let (a, b) := (U.reg (bits w 14 6), U.reg (bits w 8 6))
    let sat := fun v : Int => if v < -(2 ^ 31) then -(2 ^ 31) else if 2 ^ 31 ≤ v then 2 ^ 31 - 1 else v
    let gives := fun v => exec (.alu u) s = s.becomes ((s.dev.setUnit u (U.setReg (bits w 20 6) v)).onUnit u FenUnit.advance)
    let opens := exec (.alu u) s = s.becomes ((s.dev.fresh.2.setUnit u (U.setReg (bits w 20 6) s.dev.fresh.1)).onUnit u FenUnit.advance)
    (bits w 0 8 = 0 → gives (ofSigned 32 (sat (x + y)))) ∧ (bits w 0 8 = 1 → gives (ofSigned 32 (sat (x - y)))) ∧
    (bits w 0 8 = 2 → gives (a &&& b)) ∧ (bits w 0 8 = 3 → gives (a ||| b)) ∧ (bits w 0 8 = 4 → gives (a ^^^ b)) ∧
    (bits w 0 8 = 5 → x ≠ -(2 ^ 31) → gives (ofSigned 32 (if x < 0 then -x else x))) ∧
    (bits w 0 8 = 6 → x ≠ -(2 ^ 31) → gives (ofSigned 32 (-x))) ∧
    (bits w 0 8 = 5 ∨ bits w 0 8 = 6 → x = -(2 ^ 31) → opens) ∧
    (bits w 0 8 = 7 → gives (ofSigned 32 (min x y))) ∧ (bits w 0 8 = 8 → gives (ofSigned 32 (max x y))) ∧
    (8 < bits w 0 8 → exec (.alu u) s = s.becomes (s.dev.fenTrap u 1))) ∧
  (∀ (u : Fin 272) (s : State), s.dev.FenRuns u 0x09 →
    let w := s.dev.fenWord u
    let U := s.dev.unit u
    let (x, k) := (U.sreg (bits w 14 6), bits w 8 6)
    let gives := fun v => exec (.shf u) s = s.becomes ((s.dev.setUnit u (U.setReg (bits w 20 6) v)).onUnit u FenUnit.advance)
    (bits w 0 2 = 0 → gives (ofSigned 32 (if x * (2 ^ k : Nat) < -(2 ^ 31) then -(2 ^ 31) else if 2 ^ 31 ≤ x * (2 ^ k : Nat) then 2 ^ 31 - 1
      else x * (2 ^ k : Nat)))) ∧
    (bits w 0 2 = 1 → gives (U.reg (bits w 14 6) / 2 ^ k)) ∧
    (bits w 0 2 = 2 → gives (ofSigned 32 (x / (2 ^ k : Nat)))) ∧
    (bits w 0 2 = 3 → exec (.shf u) s = s.becomes (s.dev.fenTrap u 1))) ∧
  (∀ (u : Fin 272) (s : State), s.dev.FenRuns u 0x0A →
    let w := s.dev.fenWord u
    let U := s.dev.unit u
    let gives := fun v => exec (.ldi u) s = s.becomes ((s.dev.setUnit u (U.setReg (bits w 20 6) v)).onUnit u FenUnit.advance)
    (bit w 16 = false → gives (ofSigned 32 (toSigned 16 (bits w 0 16)))) ∧
    (bit w 16 = true → gives (bits w 0 16 * 65536 + U.reg (bits w 20 6) % 65536)))

/-- O49. An access through a pointer first folds an OFFSET at or above a SPAN other than 0 to OFFSET mod SPAN, counting the fold and
raising it once a second for each engine; it then uses ORIGIN + OFFSET and steps by none, STEP_A or STEP_B, modulo 16,384 or
SPAN (R437, R438; a fold is counted once for each pointer that an LD2 folds). A STEP of 3 traps ILLEGAL, as does an LD2 that
names one pointer twice or an odd register; an address of 16,384 or above traps DM_RANGE (R434, R437). LD and LD2 load, ST
stores the one word at that address. SETP writes one field of a pointer. MAXI and MINI keep the first value that exceeds Gm, or
falls below it, and LOOP_ITER of the innermost block, or 0; an equal value changes neither (R439). Where Gm and Gi are one
register the rule states no result and it takes an open value. Each then completes. -/
def Obligations.FenPointersAct : Prop :=
  (∀ (u : Fin 272) (s : State), s.dev.FenRuns u 0x10 →
    let w := s.dev.fenWord u
    let (g, i, t) := (bits w 20 6, bits w 17 3, bits w 15 2)
    let a := ((s.dev.unit u).ptr i).address
    (t = 3 → exec (.ld u) s = s.becomes (s.dev.fenTrap u 1)) ∧
    (t ≠ 3 → 16384 ≤ a → exec (.ld u) s = s.becomes (s.dev.fenTrap u 3)) ∧
    (t ≠ 3 → a < 16384 → exec (.ld u) s = s.becomes (((s.dev.countFold u i).onUnit u fun U =>
      { U.setReg g (U.data a) with ptrs := U.ptrs.modify i fun p => p.folded.step t }).onUnit u FenUnit.advance))) ∧
  (∀ (u : Fin 272) (s : State), s.dev.FenRuns u 0x11 →
    let w := s.dev.fenWord u
    let (g, i, t) := (bits w 20 6, bits w 17 3, bits w 15 2)
    let a := ((s.dev.unit u).ptr i).address
    (t = 3 → exec (.st u) s = s.becomes (s.dev.fenTrap u 1)) ∧
    (t ≠ 3 → 16384 ≤ a → exec (.st u) s = s.becomes (s.dev.fenTrap u 3)) ∧
    (t ≠ 3 → a < 16384 → exec (.st u) s = s.becomes (((s.dev.countFold u i).onUnit u fun U =>
      { U.setData a (U.reg g) with ptrs := U.ptrs.modify i fun p => p.folded.step t }).onUnit u FenUnit.advance))) ∧
  (∀ (u : Fin 272) (s : State), s.dev.FenRuns u 0x12 →
    let w := s.dev.fenWord u
    let (g, i, j, t) := (bits w 20 6, bits w 17 3, bits w 14 3, bits w 12 2)
    let a := ((s.dev.unit u).ptr i).address
    let b := ((s.dev.unit u).ptr j).address
    (t = 3 ∨ g % 2 = 1 ∨ i = j → exec (.ld2 u) s = s.becomes (s.dev.fenTrap u 1)) ∧
    (t ≠ 3 → g % 2 = 0 → i ≠ j → (16384 ≤ a ∨ 16384 ≤ b) → exec (.ld2 u) s = s.becomes (s.dev.fenTrap u 3)) ∧
    (t ≠ 3 → g % 2 = 0 → i ≠ j → a < 16384 → b < 16384 →
      exec (.ld2 u) s = s.becomes ((((s.dev.countFold u i).countFold u j).onUnit u fun U =>
        { (U.setReg g (U.data a)).setReg (g + 1) (U.data b) with
          ptrs := (U.ptrs.modify i fun p => p.folded.step t).modify j fun p => p.folded.step t }).onUnit u FenUnit.advance))) ∧
  (∀ (p : FenPtr) (t : Nat),
    let m := if p.span = 0 then 16384 else p.span
    p.address = p.origin + (if p.span ≠ 0 ∧ p.span ≤ p.offset then p.offset % p.span else p.offset) ∧
    (t = 0 ∨ t = 1 ∨ t = 2 → ((p.step t).offset : Int) =
      (p.offset + if t = 1 then toSigned 12 p.stepA else if t = 2 then toSigned 12 p.stepB else 0) % m ∧
      p.step t = { p with offset := (p.step t).offset })) ∧
  (∀ (d : Dev) (n i : Nat),
    let p := (d.unit n).ptr i
    let l := d.engineOf n
    let sec := d.clock.core / 1000000000 + 1
    ((p.span = 0 ∨ p.offset < p.span) → d.countFold n i = d) ∧
    (p.span ≠ 0 → p.span ≤ p.offset → (d.bump C.FEN_FOLDS l).hget H.fenFoldSecond l = sec → d.countFold n i = d.bump C.FEN_FOLDS l) ∧
    (p.span ≠ 0 → p.span ≤ p.offset → (d.bump C.FEN_FOLDS l).hget H.fenFoldSecond l ≠ sec →
      d.countFold n i = ((d.bump C.FEN_FOLDS l).hset H.fenFoldSecond l sec).raise 772 [l, i, p.offset % p.span])) ∧
  (∀ (u : Fin 272) (s : State), s.dev.FenRuns u 0x13 →
    let w := s.dev.fenWord u
    let U := s.dev.unit u
    let v := U.reg (bits w 14 6)
    let put := fun p : FenPtr =>
      if bits w 21 2 = 0 then { p with origin := v % 2 ^ 14 } else if bits w 21 2 = 1 then { p with span := v % 2 ^ 15 }
      else if bits w 21 2 = 2 then { p with offset := v % 2 ^ 14 } else { p with stepA := v % 2 ^ 12, stepB := bits v 16 12 }
    exec (.setp u) s = s.becomes ((s.dev.setUnit u { U with ptrs := U.ptrs.modify (bits w 23 3) put }).onUnit u FenUnit.advance)) ∧
  (∀ (u : Fin 272) (s : State),
    let w := s.dev.fenWord u
    let U := s.dev.unit u
    let (m, i) := (bits w 20 6, bits w 14 6)
    let x := U.sreg (bits w 8 6)
    let v := if bit w 0 then (if x = -(2 ^ 31) then 2 ^ 31 - 1 else if x < 0 then -x else x) else x
    let index := if U.bank.depth = 0 then 0 else U.bank.iter.getD (U.bank.depth - 1) 0
    let kept := s.becomes (s.dev.onUnit u FenUnit.advance)
    let found := s.becomes ((s.dev.setUnit u ((U.setReg m (ofSigned 32 v)).setReg i index)).onUnit u FenUnit.advance)
    let opens := s.becomes ((s.dev.fresh.2.setUnit u (U.setReg m s.dev.fresh.1)).onUnit u FenUnit.advance)
    (s.dev.FenRuns u 0x18 → v ≤ U.sreg m → exec (.maxi u) s = kept) ∧
    (s.dev.FenRuns u 0x18 → U.sreg m < v → m ≠ i → exec (.maxi u) s = found) ∧
    (s.dev.FenRuns u 0x18 → U.sreg m < v → m = i → exec (.maxi u) s = opens) ∧
    (s.dev.FenRuns u 0x19 → U.sreg m ≤ v → exec (.mini u) s = kept) ∧
    (s.dev.FenRuns u 0x19 → v < U.sreg m → m ≠ i → exec (.mini u) s = found) ∧
    (s.dev.FenRuns u 0x19 → v < U.sreg m → m = i → exec (.mini u) s = opens))

/-- O50. An instruction that completes is followed by the next one, unless it is at LOOP_END of the innermost block: then the window
shifts if the block's LOOP_SHF bit is set, and the block runs again from LOOP_BEG with LOOP_CNT less 1 and LOOP_ITER more 1, or
it ends, and the block around it is decided (R435, R436). The shift moves G48–G63 by one and no other. REP, REPK and REPR trap
ILLEGAL for LEN 0 and NEST at depth 3, continue after the block for count 0, and else set the repeat state of their depth; REPR
sets its LOOP_SHF bit, the others clear it. BRK ends the innermost block. BR goes to its target when its condition holds, ending
the blocks that exclude it; CALL saves the next place in LR and ends no block; RET goes to LR. RETI returns to the interrupted
level, ending the holds of the bank it leaves, and the jobs that wait are dispatched; from levels 2 and 3 at TRAP_PC, and at
level 0 it only completes (log entry 81, the model's choice). WAITG n waits while more than n operations are outstanding. JEND
counts the job as done at its own level and starts the next; at levels 2 and 3 it abandons the job beneath, counted as trapped
(R447). -/
def Obligations.FenControlFlowActs : Prop :=
  (∀ (U : FenUnit) (f pc : Nat),
    let b := U.bank
    let e := b.depth - 1
    let V := if bit b.shf e then U.shift else U
    U.advance = FenUnit.complete 3 U.pc U ∧
    (b.depth = 0 ∨ b.fin.getD e 0 ≠ pc → U.complete (f + 1) pc = U.goto (pc + 1)) ∧
    (0 < b.depth → b.fin.getD e 0 = pc → 0 < b.cnt.getD e 0 → U.complete (f + 1) pc =
      (V.onBank fun b => { b with cnt := b.cnt.modify e (· - 1), iter := b.iter.modify e fun i => (i + 1) % 65536 }).goto (b.beg.getD e 0)) ∧
    (0 < b.depth → b.fin.getD e 0 = pc → b.cnt.getD e 0 = 0 → U.complete (f + 1) pc = (V.onBank FenBank.endBlock).complete f pc)) ∧
  (∀ U : FenUnit, U.g.length = 64 → U.shift.reg 48 = U.reg 63 ∧ (∀ i, 48 < i → i < 64 → U.shift.reg i = U.reg (i - 1)) ∧
    ∀ i, i < 48 → U.shift.reg i = U.reg i) ∧
  (∀ (u : Fin 272) (s : State),
    let w := s.dev.fenWord u
    let U := s.dev.unit u
    let e := U.bank.depth
    let len := bits w 0 12
    let n := U.reg (bits w 20 6) % 65536
    let sets := fun (count : Nat) (shf : Bool) => s.becomes ((s.dev.setUnit u (U.onBank fun b =>
      { b with beg := b.beg.set e ((U.pc + 1) % 8192), fin := b.fin.set e ((U.pc + len) % 8192), iter := b.iter.set e 0,
               cnt := b.cnt.set e (count - 1), depth := e + 1,
               shf := if shf then b.shf ||| 2 ^ e else b.shf - (if bit b.shf e then 2 ^ e else 0) })).onUnit u
                 fun V => V.goto (U.pc + 1))
    let skips := s.becomes ((s.dev.setUnit u U).onUnit u fun V => V.goto (U.pc + 1 + len))
    ∀ p ∈ [(Instr.rep u, 0x20, n, false), (.repk u, 0x21, bits w 12 14, false), (.repr u, 0x22, n, true)], s.dev.FenRuns u p.2.1 →
      (len = 0 → exec p.1 s = s.becomes (s.dev.fenTrap u 1)) ∧
      (0 < len → 3 ≤ e → exec p.1 s = s.becomes (s.dev.fenTrap u 2)) ∧
      (0 < len → e < 3 → p.2.2.1 = 0 → exec p.1 s = skips) ∧
      (0 < len → e < 3 → 0 < p.2.2.1 → exec p.1 s = sets p.2.2.1 p.2.2.2)) ∧
  (∀ (u : Fin 272) (s : State), s.dev.FenRuns u 0x23 →
    let U := s.dev.unit u
    let e := U.bank.depth - 1
    let last := U.bank.fin.getD e 0
    (U.bank.depth = 0 → exec (.brk u) s = s.becomes ((s.dev.setUnit u U).onUnit u FenUnit.advance)) ∧
    (0 < U.bank.depth → last ≠ U.pc →
      exec (.brk u) s = s.becomes ((s.dev.setUnit u (U.onBank FenBank.endBlock)).onUnit u fun V => V.goto (last + 1))) ∧
    (0 < U.bank.depth → last = U.pc → exec (.brk u) s = s.becomes (s.dev.setUnit u
      (((if bit U.bank.shf e then U.shift else U).onBank FenBank.endBlock).complete 2 U.pc)))) ∧
  (∀ (u : Fin 272) (s : State), s.dev.FenRuns u 0x24 →
    let w := s.dev.fenWord u
    let U := s.dev.unit u
    let x := U.sreg (bits w 16 6)
    let c := bits w 22 4
    let taken := c = 0 ∨ c = 1 ∧ x = 0 ∨ c = 2 ∧ x ≠ 0 ∨ c = 3 ∧ x < 0 ∨ c = 4 ∧ 0 ≤ x
    (4 < c → exec (.br u) s = s.becomes (s.dev.fenTrap u 1)) ∧
    (taken → exec (.br u) s = s.becomes ((s.dev.setUnit u (U.endBlocks 3 (bits w 0 13))).onUnit u fun V => V.goto (bits w 0 13))) ∧
    (c ≤ 4 → ¬taken → exec (.br u) s = s.becomes ((s.dev.setUnit u U).onUnit u FenUnit.advance))) ∧
  (∀ (U : FenUnit) (f t : Nat),
    let b := U.bank
    let within := b.beg.getD (b.depth - 1) 0 ≤ t ∧ t ≤ b.fin.getD (b.depth - 1) 0
    (b.depth = 0 ∨ within → U.endBlocks (f + 1) t = U) ∧
    (0 < b.depth → ¬within → U.endBlocks (f + 1) t = (U.onBank FenBank.endBlock).endBlocks f t)) ∧
  (∀ (u : Fin 272) (s : State), s.dev.FenRuns u 0x25 →
    let U := s.dev.unit u
    exec (.call u) s = s.becomes ((s.dev.setUnit u (U.onBank fun b => { b with lr := (U.pc + 1) % 8192 })).onUnit u
      fun V => V.goto (bits (s.dev.fenWord u) 0 13))) ∧
  (∀ (u : Fin 272) (s : State), s.dev.FenRuns u 0x26 →
    let U := s.dev.unit u
    exec (.ret u) s = s.becomes ((s.dev.setUnit u U).onUnit u fun V => V.goto U.bank.lr)) ∧
  (∀ (u : Fin 272) (s : State), s.dev.FenRuns u 0x27 →
    let U := s.dev.unit u
    (U.level = 0 → exec (.reti u) s = s.becomes (s.dev.onUnit u FenUnit.advance)) ∧
    (U.level = 1 → exec (.reti u) s = s.becomes ((s.dev.setUnit u { U.freeHolds 1 with level := 0 }).dispatch u)) ∧
    (U.level = 2 → exec (.reti u) s = s.becomes
      ((s.dev.setUnit u (FenUnit.goto { U.freeHolds 2 with level := U.under } (U.trapPc.getD 0 0))).dispatch u)) ∧
    let V := U.onBank fun b => { b with hold := b.hold.map fun h => if h = 10 then 0 else h }
    (U.level = 3 → exec (.reti u) s = s.becomes (s.dev.setUnit u (FenUnit.goto { V with level := 2 } (V.trapPc.getD 1 0))))) ∧
  (∀ (u : Fin 272) (s : State), s.dev.FenRuns u 0x32 →
    let U := s.dev.unit u
    let n := bits (s.dev.fenWord u) 0 2
    (n < U.ops.length → exec (.waitg u) s = s.becomes s.dev) ∧
    (U.ops.length ≤ n → exec (.waitg u) s = s.becomes ((s.dev.setUnit u U).onUnit u FenUnit.advance))) ∧
  (∀ (u : Fin 272) (s : State), s.dev.FenRuns u 0x3F →
    let U := s.dev.unit u
    let l := s.dev.engineOf u
    (U.level = 0 → exec (.jend u) s = s.becomes (((s.dev.bump C.FEN_JOBS_DONE l).setUnit u (U.leave 0)).dispatch u)) ∧
    (U.level = 1 → exec (.jend u) s = s.becomes
      ((((s.dev.mixDone l (U.entry.getD 64)).bump C.FEN_JOBS_DONE ((s.dev.mixDone l (U.entry.getD 64)).engineOf u)).setUnit u
        (U.leave 1)).dispatch u)) ∧
    (2 ≤ U.level → exec (.jend u) s = s.becomes (s.dev.trapJob u))) ∧
  (∀ (d : Dev) (n : Nat),
    let U := d.unit n
    let e := match U.entry with
      | some k => if U.base = 1 then d.hset H.jobLost (jobIndex (d.engineOf n) k) 1 else d
      | none => d
    d.trapJob n = ((e.bump C.FEN_JOBS_TRAPPED (e.engineOf n)).abandonJob n (e.unit n).base).dispatch n)

/-- O51. GATHER and SCATTER put a descriptor that can have effect among the outstanding operations; the fifth waits, a descriptor at or
reaching 16,384 traps DM_RANGE, and a bad one traps GATHER (R442). An operation that completes leaves the list; a GATHER's words
are then in data memory, a SCATTER's samples in the channel store. A BACKGROUND job is dispatched in turn on a unit that runs
nothing and has nothing due, with P7 from its argument (R443). A swap moves an engine with program, data and registers to an
idle spare while its unit is idle at level 0 with 20 µs left, and is raised with kind 0; otherwise it waits (R426). A unit that
fails and serves no engine is retired; one that serves an engine has its jobs counted as overrun, its filter and loudness state
lost, and its engine moved to a spare without a copy, or left with VALID 0 (R427); in that last case it is not counted as
retired, as the chapter's worked example has it (log entry 345). The firmware's reload fills program memory and ends the
overruns. HALT is held and, cleared, lets the unit start what waits; a 1 clears GUARD_OVF; the window writes program memory only
while HALTED, and else raises FEN_PM_REFUSED, and data memory at any time (R449). -/
def Obligations.FenUnitsActs : Prop :=
  (∀ (u : Fin 272) (s : State),
    let w := s.dev.fenWord u
    let U := s.dev.unit u
    let i := bits w 23 3
    let a := (U.ptr i).address
    ∀ p ∈ [(Instr.gather u, 0x30, false), (.scatter u, 0x31, true)], s.dev.FenRuns u p.2.1 →
      let x := U.descriptor a p.2.2
      (4 ≤ U.ops.length → exec p.1 s = s.becomes s.dev) ∧
      (U.ops.length < 4 → 16384 ≤ a + 3 → exec p.1 s = s.becomes (s.dev.fenTrap u 3)) ∧
      (U.ops.length < 4 → a + 3 < 16384 → x.wellFormed = false → exec p.1 s = s.becomes (s.dev.fenTrap u 5)) ∧
      (U.ops.length < 4 → a + 3 < 16384 → x.wellFormed = true → 16384 < x.dm + s.dev.descWords x →
        exec p.1 s = s.becomes (s.dev.fenTrap u 3)) ∧
      (U.ops.length < 4 → a + 3 < 16384 → x.wellFormed = true → x.dm + s.dev.descWords x ≤ 16384 →
        exec p.1 s = s.becomes (((s.dev.countFold u i).onUnit u fun V => { V.stepPtr i 0 with ops := V.ops ++ [x] }).onUnit u
          FenUnit.advance))) ∧
  (∀ (U : FenUnit) (a : Nat) (sc : Bool),
    U.descriptor a sc = ⟨sc, U.data a / 2 ^ 28 % 16, U.data a % 65536, U.data (a + 1) % 65536, U.data (a + 1) / 65536 % 65536,
      U.data (a + 2) % 16384, U.data (a + 3) % 2048, U.entry.getD 0⟩) ∧
  (∀ (u : Fin 272) (i : Fin 4) (words : List Word) (s : State),
    let d := s.dev.onUnit u fun U => { U with ops := U.ops.eraseIdx i.val }
    let ws := words.map BitVec.toNat
    ((s.dev.unit u).ops[i.val]? = none → exec (.gatherComplete u i words) s = s.becomes s.dev) ∧
    (∀ x, (s.dev.unit u).ops[i.val]? = some x → x.scatter = true →
      exec (.gatherComplete u i words) s = s.becomes (d.scattered u x ws)) ∧
    (∀ x, (s.dev.unit u).ops[i.val]? = some x → x.scatter = false →
      (x.kind = 3 → exec (.gatherComplete u i words) s = s.becomes ((d.fifoOut x.first x.count).2.onUnit u fun U =>
        U.fill x.dm ((d.fifoOut x.first x.count).2.gathered x (d.fifoOut x.first x.count).1))) ∧
      (x.kind = 5 → exec (.gatherComplete u i words) s = s.becomes (d.onUnit u fun U =>
        U.fill x.dm (d.gathered x ((d.lineWords x.first x.line).getD ws)))) ∧
      (x.kind ≠ 3 → x.kind ≠ 5 → exec (.gatherComplete u i words) s = s.becomes (d.onUnit u fun U =>
        U.fill x.dm (d.gathered x ws))))) ∧
  (∀ (l : Fin 256) (s : State),
    let n := s.dev.unitFor l
    let U := s.dev.unit n
    let ready := s.dev.fenMayStart n = true ∧ U.running = false ∧ U.frameDue = [] ∧ U.blockDue = []
    let turn := ((s.dev.entriesOf l 2).filter (U.nextBg ≤ ·) ++ s.dev.entriesOf l 2).head?
    (¬ready → exec (.backgroundDispatch l) s = s.becomes s.dev) ∧
    (turn = none → exec (.backgroundDispatch l) s = s.becomes s.dev) ∧
    (∀ k, ready → turn = some k → exec (.backgroundDispatch l) s = s.becomes
      (((s.dev.bump C.FEN_JOBS_DUE l).setUnit n { U with nextBg := (k + 1) % 64 }).startJob n 0 k))) ∧
  (∀ (d : Dev) (n k : Nat),
    let j := jobIndex (d.engineOf n) k
    d.startJob n 0 k = d.onUnit n fun U =>
      FenUnit.goto { U with level := 0, ptrs := U.ptrs.set 7 ⟨d.get F.FEN_JOB_ARG_ARG j, 0, 0, 1, 0⟩, job0 := some k } (d.get F.FEN_JOB_ENTRY j)) ∧
  (∀ (l : Fin 256) (dst : Fin 272) (s : State),
    let n := s.dev.unitFor l
    let U := s.dev.unit n
    let ready := s.dev.get F.FEN_MAP_VALID l ≠ 0 ∧ s.dev.get F.FEN_ENG_STATUS_USE dst = 0 ∧ U.running = false ∧ U.ops = [] ∧ s.dev.swapTime = true
    (¬ready → exec (.swap l dst) s = s.becomes s.dev) ∧
    (ready → exec (.swap l dst) s = s.becomes
      (((s.dev.setUnit dst U).onUnit n fun V => { V with job1 := none, blockDue := [], frameDue := [] }).remap l n dst 0 0))) ∧
  (∀ (d : Dev) (l n dst use kind : Nat),
    let e := ((((d.set F.FEN_MAP_PHYS l dst).set F.FEN_ENG_STATUS_LOGICAL dst l).set F.FEN_ENG_STATUS_USE dst 1).set F.FEN_ENG_STATUS_LOGICAL n
      0x1FF).set F.FEN_ENG_STATUS_USE n use
    d.remap l n dst use kind = (e.raise 771 [l, n, dst, kind]).poolCheck d.idleUnits.length l) ∧
  (∀ (u : Fin 272) (mem : Bool) (spare : Fin 272) (ports : List (Fin 24)) (slots : List (Fin 16384)) (s : State),
    let l := s.dev.engineOf u
    s.dev.poolUnit 0 ≠ u → s.dev.get F.FEN_ENG_STATUS_USE u ≠ 3 → (256 ≤ l ∨ s.dev.get F.FEN_MAP_VALID l ≠ 0) →
    let e := if mem && (s.dev.unit u).running then s.dev.fenTrap u 6 else s.dev
    let f := (e.dropJobs u).each (ports.map Fin.val) fun d p => d.restartRatio p
    let g := f.each (slots.map Fin.val) fun d j => d.resetLoudness false j
    (256 ≤ l → exec (.fenUnitFailure u mem spare ports slots) s = s.becomes (s.dev.retireFen u).healthReview) ∧
    (l < 256 → g.idleUnits.contains spare.val = true →
      exec (.fenUnitFailure u mem spare ports slots) s = s.becomes (g.takeSpare l u spare).healthReview) ∧
    (l < 256 → g.idleUnits = [] →
      exec (.fenUnitFailure u mem spare ports slots) s = s.becomes (g.set F.FEN_MAP_VALID l 0).healthReview)) ∧
  (∀ (l : Fin 256) (image : List Word) (s : State), s.dev.hget H.fenReload l ≠ 0 → s.dev.holder 13 = 7 → s.dev.lathRuns = true →
    exec (.fenReloadDone l image) s = s.becomes
      ((s.dev.hset H.fenReload l 0).onUnit (s.dev.unitFor l) fun U => U.load (image.map BitVec.toNat))) ∧
  (∀ (m : Fin 8) (u : Fin 272) (v : Word) (s : State), s.dev.Reaches m (fenOffset u 0) →
    exec (.haltWrite m u v) s = s.becomes
      ((((s.dev.transaction m).set F.FEN_ENG_CTRL_HALT u (v.toNat % 2)).dispatch u).written m (fenOffset u 0) v.toNat)) ∧
  (∀ (m : Fin 8) (u : Fin 272) (v : Word) (s : State), s.dev.Reaches m (fenOffset u 4) →
    exec (.guardOvfClear m u v) s = s.becomes
      ((if bit v.toNat 31 then (s.dev.transaction m).set F.FEN_ENG_STATUS_GUARD_OVF u 0 else s.dev.transaction m).written m
        (fenOffset u 4) v.toNat)) ∧
  (∀ (m : Fin 8) (u : Fin 272) (a : Fin 4096) (v : Word) (s : State), s.dev.Reaches m (fenOffset u (0x3800 + 4 * a)) →
    let d := s.dev.transaction m
    let page := s.dev.get F.FEN_PAGE_PAGE u
    let done := fun d : Dev => s.becomes (d.written m (fenOffset u (0x3800 + 4 * a)) v.toNat)
    (page < 2 → d.halted u = true → exec (.pmWindowWrite m u a v) s = done (d.onUnit u fun U => U.setProgram (4096 * page + a) v.toNat)) ∧
    (page < 2 → d.halted u = false → exec (.pmWindowWrite m u a v) s = done (d.raise 774 [u, 4096 * page + a])) ∧
    (2 ≤ page → exec (.pmWindowWrite m u a v) s = done (d.onUnit u fun U => U.setData (4096 * (page - 2) + a) v.toNat)))

/-- O52. Four superframes of equal SEQ that follow the last are taken into the stream, from FIRST on where a loss stood before; one that
is missing is a loss (R458). Bytes of 0 between frames are passed over, a frame whose delimiter's CRC-8 is right is extracted
once it is complete, and a wrong byte or CRC drops the rest. A frame that fails a check is counted by the first it fails, a
second copy in FR_DUP, and nothing else follows (R459, R461); on a link that is not UP nothing arrives. A KEEPALIVE, whichever
copy, keeps its link; the first copy says what the partner is (R460, R473, R455). A HELLO with a new salt starts the partner's
numbering again (R461). TIME gives delay and offset as R462 has them. A KEEPALIVE is sent 100 µs after the last and a TIME frame
1 ms after, and 1 ms without a KEEPALIVE is judged at its end. CONTROL hands its packet to port P3. -/
def Obligations.CausewayFramesAct : Prop :=
  (∀ (k : Fin 2) (s : State),
    let d := s.dev.onCsw fun c => { c with laneIn := (List.range 4).foldl (fun l j => l.set (4 * k.val + j) none) c.laneIn }
    let lane := fun j => s.dev.csw.laneIn.getD (4 * k.val + j) none
    s.dev.get F.CSW_LINK_STATUS_UP k = 1 →
    ((lane 0 = none ∨ lane 1 = none ∨ lane 2 = none ∨ lane 3 = none) → exec (.causewaySuperframe k) s = s.becomes (d.dropFrame k)) ∧
    (∀ a b e f, lane 0 = some a → lane 1 = some b → lane 2 = some e → lane 3 = some f → b.seq = a.seq → e.seq = a.seq → f.seq = a.seq →
      (∀ q, s.dev.csw.linkSeq.getD k none = some q → serialSub 16 a.seq q = 1) →
      let x := d.onCsw fun c => { c with linkSeq := c.linkSeq.set k (some a.seq) }
      let bytes := a.bytes ++ b.bytes ++ e.bytes ++ f.bytes
      (∀ before, s.dev.csw.stream.getD k none = some before →
        exec (.causewaySuperframe k) s = s.becomes (x.streamIn k before bytes)) ∧
      (s.dev.csw.stream.getD k none = none → a.first < 4000 →
        exec (.causewaySuperframe k) s = s.becomes (x.streamIn k [] (bytes.drop a.first))))) ∧
  (∀ (n : Nat) (b c e f : Byte) (rest : List Byte),
    let len := beVal [c, e]
    frames (n + 1) [] = (0, some []) ∧ frames (n + 1) (0#8 :: rest) = frames n rest ∧
    (b ≠ 0#8 → b ≠ 0xD5#8 → frames (n + 1) (b :: rest) = (0, none)) ∧
    (crc8 [0xD5#8, c, e] ≠ f.toNat → frames (n + 1) (0xD5#8 :: c :: e :: f :: rest) = (0, none)) ∧
    (crc8 [0xD5#8, c, e] = f.toNat → len ≤ rest.length → frames (n + 1) (0xD5#8 :: c :: e :: f :: rest) =
      ((frames n (rest.drop len)).1 + 1, (frames n (rest.drop len)).2))) ∧
  (∀ (d : Dev) (h : CswHead) (cls : Nat) (again : Bool) (use : Dev → Dev),
    (d.get F.CSW_LINK_STATUS_UP h.link = 0 → d.frameIn h cls again use = d) ∧
    (d.get F.CSW_LINK_STATUS_UP h.link = 1 → ∀ c, (d.frameArrives h.link).frameFault h cls again = some c →
      d.frameIn h cls again use = (d.frameArrives h.link).bump c)) ∧
  (∀ (d : Dev) (h : CswHead) (cls : Nat) (again : Bool),
    (h.length ≤ 63 → d.frameFault h cls again = some C.CSW_FR_RUNT) ∧
    (1523 ≤ h.length → d.frameFault h cls again = some C.CSW_FR_OVERSIZE) ∧
    (63 < h.length → h.length < 1523 →
      (h.fcsOk = false → d.frameFault h cls again = some C.CSW_FR_FCS) ∧
      (h.fcsOk = true → d.frameSecure h cls = false → d.frameFault h cls again = some C.CSW_FR_MACSEC) ∧
      (h.fcsOk = true → d.frameSecure h cls = true → d.frameFault h cls again = if again then some C.CSW_FR_DUP else none))) ∧
  (∀ (h : CswHead) (k : CswKeep) (s : State), s.dev.get F.CSW_LINK_STATUS_UP h.link = 1 → s.dev.frameFault h 0 false = none →
    let d := s.dev.frameArrives h.link
    (∀ e, s.dev.FrameUses h 0 e → exec (.keepalive h k) s = s.becomes ((e.linkAlive h.link).peerSays k)) ∧
    (s.dev.frameAgain h 0 = true → d.frameFault h 0 true = some C.CSW_FR_DUP →
      exec (.keepalive h k) s = s.becomes ((d.bump C.CSW_FR_DUP).linkAlive h.link))) ∧
  (∀ (h : CswHead) (salt : List Byte) (s : State), s.dev.get F.CSW_LINK_STATUS_UP h.link = 1 →
    let d := s.dev.frameArrives h.link
    d.frameFault h 9 false = none → s.dev.csw.peerSalt ≠ salt → exec (.hello h salt) s = s.becomes ((d.frameUsed h 9).onCsw fun c =>
      { c with peerSalt := salt, rxN := 0, rxSeq := (List.replicate 10 0).set 9 h.cseq.toNat, applied := [], cutKnown := true, rxSak := c.sak salt 0, rxSakNext := c.sak salt 1 })) ∧
  (∀ (h : CswHead) (x : TimeIn) (s : State) (e : Dev), s.dev.FrameUses h 6 e →
    let out : Int := (x.t2 : Int) - x.t1
    let back : Int := (x.t4 : Int) - x.t3
    let off := ofSigned 64 ((out - back) / 2)
    let d := ((((e.set F.CSW_LINK_DELAY_DELAY 0 (ofSigned 32 ((out + back) / 2))).set F.CSW_TIME_OFFSET_LO_OFFSET 0 off).set
      F.CSW_TIME_OFFSET_HI_OFFSET 0 (off / 2 ^ 32)).hset H.refPeerLoop 0 x.loop).hset H.refPeerSel 0 x.selected
    exec (.time h x) s = s.becomes (d.onCsw fun c => { c with
      offsetSince := if d.role = 1 ∧ 200 * 65536 < d.timeOffset.natAbs then some (c.offsetSince.getD d.clock.core) else none })) ∧
  (∀ s : State, let d := (s.dev.passSince s.dev.csw.keepAt 100000).rekey
    exec .keepaliveSend s = s.becomes ((d.onCsw fun c => { c with keepAt := some d.clock.core }).clink 0 (.keepalive d.keepalive))) ∧
  (∀ s : State, let d := s.dev.passSince s.dev.csw.timeAt 1000000
    exec .timeSend s = s.becomes ((d.onCsw fun c => { c with timeAt := some d.clock.core }).clink 6
      (.time d.clock.time16 (d.get F.REF_STATUS_LOOP) (d.get F.REF_STATUS_SELECTED)))) ∧
  (∀ (k : Fin 2) (s : State), exec (.keepaliveTimeout k) s =
    s.becomes ((s.dev.passSince (s.dev.csw.alive.getD k none) 1000000).reviewCauseway [])) ∧
  (∀ (h : CswHead) (bs : List Byte) (s : State) (e : Dev), s.dev.FrameUses h 1 e →
    (bit (beVal (slice 1 1 bs)) 0 = false → exec (.control h bs) s = s.becomes (e.receive 3 0 bs)) ∧
    (bit (beVal (slice 1 1 bs)) 0 = true → e.portUp 3 = true → exec (.control h bs) s = s.becomes (e.peerAnswers bs)))

/-- O53. A seat that is neither STANDBY nor SYNCING uses no live item, checkpoint or marker (R454). A live item is counted, applied,
counted as applied or late, and remembered for its CRC; a gap in LIVE CSEQ makes a standby resynchronise, and a seat that does
so already ask again (R464, R468). A checkpoint begins an epoch, or goes on with the one in reception; another that was in
reception is discarded for want of a marker. The marker of the epoch in reception commits it when it comes in time, all its
frames came, its CRC matches, every live item up to the cut was applied and their CRC matches, and discards it with the cause of
the first that fails (R467); a marker without its checkpoint is a discard with cause 4. Half-frame + 100 µs without a marker
discards with cause 1. A commit sets the bank, CSW_EPOCH_COMMITTED and the frame; a discard leaves them, counts and raises.
Without a marker for LATH_LOSS_MS a standby that may take over asks the active seat to yield (R473). -/
def Obligations.MirroringActs : Prop :=
  (∀ (h : CswHead) (x : LiveItem) (s : State) (e : Dev), s.dev.FrameUses h 2 e →
    let q := h.cseq.toNat
    let r := (e.bump C.CSW_LIVE_RX).applyItem q x
    let d := (r.1.bump (if r.2 then C.CSW_LIVE_LATE else C.CSW_LIVE_APPLIED)).onCsw fun c => { c with applied := c.applied ++ [(q, x)] }
    (e.role ≠ 1 → e.role ≠ 2 → exec (.live h x) s = s.becomes e) ∧
    ((e.role = 1 ∨ e.role = 2) → exec (.live h x) s =
      s.becomes (if serialSub 32 q (s.dev.csw.rxSeq.getD 2 0) = 1 then d else if d.role = 1 then d.enterRole 2 7 else d.startRole 2))) ∧
  (∀ (h : CswHead) (epoch : BitVec 32) (bs : List Byte) (content : Option Checkpoint) (s : State) (e : Dev), s.dev.FrameUses h 3 e →
    let gap := serialSub 32 h.cseq.toNat (s.dev.csw.rxSeq.getD 3 0) ≠ 1
    let first := fun d : Dev => (d.bump C.CSW_EPOCHS_BEGUN).onCsw fun c => { c with
      receiving := some ⟨epoch.toNat, bs.foldl (crcByte 0x82F63B78) 0xFFFFFFFF, content, true⟩ }
    (e.role ≠ 1 → e.role ≠ 2 → exec (.checkpoint h epoch bs content) s = s.becomes e) ∧
    ((e.role = 1 ∨ e.role = 2) →
      (e.csw.receiving = none → exec (.checkpoint h epoch bs content) s = s.becomes (first e)) ∧
      (∀ x, e.csw.receiving = some x → x.epoch ≠ epoch.toNat →
        exec (.checkpoint h epoch bs content) s = s.becomes (first (e.epochFails x 1 false))) ∧
      (∀ x, e.csw.receiving = some x → x.epoch = epoch.toNat →
        exec (.checkpoint h epoch bs content) s = s.becomes (e.onCsw fun c => { c with receiving := some { x with
          crc := bs.foldl (crcByte 0x82F63B78) x.crc, content := content.orElse (fun _ => x.content),
          whole := x.whole && !decide gap } })))) ∧
  (∀ (h : CswHead) (epoch crc : BitVec 32) (s : State) (e : Dev), s.dev.FrameUses h 4 e →
    let d := e.onCsw fun c => { c with markerAt := e.clock.core }
    let lost := fun d : Dev => (d.bump C.CSW_EPOCHS_BEGUN).epochFails ⟨epoch.toNat, 0, none, false⟩ 4 false
    (e.role ≠ 1 → e.role ≠ 2 → exec (.marker h epoch crc) s = s.becomes e) ∧
    ((e.role = 1 ∨ e.role = 2) →
      (e.csw.receiving = none → exec (.marker h epoch crc) s = s.becomes (lost d)) ∧
      (∀ x, e.csw.receiving = some x → x.epoch ≠ epoch.toNat → exec (.marker h epoch crc) s = s.becomes (lost (d.epochFails x 1 false))) ∧
      (∀ x, e.csw.receiving = some x → x.epoch = epoch.toNat → exec (.marker h epoch crc) s = s.becomes (d.judgeEpoch x crc.toNat)))) ∧
  (∀ (d : Dev) (x : EpochRx) (crc : Nat),
    (x.content = none → d.judgeEpoch x crc = d.epochFails x 4 false) ∧
    (∀ c, x.content = some c →
      let late := d.running = true ∧ d.markerLimit < d.clock.core
      let behind := serialGe 32 (d.csw.rxSeq.getD 2 0) c.cut = false
      let differs := d.csw.cutKnown = true ∧ d.csw.appliedCrc c.cut ≠ c.crc
      (late → d.judgeEpoch x crc = d.epochFails x 1 false) ∧
      (¬late → x.whole = false → d.judgeEpoch x crc = d.epochFails x 4 false) ∧
      (¬late → x.whole = true → x.crc ^^^ 0xFFFFFFFF ≠ crc → d.judgeEpoch x crc = d.epochFails x 2 false) ∧
      (¬late → x.whole = true → x.crc ^^^ 0xFFFFFFFF = crc → behind → d.judgeEpoch x crc = d.epochFails x 3 false) ∧
      (¬late → x.whole = true → x.crc ^^^ 0xFFFFFFFF = crc → ¬behind → differs → d.judgeEpoch x crc = d.epochFails x 3 true) ∧
      (¬late → x.whole = true → x.crc ^^^ 0xFFFFFFFF = crc → ¬behind → ¬differs → d.judgeEpoch x crc = d.commitEpoch c))) ∧
  (∀ s : State,
    (s.dev.csw.receiving = none → exec .markerDeadline s = s.becomes s.dev) ∧
    (∀ x, s.dev.csw.receiving = some x → exec .markerDeadline s = s.becomes
      ((if s.dev.running then s.dev.passToCore s.dev.markerLimit else s.dev).epochFails x 1 false))) ∧
  (∀ (d : Dev) (epoch cause : Nat),
    let e := (d.onCsw fun c => { c with receiving := none }).bump C.CSW_EPOCHS_DISCARDED
    d.discardEpoch epoch cause = ((e.set F.CSW_MIRROR_STATUS_DISCARD_RUN 0 (min 65535 (e.get F.CSW_MIRROR_STATUS_DISCARD_RUN + 1))).set
      F.CSW_MIRROR_STATUS_LAST_DISCARD 0 cause).raise 834 [epoch, cause]) ∧
  (∀ s : State,
    (s.dev.role = 1 → s.dev.get F.CSW_ROLE_TAKEOVER_OK = 1 → s.dev.causewayUp = true →
      exec .lathLossTimeout s = s.becomes ((s.dev.passToCore (s.dev.csw.markerAt + 1000000 * s.dev.get F.CSW_TIMING_LATH_LOSS_MS)).askYieldOnce 1)) ∧
    ((s.dev.role ≠ 1 ∨ s.dev.get F.CSW_ROLE_TAKEOVER_OK = 0 ∨ s.dev.causewayUp = false) → exec .lathLossTimeout s = s.becomes s.dev)) ∧
  (∀ (d : Dev) (cause : Nat), d.role = 1 → d.get F.CSW_ROLE_TAKEOVER_OK = 1 → d.causewayUp = true →
    (d.csw.yieldAsked = false → d.askYieldOnce cause = (d.onCsw fun c => { c with yieldAsked := true }).askYield cause) ∧
    (d.csw.yieldAsked = true → d.askYieldOnce cause = d))

/-- O54. Only a standby compares seals; each received seal is counted, and matches, mismatches, or is not comparable where the standby
has no seal of its own or the line lies more than 2 frames back (R470). A mismatch counts its destination's lines and frames,
which is divergent at DIVERGE_LINES of them in a frame or in the third frame running. The partner's BLAME begins the check at
the active seat and hands over its results; with both seats' results in, or after 8 frames, the verdict is the first row of R472
that holds, is reported and raised, and has its outcome at the standby. BLAME_STATUS answers CSW_BLAME and CSW_DIVERGE. -/
def Obligations.SealsAndBlameAct : Prop :=
  (∀ (h : CswHead) (i : Fin 1536) (frame : BitVec 48) (first : BitVec 16) (seals : List Word) (s : State) (e : Dev), s.dev.FrameUses h 5 e →
    (e.role ≠ 1 → exec (.sealRx h i frame first seals) s = s.becomes e) ∧
    (e.role = 1 → exec (.sealRx h i frame first seals) s = s.becomes (e.each seals.zipIdx fun d x =>
      d.sealIn i frame.toNat (first.toNat + x.2) x.1.toNat))) ∧
  (∀ (d : Dev) (i frame line value : Nat),
    let e := d.bump C.CSW_SEAL_RX
    let own := d.csw.seals.find? fun o => o.dest == i && o.frame == frame && o.line == line
    ((own = none ∨ frame + 2 < d.tick.frame) → d.sealIn i frame line value = e.bump C.CSW_SEAL_UNCMP) ∧
    (∀ o, own = some o → d.tick.frame ≤ frame + 2 →
      let f := e.onCsw fun c => { c with compared := c.compared + 1 }
      (o.value = value → d.sealIn i frame line value = f.bump C.CSW_SEAL_MATCH) ∧
      (o.value ≠ value → d.sealIn i frame line value = (f.bump C.CSW_SEAL_MISMATCH).sealMismatch i frame line))) ∧
  (∀ (d : Dev) (v : Divergence) (i frame line : Nat), d.csw.diverging.find? (fun v => v.dest == i) = some v →
    let w : Divergence := if v.frame = frame then { v with count := v.count + 1 }
      else ⟨i, frame, 1, line, if v.frame + 1 = frame then v.run + 1 else 1⟩
    let e := d.onCsw fun c => { c with mismatchInFrame := true, diverging := w :: c.diverging.filter fun x => x.dest != i }
    ((d.get F.CSW_TIMING_DIVERGE_LINES ≤ w.count ∨ 3 ≤ w.run) → d.divergent i = false → d.sealMismatch i frame line = e.diverges w) ∧
    ((w.count < d.get F.CSW_TIMING_DIVERGE_LINES ∧ w.run < 3 ∨ d.divergent i = true) → d.sealMismatch i frame line = e)) ∧
  (∀ (h : CswHead) (i : Fin 1536) (slot : BitVec 11) (agree : Bool) (seals : List Nat) (s : State) (e : Dev), s.dev.FrameUses h 8 e →
    (e.csw.blame = none → e.role = 0 → agree = true → seals = [] →
      exec (.blame h i slot agree seals) s = s.becomes (e.beginBlame i slot.toNat)) ∧
    (∀ b, e.csw.blame = some b → b.dest = i → b.slot = slot.toNat → (agree = false ∨ seals ≠ []) →
      exec (.blame h i slot agree seals) s =
        s.becomes (e.onCsw fun c => { c with blame := some { b with peer := some (agree, seals) } }).blameCheck)) ∧
  (∀ s : State,
    (s.dev.csw.blame = none → exec .blameTimeout s = s.becomes s.dev) ∧
    (∀ b, s.dev.csw.blame = some b → s.dev.tick.frame < b.began + 8 → exec .blameTimeout s = s.becomes s.dev) ∧
    (∀ b, s.dev.csw.blame = some b → b.began + 8 ≤ s.dev.tick.frame → exec .blameTimeout s = s.becomes (s.dev.blameVerdict b))) ∧
  (∀ (d : Dev) (b : Blame),
    let v := d.verdict b
    let e := (((d.set F.CSW_BLAME_VERDICT 0 v).set F.CSW_BLAME_BUSY 0 0).onCsw fun c => { c with blame := none }).raise 836 [b.dest, v]
    d.concludeBlame b = if e.role = 1 then e.blameOutcome b.dest v else e) ∧
  (∀ (a b same fresh : Bool),
    (verdictOf a b same true fresh = 1 ↔ a = false ∧ b = true) ∧ (verdictOf a b same true fresh = 2 ↔ a = true ∧ b = false) ∧
    (verdictOf a b same true fresh = 3 ↔ a = false ∧ b = false) ∧ (verdictOf a b same true fresh = 4 ↔ a = true ∧ b = true ∧ same = false) ∧
    (verdictOf a b same true fresh = 5 ↔ a = true ∧ b = true ∧ same = true ∧ fresh = false) ∧
    (verdictOf a b same true fresh = 6 ↔ a = true ∧ b = true ∧ same = true ∧ fresh = true)) ∧
  (∀ (d : Dev) (i : Nat),
    (d.get F.CSW_CFG_AUTO_TAKEOVER = 1 → d.get F.CSW_ROLE_TAKEOVER_OK = 1 → d.blameOutcome i 1 = d.askYield 0) ∧
    d.blameOutcome i 2 = (d.set F.CSW_ROLE_TAKEOVER_OK 0 0).onCsw (fun c => { c with barred := true }) ∧
    d.blameOutcome i 3 = d ∧ d.blameOutcome i 4 = d ∧
    d.blameOutcome i 5 = (d.enterRole 2 7).onCsw (fun c => { c with unresolved := insertNat i c.unresolved }) ∧
    d.blameOutcome i 6 = d.onCsw (fun c => { c with noBlame := insertNat i c.noBlame })) ∧
  (∀ (q : Req) (s : State) (ts : List Tlv) (e : Dev), s.dev.Accepts q blameStatusSpec ts e →
    exec (.blameStatus q) s = s.becomes (e.reply q 0x0704 St.ok
      [data (w4 (e.wordAt 0xF000A0) :: (List.range 48).map fun w => w4 (e.get F.CSW_DIVERGE_DIVERGENT w))]))

/-- O55. A role change writes ROLE and CAUSE, lets ACT_CLAIM_OUT follow the role, clears TAKEOVER_OK and is raised (R452, R456). An
ACTIVE seat that is asked to yield becomes OFFLINE. A change of the filtered claim is held; falling, it makes a seat in STANDBY
or SYNCING ACTIVE while the Causeway is up; rising, it isolates one whose Causeway is down (R455, log entry on R455's rows).
Seat B, ACTIVE with both claims for 1 ms, becomes ISOLATED and raises CSW_SPLIT kind 1 (R480). Three frame ticks of silence make
a seat that is not ACTIVE claim, unless a veto is in force, which is raised with kind 2 (R479); a veto ends at its time. A
standby whose offset stood above 200 ns for 1 s returns to SYNCING (R477). -/
def Obligations.RolesChange : Prop :=
  (∀ (d : Dev) (role cause : Nat), d.role = role → d.enterRole role cause = d) ∧
  (∀ (d : Dev) (role cause : Nat), role < 5 → cause < 16 → d.role ≠ role →
    let e := d.enterRole role cause
    e.role = role ∧ e.get F.CSW_ROLE_CAUSE = cause ∧ e.get F.CSW_ROLE_CLAIM_OUT = (if role = 0 then 1 else 0) ∧
      e.get F.CSW_ROLE_TAKEOVER_OK = 0) ∧
  (∀ (h : CswHead) (s : State) (e : Dev), s.dev.FrameUses h 7 e →
    (e.role = 0 → exec (.yieldReq h) s = s.becomes (e.enterRole 4 10)) ∧ (e.role ≠ 0 → exec (.yieldReq h) s = s.becomes e)) ∧
  (∀ (level : Bool) (s : State),
    let now := ofBool level
    let d := ((s.dev.set F.CSW_ROLE_CLAIM_IN 0 now).hset H.roleTurn 0 (s.dev.hget H.roleTurn + 1)).onCsw fun c => { c with
      dualSince := if level && s.dev.role == 0 then some s.dev.clock.core else none
      silentTicks := if level then 0 else c.silentTicks }
    (s.dev.get F.CSW_ROLE_CLAIM_IN = now → s.dev.get F.CSW_ROLE_CLAIM_IN ≤ 1 → exec (.actClaimInChange level) s = s.becomes s.dev) ∧
    (s.dev.get F.CSW_ROLE_CLAIM_IN = 1 → level = false → (s.dev.role = 1 ∨ s.dev.role = 2) → s.dev.causewayUp = true →
      exec (.actClaimInChange level) s = s.becomes (d.becomeActive 1)) ∧
    (s.dev.get F.CSW_ROLE_CLAIM_IN = 1 → level = false → (s.dev.role = 1 ∨ s.dev.role = 2) → s.dev.causewayUp = false →
      exec (.actClaimInChange level) s = s.becomes d) ∧
    (s.dev.get F.CSW_ROLE_CLAIM_IN = 0 → level = true → s.dev.hget H.seatWait = 1 → s.dev.lathRuns = true →
      exec (.actClaimInChange level) s = s.becomes d.claimInWait) ∧
    (s.dev.get F.CSW_ROLE_CLAIM_IN = 0 → level = true → s.dev.hget H.seatWait = 0 → (s.dev.role = 1 ∨ s.dev.role = 2) →
      s.dev.causewayUp = false → exec (.actClaimInChange level) s = s.becomes ((d.enterRole 3 9).raise 838 [0])) ∧
    (s.dev.get F.CSW_ROLE_CLAIM_IN = 0 → level = true → s.dev.hget H.seatWait = 0 → (s.dev.role = 0 ∨ 3 ≤ s.dev.role) →
      exec (.actClaimInChange level) s = s.becomes d)) ∧
  (∀ (s : State) (t : Nat), s.dev.csw.dualSince = some t → s.dev.role = 0 → s.dev.get F.CSW_ROLE_CLAIM_IN = 1 →
    (s.dev.hget H.pinSeat = 1 → exec .dualActiveTimeout s = s.becomes (((s.dev.passToCore (t + 1000000)).enterRole 3 12).raise 838 [1])) ∧
    (s.dev.hget H.pinSeat = 0 → exec .dualActiveTimeout s = s.becomes s.dev)) ∧
  (∀ s : State,
    let claims := 3 ≤ s.dev.csw.silentTicks ∧ 1 ≤ s.dev.role ∧ s.dev.role ≤ 3
    (¬claims → exec .claimSilenceTimeout s = s.becomes s.dev) ∧
    (claims → s.dev.get F.CSW_ROLE_VETO = 1 → exec .claimSilenceTimeout s = s.becomes (s.dev.raise 838 [2])) ∧
    (claims → s.dev.get F.CSW_ROLE_VETO ≠ 1 → exec .claimSilenceTimeout s = s.becomes (s.dev.becomeActive 2))) ∧
  (∀ s : State,
    (∀ t, s.dev.csw.offsetSince = some t → s.dev.role = 1 →
      exec .offsetExcess s = s.becomes ((s.dev.passToCore (t + 10 ^ 9)).enterRole 2 7)) ∧
    ((s.dev.csw.offsetSince = none ∨ s.dev.role ≠ 1) → exec .offsetExcess s = s.becomes s.dev)) ∧
  (∀ s : State,
    (∀ t, s.dev.csw.vetoEnd = some t → exec .vetoExpiry s =
      s.becomes (((s.dev.passToCore t).set F.CSW_ROLE_VETO 0 0).onCsw fun c => { c with vetoEnd := none })) ∧
    (s.dev.csw.vetoEnd = none → exec .vetoExpiry s = s.becomes s.dev)) ∧
  (∀ (d : Dev) (cause : Nat), d.role ≠ 0 → d.role ≠ 1 → d.role ≠ 2 → d.becomeActive cause = d.enterRole 0 cause)

/-- O56. ROLE_STATUS sets a veto on P1 or P2 of a seat that is not ACTIVE and is else BAD_PARAM reason 0x72; REQUEST is BAD_PARAM reason
0x71 in a role that does not permit it; it returns roles, epoch, links and offset (R479, R484). SWITCHOVER waits for its frame
tick when the partner stands ready, and is BAD_PARAM reason 0x70 else. REDUNDANCY_CONFIG goes to the partner first while the
Causeway is up; when it is down, or no OK comes within 100 ms, both words are written here and the answer says that the partner
was not updated (R484). TAKEOVER_REPORT_GET returns the header and its records (R475). RESYNC_REQUEST makes an ACTIVE seat send
a snapshot at its next T0, RESYNC_DONE is noted by a SYNCING seat (R476), and PEER_CONFIG answers OK and writes both words. -/
def Obligations.RedundancyCommandsAct : Prop :=
  (∀ (q : Req) (s : State) (ts : List Tlv) (e : Dev), s.dev.Accepts q roleStatusSpec ts e →
    let r := tlvNum ts 0x0102
    let badVeto := hasTlv ts 0x0101 = true ∧ ((q.port ≠ 1 ∧ q.port ≠ 2) ∨ e.role = 0)
    let badRole := (r = 1 ∧ e.role = 0) ∨ (r = 2 ∧ e.role ≠ 4)
    let d := (if hasTlv ts 0x0101 then e.setVeto (tlvNum ts 0x0101) else e).roleRequest r
    (badVeto → exec (.roleStatus q) s = s.becomes (e.reply q 0x0701 St.badParam [statusDetail (tlvIndex ts 0x0101) 0xFF 0x72])) ∧
    (¬badVeto → badRole → exec (.roleStatus q) s = s.becomes (e.reply q 0x0701 St.badParam [statusDetail (tlvIndex ts 0x0102) 0xFF 0x71])) ∧
    (¬badVeto → ¬badRole → exec (.roleStatus q) s = s.becomes (d.reply q 0x0701 St.ok [d.roleData]))) ∧
  (∀ (d : Dev) (ms : Nat), d.setVeto ms = (d.set F.CSW_ROLE_VETO 0 (if ms = 0 then 0 else 1)).onCsw fun c => { c with
    vetoEnd := if ms = 0 then none else some (d.clock.core + 1000000 * ms) }) ∧
  (∀ d : Dev, d.roleRequest 0 = d ∧ d.roleRequest 1 = d.enterRole 4 6 ∧
    (d.causewayUp = false → d.roleRequest 2 = d.enterRole 3 6) ∧
    (∀ k, d.causewayUp = true → d.csw.peer = some k → k.role = 0 → d.roleRequest 2 = (d.enterRole 2 6).claimIfSilent)) ∧
  (∀ (q : Req) (s : State) (ts : List Tlv) (e : Dev), s.dev.Accepts q switchoverSpec ts e →
    let target := if frameTlv ts = 0 then e.tick.frame + 1 else frameTlv ts
    let held := e.onCsw fun c => { c with switchover := some (target, q.port, q.src, q.tag) }
    (e.peerReady = false → exec (.switchover q) s = s.becomes (e.reply q 0x0702 St.badParam [statusDetail 0xFFFF 0xFF 0x70])) ∧
    (e.peerReady = true → target ≤ e.tick.frame →
      exec (.switchover q) s = s.becomes (e.reply q 0x0702 St.badParam [statusDetail (tlvIndex ts 0x0001) 0xFF 0])) ∧
    (e.peerReady = true → e.tick.frame < target → e.csw.switchover = none →
      exec (.switchover q) s = s.becomes (held.respond q.port q.src q.tag 0x0702 St.pending [] false))) ∧
  (∀ d : Dev, d.peerReady = true ↔ d.causewayUp = true ∧ ∃ k, d.csw.peer = some k ∧ k.role = 1 ∧ k.takeoverOk = true) ∧
  (∀ (q : Req) (s : State) (ts : List Tlv) (e : Dev), s.dev.Accepts q redundancyConfigSpec ts e →
    let cfg := tlvNum ts 0x0101
    let timing := tlvNum ts 0x0102
    let tag := (e.csw.peerWaits.getLast?.map PeerWait.sent).getD 2 + 1
    (e.causewayUp = false → exec (.redundancyConfig q) s = s.becomes ((e.writePeerWords cfg timing).reply q 0x0703 St.ok notUpdated)) ∧
    (e.causewayUp = true → exec (.redundancyConfig q) s = s.becomes
      ((e.onCsw fun c => { c with peerWaits := c.peerWaits ++ [⟨tag, cfg, timing, q.port, q.tag, q.src, e.clock.core + 100000000⟩] }).transmit
        3 0 0 0x0782 tag 0 (Tlv.bytes ⟨0x0101, w4 cfg⟩ ++ Tlv.bytes ⟨0x0102, w4 timing⟩) false))) ∧
  (∀ s : State,
    (s.dev.csw.peerWaits = [] → exec .peerConfigTimeout s = s.becomes s.dev) ∧
    (∀ w rest, s.dev.csw.peerWaits = w :: rest → exec .peerConfigTimeout s = s.becomes
      ((((s.dev.passToCore w.limit).onCsw fun c => { c with peerWaits := rest }).writePeerWords w.cfg w.timing).respond w.port w.src w.tag
        0x0703 St.ok notUpdated))) ∧
  (∀ (q : Req) (s : State) (ts : List Tlv) (e : Dev), s.dev.Accepts q reportGetSpec ts e →
    (∀ r, e.csw.report = some r → ∃ head : Tlv, head = ⟨0x0102, w4 r.cause ++ w4 r.flags ++ w4 r.epoch ++ w8 r.epochFrame ++ w8 r.frame ++
        w4 r.records.length ++ w4 r.overflow⟩ ∧
      exec (.takeoverReportGet q) s = s.becomes (e.reply q 0x0705 St.ok
        (head :: (slice (tlvNum ts 0x0101) (tlvNum ts 0x0102) r.records).map fun x => data [x.bytes])))) ∧
  (∀ (q : Req) (s : State) (ts : List Tlv) (e : Dev), s.dev.Accepts q resyncRequestSpec ts e →
    (e.role = 0 → exec (.resyncRequest q) s = s.becomes ((e.onCsw fun c => { c with snapshotAsked := true }).reply q 0x0780 St.ok)) ∧
    (e.role ≠ 0 → exec (.resyncRequest q) s = s.becomes (e.reply q 0x0780 St.ok))) ∧
  (∀ (q : Req) (s : State) (ts : List Tlv) (e : Dev), s.dev.Accepts q resyncDoneSpec ts e →
    (e.role = 2 → exec (.resyncDone q) s =
      s.becomes ((e.onCsw fun c => { c with resyncDone := some (tlvNum ts 0x0101) }).reply q 0x0781 St.ok)) ∧
    (e.role ≠ 2 → exec (.resyncDone q) s = s.becomes (e.reply q 0x0781 St.ok))) ∧
  (∀ (q : Req) (s : State) (ts : List Tlv) (e : Dev), s.dev.Accepts q peerConfigSpec ts e →
    exec (.peerConfig q) s = s.becomes ((e.reply q 0x0782 St.ok).writePeerWords (tlvNum ts 0x0101) (tlvNum ts 0x0102)))

/-- O57. A slice starts on an idle unit of its pool; its end passes it on to the next slice or back to the pool, counts and raises a
failure, and retires the unit at the second one, or repairs a memory (R486, R489, R490, R497); the unit of an aborted slice is
restored (R499). BIST_STATUS_GET, ROLL_CONFIG and REPAIR_STATUS_GET answer and configure. EFUSE_NONCE_GET issues a nonce that
lives 60 s (R493); EFUSE_PROGRAM is checked in the order of R492 (the key's SHA-384 against the fused hash, then the ECDSA
signature over the record; the digest is the model's choice, log entry 310) and queues its words; each word is programmed and
read back, the last one answers OK (R494), and a reset that waited takes place after the word (R74). -/
def Obligations.SelfTestActs : Prop :=
  (∀ (q : Fin 4) (u : Fin 2048) (s : State), s.dev.ready = true → s.dev.get F.BIST_ROLL_CFG_EN ≠ 0 → s.dev.poolState q = 0 →
    u < poolUnits q → s.dev.sliceTime = true → kept (s.dev.poolTest q).wait u 0 ≤ s.dev.tick.frame →
    kept (s.dev.poolTest q).hold u 0 ≤ s.dev.clock.core →
    (s.dev.poolUnit q = u % 512 ∨ (s.dev.poolUnit q = 0x1FF ∧ s.dev.testable q u = true)) →
    exec (.sliceStart q u) s = s.becomes (((((s.dev.markTest q u true).set F.BIST_POOL_UNIT q u).set F.BIST_POOL_SLICE q
      (kept (s.dev.poolTest q).next u 0)).set F.BIST_POOL_STATE q 1).bump C.BIST_SLICES_STARTED)) ∧
  (∀ (q : Fin 4) (s : State), s.dev.poolState q = 1 →
    let u := s.dev.poolUnit q
    let k := s.dev.get F.BIST_POOL_SLICE q
    let d := (s.dev.bump C.BIST_SLICES_PASS).set F.BIST_POOL_STATE q 0
    (k + 1 < poolSlices q → exec (.sliceEnd q .pass) s = s.becomes
      (d.onPool q fun p => { p with failed := false, next := keep p.next u (k + 1) })) ∧
    (¬(k + 1 < poolSlices q) → exec (.sliceEnd q .pass) s = s.becomes
      (((d.onPool q fun p => { p with failed := false, next := p.next.filter fun e => e.1 != u }).endTest q).serveWaiting))) ∧
  (∀ (q : Fin 4) (s : State), s.dev.poolState q = 1 →
    let u := s.dev.poolUnit q
    let d := (s.dev.bump C.BIST_SLICES_FAIL).raise 865 [q, u, s.dev.get F.BIST_POOL_SLICE q]
    exec (.sliceEnd q .fail) s = s.becomes (if (d.poolTest q).failed then d.retireUnit q u
      else (d.onPool q fun p => { p with failed := true }).bump C.BIST_SLICES_STARTED)) ∧
  (∀ (q : Fin 4) (array row : Nat) (s : State), s.dev.poolState q = 1 →
    exec (.sliceEnd q (.repair false array row)) s = s.becomes
      (((s.dev.onBist fun b => { b with soft := b.soft ++ [(array, row)] }).countSoft).raise 868 [array, row])) ∧
  (∀ (q : Fin 4) (s : State), s.dev.poolState q = 2 → exec (.unitRestore q) s = s.becomes ((s.dev.endTest q).serveWaiting)) ∧
  (∀ (q : Req) (s : State) (ts : List Tlv) (e : Dev), s.dev.Accepts q bistStatusGetSpec ts e →
    exec (.bistStatusGet q) s = s.becomes (e.reply q 0x0801 St.ok (⟨0x0102, ([C.BIST_SLICES_STARTED, C.BIST_SLICES_PASS,
      C.BIST_SLICES_FAIL, C.BIST_SLICES_INCOMPLETE].map (fun c => w4 (e.count c)) ++ [w4 e.tapStatusView]).flatten⟩ ::
      (List.range 40).map (fun k => data [w4 (e.storedAt (0xD00000 + 4 * k))]) ++
      (List.range 4).map fun k => data [w4 (e.storedAt (0xD00140 + 4 * k))]))) ∧
  (∀ (q : Req) (s : State) (ts : List Tlv) (e : Dev), s.dev.Accepts q rollConfigSpec ts e →
    exec (.rollConfig q) s = s.becomes (((e.set F.BIST_ROLL_CFG_EN 0 (fieldOf F.BIST_ROLL_CFG_EN (tlvNum ts 0x0101))).set
      F.BIST_ROLL_CFG_PERIOD_H 0 (max 1 (fieldOf F.BIST_ROLL_CFG_PERIOD_H (tlvNum ts 0x0101)))).reply q 0x0802 St.ok)) ∧
  (∀ (q : Req) (s : State) (ts : List Tlv) (e : Dev), s.dev.Accepts q repairStatusGetSpec ts e →
    let rs := e.bist.soft ++ e.bist.softHbm
    exec (.repairStatusGet q) s = s.becomes (e.reply q 0x0803 St.ok [data ([w4 (e.storedAt 0xE00000), w4 (e.storedAt 0xE00004),
      w4 rs.length] ++ rs.flatMap fun (r : Nat × Nat) => [w4 r.1, w4 r.2])])) ∧
  (∀ (q : Req) (nonce : BitVec 128) (s : State) (ts : List Tlv) (e : Dev), s.dev.Accepts q efuseNonceGetSpec ts e →
    let kept := some (beBytes 16 nonce.toNat, e.clock.core)
    exec (.efuseNonceGet q nonce) s = s.becomes ((e.onBist fun b => { b with nonce := kept }).reply q 0x0804 St.ok [data [beBytes 16 nonce.toNat, w8 Config.dieId]])) ∧
  (∀ (n : List Byte) (t : Nat) (s : State), s.dev.bist.nonce = some (n, t) →
    exec .nonceExpiry s = s.becomes ((s.dev.passToCore (t + 60 * 10 ^ 9)).onBist fun b => { b with nonce := none })) ∧
  (∀ (q : Req) (s : State) (ts : List Tlv) (e : Dev), s.dev.Accepts q efuseProgramSpec ts e →
    let r := (tlv? ts 0x0101).getD []
    let signed := ecdsaOk (slice 40 96 r) ((tlv? ts 0x0102).getD []) r = true
    let kind := beVal (slice 32 1 r)
    let d := e.onBist fun b => { b with nonce := none }
    (∀ st reason, e.recordFault r = some (st, reason) → exec (.efuseProgram q () ()) s =
      s.becomes (e.reply q 0x0805 st (if reason = 0 then [] else [statusDetail (tlvIndex ts 0x0101) 0xFF reason]))) ∧
    (e.recordFault r = none → ¬signed → exec (.efuseProgram q () ()) s = s.becomes (d.reply q 0x0805 St.authFail)) ∧
    (e.recordFault r = none → signed → kind = 0 → e.fuseSpace = false → exec (.efuseProgram q () ()) s =
      s.becomes (d.reply q 0x0805 St.exhausted [statusDetail (tlvIndex ts 0x0101) 0xFF 0x85])) ∧
    (e.recordFault r = none → signed → (kind ≠ 0 ∨ e.fuseSpace = true) →
      let w : FuseWork := ⟨kind, q.port, q.tag, q.src, d.fuseWords kind (beVal (slice 36 4 r)), 0⟩
      exec (.efuseProgram q () ()) s = s.becomes
        ((((d.respond q.port q.src q.tag 0x0805 St.pending [] false)).onBist fun b => { b with work := b.work ++ [w] }).fuseDone))) ∧
  (∀ (w : FuseWork) (ws : List FuseWork) (x : Nat × Nat × Nat) (rest : List (Nat × Nat × Nat)) (s : State),
    s.dev.bist.work = w :: ws → w.words = x :: rest →
    let d := ((s.dev.onBist fun b => { b with efuse := b.efuse.program x }).burned x).setWork
      (some { w with words := rest, done := w.done + 1 })
    exec (.efuseWordWrite true) s = s.becomes d.fuseDone.yieldToReset.askedReset ∧
    exec (.efuseWordWrite false) s = s.becomes ((((s.dev.setWork none).raise 870 [x.1, s.dev.bist.efuse.wordOf x]).respond w.port
      w.src w.tag 0x0805 St.internalFault []).yieldToReset.askedReset))

/-- O58. BYPASS, IDCODE, SAMPLE/PRELOAD and a TAP reset put their instruction into effect and leave the rest of the device (R501); IDCODE
shifts out the identity code; DEBUG acts as BYPASS while DEBUG_LOCK is programmed, and shows the sticky error bit else (R81,
R504; how, log entry 326); a TAP reset is a reset of bus master 7 (R76); a test-mode instruction zeroises the keys, sets
TEST_LATCH, releases the claim and raises its event before scan or boundary control begins (R502). -/
def Obligations.TestAccessActs : Prop :=
  (∀ s : State, exec .bypass s = s.becomes (s.dev.setIr 0xFFFF)) ∧
  (∀ s : State, exec .idcode s = s.becomes ((s.dev.setIr 0x0001).emit (.tdo 0x215369CB))) ∧
  (∀ s : State, exec .tapReset s = s.becomes (((s.dev.setIr 0x0001).onBehalf 7 []).hset H.debugError 0 0)) ∧
  (∀ (levels : List Bool) (s : State), exec (.samplePreload levels) s = s.becomes
    { s.dev with tap := { s.dev.tap with ir := 0x0002, drives := false, boundary := levels } }) ∧
  (∀ s : State, (s.dev.bist.efuse.debugLock = 1 → exec .debug s = s.becomes (s.dev.setIr 0xFFFF)) ∧
    (s.dev.bist.efuse.debugLock = 0 → exec .debug s = s.becomes ((s.dev.setIr 0x0020).emit (.tdo (s.dev.hget H.debugError)))) ∧
    (1 < s.dev.bist.efuse.debugLock → exec .debug s = s.becomes (s.dev.setIr 0x0020))) ∧
  (∀ (d : Dev) (code : Nat), d.setIr code = { d with tap := { d.tap with ir := code, drives := false } }) ∧
  (∀ (s : State), exec .extest s = s.becomes (s.dev.testMode 0x0003 false) ∧ exec .extestPulse s = s.becomes (s.dev.testMode 0x0004 false) ∧
    exec .extestTrain s = s.becomes (s.dev.testMode 0x0005 false) ∧ exec .scanEnter s = s.becomes (s.dev.testMode 0x0010 true) ∧
    exec .mbistRun s = s.becomes (s.dev.testMode 0x0011 true)) ∧
  (∀ (d : Dev) (code : Nat) (scan : Bool),
    (∀ k ∈ (d.testMode code scan).cmd.keys, k.key = none) ∧ (d.testMode code scan).hget H.testLatch = 1 ∧
    (d.testMode code scan).get F.CSW_ROLE_CLAIM_OUT = 0 ∧ (d.testMode code scan).tap.ir = code ∧
    (d.testMode code scan).tap.drives = !scan ∧ (d.testMode code scan).tap.scan = (d.tap.scan || scan))

/-- O59. Clearing bits of HLT_TRIG, by the register or by HEALTH_CLEAR, clears those that were set, raises an event for each and the new
level where it changed, and a hardware condition that still holds sets its bit again (R508); the TJ condition begins and ends
with its event (R507); a second of TIME adds its weight to the wear count and keeps the readings (R519); WEAR_SET acts once,
else BAD_PARAM (R520); the health and ledger commands answer and configure; a rail out of range is recorded and raised (R528); a
thermal trip resets the device with cause 8 and holds it until the temperature has recovered (R531). -/
def Obligations.HealthActs : Prop :=
  (∀ (m : Fin 8) (v : Word) (s : State), s.dev.Reaches m 0xB00004 →
    exec (.hltTrigWrite m v) s = s.becomes (((s.dev.transaction m).clearTriggers v.toNat).written m 0xB00004 v.toNat)) ∧
  (∀ (d : Dev) (mask : Nat),
    let t := d.get F.HLT_TRIG_TRIG
    let gone := (List.range 14).filter fun b => bit t b && bit mask b
    d.clearTriggers mask = (((d.set F.HLT_TRIG_TRIG 0 (t - wordOfBits gone)).each gone fun d b => d.raise 17 [b, 0]).levelCheck
      (levelOf t)).healthReview) ∧
  (∀ (d : Dev) (old : Nat), d.levelCheck old =
    if levelOf (d.get F.HLT_TRIG_TRIG) = old then d
    else d.raise 16 [old, levelOf (d.get F.HLT_TRIG_TRIG), d.get F.HLT_TRIG_TRIG]) ∧
  (∀ (tj : Int) (s : State), 1680 < tj → s.dev.hget H.tjHot = 0 →
    exec (.tjTimeout tj) s = s.becomes
      ((((s.dev.set F.HLT_TJ_TJ 0 (ofSigned 16 tj)).hset H.tjHot 0 1).raise 18 [ofSigned 32 tj]).healthReview)) ∧
  (∀ (tj : Int) (s : State), tj ≤ 1680 → s.dev.hget H.tjHot = 1 →
    exec (.tjConditionEnd tj) s = s.becomes
      (((s.dev.set F.HLT_TJ_TJ 0 (ofSigned 16 tj)).hset H.tjHot 0 0).raise 18 [ofSigned 32 tj])) ∧
  (∀ (mean tj a b : Int) (s : State), s.dev.hget H.porLow = 0 →
    let d := (s.dev.set F.HLT_TJ_TJ 0 (ofSigned 16 tj)).set F.HLT_TJ_TJ_PEAK 0
      (ofSigned 16 (max tj (toSigned 16 (s.dev.get F.HLT_TJ_TJ_PEAK))))
    let d := (d.set F.TOP_THERM_HBM_A 0 (ofSigned 16 a)).set F.TOP_THERM_HBM_B 0 (ofSigned 16 b)
    let d := (d.hset H.hbmFast 0 (ofBool (a > 1360))).hset H.hbmFast 1 (ofBool (b > 1360))
    let w := s.dev.get F.HLT_WEAR_HI_WEAR * 2 ^ 32 + s.dev.get F.HLT_WEAR_LO_WEAR + wearWeight mean
    exec (.wearSecond mean tj a b) s = s.becomes ((d.set F.HLT_WEAR_LO_WEAR 0 w).set F.HLT_WEAR_HI_WEAR 0 (w / 2 ^ 32))) ∧
  (∀ (q : Req) (s : State) (ts : List Tlv) (e : Dev), s.dev.Accepts q healthStatusGetSpec ts e →
    exec (.healthStatusGet q) s = s.becomes (e.reply q 0x0810 St.ok [data [w4 (e.storedAt 0xB00000 + e.healthStatusView),
      w4 (e.get F.HLT_TRIG_TRIG), w4 (e.storedAt 0xB00014), w8 e.wear]])) ∧
  (∀ (q : Req) (s : State) (ts : List Tlv) (e : Dev), s.dev.Accepts q healthClearSpec ts e →
    exec (.healthClear q) s = s.becomes ((e.clearTriggers (tlvNum ts 0x0101)).reply q 0x0811 St.ok)) ∧
  (∀ (q : Req) (s : State) (ts : List Tlv) (e : Dev), s.dev.Accepts q healthConfigSpec ts e →
    let d := if hasTlv ts 0x0101 then e.setSpareLow (tlvNum ts 0x0101) else e
    let d := if hasTlv ts 0x0102 then d.setRateLimits (tlvNum ts 0x0102) else d
    let d := if hasTlv ts 0x0103 then d.set F.HLT_WEAR_CFG_SERVICE_PCT 0 (min 100 (fieldOf F.HLT_WEAR_CFG_SERVICE_PCT (tlvNum ts 0x0103))) else d
    exec (.healthConfig q) s = s.becomes (d.healthReview.reply q 0x0812 St.ok)) ∧
  (∀ (q : Req) (s : State) (ts : List Tlv) (e : Dev), s.dev.Accepts q wearSetSpec ts e →
    (e.get F.HLT_STATUS_WEAR_VALID = 0 → exec (.wearSet q) s = s.becomes
      (((e.setWear (e.wear + tlvNum ts 0x0101)).set F.HLT_STATUS_WEAR_VALID 0 1).reply q 0x0813 St.ok)) ∧
    (e.get F.HLT_STATUS_WEAR_VALID = 1 → exec (.wearSet q) s = s.becomes
      (e.reply q 0x0813 St.badParam [statusDetail 0xFFFF 0xFF 0x90]))) ∧
  (∀ (q : Req) (s : State) (ts : List Tlv) (e : Dev), s.dev.Accepts q ledgerStatusGetSpec ts e →
    exec (.ledgerStatusGet q) s = s.becomes (e.reply q 0x0814 St.ok (⟨0x0102, w4 (e.get F.LDG_EPOCH_EPOCH) ++
      w4 (e.storedAt 0xC00004 + e.ledgerStatusView)⟩ ::
      e.health.faults.map fun f => data [w4 f.id, w8 (ofSigned 64 f.imbalance), w4 (f.frame % 2 ^ 32)]))) ∧
  (∀ (q : Req) (s : State) (ts : List Tlv) (e : Dev), s.dev.Accepts q ledgerReadSpec ts e →
    (∀ l i, ledgerOf (tlvNum ts 0x0101) = some (l, i) → exec (.ledgerRead q) s = s.becomes
      (e.reply q 0x0815 St.ok [data ((e.latchedTerms l i).map fun t => w8 (ofSigned 64 t))])) ∧
    (ledgerOf (tlvNum ts 0x0101) = none → exec (.ledgerRead q) s = s.becomes
      (e.reply q 0x0815 St.badParam [statusDetail (tlvIndex ts 0x0101) 0xFF 0]))) ∧
  (∀ (rail : Fin 8) (s : State), s.dev.hget H.porLow = 0 →
    let d := s.dev.set F.TOP_VMON_RAILS 0 (s.dev.get F.TOP_VMON_RAILS ||| 2 ^ rail.val)
    exec (.railExcursion rail) s = s.becomes (d.raise 19 [d.get F.TOP_VMON_RAILS])) ∧
  (∀ (sensor : Fin 18) (s : State), s.dev.hget H.porLow = 0 → s.dev.hget H.tripHeld = 0 → s.dev.bist.work = [] →
    exec (.thermalTrip sensor) s = s.becomes (s.dev.resetNow 8 sensor) ∧ (s.dev.resetNow 8 sensor).hget H.tripHeld = 1 ∧
    (s.dev.resetNow 8 sensor).get F.TOP_RESET_CAUSE_CAUSE = 8) ∧
  (∀ (x : BootIn) (s : State), s.dev.hget H.tripHeld = 1 → s.dev.get F.BOOT_STATUS_STEP = 0 → s.dev.hget H.porLow = 0 →
    exec (.thermalRecovery x) s = .next { s with
      dev := (((s.dev.hset H.tripHeld 0 0).hset H.porLow 0 0).bootRun x false).flush, mere := [] })

/-- O60. A ledger that balances and has no fault entry, or whose imbalance is the one its fault entry records, leaves the device as it
is; a new imbalance is recorded in a free entry of the 64, or where its ledger has one there (a return to 0 is such a change),
and raised with its identity, its value and the frame (R29, R513). -/
def Obligations.ALedgerIsCheckedAgainstItsRecord : Prop :=
  ∀ (d : Dev) (frame id : Nat) (imb : Int),
    (((d.health.faults.find? fun f => f.id == id) = none → imb = 0 → d.checkLedger frame id imb = d)) ∧
    (∀ f, (d.health.faults.find? fun f => f.id == id) = some f →
      (f.imbalance = imb → d.checkLedger frame id imb = d) ∧
      (f.imbalance ≠ imb → d.checkLedger frame id imb = (d.onHealth fun h => { h with faults := h.faults.map fun (g : LedgerFault) =>
        if g.id = id then { g with imbalance := imb } else g }).ledgerFault id imb frame)) ∧
    ((∀ f ∈ d.health.faults, f.id ≠ id) → imb ≠ 0 → d.health.faults.length < 64 →
      (d.checkLedger frame id imb).health.faults = d.health.faults ++ [⟨id, imb, frame⟩] ∧
      (d.checkLedger frame id imb).hget H.ledgerFault = 1 ∧ (d.checkLedger frame id imb).evt.raised = (d.evt.raised + 1) % 2 ^ 64 ∧
      (d.checkLedger frame id imb).reg = d.reg) ∧
    ((∀ f ∈ d.health.faults, f.id ≠ id) → imb ≠ 0 → 64 ≤ d.health.faults.length →
      (d.checkLedger frame id imb).health.faults = d.health.faults ∧ (d.checkLedger frame id imb).get F.LDG_STATUS_TABLE_FULL = 1 ∧
      (d.checkLedger frame id imb).evt.raised = (d.evt.raised + 1) % 2 ^ 64)
end

