-- ==== Sys2Proof/Laws/Csw.lean ====
section
/-! SUPPORT. A Causeway frame that passes its checks is used. -/

namespace Sys2Proof.Machine

theorem Dev.classIn_of {d e : Dev} {h : CswHead} {cls : Nat} (hu : d.FrameUses h cls e) (use : Dev → Dev) :
    d.classIn h cls use = use e := by
  obtain ⟨h1, h2, rfl⟩ := hu
  simp only [Dev.classIn, Dev.frameIn, h1, h2, Nat.reduceBEq, Bool.false_eq_true, if_false]

end Sys2Proof.Machine
end

