-- ==== Sys2Proof/Laws/Fen.lean ====
section
/-! SUPPORT. What a Fen instruction does once its unit runs it: the row's effect, and then its flow. -/

namespace Sys2Proof.Machine

theorem Dev.fenRow_of {d : Dev} {n op : Nat} (h : d.FenRuns n op) (hop : fenOpcodes.contains op = true)
    (f : Dev → Nat → Nat → Dev × FenFlow) :
    d.fenRow n op f = match (f d n (d.fenWord n)).2 with
      | .next => (f d n (d.fenWord n)).1.onUnit n FenUnit.advance
      | .jump pc => (f d n (d.fenWord n)).1.onUnit n fun u => u.goto pc
      | .stall => d
      | .trap c => d.fenTrap n c
      | .done => (f d n (d.fenWord n)).1 := by
  obtain ⟨h1, h2, h3⟩ := h
  have h4 : ¬ (d.unit n).pc ≥ 8192 := by omega
  simp only [Dev.fenRow, h1, Bool.not_true, Bool.false_eq_true, if_false, if_neg h4, h3, hop, ne_eq, not_true_eq_false, Dev.fenWord] <;> rfl

theorem Dev.fenRow_next {d e : Dev} {n op : Nat} {f : Dev → Nat → Nat → Dev × FenFlow} (h : d.FenRuns n op)
    (hop : fenOpcodes.contains op = true) (hf : f d n (d.fenWord n) = (e, .next)) :
    d.fenRow n op f = e.onUnit n FenUnit.advance := by
  rw [Dev.fenRow_of h hop, hf]

theorem Dev.fenRow_jump {d e : Dev} {n op pc : Nat} {f : Dev → Nat → Nat → Dev × FenFlow} (h : d.FenRuns n op)
    (hop : fenOpcodes.contains op = true) (hf : f d n (d.fenWord n) = (e, .jump pc)) :
    d.fenRow n op f = e.onUnit n fun u => u.goto pc := by
  rw [Dev.fenRow_of h hop, hf]

theorem Dev.fenRow_stall {d e : Dev} {n op : Nat} {f : Dev → Nat → Nat → Dev × FenFlow} (h : d.FenRuns n op)
    (hop : fenOpcodes.contains op = true) (hf : f d n (d.fenWord n) = (e, .stall)) : d.fenRow n op f = d := by
  rw [Dev.fenRow_of h hop, hf]

theorem Dev.fenRow_trap {d e : Dev} {n op c : Nat} {f : Dev → Nat → Nat → Dev × FenFlow} (h : d.FenRuns n op)
    (hop : fenOpcodes.contains op = true) (hf : f d n (d.fenWord n) = (e, .trap c)) : d.fenRow n op f = d.fenTrap n c := by
  rw [Dev.fenRow_of h hop, hf]

theorem Dev.fenRow_done {d e : Dev} {n op : Nat} {f : Dev → Nat → Nat → Dev × FenFlow} (h : d.FenRuns n op)
    (hop : fenOpcodes.contains op = true) (hf : f d n (d.fenWord n) = (e, .done)) : d.fenRow n op f = e := by
  rw [Dev.fenRow_of h hop, hf]

end Sys2Proof.Machine
end

