-- ==== Sys2Proof/Laws/Memory.lean ====
section
/-! SUPPORT. The laws of the Mere bytes: every write keeps the canonical form, a byte reads as it was last written, and
no other byte changes. -/

namespace Sys2Proof.Machine

theorem Memory.read_above {m : Memory} {a : Nat} (h : Memory.above a m = true) (hw : Memory.wf m = true) :
    Memory.read m a = Memory.unlisted := by
  induction m generalizing a with
  | nil => rfl
  | cons c m ih =>
    simp only [Memory.above, decide_eq_true_eq] at h
    simp only [Memory.wf, Bool.and_eq_true] at hw
    have ha : Memory.above a m = true := by
      have := hw.1.2; revert this; cases m <;> simp [Memory.above]; omega
    simp only [Memory.read, if_neg (show ¬c.1 = a by omega)]
    exact ih ha hw.2

theorem Memory.above_write {m : Memory} {a k : Nat} (b : Byte) (h : Memory.above k m = true) (hk : k < a)
    (hw : Memory.wf m = true) : Memory.above k (Memory.write m a b) = true := by
  cases m with
  | nil => simp only [Memory.write]; split <;> simp [Memory.above, hk]
  | cons c m =>
    simp only [Memory.above, decide_eq_true_eq] at h
    simp only [Memory.wf, Bool.and_eq_true] at hw
    simp only [Memory.write]
    split
    · simpa [Memory.above] using h
    · split
      · split
        · have := hw.1.2; revert this; cases m <;> simp [Memory.above]; omega
        · simp [Memory.above, hk]
      · split <;> simp [Memory.above, h, hk]

/-- A write keeps the canonical form. -/
theorem Memory.wf_write (m : Memory) (a : Nat) (b : Byte) (hw : Memory.wf m = true) : Memory.wf (Memory.write m a b) = true := by
  induction m with
  | nil => simp only [Memory.write]; split <;> simp_all [Memory.wf, Memory.above]
  | cons c m ih =>
    have hw' := hw
    simp only [Memory.wf, Bool.and_eq_true] at hw
    simp only [Memory.write]
    split
    · rename_i h
      simp only [Memory.wf, Bool.and_eq_true]
      exact ⟨⟨hw.1.1, Memory.above_write b hw.1.2 h hw.2⟩, ih hw.2⟩
    · split
      · rename_i h1 h2
        split
        · exact hw.2
        · rename_i h3
          simp only [Memory.wf, Bool.and_eq_true]
          exact ⟨⟨by simpa using h3, by rw [← h2]; exact hw.1.2⟩, hw.2⟩
      · rename_i h1 h2
        split
        · exact hw'
        · rename_i h3
          rw [Memory.wf, Bool.and_eq_true, Bool.and_eq_true]
          exact ⟨⟨by simpa using h3, by simp only [Memory.above, decide_eq_true_eq]; omega⟩, hw'⟩

theorem Memory.wf_writeBytes (limit : Nat) (bs : List Byte) :
    ∀ (m : Memory) (a : Nat), Memory.wf m = true → Memory.wf (Memory.writeBytes limit m a bs) = true := by
  induction bs with
  | nil => exact fun _ _ h => h
  | cons b bs ih =>
    intro m a h
    simp only [Memory.writeBytes]
    split
    · exact ih _ _ (Memory.wf_write m a b h)
    · exact ih _ _ h

/-- After a write the address reads as the byte written, and every other address as before. -/
theorem Memory.read_write (m : Memory) (a : Nat) (b : Byte) (x : Nat) (hw : Memory.wf m = true) :
    Memory.read (Memory.write m a b) x = if x = a then b else Memory.read m x := by
  induction m with
  | nil => simp only [Memory.write]; split <;> simp_all [Memory.read] <;> grind
  | cons c m ih =>
    simp only [Memory.wf, Bool.and_eq_true] at hw
    simp only [Memory.write]
    split
    · simp only [Memory.read, ih hw.2]; grind
    · split
      · rename_i h1 h2
        split
        · rename_i h3
          by_cases hx : x = a
          · subst hx; rw [if_pos rfl, h3, ← h2]; exact Memory.read_above hw.1.2 hw.2
          · simp only [Memory.read]; grind
        · simp only [Memory.read]; grind
      · rename_i h1 h2
        split
        · rename_i h3
          by_cases hx : x = a
          · subst hx
            rw [if_pos rfl, h3]
            exact Memory.read_above (by simp only [Memory.above, decide_eq_true_eq]; omega)
              (by simp only [Memory.wf, Bool.and_eq_true]; exact hw)
          · simp only [if_neg hx]
        · simp only [Memory.read]; grind

/-- Bytes written from `a` on: each lands at its address below the limit, and every other address reads as before. -/
theorem Memory.read_writeBytes (limit : Nat) (bs : List Byte) :
    ∀ (m : Memory) (a x : Nat), Memory.wf m = true →
      Memory.read (Memory.writeBytes limit m a bs) x =
        if a ≤ x ∧ x < a + bs.length ∧ x < limit then bs.getD (x - a) 0 else Memory.read m x := by
  induction bs with
  | nil => intro m a x _; simp only [Memory.writeBytes, List.length_nil]; rw [if_neg (by omega)]
  | cons b bs ih =>
    intro m a x h
    have hm : Memory.wf (if a < limit then Memory.write m a b else m) = true := by
      split
      · exact Memory.wf_write m a b h
      · exact h
    simp only [Memory.writeBytes, ih _ _ _ hm, List.length_cons]
    by_cases hx : x = a
    · subst hx
      rw [if_neg (by omega)]
      by_cases hl : x < limit
      · rw [if_pos hl, Memory.read_write _ _ _ _ h, if_pos rfl, if_pos ⟨by omega, by omega, hl⟩]; simp
      · rw [if_neg hl, if_neg (by omega)]
    · have hr : Memory.read (if a < limit then Memory.write m a b else m) x = Memory.read m x := by
        split
        · rw [Memory.read_write _ _ _ _ h, if_neg hx]
        · rfl
      rw [hr]
      by_cases hc : a + 1 ≤ x ∧ x < a + 1 + bs.length ∧ x < limit
      · rw [if_pos hc, if_pos (by omega), show x - a = (x - (a + 1)) + 1 by omega]; simp
      · rw [if_neg hc, if_neg (by omega)]

end Sys2Proof.Machine
end

