-- ==== Sys2Proof/Laws/Mere.lean ====
section
/-! SUPPORT. The operations that reach the Mere bytes: each leaves the queue as it was and keeps the canonical form. -/

namespace Sys2Proof.Machine

/-- From `s` to `t` the queue stays, and the Mere bytes keep their canonical form. -/
def State.Carries (s t : State) : Prop := t.pending = s.pending ∧ (s.wf → t.wf)

theorem State.Carries.refl (s : State) : s.Carries s := ⟨rfl, id⟩

theorem State.Carries.trans {s t u : State} (h : s.Carries t) (k : t.Carries u) : s.Carries u := ⟨k.1.trans h.1, k.2 ∘ h.2⟩

/-- A change of the device alone. -/
theorem State.carries_dev (s : State) (d : Dev) : s.Carries { s with dev := d } := ⟨rfl, id⟩

/-- The outcome of a command that leaves the device `d` has the Mere bytes and the queue it started from. -/
theorem State.becomes_next {s t : State} {d : Dev} (h : s.becomes d = .next t) : t.mere = s.mere ∧ t.pending = s.pending := by
  have := Host.Outcome.next.inj h; subst this; exact ⟨rfl, rfl⟩

theorem wf_writeAt (ps : List Nat) (bs : List Byte) : ∀ m : Memory, Memory.wf m = true → Memory.wf (writeAt m ps bs) = true := by
  unfold writeAt
  generalize ps.zip bs = l
  induction l with
  | nil => exact fun _ h => h
  | cons x l ih => exact fun m h => ih _ (Memory.wf_write m x.1 x.2 h)

/-- Storing a line changes the Mere bytes only. -/
theorem State.storeLine_carries (s : State) (old : Dev) (b : Nat) : s.Carries (s.storeLine old b) := by
  unfold State.storeLine
  dsimp only
  split
  · exact .refl s
  · split
    · exact .refl s
    · split
      · exact .refl s
      · exact ⟨rfl, fun h => wf_writeAt _ _ _ h⟩

/-- Storing a proxy changes the Mere bytes only. -/
theorem State.storeProxy_carries (s : State) (old : Dev) (b : Nat) : s.Carries (s.storeProxy old b) := by
  unfold State.storeProxy
  split
  · exact .refl s
  · split
    · exact .refl s
    · exact ⟨rfl, fun h => wf_writeAt _ _ _ (wf_writeAt _ _ _ h)⟩

theorem State.writeMere_carries (s : State) (off : Nat) (bs : List Byte) : s.Carries (s.writeMere off bs) :=
  ⟨rfl, fun h => Memory.wf_writeBytes _ _ _ _ h⟩

theorem bar2Write_carries (off : Nat) (bytes : List Byte) (s : State) : s.Carries (bar2Write off bytes s) := by
  unfold bar2Write
  dsimp only
  split
  · exact s.carries_dev _
  · split
    · exact s.carries_dev _
    · exact (s.carries_dev _).trans (State.writeMere_carries _ _ _)

theorem State.writeTarget_carries (s : State) (place off : Nat) (bytes : List Byte) : s.Carries (s.writeTarget place off bytes) := by
  unfold State.writeTarget
  split
  · exact s.carries_dev _
  · exact s.carries_dev _
  · exact s.carries_dev _
  · exact s.writeMere_carries _ _
  · exact .refl s

theorem State.finishBurst_carries (s : State) (b : Burst) : s.Carries (s.finishBurst b) := by
  unfold State.finishBurst State.answerAccess
  dsimp only
  split
  · exact ((s.writeTarget_carries _ _ _).trans (State.carries_dev _ _)).trans (State.carries_dev _ _)
  · exact (s.carries_dev _).trans (State.carries_dev _ _)

theorem State.foldl_finishBurst_carries (l : List Burst) : ∀ s : State, s.Carries (l.foldl State.finishBurst s) := by
  induction l with
  | nil => exact fun s => .refl s
  | cons b l ih => exact fun s => (s.finishBurst_carries b).trans (ih _)

theorem State.endEarlier_carries (s : State) (m k : Nat) : s.Carries (s.endEarlier m k) := by
  unfold State.endEarlier
  dsimp only
  split
  · split
    · exact (State.foldl_finishBurst_carries _ s).trans (State.finishBurst_carries _ _)
    · exact State.foldl_finishBurst_carries _ s
  · exact State.foldl_finishBurst_carries _ s

theorem State.memoryAccess_carries (s : State) (m k : Nat) (x : Access) : s.Carries (s.memoryAccess m k x) := by
  unfold State.memoryAccess State.answerAccess
  dsimp only
  split
  · exact bar2Write_carries _ _ s
  · split
    · split
      · exact ((s.carries_dev _).trans (State.writeTarget_carries _ _ _ _)).trans (State.carries_dev _ _)
      · exact (s.carries_dev _).trans (State.carries_dev _ _)
    · split
      · exact (s.carries_dev _).trans (State.writeTarget_carries _ _ _ _)
      · exact s.carries_dev _

/-- An access of a bus master reaches the Mere bytes by a write of theirs alone. -/
theorem State.busAccess_carries (s : State) (m : Nat) (x : Access) : s.Carries (s.busAccess m x) := by
  unfold State.busAccess
  split
  · exact .refl s
  · split
    · exact .refl s
    · split
      · exact .refl s
      · dsimp only
        split
        · exact ((s.carries_dev _).trans (State.endEarlier_carries _ _ _)).trans (State.carries_dev _ _)
        · split
          · exact ((s.carries_dev _).trans (State.endEarlier_carries _ _ _)).trans (State.carries_dev _ _)
          · exact ((s.carries_dev _).trans (State.endEarlier_carries _ _ _)).trans (State.memoryAccess_carries _ _ _ _)

theorem State.access_carries {f : State → State} (hf : ∀ s : State, s.Carries (f s)) (s : State) (m : Nat) : s.Carries (s.access m f) := by
  unfold State.access
  split
  · exact .refl s
  · exact hf s

/-- Storing a line, or a proxy, gives other Mere bytes at most, in canonical form if they were. -/
theorem State.storeLine_eq (s : State) (old : Dev) (b : Nat) : ∃ m, s.storeLine old b = { s with mere := m } := by
  unfold State.storeLine
  dsimp only
  split
  · exact ⟨s.mere, rfl⟩
  · split
    · exact ⟨s.mere, rfl⟩
    · split
      · exact ⟨s.mere, rfl⟩
      · exact ⟨_, rfl⟩

theorem State.storeProxy_eq (s : State) (old : Dev) (b : Nat) : ∃ m, s.storeProxy old b = { s with mere := m } := by
  unfold State.storeProxy
  split
  · exact ⟨s.mere, rfl⟩
  · split
    · exact ⟨s.mere, rfl⟩
    · exact ⟨_, rfl⟩

/-- What a row that stores lines or proxies answers. -/
theorem liftMere_next (b : Nat) (f : Dev → Dev) (s : State) : ∃ m, liftMere b f s = .next { s with dev := (f s.dev).flush, mere := m } ∧
    (s.wf → Memory.wf m = true) := by
  obtain ⟨m, hm⟩ := State.storeLine_eq { s with dev := f s.dev } s.dev b
  obtain ⟨n, hn⟩ := State.storeProxy_eq { s with dev := f s.dev, mere := m } s.dev b
  have hw := State.storeLine_carries { s with dev := f s.dev } s.dev b
  have hv := State.storeProxy_carries { s with dev := f s.dev, mere := m } s.dev b
  refine ⟨n, ?_, fun h => ?_⟩
  · unfold liftMere
    dsimp only
    rw [hm, hn]
    rfl
  · rw [hn] at hv
    rw [hm] at hw
    exact hv.2 (hw.2 h)

end Sys2Proof.Machine
end

