-- ==== Sys2Proof/Tests/Slice0.lean ====
section
/-! SUPPORT. The model's own tests: an ill-formed term for each check of WellFormed, examples that the manual works out, and for each
statement that has hypotheses a state and operands that meet them. -/

namespace Sys2Proof.Tests

set_option Elab.async false

open Sys2Proof Sys2Proof.Machine

/-! ### Small states -/

/-- A device with some fields set. -/
def on (d : Dev) (l : List (Fld × Nat × Nat)) : Dev := l.foldl (fun d x => d.set x.1 x.2.1 x.2.2) d

/-- A device with some implied values set. -/
def hon (d : Dev) (l : List (Fld × Nat × Nat)) : Dev := l.foldl (fun d x => d.hset x.1 x.2.1 x.2.2) d

/-- In operation, ACTIVE, its windows open, its tick stopped. -/
def up : Dev := on Dev.reset [(F.TOP_STATUS_LATH_RUN, 0, 1), (F.TOP_STATUS_READY, 0, 1), (F.TOP_STATUS_WINDOWS_OPEN, 0, 1),
  (F.CSW_ROLE_ROLE, 0, 0), (F.BOOT_STATUS_STEP, 0, 13)]

/-- The same with its tick running in frame 5. -/
def runs : Dev := let d := on up [(F.TICK_STATUS_RUN, 0, 1)]; { d with tick := { d.tick with frame := 5, next := 6 } }

/-- A request on the UART port. -/
def rq (ts : List Tlv) : Req := ⟨4, 0, 1, ts.flatMap Tlv.bytes⟩

/-- A request on P0, P1, P2 or P3. -/
def rqOn (p : Fin 5) (ts : List Tlv) : Req := ⟨p, 0, 1, ts.flatMap Tlv.bytes⟩

/-- The register access is reached. -/
def reach (d : Dev) (m off : Nat) : Bool := (m != 7 || d.debugOn) && (d.busFault off).isNone && !d.hostBarred m off

theorem reach_sound {d : Dev} {m off : Nat} (h : reach d m off = true) : d.Reaches m off := by
  simp only [reach, Bool.and_eq_true, Bool.or_eq_true, bne_iff_ne, ne_eq, Bool.not_eq_true', Option.isNone_iff_eq_none] at h
  exact ⟨⟨fun hm => h.1.1.resolve_left (fun hn => hn hm), h.1.2⟩, h.2⟩

/-- The request is accepted, with TLVs and a device of which `p` holds. -/
def acc (d : Dev) (q : Req) (sp : Spec) (p : List Tlv → Dev → Bool := fun _ _ => true) : Bool :=
  match d.takeUp q sp.op with
  | none => false
  | some d0 =>
    decide (0 < q.tag) && decide (q.tag < 65536) && !d0.tagPending q.port q.tag &&
      decide ((d0.cmd.tags.filter fun t => t.port == q.port.val).length < 256) &&
      match (d0.holdTag q sp.op (d.headKey q sp.op)).judge q sp with
      | .accept ts => p ts (d0.holdTag q sp.op (d.headKey q sp.op))
      | .refuse _ _ => false

theorem acc_sound {d : Dev} {q : Req} {sp : Spec} {p : List Tlv → Dev → Bool} (h : acc d q sp p = true) :
    ∃ ts e, d.Accepts q sp ts e ∧ p ts e = true := by
  unfold acc at h
  cases h0 : d.takeUp q sp.op with
  | none => simp [h0] at h
  | some d0 =>
    simp only [h0, Bool.and_eq_true, decide_eq_true_eq, Bool.not_eq_true'] at h
    obtain ⟨⟨⟨⟨h1, h2⟩, h3⟩, h4⟩, h5⟩ := h
    cases h6 : (d0.holdTag q sp.op (d.headKey q sp.op)).judge q sp with
    | refuse a b => simp [h6] at h5
    | accept ts =>
      simp only [h6] at h5
      exact ⟨ts, _, ⟨⟨d0, h0, h1, h2, h3, h4, rfl⟩, h6⟩, h5⟩

/-- The request is taken up with a good tag, by a device of which `p` holds. -/
def takes (d : Dev) (q : Req) (op : Nat) (p : Dev → Bool := fun _ => true) : Bool :=
  match d.takeUp q op with
  | none => false
  | some d0 =>
    decide (0 < q.tag) && decide (q.tag < 65536) && !d0.tagPending q.port q.tag &&
      decide ((d0.cmd.tags.filter fun t => t.port == q.port.val).length < 256) && p (d0.holdTag q op (d.headKey q op))

theorem takes_sound {d : Dev} {q : Req} {op : Nat} {p : Dev → Bool} (h : takes d q op p = true) :
    ∃ e, d.TakesUp q op e ∧ p e = true := by
  unfold takes at h
  cases h0 : d.takeUp q op with
  | none => simp [h0] at h
  | some d0 =>
    simp only [h0, Bool.and_eq_true, decide_eq_true_eq, Bool.not_eq_true'] at h
    obtain ⟨⟨⟨⟨h1, h2⟩, h3⟩, h4⟩, h5⟩ := h
    exact ⟨_, ⟨d0, h0, h1, h2, h3, h4, rfl⟩, h5⟩

/-- The unit runs an instruction of that opcode. -/
def fenRuns (d : Dev) (n op : Nat) : Bool :=
  (d.unit n).running && decide ((d.unit n).pc < 8192) && bits ((d.unit n).program (d.unit n).pc) 26 6 == op

theorem fenRuns_sound {d : Dev} {n op : Nat} (h : fenRuns d n op = true) : d.FenRuns n op := by
  simp only [fenRuns, Bool.and_eq_true, decide_eq_true_eq, beq_iff_eq] at h
  exact ⟨h.1.1, h.1.2, h.2⟩

/-- The Causeway frame is used, by a device of which `p` holds. -/
def fuses (d : Dev) (h : CswHead) (cls : Nat) (p : Dev → Bool := fun _ => true) : Bool :=
  d.get F.CSW_LINK_STATUS_UP h.link == 1 && ((d.frameArrives h.link).frameFault h cls (d.frameAgain h cls)).isNone &&
    p ((d.frameArrives h.link).frameUsed h cls)

theorem fuses_sound {d : Dev} {h : CswHead} {cls : Nat} {p : Dev → Bool} (hf : fuses d h cls p = true) :
    ∃ e, d.FrameUses h cls e ∧ p e = true := by
  simp only [fuses, Bool.and_eq_true, beq_iff_eq, Option.isNone_iff_eq_none] at hf
  exact ⟨_, ⟨hf.1.1, hf.1.2, rfl⟩, hf.2⟩

/-- A range of destinations, a pair of 2-byte numbers of a type. -/
def pr (typ a n : Nat) : Tlv := ⟨typ, beBytes 2 a ++ beBytes 2 n⟩
def dr (a n : Nat) : Tlv := pr 2 a n

/-- Port P4 holds every lease unit. -/
def held (d : Dev) : Dev := on d ((List.range 16).map fun u => (F.CMD_LEASE_HOLDER_HOLDER, u, 4))

/-! ### The queue, time, the tick and commits -/

theorem witness_MereStaysCanonical : State.reset.wf ∧ step State.reset = .next
    { State.reset with dev := { Dev.reset with clock := ⟨1, 65536⟩ } } := ⟨rfl, rfl⟩

/-- R33 at 60 Hz: 1 s is the tick of frame 60. -/
theorem witness_FrameTickIsTheSmallestTime : frameOf 7 (10 ^ 9) = 60 ∧ frameStart 7 60 = 10 ^ 9 := by decide +kernel

/-- R34: blocks begin every 1 ÷ 3 ms. -/
theorem witness_BlockTickIsTheSmallestTime : blockOf (10 ^ 6) = 3 ∧ blockStart 3 = 10 ^ 6 := by decide +kernel

theorem witness_TickControlActs :
    reach up 0 0x700004 = true ∧ up.running = false ∧ up.rate ≤ 10 ∧ bit 1 0 = true ∧ bit 1 1 = false ∧ bit 3 1 = true ∧
    reach runs 0 0x700004 = true ∧ runs.running = true ∧
    reach (on up [(F.TICK_CFG_HOUSE_RATE, 0, 11)]) 0 0x700004 = true ∧ 10 < (on up [(F.TICK_CFG_HOUSE_RATE, 0, 11)]).rate ∧
    reach up 0 0x700000 = true ∧ reach runs 0 0x700000 = true ∧ bits 0x1A 0 4 ≠ runs.rate ∧
    bits 0x1A 4 1 ≠ runs.get F.TICK_CFG_BLOCK_RATE ∧
    acc up (rq [⟨0x0101, w8 7⟩]) timePresetSpec (fun _ e => !e.running) = true := by decide +kernel

theorem witness_TickPhasesAct :
    (let d := { runs with tick := { runs.tick with stepped := false } }; d.tick.waiting = false ∧ d.ticking = true) ∧
    ({ up with tick := { up.tick with waiting := true } } : Dev).tick.waiting = true ∧
    runs.running = true ∧ runs.tick.stopping = none ∧ runs.rate ≤ 10 ∧
    ({ runs with tick := { runs.tick with stepped := true } } : Dev).tick.stepped = true ∧
    ({ runs with tick := { runs.tick with stopping := some 0 } } : Dev).tick.stopping = some 0 ∧
    runs.hget H.t3Left = 0 ∧ runs.hget H.ptpValid = 0 := by decide +kernel

/-- Port P4 holds the lease units of the twelve commit groups. -/
def lent (d : Dev) : Dev := on d ((List.range 12).map fun u => (F.CMD_LEASE_HOLDER_HOLDER, u, 4))

theorem witness_CommitsAct :
    reach up 0 0x700028 = true ∧ bit 0x80000001 31 = true ∧ up.tick.commits.length < 16 ∧ up.commitTarget = 0 ∧
    acc (lent up) (rq [⟨0x0101, w4 1⟩]) commitSpec (fun ts e => tlvNum ts 0x0101 == 1 && !e.groupsBarred 4 1 && frameTlv ts == 0) = true ∧
    acc (lent up) (rq [⟨0x0101, w4 4095⟩]) commitSpec (fun ts e => tlvNum ts 0x0101 == 4095 && !e.groupsBarred 4 4095) = true ∧
    acc (lent runs) (rq [⟨1, w8 5⟩, ⟨0x0101, w4 1⟩]) commitSpec (fun ts e => frameTlv ts == 5 && !e.groupsBarred 4 1 && e.tick.frame == 5 && e.lathRuns) = true ∧
    acc (lent { runs with tick := { runs.tick with commits := List.replicate 16 ⟨9, 1, .bar0 1, false, 1⟩ } })
      (rq [⟨1, w8 6⟩, ⟨0x0101, w4 1⟩]) commitSpec (fun ts e => !e.groupsBarred 4 1 && e.tick.frame < frameTlv ts && e.tick.commits.length == 16) = true ∧
    (let q := rq [⟨0x0101, w4 0⟩]; let r := parseTlvs (q.payload.length + 1) 0 q.payload
      takes up q 0x0510 (fun e => e.ready && e.rolePermits q.port 0x0510) = true ∧ commitSpec.form r.1 r.2 = none ∧ tlvNum r.1 0x0101 = 0) ∧ acc up (rq []) tickStatusGetSpec = true ∧
    (let h : HeldChange := { frame := 6, writes := [], port := 4, tag := 1, src := 0, opcode := 0x0210, written := false };
      [h].filter (fun c => c.frame == runs.tick.frame + 1 && !c.written) = [h]) := by decide +kernel

theorem witness_ACommitAppliesItsGroups : Dev.reset.reg.sorted = true ∧ Dev.reset.shadow.sorted = true ∧ shFields ≠ [] := by
  decide +kernel

theorem witness_TheLastShadowWriteTakesEffect : ∃ f ∈ shFields, groupOf f.id = some 10 ∧ bit 0x400 10 = true := ⟨F.REF_CTRL_REVERTIVE, .head _, rfl, rfl⟩

theorem witness_TableFormIsKept : up.reg.sorted = true ∧ up.hid.sorted = true ∧ up.shadow.sorted = true ∧ up.ctr.sorted = true := by
  decide +kernel

/-! ### Reset, registers and the bus -/

/-- In start-up at a step, the firmware running. -/
def atStep (k : Nat) : Dev := on Dev.reset [(F.TOP_STATUS_LATH_RUN, 0, 1), (F.TOP_STATUS_WINDOWS_OPEN, 0, 1), (F.BOOT_STATUS_STEP, 0, k)]

/-- An eFuse word is being programmed. -/
def burning : Dev := { up with bist := { up.bist with work := [⟨0, 0, 0, 0, [], 0⟩] } }

/-- An image whose body is 4,096 zeros, signed with the private key 1 and the nonce 1 (so that the public key is the curve's generator); its
hashes and its signature were computed outside the model. -/
def signedPart : List Byte := beBytes 4 0x424E524D ++ leBytes 4 1 ++ leBytes 4 4096 ++ leBytes 4 0 ++ leBytes 4 0 ++ leBytes 4 5 ++
  leBytes 4 0x4E515360 ++ [0, 2, 3, 0] ++
  beBytes 48 0xc0e59a3e3ffbd3b5c75428fb36432facabc745944296ff515f737c4fef4efc64586809f7a16f56354a1eaecf2aa8d774 ++
  zeros 16 ++ beBytes 48 p384gx ++ beBytes 48 p384gy
def signature : List Byte := beBytes 48 p384gx ++
  beBytes 48 0x3fca5cac154fec1ea43b678d7ac83b57708588eb074df0c950f5b779f2b34626ed2c7ed2068f222c80e87c904b1dc9bb
def image : ImageIn := ⟨signedPart ++ signature ++ zeros 224, zeros 4096⟩

/-- The hash of its key is fused at index 3. -/
def fused (d : Dev) : Dev := d.onBist fun b => { b with efuse := { b.efuse with keyHashes := [[], [], [],
  beBytes 48 0xa19d4db171b582eb8052b0cfe555e17894aa22d1c8a9770950697dd8f796d2fa4bf0a56ad80006b7ea08e1191f814b65] } }

/-- SHA-384 and ECDSA P-384: the image passes every check of R66; with another hash at its index it fails check 4. -/
theorem test_image_is_accepted : (fused Dev.reset).imageFault image = none := by decide +kernel
theorem test_image_key_is_checked : Dev.reset.imageFault image = some 4 := by decide +kernel

theorem imageFault_of_efuse {d e : Dev} (x : ImageIn) (h : d.bist.efuse = e.bist.efuse) : d.imageFault x = e.imageFault x := by
  unfold Dev.imageFault Dev.keyFused; rw [h]

theorem image_accepted (d : Dev) (h : d.bist.efuse = Dev.reset.bist.efuse) : (fused d).imageFault image = none :=
  (imageFault_of_efuse image (by simp only [fused, Dev.onBist, h])).trans test_image_is_accepted

/-- The Lath has stopped for a restart. -/
def restarting : Dev := fused (hon (on up [(F.TOP_STATUS_LATH_RUN, 0, 0)]) [(H.lathCause, 0, 5), (H.restartStep, 0, 7)])

theorem witness_LathRestartDone : restarting.hget H.lathCause ≠ 0 ∧ restarting.lathRuns = false ∧ restarting.hget H.pushState ≠ 1 ∧
    restarting.get F.TOP_STATUS_BOOT_FAIL ≠ 1 ∧ restarting.hget H.restartStep ≠ 8 ∧ (restarting.fetchImage [image]).2 = true := by
  have h0 : restarting.hget H.policyUsed ≠ 1 := by decide +kernel
  have h1 : restarting.imageFault image = none := image_accepted _ (by rfl)
  refine ⟨by decide +kernel, by decide +kernel, by decide +kernel, by decide +kernel, by decide +kernel, ?_⟩
  simp [Dev.fetchImage, h0, Dev.trySlots, h1]

theorem witness_ResetsReturnToTheirValues :
    reach up 0 0xC = true ∧ reach (hon up [(H.porLow, 0, 0)]) 0 0xC = true ∧ (hon up [(H.porLow, 0, 0)]).hget H.porLow ≠ 1 ∧ up.bist.work = [] ∧ burning.bist.work ≠ [] ∧ burning.lathRuns = true ∧ up.lathRuns = true ∧
    acc up (rq [⟨0x0101, w4 0⟩]) resetSpec (fun ts _ => tlvNum ts 0x0101 == 0) = true ∧
    acc up (rq [⟨0x0101, w4 1⟩]) resetSpec (fun ts _ => tlvNum ts 0x0101 == 1) = true := by decide +kernel

/-- A push whose next chunk is at `off`. -/
def pushing (d : Dev) (off : Nat) (before : List Byte) : Dev :=
  { hon (on d [(F.PCI_LINK_STATUS_UP, 0, 1), (F.BOOT_PUSH_OFFSET_OFFSET, 0, off)]) [(H.pushOffset, 0, off)] with pushed := before }

/-- The boot ROM waits for a push, at start-up and in a Lath restart; and a push that ends a BOOT_FAIL. -/
def pushStates : List Dev :=
  [fused (hon (atStep 7) [(H.pushState, 0, 1)]), hon restarting [(H.pushState, 0, 1)],
   fused (on (atStep 12) [(F.TOP_STATUS_BOOT_FAIL, 0, 1), (F.BOOT_STATUS_FAIL_CODE, 0, 5)])]

/-- The image but its last 16 bytes, and the device after the chunk. -/
def imageStart : List Byte := signedPart ++ signature ++ zeros 4304
def chunked (d : Dev) : Dev :=
  let t := { ((d.transaction 0).set F.BOOT_PUSH_LENGTH 0 16).set F.BOOT_PUSH_LAST 0 1 with staging := Memory.writeBytes 0x100000 d.staging 0xC0000 (zeros 16) }
  { t with pushed := t.pushed ++ Memory.bytes 16 0xC0000 t.staging }

theorem lastChunk_pushed (d : Dev) : (chunked d).pushed = d.pushed ++ Memory.bytes 16 0xC0000 (chunked d).staging := by
  simp [chunked, Dev.transaction]

def lastChunk (d : Dev) : Dev := chunked (pushing d 4592 imageStart)

theorem image_pushed : ∀ d ∈ pushStates, (lastChunk d).imageFault ⟨(lastChunk d).pushed.take 512, (lastChunk d).pushed.drop 512⟩ = none := by
  have h : ∀ d ∈ pushStates, (⟨(lastChunk d).pushed.take 512, (lastChunk d).pushed.drop 512⟩ : ImageIn) = image := by
    have h1 : ∀ d ∈ pushStates, Memory.bytes 16 0xC0000 (lastChunk d).staging = zeros 16 := by decide +kernel
    have h2 : (signedPart ++ signature ++ zeros 224).length = 512 := by decide +kernel
    have h3 : imageStart ++ zeros 16 = (signedPart ++ signature ++ zeros 224) ++ zeros 4096 := by
      simp only [imageStart, zeros, List.append_assoc, List.replicate_append_replicate]
    intro d hd
    have h4 : (lastChunk d).pushed = (signedPart ++ signature ++ zeros 224) ++ zeros 4096 := by
      rw [← h3, ← h1 d hd]; exact lastChunk_pushed (pushing d 4592 imageStart)
    have h5 : ∀ a b : List Byte, a.length = 512 → (⟨(a ++ b).take 512, (a ++ b).drop 512⟩ : ImageIn) = ⟨a, b⟩ := by
      intro a b h; rw [List.take_left' h, List.drop_left' h]
    rw [h4, h5 _ _ h2]; unfold image; rfl
  intro d hd; rw [h d hd]
  simp only [pushStates, List.mem_cons, List.not_mem_nil, or_false] at hd
  rcases hd with rfl | rfl | rfl <;> exact (imageFault_of_efuse image (by rfl)).trans test_image_is_accepted

theorem witness_BootPush :
    (∀ d ∈ pushStates, let d := pushing d 4592 imageStart
      reach d 0 0x100010 = true ∧ d.takesPush = true ∧ d.get F.BOOT_PUSH_OFFSET_OFFSET = d.hget H.pushOffset) ∧
    bit 0x80000010 31 = true ∧ bit 0x80000010 30 = false ∧ bit 0xC0000010 30 = true ∧
    fieldOf F.BOOT_PUSH_LENGTH 0xC0000010 = 16 ∧ fieldOf F.BOOT_PUSH_LENGTH 0x80040000 = 262144 ∧ fieldOf F.BOOT_PUSH_LENGTH 0xC000000F = 15 ∧
    pushStates.map (fun d => (d.get F.TOP_STATUS_BOOT_FAIL, d.hget H.lathCause)) = [(0, 0), (0, 5), (1, 0)] ∧
    (let d := pushing (fused (hon (atStep 7) [(H.pushState, 0, 1)])) 0 [];
      (d.transaction 0).imageFault ⟨List.replicate 16 0, []⟩ = some 1) := by decide +kernel

theorem witness_StartUpActs :
    (let d := hon Dev.reset [(H.porLow, 0, 1)]; d.get F.BOOT_STATUS_STEP = 0 ∧ d.hget H.tripHeld = 0 ∧ d.hget H.porLow = 1) ∧
    (∀ k ∈ [1, 9, 11, 13], let d := atStep k; d.watchedStep = some k ∧ 1 ≤ d.get F.BOOT_STATUS_STEP ∧ d.get F.BOOT_STATUS_STEP ≤ 13 ∧
      d.ready = false ∧ d.get F.TOP_STATUS_BOOT_FAIL ≠ 1 ∧ d.hget H.pushState ≠ 1 ∧ d.hget H.lathCause = 0 ∧ d.get F.BOOT_PUSH_STATUS_STATE ≠ 1) ∧
    restarting.watchedStep = some 7 ∧ (on (atStep 7) [(F.BOOT_PUSH_STATUS_STATE, 0, 1)]).get F.BOOT_PUSH_STATUS_STATE = 1 ∧
    (atStep 10).get F.BOOT_STATUS_STEP = 10 ∧ (atStep 10).lathRuns = true ∧ (atStep 12).get F.BOOT_STATUS_STEP = 12 ∧ (atStep 12).lathRuns = true ∧
    (let d := hon (atStep 13) [(H.seatWait, 0, 1), (H.seatTicks, 0, 3)]; d.hget H.seatWait ≠ 0 ∧ 3 ≤ d.hget H.seatTicks ∧ d.lathRuns = true) ∧
    acc up (rq []) identifySpec = true ∧ up.get F.TOP_STATUS_BOOT_FAIL = 0 ∧
    (let d := on Dev.reset [(F.TOP_STATUS_BOOT_FAIL, 0, 1)]; d.get F.TOP_STATUS_BOOT_FAIL = 1 ∧ (rq []).port = 4 ∧ d.portUp 4 = true ∧
      d.cmd.queue = []) := by
  decide +kernel

/-- What step 0 of a read finds at the offset. -/
def found (off : Nat) (p : Reg → Nat → Bool) : Bool :=
  match findReg off with
  | some (r, i) => p r i
  | none => false

/-- What the shadow copies of source slot 0 make of a write of ING_SLOT_CFG. -/
def slotWrite (d : Dev) (w : Nat) : Option Admission :=
  match findReg 0x1400000 with
  | some (r, i) =>
    let d := (d.transaction 0).writeParts r i w
    if r.shadowed && (d.ruledWrite 0 r.base i w).isNone then
      (d.shadowStored r.base i w).map fun w => d.admitShadow (r.shFields.map fun f => sw f i (fieldOf f w))
    else none
  | none => none

/-- A shadow write that fits Mere's bandwidth, and one that does not while Mere is out of service. -/
theorem witness_ShadowWrite : reach up 0 0x1400000 = true ∧ inMsix 0x1400000 = false ∧
    slotWrite (on up [(F.MERE_STATUS_IN_SERVICE, 0, 1)]) 0x101 = some .admitted ∧
    (match slotWrite up 0x101 with | some (.bandwidth claim) => 0 < claim | _ => false) = true := by decide +kernel

theorem witness_RegisterAccessActs :
    -- a register of RW fields, one with a rule of its own, one with SH fields, at the first and last of the windows
    (let d := up; reach d 0 0x200014 = true ∧ inMsix 0x200014 = false ∧
      found 0x200014 (fun r i => !r.shadowed && (d.transaction 0 |>.ruledWrite 0 r.base i 5).isNone && r.base < 0x1C80000) = true) ∧
    (reach up 0 0x700004 = true ∧ found 0x700004 (fun r i => (up.transaction 0 |>.ruledWrite 0 r.base i 1).isSome) = true) ∧
    (reach up 0 0x1600000 = true ∧ found 0x1600000 (fun r i => r.shadowed && (up.transaction 0 |>.ruledWrite 0 r.base i 1).isNone) = true) ∧
    (reach up 0 0x301000 = true ∧ reach up 0 0x3013FC = true ∧ inMsix 0x301000 = true) ∧
    (up.busFault 0x800000 = none ∧ up.hostBarred 1 0x800000 = true) ∧
    (up.busFault 0x700004 = none ∧ ((up.transaction 0).latched 0 0x700004).isNone = true) ∧
    (((up.transaction 0).latch 0 0x700004).latched 0 0x700004).isSome = true ∧
    (let d := on up [(F.CMD_LEASE_HOLDER_HOLDER, 2, 0), (F.MERE_STATUS_IN_SERVICE, 0, 1)]; d.holder 2 = 0 ∧ d.mereRefuses = false) ∧ up.holder 2 ≠ 0 ∧
    2 < up.get F.BOOT_STATUS_STEP := by decide +kernel

/-- An access of a master. -/
def at_ (addr : Nat) : Access := { addr, size := 4, beats := 1, write := false, words := [] }

/-- A burst from the front of the queue, after arbitration and what it ends. -/
def atTarget (d : Dev) (m k : Nat) (x : Access) : Dev := (({ State.reset with dev := d.arbitrate m k x }).endEarlier m k).dev

theorem witness_TargetErrorOutcomes :
    (let d := on up [(F.BUS_HUNG_TARGETS, 0, 0x110)]; d.targetOf 0x1000000000 = some 8 ∧ d.hung 8 = true ∧ (atTarget d 0 8 (at_ 0x1000000000)).hung 8 = true) ∧
    (let x := at_ 0x800000000; up.targetOf x.addr = some 7 ∧ (atTarget up 0 7 x).hung 7 = false ∧ (atTarget up 0 7 x).targetTakes 7 x = false) ∧
    (let x := at_ 0x20000000; up.targetOf x.addr = some 2 ∧ (atTarget up 0 2 x).hung 2 = false ∧ (atTarget up 0 2 x).targetTakes 2 x = true ∧ x.left = 0) ∧
    (let x := at_ 0x40200014; up.targetOf x.addr = some 4 ∧ up.decodes (x.addr - 0x40000000) = true ∧ (atTarget up 0 4 x).hung 4 = false ∧
      (atTarget up 0 4 x).targetTakes 4 x = true ∧ (atTarget up 0 4 x).meetsTest x = false) := by decide +kernel

theorem witness_Arbitration :
    (let s := up.get F.BUS_ARB_STARVE; up.grantNext 2 [(5, s), (3, s), (0, s - 1)] = 3 ∧ 0 < s) ∧
    up.hget H.busTurn 2 = 0 ∧ up.hget H.busUsed 2 < up.get F.BUS_WEIGHT_WEIGHT 0 ∧ up.grantNext 2 [(0, 0), (6, 0)] = 0 ∧
    up.grantNext 2 [(6, 0), (2, 0)] = 2 ∧ 2 = (up.hget H.busTurn 2 + 1 + 1) % 8 ∧
    (let d := hon up [(H.busTurn, 2, 7), (H.busUsed, 2, 15)]; d.get F.BUS_WEIGHT_WEIGHT 7 ≤ d.hget H.busUsed 2 ∧ d.grantNext 2 [(7, 0)] = 7) := by
  decide +kernel

theorem witness_BusMatrixActs :
    up.targetOf 0xFFFFFFFFFFFF0000 = none ∧ up.get F.BUS_SUMP_INFO_VALID = 0 ∧ goodBurst (at_ 0xFFFFFFFFFFFF0000) = true ∧
    (let x : Access := { at_ 0xFFFFFFFFFFFF0FF0 with size := 16, beats := 2 }; up.targetOf x.addr = none ∧ goodBurst x = false) ∧
    (on up [(F.BUS_SUMP_INFO_VALID, 0, 1)]).get F.BUS_SUMP_INFO_VALID = 1 ∧ reach up 0 0x200018 = true ∧ bit 0x80000000 31 = true ∧
    reach up 0 0x200000 = true ∧
    (let d := on up [(F.BUS_HUNG_TARGETS, 0, 0x110)]; d.hung 8 = true ∧ d.targetOf 0x1000000000 = some 8) ∧
    up.hung 8 = false ∧ up.targetTakes 8 (at_ 0x1000000000) = true ∧
    (let d := on up [(F.PCI_OB_CTRL_EN, 0, 1), (F.PCI_LINK_STATUS_BME, 0, 1), (F.PCI_LINK_STATUS_UP, 0, 1)];
      d.get F.PCI_OB_CTRL_EN 0 ≠ 0 ∧ d.get F.PCI_LINK_STATUS_BME ≠ 0 ∧ d.get F.PCI_LINK_STATUS_UP ≠ 0) ∧
    up.get F.PCI_OB_CTRL_EN 15 = 0 ∧ up.targetOf 0x1FFFFFFFFC = some 8 ∧ up.evt.obErr = false := by decide +kernel

/-! ### Events, ports, commands, pins -/

theorem witness_AccessTypesAct :
    F.CMD_PORT_CTRL_ENABLE.acc = .rw ∧ F.BUS_SUMP_INFO_VALID.acc = .w1c ∧
    F.GPIO_ARM_ARM.acc = .w1s ∧ F.TICK_STATUS_RUN.acc ≠ .rw ∧
    F.TICK_STATUS_RUN.acc ≠ .w1c ∧ F.TICK_STATUS_RUN.acc ≠ .w1s ∧
    (∃ r, findReg 0x1F40010 = some r ∧ r.1.base ≠ 0xF00104 ∧ r.1.parts = [.fld F.FEN_BUSY_MAX_CYCLES]) ∧
    F.FEN_BUSY_MAX_CYCLES.acc = .rc ∧ F.TICK_STATUS_RUN.id ≠ F.FEN_BUSY_MAX_CYCLES.id :=
  ⟨rfl, rfl, rfl, by decide, by decide, by decide, ⟨_, rfl, by decide, rfl⟩, rfl, by decide⟩

theorem witness_CsrCommandsAct :
    acc up (rq [⟨0x0101, w4 0x200014⟩, ⟨0x0102, w4 1⟩]) csrReadSpec = true ∧ up.busFault 0x200014 = none ∧
    (let d := on up [(F.TOP_STATUS_WINDOWS_OPEN, 0, 0)]; d.csrHung = false ∧ d.windowOpen 0x200014 = false) ∧
    acc (held up) (rq [⟨0x0101, w4 0x800000⟩, ⟨0x0103, w4 5⟩]) csrWriteSpec (fun ts e =>
      !(List.range (wordsIn ((tlv? ts 0x0103).getD [])).length).any fun k => !e.heldBy 4 (tlvNum ts 0x0101 + 4 * k)) = true ∧
    (let q := rq [⟨0x0101, w4 0x800000⟩, ⟨0x0103, w4 5⟩]; let r := parseTlvs (q.payload.length + 1) 0 q.payload
      takes up q 0x0911 (fun e => e.ready && e.rolePermits q.port 0x0911 &&
        ((List.range (((tlv? r.1 0x0103).getD []).length / 4)).any fun k => !e.heldBy q.port (tlvNum r.1 0x0101 + 4 * k))) = true ∧
      csrWriteSpec.form r.1 r.2 = none) ∧
    (up.writeWord 0 0x200014 5).2 = .admitted := by decide +kernel

theorem witness_EventCommandsAct :
    reach up 0 0x400000 = true ∧ reach up 0 0x40007C = true ∧ reach up 0 0x400080 = true ∧ reach up 0 0x4000FC = true ∧
    (({ up with evt := { up.evt with sources := [⟨1023, some 7, 0, ⟨1023, [], 0, 0⟩⟩] } } : Dev).evt.source 1023).last = some 7 ∧
    reach up 0 0x40018C = true ∧ reach up 0 0x400184 = true ∧ up.get F.EVT_CTRL_HOST_READER = 0 ∧ (1#32).toNat % 2 = 1 ∧
    up.lathRuns = true ∧
    acc up (rq [⟨0x0101, w4 0⟩, ⟨0x0102, w4 113⟩]) eventLogReadSpec (fun ts e => serialSub 32 e.evt.wr (tlvNum ts 0x0101) == 0) = true ∧
    acc { up with evt := { up.evt with wr := 4096 } } (rq [⟨0x0101, w4 0⟩, ⟨0x0102, w4 1⟩]) eventLogReadSpec
      (fun ts e => serialSub 32 e.evt.wr (tlvNum ts 0x0101) == 4096) = true ∧
    acc up (rq []) eventCountsGetSpec = true ∧ 3 ≤ up.get F.BOOT_STATUS_STEP ∧ (hon up [(H.pciWasReset, 0, 0)]).hget H.pciWasReset = 0 ∧
    (let d := hon up [(H.pciWasReset, 0, 1), (H.msixEnable, 0, 1)]; d.hget H.pciWasReset = 1 ∧ d.hget H.msixEnable = 1) := by
  decide +kernel

/-- The media of P0, P1 and P3 are up and their ports enabled; P1 has a key. -/
def linked : Dev :=
  let d := on up [(F.PCI_LINK_STATUS_UP, 0, 1), (F.MGT_STATUS_LINK, 0, 1), (F.CSW_ROLE_CAUSEWAY_UP, 0, 1), (F.CMD_PORT_CTRL_ENABLE, 0, 1),
    (F.CMD_PORT_CTRL_ENABLE, 1, 1), (F.CMD_PORT_CTRL_ENABLE, 3, 1), (F.MGT_IPV4_IPV4, 0, 0x0A000001), (F.CMD_UDP_PORT_PORT, 0, 4000)]
  d.setKey 1 fun k => { k with key := some [7#8] }

/-- A NOP as it stands on P1 and on P4, tag 1; on P1 with counter 5 and before its trailer. -/
def nopOn1 : List Byte := [1, 4, 1, 3, 0, 1, 1, 0, 0, 0, 0, 0, 0, 0, 0, 5]
def nopOn4 : List Byte := [1, 0, 1, 3, 0, 1, 4, 0, 0, 0, 0, 0, 0, 0, 0, 0]

theorem witness_PortsTakePacketsInOrder :
    up.portUp 4 = true ∧ goodPacket 4 [] = false ∧ goodPacket 4 nopOn4 = true ∧ keyed 4 = false ∧ up.cmd.queue = [] ∧
    (let d := linked.setSender ⟨1, 9, 4, 1⟩;
      let bs := nopOn1 ++ hmac [7#8] nopOn1;
      d.portUp 1 = true ∧ goodPacket 1 bs = true ∧ keyed 1 = true ∧ (d.cmd.portKey 1).key = some [7#8] ∧
      hmac [7#8] (bs.take (bs.length - 32)) = bs.drop (bs.length - 32) ∧ d.sender? 1 9 = some ⟨1, 9, 4, 1⟩ ∧
      Sender.accepts ⟨1, 9, 4, 1⟩ (beVal (slice 12 4 bs)) = true) ∧
    (let bs := nopOn1 ++ List.replicate 32 0#8;
      goodPacket 1 bs = true ∧ hmac [7#8] (bs.take (bs.length - 32)) ≠ bs.drop (bs.length - 32)) ∧
    Sender.accepts ⟨1, 9, 64, 1⟩ 1 = true ∧ Sender.accepts ⟨1, 9, 64, 1⟩ 65 = true ∧ Sender.accepts ⟨1, 9, 0, 0⟩ (2 ^ 32 - 1) = true ∧
    linked.portUp 0 = true ∧ linked.cmd.owned.contains 63 = false ∧
    ({ linked with cmd := { linked.cmd with owned := [63] } } : Dev).cmd.owned.contains 63 = true ∧
    (let d : Dev := { up with cmd := { up.cmd with ready := [0], readyFinal := [0], owned := [0] } };
      d.cmd.ready.contains 0 = true ∧ d.cmd.readyFinal.contains 0 = true ∧ (d.cmd.waits.find? fun w => w.slot == 0) = none) ∧
    linked.get F.MGT_IPV4_IPV4 0 = (0x0A000001#32).toNat ∧ linked.get F.CMD_UDP_PORT_PORT = (4000#16).toNat ∧ up.lathRuns = true ∧
    linked.mailboxHung = false ∧ (on linked [(F.BUS_HUNG_TARGETS, 0, 0x20)]).mailboxHung = true ∧ up.uartTakes = true ∧ up.portUp 4 = true ∧
    (let p : Packet := ⟨4, 0, 0, 0x0104, 7, [], none⟩; let d : Dev := { up with cmd := { up.cmd with queue := [p] } };
      headPacket d.cmd.queue = some p ∧ p.is (rq []) 0x0103 = false ∧ (d.cmd.queue.any fun p => p.is (rq []) 0x0103) = false ∧
      opcodes.contains p.opcode = true) ∧
    opcodes.contains 0x0999 = false ∧ up.tagFault (rq []) = none ∧
    (let bs := nopOn4 ++ beBytes 4 (crc32c nopOn4); unslip ((slip bs).dropWhile (· == 0xC0#8)) = some bs ∧ 4 ≤ bs.length ∧
      beBytes 4 (crc32c (bs.take (bs.length - 4))) = bs.drop (bs.length - 4)) := by decide +kernel

theorem witness_SystemCommandsAct :
    acc up (rq []) nopSpec = true ∧ acc up (rq [⟨4, w4 31⟩]) portStatusGetSpec = true ∧
    acc linked (rqOn 0 [⟨0x0101, w4 3⟩, ⟨0x0102, List.replicate 32 1⟩]) portKeySetSpec = true ∧
    4 < up.cmd.keys.length ∧
    acc linked (rqOn 1 [⟨0x0101, w4 0⟩]) notifySubscribeSpec (fun ts _ => tlvNum ts 0x0101 == 0) = true ∧
    acc linked (rqOn 1 [⟨0x0101, w4 1⟩]) notifySubscribeSpec (fun ts e => tlvNum ts 0x0101 == 1 && e.cmd.subs == []) = true ∧
    acc { linked with cmd := { linked.cmd with subs := List.replicate 4 ⟨1, 7, 1, 0, 0⟩ } } (rqOn 1 [⟨0x0101, w4 1⟩]) notifySubscribeSpec
      (fun ts e => tlvNum ts 0x0101 != 0 && 4 ≤ (e.cmd.subs.filter fun s => !(s.port == 1 && s.src == 0)).length) = true ∧
    acc up (rq [⟨0x0101, w4 0xFFFF⟩]) leaseTakeSpec (fun ts e => e.role == 0 && e.get F.CMD_PORT_CTRL_LEASE_ALLOW 4 != 0 &&
      (unitList (tlvNum ts 0x0101)).all fun u => e.holder u == 7) = true ∧
    acc (on up [(F.CMD_LEASE_HOLDER_HOLDER, 15, 0)]) (rq [⟨0x0101, w4 0x8000⟩]) leaseTakeSpec (fun ts e => e.role == 0 &&
      e.get F.CMD_PORT_CTRL_LEASE_ALLOW 4 != 0 &&
      (unitList (tlvNum ts 0x0101)).find? (fun u => e.holder u != 7 && e.holder u != 4) == some 15) = true ∧
    acc up (rq []) leaseRenewSpec = true ∧ acc up (rq [⟨0x0101, w4 0⟩]) leaseReleaseSpec = true ∧
    acc up (rq []) leaseStatusSpec = true ∧ (held up).unitsOf 4 ≠ [] ∧
    acc up (rq [⟨2, [0, 0, 6, 0]⟩]) protectSpec (fun ts e => e.barredDests 4 (tlvRange ts) == []) = true ∧
    acc (hon up [(H.protectedBy, 1535, 0)]) (rq [⟨2, [5, 255, 0, 1]⟩]) protectSpec
      (fun ts e => e.barredDests 4 (tlvRange ts) == [1535]) = true ∧
    acc (hon linked [(H.protectedBy, 0, 4)]) (rqOn 0 [⟨2, [0, 0, 0, 1]⟩, ⟨0x0101, w4 1⟩]) unprotectSpec
      (fun ts e => hasTlv ts 0x0101 && (rangeList (tlvRange ts)).any fun i => e.hget H.protectedBy i != 0xFF) = true ∧
    acc (hon up [(H.protectedBy, 0, 4)]) (rq [⟨2, [0, 0, 0, 1]⟩]) unprotectSpec (fun ts e => !hasTlv ts 0x0101 &&
      e.barredDests 4 (tlvRange ts) == [] && (rangeList (tlvRange ts)).any fun i => e.hget H.protectedBy i != 0xFF) = true ∧
    acc up (rq [⟨2, [0, 0, 0, 1]⟩]) protectGetSpec = true := by decide +kernel

theorem witness_GpioActs :
    up.hget H.gpioWindow 31 = 0 ∧ up.hget H.gpioPin 31 ≠ ofBool (up.hget H.gpioPin 31 == 0) ∧
    (let d := hon up [(H.gpioWindow, 0, 5)]; d.hget H.gpioWindow 0 ≠ 0) ∧
    (let d := hon (on up [(F.GPIO_CFG_FUNC, 3, 3)]) [(H.gpioEdges, 3, 1000)]; d.watches 3 = true ∧ (d.hset H.gpioEdges 3 0).watches 3 = true ∧
      d.get F.GPIO_TIMING_CHATTER_LIMIT / 10 < d.hget H.gpioEdges 3 ∧ bit (d.get F.GPIO_CHATTER_CHATTER) 3 = false) ∧
    (let d := hon (on up [(F.GPIO_CFG_FUNC, 3, 3), (F.GPIO_TIMING_STUCK_TIME, 0, 1)]) [(H.gpioActive, 3, 1)];
      d.get F.GPIO_TIMING_STUCK_TIME ≠ 0 ∧ d.hget H.gpioActive 3 ≠ 0 ∧ d.watches 3 = true ∧ bit (d.get F.GPIO_STUCK_STUCK) 3 = false) ∧
    reach up 0 0xA00000 = true ∧ reach up 0 0xA0007C = true ∧ reach up 0 0xA00114 = true ∧
    acc up (rq [⟨0x0101, w4 31⟩, ⟨0x0102, w4 1⟩]) gpioConfigSpec (fun ts _ => !hasTlv ts 0x0103) = true ∧
    acc up (rq [⟨0x0101, w4 31⟩, ⟨0x0102, w4 1⟩, ⟨0x0103, w4 0⟩]) gpioConfigSpec (fun ts _ => hasTlv ts 0x0103) = true ∧
    acc up (rq [⟨0x0101, w4 1⟩, ⟨0x0102, w4 1⟩]) gpioSetSpec = true ∧ acc up (rq []) gpioGetSpec = true := by decide +kernel

theorem witness_WordsAndBytesAgree :
    [1023, 0, 512, 1].length % 4 = 0 ∧ (∀ w ∈ [1023, 0, 512, 1], w < 1024) ∧ [1#8, 2, 3, 4, 255].length % 5 = 0 ∧
    (∀ c ∈ [k285, k277, k281, k237, k280, k297, .dat 0, .dat 255], violation c = false) := by decide

/-- D.0.0 and D.21.5 as IEEE 802.3 tabulates them, in both disparities, and K28.5 in the negative one. -/
theorem test_8b10b : (encodeChars false [.dat 0x00]).1 = [0b1001110100] ∧ (encodeChars true [.dat 0x00]).1 = [0b0110001011] ∧
    (encodeChars false [.dat 0xB5]).1 = [0b1010101010] ∧ (encodeChars false [k285]).1 = [0b0011111010] ∧
    (decodeGroups false [0b1111111111]).1 = [.bad] := by decide

/-! ### Lanes and ingest -/

/-- Lane `n` in a state, for 300 ms of CORE time. -/
def laneIn (n st : Nat) : Dev :=
  let d := on up [(F.REED_LANE_STATUS_RX_STATE, n, st), (F.REED_LANE_CFG_RX_EN, n, 1), (F.CSW_CFG_EN, 0, 1)]
  { d with clock := ⟨300000000, 0⟩ }

theorem witness_LanesReceive :
    (let d := hon (laneIn 391 0) [(H.reedSignal, 391, 1)]; d.laneState 391 = 0 ∧ d.rxEnabled 391 = true ∧ d.hget H.reedSignal 391 = 1) ∧
    (laneIn 0 1).laneState 0 = 1 ∧ (let d := laneIn 391 2; d.laneState 391 = 2 ∧ d.get F.REED_LANE_CTRL_AUTO_ALIGN 391 = 1) ∧
    (let d := on (laneIn 383 1) [(F.REED_LANE_CFG_RX_RATE, 383, 0)]; d.laneState 383 = 1 ∧ d.get F.REED_LANE_CFG_RX_RATE 383 = 0 ∧
      d.hget H.reedCdr 383 = 0) ∧
    up.clock.core < up.hget H.reedSince 0 + 10000000 ∧
    (let d := laneIn 0 0; d.hget H.reedSince 0 + 10000000 ≤ d.clock.core ∧ d.laneState 0 = 0 ∧ d.rxEnabled 0 = true) ∧
    (∀ st ∈ [1, 2, 3, 4], (laneIn 5 st).laneState 5 = st) ∧
    (let f : FomIn := ⟨40, true, false, 0, 0⟩; let d := hon (laneIn 5 1) [(H.reedGood, 5, 9)];
      let e := (d.readEye 5 f).readLock 5 f; 40 ≤ f.fom.toNat ∧ 10 ≤ e.hget H.reedGood 5 + 1) ∧
    (let f : FomIn := ⟨40, true, false, 0, 0⟩; let d := hon (laneIn 5 4) [(H.reedGood, 5, 999)];
      let e := (d.readEye 5 f).readLock 5 f; e.hget H.reedDiscards 5 ≤ e.get F.REED_DEG_CFG_DEG_DISCARDS ∧ 1000 ≤ e.hget H.reedGood 5 + 1) ∧
    (∀ st ∈ [1, 2, 3, 4], (laneIn 5 st).cycleState 5 = (laneIn 5 st).laneState 5 ∧ (laneIn 5 st).cycleState 5 = st) ∧
    -- the lane left its state in this CORE cycle already: for a state other than DOWN, and for DOWN with cause 5
    (let d := hon (laneIn 5 2) [(H.reedSince, 5, 300000000), (H.reedPrev, 5, 0), (H.reedFrom, 5, 1)]; d.cycleState 5 ≠ d.laneState 5 ∧ d.laneState 5 ≠ 0 ∧
      d.cycleState 5 = 1) ∧
    (let d := hon (on (laneIn 5 0) [(F.REED_LANE_STATUS_CAUSE, 5, 5)]) [(H.reedSince, 5, 300000000), (H.reedPrev, 5, 0), (H.reedFrom, 5, 1)];
      d.cycleState 5 ≠ d.laneState 5 ∧ d.laneState 5 = 0 ∧ 1 < d.get F.REED_LANE_STATUS_CAUSE 5 ∧ d.get F.REED_LANE_STATUS_CAUSE 5 ≤ 5) ∧
    (on (laneIn 391 2) [(F.REED_LANE_STATUS_IDLE_SEEN, 391, 1)]).get F.REED_LANE_STATUS_IDLE_SEEN 391 = 1 ∧
    (laneIn 391 2).get F.REED_LANE_STATUS_IDLE_SEEN 391 = 0 ∧
    (let f : FomIn := ⟨30, true, false, 0, 0⟩; 20 ≤ f.fom.toNat ∧ f.fom.toNat < 40) ∧
    ((laneIn 5 3).checkGroups 5 0 (encodeChars false (superframe ⟨7, 1, 1, 1, 15, 1⟩ [[1023, 5, 6, 7]] none)).1).isLeft = true ∧
    ((laneIn 5 3).checkGroups 5 0 []).isLeft = false ∧ (laneIn 5 3).startExpected 5 0 = true ∧
    (let d := hon (laneIn 5 3) [(H.reedStart, 5, 1)]; d.startExpected 5 1 = false ∧ d.startExpected 5 2048 = true ∧
      ((decodeGroups (d.rxDisparity 5 1 []) []).1).any violation = false) ∧
    reach up 0 (laneCtrlOff 0) = true ∧ reach up 0 (laneCtrlOff 383) = true := by decide +kernel

theorem witness_LanesTransmit :
    (on up [(F.REED_LANE_STATUS_TX_STATE, 383, 1)]).get F.REED_LANE_STATUS_TX_STATE 383 ≠ 2 ∧
    (let d := on up [(F.REED_LANE_STATUS_TX_STATE, 0, 2), (F.XPT_DEST_CFG_ENABLE, 0, 1)]; d.get F.REED_LANE_STATUS_TX_STATE 0 = 2 ∧
      d.destOn 0 = true ∧ d.overCapacity 0 = false ∧ d.txCarries 0 = true ∧ d.txCarries 1 = false) ∧
    (hon up [(H.txIdle, 15, 1)]).hget H.txIdle 15 ≠ 0 := by decide +kernel

/-- Source slot 0 in a state. -/
def slotIn (st : Nat) : Dev := on up [(F.ING_SLOT_STATUS_STATE, 0, st)]

theorem witness_IngestActs :
    (∀ st ∈ [1, 2, 3], (slotIn st).slotState ((slotIn st).slotBase 0) ≠ 0 ∧ (slotIn st).slotBase 0 = 0) ∧
    (slotIn 0).slotState ((slotIn 0).slotBase 0) = 0 ∧
    (let d := slotIn 2; d.slotState 0 ≠ 0 ∧ d.slotState 0 ≠ 1 ∧ (d.causes 0).head? = some 1) ∧
    (let d := hon (on (slotIn 1) [(F.ING_SLOT_CFG_FEED_KIND, 0, 1), (F.ING_SLOT_CFG_PATH, 0, 1)]) [(H.feedLock, 0, 1), (H.feedLost, 0, 0)];
      d.slotState 0 = 1 ∧ d.causes 0 = []) ∧
    (slotIn 1).slotBase 0 = 0 ∧ (slotIn 3).slotState 0 = 3 ∧
    (let l : StoredLine := ⟨0, 1, 0, false, ⟨[], []⟩⟩; let f : RingFrame := ⟨0, 0, false, false, 0, [l]⟩
      let d := (slotIn 3).onIng fun x => { x with rings := [⟨0, 1, none, false, [f], 0, 0, []⟩] };
      (d.ring 0).frames.getLast? = some f ∧ ((slotIn 3).ring 0).frames.getLast? = none ∧ (placed f.lines).getLast? = some (l, 0)) ∧
    reach up 0 (reskimOff 0) = true ∧ reach up 0 (reskimOff 1535) = true ∧
    (let d := on (slotIn 3) [(F.ING_SLOT_STATUS_FELL_BACK, 0, 1)]; d.get F.ING_SLOT_STATUS_FELL_BACK 0 = 1 ∧ d.hget H.ingOutside 0 = 0 ∧
      d.slotState 0 = 3) ∧
    (let d := on up [(F.CLK_STATUS_LOCK, 0, 0x3FFFF)]; ((List.range 18).all fun n => perInstance (n + 1) || bit (d.get F.CLK_STATUS_LOCK) n) = true) ∧
    ((List.range 18).any fun n => perInstance (n + 1)) = true := by decide +kernel

/-! ### Mere, the crosspoint, the multiviewer and the converters -/

theorem witness_MereErrorsAct :
    up.get F.MERE_STATUS_IN_SERVICE ≠ 1 ∧ (on up [(F.MERE_STATUS_IN_SERVICE, 0, 1)]).get F.MERE_STATUS_IN_SERVICE = 1 ∧
    reach up 0 0x1500034 = true ∧ bit (0x80000000#32).toNat 31 = true ∧ bit (0x7FFFFFFF#32).toNat 31 = false := by decide +kernel

/-- Destination 0 is enabled, in a running tick. -/
def sends : Dev := on runs [(F.XPT_DEST_CFG_ENABLE, 0, 1)]

/-- The same on the skim path of slot 0. -/
def skims : Dev := hon (on sends [(F.XPT_DEST_STATUS_SOURCE, 0, 0), (F.ING_SLOT_STATUS_ON_SKIM, 0, 1)]) [(H.destLost, 0, 0)]

theorem witness_TheSealVoteActs :
    sends.running = true ∧ sends.destOn 0 = true ∧
    sends.destIdle 0 = false ∧ (on sends [(F.XPT_DEST_CFG_LOSS_POLICY, 0, 2)]).destIdle 0 = true ∧
    up.running = false ∧ runs.destOn 0 = false ∧ sends.get F.XPT_DEST_STATUS_PLANE 0 < 2 ∧
    (hon sends [(H.destBlack, 0, 1)]).hget H.destBlack 0 = 1 ∧ sends.hget H.destBlack 0 ≠ 1 ∧ sends.hget H.destLost 0 = 1 ∧
    sends.get F.XPT_DEST_CFG_LOSS_POLICY 0 = 0 ∧ (on sends [(F.XPT_DEST_CFG_LOSS_POLICY, 0, 1)]).get F.XPT_DEST_CFG_LOSS_POLICY 0 ≠ 0 ∧
    skims.hget H.destBlack 0 ≠ 1 ∧ skims.hget H.destLost 0 ≠ 1 ∧ skims.slotOnSkim 0 = true ∧
    reach up 0 0x1680300 = true ∧
    ([0x80010000, 0x80010000 + 1535].any fun w => fieldOf F.XPT_INJECT_GO w == 1 && fieldOf F.XPT_INJECT_COUNT w != 0 &&
      fieldOf F.XPT_INJECT_DEST w < 1536) = true ∧ fieldOf F.XPT_INJECT_GO 0 = 0 := by decide +kernel

theorem witness_TheSwitchLineActs :
    (let s := hon runs [(H.destSwitched, 0, 0)]; let mark := s.get F.TICK_EPOCH_EPOCH + 1;
      let d := (s.passToCore (s.tick.t0Core + switchStart (s.get F.XPT_DEST_STATUS_FORMAT 0) (s.destRate 0))).hset H.destSwitched 0 mark;
      s.running = true ∧ s.destStarts 0 s.tick.frame = true ∧ s.hget H.destSwitched 0 ≠ mark ∧
      isBase s.inEffect F.XPT_DEST_CFG_GANG 0 = true ∧
      isBase (on s [(F.XPT_DEST_CFG_GANG, 0, 1)]).inEffect F.XPT_DEST_CFG_GANG 1 = false ∧ 1 < gangSize 1 ∧
      (d.xpt.entries.find? fun e => e.dest == 0 && e.armed) = none ∧
      (d.xpt.changeovers.find? fun c => c.dest == 0 && d.allows c.dest c.source s.tick.frame) = none ∧
      (let e : Entry := ⟨0, 0, 3, 5, true, 0, 4, 1⟩; let d := d.onXpt fun x => { x with entries := [e] };
        (d.xpt.entries.find? fun e => e.dest == 0 && e.armed) = some e) ∧
      (let c : Changeover := ⟨0, 1536, true⟩; let d := d.onXpt fun x => { x with changeovers := [c] };
        (d.xpt.changeovers.find? fun c => c.dest == 0 && d.allows c.dest c.source s.tick.frame) = some c)) ∧
    (hon runs [(H.destSwitched, 0, runs.get F.TICK_EPOCH_EPOCH + 1)]).hget H.destSwitched 0 = runs.get F.TICK_EPOCH_EPOCH + 1 := by
  decide +kernel

/-- A held salvo. -/
def salvoHeld : Dev := (held runs).onXpt fun x => { x with held := [⟨63, 0, 1, 4, 1, 0⟩] }

theorem witness_TakeCommandsAct :
    acc runs (rq [dr 0 1536, ⟨3, w4 0⟩, ⟨1, w8 9⟩]) takeSpec = true ∧
    (∀ p ∈ [(takeSpec, rq [dr 1535 1, ⟨3, w4 0⟩, ⟨1, w8 (6 + 2 ^ 20)⟩]), (salvoSpec, rq [⟨1, w8 (2 ^ 48)⟩, pr 0x0101 0 1]),
        (fireSpec, rq [⟨0x0102, w4 63⟩, ⟨1, w8 (6 + 2 ^ 20)⟩])],
      let r := parseTlvs (p.2.payload.length + 1) 0 p.2.payload
      takes runs p.2 p.1.op (fun e => e.ready && e.rolePermits p.2.port p.1.op && e.frameNow + 2 ^ 20 < frameTlv r.1) = true ∧
        p.1.form r.1 r.2 = none) ∧
    acc runs (rq [dr 1535 1, ⟨3, w4 0⟩, ⟨1, w8 (5 + 2 ^ 20)⟩]) takeSpec = true ∧
    (let v := runs.viewAt 6; runs.routeNamed v 1536 0 = false ∧ runs.routeNamed v 0 0 = true ∧ runs.tooLate 0 = true ∧ runs.tooLate 9 = false ∧
      (hon runs [(H.protectedBy, 0, 1)]).barredBy 4 0 = true) ∧
    acc runs (rq [⟨1, w8 9⟩, pr 0x0101 0 1, pr 0x0101 1 1]) salvoSpec (fun ts _ =>
      ((twiceNamed 0 [] ts).orElse fun _ => routeOver ts) == none) = true ∧
    acc runs (rq [pr 0x0101 0 1, pr 0x0101 0 2]) salvoSpec (fun ts _ =>
      ((twiceNamed 0 [] ts).orElse fun _ => routeOver ts) == some 1) = true ∧
    acc runs (rq [⟨0x0102, w4 63⟩, pr 0x0101 0 1]) prepareSpec (fun ts e =>
      let held := e.xpt.heldOf (tlvNum ts 0x0102);
      (held.isEmpty || hasTlv ts 0x0103) && ((twiceNamed 0 (held.map HeldRoute.dest) ts).orElse fun _ => routeOver ts) == none &&
        held.length + (routesOf (tlvAll ts 0x0101)).length ≤ 1536) = true ∧
    acc runs (rq [⟨0x0102, w4 0⟩]) fireSpec (fun ts e => e.xpt.heldOf (tlvNum ts 0x0102) == []) = true ∧
    acc salvoHeld (rq [⟨0x0102, w4 63⟩, ⟨1, w8 9⟩]) fireSpec (fun ts e =>
      e.xpt.heldOf (tlvNum ts 0x0102) != []) = true ∧
    acc salvoHeld (rq [⟨0x0102, w4 63⟩]) discardSpec (fun ts e => (e.xpt.heldOf (tlvNum ts 0x0102)).length != 0) = true ∧
    acc runs (rq [dr 0 1, ⟨1, w8 0⟩]) cancelSpec (fun ts e => e.tooLate (frameTlv ts)) = true ∧
    acc runs (rq [dr 0 1, ⟨1, w8 9⟩]) cancelSpec (fun ts e => !e.tooLate (frameTlv ts)) = true ∧
    acc runs (rq [dr 0 256]) takeListSpec = true ∧
    acc runs (rq [⟨0x0101, w4 31⟩, ⟨0x0102, w4 0xFF⟩]) triggerSpec (fun ts _ => tlvNum ts 0x0102 == 0xFF) = true ∧
    acc runs (rq [⟨0x0101, w4 0⟩, ⟨0x0102, w4 63⟩]) triggerSpec = true := by decide +kernel

theorem witness_CrosspointConfigActs :
    acc up (rq [dr 1 2, ⟨0x0102, w4 1⟩]) destConfigSpec (fun ts _ => let r := tlvRange ts; let z := gangSize (tlvNum ts 0x0102);
      hasTlv ts 0x0102 && (r.1 % z != 0 || r.2 % z != 0)) = true ∧
    acc (on up [(F.MERE_STATUS_IN_SERVICE, 0, 1)]) (rq [dr 1535 1, ⟨0x0103, w4 1⟩]) destConfigSpec (fun ts e => let ws := destWrites ts; let n := e.changeFrame (frameTlv ts);
      !hasTlv ts 0x0102 && !hasTlv ts 0x0101 && e.rangeBarred 4 (tlvRange ts) ws == none && e.admission n ws == none) = true ∧
    acc (hon up [(H.protectedBy, 0, 1)]) (rq [dr 0 1, ⟨0x0104, w4 2⟩]) destConfigSpec (fun ts e => let ws := destWrites ts;
      !hasTlv ts 0x0102 && e.rangeBarred 4 (tlvRange ts) ws == some 0) = true ∧
    acc up (rq [dr 0 1, ⟨0x0101, w4 0x00A01000⟩]) destConfigSpec (fun ts e => let ws := destWrites ts;
      let v := e.plannedAt (e.changeFrame (frameTlv ts)); hasTlv ts 0x0101 && e.rangeBarred 4 (tlvRange ts) ws == none &&
        e.modeMismatch v 0 (tlvNum ts 0x0101)) = true ∧
    acc (on up [(F.CNV_CFG_EN, 63, 1), (F.CNV_CFG_DEST, 63, 0)]) (rq [dr 0 2, ⟨0x0102, w4 1⟩]) destConfigSpec (fun ts e =>
      let r := tlvRange ts; let z := gangSize (tlvNum ts 0x0102); let ws := destWrites ts; let v := e.plannedAt (e.changeFrame (frameTlv ts));
      !(r.1 % z != 0 || r.2 % z != 0) && (rangeList r).any fun i => e.hasConverter (e.heldWrites ws) v i &&
        gangSize ((v.over ws) F.XPT_DEST_CFG_GANG i) != gangSize (v F.XPT_DEST_CFG_GANG i)) = true ∧
    acc up (rq [dr 0 1, ⟨0x0106, w4 1⟩]) destConfigSpec (fun ts e =>
      !hasTlv ts 0x0101 && !hasTlv ts 0x0102 && (e.admission (e.changeFrame (frameTlv ts)) (destWrites ts)).isSome) = true ∧
    acc (on up [(F.MERE_STATUS_IN_SERVICE, 0, 1)]) (rq [pr 0x0101 1535 1, ⟨0x0105, w4 0⟩]) sourceConfigSpec (fun ts e => let n := e.changeFrame (frameTlv ts);
      !hasTlv ts 0x0102 && !hasTlv ts 0x0103 &&
        e.admission n (sourceWrites ts ++ e.bundleWrites (e.plannedAt n) ((e.plannedAt n).over (sourceWrites ts)) (sourceWrites ts)) == none) = true ∧
    acc up (rq [pr 0x0101 1 1, ⟨0x0103, w4 3⟩]) sourceConfigSpec (fun ts _ => hasTlv ts 0x0103 &&
      (tlvRange ts 0x0101).1 % gangSize (tlvNum ts 0x0103) != 0) = true ∧
    acc (hon up [(H.protectedBy, 0, 1)]) (rq [dr 0 1, ⟨3, w4 1567⟩]) changeoverConfigSpec (fun ts e =>
      e.rangeBarred 4 (tlvRange ts) (changeoverWrites ts) == some 0) = true ∧
    acc up (rq [dr 0 1, ⟨3, w4 0x7FF⟩]) changeoverConfigSpec (fun ts e => tlvNum ts 3 == 0x7FF &&
      e.rangeBarred 4 (tlvRange ts) (changeoverWrites ts) == none) = true ∧
    acc up (rq [⟨0x0101, w4 15⟩, ⟨0x0102, w4 0⟩]) generatorConfigSpec (fun ts _ => !generatorFormat (bits (tlvNum ts 0x0102) 16 8)) = true ∧
    acc up (rq [⟨0x0101, w4 15⟩, ⟨0x0102, w4 0x10000⟩]) generatorConfigSpec (fun ts e =>
      generatorFormat (bits (tlvNum ts 0x0102) 16 8) && !e.supports (bits (tlvNum ts 0x0102) 12 4)) = true ∧
    acc up (rq [⟨0x0101, w4 0⟩, ⟨0x0102, w4 (0x10000 + 4096 * up.rate)⟩]) generatorConfigSpec (fun ts e =>
      generatorFormat (bits (tlvNum ts 0x0102) 16 8) && e.supports (bits (tlvNum ts 0x0102) 12 4)) = true ∧
    acc up (rq [dr 1472 64]) destStatusGetSpec = true ∧ acc up (rq [pr 0x0101 1535 1]) sourceStatusGetSpec = true := by decide +kernel

theorem witness_MultiviewerActs :
    (hon up [(H.mvComposing, 15, 1)]).hget H.mvComposing 15 = 1 ∧
    up.get F.MV_SCALER_POOL_RETIRED + up.hget H.scalerTest ≠ 8 ∧ up.get F.MV_SCALER_POOL_RETIRED < 8 ∧
    (on up [(F.MV_SCALER_POOL_RETIRED, 0, 9)]).get F.MV_SCALER_POOL_RETIRED = 9 ∧
    acc up (rq [⟨0x0101, w4 15⟩, ⟨0x0102, w4 0⟩]) headConfigSpec (fun ts e => hasTlv ts 0x0102 && !e.headFormat (tlvNum ts 0x0102)) = true ∧
    acc up (rq [⟨0x0101, w4 15⟩, ⟨0x0102, w4 0x207001⟩]) headConfigSpec (fun ts e => let n := e.changeFrame (frameTlv ts);
      e.headFormat (tlvNum ts 0x0102) && e.raisesClaim n (headWrites ts) && (e.admission n (headWrites ts)).isSome) = true ∧
    acc up (rq [⟨0x0101, w4 0⟩]) headConfigSpec (fun ts e => !hasTlv ts 0x0102 && !e.raisesClaim (e.changeFrame (frameTlv ts)) (headWrites ts)) = true ∧
    (let q := rq [⟨0x0101, w4 0⟩, ⟨0x0106, w4 0⟩, ⟨0x0107, w4 0⟩, ⟨0x0108, w4 0x00400040⟩, ⟨0x0109, w4 0x80000000⟩];
      let c := fun (p : Dev → View → List ShadowWrite → Bool) (ts : List Tlv) (e : Dev) =>
        let ws := tileWrites ts; let n := e.changeFrame (frameTlv ts); let v := (e.plannedAt n).over ws;
        (tileCfg v 0).en && (match e.checkTile (e.heldWrites ws) v 0 with | .error _ => false | .ok _ => true) && p e v ws
      -- charged and refused; charged on no path, free of guards; on a guarded region
      acc (on up [(F.ING_SLOT_CFG_PATH, 0, 1)]) q tileConfigSpec (c fun e v ws =>
        v F.ING_SLOT_CFG_PATH (gangBase v F.ING_SLOT_CFG_GANG 0) == 1 && (e.admission (e.changeFrame 0) ws).isSome) = true ∧
      acc up q tileConfigSpec (c fun e v ws => v F.ING_SLOT_CFG_PATH (gangBase v F.ING_SLOT_CFG_GANG 0) != 1 &&
        !e.raisesClaim (e.changeFrame 0) ws && !e.onGuard (e.heldWrites ws) v 0) = true ∧
      acc (on up [(F.MV_GUARD_CTRL_EN, 0, 1), (F.MV_GUARD_SIZE_W, 0, 16), (F.MV_GUARD_SIZE_H, 0, 16)]) q tileConfigSpec
        (c fun e v ws => !e.raisesClaim (e.changeFrame 0) ws && e.onGuard (e.heldWrites ws) v 0) = true) ∧
    (let d := on up [(F.MV_TILE_SIZE_W, 0, 64), (F.MV_TILE_SIZE_H, 0, 64)]; let v := d.inEffect; let t := tileCfg v 0;
      let r := headRaster (v F.MV_HEAD_CFG_FORMAT 0); t.placed r = true ∧ t.source < 1536 ∧ (tileCfg up.inEffect 0).placed r = false ∧
      (tileCfg (on d [(F.MV_TILE_SRC_SOURCE, 0, 1536)]).inEffect 0).placed r = true) ∧
    (let d := on up [(F.MV_TILE_SIZE_W, 0, 64), (F.MV_TILE_SIZE_H, 0, 64), (F.MV_TILE_SRC_PROXY_SEL, 0, 1), (F.ING_SLOT_STATUS_FORMAT, 0, 0x50)];
      let t := tileCfg d.inEffect 0; let raster := d.tileRaster d.inEffect t.source; proxyCharge (proxySize raster (t.proxy raster)).1 = none ∧
      t.placed (headRaster (d.inEffect F.MV_HEAD_CFG_FORMAT 0)) = true) ∧
    acc (on up [(F.MV_TILE_SRC_EN, 63, 1), (F.MV_TILE_SIZE_W, 63, 16), (F.MV_TILE_SIZE_H, 63, 16)])
      (rq [⟨0x0101, w4 0⟩, ⟨0x010D, w4 63⟩, ⟨0x010E, w4 0 ++ w4 0x00100010⟩, ⟨0x010F, w4 0x80000000⟩]) guardConfigSpec (fun ts e =>
        e.onTile (e.heldWrites (guardWrites ts)) ((e.plannedAt (e.changeFrame (frameTlv ts))).over (guardWrites ts)) 63) = true ∧
    acc up (rq [⟨0x0101, w4 15⟩, ⟨0x0106, w4 63⟩]) tileConfigSpec (fun ts e => let ws := tileWrites ts; let n := e.changeFrame (frameTlv ts);
      let v := (e.plannedAt n).over ws; !(tileCfg v 1023).en && !e.raisesClaim n ws && !e.onGuard (e.heldWrites ws) v 1023) = true ∧
    acc up (rq [⟨0x0101, w4 0⟩, ⟨0x0106, w4 0⟩, ⟨0x0107, w4 0xFFFFFFFF⟩, ⟨0x0109, w4 0x80000000⟩]) tileConfigSpec (fun ts e => let ws := tileWrites ts;
      let v := (e.plannedAt (e.changeFrame (frameTlv ts))).over ws; (tileCfg v 0).en &&
        (match e.checkTile (e.heldWrites ws) v 0 with | .error _ => true | .ok _ => false)) = true ∧
    acc up (rq [⟨0x0101, w4 15⟩, ⟨0x0106, w4 63⟩]) corniceConfigSpec = true ∧
    acc up (rq [⟨0x0101, w4 0⟩, ⟨0x010D, w4 63⟩]) guardConfigSpec (fun ts e =>
      !e.onTile (e.heldWrites (guardWrites ts)) ((e.plannedAt (e.changeFrame (frameTlv ts))).over (guardWrites ts)) 63) = true ∧
    acc up (rq [⟨0x0101, w4 15⟩, ⟨0x0110, w4 7⟩, ⟨0x0111, w4 10⟩]) csetConfigSpec = true ∧
    acc up (rq [⟨0x0101, w4 15⟩]) headStatusGetSpec = true := by decide +kernel

/-- Unit 0 serves converter 0. -/
def converts : Dev := hon (on up [(F.CNV_CFG_EN, 0, 1), (F.CNV_STATUS_PHYS, 0, 0)]) []

/-- Every spare converter has failed. -/
def noSpares : Dev := (converts.each (List.range 4) fun d u => d.hset H.cnvFailed (64 + u) 1).hset H.cnvFailed 0 1

/-- Whatever the free value, it picks a spare where there is one. -/
theorem witness_ASpareIsPicked : ∃ n, (converts.hset H.cnvFailed 0 1).fresh.2.cnvSpares[(converts.hset H.cnvFailed 0 1).fresh.1 %
    max 1 (converts.hset H.cnvFailed 0 1).fresh.2.cnvSpares.length]? = some n := by
  have h : 0 < (converts.hset H.cnvFailed 0 1).fresh.2.cnvSpares.length := by decide +kernel
  exact ⟨_, List.getElem?_eq_getElem (Nat.lt_of_lt_of_eq (Nat.mod_lt _ (by omega)) (Nat.max_eq_right h))⟩

theorem witness_ConvertersAct :
    up.liveCnv F.CNV_CFG_PRESET 0 = 0 ∧ (2 ^ 14 - 4) % 4 = 0 ∧ noSpares.cnvServed 0 = some 0 ∧ noSpares.fresh.2.cnvSpares = [] ∧
    noSpares.fresh.2.testing 1 = false ∧
    (converts.hset H.cnvFailed 0 1).fresh.2.cnvSpares ≠ [] ∧
    acc up (rq [⟨0x0101, w4 63⟩, ⟨0x0102, w4 0x90000000⟩]) converterConfigSpec (fun ts e => let ws := optWrites ts 0x0102 cnvCfgFields 63;
      !e.cnvRules (e.heldWrites ws) ((e.plannedAt (e.changeFrame (frameTlv ts))).over ws) 63) = true ∧
    acc up (rq [⟨0x0101, w4 0⟩, ⟨0x0103, w4 0⟩, ⟨0x0104, w4 6⟩, ⟨0x0105, w4 11⟩, ⟨0x0106, [0, 0]⟩]) converterLutLoadSpec (fun ts e =>
      tlvNum ts 0x0105 + ((tlv? ts 0x0106).getD []).length / 2 ≤ 12 && e.bankTaken 0 (tlvNum ts 0x0103)) = true ∧
    up.poolUnit 1 ≠ 67 ∧ up.cnvServed 67 = none ∧ converts.cnvServed 0 = some 0 ∧ converts.cnvSpares ≠ [] ∧
    reach up 0 0x1900014 = true ∧ reach up 0 (0x1900014 + 0x40 * 63) = true ∧
    (let d := up.transaction 0; [0, 1].any (d.bankTaken 0) = true ∧ [0, 1].all (d.bankTaken 0) = false) ∧
    acc up (rq [⟨0x0101, w4 63⟩]) converterConfigSpec (fun ts e => let ws := optWrites ts 0x0102 cnvCfgFields 63;
      e.cnvRules (e.heldWrites ws) ((e.plannedAt (e.changeFrame (frameTlv ts))).over ws) 63) = true ∧
    acc up (rq [⟨0x0101, w4 0⟩, ⟨0x0103, w4 0⟩, ⟨0x0104, w4 5⟩, ⟨0x0105, w4 4095⟩, ⟨0x0106, [0, 0, 0, 0]⟩]) converterLutLoadSpec (fun ts _ =>
      4096 < tlvNum ts 0x0105 + ((tlv? ts 0x0106).getD []).length / 2) = true ∧
    acc up (rq [⟨0x0101, w4 0⟩, ⟨0x0103, w4 1⟩, ⟨0x0104, w4 6⟩, ⟨0x0105, w4 11⟩, ⟨0x0106, [0, 0]⟩]) converterLutLoadSpec (fun ts e =>
      tlvNum ts 0x0105 + ((tlv? ts 0x0106).getD []).length / 2 ≤ 12 && !e.bankTaken 0 (tlvNum ts 0x0103)) = true ∧
    acc up (rq [⟨0x0101, w4 63⟩]) converterStatusGetSpec = true := by decide +kernel

/-! ### Frames, flows, network time and the reference -/

/-- Instance 0 is up. -/
def mac0 : Dev := on up [(F.ETH_MAC_STATUS_LINK, 0, 1)]

/-- A frame without fault. -/
def eth : EthIn := ⟨64, 64, 0, 0, false, true, pauseMac, none, none, .other, 0⟩

/-- A datagram of flow media. -/
def rtp : RtpIn := ⟨0, 0xEF000001, 5004, true, true, 2, 96, 0, 0, 0, false, ⟨[⟨false, 0, 0, [0, 0, 0, 0, 0]⟩], [], []⟩⟩

theorem witness_ReceivedFramesAreChecked :
    up.instLink 0 = false ∧ mac0.instLink 0 = true ∧ (on up [(F.MGT_STATUS_LINK, 1, 1)]).instLink 33 = true ∧
    0 < ({ eth with uncorrected := 1 } : EthIn).uncorrected ∧ eth.uncorrected = 0 ∧ eth.pcsError = false ∧
    ({ eth with length := 63 } : EthIn).length < 64 ∧ 64 ≤ eth.length ∧ mac0.maxAtSfd 0 { eth with length := 9217 } < ({ eth with length := 9217 } : EthIn).length ∧
    eth.length ≤ mac0.maxAtSfd 0 eth ∧ mac0.hget H.maxFrameAt 0 ≤ mac0.now10 + 1 - mac0.byteTime 0 64 ∧
    (let d := hon mac0 [(H.maxFrameAt, 0, 9)]; d.now10 + 1 - d.byteTime 0 64 < d.hget H.maxFrameAt 0) ∧ ({ eth with fcsOk := false } : EthIn).fcsOk = false ∧ eth.fcsOk = true ∧
    ({ eth with body := .pause 3 } : EthIn).body = .pause 3 ∧ eth.dst = pauseMac ∧ ({ eth with body := .control } : EthIn).body = .control ∧
    eth.body = .other := by decide +kernel

theorem witness_MacsTransmitAndPause :
    (let x : TxIn := ⟨64, 64, none⟩; min x.length (256 * mac0.get F.ETH_TX_START_STEPS 0) ≤ x.fifo) ∧
    (let f : TxFrame := ⟨64, 0, .plain⟩; let e := (mac0.macAdvance 0).bump C.ETH_TX_FRAMES_IN 0;
      f.paced = false ∧ (mac0.macAdvance 0).instThere 0 = true ∧ f.length ≤ e.maxFrame 0 ∧ e.instSends 0 = true ∧
      e.maxFrame 0 < 9217) ∧
    up.instSends 0 = false ∧ ((on up [(F.ETH_PORT_CFG_MODE, 0, 0)]).macAdvance 1).instThere 1 = false ∧
    (let d := (on mac0 [(F.ETH_TX_START_STEPS, 0, 1)]).macAdvance 0; let x : TxIn := ⟨1500, 256, none⟩; d.instSends 0 = true ∧ d.hget H.pauseTimer 0 = 0 ∧ d.pnSpent 0 = false ∧
      x.length ≤ d.maxFrame 0 ∧ d.mayStart 0 x = true ∧ x.fifo < x.length) ∧
    ((hon mac0 [(H.pauseTimer, 0, 5)]).macAdvance 0).hget H.pauseTimer 0 ≠ 0 ∧
    mac0.hget H.txStartCycle 0 ≠ mac0.clock.core + 1 ∧ (let d := mac0.writeStart 0 9; d.hget H.txStartCycle 0 = d.clock.core + 1 ∧ d.hget H.txStartRaised 0 ≤ 32) ∧
    (let d := on up [(F.ETH_PORT_CFG_ENABLE, 0, 1)]; d.get F.ETH_LINK_HOLD_HOLD_MS 0 ≤ 10 ^ 6 ∧ (on d [(F.ETH_LINK_HOLD_HOLD_MS, 0, 5)]).get F.ETH_LINK_HOLD_HOLD_MS 0 > 4 ∧ d.instValid 0 = true ∧ d.get F.ETH_PORT_CFG_ENABLE 0 ≠ 0 ∧
      d.get F.ETH_MAC_STATUS_LINK 0 ≠ 1) ∧
    (on up [(F.MGT_STATUS_LINK, 1, 1)]).get F.MGT_STATUS_LINK (33 - 32) ≠ 0 ∧
    (lanesOf (mac0.get F.ETH_PORT_CFG_MODE 0) 0).contains 0 = true ∧ (mac0.setLane 0 0 false).get F.ETH_MAC_STATUS_LINK 0 ≠ 0 ∧
    ([0, 31, 32, 33].all fun m => reach up 0 (macCfgOff m)) = true ∧ reach up 0 0x1A10010 = true ∧ reach up 0 (0x1A10010 + 0x400 * 31) = true ∧
    (let d := hon (on up [(F.MGT_STATUS_SPEED, 0, 2), (F.MGT_CFG_DOWNSHIFT_EN, 0, 1), (F.MGT_STATUS_PEER_KX, 0, 1)]) [(H.macIdle, 0, 59)];
      let e := (d.passToCore ((d.clock.core / 10 ^ 9 + 1) * 10 ^ 9)).macAdvance 32; e.get F.MGT_STATUS_SPEED 0 = 2 ∧
      min 60 (e.hget H.macIdle 0 + 1) = 60 ∧ e.get F.MGT_CFG_DOWNSHIFT_EN 0 = 1 ∧ e.get F.MGT_STATUS_PEER_KX 0 = 1) ∧
    (let d := ((on up [(F.MGT_STATUS_DOWNSHIFTED, 1, 1)]).setFrames 33 [⟨9000000, 0, .plain⟩]).macAdvance 33;
      d.get F.MGT_STATUS_DOWNSHIFTED 1 = 1 ∧ d.get F.MGT_STATUS_RENEG 1 = 0 ∧
      1024 * d.get F.MGT_SHIFT_CFG_UPSHIFT_KB 1 < ((d.macFrames 33).map TxFrame.length).sum) ∧
    (on up [(F.MGT_STATUS_RENEG, 0, 1)]).get F.MGT_STATUS_RENEG 0 ≠ 0 ∧
    reach up 0 0x1B00060 = true ∧ reach up 0 0x1B01060 = true ∧ bit 0x80000100 31 = true ∧ bit 0x80000100 8 = true ∧
    bit 0x80000003 8 = false := by decide +kernel

/-- Context 0 receives video on its red leg, instance 0. -/
def flow0 : Dev := on mac0 [(F.IPM_RX_CFG_EN, 0, 1), (F.IPM_RX_CFG_PT, 0, 96), (F.IPM_RX_LEG_CTRL_LEG_EN, 0, 1), (F.IPM_RX_LEG_CTRL_INST, 0, 0),
  (F.IPM_RX_LEG_DST_DST_IP, 0, 0xEF000001), (F.IPM_RX_LEG_CTRL_UDP_PORT, 0, 5004), (F.IPM_RX_STATUS_RED_UP, 0, 1), (F.IPM_RX_STATUS_STATE, 0, 2), (F.IPM_RX_CFG_FORMAT, 0, 0x20)]

theorem witness_FlowsReceiveAndPlay :
    flow0.get (legUp 0) 0 = 1 ∧ (on up [(F.IPM_RX_STATUS_BLUE_UP, 2047, 1)]).get (legUp 1) 2047 = 1 ∧ flow0.get F.IPM_RX_STATUS_STATE 0 = 2 ∧
    (let d := flow0.bump C.IPM_INST_OFFERED 0; rtp.headerOk = true ∧ d.matchLeg 0 rtp = some 0 ∧
      let e := (d.bump C.IPM_INST_MATCHED 0).bump C.IPM_RX_LEG_RX 0;
      e.invalidCause 0 rtp = none ∧ e.invalidCause 0 { rtp with pt := 97 } = some 2 ∧ e.invalidCause 0 { rtp with udpOk := false } = some 6) ∧
    (let e := flow0; let c := e.rx 0; e.mergeClass c rtp = .used ∧
      (on e [(F.IPM_RX_CFG_ESSENCE, 0, 3), (F.IPM_RX_CFG_EN, 0, 0)]).mergeClass c { rtp with body := ⟨[], [(9, ⟨true, [0, 0, 0]⟩)], []⟩ } = .overflow ∧
      (let d := e.packetUsed 0 0 rtp; d.mergeClass (d.rx 0) rtp = .duplicate)) ∧
    flow0.get F.IPM_RX_CFG_EN 0 ≠ 0 ∧ flow0.get F.IPM_RX_CFG_ESSENCE 0 = 0 ∧ mac0.lathRuns = true ∧ mac0.instLink 0 = true ∧
    (let a : IgmpAsked := ⟨0, 0, 9⟩; let d : Dev := { mac0 with ipm := { mac0.ipm with asked := [a] } };
      (d.ipm.asked.find? fun a => a.inst == 0) = some a) ∧
    (let r : IgmpReport := ⟨31, 4, 0xEF000001, []⟩; let d : Dev := { mac0 with ipm := { mac0.ipm with repeats := [r] } };
      (d.ipm.repeats.find? fun r => r.inst == 31) = some r) := by decide +kernel

/-- A packet of a leg. -/
def pkt : RtpOut := ⟨0, 0, false, 96, 0, 0, 0, 0, 0, 0, none, 0, ⟨[⟨false, 0, 0, [0, 0, 0, 0, 0]⟩], [], []⟩⟩

theorem witness_FlowsAreSent :
    (let d := on runs [(F.IPM_TX_CFG_EN, 2047, 1), (F.IPM_TX_CFG_ESSENCE, 2047, 1), (F.IPM_TX_CFG_PTIME, 2047, 0)];
      d.get F.IPM_TX_CFG_EN 2047 ≠ 0 ∧ d.running = true ∧ d.get F.IPM_TX_CFG_ESSENCE 2047 = 1 ∧ d.get F.IPM_TX_CFG_PTIME 2047 = 0 ∧
      (d.schedule 2047 ⟨0, 0, false, 0⟩).isSome = true) ∧
    runs.get F.IPM_TX_CFG_EN 0 = 0 ∧ up.running = false ∧ runs.schedule 0 ⟨0, 0, false, 0⟩ = none ∧ runs.get F.IPM_TX_LEG_CTRL_LEG_EN 0 = 0 ∧
    (let d := on mac0 [(F.IPM_TX_LEG_CTRL_LEG_EN, 0, 1), (F.IPM_TX_CFG_ESSENCE, 0, 1)]; d.get F.IPM_TX_LEG_CTRL_LEG_EN 0 ≠ 0 ∧
      ((d.bump C.IPM_TX_LEG_MADE 0).offerFrame 0 ⟨rtpLength pkt, d.now10, .flow 0 0 0 pkt⟩).get F.IPM_TX_CFG_ESSENCE 0 ≠ 0) ∧
    (let d := on mac0 [(F.IPM_TX_LEG_CTRL_LEG_EN, 0, 1)];
      ((d.bump C.IPM_TX_LEG_MADE 0).offerFrame 0 ⟨rtpLength pkt, d.now10, .flow 0 0 0 pkt⟩).get F.IPM_TX_CFG_ESSENCE 0 = 0 ∧
      (let e := (d.bump C.IPM_TX_LEG_MADE 0).offerFrame 0 ⟨rtpLength pkt, d.now10, .flow 0 0 0 pkt⟩; e.stagingBytes 0 < e.ipmQueued 0 * rtpLength pkt)) ∧
    acc up (rq [⟨0x0101, w4 1⟩, ⟨0x0102, w4 2047⟩, ⟨0x0103, w4 2⟩]) flowStatusSpec (fun ts _ => 2048 < tlvNum ts 0x0102 + tlvNum ts 0x0103) = true ∧
    acc up (rq [⟨0x0101, w4 0⟩, ⟨0x0102, w4 2047⟩, ⟨0x0103, w4 1⟩]) flowStatusSpec (fun ts _ => tlvNum ts 0x0102 + tlvNum ts 0x0103 == 2048) = true ∧
    acc up (rq [⟨0x0101, w4 31⟩]) igmpStatusSpec = true := by decide +kernel

theorem witness_FlowConfigurationIsChecked :
    acc up (rq [⟨0x0101, w4 2047⟩]) rxFlowSpec (fun ts e => e.rxFlowFault ts (e.changeFrame (frameTlv ts)) (rxFlowWrites ts) == none) = true ∧
    acc up (rq [⟨0x0101, w4 0⟩, ⟨0x0102, w4 0x40000000⟩]) rxFlowSpec (fun ts e => cfgUnsupported ts &&
      e.rxFlowFault ts (e.changeFrame (frameTlv ts)) (rxFlowWrites ts) == some (St.badParam, 0x0102, 0x23)) = true ∧
    acc (on up [(F.MERE_STATUS_IN_SERVICE, 0, 1)]) (rq [⟨0x0101, w4 2047⟩]) txFlowSpec (fun ts e => e.txFlowFault ts (e.changeFrame (frameTlv ts)) (txFlowWrites ts) == none) = true ∧
    acc up (rq [⟨0x0101, w4 0⟩, ⟨0x0102, w4 0x40000000⟩]) txFlowSpec (fun ts e =>
      (e.txFlowFault ts (e.changeFrame (frameTlv ts)) (txFlowWrites ts)).isSome) = true ∧
    acc up (rq [⟨0x0101, w4 31⟩]) instanceConfigSpec = true ∧
    (let ts : List Tlv := [⟨0x0103, List.replicate 16 0⟩, ⟨0x0103, List.replicate 16 0⟩]; cfgUnsupported ts = false ∧ legsDistinct ts = false) ∧
    (let ts : List Tlv := [⟨0x0101, w4 1⟩]; let v := (flow0.plannedAt 0).over []; cfgUnsupported ts = false ∧ legsDistinct ts = true ∧
      rxFault v flow0.blocks48 1 = none ∧ v F.IPM_RX_CFG_EN 1 = 0) ∧
    (let v := (on flow0 [(F.IPM_RX_CFG_ESSENCE, 0, 2)]).inEffect; v F.IPM_RX_CFG_EN 0 = 1 ∧ v F.IPM_RX_LEG_CTRL_LEG_EN 0 = 1 ∧
      v F.IPM_RX_CFG_ESSENCE 0 = 2) := by decide +kernel

/-- Interface 0 is on port M0; its grandmaster is known. -/
def ptp0 : Dev := (on up [(F.PTP_IF_CFG_EN, 0, 1), (F.PTP_IF_CFG_BIND, 0, 32), (F.PTP_STATUS_SERVO, 0, 3)]).setPif 0 fun p =>
  { p with announces := [⟨5, 1, 6, 0, 0, 1, 0, 7, 0, 0⟩] }

/-- A Sync of the domain. -/
def sync : PtpMsg := ⟨2, true, 0, ptp0.get F.PTP_CFG_DOMAIN, false, 0, 7, 0, 0, false, 0, 0, 0, 0, 0, 0, 0, 0⟩

theorem witness_NetworkTimeActs :
    ptp0.ifOf 32 = some 0 ∧ (ptp0.bump C.PTP_IF_RX_ALL 0).ptpOn 0 = true ∧
    (on up [(F.PTP_IF_CFG_BIND, 0, 32)]).ifOf 32 = some 0 ∧ (on up [(F.PTP_IF_CFG_BIND, 0, 32)]).ptpOn 0 = false ∧
    (sync.version != 2 || !sync.whole || !([0, 1, 8, 9, 0xB].contains sync.typ)) = false ∧ sync.domain = ptp0.get F.PTP_CFG_DOMAIN ∧
    ({ sync with domain := 200 } : PtpMsg).domain ≠ ptp0.get F.PTP_CFG_DOMAIN ∧ ptp0.fromParent 0 sync = false ∧ 0 = ptp0.ifSel ∧
    ptp0.fromParent 0 { sync with typ := 0xB } = true ∧ sync.twoStep = false ∧
    (ptp0.pif 0).announces = [⟨5, 1, 6, 0, 0, 1, 0, 7, 0, 0⟩] ∧ ptp0.lathRuns = true ∧ ptp0.servo = 3 ∧
    (ptp0.parentPort ptp0.ifSel).isSome = true ∧ ptp0.ptpOn 0 = true ∧
    (up.busFault 0x900400 = none ∧ up.busFault (0x900400 + 0x20 * 9) = none) ∧ up.txq.getD 9 [] = [] ∧
    ({ up with txq := [[⟨32, 1, 1, 0⟩]] } : Dev).txq.getD 0 [] = [⟨32, 1, 1, 0⟩] ∧
    reach up 0 0x90003C = true ∧ up.get F.PTP_STATUS_SET = 0 ∧
    (let d := on up [(F.PTP_STATUS_SET, 0, 1)]; d.get F.PTP_STATUS_SET ≠ 0 ∧ (0 : Int).natAbs ≤ d.stepLimit ∧
      d.stepLimit < (2 ^ 60 : Int).natAbs) ∧
    reach up 0 0x90000C = true ∧ reach up 0 0x900008 = true ∧
    (let d := on up [(F.PTP_STATUS_SERVO, 0, 5)]; d.servo = 5 ∧ (d.set F.PTP_STEP_LIMIT_NS 0 1).stepPend.natAbs ≤ (d.set F.PTP_STEP_LIMIT_NS 0 1).stepLimit) ∧
    up.servo ≠ 5 ∧ acc up (rq [⟨0x0101, w4 255⟩]) ptpConfigSpec = true ∧
    acc up (rq [⟨0x0101, w4 3⟩, ⟨0x0102, w4 0⟩]) ptpIfConfigSpec (fun ts _ => bits (tlvNum ts 0x0102) 31 1 == 0) = true ∧
    acc ptp0 (rq [⟨0x0101, w4 1⟩, ⟨0x0102, w4 (2 ^ 31 + 32 * 2 ^ 24)⟩]) ptpIfConfigSpec (fun ts e => bits (tlvNum ts 0x0102) 31 1 == 1 &&
      (List.range 64).any fun b => e.bindTaken 1 b) = true ∧
    acc up (rq []) ptpStatusSpec = true ∧ acc up (rq []) ptpStepAcceptSpec (fun _ e => e.servo != 5) = true ∧
    acc (on up [(F.PTP_STATUS_SERVO, 0, 5)]) (rq [⟨0x0101, w8 0⟩]) ptpStepAcceptSpec (fun ts e => e.servo == 5 &&
      (e.stepPend - 65536 * toSigned 64 (tlvNum ts 0x0101)).natAbs ≤ 65536000) = true ∧
    acc (on up [(F.PTP_STATUS_SERVO, 0, 5)]) (rq [⟨0x0101, w8 (2 ^ 63 - 1)⟩]) ptpStepAcceptSpec (fun ts e => e.servo == 5 &&
      (e.stepPend - 65536 * toSigned 64 (tlvNum ts 0x0101)).natAbs > 65536000) = true := by decide +kernel

/-- Input 0 is enabled and its pins are active. -/
def ref0 (st : Nat) : Dev := hon (on up [(F.REF_IN_CFG_EN, 0, 1), (F.REF_IN_STATUS_STATE, 0, st)]) [(H.refGood, 0, 2), (H.refEdge, 0, 1), (H.refOn, 0, 1)]

theorem witness_ReferenceInputsAct :
    (ref0 3).refOn = true ∧ up.refOn = false ∧ up.get F.REF_IN_CFG_FALLING (up.pinOwner 0) = 0 ∧
    (on up [(F.REF_IN_CFG_FALLING, 0, 1)]).get F.REF_IN_CFG_FALLING 0 = 1 ∧ ((ref0 3).refBar 1).isSome = true ∧
    (let d := hon up [(H.refEdge, 3, 1), (H.refOn, 0, 1)]; d.refOn = true ∧ d.hget H.refEdge 3 ≠ 0) ∧ (hon up [(H.refPhcWrite, 0, 1)]).hget H.refPhcWrite ≠ 0 ∧
    ([1, 2, 3].all fun st => let d := ref0 st; d.refOn && d.refState 0 == st && d.refActive 0 && (d.refBar 0).isNone &&
      (d.set F.REF_IN_FREQ_VALUE 0 5).refState 0 == st && d.get F.REF_LIMITS_ACCEPT_PPB < d.get F.REF_LIMITS_REJECT_PPB) = true ∧
    (up.refState 0 = 0 ∨ up.refActive 0 = false) ∧ ((ref0 2).reviewInput 0).refState 0 = 2 ∧ (ref0 2).refOn = true ∧ (ref0 3).refState 0 = 3 := by decide +kernel

theorem witness_ReferenceLoopActs :
    (let d := on (ref0 3) [(F.REF_CTRL_FORCE_EN, 0, 1), (F.REF_CTRL_FORCE_IN, 0, 0)]; d.get F.REF_CTRL_FORCE_EN = 1 ∧
      d.qualified.contains (d.get F.REF_CTRL_FORCE_IN) = true) ∧
    (let d := on (ref0 3) [(F.REF_CTRL_REVERTIVE, 0, 0), (F.REF_CTRL_FORCE_EN, 0, 0), (F.REF_STATUS_SELECTED, 0, 0)];
      d.get F.REF_CTRL_FORCE_EN = 0 ∧ d.get F.REF_CTRL_REVERTIVE = 0 ∧ d.qualified.contains (d.get F.REF_STATUS_SELECTED) = true) ∧
    (let d := ref0 3; d.refOn = true ∧ d.get F.REF_STATUS_LOOP ≠ 2) ∧ up.refOn = false ∧
    (let d := hon (on up [(F.REF_STATUS_LOOP, 0, 2)]) [(H.refSteady, 0, 1), (H.refOn, 0, 1)]; d.refOn = true ∧ d.get F.REF_STATUS_LOOP = 2 ∧ d.hget H.refSteady = 1) ∧
    up.lathRuns = true ∧ up.holder 10 = 7 ∧ ((up.refHist.drop 60).filterMap id).length < 150 ∧
    150 ≤ ((({ up with refHist := List.replicate 210 (some 0) } : Dev).refHist.drop 60).filterMap id).length ∧ reach up 0 0x80003C = true ∧
    (on up [(F.REF_STATUS_SELECTED, 0, 4), (F.REF_IN_CFG_ALIGN, 4, 1)]).aligned = true ∧ (on up [(F.REF_STATUS_SELECTED, 0, 7)]).aligned = false ∧
    up.slewNow.phaseRemain.natAbs = 0 ∧
    acc up (rq [⟨0x0101, w4 1⟩, ⟨0x0102, w4 0x2000000⟩]) refInputConfigSpec (fun ts _ => hasTlv ts 0x0102 &&
      !goodType 1 (bits (tlvNum ts 0x0102) 24 3)) = true ∧
    acc up (rq [⟨0x0101, w4 6⟩, ⟨0x0102, w4 0⟩]) refInputConfigSpec (fun ts _ => hasTlv ts 0x0102 &&
      goodType 6 (bits (tlvNum ts 0x0102) 24 3)) = true ∧
    acc up (rq [⟨0x0101, w4 1⟩]) refLoopConfigSpec = true ∧ acc up (rq []) refStatusGetSpec = true ∧
    acc up (rq [⟨0x0101, w8 0⟩, ⟨0x0102, w4 1⟩]) refPhaseAdjustSpec = true ∧
    acc up (rq [⟨0x0101, w4 0xFF⟩]) refForceSpec = true ∧ acc up (rq [⟨0x0101, w4 6⟩]) refForceSpec = true ∧
    acc up (rq [⟨0x0101, w4 65535⟩]) xoTrimSetSpec = true := by decide +kernel

/-! ### Audio ports and the mixer -/

/-- Port 0 in a state. -/
def aport (st : Nat) : Dev := on up [(F.APT_PORT_STATUS_STATE, 0, st)]

/-- A pin frame that passes every check: FS low in its first cycle alone. -/
def pinFrame (d : Dev) : PortFrame :=
  ⟨0, ⟨false, false, false, false⟩ :: List.replicate (d.portSlots 0 * d.portWidth 0 - 1) ⟨true, false, true, false⟩, 0⟩

theorem witness_AudioPortsAct :
    ([0, 1, 2, 3, 4, 5].all fun st => (aport st).portState 0 == st && ((aport st).pass 0).portState 0 == st) = true ∧
    ((aport 4).pass 0).isFrame 0 [⟨true, false, true, false⟩] = false ∧
    ([1, 4, 5].all fun st => ((aport st).pass 0).isFrame 0 (pinFrame up).cycles) = true ∧
    (aport 1).acqCause 0 (pinFrame up) = 0 ∧ (aport 1).hget H.aptRun 0 + 1 < 16 ∧ 16 ≤ (hon (aport 1) [(H.aptRun, 0, 15)]).hget H.aptRun 0 + 1 ∧
    5000000 < (PortFrame.mk 0 [] 5000001).ppb.natAbs ∧ (pinFrame up).ppb.natAbs ≤ 5000000 ∧
    (let d := ((((aport 4).pass 0).set F.APT_PORT_FS_PPB 0 (ofSigned 32 0)).hset H.aptEdge 0 (up.clock.core + 1)).applyMask 0;
      d.hget H.aptRestart 0 = 0 ∧ (d.pinFrame 0 (pinFrame up).cycles).get F.APT_PORT_CFG_GROUP 0 = 0) ∧
    up.get F.APT_PORT_CFG_BCLK_FALL 0 = 0 ∧ (on up [(F.APT_PORT_CFG_BCLK_FALL, 23, 1)]).get F.APT_PORT_CFG_BCLK_FALL 23 = 1 ∧
    (up.pfifo 0).words.length + (List.replicate 4096 0).length ≤ 4096 ∧ 2 ≤ ((up.fifoIn 0 [5, 6]).pfifo 0).words.length ∧
    (let d := on (up.fifoIn 0 [5, 6]) [(F.APT_PORT_CFG_DIR, 0, 1)]; (d.pfifo 0).words.length < 3 ∧ d.get F.APT_PORT_CFG_DIR 0 = 1) ∧
    (let d := aport 4; 2 ≤ d.portState 0 ∧ d.portState 0 ≤ 4 ∧
      (let e := d.passToCore (d.hget H.aptEdge 0 - 1 + 2 * d.portPeriod 0); e.portState 0 = 4 ∧ e.hget H.aptRestart 0 = 0)) ∧
    (let d := aport 2; 2 ≤ d.portState 0 ∧ (d.passToCore (d.hget H.aptEdge 0 - 1 + 2 * d.portPeriod 0)).portState 0 ≠ 4) ∧
    reach up 0 (aptPort 0) = true ∧ reach up 0 (aptPort 23) = true ∧
    (let d := up.transaction 0; d.portCfgRefusal 0 0x80000000 = 0 ∧ d.portCfgRefusal 0 0 = 0 ∧ d.portCfgRefusal 0 0x30000000 ≠ 0 ∧
      (portCfgFields.foldl (fun d f => d.set f 0 (fieldOf f (portCfgWord 0x80000000))) d).portState 0 = 0) ∧
    reach up 0 (aptPort 23 + 0xC) = true ∧ reach up 0 (aptPort 23 + 4) = true ∧ reach up 0 (aptPort 23 + 0x10) = true ∧
    (hon up [(H.aptWait, chanIx 23 31, 1)]).hget H.aptWait (chanIx 23 31) ≠ 0 ∧ reach up 0 (aptGroup 0) = true ∧ reach up 0 (aptGroup 7) = true ∧ bit 0 30 = false ∧
    (let w := 0 ||| 2 ^ 31; bit w 31 = true ∧ bit w 30 = false) ∧
    (let w := (0x400000 ||| 2 ^ 30); bits w 20 3 = 4 ∧ bit w 31 = false ∧ bit w 30 = true) ∧
    (hon up [(H.aptTrigger, 7, 1)]).hget H.aptTrigger 7 ≠ 0 := by decide +kernel

/-- Port 0 is a READY member of group 1. -/
def member : Dev := on (aport 2) [(F.APT_PORT_CFG_GROUP, 0, 1)]

theorem witness_AudioPortCommandsAct :
    acc up (rq [⟨0x0101, w4 23⟩, ⟨0x0102, w4 0⟩, ⟨0x0103, w4 0⟩]) aportConfigSpec (fun ts e => e.portCfgRefusal 23 (tlvNum ts 0x0102) == 0) = true ∧
    acc (aport 4) (rq [⟨0x0101, w4 0⟩, ⟨0x0102, w4 0x10000000⟩]) aportConfigSpec (fun ts e => e.portCfgRefusal 0 (tlvNum ts 0x0102) == 0x51) = true ∧
    acc up (rq [⟨0x0101, w4 23⟩, ⟨0x0104, w4 1⟩, ⟨0x0105, w4 1⟩]) aportMuteSpec = true ∧
    acc up (rq [⟨0x0106, w4 8⟩, ⟨0x0107, w4 0x0004001F⟩]) aportGroupConfigSpec = true ∧
    acc (on up [(F.APT_GROUP_CTRL_START_SRC, 0, 3), (F.CMD_LEASE_HOLDER_HOLDER, 15, 0)]) (rq [⟨0x0106, w4 1⟩])
      aportArmSpec (fun _ e => e.get F.APT_GROUP_CTRL_START_SRC 0 == 3 && e.holder 15 != 7) = true ∧
    acc up (rq [⟨0x0106, w4 1⟩]) aportArmSpec (fun _ e => e.holder 15 == 7 && !(e.members 0).any fun p => e.portState p == 2) = true ∧
    acc member (rq [⟨0x0106, w4 1⟩]) aportArmSpec (fun _ e => e.holder 15 == 7 && (e.members 0).any fun p => e.portState p == 2) = true ∧
    acc up (rq [⟨0x0106, w4 8⟩]) aportStartSpec (fun _ e => e.get F.APT_GROUP_CTRL_ARM 7 == 0) = true ∧
    acc (on up [(F.APT_GROUP_CTRL_ARM, 0, 1), (F.APT_GROUP_CTRL_START_SRC, 0, 4)]) (rq [⟨0x0106, w4 1⟩]) aportStartSpec (fun _ e =>
      e.get F.APT_GROUP_CTRL_ARM 0 == 1 && e.get F.APT_GROUP_CTRL_START_SRC 0 == 4) = true ∧
    acc up (rq [⟨0x0101, w4 23⟩]) aportRestartSpec = true ∧
    acc up (rq [⟨0x0108, w4 23⟩, ⟨0x0109, w4 2⟩]) aportStatusGetSpec = true ∧ acc up (rq [⟨0x0108, w4 0⟩, ⟨0x0109, w4 24⟩]) aportStatusGetSpec = true ∧
    (on up [(F.APT_GROUP_CTRL_ARM, 7, 1)]).get F.APT_GROUP_CTRL_ARM 7 ≠ 0 := by decide +kernel

/-- One list fits, whichever free unit it takes. -/
def oneFits (e : Dev) (ts : List Tlv) (k ramp : Nat) (l : List (Nat × Int)) : Bool :=
  let us := [e.fresh.1 % 131072]
  let d := e.fresh.2
  let ws := ([(k, l)].zip us).flatMap fun p => listWrites p.1.1 p.2 ramp p.1.2
  (l.all fun t => !reservedChannel t.1) && l.length == 1 && !repeatsSource l && decide (gainLoad l ≤ loadLimit) && e.holder 13 == 7 &&
    e.unitRuns == [] && d.placeable (d.mixJobs (d.listLengths (d.heldWrites ws) ((d.plannedAt (e.changeFrame (frameTlv ts))).over ws)))

theorem allot_empty (s : Nat) (h : s < 131072) : allot [] s [1] = some [s] := by
  simp only [allot, findUnits, unitsFree, List.map_nil, List.filter_nil, List.all_nil, Bool.and_true, sortBy, List.find?_cons]
  simp [show s + 1 ≤ 131072 by omega]

theorem oneFits_sound {e : Dev} {ts : List Tlv} {k ramp : Nat} {l : List (Nat × Int)} (h : oneFits e ts k ramp l = true) :
    e.ListsFit ts ramp [(k, l)] [e.fresh.1 % 131072] := by
  simp only [oneFits, Bool.and_eq_true, List.all_eq_true, Bool.not_eq_true', beq_iff_eq, decide_eq_true_eq] at h
  obtain ⟨⟨⟨⟨⟨⟨h1, h2⟩, h3⟩, h4⟩, h5⟩, h6⟩, h7⟩ := h
  have u : unitsFor l.length = 1 := by rw [h2]; rfl
  refine ⟨?_, .inl h5, ?_, ?_, h7⟩
  · simp only [List.mem_singleton]; rintro x rfl; exact ⟨h1, by show l.length ≤ 4096; omega, h3, .inr h4⟩
  · rw [h6]; simp [u, unitsIn, sortBy]
  · rw [h6, List.map_singleton, u]; exact allot_empty _ (Nat.mod_lt _ (by omega))

/-- A Fen engine is served. -/
def mixer : Dev := on up [(F.FEN_MAP_VALID, 0, 1)]

theorem witness_ListsFit :
    acc mixer (rq [⟨0x0101, w4 0⟩, ⟨0x0103, [0, 1, 0, 0, 0x10, 0, 0, 0]⟩]) mixSetSpec (fun ts e => !hasTlv ts 0x0104 &&
      oneFits e ts 0 480 ((tlvAll ts 0x0103).map tapOf)) = true ∧
    acc mixer (rq [⟨0x0101, w4 0⟩, ⟨0x0105, w4 1⟩, ⟨0x0106, w4 0x10000000⟩]) tapGainSpec (fun ts e =>
      !hasTlv ts 0x0107 && tapsOf (e.plannedAt (e.changeFrame (frameTlv ts))) 0 == [] && oneFits e ts 0 480 [(1, 0x10000000)]) = true ∧
    acc mixer (rq [⟨0x0108, w4 0⟩, ⟨0x0109, w4 0⟩, ⟨0x010A, w4 1⟩]) routeSpec (fun ts e =>
      !crossesRow 0 1 && oneFits e ts 0 480 [(0, 0x10000000)]) = true := by decide +kernel

/-- Channel 0 is muted over 513 taps at nearly eight times unity. -/
def loudList : Dev := on up ((List.range 513).map (fun i => (F.TAP_GAIN_GAIN, 512 - i, 2 ^ 31 - 1)) ++
  [(F.AMX_DEST_LIST_COUNT, 0, 513), (F.AMX_DEST_RAMP_MUTE, 0, 1)])

theorem witness_MixCommandsAct :
    acc up (rq [⟨0x0101, w4 0⟩, ⟨0x0103, [0, 1, 0, 0, 0x10, 0, 0, 0]⟩]) mixSetSpec = true ∧
    acc up (rq [⟨0x0101, w4 0⟩, ⟨0x0105, w4 1⟩, ⟨0x0106, w4 0x10000000⟩]) tapGainSpec = true ∧
    acc up (rq [⟨0x0108, w4 0⟩, ⟨0x0109, w4 0⟩, ⟨0x010A, w4 1⟩]) routeSpec (fun ts _ =>
      !crossesRow (tlvNum ts 0x0108) 1 && !crossesRow (tlvNum ts 0x0109) 1) = true ∧
    acc up (rq [⟨0x0108, w4 58111⟩, ⟨0x0109, w4 0⟩, ⟨0x010A, w4 2⟩]) routeSpec (fun ts _ => crossesRow (tlvNum ts 0x0108) 2) = true ∧
    listFault true [(58112, 0)] = some (St.badParam, 0x60) ∧ listFault false [(61439, 0)] = some (St.badParam, 0x60) ∧
    listFault true [(58111, 0), (61440, 0)] = none ∧
    repeatsSource [(1, 0), (1, 0)] = true ∧ ([((1 : Nat), (0 : Int)), (2, 0)].map Prod.fst).Nodup ∧ 4096 * 2 ^ 28 < gainLoad (List.replicate 4097 (0, 2 ^ 28)) ∧
    up.holder 13 = 7 ∧ (held up).holder 13 ≠ 7 ∧ (held up).jobOf 0 = none ∧ (1 : Nat) ≤ 131072 - unitsIn up.unitRuns ∧
    acc up (rq [⟨0x0101, w4 65535⟩]) mixGetSpec = true ∧
    acc up (rq [⟨0x0109, w4 0⟩, ⟨0x010A, w4 1⟩, ⟨0x010B, w4 0⟩]) destMuteSpec (fun ts e => !crossesRow (tlvNum ts 0x0109) 1 &&
      !e.overloads (e.changeFrame (frameTlv ts)) 0) = true ∧
    acc up (rq [⟨0x0109, w4 58111⟩, ⟨0x010A, w4 2⟩, ⟨0x010B, w4 1⟩]) destMuteSpec (fun ts _ => crossesRow (tlvNum ts 0x0109) 2) = true ∧
    acc loudList (rq [⟨0x0109, w4 0⟩, ⟨0x010A, w4 1⟩, ⟨0x010B, w4 0⟩]) destMuteSpec (fun ts e => e.overloads (e.changeFrame (frameTlv ts)) 0) = true ∧
    acc up (rq [⟨0x0109, w4 65535⟩, ⟨0x010A, w4 2⟩]) amxStatusGetSpec (fun ts _ => 65536 < tlvNum ts 0x0109 + tlvNum ts 0x010A) = true ∧
    acc up (rq [⟨0x0109, w4 65472⟩, ⟨0x010A, w4 64⟩]) amxStatusGetSpec (fun ts _ => tlvNum ts 0x0109 + tlvNum ts 0x010A == 65536) = true := by
  decide +kernel

theorem witness_MetersAct :
    acc up (rq [⟨0x0110, w4 0⟩, ⟨0x0111, w4 0⟩]) meterEnableSpec (fun ts _ => bits (tlvNum ts 0x0112) 16 7 == 0) = true ∧
    acc (on up [(F.AMX_METER_CFG_EN, 5, 1)]) (rq [⟨0x0110, w4 0⟩, ⟨0x0111, w4 0⟩]) meterEnableSpec (fun _ e => e.meterOf 0 0 == some 5) = true ∧
    acc (on up [(F.AMX_METER_CFG_EN, 5, 1)]) (rq [⟨0x0110, w4 0⟩, ⟨0x0111, w4 0⟩]) meterDisableSpec (fun _ e => e.meterOf 0 0 == some 5) = true ∧
    acc up (rq [⟨0x0110, w4 0⟩, ⟨0x0111, w4 0⟩]) meterDisableSpec (fun ts e => e.meterOf (tlvNum ts 0x0110) (tlvNum ts 0x0111) == none) = true ∧
    acc up (rq [⟨0x0114, w4 127⟩]) meterGetSpec (fun ts _ => hasTlv ts 0x0114 && !hasTlv ts 0x0113 && !hasTlv ts 0x010A) = true ∧
    acc up (rq [⟨0x0113, w4 16383⟩, ⟨0x010A, w4 1⟩]) meterGetSpec (fun ts _ => hasTlv ts 0x0113 && hasTlv ts 0x010A && !hasTlv ts 0x0114 &&
      tlvNum ts 0x0113 + tlvNum ts 0x010A ≤ 16384) = true ∧
    acc up (rq [⟨0x0113, w4 16383⟩]) loudnessResetSpec (fun ts _ => hasTlv ts 0x0113 && !hasTlv ts 0x0114) = true ∧
    acc up (rq [⟨0x0114, w4 1⟩]) loudnessResetSpec (fun ts _ => !hasTlv ts 0x0113 && hasTlv ts 0x0114) = true ∧
    reach up 0 0x1EE0000 = true ∧ bit 0xC000007F 31 = true ∧ bit 0xC000007F 30 = true ∧ bits 0xC000007F 0 14 = 127 ∧ bit 0x80003FFF 30 = false ∧
    bits 0x80003FFF 0 14 = 16383 := by decide +kernel

/-! ### The Fen engines -/

/-- Unit 0 runs the job of entry 0; the word stands at place 0. -/
def fen (w : Nat) : Dev := up.setUnit 0 { FenUnit.reset with job0 := some 0, mem := Map.store [] 0 0 (w % 2 ^ 32) 0 }

theorem witness_FenInstructionsAreFetched :
    (up.unit 271).running = false ∧ ((fen 0).unit 0).running = true ∧ ((fen 0).unit 0).pc < 8192 ∧
    8192 ≤ ({ FenUnit.reset with job0 := some 0, pcs := [8192, 0, 0, 0] } : FenUnit).pc ∧
    fenOpcodes.contains (bits ((fen (0x07 * 2 ^ 26)).fenWord 0) 26 6) = false ∧ fenOpcodes.contains (bits ((fen 0).fenWord 0) 26 6) = true ∧
    bits ((fen 0).fenWord 0) 26 6 ≠ 0x28 ∧ FenUnit.reset.level < 2 ∧ fenRuns (fen (0x28 * 2 ^ 26)) 0 0x28 = true := by decide +kernel

theorem witness_FenArithmeticActs :
    ([0x00, 0x01, 0x02, 0x03, 0x04, 0x05, 0x06, 0x08, 0x09, 0x0A].all fun op => fenRuns (fen (op * 2 ^ 26)) 0 op) = true ∧
    (let w := 0x01 * 2 ^ 26 + 1 * 2 ^ 22; fenRuns (fen w) 0 1 = true ∧ bits w 24 2 ≠ bits w 22 2 ∧ bits w 16 6 % 2 = 0 ∧ bits w 10 6 % 2 = 0) ∧
    (let U := (fen 0).unit 0; U.bank.hold.getD 3 0 = 0 ∧ -(2 ^ 71) ≤ U.bank.acc.getD 3 0 + (2 ^ 71 - 1 : Int) ∧
      U.bank.acc.getD 3 0 + (2 ^ 71 - 1 : Int) < 2 ^ 71) ∧
    (∀ n : Fin 64, let w := 4 * 2 ^ 26 + n.val * 256; fenRuns (fen w) 0 4 = true ∧ bits w 8 6 = n.val) ∧
    ((fen 0).unit 0).special 0xFFF = none ∧ (((fen 0).unit 0).special 0).isSome = true ∧
    (∀ n : Fin 10, fenRuns (fen (0x08 * 2 ^ 26 + n.val)) 0 0x08 = true ∧ bits ((fen (0x08 * 2 ^ 26 + n.val)).fenWord 0) 0 8 = n.val) ∧
    (let d := (fen (0x08 * 2 ^ 26 + 5)).onUnit 0 fun U => U.setReg 0 0x80000000; fenRuns d 0 8 = true ∧ (d.unit 0).sreg 0 = -(2 ^ 31)) ∧
    (∀ n : Fin 4, bits ((fen (0x09 * 2 ^ 26 + n.val)).fenWord 0) 0 2 = n.val) := by decide +kernel

theorem witness_FenPointersAct :
    ([0x10, 0x11, 0x12, 0x13, 0x18, 0x19].all fun op => fenRuns (fen (op * 2 ^ 26)) 0 op) = true ∧
    (let w := 0x10 * 2 ^ 26 + 3 * 2 ^ 15; bits w 15 2 = 3 ∧ fenRuns (fen w) 0 0x10 = true) ∧
    (let d := (fen (0x10 * 2 ^ 26)).onUnit 0 fun U => { U with ptrs := U.ptrs.set 0 ⟨16383, 0, 1, 0, 0⟩ };
      16384 ≤ ((d.unit 0).ptr 0).address ∧ fenRuns d 0 0x10 = true) ∧
    (let w := 0x12 * 2 ^ 26 + 1 * 2 ^ 14; bits w 20 6 % 2 = 0 ∧ bits w 17 3 ≠ bits w 14 3 ∧ bits w 12 2 ≠ 3 ∧ fenRuns (fen w) 0 0x12 = true ∧
      (((fen w).unit 0).ptr 0).address < 16384) ∧
    (let p : FenPtr := ⟨0, 10, 10, 1, 0xFFF⟩; p.span ≠ 0 ∧ p.span ≤ p.offset) ∧
    (let d := (fen (0x18 * 2 ^ 26 + 1 * 2 ^ 14 + 2 * 2 ^ 8)).onUnit 0 fun U => U.setReg 2 5; (d.unit 0).sreg 0 < (d.unit 0).sreg 2 ∧
      bits (d.fenWord 0) 20 6 ≠ bits (d.fenWord 0) 14 6 ∧ bits (d.fenWord 0) 8 6 = 2 ∧ fenRuns d 0 0x18 = true) ∧
    (let d := (fen (0x19 * 2 ^ 26 + 1 * 2 ^ 14 + 2 * 2 ^ 8)).onUnit 0 fun U => U.setReg 2 0xFFFFFFFF; (d.unit 0).sreg 2 < (d.unit 0).sreg 0 ∧
      fenRuns d 0 0x19 = true) := by decide +kernel

theorem witness_FenControlFlowActs :
    ([0x20, 0x21, 0x22, 0x23, 0x24, 0x25, 0x26, 0x27, 0x32, 0x3F].all fun op => fenRuns (fen (op * 2 ^ 26)) 0 op) = true ∧
    FenUnit.reset.bank.depth = 0 ∧ FenUnit.reset.g.length = 64 ∧
    (let U := FenUnit.reset.onBank fun b => { b with depth := 1, fin := [5, 0, 0], cnt := [1, 0, 0] }; 0 < U.bank.depth ∧ U.bank.fin.getD 0 0 = 5 ∧
      0 < U.bank.cnt.getD 0 0) ∧
    (let d := (fen (0x20 * 2 ^ 26 + 1)).onUnit 0 fun U => U.setReg 0 3; 0 < bits (d.fenWord 0) 0 12 ∧ (d.unit 0).bank.depth < 3 ∧
      0 < (d.unit 0).reg (bits (d.fenWord 0) 20 6) % 65536 ∧ fenRuns d 0 0x20 = true) ∧
    (∀ c : Fin 16, bits ((fen (0x24 * 2 ^ 26 + c.val * 2 ^ 22)).fenWord 0) 22 4 = c.val) ∧
    ((fen 0).unit 0).level = 0 ∧
    (∀ l : Fin 4, let d := up.setUnit 0 { FenUnit.reset with job0 := some 0, level := l.val, mem := Map.store [] 0 0 (0x27 * 2 ^ 26 % 2 ^ 32) 0 };
      fenRuns d 0 0x27 = true ∧ (d.unit 0).level = l.val) ∧
    (let x : FenDesc := ⟨false, 0, 0, 1, 1, 0, 0, 0⟩; let d := (fen (0x32 * 2 ^ 26)).onUnit 0 fun U => { U with ops := [x] };
      bits (d.fenWord 0) 0 2 < (d.unit 0).ops.length ∧ fenRuns d 0 0x32 = true) ∧
    ((fen 0).unit 0).ops.length ≤ 0 := by decide +kernel

theorem witness_FenUnitsActs :
    (∀ k : Fin 2, let p := (0x30 + k.val, k.val); let d := fen (p.1 * 2 ^ 26);
      fenRuns d 0 p.1 = true ∧ (d.unit 0).ops.length < 4 ∧ ((d.unit 0).ptr 0).address + 3 < 16384) ∧
    (let d := fen (0x30 * 2 ^ 26); let x := (d.unit 0).descriptor 0 false; x.wellFormed = true ∧ x.dm + d.descWords x ≤ 16384) ∧
    ((((fen 0).onUnit 0 fun U => U.setData 0 0xF0000000).unit 0).descriptor 0 false).wellFormed = false ∧
    (up.unit 0).ops[0]? = none ∧
    ([3, 5, 0].all fun k => let x : FenDesc := ⟨false, k, 0, 1, 1, 0, 0, 0⟩; (((fen 0).onUnit 0 fun U => { U with ops := [x] }).unit 0).ops[0]? == some x) = true ∧
    (let x : FenDesc := ⟨true, 0, 0, 1, 1, 0, 0, 0⟩; (((fen 0).onUnit 0 fun U => { U with ops := [x] }).unit 0).ops[0]? = some x) ∧
    (let d := on up [(F.FEN_MAP_VALID, 0, 1), (F.FEN_MAP_PHYS, 0, 0), (F.FEN_ENG_STATUS_LOGICAL, 0, 0), (F.FEN_JOB_EN, jobIndex 0 5, 1),
        (F.FEN_JOB_CLASS, jobIndex 0 5, 2)];
      d.fenMayStart (d.unitFor 0) = true ∧ (d.unit 0).running = false ∧ (d.unit 0).frameDue = [] ∧ (d.unit 0).blockDue = [] ∧ d.entriesOf 0 2 = [5]) ∧
    (let d := on up [(F.FEN_MAP_VALID, 0, 1), (F.FEN_ENG_STATUS_USE, 271, 0)]; d.get F.FEN_MAP_VALID 0 ≠ 0 ∧ d.get F.FEN_ENG_STATUS_USE 271 = 0 ∧
      (d.unit (d.unitFor 0)).running = false ∧ (d.unit (d.unitFor 0)).ops = [] ∧ d.swapTime = true) ∧
    up.poolUnit 0 ≠ 0 ∧ up.get F.FEN_ENG_STATUS_USE 0 ≠ 3 ∧ up.engineOf 0 < 256 ∧ 256 ≤ up.engineOf 271 ∧ up.idleUnits ≠ [] ∧
    (hon up [(H.fenReload, 255, 1)]).hget H.fenReload 255 ≠ 0 ∧ up.holder 13 = 7 ∧ up.lathRuns = true ∧
    reach up 0 (fenOffset 0 0) = true ∧ reach up 0 (fenOffset 271 0) = true ∧ reach up 0 (fenOffset 271 4) = true ∧
    reach up 0 (fenOffset 0 0x3800) = true ∧ reach up 0 (fenOffset 271 (0x3800 + 4 * 4095)) = true ∧
    (on up [(F.FEN_ENG_CTRL_HALT, 0, 1)]).halted 0 = true ∧ up.halted 0 = false ∧ up.get F.FEN_PAGE_PAGE 0 < 2 ∧
    2 ≤ (on up [(F.FEN_PAGE_PAGE, 0, 5)]).get F.FEN_PAGE_PAGE 0 := by decide +kernel

/-! ### The Causeway and the roles -/

/-- Link 0 is UP, in a role. -/
def seat (role : Nat) : Dev := on runs [(F.CSW_LINK_STATUS_UP, 0, 1), (F.CSW_ROLE_CAUSEWAY_UP, 0, 1), (F.CSW_ROLE_ROLE, 0, role)]

/-- The next frame of a class. -/
def frame1 : CswHead := ⟨0, 1, 64, true, some ⟨true, 0, 1, true⟩⟩

/-- What the partner says: STANDBY and ready. -/
def ready : CswKeep := ⟨1, true, false, true, 0, 5, 0, none⟩

theorem witness_CausewayFramesAct :
    (seat 0).get F.CSW_LINK_STATUS_UP 0 = 1 ∧ (seat 0).csw.laneIn.getD 0 none = none ∧
    (let l : LaneSf := ⟨0, 0, [0xD5, 0, 0, 0x5B]⟩;
      let d := (seat 0).onCsw fun c => { c with laneIn := [some l, some l, some l, some l, none, none, none, none] };
      d.get F.CSW_LINK_STATUS_UP 0 = 1 ∧ (∀ j : Fin 4, d.csw.laneIn.getD j.val none = some l) ∧ d.csw.linkSeq.getD 0 none = none ∧
      d.csw.stream.getD 0 none = none ∧ l.first < 4000 ∧ (d.onCsw fun c => { c with stream := [some [], none] }).csw.stream.getD 0 none = some []) ∧
    (let s := crc8 [0xD5#8, 0, 64]; crc8 [0xD5#8, 0, 64] = (BitVec.ofNat 8 s).toNat ∧ crc8 [0xD5#8, 0, 64] ≠ (BitVec.ofNat 8 (s + 1)).toNat) ∧
    up.get F.CSW_LINK_STATUS_UP 0 = 0 ∧ (up.frameFault { frame1 with length := 63 } 0 false).isSome = true ∧
    (up.frameFault { frame1 with length := 1523 } 0 false).isSome = true ∧ up.frameFault { frame1 with length := 1522 } 0 false = none ∧
    up.frameSecure frame1 0 = true ∧ up.frameSecure { frame1 with tag := none } 0 = false ∧
    (seat 0).frameFault frame1 0 false = none ∧ fuses (seat 0) frame1 0 = true ∧
    (let d := (seat 0).onCsw fun c => { c with rxSeq := List.replicate 10 1 }; d.frameAgain frame1 0 = true ∧
      ((d.frameArrives 0).frameFault frame1 0 true).isSome = true) ∧
    ((seat 0).frameArrives 0).frameFault frame1 9 false = none ∧ (seat 0).csw.peerSalt ≠ List.replicate 16 1 ∧
    fuses (seat 0) frame1 6 = true ∧ fuses (seat 0) frame1 1 (fun e => (on e [(F.CMD_PORT_CTRL_ENABLE, 3, 1)]).portUp 3) = true ∧
    bit (beVal (slice 1 1 [1#8, 4])) 0 = false ∧ bit (beVal (slice 1 1 [1#8, 5])) 0 = true ∧
    fuses (on (seat 0) [(F.CMD_PORT_CTRL_ENABLE, 3, 1)]) frame1 1 (fun e => e.portUp 3) = true := by decide +kernel

theorem witness_MirroringActs :
    fuses (seat 3) frame1 2 (fun e => e.role != 1 && e.role != 2) = true ∧
    fuses (seat 1) frame1 2 (fun e => e.role == 1 && serialSub 32 1 ((seat 1).csw.rxSeq.getD 2 0) == 1) = true ∧
    fuses (seat 2) { frame1 with cseq := 5 } 2 (fun e => e.role == 2 && serialSub 32 5 ((seat 2).csw.rxSeq.getD 2 0) != 1) = true ∧
    fuses (seat 1) frame1 3 (fun e => e.role == 1 && e.csw.receiving == none) = true ∧
    fuses ((seat 2).onCsw fun c => { c with receiving := some ⟨7, 0, none, true⟩ }) frame1 3 (fun e => e.role == 2 &&
      e.csw.receiving == some ⟨7, 0, none, true⟩) = true ∧
    fuses (seat 1) frame1 4 (fun e => e.role == 1 && e.csw.receiving == none) = true ∧
    fuses ((seat 1).onCsw fun c => { c with receiving := some ⟨7, 0, none, true⟩ }) frame1 4 (fun e => e.role == 1 &&
      e.csw.receiving == some ⟨7, 0, none, true⟩) = true ∧
    (let c : Checkpoint := ⟨7, 0, 0, 0, 0, 0, 0, 0, 0, 0, 0, [], 5⟩; let d := seat 1;
      up.running = false ∧ d.running = true ∧ serialGe 32 (d.csw.rxSeq.getD 2 0) c.cut = true ∧
      serialGe 32 (d.csw.rxSeq.getD 2 0) ({ c with cut := 1 } : Checkpoint).cut = false ∧
      (d.csw.appliedCrc c.cut ≠ c.crc + 1 ∧ d.csw.cutKnown = true) ∧ d.csw.appliedCrc c.cut = ({ c with crc := d.csw.appliedCrc c.cut } : Checkpoint).crc) ∧
    (let d : Dev := { seat 1 with clock := ⟨10 ^ 9, 0⟩ }; d.running = true ∧ d.markerLimit < d.clock.core) ∧ (seat 1).csw.receiving = none ∧
    (let d := on (seat 1) [(F.CSW_ROLE_TAKEOVER_OK, 0, 1)]; d.role = 1 ∧ d.get F.CSW_ROLE_TAKEOVER_OK = 1 ∧ d.causewayUp = true ∧
      d.csw.yieldAsked = false ∧ (d.onCsw fun c => { c with yieldAsked := true }).csw.yieldAsked = true) := by decide +kernel

theorem witness_SealsAndBlameAct :
    fuses (seat 0) frame1 5 (fun e => e.role != 1) = true ∧ fuses (seat 1) frame1 5 (fun e => e.role == 1) = true ∧
    (let d := (seat 1).onCsw fun c => { c with seals := [⟨0, 5, 1, 9⟩] };
      (d.csw.seals.find? fun o => o.dest == 0 && o.frame == 5 && o.line == 1) = some ⟨0, 5, 1, 9⟩ ∧ d.tick.frame ≤ 5 + 2 ∧ 2 + 2 < d.tick.frame ∧
      (d.csw.seals.find? fun o => o.dest == 1 && o.frame == 5 && o.line == 1) = none) ∧
    (let v : Divergence := ⟨0, 5, 0, 1, 2⟩; let d := (seat 1).onCsw fun c => { c with diverging := [v] };
      d.csw.diverging.find? (fun v => v.dest == 0) = some v ∧ d.divergent 0 = false ∧ 1 < d.get F.CSW_TIMING_DIVERGE_LINES) ∧
    fuses (seat 0) frame1 8 (fun e => e.csw.blame == none && e.role == 0) = true ∧
    fuses ((seat 0).onCsw fun c => { c with blame := some ⟨0, 3, 0, 4, false, true, [], none, none⟩ }) frame1 8
      (fun e => e.csw.blame == some ⟨0, 3, 0, 4, false, true, [], none, none⟩) = true ∧
    (let b : Blame := ⟨0, 3, 0, 4, false, true, [], none, none⟩; (seat 0).tick.frame < b.began + 8 ∧ b.began + 8 ≤ 8) ∧
    (let d := on (seat 1) [(F.CSW_CFG_AUTO_TAKEOVER, 0, 1), (F.CSW_ROLE_TAKEOVER_OK, 0, 1)]; d.get F.CSW_CFG_AUTO_TAKEOVER = 1 ∧
      d.get F.CSW_ROLE_TAKEOVER_OK = 1) ∧
    acc up (rq []) blameStatusSpec = true ∧ acc (seat 1) (rq []) blameStatusSpec = true := by decide +kernel

theorem witness_RolesChange :
    (seat 3).role = 3 ∧ (seat 3).role ≠ 4 ∧ fuses (seat 0) frame1 7 (fun e => e.role == 0) = true ∧ fuses (seat 1) frame1 7 (fun e => e.role != 0) = true ∧
    (seat 1).get F.CSW_ROLE_CLAIM_IN = ofBool false ∧
    (let d := on (seat 1) [(F.CSW_ROLE_CLAIM_IN, 0, 1)]; d.get F.CSW_ROLE_CLAIM_IN = 1 ∧ d.role = 1 ∧ d.causewayUp = true ∧
      (on d [(F.CSW_ROLE_CAUSEWAY_UP, 0, 0)]).causewayUp = false) ∧
    (let d := hon (seat 1) [(H.seatWait, 0, 1)]; d.get F.CSW_ROLE_CLAIM_IN = 0 ∧ d.hget H.seatWait = 1 ∧ d.lathRuns = true) ∧
    (let d := on (seat 2) [(F.CSW_ROLE_CAUSEWAY_UP, 0, 0)]; d.get F.CSW_ROLE_CLAIM_IN = 0 ∧ d.hget H.seatWait = 0 ∧ d.role = 2 ∧ d.causewayUp = false) ∧
    (let d := (on (hon (seat 0) [(H.pinSeat, 0, 1)]) [(F.CSW_ROLE_CLAIM_IN, 0, 1)]).onCsw fun c => { c with dualSince := some 0 };
      d.csw.dualSince = some 0 ∧ d.role = 0 ∧ d.get F.CSW_ROLE_CLAIM_IN = 1 ∧ d.hget H.pinSeat = 1) ∧ (seat 0).hget H.pinSeat = 0 ∧
    (let d := (seat 3).onCsw fun c => { c with silentTicks := 3 }; 3 ≤ d.csw.silentTicks ∧ 1 ≤ d.role ∧ d.role ≤ 3 ∧ d.get F.CSW_ROLE_VETO ≠ 1 ∧
      (on d [(F.CSW_ROLE_VETO, 0, 1)]).get F.CSW_ROLE_VETO = 1) ∧
    (let d := (seat 1).onCsw fun c => { c with offsetSince := some 0, vetoEnd := some 9 }; d.csw.offsetSince = some 0 ∧ d.role = 1 ∧ d.csw.vetoEnd = some 9) ∧
    (seat 0).csw.offsetSince = none ∧ (seat 0).csw.vetoEnd = none ∧ (seat 3).role ≠ 0 ∧ (seat 3).role ≠ 1 ∧ (seat 3).role ≠ 2 := by decide +kernel

/-- P1 and P3 are open. -/
def open1 (d : Dev) : Dev := (on d [(F.MGT_STATUS_LINK, 0, 1), (F.CMD_PORT_CTRL_ENABLE, 1, 1), (F.CMD_PORT_CTRL_ENABLE, 3, 1)]).setKey 1 fun k =>
  { k with key := some [7#8] }

theorem witness_RedundancyCommandsAct :
    acc up (rq [⟨0x0101, w4 0⟩]) roleStatusSpec (fun ts e => hasTlv ts 0x0101 && e.role == 0) = true ∧
    acc (open1 (seat 1)) (rqOn 1 [⟨0x0101, w4 60000⟩]) roleStatusSpec (fun ts e => hasTlv ts 0x0101 && e.role == 1) = true ∧
    acc up (rq [⟨0x0102, w4 1⟩]) roleStatusSpec (fun ts e => tlvNum ts 0x0102 == 1 && e.role == 0) = true ∧
    acc (seat 1) (rq [⟨0x0102, w4 2⟩]) roleStatusSpec (fun ts e => tlvNum ts 0x0102 == 2 && e.role != 4) = true ∧
    acc (seat 4) (rq [⟨0x0102, w4 2⟩]) roleStatusSpec (fun ts e => tlvNum ts 0x0102 == 2 && e.role == 4) = true ∧
    up.causewayUp = false ∧ ((seat 4).onCsw fun c => { c with peer := some { ready with role := 0 } }).csw.peer = some { ready with role := 0 } ∧
    acc up (rq []) switchoverSpec (fun _ e => !e.peerReady) = true ∧
    (let d := (seat 0).onCsw fun c => { c with peer := some ready };
      acc d (rq []) switchoverSpec (fun _ e => e.peerReady && e.tick.frame < e.tick.frame + 1 && e.csw.switchover == none) = true ∧
      acc d (rq [⟨1, w8 5⟩]) switchoverSpec (fun ts e => e.peerReady && frameTlv ts ≤ e.tick.frame) = true ∧
      acc d (rq [⟨1, w8 6⟩]) switchoverSpec (fun ts e => e.peerReady && e.tick.frame < frameTlv ts) = true) ∧
    acc up (rq [⟨0x0101, w4 0⟩, ⟨0x0102, w4 0⟩]) redundancyConfigSpec (fun _ e => !e.causewayUp) = true ∧
    acc (seat 0) (rq [⟨0x0101, w4 0⟩, ⟨0x0102, w4 0⟩]) redundancyConfigSpec (fun _ e => e.causewayUp) = true ∧
    up.csw.peerWaits = [] ∧ (up.onCsw fun c => { c with peerWaits := [⟨3, 0, 0, 4, 1, 0, 9⟩] }).csw.peerWaits = [⟨3, 0, 0, 4, 1, 0, 9⟩] ∧
    acc (up.onCsw fun c => { c with report := some ⟨2, 0, 0, 0, 5, [], 0⟩ }) (rq [⟨0x0101, w4 0⟩, ⟨0x0102, w4 80⟩]) reportGetSpec
      (fun _ e => e.csw.report == some ⟨2, 0, 0, 0, 5, [], 0⟩) = true ∧
    acc (open1 (seat 0)) (rqOn 3 []) resyncRequestSpec (fun _ e => e.role == 0) = true ∧
    acc (open1 (seat 1)) (rqOn 3 []) resyncRequestSpec (fun _ e => e.role != 0) = true ∧
    acc (open1 (seat 2)) (rqOn 3 [⟨0x0101, w4 9⟩]) resyncDoneSpec (fun _ e => e.role == 2) = true ∧
    acc (open1 (seat 1)) (rqOn 3 [⟨0x0101, w4 9⟩]) resyncDoneSpec (fun _ e => e.role != 2) = true ∧
    acc (open1 (seat 1)) (rqOn 3 [⟨0x0101, w4 9⟩, ⟨0x0102, w4 0⟩]) peerConfigSpec = true := by decide +kernel

/-! ### Self-test, test access and health -/

/-- Rolling self-test runs, at the start of a frame. -/
def rolls : Dev := on runs [(F.BIST_ROLL_CFG_EN, 0, 1)]

theorem witness_SelfTestActs :
    (rolls.ready = true ∧ rolls.get F.BIST_ROLL_CFG_EN ≠ 0 ∧ rolls.poolState 0 = 0 ∧ 271 < poolUnits 0 ∧ rolls.sliceTime = true ∧
      kept (rolls.poolTest 0).wait 271 0 ≤ rolls.tick.frame ∧ kept (rolls.poolTest 0).hold 271 0 ≤ rolls.clock.core ∧
      rolls.poolUnit 0 = 0x1FF ∧ rolls.testable 0 271 = true) ∧
    (on rolls [(F.BIST_POOL_STATE, 3, 1)]).poolState 3 = 1 ∧ (on rolls [(F.BIST_POOL_STATE, 3, 2)]).poolState 3 = 2 ∧
    rolls.get F.BIST_POOL_SLICE 0 + 1 < poolSlices 0 ∧ ¬(rolls.get F.BIST_POOL_SLICE 3 + 1 < poolSlices 3) ∧
    acc up (rq []) bistStatusGetSpec = true ∧ acc up (rq [⟨0x0101, w4 0⟩]) rollConfigSpec = true ∧ acc up (rq []) repairStatusGetSpec = true ∧
    acc up (rq []) efuseNonceGetSpec = true ∧ (up.onBist fun b => { b with nonce := some ([], 0) }).bist.nonce = some ([], 0) ∧
    acc up (rq [⟨0x0101, List.replicate 136 0⟩, ⟨0x0102, List.replicate 96 0⟩]) efuseProgramSpec (fun ts e =>
      e.recordFault ((tlv? ts 0x0101).getD []) == some (St.badParam, 0x80)) = true ∧
    (let w : FuseWork := ⟨1, 4, 1, 0, [(0, 0, 0)], 0⟩; let d := up.onBist fun b => { b with work := [w] };
      d.bist.work = [w] ∧ w.words = [(0, 0, 0)] ∧ d.bist.resetAsked = none ∧
      (((d.onBist fun b => { b with efuse := b.efuse.program (0, 0, 0) }).burned (0, 0, 0)).setWork
        (some { w with words := [], done := w.done + 1 })).bist.resetAsked = none) := by decide +kernel

theorem witness_TestAccessActs :
    (up.onBist fun b => { b with efuse := { b.efuse with debugLock := 1 } }).bist.efuse.debugLock = 1 ∧ up.bist.efuse.debugLock = 0 ∧
    1 < (up.onBist fun b => { b with efuse := { b.efuse with debugLock := 2 } }).bist.efuse.debugLock := by
  decide +kernel

theorem witness_HealthActs :
    reach up 0 0xB00004 = true ∧ (1680 : Int) < 1681 ∧ up.hget H.tjHot = 0 ∧ (hon up [(H.tjHot, 0, 1)]).hget H.tjHot = 1 ∧
    (hon up [(H.porLow, 0, 0)]).hget H.porLow = 0 ∧
    acc up (rq []) healthStatusGetSpec = true ∧ acc up (rq [⟨0x0101, w4 0x3FFF⟩]) healthClearSpec = true ∧
    acc up (rq [⟨0x0103, w4 100⟩]) healthConfigSpec = true ∧
    (let d := on up [(F.PCI_LINK_STATUS_UP, 0, 1), (F.CMD_PORT_CTRL_ENABLE, 0, 1)];
      acc d (rqOn 0 [⟨0x0101, w8 5⟩]) wearSetSpec (fun _ e => e.get F.HLT_STATUS_WEAR_VALID == 0) = true ∧
      acc (on d [(F.HLT_STATUS_WEAR_VALID, 0, 1)]) (rqOn 0 [⟨0x0101, w8 5⟩]) wearSetSpec (fun _ e => e.get F.HLT_STATUS_WEAR_VALID == 1) = true) ∧
    acc up (rq []) ledgerStatusGetSpec = true ∧ acc up (rq [⟨0x0101, w4 0xFFFFFFFF⟩]) ledgerReadSpec = true ∧
    up.hget H.tripHeld = 0 ∧ up.bist.work = [] ∧
    (let d := hon (on Dev.reset [(F.BOOT_STATUS_STEP, 0, 0)]) [(H.tripHeld, 0, 1), (H.porLow, 0, 0)]; d.hget H.tripHeld = 1 ∧
      d.get F.BOOT_STATUS_STEP = 0 ∧ d.hget H.porLow = 0) := by decide +kernel

theorem witness_ALedgerIsCheckedAgainstItsRecord :
    up.health.faults = [] ∧
    (let f : LedgerFault := ⟨9, -1, 5⟩; let d : Dev := { up with health := { up.health with faults := [f] } };
      f ∈ d.health.faults ∧ (d.health.faults.find? fun f => f.id == 9) = some f ∧ (d.health.faults.find? fun f => f.id == 8) = none) ∧
    64 ≤ (List.replicate 64 (LedgerFault.mk 9 1 5)).length := by decide +kernel

/-- A record of R492 for a die with a nonce of sevens, and what follows its nonce. -/
def record (die : Nat) (rest : List Byte) : List Byte :=
  [0x45, 0x46, 0x52, 0x51, 0x4E, 0x51, 0x53, 0x60] ++ (beBytes 8 die ++ ([7, 7, 7, 7, 7, 7, 7, 7, 7, 7, 7, 7, 7, 7, 7, 7] ++ rest))

/-- The nonce is live. -/
def nonced : Dev := up.onBist fun b => { b with nonce := some (List.replicate 16 7, 0) }

theorem beBytes_foldl (n : Nat) : ∀ k a : Nat, (beBytes k n).foldl (fun v b => v * 256 + b.toNat) a = a * 256 ^ k + n % 256 ^ k
  | 0, a => by simp [beBytes, Nat.mod_one]
  | k + 1, a => by
    have e : n % 256 ^ (k + 1) = n % 256 ^ k + 256 ^ k * (n / 256 ^ k % 256) := Nat.mod_pow_succ
    rw [beBytes, List.foldl_cons, beBytes_foldl n k, BitVec.toNat_ofNat, e, @Nat.pow_succ 256 k, show 2 ^ 8 = 256 from rfl]
    grind

theorem record_parts (n : Nat) (rest : List Byte) (h : n < 2 ^ 64) :
    (record n rest).take 4 = beBytes 4 0x45465251 ∧ beVal (slice 4 4 (record n rest)) = 0x4E515360 ∧ beVal (slice 8 8 (record n rest)) = n ∧
    slice 16 16 (record n rest) = List.replicate 16 7 ∧ ∀ j k, slice (32 + j) k (record n rest) = slice j k rest := by
  refine ⟨rfl, rfl, ?_, rfl, fun j k => ?_⟩
  · have r : slice 8 8 (record n rest) = beBytes 8 n := rfl
    rw [r, beVal, beBytes_foldl, Nat.zero_mul, Nat.zero_add, Nat.mod_eq_of_lt (by omega)]
  · rw [slice, ← List.drop_drop]; rfl

/-- What follows the nonce of a record that burns soft repairs, its key the curve's generator at index 3. -/
def keyed : List Byte := [0, 3, 0, 0, 0, 0, 0, 0] ++ (beBytes 48 p384gx ++ beBytes 48 p384gy)

/-- Some record passes the checks of this die. -/
theorem witness_anAcceptableRecord : (fused nonced).recordFault (record (Config.dieId % 2 ^ 64) keyed) = none := by
  obtain ⟨a, b, c, d, e⟩ := record_parts (Config.dieId % 2 ^ 64) keyed (Nat.mod_lt _ (by decide))
  unfold Dev.recordFault
  rw [a, b, c, d, show slice 32 1 _ = _ from e 0 1, show slice 33 1 _ = _ from e 1 1, show slice 34 2 _ = _ from e 2 2,
    show slice 36 4 _ = _ from e 4 4, show slice 40 96 _ = _ from e 8 96, if_neg (by decide), if_neg (by decide), if_neg (fun h => h rfl)]
  decide +kernel

/-- It is signed, for the die of identity 0, with the private key 1 and the nonce 1 (computed outside the model); with another signature
it is not. -/
theorem witness_aSignedRecord :
    ecdsaOk (slice 40 96 (record 0 keyed)) (beBytes 48 p384gx ++ beBytes 48 0x7db90c957d04000edf6079d65b85e29ce9950b4a0560dc70808f4b124cb3fa8ccbefad1fd854a384f5fe69d6218a4be1) (record 0 keyed) = true ∧
    ecdsaOk (slice 40 96 (record 0 keyed)) (zeros 96) (record 0 keyed) = false := by decide +kernel

theorem witness_fuseSpace : up.fuseSpace = true ∧ (up.onBist fun b => { b with soft := List.replicate 1025 (0, 0) }).fuseSpace = false := by
  decide +kernel

/-! ### Ill-formed operands -/

/-- A good checkpoint, line, frame, message. -/
def okCheckpoint : Checkpoint := ⟨0, 0, 0, 0, 0, 0, 0, 0, 0, 0, 0, [], 0⟩
def okWords : LineWords := ⟨[⟨true, [1023]⟩], [0, 1023]⟩
def badWords : LineWords := ⟨[], [1024]⟩
def okLine : LineIn := ⟨0, true, 2047, 0, false, false, okWords, okWords⟩
def okPlay : PlayIn := ⟨0, 2047, false, okWords⟩
def okVote : VoteLine := ⟨2047, some okWords, none⟩
def okFrame : FrameIn := ⟨0x20, 10, false⟩
def okImage : ImageIn := ⟨List.replicate 512 0, List.replicate 16 0⟩
def okBoot : BootIn := ⟨0, true, [4], List.replicate 4 (List.replicate 48 0), 0, [], List.replicate 40 0, none, true, [], [], true, [okImage, okImage],
  ⟨0, []⟩, 10⟩

/-- Operands at their bounds are well formed. -/
theorem wf_takes_the_bounds :
    Req.wf ⟨0, 63, 65535, List.replicate 4080 0⟩ = true ∧ Req.wf ⟨1, 2 ^ 48 - 1, 1, List.replicate 1424 0⟩ = true ∧
    Req.wf ⟨4, 0, 1, List.replicate 1024 0⟩ = true ∧ (LiveItem.protect 0 1536 255).wf = true ∧ (LiveItem.enlist 1535 1567 (2 ^ 48 - 1) 4 65535).wf = true ∧
    okCheckpoint.wf = true ∧ okWords.wf = true ∧ okLine.wf = true ∧ okPlay.wf = true ∧ okVote.wf = true ∧ okFrame.wf = true ∧ okImage.wf = true ∧ okBoot.wf = true ∧
    sync.wf = true ∧ eth.wf = true ∧ (at_ 4).wf = true := by decide +kernel

theorem wf_refuses_requests_and_items :
    Req.wf ⟨4, 0, 65536, []⟩ = false ∧ Req.wf ⟨0, 64, 1, []⟩ = false ∧ Req.wf ⟨1, 2 ^ 48, 1, []⟩ = false ∧
    Req.wf ⟨0, 0, 1, List.replicate 4081 0⟩ = false ∧ Req.wf ⟨4, 0, 1, List.replicate 1025 0⟩ = false ∧
    Req.wf ⟨2, 0, 1, List.replicate 1425 0⟩ = false ∧
    (LiveItem.write 2 0).wf = false ∧ (LiveItem.write (2 ^ 26) 0).wf = false ∧ (LiveItem.snapshot 0 (2 ^ 32)).wf = false ∧
    (LiveItem.commit (2 ^ 48) 0 0 0).wf = false ∧ (LiveItem.commit 0 4096 0 0).wf = false ∧ (LiveItem.commit 0 0 256 0).wf = false ∧
    (LiveItem.commit 0 0 0 65536).wf = false ∧ (LiveItem.enlist 1536 0 0 0 0).wf = false ∧ (LiveItem.enlist 0 1568 0 0 0).wf = false ∧
    (LiveItem.enlist 0 0 (2 ^ 48) 0 0).wf = false ∧ (LiveItem.enlist 0 0 0 5 0).wf = false ∧ (LiveItem.enlist 0 0 0 0 65536).wf = false ∧
    (LiveItem.cancel 1536 0 0 0).wf = false ∧ (LiveItem.cancel 0 (2 ^ 48) 0 0).wf = false ∧ (LiveItem.cancel 0 0 5 0).wf = false ∧
    (LiveItem.cancel 0 0 0 65536).wf = false ∧ (LiveItem.prepare 0 1536 0 0 0).wf = false ∧ (LiveItem.prepare 0 0 1568 0 0).wf = false ∧
    (LiveItem.prepare 0 0 0 5 0).wf = false ∧ (LiveItem.prepare 0 0 0 0 65536).wf = false ∧ (LiveItem.fire 0 (2 ^ 48) 0 0).wf = false ∧
    (LiveItem.fire 0 0 5 0).wf = false ∧ (LiveItem.fire 0 0 0 65536).wf = false ∧ (LiveItem.protect 1 1536 0).wf = false ∧
    (LiveItem.protect 0 1 256).wf = false ∧ (LiveItem.changeover 1536 0 true).wf = false ∧ (LiveItem.changeover 0 1568 true).wf = false := by
  decide +kernel

theorem wf_refuses_checkpoints :
    ({ okCheckpoint with epoch := 2 ^ 32 } : Checkpoint).wf = false ∧ ({ okCheckpoint with cut := 2 ^ 32 } : Checkpoint).wf = false ∧
    ({ okCheckpoint with crc := 2 ^ 32 } : Checkpoint).wf = false ∧ ({ okCheckpoint with peat := 2 ^ 32 } : Checkpoint).wf = false ∧
    ({ okCheckpoint with peatValid := 2 } : Checkpoint).wf = false ∧ ({ okCheckpoint with parent := 2 ^ 64 } : Checkpoint).wf = false ∧
    ({ okCheckpoint with iface := 4 } : Checkpoint).wf = false ∧ ({ okCheckpoint with servo := 8 } : Checkpoint).wf = false ∧
    ({ okCheckpoint with rate := 2 ^ 32 } : Checkpoint).wf = false ∧ ({ okCheckpoint with frame := 2 ^ 48 } : Checkpoint).wf = false ∧
    ({ okCheckpoint with ledgers := List.replicate 65 (0, 0) } : Checkpoint).wf = false := by decide +kernel

theorem wf_refuses_accesses_and_lines :
    (Access.mk 0 3 1 false [] 15 0 0 []).wf = false ∧ (Access.mk 0 4 0 false [] 15 0 0 []).wf = false ∧
    (Access.mk 2 4 1 false [] 15 0 0 []).wf = false ∧ (Access.mk 0 4 1 true [2 ^ 32] 15 0 0 []).wf = false ∧
    (Access.mk 0 4 2 false [] 15 0 0 []).wf = false ∧ (Access.mk 0 16 16 false [] 15 16 0 []).wf = false ∧
    (Access.mk (2 ^ 40) 4 1 false [] 15 0 0 []).wf = false ∧ (Access.mk 0 4 1 false [] 15 0 0 [(1, 0), (1, 3)]).wf = false ∧
    (Access.mk (2 ^ 40 - 16) 16 1 false [] 15 0 0 [(1, 0), (2, 3)]).wf = true ∧
    badWords.wf = false ∧ ({ okWords with anc := [⟨true, [1024]⟩] } : LineWords).wf = false ∧
    ({ okLine with number := 2048 } : LineIn).wf = false ∧ ({ okLine with words := badWords } : LineIn).wf = false ∧
    ({ okLine with witness := badWords } : LineIn).wf = false ∧ ({ okPlay with number := 2048 } : PlayIn).wf = false ∧
    ({ okPlay with number := 0 } : PlayIn).wf = false ∧ ({ okPlay with witness := badWords } : PlayIn).wf = false ∧
    ({ okVote with number := 2048 } : VoteLine).wf = false ∧ ({ okVote with faultA := some badWords } : VoteLine).wf = false ∧
    ({ okVote with faultB := some badWords } : VoteLine).wf = false ∧ ({ okFrame with fmt := 0x23 } : FrameIn).wf = false ∧
    ({ okFrame with rate := 11 } : FrameIn).wf = false := by decide +kernel

theorem wf_refuses_ticks_and_starts :
    (TickIn.mk [(1024, 0)] [] []).wf = false ∧ (TickIn.mk [(0, 2048)] [] []).wf = false ∧ (TickIn.mk [] [1024] []).wf = false ∧
    (TickIn.mk [] [] [⟨16, 0, 0, 0⟩]).wf = false ∧ (TickIn.mk [] [] [⟨0, 64, 0, 0⟩]).wf = false ∧
    (TickIn.mk [] [] [⟨0, 0, 2 ^ 32, 0⟩]).wf = false ∧ (TickIn.mk [] [] [⟨0, 0, 0, 2 ^ 32⟩]).wf = false ∧
    (BlockIn.mk [] [] [(2048, [])] [] [] []).wf = false ∧ ({ okImage with header := [] } : ImageIn).wf = false ∧
    ({ okBoot with slots := [⟨[], []⟩] } : BootIn).wf = false ∧ ({ okBoot with slots := [okImage, okImage, okImage] } : BootIn).wf = false ∧
    ({ okBoot with stuck := 11 } : BootIn).wf = false ∧ ({ okBoot with patterns := List.replicate 41 0 } : BootIn).wf = false ∧
    ({ okBoot with keyHashes := [[]] } : BootIn).wf = false ∧ ({ okBoot with keyHashes := List.replicate 5 (List.replicate 48 0) } : BootIn).wf = false ∧
    (PciConfig.vector 0 (2 ^ 64) 0 0).wf = false ∧
    (PciConfig.vector 0 0 (2 ^ 32) 0).wf = false ∧ (PciConfig.vector 0 0 0 (2 ^ 32)).wf = false := by decide +kernel

theorem wf_refuses_frames_and_packets :
    ({ sync with version := 16 } : PtpMsg).wf = false ∧ ({ sync with typ := 16 } : PtpMsg).wf = false ∧ ({ sync with domain := 256 } : PtpMsg).wf = false ∧
    ({ sync with seq := 65536 } : PtpMsg).wf = false ∧ ({ sync with source := 2 ^ 80 } : PtpMsg).wf = false ∧
    ({ sync with stamp := 2 ^ 80 } : PtpMsg).wf = false ∧ ({ sync with gm := 2 ^ 64 } : PtpMsg).wf = false ∧
    ({ eth with dst := 2 ^ 48 } : EthIn).wf = false ∧ ({ eth with inner := 65 } : EthIn).wf = false ∧
    ({ eth with body := .udp { rtp with srcIp := 2 ^ 32 } ⟨0, 0, 0, 0, false, []⟩ } : EthIn).wf = false ∧
    ({ eth with body := .udp { rtp with dstIp := 2 ^ 32 } ⟨0, 0, 0, 0, false, []⟩ } : EthIn).wf = false ∧
    ({ eth with body := .udp { rtp with dstPort := 65536 } ⟨0, 0, 0, 0, false, []⟩ } : EthIn).wf = false ∧
    ({ eth with body := .udp { rtp with pt := 128 } ⟨0, 0, 0, 0, false, []⟩ } : EthIn).wf = false ∧
    ({ eth with body := .udp { rtp with body := ⟨[], [(2048, ⟨true, []⟩)], []⟩ } ⟨0, 0, 0, 0, false, []⟩ } : EthIn).wf = false ∧
    (TxIn.mk 64 65 none).wf = false ∧ (TxIn.mk 64 64 (some (65536, 0))).wf = false ∧ (TxIn.mk 64 64 (some (0, 16))).wf = false ∧
    (PktIn.mk (2 ^ 48) 0 false 0).wf = false ∧
    (FomIn.mk 0 true false 0 (2 ^ 32)).wf = false ∧
    (Instr.bar2Write (BitVec.ofNat 35 (2 ^ 35 - 1)) [0, 0]).wf = false ∧ (Instr.p0Doorbell 0 (List.replicate 4097 0)).wf = false ∧
    (Instr.igmpQuery 0 4 0 0).wf = false ∧ (Instr.igmpQuery 0 3 (2 ^ 32) 0).wf = false ∧ (Instr.hello frame1 []).wf = false := by decide +kernel

/-- A datagram beyond an Ethernet frame's UDP payload. -/
theorem wf_refuses_long_datagrams (x : Datagram) (h : 65507 < x.bytes.length) : x.wf = false := by
  simp [Datagram.wf]; omega

/-! ### Examples of the manual, and check values of the standards that it names -/

/-- spec/02, worked example: TICK_CUTOFF reads 59,318 at 1080p59.94, and line 7 starts at T0 + 88.978 µs (88,977.8 ns). -/
theorem test_cutoff : cutoffOf 0x20 6 = 59318 ∧ switchStart 0x20 6 = 88977 := by decide +kernel

/-- spec/16, worked example: the first block tick at or after T0 of frame 76,912 is 3,849,446. -/
theorem test_first_block : firstBlock (65536 * frameStart 6 76912) = 3849446 := by decide +kernel

/-- spec/16, worked example: 0.5 + 0.5 + 0.25 is a gain load of 1.25. -/
theorem test_gain_load : gainLoad [(0, 0x08000000), (1, 0x08000000), (2, 0x04000000)] = 5 * 2 ^ 26 := by decide +kernel

/-- spec/06, worked example: the record of GPIO pin 4's folded edges. -/
theorem test_log_record : (LogRecord.mk 8001 2 ⟨932, [1], 0x1890000000000000 + 7500000, 1⟩).words =
    [0x007270E0, 0x18900000, 0x1F41, 0x000207A4, 1, 0, 0, 0] := by decide +kernel

/-- spec/07, worked example: REED_LANE_STATUS of lane 42 at 0x0105_4008, and REED_LANE_EYE. -/
theorem test_lane_words :
    (let d := on up [(F.REED_LANE_STATUS_POS, 42, 2), (F.REED_LANE_STATUS_SRC_LOCK, 42, 15), (F.REED_LANE_STATUS_OCC, 42, 15),
        (F.REED_LANE_STATUS_TX_STATE, 42, 2), (F.REED_LANE_STATUS_COMMA_ALIGNED, 42, 1), (F.REED_LANE_STATUS_RATE, 42, 3),
        (F.REED_LANE_STATUS_CAUSE, 42, 3), (F.REED_LANE_STATUS_RX_STATE, 42, 3), (F.REED_LANE_EYE_CTLE, 42, 7), (F.REED_LANE_EYE_FOM_MIN, 42, 17),
        (F.REED_LANE_EYE_FOM, 42, 52)];
      d.storedAt 0x01054008 = 0x002FFADB ∧ d.storedAt 0x0105400C = 0x00071134) := by decide +kernel

/-- spec/02, worked example: TICK_COMMIT_STATUS reads 0x2E63_0200 when no commit is pending. -/
theorem test_commit_status :
    (on up [(F.TICK_COMMIT_STATUS_APPLIED_EPOCH, 0, 77411), (F.TICK_COMMIT_STATUS_STATE, 0, 2)]).wordAt 0x70002C = 0x2E630200 := by decide +kernel

/-- The check values of the codes that R155, R159, R262 and R91 name, over the bytes 1 to 9 in ASCII. -/
theorem test_check_values :
    (let s := [0x31#8, 0x32, 0x33, 0x34, 0x35, 0x36, 0x37, 0x38, 0x39];
      crc8 s = 0xF4 ∧ crc16 s = 0x29B1 ∧ crc32 s = 0xCBF43926 ∧ crc32c s = 0xE3069283) := by decide +kernel

/-- RFC 4231, test case 2, the code of R100. -/
theorem test_hmac :
    hmac [0x4A, 0x65, 0x66, 0x65] [0x77, 0x68, 0x61, 0x74, 0x20, 0x64, 0x6F, 0x20, 0x79, 0x61, 0x20, 0x77, 0x61, 0x6E, 0x74, 0x20, 0x66, 0x6F,
      0x72, 0x20, 0x6E, 0x6F, 0x74, 0x68, 0x69, 0x6E, 0x67, 0x3F] =
    beBytes 32 0x5bdcc146bf60754e6a042426089575c75a003f089d2739839dec58b964ec3843 := by decide +kernel

/-- R157: the first word's most significant bit comes first. -/
theorem test_pack : packWords [0x3FF, 0, 0x200, 1] = [0xFF, 0xC0, 0x08, 0x00, 0x01] := by decide +kernel

/-- R34: 48 blocks of 16 samples begin in 16 ms; R33 at 59.94 Hz: frame 60,000 begins at 1,001 s. -/
theorem test_ticks : blockOf 16000000 = 48 ∧ frameStart 6 60000 = 1001 * 10 ^ 9 ∧ frameOf 6 (1001 * 10 ^ 9 - 1) = 59999 := by decide +kernel

/-- A step takes the front command: NOP on P4 from `up` answers frame 0 and leaves the queue's rest. -/
theorem test_step_takes_the_front :
    step { State.reset with dev := up, pending := [.nop (rq []), .cutoff] } = exec (.nop (rq [])) { State.reset with dev := up, pending := [.cutoff] } :=
  rfl

end Sys2Proof.Tests
end

/-! Proofs of the statements on shadow copies, access types, register access and Mere's errors. -/

/-! ## Tables in order -/

section

namespace Sys2Proof.Machine

/-- What stands before a key stands before every later one. -/
theorem Cell.before_trans {a b : Cell} {f i : Nat} (h : a.before b.fld b.inst = true) (k : b.before f i = true) : a.before f i = true := by
  simp only [Cell.before, Bool.or_eq_true, Bool.and_eq_true, decide_eq_true_eq, beq_iff_eq] at h k ⊢
  omega

/-- The keys of a table in order rise from each cell to every later one. -/
theorem Map.sorted_iff_pairwise (m : Map) : m.sorted = true ↔ m.Pairwise fun c e => c.before e.fld e.inst = true := by
  induction m with
  | nil => exact ⟨fun _ => List.Pairwise.nil, fun _ => rfl⟩
  | cons c m ih =>
    cases m with
    | nil => exact ⟨fun _ => List.pairwise_singleton _ _, fun _ => rfl⟩
    | cons e m =>
      rw [Map.sorted, Bool.and_eq_true, ih, List.pairwise_cons (a := c)]
      refine ⟨fun ⟨first, rest⟩ => ⟨fun x hx => ?_, rest⟩, fun ⟨all, rest⟩ => ⟨all e (List.mem_cons_self ..), rest⟩⟩
      rcases List.mem_cons.mp hx with rfl | hx
      · exact first
      · exact Cell.before_trans first ((List.pairwise_cons.mp rest).1 x hx)

/-- A part of a table in order is in order. -/
theorem Map.sorted_filter {m : Map} (h : m.sorted = true) (p : Cell → Bool) : Map.sorted (m.filter p) = true := by
  rw [Map.sorted_iff_pairwise] at h ⊢
  exact h.filter p

theorem Map.mem_put {m : Map} {f i v : Nat} {e : Cell} (h : e ∈ m.put f i v) : e ∈ m ∨ e = ⟨f, i, v⟩ := by
  induction m with
  | nil => simpa [Map.put] using h
  | cons c m ih =>
    simp only [Map.put] at h
    split at h
    · grind
    · split at h <;> grind

theorem Map.sorted_put {m : Map} (h : m.sorted = true) (f i v : Nat) : (m.put f i v).sorted = true := by
  rw [Map.sorted_iff_pairwise] at h ⊢
  induction m with
  | nil => exact List.pairwise_singleton _ _
  | cons c m ih =>
    obtain ⟨hc, hm⟩ := List.pairwise_cons.mp h
    simp only [Map.put]
    split
    · rename_i key
      exact List.pairwise_cons.mpr ⟨fun e he => by simpa only [Cell.before, key] using hc e he, hm⟩
    · rename_i key
      split
      · rename_i before
        refine List.pairwise_cons.mpr ⟨fun e he => ?_, ih hm⟩
        rcases Map.mem_put he with he | rfl
        · exact hc e he
        · exact before
      · rename_i after
        refine List.pairwise_cons.mpr ⟨fun e he => ?_, h⟩
        have first : Cell.before ⟨f, i, v⟩ c.fld c.inst = true := by
          simp only [Cell.before, Bool.or_eq_true, Bool.and_eq_true, decide_eq_true_eq, beq_iff_eq] at after ⊢
          omega
        rcases List.mem_cons.mp he with rfl | he
        · exact first
        · exact Cell.before_trans first (hc e he)

/-- A store keeps a table in order. -/
theorem Map.sorted_store {m : Map} (h : m.sorted = true) (f i v d : Nat) : (m.store f i v d).sorted = true := by
  unfold Map.store
  split
  · exact Map.sorted_filter h _
  · exact Map.sorted_put h f i v

/-- A table kept for some field numbers lists the values of those. -/
theorem Map.find?_filter_fld (m : Map) (p : Nat → Bool) (f i : Nat) :
    Map.find? (m.filter fun c => p c.fld) f i = if p f then m.find? f i else none := by
  induction m with
  | nil => simp [Map.find?]
  | cons c m ih =>
    rw [List.filter_cons]
    split <;> simp only [Map.find?, ih] <;> grind

/-- No cell after the first one of a table in order has its key. -/
theorem Map.find?_tail_of_sorted {c : Cell} {m : Map} (h : Map.sorted (c :: m) = true) : Map.find? m c.fld c.inst = none := by
  rw [Map.sorted_iff_pairwise] at h
  have later := (List.pairwise_cons.mp h).1
  clear h
  induction m with
  | nil => rfl
  | cons e m ih =>
    have he : ¬(e.fld = c.fld ∧ e.inst = c.inst) := by
      have := later e (List.mem_cons_self ..)
      simp only [Cell.before, Bool.or_eq_true, Bool.and_eq_true, decide_eq_true_eq, beq_iff_eq] at this
      omega
    rw [Map.find?, if_neg he]
    exact ih fun x hx => later x (List.mem_cons_of_mem _ hx)

/-- When the cells of a table in order are stored into another one, a key reads as the first one lists it, else as before. -/
theorem Map.getD_foldl_store (dflt : Nat → Nat → Nat) (f i : Nat) {l : Map} (h : l.sorted = true) (m : Map) :
    (Map.find? (l.foldl (fun m c => m.store c.fld c.inst c.val (dflt c.fld c.inst)) m) f i).getD (dflt f i) =
      (l.find? f i).getD ((m.find? f i).getD (dflt f i)) := by
  induction l generalizing m with
  | nil => rfl
  | cons c l ih =>
    have tail : Map.sorted l = true := by
      rw [Map.sorted_iff_pairwise] at h ⊢
      exact h.tail
    rw [List.foldl_cons, ih tail]
    by_cases key : c.fld = f ∧ c.inst = i
    · obtain ⟨rfl, rfl⟩ := key
      rw [Map.find?_tail_of_sorted h, Map.find?, if_pos ⟨rfl, rfl⟩]
      exact Map.getD_store_same ..
    · rw [Map.find?_store_ne m _ _ fun k => key ⟨k.1.symm, k.2.symm⟩, Map.find?, if_neg key]

end Sys2Proof.Machine
end

/-! ## Shadow copies and the commit that applies them (R6, R43, R47) -/

section

namespace Sys2Proof.Machine

theorem Dev.load_shadow_sorted {d : Dev} (h : d.shadow.sorted = true) (f : Fld) (i v : Nat) : (d.load f i v).shadow.sorted = true :=
  Map.sorted_store h ..

/-- The number of a shadowed field stands for one field. -/
theorem shFields_ids_nodup : (shFields.map Fld.id).Nodup := by decide +kernel

/-- A field is found by its number where no other field has it. -/
theorem find?_id_of_nodup {f : Fld} {l : List Fld} (hl : (l.map Fld.id).Nodup) (h : f ∈ l) :
    (l.find? fun g => g.id == f.id) = some f := by
  induction l with
  | nil => cases h
  | cons g l ih =>
    rw [List.map_cons, List.nodup_cons] at hl
    rcases List.mem_cons.mp h with rfl | later
    · exact List.find?_cons_of_pos (beq_self_eq_true _)
    · have other : ¬(g.id == f.id) = true := fun same => hl.1 (beq_iff_eq.mp same ▸ List.mem_map_of_mem later)
      rw [List.find?_cons_of_neg (p := fun g : Fld => g.id == f.id) other]
      exact ih hl.2 later

/-- The reset value that a commit stores against is the field's own. -/
theorem shadowDflt_of_mem {f : Fld} (h : f ∈ shFields) (i : Nat) : shadowDflt f.id i = f.dflt i := by
  rw [shadowDflt, find?_id_of_nodup shFields_ids_nodup h]
  rfl

theorem inGroups_eq (mask : Nat) (c : Cell) : inGroups mask c = (groupOf c.fld).any (bit mask) := by
  unfold inGroups
  cases groupOf c.fld <;> rfl

/-- The shadow copies that a commit takes are those of its groups' fields. -/
theorem Map.find?_filter_inGroups (m : Map) (mask f i : Nat) :
    Map.find? (m.filter (inGroups mask)) f i = if (groupOf f).any (bit mask) then m.find? f i else none := by
  rw [funext (inGroups_eq mask)]
  exact Map.find?_filter_fld m (fun n => (groupOf n).any (bit mask)) f i

/-- A commit gives a shadowed field of its groups the value of its shadow copy, and leaves one of any other group (R43). -/
theorem Dev.get_applyGroups {d : Dev} (hs : d.shadow.sorted = true) (mask : Nat) {f : Fld} (hf : f ∈ shFields) (i : Nat) :
    (d.applyGroups mask).get f i = if (groupOf f.id).any (bit mask) then d.getShadow f i else d.get f i := by
  have fold := Map.getD_foldl_store shadowDflt f.id i (Map.sorted_filter hs (inGroups mask)) d.reg
  rw [Map.find?_filter_inGroups, shadowDflt_of_mem hf] at fold
  refine fold.trans ?_
  split <;> rfl

end Sys2Proof.Machine
end

section

namespace Sys2Proof.Machine

/-- Values loaded one after another leave the table of the shadow copies in order. -/
theorem Dev.each_load_shadow_sorted {d : Dev} (h : d.shadow.sorted = true) (f : Fld) (i : Nat) (vs : List Nat) :
    (d.each vs fun d v => d.load f i v).shadow.sorted = true := by
  induction vs generalizing d with
  | nil => exact h
  | cons v vs ih => exact ih (Dev.load_shadow_sorted h f i v)

/-- Settles O12: the commit applies the shadow copy, and the last load alone decides what that holds. -/
theorem theLastShadowWriteTakesEffect : Obligations.TheLastShadowWriteTakesEffect := by
  intro d f i mask g vs v hf hg hm _ hs e
  have kept {β : Type} (P : Dev → β) (hP : ∀ (d : Dev) v, P (d.load f i v) = P d) : P e = P d :=
    Dev.each_keeps P (fun d v => d.load f i v) (vs ++ [v]) hP d
  have last : e = (d.each vs fun d v => d.load f i v).load f i v := by
    simp only [e, List.foldl_append, List.foldl_cons, List.foldl_nil, Dev.each]
  refine ⟨kept (·.get f i) fun d v => Dev.get_load d f i v f i, ?_, kept Dev.evt fun _ _ => rfl, kept Dev.out fun _ _ => rfl⟩
  have order : e.shadow.sorted = true := Dev.each_load_shadow_sorted hs f i (vs ++ [v])
  rw [Dev.get_applyGroups order mask hf, hg, Option.any_some, if_pos hm, last, Dev.getShadow_load_same]

end Sys2Proof.Machine
end

/-! ## Access by type (R2, R5) -/

section

namespace Sys2Proof.Machine

theorem Dev.writePart_rw (d : Dev) (i w : Nat) {f : Fld} (h : f.acc = .rw) :
    d.writePart i w (.fld f) = d.set f i (fieldOf f w) := by
  simp only [Dev.writePart, h]

theorem Dev.writePart_w1c (d : Dev) (i w : Nat) {f : Fld} (h : f.acc = .w1c) :
    d.writePart i w (.fld f) = d.set f i (d.get f i - (d.get f i &&& fieldOf f w)) := by
  simp only [Dev.writePart, h]

theorem Dev.writePart_w1s (d : Dev) (i w : Nat) {f : Fld} (h : f.acc = .w1s) :
    d.writePart i w (.fld f) = d.set f i (d.get f i ||| fieldOf f w) := by
  simp only [Dev.writePart, h]

/-- A write leaves a field of any other type as it is. -/
theorem Dev.writePart_other (d : Dev) (i w : Nat) {f : Fld} (hrw : f.acc ≠ .rw) (hc : f.acc ≠ .w1c) (hs : f.acc ≠ .w1s) :
    d.writePart i w (.fld f) = d := by
  simp only [Dev.writePart]

/-- A write of a part sets the part's own field or nothing. -/
theorem Dev.writePart_cases (d : Dev) (i w : Nat) (f : Fld) :
    d.writePart i w (.fld f) = d ∨ ∃ v, d.writePart i w (.fld f) = d.set f i v := by
  by_cases hrw : f.acc = .rw
  · exact .inr ⟨_, Dev.writePart_rw d i w hrw⟩
  by_cases hc : f.acc = .w1c
  · exact .inr ⟨_, Dev.writePart_w1c d i w hc⟩
  by_cases hs : f.acc = .w1s
  · exact .inr ⟨_, Dev.writePart_w1s d i w hs⟩
  exact .inl (Dev.writePart_other d i w hrw hc hs)

/-- What a read does to a part of its register. -/
def Dev.clearPart (d : Dev) (i : Nat) : Part → Dev
  | .fld f => if f.acc = .rc then d.set f i (f.dflt i) else d
  | .cnt _ => d

/-- A read does so part by part, but for the Causeway lanes' eye register. -/
theorem Dev.clearRead_eq (d : Dev) {r : Reg} (h : r.base ≠ 0xF00104) (i : Nat) :
    d.clearRead r i = d.each r.parts fun d p => d.clearPart i p :=
  congrArg (fun e : Dev => e.each r.parts fun d p => d.clearPart i p) (if_neg h)

/-- A read of a part leaves every field but the part's own, when that is an RC field, as it is. -/
theorem Dev.get_clearPart_ne (d : Dev) {i : Nat} {p : Part} {g : Fld} {j : Nat}
    (h : ∀ f, p = .fld f → f.acc = .rc → ¬(g.id = f.id ∧ j = i)) : (d.clearPart i p).get g j = d.get g j := by
  cases p with
  | cnt c => rfl
  | fld f =>
    simp only [Dev.clearPart]
    split
    · rename_i hrc
      exact Dev.get_set_ne d _ (h f rfl hrc)
    · rfl

theorem Dev.get_each_clearPart_ne (d : Dev) {i : Nat} {ps : List Part} {g : Fld} {j : Nat}
    (h : ∀ f, Part.fld f ∈ ps → f.acc = .rc → ¬(g.id = f.id ∧ j = i)) : (d.each ps fun d p => d.clearPart i p).get g j = d.get g j := by
  induction ps generalizing d with
  | nil => rfl
  | cons p ps ih =>
    have head : (d.clearPart i p).get g j = d.get g j := d.get_clearPart_ne fun f hp => h f (hp ▸ List.mem_cons_self ..)
    exact (ih (d.clearPart i p) fun f hf => h f (List.mem_cons_of_mem _ hf)).trans head

/-- Settles O16: by the access type of the written field, and part by part of the register read. -/
theorem accessTypesAct : Obligations.AccessTypesAct := by
  refine ⟨fun d f i w => ?_, fun d r i g j hb h => ?_, fun d r i f hb hp hf => ?_⟩
  · dsimp only
    refine ⟨fun h => ?_, fun h => ?_, fun h => ?_, Dev.writePart_other d i w, ?_⟩
    · rw [Dev.writePart_rw d i w h, Dev.get_set_same]; rfl
    · rw [Dev.writePart_w1c d i w h, Dev.get_set_same]; rfl
    · rw [Dev.writePart_w1s d i w h, Dev.get_set_same]; rfl
    · rcases d.writePart_cases i w f with h | ⟨v, h⟩ <;> rw [h]
      · exact ⟨rfl, rfl, rfl, fun _ _ _ => rfl⟩
      · exact ⟨rfl, rfl, rfl, fun g j other => Dev.get_set_ne d v other⟩
  · rw [Dev.clearRead_eq d hb]
    exact d.get_each_clearPart_ne h
  · have single : d.clearRead r i = d.set f i (f.dflt i) := by
      rw [Dev.clearRead_eq d hb, hp]
      exact if_pos hf
    rw [single, Dev.get_set_same]

end Sys2Proof.Machine
end

/-! ## Register access (R47, R117, R132, R137, R207, R534) -/

section

namespace Sys2Proof.Machine

/-! ### Writes -/

/-- A write that reaches a register's word is carried out there. -/
theorem Dev.storeWord_of {d : Dev} {m off : Nat} (h : d.Reaches m off) (w : Nat) :
    d.storeWord m off w = ((d.transaction m).writeWord m off w).1.written m off w :=
  Dev.busWrite_of h w _

theorem Dev.writeWord_of_findReg (d : Dev) (m w : Nat) {off i : Nat} {r : Reg} (hx : inMsix off = false)
    (hr : findReg off = some (r, i)) : d.writeWord m off w = d.writeReg m r i w := by
  simp only [Dev.writeWord, hx, hr, Bool.false_eq_true, if_false]

/-- The MSI-X table lies at 0x301000 to 0x3013FF (R130). -/
theorem Dev.writeWord_of_msixTable (d : Dev) (m w : Nat) {off : Nat} (lo : 0x301000 ≤ off) (hi : off < 0x301400) :
    d.writeWord m off w = (d.writeMsix (off / 16 % 64) (off / 4 % 4) w, .admitted) := by
  have hx : inMsix off = true := by simp [inMsix, lo, hi]
  simp only [Dev.writeWord, hx, if_true, if_pos (show off < 0x302000 by omega)]

/-- A register with a rule of its own takes what the rule gives. -/
theorem Dev.writeReg_of_ruled {d e : Dev} {m i w : Nat} {r : Reg} (h : d.ruledWrite m r.base i w = some e) :
    d.writeReg m r i w = (e, .admitted) := by
  simp only [Dev.writeReg, h]

/-- A register with neither a rule of its own nor SH fields acts by the types of its fields; the timing windows of the receivers excepted,
whose memberships it also renews. -/
theorem Dev.writeReg_of_types {d : Dev} {m i w : Nat} {r : Reg} (h : d.ruledWrite m r.base i w = none) (hs : r.shadowed = false)
    (hb : ¬(0x1C80000 ≤ r.base ∧ r.base < 0x1C90000)) : d.writeReg m r i w = (d.writeParts r i w, .admitted) := by
  simp only [Dev.writeReg, h, hs, Bool.false_eq_true, if_false, if_neg hb]

/-- A register with SH fields gives their shadow copies the word that it stores. -/
theorem Dev.writeReg_of_shadowed {d : Dev} {m i w x : Nat} {r : Reg} (h : d.ruledWrite m r.base i w = none) (hs : r.shadowed = true)
    (hx : (d.writeParts r i w).shadowStored r.base i w = some x) : d.writeReg m r i w = (d.writeParts r i w).loadShadow r i x := by
  simp only [Dev.writeReg, h, hs, if_true, hx]

theorem Dev.loadShadow_of_admitted {d : Dev} {r : Reg} {i w : Nat}
    (h : d.admitShadow (r.shFields.map fun f => sw f i (fieldOf f w)) = .admitted) :
    d.loadShadow r i w = (d.each r.shFields fun d f => d.load f i (fieldOf f w), .admitted) := by
  simp only [Dev.loadShadow, h]

theorem Dev.loadShadow_of_bandwidth {d : Dev} {r : Reg} {i w claim : Nat}
    (h : d.admitShadow (r.shFields.map fun f => sw f i (fieldOf f w)) = .bandwidth claim) :
    d.loadShadow r i w = ((d.bump C.MERE_BW_REFUSED).raise 578 [claim, d.bwLimit], .bandwidth claim) := by
  simp only [Dev.loadShadow, h]

/-- A host write that the matrix takes and the lease does not is discarded, counted and reported (R117). -/
theorem Dev.busWrite_of_barred {d : Dev} {m off : Nat} (h : d.Readable m off) (hb : d.hostBarred m off = true) (w : Nat)
    (effect : Dev → Dev) : d.busWrite m off w effect = ((d.transaction m).unleased off).answer m .done := by
  unfold Dev.busWrite
  rw [Dev.access_of h.1]
  simp [hb]

/-! ### Reads -/

/-- A read that reaches a word answers it and leaves what the word's read leaves. -/
theorem Dev.loadWord_of {d : Dev} {m off : Nat} (h : d.Readable m off) :
    d.loadWord m off = ((d.transaction m).readWord m off).2.answer m (.data [((d.transaction m).readWord m off).1]) :=
  Dev.busRead_of h _

theorem Dev.readWord_of_latched {d : Dev} {m off x : Nat} (h : d.latched m off = some x) : d.readWord m off = (x, d) := by
  simp only [Dev.readWord, h]

theorem Dev.readWord_of_findReg {d : Dev} {m off i : Nat} {r : Reg} (h : d.latched m off = none) (hr : findReg off = some (r, i))
    (hb : r.base ≠ 0x900400) :
    d.readWord m off = (d.wordAt off, (d.each (higherWords r.base) fun d k => d.latch m (off + k)).clearRead r i) := by
  simp only [Dev.readWord, h, hr, if_neg hb]

/-- A latch holds the word of its moment for its master (R137). -/
@[simp] theorem Dev.latched_latch_same (d : Dev) (m off : Nat) : (d.latch m off).latched m off = some (d.wordAt off) := by
  simp [Dev.latched, Dev.latch]

/-! ### BAR2 and the I²C port -/

@[simp] theorem Dev.mereRefuses_transaction (d : Dev) (m : Nat) : (d.transaction m).mereRefuses = d.mereRefuses := by
  simp [Dev.mereRefuses, Dev.hung, Dev.mereUp]

/-- A host write through BAR2 that holds the lease and meets Mere in service writes Mere. -/
theorem bar2Write_of_held {s : State} (hl : s.dev.holder 2 = 0) (hm : s.dev.mereRefuses = false) (off : Nat) (bytes : List Byte) :
    bar2Write off bytes s = ({ s with dev := (s.dev.transaction 1).answer 1 .done }).writeMere off bytes := by
  simp [bar2Write, hl, hm]

theorem bar2Write_of_unheld {s : State} (hl : s.dev.holder 2 ≠ 0) (off : Nat) (bytes : List Byte) :
    bar2Write off bytes s = { s with dev := ((s.dev.transaction 1).unleased off).answer 1 .done } := by
  simp [bar2Write, hl]

/-- The I²C port answers from the completion of start-up step 2 on, and in BOOT_FAIL (R534). -/
theorem Dev.i2cRead_of {d : Dev} (h : 2 < d.get F.BOOT_STATUS_STEP ∨ d.get F.TOP_STATUS_BOOT_FAIL = 1) (off : Nat) :
    d.i2cRead off = d.emit (.i2c (if i2cShows off then d.wordAt off else 0xDEC0DE00)) :=
  if_neg (by omega)

/-- Settles O17: each clause is the rule of its access above, at the word that the access reaches. -/
theorem registerAccessActs : Obligations.RegisterAccessActs := by
  refine ⟨fun m word v s r i reach hx hr hs none hb => ?types, fun m word v s e r i reach hx hr rule => ?ruled,
    fun m word v s r i w reach hx hr hs none => ?shadowed,
    fun m word v s reach lo hi => ?msix, fun m word v s read barred => ?barred, fun m word s r i read hr hb fresh => ?read,
    fun m word s x read held => ?latched, Dev.latched_latch_same, fun off bytes s hl hm wf => ?bar2,
    fun off bytes s hl => ?bar2Unheld, fun off s h => ?i2c⟩
  case types =>
    rw [exec_registerWrite, Dev.storeWord_of reach, Dev.writeWord_of_findReg _ _ _ hx hr, Dev.writeReg_of_types none hs hb]
  case ruled =>
    rw [exec_registerWrite, Dev.storeWord_of reach, Dev.writeWord_of_findReg _ _ _ hx hr, Dev.writeReg_of_ruled rule]
  case shadowed =>
    intro d stored ws
    have store : s.dev.storeWord m (4 * word) v.toNat = (d.loadShadow r i w).1.written m (4 * word) v.toNat := by
      rw [Dev.storeWord_of reach, Dev.writeWord_of_findReg _ _ _ hx hr, Dev.writeReg_of_shadowed none hs stored]
    refine ⟨fun adm => ?_, fun claim adm => ?_⟩
    · rw [exec_registerWrite, exec_shadowWrite, hr, Option.any_some, if_pos hs, store, Dev.loadShadow_of_admitted adm]
      exact ⟨rfl, rfl⟩
    · rw [exec_shadowWrite, hr, Option.any_some, if_pos hs, store, Dev.loadShadow_of_bandwidth adm]
  case msix =>
    rw [exec_registerWrite, Dev.storeWord_of reach, Dev.writeWord_of_msixTable _ _ _ lo hi]
  case barred =>
    rw [exec_registerWrite, Dev.storeWord, Dev.busWrite_of_barred read barred]
    rfl
  case read =>
    rw [exec_readClear, exec_latchingRead, Dev.loadWord_of read, Dev.readWord_of_findReg fresh hr hb]
    exact ⟨rfl, rfl⟩
  case latched =>
    rw [exec_latchingRead, Dev.loadWord_of read, Dev.readWord_of_latched held]
  case bar2 =>
    rw [exec_bar2Write, bar2Write_of_held hl hm]
    exact ⟨_, rfl, rfl, fun a => Memory.read_writeBytes mereSize bytes s.mere off.toNat a wf⟩
  case bar2Unheld =>
    rw [exec_bar2Write, bar2Write_of_unheld hl]
    exact ⟨_, rfl, rfl, rfl⟩
  case i2c =>
    rw [exec_i2cRead, Dev.i2cRead_of h]

end Sys2Proof.Machine
end

/-! ## Mere's errors and its loss of service (R210, R211) -/

section

namespace Sys2Proof.Machine

/-- Mere in service goes out of it: its slots are judged again, the cause is raised (R211). -/
theorem Dev.mereOut_of_inService {d : Dev} (h : d.get F.MERE_STATUS_IN_SERVICE = 1) (cause : Nat) :
    let e := d.set F.MERE_STATUS_IN_SERVICE 0 0
    d.mereOut cause = ((e.each e.liveSlots Dev.reviewSlot).raise 580 [cause]).healthReview :=
  if_neg (by simp [Dev.mereUp, h])

/-- Once out of service, it is not taken out again. -/
theorem Dev.mereOut_of_out {d : Dev} (h : d.get F.MERE_STATUS_IN_SERVICE ≠ 1) (cause : Nat) : d.mereOut cause = d :=
  if_pos (by simp [Dev.mereUp, h])

/-- The offset of an uncorrectable error is captured while VALID is 0 and only then (R210). -/
def Dev.captureEcc (d : Dev) (offset : Nat) : Dev :=
  if d.get F.MERE_ECC_ADDR_HI_VALID == 1 then d
  else ((d.set F.MERE_ECC_ADDR_HI_VALID 0 1).set F.MERE_ECC_ADDR_LO_ADDR 0 offset).set F.MERE_ECC_ADDR_HI_ADDR 0 (offset / 2 ^ 32)

/-- One more uncorrectable error since the start: more than 64 take Mere out of service (R211). -/
def Dev.countMereError (d : Dev) : Dev :=
  let n := d.hget H.mereErrors + 1
  if n > 64 then (d.hset H.mereErrors 0 n).mereOut 2 else d.hset H.mereErrors 0 n

/-- An uncorrectable error is counted for its stack, captured, raised, does its damage and counts towards the loss of service. -/
theorem Dev.mereError_uncorrectable (d : Dev) (stack offset : Nat) (k : MereHit) :
    d.mereError stack false offset k =
      ((((d.bump (if stack = 0 then C.MERE_ECC_UE_A else C.MERE_ECC_UE_B)).captureEcc offset).raise 577 (words2 offset)).mereDamage
        offset k).countMereError := rfl

/-- A write of MERE_ECC_ADDR_HI that reaches the register re-arms the capture or not. -/
theorem exec_mereEccAddrClear_of {m : Fin 8} {s : State} (h : s.dev.Reaches m 0x1500034) (v : Word) :
    exec (.mereEccAddrClear m v) s =
      s.becomes (((s.dev.transaction m).clearEccAddr v.toNat).written m 0x1500034 v.toNat) :=
  (exec_mereEccAddrClear m v s).trans (congrArg s.becomes (Dev.busWrite_of h v.toNat _))

/-- Settles O28: the cases of an error by its kind, of the loss of service by whether Mere is in service, and of the re-arming write
by its bit. -/
theorem mereErrorsAct : Obligations.MereErrorsAct := by
  refine ⟨fun _ _ _ _ => rfl, fun stack o hit s => ?uncorrectable, fun _ _ _ _ => ⟨rfl, rfl, rfl, rfl⟩, fun _ _ => rfl,
    fun d cause h => Dev.mereOut_of_inService h cause, fun d cause h => Dev.mereOut_of_out h cause,
    fun m v s reach set => ?rearm, fun m v s reach clear => ?keep⟩
  case uncorrectable =>
    rw [exec_mereEccError, Dev.mereError_uncorrectable, Dev.captureEcc, Dev.get_bump]
    simp only [beq_iff_eq]
    rfl
  case rearm =>
    rw [exec_mereEccAddrClear_of reach, Dev.clearEccAddr, if_pos set]
  case keep =>
    rw [exec_mereEccAddrClear_of reach, Dev.clearEccAddr, clear]
    rfl

end Sys2Proof.Machine
end

/-! Proofs of the statements on the crosspoint, the transmit lanes and the ledgers. -/

/-! ## Ledgers against their records (R29, R513) -/

section

namespace Sys2Proof.Machine

/-- An MSI-X vector leaves the number of raised events. -/
theorem Dev.signal_raised (d : Dev) (v : Nat) : (d.signal v).evt.raised = d.evt.raised := by
  unfold Dev.signal
  split
  · rfl
  · split <;> rfl

/-- The signal of a group leaves the number of raised events. -/
@[simp] theorem Dev.signalGroup_raised (d : Dev) (g : Nat) : (d.signalGroup g).evt.raised = d.evt.raised := by
  unfold Dev.signalGroup
  split
  · exact Dev.signal_raised ..
  · rfl

/-- Raising an event counts it (R138). -/
@[simp] theorem Dev.raise_raised (d : Dev) (n : Nat) (args : List Nat) :
    (d.raise n args).evt.raised = (d.evt.raised + 1) % 2 ^ 64 := by
  simp only [Dev.raise, Dev.report]
  split
  · rfl
  · rw [Dev.signalGroup_raised]

@[simp] theorem Dev.ledgerFault_health (d : Dev) (id : Nat) (imb : Int) (frame : Nat) :
    (d.ledgerFault id imb frame).health = d.health := by simp [Dev.ledgerFault]

@[simp] theorem Dev.ledgerFault_reg (d : Dev) (id : Nat) (imb : Int) (frame : Nat) :
    (d.ledgerFault id imb frame).reg = d.reg := by simp [Dev.ledgerFault]

@[simp] theorem Dev.ledgerFault_raised (d : Dev) (id : Nat) (imb : Int) (frame : Nat) :
    (d.ledgerFault id imb frame).evt.raised = (d.evt.raised + 1) % 2 ^ 64 := by simp [Dev.ledgerFault]

@[simp] theorem Dev.get_ledgerFault (d : Dev) (id : Nat) (imb : Int) (frame : Nat) (f : Fld) (i : Nat) :
    (d.ledgerFault id imb frame).get f i = d.get f i := by simp [Dev.get]

@[simp] theorem Dev.hget_ledgerFault_same (d : Dev) (id : Nat) (imb : Int) (frame : Nat) :
    (d.ledgerFault id imb frame).hget H.ledgerFault = 1 := Dev.hget_hset_same ..

variable {d : Dev} {id : Nat} {imb : Int} {f : LedgerFault}

theorem Dev.checkLedger_balanced (h : (d.health.faults.find? fun f => f.id == id) = none) (frame : Nat) :
    d.checkLedger frame id 0 = d := by
  simp [Dev.checkLedger, h]

theorem Dev.checkLedger_recorded (h : (d.health.faults.find? fun f => f.id == id) = some f) (frame : Nat) :
    d.checkLedger frame id f.imbalance = d := by
  simp [Dev.checkLedger, h]

theorem Dev.checkLedger_changed (h : (d.health.faults.find? fun f => f.id == id) = some f) (hne : f.imbalance ≠ imb) (frame : Nat) :
    d.checkLedger frame id imb = (d.onHealth fun h => { h with faults := h.faults.map fun (g : LedgerFault) =>
      if g.id = id then { g with imbalance := imb } else g }).ledgerFault id imb frame := by
  simp [Dev.checkLedger, h, hne.symm]

theorem Dev.checkLedger_first (h : (d.health.faults.find? fun f => f.id == id) = none) (hi : imb ≠ 0)
    (room : d.health.faults.length < 64) (frame : Nat) :
    d.checkLedger frame id imb =
      (d.onHealth fun h => { h with faults := h.faults ++ [⟨id, imb, frame⟩] }).ledgerFault id imb frame := by
  simp [Dev.checkLedger, h, hi, room]

theorem Dev.checkLedger_full (h : (d.health.faults.find? fun f => f.id == id) = none) (hi : imb ≠ 0)
    (full : 64 ≤ d.health.faults.length) (frame : Nat) :
    d.checkLedger frame id imb = (d.set F.LDG_STATUS_TABLE_FULL 0 1).ledgerFault id imb frame := by
  simp [Dev.checkLedger, h, hi, Nat.not_lt.mpr full]

end Sys2Proof.Machine
end

section

namespace Sys2Proof.Machine

/-- No entry of the table belongs to a ledger. -/
theorem find?_ledger_none {l : List LedgerFault} {id : Nat} (h : ∀ f ∈ l, f.id ≠ id) : (l.find? fun f => f.id == id) = none := by
  simpa [List.find?_eq_none] using h

/-- Settles O60: the cases of the check by the ledger's entry, its imbalance and the room of the table. -/
theorem aLedgerIsCheckedAgainstItsRecord : Obligations.ALedgerIsCheckedAgainstItsRecord := by
  refine fun d frame id imb => ⟨fun absent zero => ?_, fun f entry => ⟨fun same => ?_, fun changed => ?_⟩,
    fun absent new room => ?_, fun absent new full => ?_⟩
  · rw [zero, Dev.checkLedger_balanced absent]
  · rw [← same, Dev.checkLedger_recorded entry]
  · exact Dev.checkLedger_changed entry changed frame
  · rw [Dev.checkLedger_first (find?_ledger_none absent) new room]
    exact ⟨by rw [Dev.ledgerFault_health]; rfl, Dev.hget_ledgerFault_same .., Dev.ledgerFault_raised .., Dev.ledgerFault_reg ..⟩
  · rw [Dev.checkLedger_full (find?_ledger_none absent) new full]
    exact ⟨by simp, by rw [Dev.get_ledgerFault]; exact Dev.get_set_same .., by simp⟩

end Sys2Proof.Machine
end

/-! ## The transmit lanes (R174–R176, R182) -/

section

namespace Sys2Proof.Machine

/-- A lane in another state sends no superframe. -/
theorem Dev.superframeOut_silent {d : Dev} {n : Nat} (h : d.get F.REED_LANE_STATUS_TX_STATE n ≠ 2) : d.superframeOut n = d := by
  simp [Dev.superframeOut, h]

/-- A lane in SUPERFRAMES sends the words that its sub-channels take, coded. -/
theorem Dev.superframeOut_sending {d : Dev} {n : Nat} (h : d.get F.REED_LANE_STATUS_TX_STATE n = 2) :
    let h := (d.takeLane n).1.txHeader n (d.takeLane n).2
    let f := ((d.takeLane n).1.hset H.txSeq n (h.seq + 1)).nextFragment n h.seq
    let g := encodeChars (f.1.hget H.txPlus n == 1) (superframe h (d.takeLane n).2 f.2)
    d.superframeOut n = (f.1.hset H.txPlus n (ofBool g.2)).emit (.superframe n g.1) :=
  if_neg (by simp [h])

theorem Dev.takeWords_carried {d : Dev} {j : Nat} (h : d.txCarries j = true) :
    let ws := d.fifoOf j
    let due := min (208 * 100100) (d.hget H.txCredit j + d.wordsDue j)
    let k := min (min 50 (due / 400400)) (ws.length / 4)
    d.takeWords j = (((d.hset H.txCredit j (min (8 * 100100) (due - 400400 * k))).bump C.REED_TX_WORDS_SENT (j / 4) (4 * k)).setFifo j
      (ws.drop (4 * k)), ws.take (4 * k)) :=
  if_neg (by simp [h])

theorem Dev.takeWords_uncarried {d : Dev} {j : Nat} (h : d.txCarries j = false) : d.takeWords j = (d.dropQueued j, []) :=
  if_pos (by simp [h])

@[simp] theorem Dev.overCapacity_bump (d : Dev) (c : Ctr) (i n j : Nat) : (d.bump c i n).overCapacity j = d.overCapacity j := by
  simp [Dev.overCapacity, Dev.destOn]

theorem Dev.pushWords_queued {d : Dev} {j : Nat} (sends : d.get F.REED_LANE_STATUS_TX_STATE (j / 4) = 2) (fits : d.overCapacity j = false)
    (ws : List Nat) : d.pushWords j ws = (d.bump C.REED_TX_WORDS_IN (j / 4) ws.length).setFifo j (d.fifoOf j ++ ws) :=
  if_pos (by simp [sends, fits])

theorem Dev.pushWords_dropped {d : Dev} {j : Nat} (h : d.get F.REED_LANE_STATUS_TX_STATE (j / 4) ≠ 2 ∨ d.overCapacity j = true)
    (ws : List Nat) : d.pushWords j ws =
      (d.bump C.REED_TX_WORDS_IN (j / 4) ws.length).bump C.REED_TX_WORDS_DROPPED (j / 4) ws.length :=
  if_neg (by rcases h with h | h <;> simp [h])

theorem Dev.txgrpResume_idle {d : Dev} {g : Nat} (h : d.hget H.txIdle g ≠ 0) :
    d.txgrpResume g = ((d.hset H.txIdle g 0).each ((List.range 24).map (24 * g + ·)) Dev.txReview).capacityReviewAll :=
  if_neg (by simpa using h)

/-- Settles O26: each case of the lane's superframe, of a FIFO and of the group's resumption is a lemma. -/
theorem lanesTransmit : Obligations.LanesTransmit := by
  refine ⟨fun lane s silent => ?_, fun lane s sending => ?_, fun d j => Dev.takeWords_carried, fun d j => Dev.takeWords_uncarried,
    fun d j ws => ⟨fun sends fits => Dev.pushWords_queued sends fits ws, fun h => Dev.pushWords_dropped h ws⟩, fun g s idle => ?_⟩
  · rw [exec_reedSuperframeSend, Dev.superframeOut_silent silent]
  · rw [exec_reedSuperframeSend, Dev.superframeOut_sending sending]
    rfl
  · rw [exec_txgrpResume, Dev.txgrpResume_idle idle]

end Sys2Proof.Machine
end

/-! ## The switch line (R18, R217, R236, R238, R239) -/

section

namespace Sys2Proof.Machine

/-- The destination starts the frame in progress, and its switch line in it has not begun. -/
structure Dev.SwitchDue (d : Dev) (i : Nat) : Prop where
  runs : d.running = true
  starts : d.destStarts i d.tick.frame = true
  unswitched : d.hget H.destSwitched i ≠ d.get F.TICK_EPOCH_EPOCH + 1

/-- The armed take of a destination. -/
def Dev.armedTake (d : Dev) (i : Nat) : Option Entry := d.xpt.entries.find? fun e => e.dest == i && e.armed

/-- The changeover of a destination whose frame is in progress. -/
def Dev.dueChangeover (d : Dev) (i : Nat) : Option Changeover :=
  d.xpt.changeovers.find? fun c => c.dest == i && d.allows c.dest c.source d.tick.frame

section

variable {d : Dev} {i : Nat} (due : d.SwitchDue i)

include due

theorem Dev.nextSwitch_take {e : Entry} (h : d.armedTake i = some e) : d.nextSwitch i = some (.take e) := by
  obtain ⟨runs, starts, unswitched⟩ := due
  rw [Dev.armedTake] at h
  simp [Dev.nextSwitch, runs, starts, unswitched, h]

theorem Dev.nextSwitch_changeover {c : Changeover} (noTake : d.armedTake i = none) (h : d.dueChangeover i = some c) :
    d.nextSwitch i = some (.changeover c) := by
  obtain ⟨runs, starts, unswitched⟩ := due
  rw [Dev.armedTake] at noTake
  rw [Dev.dueChangeover] at h
  simp [Dev.nextSwitch, runs, starts, unswitched, noTake, h]

theorem Dev.nextSwitch_resume (noTake : d.armedTake i = none) (h : d.dueChangeover i = none) : d.nextSwitch i = some .resume := by
  obtain ⟨runs, starts, unswitched⟩ := due
  rw [Dev.armedTake] at noTake
  rw [Dev.dueChangeover] at h
  simp [Dev.nextSwitch, runs, starts, unswitched, noTake, h]

end

theorem Dev.nextSwitch_none {d : Dev} {i : Nat}
    (h : d.running = false ∨ d.hget H.destSwitched i = d.get F.TICK_EPOCH_EPOCH + 1) : d.nextSwitch i = none :=
  if_pos (by rcases h with h | h <;> simp [h])

/-- The switch line begins: CORE reaches it, and it is marked as begun in this frame. -/
def Dev.switchLineBegins (d : Dev) (i : Nat) : Dev :=
  (d.passToCore (d.tick.t0Core + switchStart (d.get F.XPT_DEST_STATUS_FORMAT i) (d.destRate i))).hset H.destSwitched i
    (d.get F.TICK_EPOCH_EPOCH + 1)

/-- The switch of a destination is made. -/
def Dev.makeSwitch (d : Dev) (i : Nat) : Switch → Dev
  | .take e => d.applyTake e
  | .changeover c => d.applyChangeover c
  | .resume => d.resume i

theorem Dev.sluice_of_base {d : Dev} {i : Nat} {w : Switch} (base : isBase d.inEffect F.XPT_DEST_CFG_GANG i = true)
    (h : d.nextSwitch i = some w) : d.sluice i = ((d.switchLineBegins i).makeSwitch i w).salvosEnd := by
  simp only [Dev.sluice, base, if_true, h]
  cases w <;> rfl

theorem Dev.sluice_of_member {d : Dev} {i : Nat} (member : isBase d.inEffect F.XPT_DEST_CFG_GANG i = false) : d.sluice i = d := by
  simp [Dev.sluice, member]

theorem Dev.sluice_of_none {d : Dev} {i : Nat} (h : d.nextSwitch i = none) : d.sluice i = d := by
  simp [Dev.sluice, h]

end Sys2Proof.Machine
end

section

namespace Sys2Proof.Machine

/-! ### What a destination carries -/

/-- What the MISMATCH bits and events leave, `setMismatch` leaves. -/
theorem Dev.setMismatch_keeps {β : Type} (P : Dev → β) (hset : ∀ (d : Dev) j v, P (d.set F.XPT_DEST_STATUS_MISMATCH j v) = P d)
    (hraise : ∀ (d : Dev) n args, P (d.raise n args) = P d) (d : Dev) (i : Nat) (on : Bool) : P (d.setMismatch i on) = P d := by
  have members := Dev.each_keeps P (fun d j => d.set F.XPT_DEST_STATUS_MISMATCH j (ofBool on)) (d.destMembers i) (fun d j => hset d j _) d
  unfold Dev.setMismatch
  split
  · exact (hraise _ _ _).trans members
  · exact members

/-- What implied values and events leave, entering and leaving the loss policy leaves. -/
theorem Dev.setLost_keeps {β : Type} (P : Dev → β) (hhset : ∀ (d : Dev) f j v, P (d.hset f j v) = P d)
    (hraise : ∀ (d : Dev) n args, P (d.raise n args) = P d) (d : Dev) (i : Nat) (on : Bool) : P (d.setLost i on) = P d := by
  have members := Dev.each_keeps P (fun d j => (d.hset H.destLost j (ofBool on)).hset H.destResume j 0) (d.destMembers i)
    (fun d j => (hhset _ _ _ _).trans (hhset _ _ _ _)) d
  simp only [Dev.setLost]
  split
  · exact (hraise _ _ _).trans members
  · exact members

theorem Dev.get_setMismatch_ne (d : Dev) (i : Nat) (on : Bool) {f : Fld} (h : f.id ≠ F.XPT_DEST_STATUS_MISMATCH.id) (j : Nat) :
    (d.setMismatch i on).get f j = d.get f j :=
  Dev.setMismatch_keeps (·.get f j) (fun d _ v => Dev.get_set_ne d v fun e => h e.1) (fun d n args => Dev.get_raise d n args f j) d i on

@[simp] theorem Dev.count_setMismatch (d : Dev) (i : Nat) (on : Bool) (c : Ctr) (j : Nat) :
    (d.setMismatch i on).count c j = d.count c j :=
  Dev.setMismatch_keeps (·.count c j) (fun _ _ _ => rfl) (fun d n args => Dev.count_raise d n args c j) d i on

@[simp] theorem Dev.get_setLost (d : Dev) (i : Nat) (on : Bool) (f : Fld) (j : Nat) : (d.setLost i on).get f j = d.get f j :=
  Dev.setLost_keeps (·.get f j) (fun _ _ _ _ => rfl) (fun d n args => Dev.get_raise d n args f j) d i on

@[simp] theorem Dev.count_setLost (d : Dev) (i : Nat) (on : Bool) (c : Ctr) (j : Nat) : (d.setLost i on).count c j = d.count c j :=
  Dev.setLost_keeps (·.count c j) (fun _ _ _ _ => rfl) (fun d n args => Dev.count_raise d n args c j) d i on

theorem mem_destMembers {d : Dev} {i k : Nat} (h : k < gangSize (d.get F.XPT_DEST_CFG_GANG i)) : i + k ∈ d.destMembers i :=
  List.mem_map.mpr ⟨k, List.mem_range.mpr h, rfl⟩

theorem gangSize_le (code : Nat) : gangSize code ≤ 16 := by
  match code with
  | 0 | 1 | 2 | 3 => decide
  | n + 4 => exact Nat.one_le_iff_ne_zero.mpr (by decide)

/-- Each member of the gang carries the source's member of its own place (R233). -/
theorem Dev.get_carry_source {d : Dev} {i src k : Nat} (hs : src < 1568) (hk : k < gangSize (d.get F.XPT_DEST_CFG_GANG i)) :
    (d.carry i src).get F.XPT_DEST_STATUS_SOURCE (i + k) = src + k := by
  have small : src + k < 2 ^ F.XPT_DEST_STATUS_SOURCE.width := by
    have := gangSize_le (d.get F.XPT_DEST_CFG_GANG i)
    show src + k < 2048
    omega
  simp only [Dev.carry]
  rw [Dev.get_setLost, Dev.get_setMismatch_ne _ _ _ (by decide), Dev.get_bump]
  refine Dev.each_brings (·.get F.XPT_DEST_STATUS_SOURCE (i + k)) _ _ (i + k) (src + k) (mem_destMembers hk) (fun d j hj => ?other)
    (fun d => ?own) d
  case other => rw [Dev.get_hset, Dev.get_set_ne _ _ fun e => hj e.2.symm]
  case own => rw [Dev.get_hset, Dev.get_set_same, if_neg (by omega), Nat.add_sub_cancel_left, Nat.mod_eq_of_lt small]

/-- A switch to a source is counted at its destination. -/
theorem Dev.count_carry_takes (d : Dev) (i src : Nat) :
    (d.carry i src).count C.XPT_TAKES_APPLIED i = (d.count C.XPT_TAKES_APPLIED i + 1) % 2 ^ 64 := by
  simp only [Dev.carry]
  rw [Dev.count_setLost, Dev.count_setMismatch, Dev.count_bump_same,
    Dev.each_keeps (·.count C.XPT_TAKES_APPLIED i) _ _ fun d j => by simp]

/-- Settles O30: what the sluice does by the next switch of the destination, and what a switch makes it carry. -/
theorem theSwitchLineActs : Obligations.TheSwitchLineActs := by
  refine ⟨fun i s runs starts unswitched base => ?switch, fun i s h => ?still, fun _ _ => rfl,
    fun d i src k hs hk => ⟨Dev.get_carry_source hs hk, Dev.count_carry_takes d i src⟩⟩
  case switch =>
    have due : s.dev.SwitchDue i := ⟨runs, starts, unswitched⟩
    refine ⟨fun e take => ?_, fun c noTake changeover => ?_, fun noTake still => ?_⟩ <;> rw [exec_sluiceSwitch]
    · rw [Dev.sluice_of_base base (Dev.nextSwitch_take due take)]; rfl
    · rw [Dev.sluice_of_base base (Dev.nextSwitch_changeover due noTake changeover)]; rfl
    · rw [Dev.sluice_of_base base (Dev.nextSwitch_resume due noTake still)]; rfl
  case still =>
    rw [exec_sluiceSwitch]
    obtain stopped | switched | member := h
    · rw [Dev.sluice_of_none (Dev.nextSwitch_none (.inl stopped))]
    · rw [Dev.sluice_of_none (Dev.nextSwitch_none (.inr switched))]
    · rw [Dev.sluice_of_member member]

end Sys2Proof.Machine
end

/-! ## The vote between the planes (R13–R17, R213–R216, R240) -/

section

namespace Sys2Proof.Machine

/-- Nothing is sent while the tick is stopped (R23), nor by a destination that is disabled or idle (R213, R235). -/
theorem Dev.egress_silent {d : Dev} {i : Nat} (h : d.running = false ∨ d.destOn i = false ∨ d.destIdle i = true) (l : VoteLine) :
    d.egress i l = d :=
  if_pos (by rcases h with h | h | h <;> simp [h])

/-- The line of a destination that sends: picked, shown to both planes, voted, converted, completed and sent. -/
theorem Dev.egress_sending {d : Dev} {i : Nat} (runs : d.running = true) (on : d.destOn i = true) (sends : d.destIdle i = false)
    (l : VoteLine) :
    let p := d.pick i l.number
    let a := if d.injects i 0 then corruptLine (l.faultA.getD p.words) else l.faultA.getD p.words
    let b := if d.injects i 1 then corruptLine (l.faultB.getD p.words) else l.faultB.getD p.words
    let extra := d.blankingDelta i l.number
    let d' := (d.useInjections i).each [0, 1] fun d p => (d.bump K.FABRIC_ISSUED p).bump K.FABRIC_RETURNED p
    let v := d'.vote i l.number p.skim (lineSeal a == p.crc) (lineSeal b == p.crc)
    let sent := if v.2 = 0 then a else if v.2 = 1 then b else p.before
    let c := v.1.convert i sent.active
    let n := c.1.ancStage i l.number extra sent.anc (p.repeated || v.2 == 2)
    d.egress i l = n.1.sendLine i l.number v.2 extra ⟨n.2.1, c.2⟩ n.2.2 :=
  if_neg (by simp [runs, on, sends])

/-! ### The source line (R213, R232, R235) -/

section

variable {d : Dev} {i : Nat}

theorem Dev.pick_black (h : d.hget H.destBlack i = 1) (n : Nat) :
    d.pick i n = made (d.destBlackLine i n) (d.destBlackLine i n) true := by
  simp [Dev.pick, h]

theorem Dev.pick_held (adopted : d.hget H.destBlack i ≠ 1) (lost : d.hget H.destLost i = 1)
    (hold : d.get F.XPT_DEST_CFG_LOSS_POLICY i = 0) (n : Nat) : d.pick i n = d.heldLine i (d.destSource i) n := by
  simp [Dev.pick, adopted, lost, hold]

theorem Dev.pick_lost (adopted : d.hget H.destBlack i ≠ 1) (lost : d.hget H.destLost i = 1)
    (other : d.get F.XPT_DEST_CFG_LOSS_POLICY i ≠ 0) (n : Nat) :
    d.pick i n = made (d.destBlackLine i n) (d.destBlackLine i n) true := by
  simp [Dev.pick, adopted, lost, other]

theorem Dev.pick_live (adopted : d.hget H.destBlack i ≠ 1) (live : d.hget H.destLost i ≠ 1) (n : Nat) :
    d.pick i n = d.liveLine i (d.destSource i) n := by
  simp [Dev.pick, adopted, live]

theorem Dev.liveLine_skim {s : Nat} (slot : s < 1536) (skim : d.slotOnSkim s = true) (n : Nat) :
    d.liveLine i s n = d.stored i n (d.skimLine s n) false true none := by
  simp [Dev.liveLine, slot, skim]

theorem Dev.liveLine_head {s : Nat} (lo : 1536 ≤ s) (hi : s < 1552) (n : Nat) :
    d.liveLine i s n = d.headLine i (s - 1536) n false := by
  simp [Dev.liveLine, hi, Nat.not_lt.mpr lo]

end

/-! ### The vote (R16, R17, R213, R214) -/

/-- The selected plane and the other, back from planes A and B. -/
theorem ite_selected {α : Type} (p : Nat) (sent other : α) :
    (if p = 0 then (if p = 0 then sent else other) else (if p = 0 then other else sent)) = sent := by
  split <;> rfl

/-- The vote by what the selected plane and the other pass; which of them is plane A does not matter. -/
theorem Dev.vote_selected (d : Dev) (i line : Nat) (skim sent other : Bool) :
    let p := d.get F.XPT_DEST_STATUS_PLANE i
    let e := d.bump C.XPT_SEAL_VOTED i
    let escaped := (e.bump C.XPT_SEAL_ESCAPED i).raise 546 [i, p, line]
    d.vote i line skim (if p = 0 then sent else other) (if p = 0 then other else sent) =
      match skim, sent, other with
      | _, true, true => (e.bump C.XPT_SEAL_AGREE i, p)
      | false, true, false => ((e.bump C.XPT_SEAL_CORRECTED i).raise 544 [i, 1 - p, line], p)
      | false, false, true => (((e.bump C.XPT_SEAL_CORRECTED i).raise 544 [i, p, line]).selectPlane i (1 - p), 1 - p)
      | false, false, false => ((e.bump C.XPT_SEAL_UNCORR_MERE i).raise 545 [i, line, 0], 2)
      | true, true, false => ((e.bump C.XPT_SEAL_SHADOW_FAIL i).raise 547 [i, 1 - p, line], p)
      | true, false, true => (escaped.selectPlane i (1 - p), p)
      | true, false, false => ((escaped.bump C.XPT_SEAL_UNCORR_SKIM i).raise 545 [i, line, 1], p) := by
  simp only [Dev.vote, ite_selected]
  cases skim <;> cases sent <;> cases other <;> rfl

/-! ### Injection (R216) -/

/-- A write of XPT_INJECT stores its fields. -/
def Dev.injectFields (d : Dev) (w : Nat) : Dev :=
  ((d.set F.XPT_INJECT_PLANE 0 (fieldOf F.XPT_INJECT_PLANE w)).set F.XPT_INJECT_COUNT 0 (fieldOf F.XPT_INJECT_COUNT w)).set
    F.XPT_INJECT_DEST 0 (fieldOf F.XPT_INJECT_DEST w)

/-- An injection replaces that of its destination and plane. -/
def Dev.startInjection (d : Dev) (dest plane count : Nat) : Dev := d.onXpt fun x =>
  { x with injections := (x.injections.filter fun j => !(j.dest == dest && j.plane == plane)) ++ [⟨dest, plane, count⟩] }

theorem Dev.writeInject_go {d : Dev} {w : Nat} (go : fieldOf F.XPT_INJECT_GO w = 1) (count : fieldOf F.XPT_INJECT_COUNT w ≠ 0)
    (dest : fieldOf F.XPT_INJECT_DEST w < 1536) :
    d.writeInject w = (d.injectFields w).startInjection (fieldOf F.XPT_INJECT_DEST w) (fieldOf F.XPT_INJECT_PLANE w)
      (fieldOf F.XPT_INJECT_COUNT w) :=
  if_neg (by omega)

theorem Dev.writeInject_stored {d : Dev} {w : Nat} (still : fieldOf F.XPT_INJECT_GO w = 0) : d.writeInject w = d.injectFields w :=
  if_pos (.inl still)

/-- A write of XPT_INJECT that reaches the register. -/
theorem exec_xptInject_of {m : Fin 8} {s : State} (h : s.dev.Reaches m 0x1680300) (v : Word) :
    exec (.xptInject m v) s = s.becomes (((s.dev.transaction m).writeInject v.toNat).written m 0x1680300 v.toNat) :=
  (exec_xptInject m v s).trans (congrArg s.becomes (Dev.busWrite_of h v.toNat _))

/-- Settles O29: the line's stages in order, then the cases of the source line, of the vote by the selected plane, and of an injection. -/
theorem theSealVoteActs : Obligations.TheSealVoteActs := by
  refine ⟨fun i l s runs on sends => ?sent, fun i l s h => ?silent,
    fun d i n => ⟨fun h => Dev.pick_black h n,
      fun adopted lost => ⟨fun hold => Dev.pick_held adopted lost hold n, fun other => Dev.pick_lost adopted lost other n⟩,
      fun adopted live => Dev.pick_live adopted live n⟩,
    fun d i s n => ⟨fun slot skim => Dev.liveLine_skim slot skim n, fun lo hi => Dev.liveLine_head lo hi n⟩,
    fun d i line sent other _ => ?vote, fun d i line sent other _ => ?skim, fun m v s reach => ⟨fun go count dest => ?go, fun still => ?stored⟩⟩
  case sent =>
    rw [exec_sealVote, Dev.egress_sending runs on sends]
  case silent => rw [exec_sealVote, Dev.egress_silent h]
  case vote | skim =>
    simp only [Dev.vote_selected]
    refine ⟨?_, ?_, ?_, ?_⟩ <;> rintro rfl rfl <;> rfl
  case go =>
    rw [exec_xptInject_of reach, Dev.writeInject_go go count dest]
    rfl
  case stored =>
    rw [exec_xptInject_of reach, Dev.writeInject_stored still]
    rfl

end Sys2Proof.Machine
end

/-! Proofs of the statements on the clocks, the tick, commits, ingest and the crosspoint's configuration. -/

/-! ## Frame and block numbers of TIME (R33, R34) -/

section

namespace Sys2Proof.Machine

/-- Time `f * D / n`, rounded up, is where the number `t * n / D` of a time `t` reaches `f`. -/
theorem start_le_iff_le_number {n D : Nat} (hn : 0 < n) (hD : 0 < D) (f t : Nat) :
    (f * D + n - 1) / n ≤ t ↔ f ≤ t * n / D := by
  rw [← Nat.lt_add_one_iff, Nat.div_lt_iff_lt_mul hn, Nat.add_one_mul, Nat.le_div_iff_mul_le hD]
  omega

/-- Where the numbers rise by at most one a unit of time, each number `f` is that of its own start. -/
theorem number_start {n D : Nat} (hn : 0 < n) (hD : n ≤ D) (f : Nat) : (f * D + n - 1) / n * n / D = f := by
  have reached : f ≤ (f * D + n - 1) / n * n / D := (start_le_iff_le_number hn (by omega) f _).mp (Nat.le_refl _)
  have early : (f * D + n - 1) / n * n < (f + 1) * D := by
    have := Nat.div_mul_le_self (f * D + n - 1) n
    have := Nat.add_one_mul f D
    omega
  have below : (f * D + n - 1) / n * n / D < f + 1 := (Nat.div_lt_iff_lt_mul (by omega)).mpr early
  omega

/-- A house rate is positive and far below a frame each nanosecond. -/
theorem rateN_bounds (code : Nat) : 0 < rateN code ∧ rateN code ≤ rateD code * 10 ^ 9 := by
  match code with
  | 0 | 1 | 2 | 3 | 4 | 5 | 6 | 7 | 8 | 9 | 10 => decide
  | _ + 11 =>
    show 0 < 60 ∧ 60 ≤ 1 * 10 ^ 9
    decide

/-- Settles O5: the frame tick is where the frame number first reaches the frame. -/
theorem frameTickIsTheSmallestTime : Obligations.FrameTickIsTheSmallestTime := by
  intro code t f
  obtain ⟨pos, slow⟩ := rateN_bounds code
  have start : frameStart code f = (f * (rateD code * 10 ^ 9) + rateN code - 1) / rateN code := by
    rw [frameStart, Nat.mul_assoc]
  refine ⟨rfl, ?_, fun number => ?_⟩
  · rw [frameOf, start, number_start pos slow]
  · rw [start, start_le_iff_le_number pos (by omega)]
    exact Nat.le_of_eq number.symm

/-- Settles O6: likewise for the block tick, at 3 blocks in 10⁶ ns. -/
theorem blockTickIsTheSmallestTime : Obligations.BlockTickIsTheSmallestTime := by
  intro t b
  have start : blockStart b = (b * 1000000 + 3 - 1) / 3 := by rw [blockStart, Nat.add_sub_assoc (by decide)]
  refine ⟨rfl, ?_, fun number => ?_⟩
  · rw [blockOf, start, number_start (by decide) (by decide)]
  · rw [start, start_le_iff_le_number (D := 1000000) (by decide) (by decide)]
    exact Nat.le_of_eq number.symm

end Sys2Proof.Machine
end

/-! ## Commits and the shadow copies (R43–R46) -/

section

namespace Sys2Proof.Machine

/-- The shadow copies that a commit leaves are those of other groups. -/
theorem Map.find?_filter_not_inGroups (m : Map) (mask f i : Nat) :
    Map.find? (m.filter fun c => !inGroups mask c) f i = if (groupOf f).any (bit mask) then none else m.find? f i := by
  rw [funext fun c => congrArg not (inGroups_eq mask c), Map.find?_filter_fld m fun n => !(groupOf n).any (bit mask)]
  cases (groupOf f).any (bit mask) <;> rfl

/-- A commit leaves every shadow copy as it reads (R47). -/
theorem Dev.getShadow_applyGroups {d : Dev} (hs : d.shadow.sorted = true) (mask : Nat) {f : Fld} (hf : f ∈ shFields) (i : Nat) :
    (d.applyGroups mask).getShadow f i = d.getShadow f i := by
  have left : (d.applyGroups mask).getShadow f i =
      (if (groupOf f.id).any (bit mask) then none else d.shadow.find? f.id i).getD ((d.applyGroups mask).get f i) := by
    rw [← Map.find?_filter_not_inGroups]
    rfl
  rw [left, Dev.get_applyGroups hs mask hf]
  split <;> rfl

/-- Settles O11: what a commit applies, and what its shadow copies then read. -/
theorem aCommitAppliesItsGroups : Obligations.ACommitAppliesItsGroups :=
  fun _ mask _ hs _ hf i => ⟨Dev.get_applyGroups hs mask hf i, Dev.getShadow_applyGroups hs mask hf i⟩

/-! ### What the end of a commit leaves -/

/-- What is no part of a commit's end: the held changes, the counts, TICK_COMMIT_STATUS and the reports may change without changing it. -/
structure UntouchedByCommits {β : Type} (P : Dev → β) : Prop where
  changes : ∀ (d : Dev) l, P { d with tick := { d.tick with changes := l } } = P d
  bump : ∀ (d : Dev) c i n, P (d.bump c i n) = P d
  raise : ∀ (d : Dev) n args, P (d.raise n args) = P d
  respond : ∀ (d : Dev) p src tag op status ts fin, P (d.respond p src tag op status ts fin) = P d
  state : ∀ (d : Dev) v, P (d.set F.TICK_COMMIT_STATUS_STATE 0 v) = P d
  epoch : ∀ (d : Dev) v, P (d.set F.TICK_COMMIT_STATUS_APPLIED_EPOCH 0 v) = P d

namespace UntouchedByCommits

variable {β : Type} {P : Dev → β} (h : UntouchedByCommits P)

include h

theorem changeDone (d : Dev) (c : HeldChange) (status : Nat) : P (d.changeDone c status) = P d := by
  unfold Dev.changeDone
  split
  · exact h.respond ..
  · rfl

theorem endChanges (d : Dev) (p : HeldChange → Bool) (status : Nat) : P (d.endChanges p status) = P d :=
  (Dev.each_keeps P (fun d c => d.changeDone c status) (d.tick.changes.filter p) (fun d c => h.changeDone d c status) _).trans
    (h.changes d _)

theorem tellIssuer (d : Dev) (c : Commit) (e : CommitEnd) : P (d.tellIssuer c e) = P d := by
  unfold Dev.tellIssuer
  split
  · split
    · dsimp only
      split
      · rw [h.epoch, h.state]
      · exact h.state ..
    · rfl
  · split
    · exact h.respond ..
    · rfl
  · exact h.endChanges ..
  · rfl

theorem count (d : Dev) (e : CommitEnd) : P (e.count d) = P d := by
  cases e with
  | exhausted => rfl
  | _ => exact h.bump ..

theorem commitEnds (d : Dev) (c : Commit) (e : CommitEnd) : P (d.commitEnds c e) = P d := by
  unfold Dev.commitEnds
  rw [h.tellIssuer]
  split
  · rw [h.raise, h.count]
  · exact h.count ..

/-- Taking groups away brings its list of pending commits, and leaves this. -/
theorem takeGroups (d : Dev) (groups : Nat) :
    P (d.takeGroups groups) = P { d with tick := { d.tick with commits :=
      (d.tick.commits.map fun c => { c with groups := c.groups &&& (0xFFF ^^^ groups) }).filter fun c => c.groups != 0 || c.empty } } :=
  Dev.each_keeps P (fun d c => d.commitEnds c .superseded) _ (fun d c => h.commitEnds d c .superseded) _

end UntouchedByCommits

theorem untouchedByCommits_commits : UntouchedByCommits fun d => d.tick.commits where
  changes _ _ := rfl
  bump _ _ _ _ := rfl
  raise _ _ _ := by rw [Dev.raise_tick]
  respond _ _ _ _ _ _ _ _ := by rw [Dev.respond_tick]
  state _ _ := rfl
  epoch _ _ := rfl

theorem untouchedByCommits_shadow : UntouchedByCommits Dev.shadow where
  changes _ _ := rfl
  bump _ _ _ _ := rfl
  raise := Dev.raise_shadow
  respond := Dev.respond_shadow
  state _ _ := rfl
  epoch _ _ := rfl

theorem untouchedByCommits_get {g : Fld} (j : Nat) (state : g.id ≠ F.TICK_COMMIT_STATUS_STATE.id)
    (epoch : g.id ≠ F.TICK_COMMIT_STATUS_APPLIED_EPOCH.id) : UntouchedByCommits fun d => d.get g j where
  changes _ _ := rfl
  bump _ _ _ _ := rfl
  raise _ _ _ := Dev.get_raise ..
  respond _ _ _ _ _ _ _ _ := Dev.get_respond ..
  state d v := Dev.get_set_ne d v fun key => state key.1
  epoch d v := Dev.get_set_ne d v fun key => epoch key.1

/-- Settles O10: the superseded commits' ends touch neither the pending list, nor a shadow copy, nor another field. -/
theorem aTakenGroupLeavesTheEarlierCommits : Obligations.ATakenGroupLeavesTheEarlierCommits :=
  fun d groups => ⟨untouchedByCommits_commits.takeGroups d groups, untouchedByCommits_shadow.takeGroups d groups,
    fun _ j state epoch => (untouchedByCommits_get j state epoch).takeGroups d groups⟩

end Sys2Proof.Machine
end

/-! ## Control of the tick (R32, R36, R52, R53) -/

section

namespace Sys2Proof.Machine

/-- A write of TICK_CTRL that reaches the register. -/
theorem exec_tickStart_of {m : Fin 8} {s : State} (h : s.dev.Reaches m 0x700004) (v : Word) :
    exec (.tickStart m v) s = s.becomes (((s.dev.transaction m).writeTickCtrl v.toNat).written m 0x700004 v.toNat) :=
  (exec_tickStart m v s).trans (congrArg s.becomes (Dev.busWrite_of h v.toNat _))

theorem exec_tickStop_of {m : Fin 8} {s : State} (h : s.dev.Reaches m 0x700004) (v : Word) :
    exec (.tickStop m v) s = s.becomes (((s.dev.transaction m).writeTickCtrl v.toNat).written m 0x700004 v.toNat) :=
  (exec_tickStop m v s).trans (congrArg s.becomes (Dev.busWrite_of h v.toNat _))

theorem exec_tickCfgWrite_of {m : Fin 8} {s : State} (h : s.dev.Reaches m 0x700000) (v : Word) :
    exec (.tickCfgWrite m v) s = s.becomes (((s.dev.transaction m).writeTickCfg v.toNat).written m 0x700000 v.toNat) :=
  (exec_tickCfgWrite m v s).trans (congrArg s.becomes (Dev.busWrite_of h v.toNat _))

/-- STOP prevails over START (R53). -/
theorem Dev.writeTickCtrl_stop (d : Dev) {w : Nat} (stop : bit w 1 = true) : d.writeTickCtrl w = d.tickStop 0 :=
  if_pos stop

theorem Dev.writeTickCtrl_start (d : Dev) {w : Nat} (start : bit w 0 = true) (go : bit w 1 = false) :
    d.writeTickCtrl w = d.tickStart := by
  simp only [Dev.writeTickCtrl, go, start, Bool.false_eq_true, if_false, if_true]

/-! ### START -/

theorem Dev.tickStart_running {d : Dev} (h : d.running = true) : d.tickStart = d := if_pos h

theorem Dev.tickStart_reserved {d : Dev} (stopped : d.running = false) (reserved : 10 < d.rate) : d.tickStart = d.raise 37 [0] := by
  simp only [Dev.tickStart, stopped, Bool.false_eq_true, if_false, if_pos reserved]

/-- TIME takes the preset while PTP time is not valid (R36). -/
def Dev.presetTime (d : Dev) : Dev :=
  if d.timeValid = 1 then d else d.moveTime ((65536 * d.preset : Nat) - (d.clock.time16 : Nat))

/-- A start that waits for the first boundary. -/
theorem Dev.tickStart_waits {d : Dev} (stopped : d.running = false) (listed : d.rate ≤ 10) :
    d.tickStart = { d.presetTime with tick := { d.presetTime.tick with
      waiting := true, stopping := none, stepped := false
      next := firstFrame d.presetTime.rate d.presetTime.clock.time16, nextBlock := firstBlock d.presetTime.clock.time16 } } := by
  simp only [Dev.tickStart, stopped, Bool.false_eq_true, if_false, if_neg (Nat.not_lt.mpr listed)]
  rfl

/-- A move by the distance to a time reaches that time, as TIME holds it. -/
theorem Dev.moveTime_to (d : Dev) (t : Nat) :
    d.moveTime ((t : Nat) - (d.clock.time16 : Nat)) = { d with clock := { d.clock with time16 := t % 2 ^ 80 } } := by
  have reached : (d.clock.time16 : Int) + ((t : Int) - (d.clock.time16 : Int)) = t := by omega
  rw [Dev.moveTime, ofSigned, reached, ← Int.natCast_emod, Int.toNat_natCast]

theorem Dev.presetTime_eq (d : Dev) : d.presetTime = { d with clock := { d.clock with
    time16 := if d.timeValid = 1 then d.clock.time16 else 65536 * d.preset % 2 ^ 80 } } := by
  unfold Dev.presetTime
  split
  · rfl
  · exact d.moveTime_to _

/-! ### STOP -/

theorem Dev.tickStop_eq (d : Dev) (cause : Nat) : d.tickStop cause = { d with tick :=
    if d.running then { d.tick with stopping := some (d.tick.stopping.getD cause) } else { d.tick with waiting := false } } := by
  unfold Dev.tickStop
  split <;> rfl

/-! ### TICK_CFG -/

theorem fieldOf_mod (f : Fld) (w : Nat) : fieldOf f w % 2 ^ f.width = fieldOf f w := Nat.mod_mod _ _

theorem Dev.writeTickCfg_stopped {d : Dev} (h : d.running = false) (w : Nat) :
    d.writeTickCfg w = (d.set F.TICK_CFG_HOUSE_RATE 0 (fieldOf F.TICK_CFG_HOUSE_RATE w)).set F.TICK_CFG_BLOCK_RATE 0
      (fieldOf F.TICK_CFG_BLOCK_RATE w) := by
  simp only [Dev.writeTickCfg, h, Bool.false_eq_true, if_false]

theorem Dev.writeTickCfg_running {d : Dev} (h : d.running = true) {w : Nat} (rate : fieldOf F.TICK_CFG_HOUSE_RATE w ≠ d.rate)
    (block : fieldOf F.TICK_CFG_BLOCK_RATE w ≠ d.get F.TICK_CFG_BLOCK_RATE) :
    d.writeTickCfg w = (d.raise 37 [0]).raise 37 [4] := by
  simp only [Dev.writeTickCfg, h, if_true, if_neg rate, Dev.get_raise, if_neg block]

end Sys2Proof.Machine
end

section

namespace Sys2Proof.Machine

/-- Settles O7: what a write of TICK_CTRL, of TICK_CFG and of the preset does by the tick's state, and a lock regained. -/
theorem tickControlActs : Obligations.TickControlActs := by
  refine ⟨fun m v s reach start go stopped listed => ?waits, fun m v s reach stop => ?stop, fun m v s reach start go runs => ?running,
    fun m v s reach start go stopped reserved => ?reserved, fun m v s reach stopped => ?cfg,
    fun m v s reach runs rate block => ?cfgRunning, fun q s ts e acc stopped => ?preset, fun k restart s => exec_relock k restart s⟩
  case waits =>
    refine ⟨_, exec_tickStart_of reach v, ?_⟩
    rw [Dev.writeTickCtrl_start _ start go, Dev.tickStart_waits (by simpa using stopped) (by simpa using listed), Dev.presetTime_eq]
    simp only [Dev.running, Dev.get_flush, Dev.get_written, Dev.flush_tick, Dev.written_tick, Dev.flush_clock, Dev.written_clock,
      Dev.flush_reg, Dev.written_reg, Dev.flush_shadow, Dev.written_shadow, true_and]
    exact ⟨stopped, rfl, rfl, rfl, rfl, rfl, rfl⟩
  case stop =>
    refine ⟨_, exec_tickStop_of reach v, ?_⟩
    rw [Dev.writeTickCtrl_stop _ stop, Dev.tickStop_eq]
    simp
  case running =>
    rw [exec_tickStart_of reach, Dev.writeTickCtrl_start _ start go, Dev.tickStart_running (by simpa using runs)]
  case reserved =>
    rw [exec_tickStart_of reach, Dev.writeTickCtrl_start _ start go,
      Dev.tickStart_reserved (by simpa using stopped) (by simpa using reserved)]
  case cfg =>
    refine ⟨_, exec_tickCfgWrite_of reach v, ?_⟩
    rw [Dev.writeTickCfg_stopped (by simpa using stopped)]
    simp only [Dev.get_flush, Dev.get_written, Dev.flush_tick, Dev.written_tick, Dev.flush_shadow, Dev.written_shadow]
    refine ⟨?_, ?_, fun g j rate block => ?_, rfl, rfl⟩
    · rw [Dev.get_set_ne _ _ (by decide), Dev.get_set_same, fieldOf_mod]; rfl
    · rw [Dev.get_set_same, fieldOf_mod]; rfl
    · rw [Dev.get_set_ne _ _ fun key => block key.1, Dev.get_set_ne _ _ fun key => rate key.1, Dev.get_transaction]
  case cfgRunning =>
    rw [exec_tickCfgWrite_of reach, Dev.writeTickCfg_running (by simpa using runs) (by rw [Dev.rate_transaction]; exact rate)
      (by rw [Dev.get_transaction]; exact block)]
  case preset =>
    rw [exec_timePreset, Dev.timePreset, Dev.command_of acc, stopped]
    rfl

end Sys2Proof.Machine
end

/-! ## The phases of a frame (R33, R38–R42, R50–R53, R542) -/

section

namespace Sys2Proof.Machine

/-! ### A frame opens -/

@[simp] theorem Dev.get_withTick (d : Dev) (t : Tick) (f : Fld) (i : Nat) : ({ d with tick := t } : Dev).get f i = d.get f i := rfl
@[simp] theorem Dev.hget_withTick (d : Dev) (t : Tick) (f : Fld) (i : Nat) : ({ d with tick := t } : Dev).hget f i = d.hget f i := rfl

@[simp] theorem Dev.saveCut_tick (d : Dev) : d.saveCut.tick = d.tick := rfl
@[simp] theorem Dev.saveCut_clock (d : Dev) : d.saveCut.clock = d.clock := rfl
@[simp] theorem Dev.saveCut_reg (d : Dev) : d.saveCut.reg = d.reg := rfl

@[simp] theorem Dev.t3Overrun_tick (d : Dev) : d.t3Overrun.tick = d.tick := by
  unfold Dev.t3Overrun
  split
  · rfl
  · rw [Dev.raise_tick, Dev.hset_tick]

@[simp] theorem Dev.t3Overrun_clock (d : Dev) : d.t3Overrun.clock = d.clock := by
  unfold Dev.t3Overrun
  split
  · rfl
  · rw [Dev.raise_clock, Dev.hset_clock]

@[simp] theorem Dev.t3Overrun_reg (d : Dev) : d.t3Overrun.reg = d.reg := by
  unfold Dev.t3Overrun
  split
  · rfl
  · rw [Dev.raise_reg, Dev.hset_reg]

/-- The ledgers were checked in time. -/
theorem Dev.t3Overrun_none {d : Dev} (h : d.hget H.t3Left = 0) : d.t3Overrun = d := if_pos h

@[simp] theorem Dev.rate_passTo (d : Dev) (t : Nat) : (d.passTo t).rate = d.rate := Dev.get_passTo ..

/-- The tick of an opened frame: its number, the number of the next one, and its T0. -/
def Dev.openedTick (d : Dev) (n : Nat) : Tick :=
  let t0 := 65536 * frameStart d.rate n
  let e := d.passTo t0
  { e.tick with
    waiting := false, stepped := false, frame := n, next := n + 1, rateOfTargets := d.rate
    t0Time := t0, t0Core := e.clock.core - (e.clock.time16 - t0) / 65536 }

theorem Dev.openFrame_tick (d : Dev) (n : Nat) : (d.openFrame n).tick = d.openedTick n := by
  simp only [Dev.openFrame, Dev.openedTick, Dev.rate_passTo]
  split
  · simp only [Dev.set_tick]
  · simp only [Dev.set_tick]

/-- TIME reaches the boundary of an opened frame, if it has not. -/
theorem Dev.openFrame_clock (d : Dev) (n : Nat) : (d.openFrame n).clock = (d.passTo (65536 * frameStart d.rate n)).clock := by
  simp only [Dev.openFrame, Dev.rate_passTo]
  split
  · simp only [Dev.set_clock]
  · simp only [Dev.set_clock]

/-- What an opened frame shows: the epoch, RUN and the phases. -/
def Dev.frameMarks (d : Dev) : Dev :=
  ((((d.set F.TICK_EPOCH_EPOCH 0 (d.get F.TICK_EPOCH_EPOCH + 1)).set F.TICK_STATUS_RUN 0 1).set F.TICK_STATUS_T1_OPEN 0 1).set
    F.TICK_STATUS_T2_OPEN 0 1).set F.TICK_STATUS_T3_OPEN 0 0

/-- Of the fields, opening a frame changes these marks, and TIME_VALID by PTP time. -/
theorem Dev.get_openFrame {d : Dev} {n : Nat} {f : Fld} (valid : f.id ≠ F.TICK_STATUS_TIME_VALID.id) :
    (d.openFrame n).get f = d.frameMarks.get f := by
  have passed : (d.passTo (65536 * frameStart d.rate n)).reg = d.reg := Dev.passTo_reg ..
  simp only [Dev.openFrame, Dev.rate_passTo]
  split
  · rw [Dev.get_set_ne _ _ fun key => valid key.1]
    simp only [Dev.frameMarks, Dev.get, Dev.set, passed]
  · simp only [Dev.frameMarks, Dev.get, Dev.set, passed]

theorem Dev.get_openFrame_epoch (d : Dev) (n : Nat) :
    (d.openFrame n).get F.TICK_EPOCH_EPOCH = (d.get F.TICK_EPOCH_EPOCH + 1) % 2 ^ 32 := by
  rw [Dev.get_openFrame (by decide), Dev.frameMarks]
  simp (disch := decide) only [Dev.get_set_ne, Dev.get_set_same]
  rfl

theorem Dev.running_openFrame (d : Dev) (n : Nat) : (d.openFrame n).running = true := by
  rw [Dev.running, Dev.get_openFrame (by decide), Dev.frameMarks]
  simp (disch := decide) only [Dev.get_set_ne, Dev.get_set_same]
  rfl

/-- T1 and T2 are open, T3 is closed. -/
theorem Dev.get_openFrame_phases (d : Dev) (n : Nat) : (d.openFrame n).get F.TICK_STATUS_T1_OPEN = 1 ∧
    (d.openFrame n).get F.TICK_STATUS_T2_OPEN = 1 ∧ (d.openFrame n).get F.TICK_STATUS_T3_OPEN = 0 := by
  rw [Dev.get_openFrame (by decide), Dev.get_openFrame (by decide), Dev.get_openFrame (by decide), Dev.frameMarks]
  simp (disch := decide) only [Dev.get_set_ne, Dev.get_set_same]
  decide

theorem Dev.passTo_time16 (d : Dev) (t : Nat) : (d.passTo t).clock.time16 = max d.clock.time16 t := by
  show d.clock.time16 + (t - d.clock.time16) = _
  omega

end Sys2Proof.Machine
end

section

namespace Sys2Proof.Machine

/-! ### The tick's rows, by the state of the tick -/

variable {d : Dev}

/-- A running tick neither stopped nor stepped opens its next frame. -/
theorem Dev.frameTick_ticking (waits : d.tick.waiting = false) (ticks : d.ticking = true) (x : TickIn) :
    d.frameTick x = d.atT0 d.tick.next x := by
  simp only [Dev.frameTick, waits, ticks, Bool.false_eq_true, if_false, if_true]

theorem Dev.frameTick_waiting (waits : d.tick.waiting = true) (x : TickIn) : d.frameTick x = d.firstTick x := if_pos waits

theorem Dev.tickRestart_waiting (waits : d.tick.waiting = true) (x : TickIn) : d.tickRestart x = d.firstTick x := if_pos waits

/-- The first tick at a rate that is not reserved. -/
theorem Dev.firstTick_of (listed : d.rate ≤ 10) (x : TickIn) :
    let n := firstFrame d.rate d.clock.time16
    let e := (d.settlePending n).hset H.tickLost 0 0
    d.firstTick x = ((({ e with tick := { e.tick with block := e.get F.TICK_CFG_BLOCK_RATE } }).atT0 n x).txReviewAll).leaveStep11 :=
  if_neg (Nat.not_lt.mpr listed)

theorem Dev.renumberTick_stepped (runs : d.running = true) (goes : d.tick.stopping = none) (stepped : d.tick.stepped = true) (x : TickIn) :
    let n := d.tick.next
    let v : Int := (n : Int) - ((d.tick.frame : Int) + 1)
    d.renumberTick x = (((d.passTo (65536 * frameStart d.rate n)).moveTargets v).raise 34 (words2 (ofSigned 64 v))).atT0 n x :=
  if_pos (by simp [runs, goes, stepped])

theorem Dev.cutoff_running (runs : d.running = true) :
    d.cutoff = ((d.passToCore (d.tick.t0Core + d.get F.TICK_CUTOFF_CYCLES)).set F.TICK_STATUS_T1_OPEN 0 0).sendCheckpoint :=
  if_neg (by simp [runs])

theorem Dev.halfFrame_running (runs : d.running = true) :
    d.halfFrame =
      ((d.passToCore (d.tick.t0Core + framePeriod d.rate / 2)).set F.TICK_STATUS_T2_OPEN 0 0).salvosEnd.sendMarker :=
  if_neg (by simp [runs])

theorem Dev.phase3_running (runs : d.running = true) (k : Nat) :
    let e := (d.passToCore (d.tick.t0Core + 7 * framePeriod d.rate / 8)).set F.TICK_STATUS_T3_OPEN 0 1
    let r := ((e.salvosEnd.latchLedgers.latchMonitors).changeovers).fenT3 e.tick.frame
    d.phase3 k = (r.checkLedgers k r.tick.frame).firmwareTriggers :=
  if_neg (by simp [runs])

/-- The frame in progress of a tick that stops ends, its ledgers checked; PTP time is not valid. -/
theorem Dev.tickHalt_stopping {cause : Nat} (runs : d.running = true) (stops : d.tick.stopping = some cause)
    (checked : d.hget H.t3Left = 0) (free : d.hget H.ptpValid = 0) :
    let e := d.passTo (65536 * frameStart d.rate d.tick.next)
    let e := { e with tick := { e.tick with stopping := none, stepped := false } }
    let e := (((e.set F.TICK_STATUS_RUN 0 0).set F.TICK_STATUS_T1_OPEN 0 0).set F.TICK_STATUS_T2_OPEN 0 0).set F.TICK_STATUS_T3_OPEN 0 0
    d.tickHalt = (((e.hset H.tickLost 0 (ofBool (cause != 0))).raise 38 [cause]).txReviewAll).healthReview := by
  simp only [Dev.tickHalt, stops, runs, Bool.not_true, Bool.false_eq_true, if_false, Dev.t3Overrun_none checked]
  rw [if_neg]
  rw [Dev.hget_hset_ne _ _ (by decide), Dev.hget_set, Dev.hget_set, Dev.hget_set, Dev.hget_set, Dev.hget_withTick, Dev.hget_passTo, free]
  decide

/-- The block tick of a running tick: one block ends and the next begins. -/
theorem Dev.blockTick_running (runs : d.running = true) (x : BlockIn) :
    let b := d.tick.nextBlock
    let e := d.passTo (65536 * blockStart b)
    let r := ({ e with tick := { e.tick with nextBlock := b + 1 } }).blockEnds (b - 1) x
    d.blockTick x = r.1.blockBegins x r.2 := by
  have after : (d.passTo (65536 * blockStart d.tick.nextBlock)).running = true := by rw [Dev.running, Dev.get_passTo]; exact runs
  simp only [Dev.blockTick, runs, Bool.not_true, Bool.false_and, Bool.false_eq_true, if_false, after, if_true]

end Sys2Proof.Machine
end

section

namespace Sys2Proof.Machine

/-- Settles O8: each row's effect by the state of the tick, and what opening a frame sets. -/
theorem tickPhasesAct : Obligations.TickPhasesAct := by
  refine ⟨fun x s waits ticks => ?frame, fun x s waits listed => ?first, fun x s runs goes stepped => ?renumber, fun s runs => ?cutoff,
    fun s runs => ?half, fun k s runs => ?t3, fun cause s runs stops checked free => ?halt, fun x s runs => ?block⟩
  case frame =>
    intro n o a mv d
    have opened : o.tick = s.dev.t3Overrun.saveCut.openedTick n := Dev.openFrame_tick ..
    have reg : s.dev.t3Overrun.saveCut.reg = s.dev.reg := by simp
    have rate : s.dev.t3Overrun.saveCut.rate = s.dev.rate := by rw [Dev.rate, Dev.get, reg]; rfl
    obtain ⟨t1, t2, t3⟩ := s.dev.t3Overrun.saveCut.get_openFrame_phases n
    refine ⟨?_, by rw [opened]; rfl, by rw [opened]; rfl, ?_, Dev.running_openFrame .., t1, t2, t3, ?_, ?_⟩
    · rw [exec_frameTick, Dev.frameTick_ticking waits ticks]; rfl
    · rw [Dev.get_openFrame_epoch, Dev.get, reg]; rfl
    · rw [opened, Dev.openedTick, rate]
    · rw [Dev.openFrame_clock, Dev.passTo_time16, rate, Dev.saveCut_clock, Dev.t3Overrun_clock]
  case first =>
    intro n d first
    have same : s.dev.firstTick x = first := Dev.firstTick_of listed x
    rw [exec_frameTick, exec_tickRestart, Dev.frameTick_waiting waits, Dev.tickRestart_waiting waits, same]
    exact ⟨rfl, rfl⟩
  case renumber => rw [exec_renumberTick, Dev.renumberTick_stepped runs goes stepped]
  case cutoff => rw [exec_cutoff, Dev.cutoff_running runs]
  case half => rw [exec_halfFrame, Dev.halfFrame_running runs]
  case t3 => rw [exec_ledgerLatch, Dev.phase3_running runs]
  case halt => rw [exec_tickHalt, Dev.tickHalt_stopping runs stops checked free]
  case block => rw [exec_blockTick, Dev.blockTick_running runs]

end Sys2Proof.Machine
end

/-! ## Commits issued (R43–R46, R109, R117) -/

section

namespace Sys2Proof.Machine

/-! ### A commit at the tick block -/

/-- A commit as its live item names it: target 0 stands for the next frame of a running tick. -/
def Commit.resolved (d : Dev) (c : Commit) : Commit :=
  if c.target = 0 ∧ d.running then { c with target := d.tick.frame + 1 } else c

/-- A commit takes its groups from the earlier ones, becomes the last pending one, and is mirrored (R46, R463). -/
def Dev.addCommit (d : Dev) (c : Commit) : Dev :=
  let e := d.takeGroups c.groups
  let e := { e with tick := { e.tick with commits := e.tick.commits ++ [c] } }
  e.live (c.resolved e).item

section

variable {d : Dev} {target : Nat}

/-- A commit is too late in or after the T0 of its frame (R44). -/
theorem Dev.issueCommit_late (named : target ≠ 0) (passed : target ≤ d.tick.frame) (groups : Nat) (issuer : Issuer) :
    d.issueCommit target groups issuer =
      (d.bump K.COMMITS_ACCEPTED).commitEnds ⟨target, groups, issuer, groups == 0, d.csw.nextSeq 2⟩ .late :=
  if_pos (by simp [named, passed])

variable (ahead : target = 0 ∨ d.tick.frame < target)

include ahead

/-- While 16 are pending no other is taken (R46). -/
theorem Dev.issueCommit_exhausted (full : 16 ≤ d.tick.commits.length) (groups : Nat) (issuer : Issuer) :
    d.issueCommit target groups issuer = d.tellIssuer ⟨target, groups, issuer, groups == 0, d.csw.nextSeq 2⟩ .exhausted := by
  have early : ¬(target != 0 && target ≤ d.tick.frame) = true := by simp; omega
  simp only [Dev.issueCommit, if_neg early, if_pos full]

theorem Dev.issueCommit_pending (room : d.tick.commits.length < 16) (groups : Nat) (issuer : Issuer) :
    d.issueCommit target groups issuer =
      (d.bump K.COMMITS_ACCEPTED).addCommit ⟨target, groups, issuer, groups == 0, d.csw.nextSeq 2⟩ := by
  have early : ¬(target != 0 && target ≤ d.tick.frame) = true := by simp; omega
  simp only [Dev.issueCommit, if_neg early, if_neg (Nat.not_le.mpr room)]
  rfl

end

/-! ### From BAR0 -/

/-- A write of TICK_COMMIT that reaches the register. -/
theorem exec_tickCommitGo_of {m : Fin 8} {s : State} (h : s.dev.Reaches m 0x700028) (v : Word) :
    exec (.tickCommitGo m v) s = s.becomes (((s.dev.transaction m).writeTickCommit m v.toNat).written m 0x700028 v.toNat) :=
  (exec_tickCommitGo m v s).trans (congrArg s.becomes (Dev.busWrite_of h v.toNat _))

@[simp] theorem Dev.groupsBarred_transaction (d : Dev) (m port mask : Nat) :
    (d.transaction m).groupsBarred port mask = d.groupsBarred port mask := by
  simp [Dev.groupsBarred]

@[simp] theorem Dev.commitTarget_transaction (d : Dev) (m : Nat) : (d.transaction m).commitTarget = d.commitTarget := by
  simp [Dev.commitTarget]

/-- The commit that BAR0 has just issued. -/
def Dev.bar0Commit (d : Dev) (groups : Nat) : Dev :=
  let e := d.set F.TICK_COMMIT_GROUPS 0 groups
  { e with tick := { e.tick with bar0Issued := e.tick.bar0Issued + 1 } }.set F.TICK_COMMIT_STATUS_STATE 0 1

theorem Dev.commitTarget_stored (d : Dev) (groups : Nat) (t : Tick) :
    ({ d.set F.TICK_COMMIT_GROUPS 0 groups with tick := t } : Dev).commitTarget = d.commitTarget := by
  simp (disch := decide) only [Dev.commitTarget, Dev.get_withTick, Dev.get_set_ne]

/-- GO issues the commit, unless the host lacks the lease of a group (R117). -/
theorem Dev.writeTickCommit_go {d : Dev} {m w : Nat} (go : bit w 31 = true)
    (leased : m = 1 → d.groupsBarred 0 (fieldOf F.TICK_COMMIT_GROUPS w) = false) :
    d.writeTickCommit m w = (d.bar0Commit (fieldOf F.TICK_COMMIT_GROUPS w)).issueCommit d.commitTarget
      (fieldOf F.TICK_COMMIT_GROUPS w) (.bar0 (d.tick.bar0Issued + 1)) := by
  have allowed : ¬(bit w 31 && m == 1 && d.groupsBarred 0 (fieldOf F.TICK_COMMIT_GROUPS w)) = true := by
    simp only [Bool.and_eq_true, beq_iff_eq, not_and, Bool.not_eq_true]
    exact fun h => leased h.2
  rw [Dev.writeTickCommit, if_neg allowed, if_pos go]
  simp only [Dev.commitTarget_stored]
  rfl

/-! ### From COMMIT -/

/-- The pending response of a commit that is taken comes before it (R43). -/
theorem Dev.commit_taken {d e : Dev} {q : Req} {ts : List Tlv} (acc : d.Accepts q commitSpec ts e)
    (ahead : frameTlv ts = 0 ∨ e.tick.frame < frameTlv ts) (room : e.tick.commits.length < 16) :
    d.commit q = (e.respond q.port q.src q.tag 0x0510 St.pending [] false).issueCommit (frameTlv ts) (tlvNum ts 0x0101)
      (.command q.port q.tag q.src) := by
  rw [Dev.commit, Dev.command_of acc]
  simp only [if_pos (And.intro ahead room)]

theorem Dev.commit_untaken {d e : Dev} {q : Req} {ts : List Tlv} (acc : d.Accepts q commitSpec ts e)
    (h : ¬((frameTlv ts = 0 ∨ e.tick.frame < frameTlv ts) ∧ e.tick.commits.length < 16)) :
    d.commit q = e.issueCommit (frameTlv ts) (tlvNum ts 0x0101) (.command q.port q.tag q.src) := by
  rw [Dev.commit, Dev.command_of acc]
  simp only [if_neg h]

/-- The command learns how its commit ended while the firmware runs (R73). -/
theorem Dev.tellIssuer_command {d : Dev} {c : Commit} {port tag src : Nat} (issued : c.issuer = .command port tag src)
    (lath : d.lathRuns = true) (e : CommitEnd) : d.tellIssuer c e = d.respond port src tag 0x0510 e.status [] := by
  simp only [Dev.tellIssuer, issued, if_pos lath]

/-- A late commit of a command is counted, raised and answered (R44, R49). -/
theorem Dev.commitEnds_late_command {d : Dev} {c : Commit} {port tag src : Nat} (issued : c.issuer = .command port tag src)
    (lath : d.lathRuns = true) :
    d.commitEnds c .late = ((d.bump K.COMMITS_LATE).raise 33 (words2 c.target ++ [c.groups])).respond port src tag 0x0510 St.late [] := by
  have runs : ((d.bump K.COMMITS_LATE).raise 33 (words2 c.target ++ [c.groups])).lathRuns = true := by
    simpa [Dev.lathRuns] using lath
  exact Dev.tellIssuer_command issued runs .late

end Sys2Proof.Machine
end

section

namespace Sys2Proof.Machine

/-! ### The checks of R112 on COMMIT -/

/-- A TLV whose value is out of range is a fault, unless an earlier one is. -/
theorem valueFault_isSome {pars : List Par} {p : Par} {ts : List Tlv} {t : Tlv} (ht : t ∈ ts)
    (hp : (pars.find? fun p => p.typ == t.typ) = some p) (bad : p.ok t.val = false) (i : Nat) : (valueFault pars i ts).isSome = true := by
  induction ts generalizing i with
  | nil => cases ht
  | cons u ts ih =>
    rcases List.mem_cons.mp ht with rfl | later
    · simp only [valueFault, hp, bad, Bool.false_eq_true, if_false, Option.isSome_some]
    · rw [valueFault]
      split
      · exact ih later _
      · split
        · exact ih later _
        · rfl

/-- A form without fault has every mandatory TLV. -/
theorem hasTlv_of_form {sp : Spec} {ts : List Tlv} {short : Option Nat} (h : sp.form ts short = none) {p : Par} (hp : p ∈ sp.pars)
    (must : p.must = true) : hasTlv ts p.typ = true := by
  unfold Spec.form at h
  split at h
  · cases h
  · split at h
    · cases h
    · split at h
      · rename_i all
        simpa [must] using List.all_eq_true.mp all p hp
      · cases h

/-- A TLV that is present is read at its first place. -/
theorem exists_tlv_of_hasTlv {ts : List Tlv} {typ : Nat} (h : hasTlv ts typ = true) :
    ∃ t ∈ ts, t.typ = typ ∧ tlvNum ts typ = beVal t.val := by
  obtain ⟨u, hu, key⟩ := List.any_eq_true.mp h
  cases found : ts.find? fun t => t.typ == typ with
  | none => exact absurd key (List.find?_eq_none.mp found u hu)
  | some t =>
    refine ⟨t, List.mem_of_find?_eq_some found, by simpa using List.find?_some found, ?_⟩
    simp only [tlvNum, tlv?, found, Option.map_some, Option.getD_some]

/-- A request that passes the checks of R112 up to those of its values is turned away for its first value out of range. -/
theorem Dev.judge_valueFault {d : Dev} {q : Req} {sp : Spec} {i : Nat} (ports : sp.ports.contains q.port = true) (ready : d.ready = true)
    (role : d.rolePermits q.port sp.op = true) :
    let r := parseTlvs (q.payload.length + 1) 0 q.payload
    sp.form r.1 r.2 = none → ((sp.units r.1).any fun u => d.holder u != 7) = false → sp.unheld d q.port r.1 = false →
    valueFault (sp.parsAt d.frameNow) 0 r.1 = some i → d.judge q sp = badParam i := by
  intro r form units held fault
  simp only [Dev.judge, ports, ready, role, Bool.not_true, Bool.false_and, Bool.false_eq_true, if_false]
  simp only [r] at form units held fault
  simp only [form, units, held, Bool.or_false, Bool.false_eq_true, if_false, fault]

theorem Dev.groupsBarred_zero (d : Dev) (port : Nat) : d.groupsBarred port 0 = false := by
  simp [Dev.groupsBarred, bit]

/-- GROUPS 0 is out of range (R43). -/
theorem commit_valueFault_of_noGroups {ts : List Tlv} {short : Option Nat} (form : commitSpec.form ts short = none)
    (zero : tlvNum ts 0x0101 = 0) (n : Nat) : ∃ i, valueFault (commitSpec.parsAt n) 0 ts = some i := by
  let p : Par := .req 0x0101 (num 4 fun g => 1 ≤ g && g < 4096)
  obtain ⟨t, ht, typ, val⟩ := exists_tlv_of_hasTlv (hasTlv_of_form (p := p) form (by simp [commitSpec, p]) rfl)
  have named : ((commitSpec.parsAt n).find? fun p => p.typ == t.typ) = some p := by rw [typ]; rfl
  have bad : p.ok t.val = false := by
    have : beVal t.val = 0 := val.symm.trans zero
    simp [p, Par.req, num, this]
  exact Option.isSome_iff_exists.mp (valueFault_isSome ht named bad 0)

end Sys2Proof.Machine
end

section

namespace Sys2Proof.Machine

/-! ### The firmware's own (R109) -/

/-- In the second half of a frame, with changes due for the next one and room for a commit, the firmware writes them and commits what it could
write. -/
theorem Dev.heldChangeWrite_due {d : Dev} {h : HeldChange} {hs : List HeldChange} (lath : d.lathRuns = true) (runs : d.running = true)
    (due : d.tick.changes.filter (fun c => c.frame == d.tick.frame + 1 && !c.written) = h :: hs) (room : d.tick.commits.length < 16) :
    let n := d.tick.frame + 1
    let e := (d.passToCore (d.tick.t0Core + framePeriod d.rate / 2)).each (h :: hs) Dev.writeChange
    let done := e.tick.changes.filter fun h => h.frame == n && h.written
    d.heldChangeWrite = if done.isEmpty then e
      else e.issueCommit n (groupsOf (done.flatMap HeldChange.writes)) (.firmware n h.port h.tag) := by
  have ticks : (d.passToCore (d.tick.t0Core + framePeriod d.rate / 2)).tick = d.tick := Dev.passToCore_tick ..
  simp only [Dev.heldChangeWrite, lath, runs, Bool.not_true, Bool.or_self, Bool.false_eq_true, if_false, ticks, due, ge_iff_le,
    if_neg (Nat.not_le.mpr room)]

/-- Settles O9: the cases of a commit by its issuer and by what the tick block and the checks say of it. -/
theorem commitsAct : Obligations.CommitsAct := by
  refine ⟨fun m v s reach go leased room ahead => ?bar0, fun q s ts e acc positive _ held room ahead => ?command,
    fun q s ts e acc _ _ _ lath named passed => ?late, fun q s ts e acc _ _ _ lath ahead full => ?exhausted,
    fun q s e taken ready role => ?noGroups, fun q s ts e acc => ?status, fun s h hs lath runs due room => ?firmware⟩
  case bar0 =>
    have allowed : m.val = 1 → (s.dev.transaction m).groupsBarred 0 (fieldOf F.TICK_COMMIT_GROUPS v.toNat) = false := by
      rw [Dev.groupsBarred_transaction]
      exact fun host => leased (Fin.ext host)
    have issued := Dev.issueCommit_pending (d := (s.dev.transaction m).bar0Commit (fieldOf F.TICK_COMMIT_GROUPS v.toNat)) ahead room
    rw [exec_tickCommitGo_of reach, Dev.writeTickCommit_go go allowed, Dev.commitTarget_transaction, issued]
    rfl
  case command =>
    have grouped : (tlvNum ts 0x0101 == 0) = false := by simp; omega
    intro c d
    rw [exec_commit, Dev.commit_taken acc ahead room, Dev.issueCommit_pending (by rwa [Dev.respond_tick]) (by rwa [Dev.respond_tick]),
      grouped, Dev.respond_csw]
    rfl
  case late =>
    rw [exec_commit, Dev.commit_untaken acc (by omega), Dev.issueCommit_late named passed,
      Dev.commitEnds_late_command rfl (by simpa [Dev.lathRuns] using lath)]
  case exhausted =>
    rw [exec_commit, Dev.commit_untaken acc (by omega), Dev.issueCommit_exhausted ahead full, Dev.tellIssuer_command rfl lath]
    rfl
  case noGroups =>
    intro r form zero
    obtain ⟨i, fault⟩ := commit_valueFault_of_noGroups form zero e.frameNow
    have free : commitSpec.unheld e q.port r.1 = false := by
      show e.groupsBarred q.port (tlvNum r.1 0x0101) = false
      rw [zero, Dev.groupsBarred_zero]
    have ports : commitSpec.ports.contains q.port.val = true := by
      match q.port with
      | 0 | 1 | 2 | 3 | 4 => rfl
    refine ⟨i, fault, ?_⟩
    rw [exec_commit, Dev.commit, Dev.command_takesUp taken, Dev.judge_valueFault ports ready role form rfl free fault]
    rfl
  case status =>
    rw [exec_tickStatusGet, Dev.tickStatusGet, Dev.command_of acc]
  case firmware =>
    rw [exec_heldChangeWrite, Dev.heldChangeWrite_due lath runs due room]

end Sys2Proof.Machine
end

/-! ## Ingest (R31, R183, R188–R190, R197, R201, R202, R212, R543) -/

section

namespace Sys2Proof.Machine

/-! ### What a row that stores lines or proxies answers -/

/-- The device that the row's effect leaves, and the Mere bytes with its line and its proxy. -/
theorem liftMere_eq (b : Nat) (f : Dev → Dev) (s : State) : liftMere b f s = .next { s with
    dev := (f s.dev).flush, mere := ((({ s with dev := f s.dev } : State).storeLine s.dev b).storeProxy s.dev b).mere } := by
  obtain ⟨m, line⟩ := State.storeLine_eq { s with dev := f s.dev } s.dev b
  obtain ⟨n, proxy⟩ := State.storeProxy_eq { s with dev := f s.dev, mere := m } s.dev b
  unfold liftMere
  dsimp only
  rw [line, proxy]
  rfl

/-- Nothing is written for a ring that gained no line. -/
theorem State.storeLine_of_ring {s : State} {old : Dev} {b : Nat} (h : s.dev.ring b = old.ring b) : s.storeLine old b = s := by
  unfold State.storeLine
  dsimp only
  split
  · rfl
  · rw [if_pos (by rw [h])]

theorem State.storeProxy_of_count {s : State} {old : Dev} {b : Nat} (h : s.dev.hget H.ingProxyCount b = old.hget H.ingProxyCount b) :
    s.storeProxy old b = s := if_pos h

/-- The line that a ring's newest frame gained is written at its place (R202). -/
theorem State.storeLine_of_gained {s : State} {old : Dev} {b : Nat} {f : RingFrame} {l : StoredLine} {o : Nat}
    (newest : (s.dev.ring b).frames.getLast? = some f)
    (gained : ((s.dev.ring b).frames.getLast?.map fun f => (f.k, f.lines.length)) ≠
      ((old.ring b).frames.getLast?.map fun f => (f.k, f.lines.length)))
    (line : (placed f.lines).getLast? = some (l, o)) :
    s.storeLine old b = { s with mere := writeAt s.mere (s.dev.linePlace b f.k l o) (lineImage l) } := by
  rw [newest] at gained
  simp only [State.storeLine, newest]
  rw [if_neg gained]
  simp only [line]

/-! ### Lines and source frames -/

section

variable {d : Dev} {i : Nat}

@[simp] theorem Dev.slotBase_pass (d : Dev) (n s : Nat) : (d.pass n).slotBase s = d.slotBase s := rfl
@[simp] theorem Dev.slotState_pass (d : Dev) (n s : Nat) : (d.pass n).slotState s = d.slotState s := rfl

/-- A line at a DISABLED slot is discarded (R190). -/
theorem Dev.ingestLine_disabled (disabled : d.slotState (d.slotBase i) = 0) (l : LineIn) :
    d.ingestLine i l = ((d.pass l.wait).bump C.ING_LINES_IN i).bump C.ING_LINES_DISCARDED i :=
  if_pos (by simpa using disabled)

variable {b : Nat}

theorem Dev.slotState_bump (d : Dev) (c : Ctr) (i n s : Nat) : (d.bump c i n).slotState s = d.slotState s := Dev.get_bump ..

theorem Dev.lineCounts_unlocked (h : d.slotState b ≠ 3) (damaged : Bool) :
    d.lineCounts i b damaged = (d.bump C.ING_LINES_IN i).bump C.ING_LINES_DISCARDED i :=
  if_pos (by rw [Dev.slotState_bump]; simpa using h)

theorem Dev.lineCounts_good (h : d.slotState b = 3) : d.lineCounts i b false = (d.bump C.ING_LINES_IN i).bump C.ING_LINES_GOOD i := by
  simp [Dev.lineCounts, Dev.slotState_bump, h]

theorem Dev.lineCounts_damaged (h : d.slotState b = 3) : d.lineCounts i b true =
    ((d.bump C.ING_LINES_IN i).bump C.ING_LINES_DAMAGED i).raise 521 [i, d.hget H.ingCount i] := by
  simp [Dev.lineCounts, Dev.slotState_bump, h]

/-- Four line periods without an EAV at an enabled gang (R189). -/
theorem Dev.noTrs_enabled (h : d.slotState (d.slotBase i) ≠ 0) :
    d.noTrs i = ((d.passToCore (d.hget H.ingEav i + d.trsLimit (d.slotBase i))).hset H.ingNoTrs i 1).reviewSlot (d.slotBase i) :=
  if_neg (by simpa using h)

/-- An enabled slot not yet LOST takes its lowest loss cause and is LOST (R189). -/
theorem Dev.reviewSlot_lost {c : Nat} {cs : List Nat} (enabled : d.slotState i ≠ 0) (held : d.slotState i ≠ 1)
    (causes : d.causes i = c :: cs) (other : c ≠ 4) :
    d.reviewSlot i = (((d.hset H.ingRun i 0).set F.ING_SLOT_STATUS_LOSS_CAUSE i c).enterState i 1).raise 512 [i, c] := by
  simp [Dev.reviewSlot, enabled, held, causes, other]

/-- A LOST slot without a loss cause acquires (R188). -/
theorem Dev.reviewSlot_found (lost : d.slotState i = 1) (causes : d.causes i = []) :
    d.reviewSlot i = d.set F.ING_SLOT_STATUS_STATE i 2 := by
  simp [Dev.reviewSlot, lost, causes]

end

/-! ### RESKIM -/

/-- A write of ING_SLOT_CTRL that reaches the register. -/
theorem exec_reskim_of {m : Fin 8} {slot : Fin 1536} {s : State} (h : s.dev.Reaches m (reskimOff slot)) (v : Word) :
    exec (.reskim m slot v) s = s.becomes (((s.dev.transaction m).reskim slot v.toNat).written m (reskimOff slot) v.toNat) :=
  (exec_reskim m slot v s).trans (congrArg s.becomes (Dev.busWrite_of h v.toNat _))

/-- A LOCKED slot that fell back and lies inside the window returns to the skim path (R201). -/
theorem Dev.reskim_returns {d : Dev} {i w : Nat} (asked : w % 2 = 1) (fell : d.get F.ING_SLOT_STATUS_FELL_BACK i = 1)
    (inside : d.hget H.ingOutside i = 0) (locked : d.slotState i = 3) :
    d.reskim i w = ((d.set F.ING_SLOT_STATUS_FELL_BACK i 0).set F.ING_SLOT_STATUS_ON_SKIM i 1).setVisible i true := by
  have still : ((d.set F.ING_SLOT_STATUS_FELL_BACK i 0).set F.ING_SLOT_STATUS_ON_SKIM i 1).slotState i = 3 := by
    rw [Dev.slotState, Dev.get_set_ne _ _ fun key => absurd key.1 (by decide), Dev.get_set_ne _ _ fun key => absurd key.1 (by decide)]
    exact locked
  simp [Dev.reskim, asked, fell, inside, still]

/-! ### Loss of lock (R31) -/

section

variable {d : Dev} {n : Nat}

/-- A domain whose bit of CLK_STATUS reads its lock loses it, is raised, and has its consequence. -/
theorem Dev.lossOfLock_shared (shared : perInstance n = false) (locked : bit (d.get F.CLK_STATUS_LOCK) (n - 1) = true) (inst : Nat)
    (bursts : List Nat) :
    d.lossOfLock n inst bursts = (((d.setLock (n - 1) false).raise 36 [n]).lockConsequence n inst bursts).healthReview := by
  simp [Dev.lossOfLock, shared, locked]

/-- A domain whose bit reads 1 always has its consequence alone. -/
theorem Dev.lossOfLock_perInstance (own : perInstance n = true) (inst : Nat) (bursts : List Nat) :
    d.lossOfLock n inst bursts = (d.lockConsequence n inst bursts).healthReview := by
  simp [Dev.lossOfLock, own]

end

/-- Settles O27: each row by the state of the slot, and the consequence of a lost lock by its domain. -/
theorem ingestActs : Obligations.IngestActs := by
  refine ⟨fun slot l s enabled => ?line, fun slot l s disabled => ?discarded, fun s old b f l o => State.storeLine_of_gained,
    fun d i b damaged => ⟨fun h => Dev.lineCounts_unlocked h damaged, fun h good => good ▸ Dev.lineCounts_good h,
      fun h bad => bad ▸ Dev.lineCounts_damaged h⟩,
    fun slot s enabled => ?noTrs, fun slot f s enabled base => ?frame, fun d i c cs => Dev.reviewSlot_lost, fun d i => Dev.reviewSlot_found,
    fun m slot v s reach asked fell inside locked => ?reskim, fun n inst bursts s shared locked => ?shared,
    fun n inst bursts s own => ?perInstance, fun d inst bursts => ⟨fun n h => ?reset, fun n h => ?stop, rfl, rfl, rfl⟩⟩
  case line =>
    intro b d₀ damaged d₁ d₂ crc d₃ n d₄ d₅ d₆ d₇ e
    have effect : s.dev.ingestLine slot l = e := if_neg (by simpa using enabled)
    rw [exec_ingestLine, liftMere_eq, effect]
  case discarded =>
    rw [exec_ingestLine, liftMere_eq, Dev.ingestLine_disabled disabled, State.storeLine_of_ring, State.storeProxy_of_count]
    · simp
    · rfl
  case noTrs => rw [exec_noTrsTimeout, Dev.noTrs_enabled enabled]
  case frame =>
    intro ls members crcLines d₀ d₁ d₂ d₃ d₄ d₅ d₆ d₇ e
    have effect : s.dev.frameEnds slot f = e := if_neg (by simp [enabled, base])
    rw [exec_sourceFrameEnd, liftMere_eq, effect, base]
  case reskim =>
    rw [exec_reskim_of reach, Dev.reskim_returns asked (by simpa using fell) (by simpa using inside) (by simpa [Dev.slotState] using locked)]
  case shared => rw [exec_lossOfLock, Dev.lossOfLock_shared shared locked]; rfl
  case perInstance => rw [exec_lossOfLock, Dev.lossOfLock_perInstance own]
  case reset =>
    simp only [List.mem_cons, List.not_mem_nil, or_false] at h
    rcases h with rfl | rfl | rfl | rfl | rfl <;> rfl
  case stop =>
    simp only [List.mem_cons, List.not_mem_nil, or_false] at h
    rcases h with rfl | rfl | rfl <;> rfl

end Sys2Proof.Machine
end

/-! ## Configuration of the crosspoint (R35, R122, R164, R187, R547) -/

section

namespace Sys2Proof.Machine

section

variable {d e : Dev} {q : Req} {ts : List Tlv}

/-! ### DEST_CONFIG: its checks in their order -/

/-- The range does not fit the gang code. -/
def destGangOdd (ts : List Tlv) : Bool :=
  hasTlv ts 0x0102 && ((tlvRange ts).1 % gangSize (tlvNum ts 0x0102) != 0 || (tlvRange ts).2 % gangSize (tlvNum ts 0x0102) != 0)

/-- The gang code would change a gang that a converter serves. -/
def Dev.destGangAttached (e : Dev) (ts : List Tlv) : Bool :=
  let v := e.plannedAt (e.changeFrame (frameTlv ts))
  hasTlv ts 0x0102 && (rangeList (tlvRange ts)).any fun i => e.hasConverter (e.heldWrites (destWrites ts)) v i &&
    gangSize ((v.over (destWrites ts)) F.XPT_DEST_CFG_GANG i) != gangSize (v F.XPT_DEST_CFG_GANG i)

/-- A lane or the house rate does not allow the fixed mode. -/
def Dev.destModeUnfit (e : Dev) (ts : List Tlv) : Bool :=
  hasTlv ts 0x0101 && (rangeList (tlvRange ts)).any fun i =>
    e.modeMismatch (e.plannedAt (e.changeFrame (frameTlv ts))) i (tlvNum ts 0x0101)

variable (acc : d.Accepts q destConfigSpec ts e)

include acc

theorem Dev.destConfig_of : d.destConfig q =
    if destGangOdd ts then e.reply q 0x0210 St.badParam [statusDetail (tlvIndex ts 2) 0xFF 0]
    else if e.destGangAttached ts then e.reply q 0x0210 St.badParam [statusDetail (tlvIndex ts 0x0102) 0xFF 0x16]
    else match e.rangeBarred q.port (tlvRange ts) (destWrites ts) with
      | some i => e.replyProtected q 0x0210 ts i
      | none =>
        if e.destModeUnfit ts then e.reply q 0x0210 St.formatMismatch
        else match e.admission (e.changeFrame (frameTlv ts)) (destWrites ts) with
          | some st => e.refuse q 0x0210 st
          | none => e.holdChange q 0x0210 (frameTlv ts) (destWrites ts) :=
  Dev.command_of acc _

theorem Dev.destConfig_odd (odd : destGangOdd ts = true) :
    d.destConfig q = e.reply q 0x0210 St.badParam [statusDetail (tlvIndex ts 2) 0xFF 0] := by
  simp only [Dev.destConfig_of acc, odd, if_true]

variable (fits : destGangOdd ts = false)

include fits

theorem Dev.destConfig_attached (attached : e.destGangAttached ts = true) :
    d.destConfig q = e.reply q 0x0210 St.badParam [statusDetail (tlvIndex ts 0x0102) 0xFF 0x16] := by
  simp only [Dev.destConfig_of acc, fits, attached, Bool.false_eq_true, if_false, if_true]

variable (free : e.destGangAttached ts = false)

include free

theorem Dev.destConfig_barred {i : Nat} (barred : e.rangeBarred q.port (tlvRange ts) (destWrites ts) = some i) :
    d.destConfig q = e.replyProtected q 0x0210 ts i := by
  simp only [Dev.destConfig_of acc, fits, free, barred, Bool.false_eq_true, if_false]

variable (unbarred : e.rangeBarred q.port (tlvRange ts) (destWrites ts) = none)

include unbarred

theorem Dev.destConfig_unfit (unfit : e.destModeUnfit ts = true) : d.destConfig q = e.reply q 0x0210 St.formatMismatch := by
  simp only [Dev.destConfig_of acc, fits, free, unbarred, unfit, Bool.false_eq_true, if_false, if_true]

variable (fit : e.destModeUnfit ts = false)

include fit

theorem Dev.destConfig_refused {st : Nat × Nat} (refused : e.admission (e.changeFrame (frameTlv ts)) (destWrites ts) = some st) :
    d.destConfig q = e.refuse q 0x0210 st := by
  simp only [Dev.destConfig_of acc, fits, free, unbarred, fit, refused, Bool.false_eq_true, if_false]

theorem Dev.destConfig_held (admitted : e.admission (e.changeFrame (frameTlv ts)) (destWrites ts) = none) :
    d.destConfig q = e.holdChange q 0x0210 (frameTlv ts) (destWrites ts) := by
  simp only [Dev.destConfig_of acc, fits, free, unbarred, fit, admitted, Bool.false_eq_true, if_false]

end

end Sys2Proof.Machine
end

section

namespace Sys2Proof.Machine

section

variable {d e : Dev} {q : Req} {ts : List Tlv}

/-! ### SOURCE_CONFIG -/

/-- The feeders of the range lie beyond the last of their kind. -/
def sourceFeedOutside (ts : List Tlv) : Bool :=
  let feed := tlvRange ts 0x0102
  hasTlv ts 0x0102 && feed.1 != 0 && feed.2 + (tlvRange ts 0x0101).2 - 1 > (if feed.1 = 1 then 1535 else 2047)

/-- The range does not begin at a multiple of the gang. -/
def sourceGangOdd (ts : List Tlv) : Bool := hasTlv ts 0x0103 && (tlvRange ts 0x0101).1 % gangSize (tlvNum ts 0x0103) != 0

/-- The slots' writes, and those of the Reed bundles that their gangs bring (R187). -/
def Dev.sourceBundleWrites (e : Dev) (ts : List Tlv) : List ShadowWrite :=
  let v := e.plannedAt (e.changeFrame (frameTlv ts))
  sourceWrites ts ++ e.bundleWrites v (v.over (sourceWrites ts)) (sourceWrites ts)

theorem Dev.sourceConfig_of (acc : d.Accepts q sourceConfigSpec ts e) : d.sourceConfig q =
    if sourceFeedOutside ts then e.reply q 0x0211 St.badParam [statusDetail (tlvIndex ts 0x0102) 0xFF 0]
    else if sourceGangOdd ts then e.reply q 0x0211 St.badParam [statusDetail (tlvIndex ts 0x0103) 0xFF 0]
    else match e.admission (e.changeFrame (frameTlv ts)) (e.sourceBundleWrites ts) with
      | some st => e.refuse q 0x0211 st
      | none => e.holdChange q 0x0211 (frameTlv ts) (e.sourceBundleWrites ts) :=
  Dev.command_of acc _

theorem Dev.sourceConfig_odd (acc : d.Accepts q sourceConfigSpec ts e) (inside : sourceFeedOutside ts = false)
    (odd : sourceGangOdd ts = true) :
    d.sourceConfig q = e.reply q 0x0211 St.badParam [statusDetail (tlvIndex ts 0x0103) 0xFF 0] := by
  simp only [Dev.sourceConfig_of acc, inside, odd, Bool.false_eq_true, if_false, if_true]

theorem Dev.sourceConfig_held (acc : d.Accepts q sourceConfigSpec ts e) (inside : sourceFeedOutside ts = false)
    (fits : sourceGangOdd ts = false) (admitted : e.admission (e.changeFrame (frameTlv ts)) (e.sourceBundleWrites ts) = none) :
    d.sourceConfig q = e.holdChange q 0x0211 (frameTlv ts) (e.sourceBundleWrites ts) := by
  simp only [Dev.sourceConfig_of acc, inside, fits, admitted, Bool.false_eq_true, if_false]

/-! ### CHANGEOVER_CONFIG -/

/-- What the checks of a route say of the backup at the bases of the range. -/
def Dev.backupFault (e : Dev) (ts : List Tlv) : Option Nat :=
  let v := e.plannedAt (e.changeFrame (frameTlv ts))
  (rangeList (tlvRange ts)).findSome? fun i => if isBase v F.XPT_DEST_CFG_GANG i then e.checkSource v i (tlvNum ts 0x0003) else none

theorem Dev.changeoverConfig_of (acc : d.Accepts q changeoverConfigSpec ts e) : d.changeoverConfig q =
    match e.rangeBarred q.port (tlvRange ts) (changeoverWrites ts) with
    | some i => e.replyProtected q 0x0212 ts i
    | none =>
      match if hasTlv ts 0x0003 && tlvNum ts 0x0003 != 0x7FF then e.backupFault ts else none with
      | some st => e.refuse q 0x0212 (st, if st = St.bandwidth then 4 else 0)
      | none => e.holdChange q 0x0212 (frameTlv ts) (changeoverWrites ts) :=
  Dev.command_of acc _

theorem Dev.changeoverConfig_barred (acc : d.Accepts q changeoverConfigSpec ts e) {i : Nat}
    (barred : e.rangeBarred q.port (tlvRange ts) (changeoverWrites ts) = some i) :
    d.changeoverConfig q = e.replyProtected q 0x0212 ts i := by
  simp only [Dev.changeoverConfig_of acc, barred]

/-- No backup is named, or none is to be one, or the one named passes its checks. -/
theorem Dev.changeoverConfig_held (acc : d.Accepts q changeoverConfigSpec ts e)
    (unbarred : e.rangeBarred q.port (tlvRange ts) (changeoverWrites ts) = none)
    (backup : hasTlv ts 0x0003 = false ∨ tlvNum ts 0x0003 = 0x7FF ∨ e.backupFault ts = none) :
    d.changeoverConfig q = e.holdChange q 0x0212 (frameTlv ts) (changeoverWrites ts) := by
  have passes : (if hasTlv ts 0x0003 && tlvNum ts 0x0003 != 0x7FF then e.backupFault ts else none) = none := by
    rcases backup with absent | off | good
    · simp only [absent, Bool.false_and, Bool.false_eq_true, if_false]
    · simp only [off, bne_self_eq_false, Bool.and_false, Bool.false_eq_true, if_false]
    · rw [good, ite_self]
  simp only [Dev.changeoverConfig_of acc, unbarred, passes]

/-! ### GENERATOR_CONFIG -/

theorem Dev.generatorConfig_of (acc : d.Accepts q generatorConfigSpec ts e) : d.generatorConfig q =
    if !generatorFormat (bits (tlvNum ts 0x0102) 16 8) then
      e.reply q 0x0215 St.badParam [statusDetail (tlvIndex ts 0x0102) 0xFF 0]
    else if !e.supports (bits (tlvNum ts 0x0102) 12 4) then e.reply q 0x0215 St.formatMismatch
    else e.holdChange q 0x0215 (frameTlv ts) (generatorWrites (tlvNum ts 0x0101) (tlvNum ts 0x0102)) :=
  Dev.command_of acc _

end

/-- Settles O32: each command by the checks that it passes. -/
theorem crosspointConfigActs : Obligations.CrosspointConfigActs := by
  refine ⟨fun q s ts e acc => ?dest, fun q s ts e acc => ?source, fun q s ts e acc => ?changeover, fun q s ts e acc => ?generator,
    fun q s ts e acc => ?destStatus, fun q s ts e acc => ?sourceStatus⟩
  case dest =>
    intro r ws n v z hw odd attached unfit
    refine ⟨fun isOdd => ?_, fun fits isAttached => ?_, fun i fits free barred => ?_, fun fits free unbarred isUnfit => ?_,
      fun st fits free unbarred fit refused => ?_, fun fits free unbarred fit admitted => ?_⟩ <;> rw [exec_destConfig]
    · rw [Dev.destConfig_odd acc isOdd]
    · rw [Dev.destConfig_attached acc fits isAttached]
    · rw [Dev.destConfig_barred acc fits free barred]
    · rw [Dev.destConfig_unfit acc fits free unbarred isUnfit]
    · rw [Dev.destConfig_refused acc fits free unbarred fit refused]
    · rw [Dev.destConfig_held acc fits free unbarred fit admitted]
  case source =>
    intro r feed n ws inside
    refine ⟨fun has odd => ?_, fun fits admitted => ?_⟩ <;> rw [exec_sourceConfig]
    · have isOdd : sourceGangOdd ts = true := by simp only [sourceGangOdd, has, Bool.true_and, bne_iff_ne]; exact odd
      rw [Dev.sourceConfig_odd acc inside isOdd]
    · rw [Dev.sourceConfig_held acc inside fits admitted]
      rfl
  case changeover =>
    intro r ws v bad
    refine ⟨fun i barred => ?_, fun unbarred backup => ?_⟩ <;> rw [exec_changeoverConfig]
    · rw [Dev.changeoverConfig_barred acc barred]
    · rw [Dev.changeoverConfig_held acc unbarred backup]
  case generator =>
    intro w
    rw [exec_generatorConfig, Dev.generatorConfig_of acc]
    refine ⟨fun unmade => ?_, fun made unsupported => ?_, fun made supported => ?_⟩
    · rw [if_pos (by simpa using unmade)]
    · rw [if_neg (by simpa using made), if_pos (by simpa using unsupported)]
    · rw [if_neg (by simpa using made), if_neg (by simpa using supported)]
  case destStatus => rw [exec_destStatusGet, Dev.destStatusGet, Dev.command_of acc]
  case sourceStatus => rw [exec_sourceStatusGet, Dev.sourceStatusGet, Dev.command_of acc]

end Sys2Proof.Machine
end

/-! Proofs of the statements on resets, start-up and self-test. -/

/-! ## What a table lists beside the reset values -/

section

namespace Sys2Proof.Machine

/-- A value that is read is one that is listed. -/
theorem Map.mem_of_find? {m : Map} {f i v : Nat} (h : m.find? f i = some v) : ⟨f, i, v⟩ ∈ m := by
  induction m with
  | nil => cases h
  | cons c m ih =>
    rw [Map.find?] at h
    split at h
    · obtain ⟨rfl, rfl⟩ := ‹c.fld = f ∧ c.inst = i›
      cases h
      exact List.mem_cons_self ..
    · exact List.mem_cons_of_mem _ (ih h)

/-- Where a field lists no value, it is not found. -/
theorem Map.find?_of_not_mem_insts {m : Map} {f i : Nat} (h : i ∉ m.insts f) : m.find? f i = none :=
  Option.eq_none_iff_forall_ne_some.mpr fun _ hv =>
    h (List.mem_map.mpr ⟨_, List.mem_filter.mpr ⟨Map.mem_of_find? hv, beq_self_eq_true _⟩, rfl⟩)

/-- A table lists values of these fields alone. -/
def Map.ListsOnly (m : Map) (ids : List Nat) : Prop := ∀ c ∈ m, c.fld ∈ ids

theorem Map.listsOnly_nil (ids : List Nat) : Map.ListsOnly [] ids := fun _ h => absurd h List.not_mem_nil

section

variable {m : Map} {ids : List Nat} (h : m.ListsOnly ids)

include h

theorem Map.ListsOnly.find? {f : Nat} (other : f ∉ ids) (i : Nat) : m.find? f i = none :=
  Option.eq_none_iff_forall_ne_some.mpr fun _ hv => other (h _ (Map.mem_of_find? hv))

theorem Map.ListsOnly.drop (f i : Nat) : (m.drop f i).ListsOnly ids := fun c hc => h c (List.mem_filter.mp hc).1

theorem Map.ListsOnly.store {f : Nat} (own : f ∈ ids) (i v d : Nat) : (m.store f i v d).ListsOnly ids := by
  unfold Map.store
  split
  · exact h.drop f i
  · intro c hc
    rcases Map.mem_put hc with hc | rfl
    · exact h c hc
    · exact own

end

section

variable {d : Dev} {ids : List Nat}

theorem Dev.get_of_listsOnly (h : d.reg.ListsOnly ids) {f : Fld} (other : f.id ∉ ids) (i : Nat) : d.get f i = f.dflt i := by
  rw [Dev.get, h.find? other]
  rfl

theorem Dev.hget_of_listsOnly (h : d.hid.ListsOnly ids) {f : Fld} (other : f.id ∉ ids) (i : Nat) : d.hget f i = f.dflt i := by
  rw [Dev.hget, h.find? other]
  rfl

theorem Dev.set_listsOnly (h : d.reg.ListsOnly ids) {f : Fld} (own : f.id ∈ ids) (i v : Nat) : (d.set f i v).reg.ListsOnly ids :=
  Map.ListsOnly.store h own _ _ _

theorem Dev.hset_listsOnly (h : d.hid.ListsOnly ids) {f : Fld} (own : f.id ∈ ids) (i v : Nat) : (d.hset f i v).hid.ListsOnly ids :=
  Map.ListsOnly.store h own _ _ _

/-- A field set to its reset value is not listed for that. -/
theorem Dev.set_listsOnly_of_dflt (h : d.reg.ListsOnly ids) {f : Fld} {i v : Nat} (reset : v % 2 ^ f.width = f.dflt i) :
    (d.set f i v).reg.ListsOnly ids := by
  show (d.reg.store f.id i (v % 2 ^ f.width) (f.dflt i)).ListsOnly ids
  rw [Map.store, if_pos reset]
  exact h.drop f.id i

end

/-- A sequence of effects of which that of `a` alone changes what `P` reads, to the value `v` that none of them changes. -/
theorem Dev.each_reads {α β : Type} [DecidableEq α] {P v : Dev → β} {f : Dev → α → Dev} {a : α} (kept : ∀ d b, v (f d b) = v d)
    (own : ∀ d, P (f d a) = v d) (other : ∀ d b, b ≠ a → P (f d b) = P d) (l : List α) (d : Dev) :
    P (d.each l f) = if a ∈ l then v d else P d := by
  induction l generalizing d with
  | nil => rfl
  | cons b l ih =>
    have rest : P (d.each (b :: l) f) = if a ∈ l then v (f d b) else P (f d b) := ih (f d b)
    rw [rest, kept]
    by_cases first : b = a
    · rw [first, own, ite_self, if_pos (List.mem_cons_self ..)]
    · rw [other d b first]
      by_cases later : a ∈ l
      · rw [if_pos later, if_pos (List.mem_cons_of_mem _ later)]
      · rw [if_neg later, if_neg fun mem => (List.mem_cons.mp mem).elim (Ne.symm first) later]

end Sys2Proof.Machine
end

/-! ## Resets of the device (R72, R124, R494, R503) -/

section

namespace Sys2Proof.Machine

/-! ### The pins are sampled again -/

/-- One pin is sampled again. -/
def Dev.samplePin (d : Dev) (n : Nat) : Dev :=
  let d := d.hset H.gpioPin n (d.hget H.gpioBall n)
  let active := d.activeLevel n (d.hget H.gpioPin n)
  (d.putBit F.GPIO_LEVEL_LEVEL n active).timeActive n active

theorem Dev.samplePins_eq (d : Dev) : d.samplePins = d.each (d.hinsts H.gpioBall) Dev.samplePin := rfl

/-- What is no part of the sampling of the pins: the pins' levels, active states and stuck bits may change without changing it. -/
structure UntouchedBySampling {β : Type} (P : Dev → β) : Prop where
  pin : ∀ (d : Dev) n v, P (d.hset H.gpioPin n v) = P d
  active : ∀ (d : Dev) n v, P (d.hset H.gpioActive n v) = P d
  level : ∀ (d : Dev) v, P (d.set F.GPIO_LEVEL_LEVEL 0 v) = P d
  stuck : ∀ (d : Dev) v, P (d.set F.GPIO_STUCK_STUCK 0 v) = P d

namespace UntouchedBySampling

variable {β : Type} {P : Dev → β} (h : UntouchedBySampling P)

include h

theorem samplePin (d : Dev) (n : Nat) : P (d.samplePin n) = P d := by
  unfold Dev.samplePin Dev.timeActive Dev.putBit
  dsimp only
  split
  · rw [h.active, h.level, h.pin]
  · rw [h.stuck, h.active, h.level, h.pin]

theorem samplePins (d : Dev) : P d.samplePins = P d := by
  rw [Dev.samplePins_eq]
  exact Dev.each_keeps P Dev.samplePin _ h.samplePin d

end UntouchedBySampling

theorem untouchedBySampling_get {f : Fld} (i : Nat) (level : f.id ≠ F.GPIO_LEVEL_LEVEL.id) (stuck : f.id ≠ F.GPIO_STUCK_STUCK.id) :
    UntouchedBySampling fun d => d.get f i where
  pin _ _ _ := Dev.get_hset ..
  active _ _ _ := Dev.get_hset ..
  level d v := Dev.get_set_ne d v fun key => level key.1
  stuck d v := Dev.get_set_ne d v fun key => stuck key.1

theorem untouchedBySampling_hget {f : Fld} (i : Nat) (pin : f.id ≠ H.gpioPin.id) (active : f.id ≠ H.gpioActive.id) :
    UntouchedBySampling fun d => d.hget f i where
  pin d _ v := Dev.hget_hset_ne d v fun key => pin key.1
  active d _ v := Dev.hget_hset_ne d v fun key => active key.1
  level _ _ := Dev.hget_set ..
  stuck _ _ := Dev.hget_set ..

/-- A device but for its register fields and implied values. -/
def Dev.besideTables (d : Dev) : Dev := { d with reg := [], hid := [] }

theorem untouchedBySampling_besideTables : UntouchedBySampling Dev.besideTables where
  pin _ _ _ := rfl
  active _ _ _ := rfl
  level _ _ := rfl
  stuck _ _ := rfl

/-- A stuck bit that is 0 is not listed for being cleared. -/
theorem Dev.clearStuck_listsOnly {d : Dev} {ids : List Nat} (h : d.reg.ListsOnly ids) (stuck : F.GPIO_STUCK_STUCK.id ∉ ids) (n : Nat) :
    (d.putBit F.GPIO_STUCK_STUCK n false).reg.ListsOnly ids := by
  have zero : d.get F.GPIO_STUCK_STUCK = 0 := Dev.get_of_listsOnly h stuck 0
  refine Dev.set_listsOnly_of_dflt h ?_
  rw [zero, Nat.zero_and, if_neg Bool.false_ne_true]
  rfl

theorem Dev.samplePins_reg_listsOnly {d : Dev} {ids : List Nat} (h : d.reg.ListsOnly ids) (level : F.GPIO_LEVEL_LEVEL.id ∈ ids)
    (stuck : F.GPIO_STUCK_STUCK.id ∉ ids) : d.samplePins.reg.ListsOnly ids := by
  rw [Dev.samplePins_eq]
  refine List.foldlRecOn (motive := fun d : Dev => d.reg.ListsOnly ids) _ Dev.samplePin h fun e he n _ => ?_
  unfold Dev.samplePin Dev.timeActive
  dsimp only
  split
  · exact Dev.set_listsOnly he level 0 _
  · exact Dev.clearStuck_listsOnly (Dev.set_listsOnly he level 0 _) stuck n

theorem Dev.samplePins_hid_listsOnly {d : Dev} {ids : List Nat} (h : d.hid.ListsOnly ids) (pin : H.gpioPin.id ∈ ids)
    (active : H.gpioActive.id ∈ ids) : d.samplePins.hid.ListsOnly ids := by
  rw [Dev.samplePins_eq]
  refine List.foldlRecOn (motive := fun d : Dev => d.hid.ListsOnly ids) _ Dev.samplePin h fun e he n _ => ?_
  unfold Dev.samplePin Dev.timeActive
  dsimp only
  have sampled := Dev.hset_listsOnly he pin n (e.hget H.gpioBall n)
  split
  · exact Dev.hset_listsOnly sampled active n _
  · exact Dev.hset_listsOnly sampled active n 0

/-- Of the pins' levels, sampling a pin changes its own alone. -/
theorem Dev.hget_samplePin_pin (d : Dev) (n i : Nat) :
    (d.samplePin n).hget H.gpioPin i = (d.hset H.gpioPin n (d.hget H.gpioBall n)).hget H.gpioPin i := by
  unfold Dev.samplePin Dev.timeActive Dev.putBit
  dsimp only
  split
  · rw [Dev.hget_hset_ne _ _ fun key => absurd key.1 (by decide), Dev.hget_set]
  · rw [Dev.hget_set, Dev.hget_hset_ne _ _ fun key => absurd key.1 (by decide), Dev.hget_set]

theorem Dev.hget_samplePins_ball (d : Dev) (n : Nat) : d.samplePins.hget H.gpioBall n = d.hget H.gpioBall n :=
  (untouchedBySampling_hget n (by decide) (by decide)).samplePins d

/-- The pins of a device whose pins read 0 come to have the levels of their balls (R124). -/
theorem Dev.hget_samplePins_pin {d : Dev} {n : Nat} (pin : d.hget H.gpioPin n = 0) (ball : d.hget H.gpioBall n < 2) :
    d.samplePins.hget H.gpioPin n = d.hget H.gpioBall n := by
  have sampled : d.samplePins.hget H.gpioPin n = if n ∈ d.hinsts H.gpioBall then d.hget H.gpioBall n % 2 else d.hget H.gpioPin n := by
    rw [Dev.samplePins_eq]
    refine Dev.each_reads (P := (·.hget H.gpioPin n)) (v := (·.hget H.gpioBall n % 2)) (fun d b => ?kept) (fun d => ?own)
      (fun d b other => ?other) (d.hinsts H.gpioBall) d
    case kept => exact congrArg (· % 2) ((untouchedBySampling_hget n (by decide) (by decide)).samplePin d b)
    case own => exact (d.hget_samplePin_pin n n).trans (Dev.hget_hset_same ..)
    case other => exact (d.hget_samplePin_pin b n).trans (Dev.hget_hset_ne _ _ fun key => other key.2.symm)
  rw [sampled]
  split
  · exact Nat.mod_eq_of_lt ball
  · rename_i low
    rw [pin, Dev.hget, Map.find?_of_not_mem_insts low]
    rfl

/-! ### What a reset keeps (R72) -/

/-- The reset state with what no reset touches outside the tables. -/
def Dev.afterReset (d : Dev) : Dev :=
  { Dev.reset with bist := { Bist.reset with efuse := d.bist.efuse }, out := d.out, free := d.free }

theorem Dev.resetKeeps_besideTables (d : Dev) : d.resetKeeps.besideTables = d.afterReset :=
  Dev.each_keeps Dev.besideTables (fun n i => n.hset H.gpioBall i (d.hget H.gpioBall i)) (d.hinsts H.gpioBall) (fun _ _ => rfl) _

theorem Dev.resetKeeps_reg_listsOnly (d : Dev) {ids : List Nat} (claim : F.CSW_ROLE_CLAIM_IN.id ∈ ids) :
    d.resetKeeps.reg.ListsOnly ids := by
  refine Dev.set_listsOnly ?_ claim _ _
  rw [Dev.each_keeps Dev.reg (fun n i => n.hset H.gpioBall i (d.hget H.gpioBall i)) _ fun _ _ => rfl]
  exact Map.listsOnly_nil ids

theorem Dev.resetKeeps_hid_listsOnly (d : Dev) {ids : List Nat} (seat : H.pinSeat.id ∈ ids) (ball : H.gpioBall.id ∈ ids) :
    d.resetKeeps.hid.ListsOnly ids := by
  refine List.foldlRecOn (motive := fun d : Dev => d.hid.ListsOnly ids) _ (fun n i => n.hset H.gpioBall i (d.hget H.gpioBall i)) ?_
    fun e he n _ => Dev.hset_listsOnly he ball n _
  exact Dev.hset_listsOnly (Map.listsOnly_nil ids) seat 0 _

/-- The ball of a pin keeps its level, a bit. -/
theorem Dev.hget_resetKeeps_ball_lt (d : Dev) (n : Nat) : d.resetKeeps.hget H.gpioBall n < 2 := by
  refine List.foldlRecOn (motive := fun d : Dev => d.hget H.gpioBall n < 2) (d.hinsts H.gpioBall) _ ?_ fun e he i _ => ?_
  · rw [Dev.hget_hset_ne _ _ fun key => absurd key.1 (by decide)]
    exact Nat.two_pos
  · by_cases own : n = i
    · rw [own, Dev.hget_hset_same]
      exact Nat.mod_lt _ (by decide)
    · rw [Dev.hget_hset_ne _ _ fun key => own key.2]
      exact he

/-! ### POR_N low -/

theorem Dev.powerOn_besideTables (d : Dev) : d.powerOn.besideTables = d.afterReset :=
  (untouchedBySampling_besideTables.samplePins d.resetKeeps).trans d.resetKeeps_besideTables

theorem Dev.get_powerOn (d : Dev) {f : Fld} (claim : f.id ≠ F.CSW_ROLE_CLAIM_IN.id) (level : f.id ≠ F.GPIO_LEVEL_LEVEL.id) (i : Nat) :
    d.powerOn.get f i = f.dflt i :=
  Dev.get_of_listsOnly (ids := [F.CSW_ROLE_CLAIM_IN, F.GPIO_LEVEL_LEVEL].map Fld.id)
    (Dev.samplePins_reg_listsOnly (d.resetKeeps_reg_listsOnly (by decide)) (by decide) (by decide)) (by simp [claim, level]) i

theorem Dev.hget_powerOn (d : Dev) {f : Fld} (other : f.id ∉ [H.pinSeat, H.gpioBall, H.gpioPin, H.gpioActive].map Fld.id) (i : Nat) :
    d.powerOn.hget f i = f.dflt i :=
  Dev.hget_of_listsOnly (Dev.samplePins_hid_listsOnly (d.resetKeeps_hid_listsOnly (by decide) (by decide)) (by decide) (by decide)) other i

theorem Dev.hget_powerOn_pin (d : Dev) (n : Nat) : d.powerOn.hget H.gpioPin n = d.powerOn.hget H.gpioBall n := by
  have pin : d.resetKeeps.hget H.gpioPin n = 0 := Dev.hget_of_listsOnly
    (d.resetKeeps_hid_listsOnly (ids := [H.pinSeat, H.gpioBall].map Fld.id) (by decide) (by decide)) (by decide) n
  exact (Dev.hget_samplePins_pin pin (d.hget_resetKeeps_ball_lt n)).trans (d.resetKeeps.hget_samplePins_ball n).symm

/-! ### A device reset -/

/-- The register fields that a device reset keeps: the wear count and the values that the last power-on read from eFuse (R494). -/
def fieldsKept : List Fld := [F.HLT_WEAR_LO_WEAR, F.HLT_WEAR_HI_WEAR, F.HLT_STATUS_WEAR_VALID, F.LDG_EPOCH_EPOCH,
  F.RPR_STATUS_EFUSE_FREE, F.RPR_HBM_HARD_FREE, F.BOOT_IMAGE_SVN_MIN_SVN]

/-- What a device reset keeps of the clock, the test access port and the implied values. -/
def Dev.resetStays (d : Dev) (cause : Nat) : Dev :=
  (({ d.resetKeeps with clock := ⟨d.clock.core, 0⟩, tap := d.tap }.hset H.testLatch 0 (d.hget H.testLatch)).hset H.porLow 0 0).hset
    H.tripHeld 0 (ofBool (cause = 8))

theorem Dev.resetNow_eq (d : Dev) (cause domain : Nat) : d.resetNow cause domain =
    (((((d.resetStays cause).each fieldsKept fun n f => n.carryField d f).set F.TOP_RESET_CAUSE_CAUSE 0 cause).set
      F.TOP_RESET_CAUSE_DOMAIN 0 domain).hset H.bootAt 0 d.clock.core).samplePins := rfl

theorem Dev.resetNow_besideTables (d : Dev) (cause domain : Nat) : (d.resetNow cause domain).besideTables =
    { d.afterReset with clock := ⟨d.clock.core, 0⟩, tap := d.tap } := by
  rw [Dev.resetNow_eq, untouchedBySampling_besideTables.samplePins, ← d.resetKeeps_besideTables]
  exact Dev.each_keeps Dev.besideTables (fun n f => n.carryField d f) fieldsKept (fun _ _ => rfl) (d.resetStays cause)

theorem Dev.get_resetNow (d : Dev) (cause domain : Nat) {f : Fld} (i : Nat)
    (other : f.id ∉ ([F.CSW_ROLE_CLAIM_IN] ++ fieldsKept ++ [F.TOP_RESET_CAUSE_CAUSE, F.TOP_RESET_CAUSE_DOMAIN,
      F.GPIO_LEVEL_LEVEL]).map Fld.id) : (d.resetNow cause domain).get f i = f.dflt i := by
  rw [Dev.resetNow_eq]
  refine Dev.get_of_listsOnly (Dev.samplePins_reg_listsOnly ?_ (by decide) (by decide)) other i
  refine Dev.set_listsOnly (Dev.set_listsOnly ?_ (by decide) 0 cause) (by decide) 0 domain
  refine List.foldlRecOn (motive := fun d : Dev => d.reg.ListsOnly _) fieldsKept (fun n f => n.carryField d f)
    (d.resetKeeps_reg_listsOnly (by decide)) fun e he f hf => Dev.set_listsOnly he ?_ 0 _
  exact List.mem_map_of_mem (List.mem_append_left _ (List.mem_append_right _ hf))

theorem Dev.get_resetNow_cause (d : Dev) (cause domain : Nat) : (d.resetNow cause domain).get F.TOP_RESET_CAUSE_CAUSE =
    cause % 2 ^ F.TOP_RESET_CAUSE_CAUSE.width := by
  rw [Dev.resetNow_eq, (untouchedBySampling_get 0 (by decide) (by decide)).samplePins, Dev.get_hset,
    Dev.get_set_ne _ _ fun key => absurd key.1 (by decide), Dev.get_set_same]

theorem Dev.get_resetNow_domain (d : Dev) (cause domain : Nat) : (d.resetNow cause domain).get F.TOP_RESET_CAUSE_DOMAIN =
    domain % 2 ^ F.TOP_RESET_CAUSE_DOMAIN.width := by
  rw [Dev.resetNow_eq, (untouchedBySampling_get 0 (by decide) (by decide)).samplePins, Dev.get_hset, Dev.get_set_same]

theorem Dev.hget_resetNow_testLatch (d : Dev) (cause domain : Nat) : (d.resetNow cause domain).hget H.testLatch =
    d.hget H.testLatch % 2 := by
  rw [Dev.resetNow_eq, (untouchedBySampling_hget 0 (by decide) (by decide)).samplePins,
    Dev.hget_hset_ne _ _ fun key => absurd key.1 (by decide), Dev.hget_set, Dev.hget_set,
    Dev.each_keeps (·.hget H.testLatch) (fun n f => n.carryField d f) fieldsKept fun _ _ => Dev.hget_set .., Dev.resetStays,
    Dev.hget_hset_ne _ _ fun key => absurd key.1 (by decide), Dev.hget_hset_ne _ _ fun key => absurd key.1 (by decide), Dev.hget_hset_same]
  rfl

end Sys2Proof.Machine
end

/-! ## Resets and Lath restarts asked for (R72–R74, R85, R119) -/

section

namespace Sys2Proof.Machine

section

variable {d : Dev}

theorem Dev.deviceReset_of (high : d.hget H.porLow ≠ 1) (idle : d.bist.work = []) (cause domain : Nat) :
    d.deviceReset cause domain = d.resetNow cause domain := by
  simp [Dev.deviceReset, Dev.fuseBusy, high, idle]

theorem Dev.lathRestart_of (idle : d.bist.work = []) (runs : d.lathRuns = true) (cause : Nat) (bursts : List Nat) :
    d.lathRestart cause bursts = d.lathStop cause bursts := by
  simp [Dev.lathRestart, Dev.fuseBusy, idle, runs]

/-- It waits for the eFuse word in progress, and an earlier request prevails. -/
theorem Dev.lathRestart_waits (busy : d.bist.work ≠ []) (runs : d.lathRuns = true) (cause : Nat) (bursts : List Nat) :
    d.lathRestart cause bursts = { d with bist := { d.bist with resetAsked := some (d.bist.resetAsked.getD (false, cause)) } } := by
  simp [Dev.lathRestart, Dev.fuseBusy, busy, runs, Dev.onBist]

theorem Dev.writeTopReset_device (d : Dev) (bursts : List Nat) : d.writeTopReset 0x5A000001 bursts = d.deviceReset 1 0 := rfl

theorem Dev.writeTopReset_lath (d : Dev) (bursts : List Nat) : d.writeTopReset 0x5A000002 bursts = d.lathRestart 4 bursts := rfl

/-- A restart completes once an image was accepted; step 8 goes on or is stuck. -/
theorem Dev.lathRestartDone_accepted {slots : List ImageIn} (restarts : d.hget H.lathCause ≠ 0) (stopped : d.lathRuns = false)
    (noPush : d.hget H.pushState ≠ 1) (good : d.get F.TOP_STATUS_BOOT_FAIL ≠ 1) (step7 : d.hget H.restartStep ≠ 8)
    (accepted : (d.fetchImage slots).2 = true) (stuck : Nat) :
    d.lathRestartDone slots stuck =
      if stuck = 8 then (d.fetchImage slots).1.hset H.restartStep 0 8 else (d.fetchImage slots).1.lathResume := by
  simp [Dev.lathRestartDone, restarts, stopped, noPush, good, step7, accepted]

end

/-- Settles O14: what the tables list after a reset, and the cases of a reset asked for by the eFuse and the Lath. -/
theorem resetsReturnToTheirValues : Obligations.ResetsReturnToTheirValues := by
  refine ⟨fun s => ?powerOn, fun m v s reach guard high idle => ?device, fun m v bursts s reach guard idle runs => ?lath,
    fun bursts s idle runs => ⟨?mismatch, ?watchdog⟩, fun bursts s busy runs => ?waits, fun q bursts s ts e acc => ?command,
    fun slots stuck s restarts stopped noPush good step7 accepted => ?done⟩
  case powerOn =>
    have beside := s.dev.powerOn_besideTables
    refine ⟨{ s with dev := s.dev.powerOn.flush }, exec_porAssert s, fun f i claim level => ?_, fun f i other => ?_, fun n => ?_,
      ?_, ?_, ?_, ?_, ?_, rfl⟩
    · rw [Dev.get_flush, Dev.get_powerOn _ claim level]
    · rw [Dev.hget_flush, Dev.hget_powerOn _ other]
    · rw [Dev.hget_flush, Dev.hget_flush, Dev.hget_powerOn_pin]
    · exact (Dev.flush_shadow _).trans (congrArg Dev.shadow beside)
    · exact (Dev.flush_ctr _).trans (congrArg Dev.ctr beside)
    · exact (Dev.flush_clock _).trans (congrArg Dev.clock beside)
    · exact (Dev.flush_tick _).trans (congrArg Dev.tick beside)
    · exact (Dev.flush_bist _).trans (congrArg Dev.bist beside)
  case device =>
    have effect : exec (.topResetDevice m v) s = s.becomes (((s.dev.transaction m).resetNow 1 0).written m 0xC v.toNat) := by
      rw [exec_topResetDevice, Dev.busWrite_of reach, guard, Dev.writeTopReset_device,
        Dev.deviceReset_of (by rwa [Dev.hget_transaction]) (by rwa [Dev.transaction_bist])]
    have beside := (s.dev.transaction m).resetNow_besideTables 1 0
    refine ⟨effect, _, effect, fun f i other => ?_, ?_, ?_, ?_, ?_, ?_⟩ <;> dsimp only
    · rw [Dev.get_flush, Dev.get_written]
      exact Dev.get_resetNow _ 1 0 i other
    · rw [Dev.get_flush, Dev.get_written, Dev.get_resetNow_cause]
      rfl
    · rw [Dev.get_flush, Dev.get_written, Dev.get_resetNow_domain]
      rfl
    · rw [Dev.flush_shadow, Dev.written_shadow]
      exact congrArg Dev.shadow beside
    · rw [Dev.hget_flush, Dev.hget_written, Dev.hget_resetNow_testLatch, Dev.hget_transaction]
    · rw [Dev.flush_clock, Dev.written_clock]
      exact (congrArg Dev.clock beside).trans (by rw [Dev.transaction_clock])
  case lath =>
    rw [exec_topResetLath, Dev.busWrite_of reach, guard, Dev.writeTopReset_lath,
      Dev.lathRestart_of (by rwa [Dev.transaction_bist]) (by rwa [Dev.lathRuns_transaction])]
  case mismatch => rw [exec_lockstepMismatch, Dev.lathRestart_of idle runs]
  case watchdog => rw [exec_lathWatchdog, Dev.lathRestart_of idle runs]
  case waits => rw [exec_lathWatchdog, Dev.lathRestart_waits busy runs]
  case command => rw [exec_reset, Dev.resetCommand, Dev.command_of acc]
  case done =>
    rw [exec_lathRestartDone, Dev.lathRestartDone_accepted restarts stopped noPush good step7 accepted]
    rfl

end Sys2Proof.Machine
end

/-! ## The start-up steps (R58–R61) -/

section

namespace Sys2Proof.Machine

/-! ### Step 1 -/

/-- Step 1, the eFuse, begins the start-up. -/
def Dev.firstStep (d : Dev) (x : BootIn) (power : Bool) : Dev × Bool := d.atStep 1 x.stuck fun d => d.bootFuses x power

/-- A start-up that step 1 stops leaves the device as that step does. -/
theorem Dev.bootRun_of_stopped {d e : Dev} {x : BootIn} {power : Bool} (stopped : d.firstStep x power = (e, false)) :
    d.bootRun x power = e := by
  rw [Dev.firstStep] at stopped
  simp only [Dev.bootRun, stopped, onward, Bool.false_eq_true, if_false]

theorem Dev.firstStep_stuck (d : Dev) {x : BootIn} (stuck : x.stuck = 1) (power : Bool) :
    d.firstStep x power = (d.set F.BOOT_STATUS_STEP 0 1, false) := if_pos stuck

/-- An uncorrectable error in the trim bank: what step 1 does with a good one, and then BOOT_FAIL. -/
theorem Dev.bootFuses_trimBad (d : Dev) {x : BootIn} (bad : x.trimOk = false) (power : Bool) :
    d.bootFuses x power = ((d.bootFuses { x with trimOk := true } power).1.bootFail 1 0x01 0, false) := if_neg (by simp [bad])

theorem Dev.firstStep_trimBad (d : Dev) {x : BootIn} (goes : x.stuck ≠ 1) (bad : x.trimOk = false) (power : Bool) :
    d.firstStep x power = (((d.set F.BOOT_STATUS_STEP 0 1).bootFuses { x with trimOk := true } power).1.bootFail 1 0x01 0, false) :=
  (if_neg goes).trans ((d.set F.BOOT_STATUS_STEP 0 1).bootFuses_trimBad bad power)

theorem Dev.porRelease_power {d : Dev} (step : d.get F.BOOT_STATUS_STEP = 0) (held : d.hget H.tripHeld = 0) (low : d.hget H.porLow = 1)
    (x : BootIn) : d.porRelease x = ((d.hset H.porLow 0 0).hset H.bootAt 0 d.clock.core).bootRun x true := by
  have starts : (d.hset H.porLow 0 0).startable = true := by
    simp (disch := decide) [Dev.startable, step, held, Dev.hget_hset_ne]
  simp [Dev.porRelease, low, starts]

/-! ### The watchdog -/

theorem Dev.bootWatchdog_of {d : Dev} {k : Nat} (watched : d.watchedStep = some k) : d.bootWatchdog = d.bootFail k 5 k := by
  rw [Dev.bootWatchdog, watched]

theorem Dev.watchedStep_verification {d : Dev} (verifies : d.get F.BOOT_PUSH_STATUS_STATE = 1) : d.watchedStep = some 7 :=
  if_pos verifies

section

variable {d : Dev} (noPush : d.get F.BOOT_PUSH_STATUS_STATE ≠ 1) (noWait : d.hget H.pushState ≠ 1)
  (good : d.get F.TOP_STATUS_BOOT_FAIL ≠ 1)

include noPush noWait good

theorem Dev.watchedStep_restart (restarts : d.hget H.lathCause ≠ 0) (stopped : d.lathRuns = false) :
    d.watchedStep = some (d.hget H.restartStep) := by
  simp [Dev.watchedStep, noPush, noWait, good, restarts, stopped]

theorem Dev.watchedStep_startUp (starts : d.hget H.lathCause = 0) (first : 1 ≤ d.get F.BOOT_STATUS_STEP)
    (last : d.get F.BOOT_STATUS_STEP ≤ 13) (untimed : d.get F.BOOT_STATUS_STEP ≠ 10) (unready : d.ready = false) :
    d.watchedStep = some (d.get F.BOOT_STATUS_STEP) := by
  have nonzero : d.get F.BOOT_STATUS_STEP ≠ 0 := Nat.one_le_iff_ne_zero.mp first
  simp [Dev.watchedStep, noPush, noWait, good, starts, nonzero, untimed, Nat.not_lt.mpr last, unready]

end

end Sys2Proof.Machine
end

/-! ## Host push (R57, R62, R67, R68) -/

section

namespace Sys2Proof.Machine

/-- A write of BOOT_PUSH stores LENGTH and LAST. -/
def Dev.pushFields (d : Dev) (w : Nat) : Dev :=
  (d.set F.BOOT_PUSH_LENGTH 0 (fieldOf F.BOOT_PUSH_LENGTH w)).set F.BOOT_PUSH_LAST 0 (fieldOf F.BOOT_PUSH_LAST w)

/-- The chunk is the next one, and its LENGTH is in bounds. -/
def Dev.chunkFits (d : Dev) (w : Nat) : Prop :=
  d.get F.BOOT_PUSH_OFFSET_OFFSET = d.hget H.pushOffset ∧ 16 ≤ fieldOf F.BOOT_PUSH_LENGTH w ∧
    fieldOf F.BOOT_PUSH_LENGTH w ≤ 262144 ∧ fieldOf F.BOOT_PUSH_LENGTH w % 16 = 0

/-- The chunk is appended to those that were taken. -/
def Dev.takeChunk (d : Dev) (w : Nat) (chunk : List Byte) : Dev :=
  let d := { d.pushFields w with staging := Memory.writeBytes 0x100000 d.staging 0xC0000 chunk }
  { d with pushed := d.pushed ++ Memory.bytes (fieldOf F.BOOT_PUSH_LENGTH w) 0xC0000 d.staging }

/-- The image that was pushed is accepted. -/
def Dev.pushAccepted (d : Dev) : Dev :=
  let d := (d.acceptImage 3 d.pushedImage).set F.BOOT_PUSH_STATUS_STATE 0 2
  ({ d with pushed := [] }.hset H.pushOffset 0 0).hset H.pushState 0 0

/-- A BOOT_FAIL ends with an accepted image. -/
def Dev.endBootFail (d : Dev) : Dev :=
  ((d.set F.TOP_STATUS_BOOT_FAIL 0 0).set F.BOOT_STATUS_FAIL_CODE 0 0).set F.BOOT_FAIL_DETAIL_DETAIL 0 0

theorem Dev.get_pushFields (d : Dev) (w : Nat) {f : Fld} (length : f.id ≠ F.BOOT_PUSH_LENGTH.id) (last : f.id ≠ F.BOOT_PUSH_LAST.id)
    (i : Nat) : (d.pushFields w).get f i = d.get f i :=
  (Dev.get_set_ne _ _ fun key => last key.1).trans (Dev.get_set_ne _ _ fun key => length key.1)

theorem Dev.hget_pushFields (d : Dev) (w : Nat) (f : Fld) (i : Nat) : (d.pushFields w).hget f i = d.hget f i :=
  (Dev.hget_set ..).trans (Dev.hget_set ..)

theorem Dev.takesPush_pushFields (d : Dev) (w : Nat) : (d.pushFields w).takesPush = d.takesPush := by
  simp (disch := decide) only [Dev.takesPush, Dev.get_pushFields, Dev.hget_pushFields]

theorem Dev.takesPush_transaction (d : Dev) (m : Nat) : (d.transaction m).takesPush = d.takesPush := by
  simp only [Dev.takesPush, Dev.get_transaction, Dev.hget_transaction]

theorem Dev.chunkFits_transaction (d : Dev) (m w : Nat) : (d.transaction m).chunkFits w ↔ d.chunkFits w := by
  simp only [Dev.chunkFits, Dev.get_transaction, Dev.hget_transaction]

section

variable {d : Dev} {w : Nat} (go : bit w 31 = true) (takes : d.takesPush = true) (chunk : List Byte) (ten : Step10In)

include go takes

theorem Dev.writeBootPush_misfit (bad : ¬d.chunkFits w) (stuck : Nat) :
    d.writeBootPush w chunk ten stuck = (d.pushFields w).pushRefused := by
  have goes : ¬(!bit w 31 || !(d.pushFields w).takesPush) = true := by simp [go, takes, Dev.takesPush_pushFields]
  refine (if_neg goes).trans (if_pos ?_)
  show (d.pushFields w).get F.BOOT_PUSH_OFFSET_OFFSET ≠ (d.pushFields w).hget H.pushOffset ∨ _
  rw [Dev.get_pushFields _ _ (by decide) (by decide), Dev.hget_pushFields]
  rw [Dev.chunkFits] at bad
  omega

section

variable (fits : d.chunkFits w)

include fits

/-- What a chunk that fits leads to. -/
theorem Dev.writeBootPush_fits (stuck : Nat) : d.writeBootPush w chunk ten stuck =
    if !bit w 30 then
      ((d.takeChunk w chunk).hset H.pushOffset 0 (d.hget H.pushOffset + fieldOf F.BOOT_PUSH_LENGTH w)).set F.BOOT_PUSH_STATUS_STATE 0 0
    else if stuck = 7 then (d.takeChunk w chunk).set F.BOOT_PUSH_STATUS_STATE 0 1
    else match (d.takeChunk w chunk).imageFault (d.takeChunk w chunk).pushedImage with
      | some _ => (d.takeChunk w chunk).pushRefused
      | none => (d.takeChunk w chunk).pushAccepted.afterImage ten stuck := by
  have goes : ¬(!bit w 31 || !(d.pushFields w).takesPush) = true := by simp [go, takes, Dev.takesPush_pushFields]
  obtain ⟨offset, least, most, aligned⟩ := fits
  refine (if_neg goes).trans ((if_neg ?_).trans ?_)
  · show ¬((d.pushFields w).get F.BOOT_PUSH_OFFSET_OFFSET ≠ (d.pushFields w).hget H.pushOffset ∨ _)
    rw [Dev.get_pushFields _ _ (by decide) (by decide), Dev.hget_pushFields]
    omega
  · rfl

theorem Dev.writeBootPush_chunk (more : bit w 30 = false) (stuck : Nat) : d.writeBootPush w chunk ten stuck =
    ((d.takeChunk w chunk).hset H.pushOffset 0 (d.hget H.pushOffset + fieldOf F.BOOT_PUSH_LENGTH w)).set F.BOOT_PUSH_STATUS_STATE 0 0 := by
  rw [Dev.writeBootPush_fits go takes chunk ten fits, more]
  rfl

variable (last : bit w 30 = true)

include last

theorem Dev.writeBootPush_unverified :
    d.writeBootPush w chunk ten 7 = (d.takeChunk w chunk).set F.BOOT_PUSH_STATUS_STATE 0 1 := by
  rw [Dev.writeBootPush_fits go takes chunk ten fits, last]
  rfl

variable {stuck : Nat} (verifies : stuck ≠ 7)

include verifies

theorem Dev.writeBootPush_refused {c : Nat}
    (fault : (d.takeChunk w chunk).imageFault (d.takeChunk w chunk).pushedImage = some c) :
    d.writeBootPush w chunk ten stuck = (d.takeChunk w chunk).pushRefused := by
  rw [Dev.writeBootPush_fits go takes chunk ten fits, last, fault]
  exact if_neg verifies

theorem Dev.writeBootPush_accepted (sound : (d.takeChunk w chunk).imageFault (d.takeChunk w chunk).pushedImage = none) :
    d.writeBootPush w chunk ten stuck = (d.takeChunk w chunk).pushAccepted.afterImage ten stuck := by
  rw [Dev.writeBootPush_fits go takes chunk ten fits, last, sound]
  exact if_neg verifies

end

end

/-! ### Where an accepted image leads -/

theorem Dev.get_eq_of_reg {d e : Dev} (h : d.reg = e.reg) (f : Fld) (i : Nat) : d.get f i = e.get f i := by
  rw [Dev.get, h]
  rfl

theorem Dev.get_takeChunk (d : Dev) (w : Nat) (chunk : List Byte) (f : Fld) (i : Nat) :
    (d.takeChunk w chunk).get f i = (d.pushFields w).get f i := Dev.get_eq_of_reg rfl f i

theorem Dev.pushAccepted_reg (d : Dev) : d.pushAccepted.reg =
    (((d.set F.BOOT_STATUS_IMAGE_SRC 0 3).set F.BOOT_IMAGE_SVN_SVN 0 (imageField d.pushedImage 0x14 4)).set
      F.BOOT_PUSH_STATUS_STATE 0 2).reg := rfl

/-- An accepted push leaves BOOT_FAIL to the steps that follow it. -/
theorem Dev.get_pushAccepted_bootFail (d : Dev) (w : Nat) (chunk : List Byte) :
    (d.takeChunk w chunk).pushAccepted.get F.TOP_STATUS_BOOT_FAIL = d.get F.TOP_STATUS_BOOT_FAIL := by
  rw [Dev.get_eq_of_reg (d.takeChunk w chunk).pushAccepted_reg]
  simp (disch := decide) only [Dev.get_set_ne, Dev.get_takeChunk, Dev.get_pushFields]

theorem Dev.hget_pushAccepted_lathCause (d : Dev) (w : Nat) (chunk : List Byte) :
    (d.takeChunk w chunk).pushAccepted.hget H.lathCause = d.hget H.lathCause := by
  show ((d.hset H.pushOffset 0 0).hset H.pushState 0 0).hget _ = _
  simp (disch := decide) only [Dev.hget_hset_ne]

section

variable {d : Dev} (ten : Step10In)

theorem Dev.afterImage_startUp (good : d.get F.TOP_STATUS_BOOT_FAIL ≠ 1) (starts : d.hget H.lathCause = 0) (stuck : Nat) :
    d.afterImage ten stuck = d.bootFirmware ten stuck := (if_neg good).trans (if_pos starts)

theorem Dev.afterImage_restart (good : d.get F.TOP_STATUS_BOOT_FAIL ≠ 1) (restarts : d.hget H.lathCause ≠ 0) {stuck : Nat}
    (goes : stuck ≠ 8) : d.afterImage ten stuck = d.lathResume := (if_neg good).trans ((if_neg restarts).trans (if_neg goes))

theorem Dev.afterImage_bootFail (fails : d.get F.TOP_STATUS_BOOT_FAIL = 1) (stuck : Nat) :
    d.afterImage ten stuck = (d.endBootFail.hset H.lathCause 0 0).bootFirmware ten stuck := if_pos fails

end

/-- A write of BOOT_PUSH that reaches the register. -/
theorem exec_bootPush_of {m : Fin 8} {s : State} (h : s.dev.Reaches m 0x100010) (v : Word) (chunk : List Byte) (x : BootRest) :
    exec (.bootPush m v chunk x) s =
      s.becomes (((s.dev.transaction m).writeBootPush v.toNat chunk x.ten x.stuck).written m 0x100010 v.toNat) :=
  (exec_bootPush m v chunk x s).trans (congrArg s.becomes (Dev.busWrite_of h v.toNat _))

end Sys2Proof.Machine
end

/-! ## The first tick, the first role and IDENTIFY (R62, R69–R71) -/

section

namespace Sys2Proof.Machine

section

variable {d : Dev}

theorem Dev.bootTickStart_of (step : d.get F.BOOT_STATUS_STEP = 10) (runs : d.lathRuns = true) :
    let e := if d.get F.REF_STATUS_LOOP = 2 then d else d.passToCore (d.hget H.step10At + 10 ^ 10)
    let e := ((e.set F.BOOT_STATUS_STEP 0 11).hset H.xoDuty 0 0x8000).hset H.xoSince 0 e.clock.core
    d.bootTickStart = if e.running then e.leaveStep11 else e.tickStart := if_neg (by simp [step, runs])

theorem Dev.trainingEnd_of (step : d.get F.BOOT_STATUS_STEP = 12) (runs : d.lathRuns = true) :
    d.trainingEnd =
      let e := d.set F.BOOT_STATUS_STEP 0 13
      if e.get F.CSW_ROLE_CLAIM_IN = 1 then (e.enterRole e.claimedRole 0).becomeReady
      else if e.hget H.pinSeat = 0 then (e.enterRole (if e.get F.CSW_ROLE_VETO = 1 then 3 else 0) 0).becomeReady
      else (e.hset H.seatWait 0 1).hset H.seatTicks 0 0 := if_neg (by simp [step, runs])

theorem Dev.seatWaitEnd_of (waits : d.hget H.seatWait ≠ 0) (waited : 3 ≤ d.hget H.seatTicks) (runs : d.lathRuns = true) :
    d.seatWaitEnd = ((d.hset H.seatWait 0 0).enterRole (if d.get F.CSW_ROLE_CLAIM_IN = 1 then d.claimedRole
      else if d.get F.CSW_ROLE_VETO = 1 then 3 else 0) 0).becomeReady := if_neg (by simp [waits, Nat.not_lt.mpr waited, runs])

/-- The first role hangs on the Causeway, not on the start-up step. -/
theorem Dev.claimedRole_setStep (d : Dev) (k : Nat) : (d.set F.BOOT_STATUS_STEP 0 k).claimedRole = d.claimedRole := by
  rw [Dev.claimedRole, Dev.causewayUp, Dev.get_set_ne _ _ (by decide)]
  rfl

theorem Dev.identify_operating (good : d.get F.TOP_STATUS_BOOT_FAIL = 0) (q : Req) :
    d.identify q = d.command q identifySpec fun d _ => d.reply q 0x0101 St.ok [d.identity] := if_neg (by simp [good])

/-- In BOOT_FAIL the boot ROM takes a request of P4 from the port, when none waits in a queue, and answers it. -/
theorem Dev.identify_bootFail {q : Req} (fails : d.get F.TOP_STATUS_BOOT_FAIL = 1) (port : q.port = 4) (up : d.portUp 4 = true)
    (unqueued : (d.cmd.queue.find? fun p => p.is q 0x0101) = none) :
    d.identify q = ((d.bump C.CMD_RECEIVED 4).acceptPacket 4).turnAway q 0x0101 St.ok [d.identity] := by
  have rom : d.get F.TOP_STATUS_BOOT_FAIL = 1 ∧ (q.port = 0 ∨ q.port = 4) := ⟨fails, .inr port⟩
  have number : q.port.val = 4 := congrArg Fin.val port
  simp only [Dev.identify, if_pos rom, unqueued, number, up, if_true]

end

/-- Settles O15: each step, watchdog, chunk and role by the conditions that its row has. -/
theorem startUpActs : Obligations.StartUpActs := by
  refine ⟨fun x s step held low => ?release, fun x power d stuck => ?stuck, fun x power d goes bad => ?trim, fun s k watched => ?watchdog,
    fun d noPush noWait good => ⟨Dev.watchedStep_restart noPush noWait good, Dev.watchedStep_startUp noPush noWait good⟩,
    fun d => Dev.watchedStep_verification, fun m v chunk ten stuck s reach go takes => ?push, fun s step runs => ?tick,
    fun s step runs => ?training, fun s waits waited runs => ?seat, fun q s ts e acc good => ?identify,
    fun q s fails port up unqueued => ?rom⟩
  case release =>
    have starts : s.dev.startable = true := by simp [Dev.startable, step, held]
    rw [exec_porRelease, Dev.porRelease_power step held low, if_pos starts]
  case stuck => exact Dev.bootRun_of_stopped (d.firstStep_stuck stuck power)
  case trim => exact Dev.bootRun_of_stopped (d.firstStep_trimBad goes bad power)
  case watchdog =>
    rw [exec_bootWatchdog, Dev.bootWatchdog_of watched]
    rfl
  case push =>
    have takes : (s.dev.transaction m).takesPush = true := by rwa [Dev.takesPush_transaction]
    have fits : s.dev.chunkFits v.toNat → (s.dev.transaction m).chunkFits v.toNat := (s.dev.chunkFits_transaction m _).mpr
    intro len d good t image refused
    have failKept := ((s.dev.transaction m).get_pushAccepted_bootFail v.toNat chunk).trans (Dev.get_transaction ..)
    have causeKept := ((s.dev.transaction m).hget_pushAccepted_lathCause v.toNat chunk).trans (Dev.hget_transaction ..)
    refine ⟨fun fit more => ?_, fun bad => ?_, fun fit last unverified => ?_, fun fit last verifies fault => ?_,
      fun fit last verifies sound => ⟨fun operates starts => ?_, fun operates restarts goes => ?_, fun fails => ?_⟩⟩ <;>
      rw [exec_bootPush_of reach]
    · rw [Dev.writeBootPush_chunk go takes chunk ten (fits fit) more, Dev.hget_transaction]
      rfl
    · rw [Dev.writeBootPush_misfit go takes chunk ten fun fit => bad ((s.dev.chunkFits_transaction m _).mp fit)]
      rfl
    · rw [unverified, Dev.writeBootPush_unverified go takes chunk ten (fits fit) last]
      rfl
    · obtain ⟨c, fault⟩ := fault
      rw [Dev.writeBootPush_refused go takes chunk ten (fits fit) last verifies fault]
      rfl
    · rw [Dev.writeBootPush_accepted go takes chunk ten (fits fit) last verifies sound,
        Dev.afterImage_startUp ten (by rwa [failKept]) (by rwa [causeKept])]
      rfl
    · rw [Dev.writeBootPush_accepted go takes chunk ten (fits fit) last verifies sound,
        Dev.afterImage_restart ten (by rwa [failKept]) (by rwa [causeKept]) goes]
      rfl
    · rw [Dev.writeBootPush_accepted go takes chunk ten (fits fit) last verifies sound, Dev.afterImage_bootFail ten (by rwa [failKept])]
      rfl
  case tick => rw [exec_bootTickStart, Dev.bootTickStart_of step runs]
  case training =>
    rw [exec_causewayTrainingEnd, Dev.trainingEnd_of step runs]
    simp (disch := decide) only [Dev.claimedRole_setStep, Dev.get_set_ne, Dev.hget_set]
    rfl
  case seat => rw [exec_seatBClaimWait, Dev.seatWaitEnd_of waits waited runs, Dev.claimedRole]
  case identify =>
    rw [exec_identify, Dev.identify_operating good, Dev.command_of acc, Dev.identity]
  case rom => rw [exec_identify, Dev.identify_bootFail fails port up unqueued]

end Sys2Proof.Machine
end

/-! ## Rolling slices and soft repair (R486, R489, R490, R495–R499) -/

section

namespace Sys2Proof.Machine

section

variable {d : Dev} {q : Nat}

/-- A slice can start on the unit under test, or on a unit that can be taken into test. -/
theorem Dev.sliceStart_of {u : Nat} (ready : d.ready = true) (on : d.get F.BIST_ROLL_CFG_EN ≠ 0) (idle : d.poolState q = 0)
    (listed : u < poolUnits q) (time : d.sliceTime = true) (waited : kept (d.poolTest q).wait u 0 ≤ d.tick.frame)
    (held : kept (d.poolTest q).hold u 0 ≤ d.clock.core)
    (unit : d.poolUnit q = u % 512 ∨ (d.poolUnit q = 0x1FF ∧ d.testable q u = true)) :
    d.sliceStart q u = ((((d.markTest q u true).set F.BIST_POOL_UNIT q u).set F.BIST_POOL_SLICE q
      (kept (d.poolTest q).next u 0)).set F.BIST_POOL_STATE q 1).bump C.BIST_SLICES_STARTED := by
  have may : ¬(!d.ready || d.get F.BIST_ROLL_CFG_EN == 0 || d.poolState q != 0 || u ≥ poolUnits q || !d.sliceTime) = true := by
    simp [ready, on, idle, listed, time]
  have due : ¬(kept (d.poolTest q).wait u 0 > d.tick.frame || kept (d.poolTest q).hold u 0 > d.clock.core) = true := by
    simp [waited, held]
  exact (if_neg may).trans ((if_neg due).trans (if_pos unit))

/-- A slice passes: counted, and the pool is between slices. -/
def Dev.slicePasses (d : Dev) (q : Nat) : Dev := (d.bump C.BIST_SLICES_PASS).set F.BIST_POOL_STATE q 0

/-- A slice fails: counted and raised. -/
def Dev.sliceFails (d : Dev) (q : Nat) : Dev :=
  (d.bump C.BIST_SLICES_FAIL).raise 865 [q, d.poolUnit q, d.get F.BIST_POOL_SLICE q]

section

variable (runs : d.poolState q = 1)

include runs

theorem Dev.sliceEnd_next (more : d.get F.BIST_POOL_SLICE q + 1 < poolSlices q) : d.sliceEnd q .pass =
    (d.slicePasses q).onPool q fun p =>
      { p with failed := false, next := Machine.keep p.next (d.poolUnit q) (d.get F.BIST_POOL_SLICE q + 1) } := by
  simp only [Dev.sliceEnd, runs, ne_eq, not_true_eq_false, if_false, if_pos more]
  rfl

theorem Dev.sliceEnd_last (last : ¬d.get F.BIST_POOL_SLICE q + 1 < poolSlices q) : d.sliceEnd q .pass =
    (((d.slicePasses q).onPool q fun p => { p with failed := false, next := p.next.filter fun e => e.1 != d.poolUnit q }).endTest
      q).serveWaiting := by
  simp only [Dev.sliceEnd, runs, ne_eq, not_true_eq_false, if_false, if_neg last]
  rfl

theorem Dev.sliceEnd_fail : d.sliceEnd q .fail =
    if ((d.sliceFails q).poolTest q).failed then (d.sliceFails q).retireUnit q (d.poolUnit q)
    else ((d.sliceFails q).onPool q fun p => { p with failed := true }).bump C.BIST_SLICES_STARTED :=
  if_neg fun idle => idle runs

theorem Dev.sliceEnd_repair (mere : Bool) (array row : Nat) : d.sliceEnd q (.repair mere array row) = d.softRepair mere array row :=
  if_neg fun idle => idle runs

end

theorem Dev.unitRestore_of (aborted : d.poolState q = 2) : d.unitRestore q = (d.endTest q).serveWaiting := if_pos aborted

end

end Sys2Proof.Machine
end

/-! ## eFuse programming (R74, R492–R494) -/

section

namespace Sys2Proof.Machine

theorem Dev.nonceExpiry_of {d : Dev} {n : List Byte} {t : Nat} (issued : d.bist.nonce = some (n, t)) :
    d.nonceExpiry = (d.passToCore (t + 60 * 10 ^ 9)).onBist fun b => { b with nonce := none } := by
  rw [Dev.nonceExpiry, issued]

/-- The nonce is used up. -/
def Dev.dropNonce (d : Dev) : Dev := d.onBist fun b => { b with nonce := none }

/-- The record's words are queued: PENDING, and at once OK where there is no word. -/
def Dev.queueWords (d : Dev) (q : Req) (r : List Byte) : Dev :=
  let kind := beVal (slice 32 1 r)
  let w : FuseWork := ⟨kind, q.port, q.tag, q.src, d.fuseWords kind (beVal (slice 36 4 r)), 0⟩
  ((d.respond q.port q.src q.tag 0x0805 St.pending [] false).onBist fun b => { b with work := b.work ++ [w] }).fuseDone

/-- The record of an EFUSE_PROGRAM. -/
def fuseRecord (ts : List Tlv) : List Byte := (tlv? ts 0x0101).getD []

/-- The record is signed under the key that it carries. -/
def fuseSigned (ts : List Tlv) : Bool := ecdsaOk (slice 40 96 (fuseRecord ts)) ((tlv? ts 0x0102).getD []) (fuseRecord ts)

section

variable {d e : Dev} {q : Req} {ts : List Tlv} (acc : d.Accepts q efuseProgramSpec ts e)

include acc

theorem Dev.efuseProgram_of : d.efuseProgram q =
    let no := fun (d : Dev) (x : Nat × Nat) =>
      d.reply q 0x0805 x.1 (if x.2 = 0 then [] else [statusDetail (tlvIndex ts 0x0101) 0xFF x.2])
    match e.recordFault (fuseRecord ts) with
    | some x => no e x
    | none =>
      if !fuseSigned ts then no e.dropNonce (St.authFail, 0)
      else if beVal (slice 32 1 (fuseRecord ts)) = 0 ∧ !e.fuseSpace then no e.dropNonce (St.exhausted, 0x85)
      else e.dropNonce.queueWords q (fuseRecord ts) := by
  rw [Dev.efuseProgram, Dev.command_of acc]
  rfl

theorem Dev.efuseProgram_fault {st reason : Nat} (fault : e.recordFault (fuseRecord ts) = some (st, reason)) :
    d.efuseProgram q = e.reply q 0x0805 st (if reason = 0 then [] else [statusDetail (tlvIndex ts 0x0101) 0xFF reason]) := by
  rw [Dev.efuseProgram_of acc, fault]

variable (sound : e.recordFault (fuseRecord ts) = none)

include sound

theorem Dev.efuseProgram_unsigned (unsigned : fuseSigned ts = false) :
    d.efuseProgram q = e.dropNonce.reply q 0x0805 St.authFail := by
  rw [Dev.efuseProgram_of acc, sound, unsigned]
  rfl

variable (signed : fuseSigned ts = true)

include signed

theorem Dev.efuseProgram_exhausted (repairs : beVal (slice 32 1 (fuseRecord ts)) = 0) (full : e.fuseSpace = false) :
    d.efuseProgram q = e.dropNonce.reply q 0x0805 St.exhausted [statusDetail (tlvIndex ts 0x0101) 0xFF 0x85] := by
  have spaceless : beVal (slice 32 1 (fuseRecord ts)) = 0 ∧ (!e.fuseSpace) = true := ⟨repairs, by rw [full]; rfl⟩
  rw [Dev.efuseProgram_of acc, sound, signed]
  exact if_pos spaceless

theorem Dev.efuseProgram_queued (room : beVal (slice 32 1 (fuseRecord ts)) ≠ 0 ∨ e.fuseSpace = true) :
    d.efuseProgram q = e.dropNonce.queueWords q (fuseRecord ts) := by
  have fits : ¬(beVal (slice 32 1 (fuseRecord ts)) = 0 ∧ (!e.fuseSpace) = true) := by
    rintro ⟨repairs, full⟩
    rcases room with other | space
    · exact other repairs
    · simp [space] at full
  rw [Dev.efuseProgram_of acc, sound, signed]
  exact if_neg fits

end

/-! ### A word -/

section

variable {d : Dev} {w : FuseWork} {ws : List FuseWork} {x : Nat × Nat × Nat} {rest : List (Nat × Nat × Nat)}
  (front : d.bist.work = w :: ws) (word : w.words = x :: rest)

include front word

/-- A word that reads back is programmed, and its request goes on to the next one or ends. -/
theorem Dev.fuseWord_good : d.fuseWord true =
    ((((d.onBist fun b => { b with efuse := b.efuse.program x }).burned x).setWork
      (some { w with words := rest, done := w.done + 1 })).fuseDone).yieldToReset := by
  simp only [Dev.fuseWord, front, word, if_true]

/-- A word that does not ends its request with INTERNAL_FAULT. -/
theorem Dev.fuseWord_bad : d.fuseWord false =
    (((d.setWork none).raise 870 [x.1, d.bist.efuse.wordOf x]).respond w.port w.src w.tag 0x0805 St.internalFault []).yieldToReset := by
  simp only [Dev.fuseWord, front, word, Bool.false_eq_true, if_false]

end

/-- Settles O57: each row by the state of its pool or of its request, and EFUSE_PROGRAM by the checks that it passes. -/
theorem selfTestActs : Obligations.SelfTestActs := by
  refine ⟨fun q u s ready on idle listed time waited held unit => ?start, fun q s runs => ?pass, fun q s runs => ?fail,
    fun q array row s runs => ?repair, fun q s aborted => ?restore, fun q s ts e acc => ?status, fun q s ts e acc => ?roll,
    fun q s ts e acc => ?repairs, fun q nonce s ts e acc => ?nonce, fun n t s issued => ?expiry, fun q s ts e acc => ?program,
    fun w ws x rest s front word => ?word⟩
  case start => rw [exec_sliceStart, Dev.sliceStart_of ready on idle listed time waited held unit]
  case pass =>
    refine ⟨fun more => ?_, fun last => ?_⟩ <;> rw [exec_sliceEnd]
    · rw [Dev.sliceEnd_next runs more]
      rfl
    · rw [Dev.sliceEnd_last runs last]
      rfl
  case fail =>
    rw [exec_sliceEnd, Dev.sliceEnd_fail runs]
    rfl
  case repair =>
    rw [exec_sliceEnd, Dev.sliceEnd_repair runs]
    rfl
  case restore => rw [exec_unitRestore, Dev.unitRestore_of aborted]
  case status => rw [exec_bistStatusGet, Dev.bistStatusGet, Dev.command_of acc]
  case roll =>
    rw [exec_rollConfig, Dev.rollConfig, Dev.command_of acc]
    rfl
  case repairs => rw [exec_repairStatusGet, Dev.repairStatusGet, Dev.command_of acc]
  case nonce => rw [exec_efuseNonceGet, Dev.efuseNonceGet, Dev.command_of acc]
  case expiry => rw [exec_nonceExpiry, Dev.nonceExpiry_of issued]
  case program =>
    intro r signed kind d
    refine ⟨fun st reason fault => ?_, fun sound unsigned => ?_, fun sound isSigned repairs full => ?_,
      fun sound isSigned room => ?_⟩ <;> rw [exec_efuseProgram]
    · rw [Dev.efuseProgram_fault acc fault]
    · rw [Dev.efuseProgram_unsigned acc sound (Bool.eq_false_iff.mpr unsigned)]
      rfl
    · rw [Dev.efuseProgram_exhausted acc sound isSigned repairs full]
      rfl
    · rw [Dev.efuseProgram_queued acc sound isSigned room]
      rfl
  case word =>
    refine ⟨?_, ?_⟩ <;> rw [exec_efuseWordWrite]
    · rw [Dev.fuseWord_good front word]
    · rw [Dev.fuseWord_bad front word]

end Sys2Proof.Machine
end

/-! ## Arbitration (R82) -/

section

namespace Sys2Proof.Machine

/-! ### What waiting for a target leaves -/

@[simp] theorem Dev.granted_reg (d : Dev) (k m : Nat) (ws : List (Nat × Nat)) : (d.granted k m ws).reg = d.reg := by
  unfold Dev.granted
  dsimp only
  split
  · rfl
  · split <;> rfl

@[simp] theorem Dev.grantUntil_reg (d : Dev) (k m n : Nat) (ws : List (Nat × Nat)) : (d.grantUntil k m n ws).reg = d.reg := by
  induction n generalizing d ws with
  | zero => rfl
  | succ n ih =>
    unfold Dev.grantUntil
    dsimp only
    split
    · exact Dev.granted_reg ..
    · rw [ih, Dev.pass_reg, Dev.granted_reg]

/-- Waiting for a target changes no register. -/
@[simp] theorem Dev.get_arbitrate (d : Dev) (m k : Nat) (x : Access) (f : Fld) (i : Nat) : (d.arbitrate m k x).get f i = d.get f i := by
  refine Dev.get_eq_of_reg ?_ f i
  unfold Dev.arbitrate
  dsimp only
  split
  · rfl
  · exact Dev.grantUntil_reg ..

/-! ### Which master is next -/

/-- Master `m` waits for the target. -/
def waitsFor (ws : List (Nat × Nat)) (m : Nat) : Bool := ws.any fun w => w.1 == m

/-- Master `m` has waited for the target until it is starved. -/
def Dev.starves (d : Dev) (ws : List (Nat × Nat)) (m : Nat) : Bool := ws.any fun w => w.1 == m && w.2 ≥ d.get F.BUS_ARB_STARVE

section

variable {d : Dev} {k m : Nat} {ws : List (Nat × Nat)}

theorem Dev.grantNext_starved (master : m < 8) (starved : d.starves ws m = true) (lowest : ∀ j, j < m → d.starves ws j = false) :
    d.grantNext k ws = m := by
  have first : (List.range 8).find? (d.starves ws) = some m :=
    List.find?_range_eq_some.mpr ⟨starved, List.mem_range.mpr master, fun j hj => by rw [lowest j hj]; rfl⟩
  unfold Dev.grantNext
  simp only [← Dev.starves.eq_def, first]

/-- With nobody starved the turn decides. -/
theorem Dev.grantNext_unstarved (fed : ∀ j, j < 8 → d.starves ws j = false) : d.grantNext k ws =
    if waitsFor ws (d.hget H.busTurn k) && d.hget H.busUsed k < d.get F.BUS_WEIGHT_WEIGHT (d.hget H.busTurn k) then d.hget H.busTurn k
    else (((List.range 8).map fun i => (d.hget H.busTurn k + 1 + i) % 8).find? (waitsFor ws)).getD (d.hget H.busTurn k) := by
  have nobody : (List.range 8).find? (d.starves ws) = none :=
    List.find?_range_eq_none.mpr fun j hj => by rw [fed j hj]; rfl
  unfold Dev.grantNext
  simp only [← Dev.starves.eq_def, nobody]
  rfl

theorem Dev.grantNext_turn (fed : ∀ j, j < 8 → d.starves ws j = false) (asks : waitsFor ws (d.hget H.busTurn k) = true)
    (left : d.hget H.busUsed k < d.get F.BUS_WEIGHT_WEIGHT (d.hget H.busTurn k)) : d.grantNext k ws = d.hget H.busTurn k := by
  rw [Dev.grantNext_unstarved fed, asks, decide_eq_true left]
  rfl

/-- A turn that is over goes to the next master in ascending order that waits. -/
theorem Dev.grantNext_next {i : Nat} (fed : ∀ j, j < 8 → d.starves ws j = false)
    (spent : waitsFor ws (d.hget H.busTurn k) = false ∨ d.get F.BUS_WEIGHT_WEIGHT (d.hget H.busTurn k) ≤ d.hget H.busUsed k)
    (near : i < 8) (asks : waitsFor ws ((d.hget H.busTurn k + 1 + i) % 8) = true)
    (nearest : ∀ j, j < i → waitsFor ws ((d.hget H.busTurn k + 1 + j) % 8) = false) :
    d.grantNext k ws = (d.hget H.busTurn k + 1 + i) % 8 := by
  have first : (List.range 8).find? (waitsFor ws ∘ fun i => (d.hget H.busTurn k + 1 + i) % 8) = some i :=
    List.find?_range_eq_some.mpr ⟨asks, List.mem_range.mpr near, fun j hj => by rw [Function.comp, nearest j hj]; rfl⟩
  rw [Dev.grantNext_unstarved fed, if_neg, List.find?_map, first]
  · rfl
  · rcases spent with silent | used
    · simp [silent]
    · simp [Nat.not_lt.mpr used]

end

end Sys2Proof.Machine
end

/-! ## The bus matrix (R77–R81, R84, R85, R133) -/

section

namespace Sys2Proof.Machine

/-! ### The sump -/

/-- The sump captures an access and raises it (R80). -/
def Dev.capture (d : Dev) (m : Nat) (x : Access) : Dev :=
  ((((((d.set F.BUS_SUMP_ADDR_LO_ADDR 0 x.addr).set F.BUS_SUMP_ADDR_HI_ADDR 0 (x.addr / 2 ^ 32)).set
    F.BUS_SUMP_INFO_VALID 0 1).set F.BUS_SUMP_INFO_WRITE 0 (ofBool x.write)).set
    F.BUS_SUMP_INFO_BEATS 0 (x.beats - 1)).set F.BUS_SUMP_INFO_MASTER 0 m).raise 896 (m :: words2 x.addr)

section

variable {d : Dev} {m : Nat} {x : Access}

theorem Dev.sumpAnswer_armed (armed : d.get F.BUS_SUMP_INFO_VALID ≠ 1) : d.sumpAnswer m x.addr x.size x.beats x.write =
    (d.capture m x).answerError m x.write .decode (x.beats * max 1 (x.size / 4)) none := by
  have first : ¬(d.get F.BUS_SUMP_INFO_VALID == 1) = true := by simpa using armed
  rw [Dev.sumpAnswer, Dev.sump, if_neg first, if_neg armed, Dev.capture]

theorem Dev.sumpAnswer_holding (holding : d.get F.BUS_SUMP_INFO_VALID = 1) : d.sumpAnswer m x.addr x.size x.beats x.write =
    (d.set F.BUS_SUMP_INFO_OVERFLOW 0 (min 32767 (d.get F.BUS_SUMP_INFO_OVERFLOW + 1))).answerError m x.write .decode
      (x.beats * max 1 (x.size / 4)) (some (896, m :: words2 x.addr)) := by
  rw [Dev.sumpAnswer, Dev.sump, if_pos (beq_iff_eq.mpr holding), if_pos holding]

theorem Dev.sumpAccess_good (outside : d.targetOf x.addr = none) (good : goodBurst x = true) :
    d.sumpAccess m x = ((d.arbitrate m 9 x).transaction m).sumpAnswer m x.addr x.size x.beats x.write := by
  simp only [Dev.sumpAccess, outside, good, if_true]

theorem Dev.sumpAccess_bad (outside : d.targetOf x.addr = none) (bad : goodBurst x = false) :
    d.sumpAccess m x = ((d.arbitrate m 9 x).raise 897 [m, 9]).busError m x .target none := by
  simp only [Dev.sumpAccess, outside, bad, Bool.false_eq_true, if_false]

end

theorem Dev.clearSump_of (d : Dev) {w : Nat} (asked : bit w 31 = true) :
    d.clearSump w = (d.set F.BUS_SUMP_INFO_VALID 0 0).set F.BUS_SUMP_INFO_OVERFLOW 0 0 := if_pos asked

theorem Dev.writeBusCtrl_of (d : Dev) {w : Nat} (asked : bit w 0 = true) : d.writeBusCtrl w = d.set F.BUS_CTRL_REMAP 0 1 := if_pos asked

/-! ### What a master makes of an error (R81) -/

theorem Dev.answerError_hostWrite (d : Dev) (e : BusErr) (n : Nat) (owed : Option (Nat × List Nat)) :
    d.answerError 1 true e n owed = d.aerReport := rfl

theorem Dev.answerError_hostRead (d : Dev) (e : BusErr) (n : Nat) (owed : Option (Nat × List Nat)) :
    d.answerError 1 false e n owed = d.answer 1 .completerAbort := rfl

/-- Masters 0, 2 and 3 get the error and raise nothing. -/
theorem Dev.answerError_plain {m : Nat} (plain : m = 0 ∨ m = 2 ∨ m = 3) (d : Dev) (w : Bool) (n : Nat) (owed : Option (Nat × List Nat)) :
    d.answerError m w .decode n owed = d.answer m (.decodeErr (if w then [] else List.replicate n 0xDEC0DE00)) ∧
      d.answerError m w .target n owed = d.answer m .targetErr := by
  rcases plain with rfl | rfl | rfl <;> exact ⟨rfl, rfl⟩

/-! ### An access at its target (R77–R79, R84) -/

section

variable {d : Dev} {m k : Nat} {x : Access}

theorem Dev.refusedAccess_hung (hung : d.hung k = true) :
    d.refusedAccess m k x = some (d.busError m x .target (some (897, [m, k]))) := if_pos hung

theorem Dev.refusedAccess_misfit (answers : d.hung k = false) (misfit : d.targetTakes k x = false) :
    d.refusedAccess m k x = some ((d.raise 897 [m, k]).busError m x .target none) := by
  simp [Dev.refusedAccess, answers, misfit]

theorem Dev.refusedAccess_none (answers : d.hung k = false) (takes : d.targetTakes k x = true)
    (untested : k = 4 → d.meetsTest x = false) : d.refusedAccess m k x = none := by
  have free : ¬(k = 4 ∧ d.meetsTest x = true) := fun ⟨csr, tested⟩ => by simp [untested csr] at tested
  simp [Dev.refusedAccess, answers, takes, free]

end

theorem State.access_of {s : State} {m : Nat} (debug : m = 7 → s.dev.debugOn = true) (f : State → State) : s.access m f = f s := by
  have unbarred : ¬(m = 7 ∧ (!s.dev.debugOn) = true) := fun ⟨seven, off⟩ => by simp [debug seven] at off
  exact if_neg unbarred

/-- The state in which target `k` meets the access: the master has waited for it (R82), and the bursts that had to end have ended (R76,
R83). -/
def State.atTarget (s : State) (m k : Nat) (x : Access) : State := ({ s with dev := s.dev.arbitrate m k x }).endEarlier m k

/-- TARGET_ERROR speaks of the access: one that host memory or the sump takes has a command of its own. -/
def Dev.OwnAccess (d : Dev) (k : Nat) (x : Access) : Prop :=
  (k = 8 → d.hung 8 = true ∨ d.targetTakes 8 x = false) ∧
  (k = 4 → d.hung 4 = true ∨ d.targetTakes 4 x = false ∨ d.decodes (x.addr - 0x40000000) = true)

section

variable {s : State} {m : Fin 8} {k : Nat} {x : Access}

theorem State.busAccess_of (decoded : s.dev.targetOf x.addr = some k) (own : s.dev.OwnAccess k x) : s.busAccess m x =
    ((s.atTarget m k x).dev.refusedAccess m k x).elim
      (if k = 4 then { s.atTarget m k x with dev := (s.atTarget m k x).dev.csrAccess m x } else (s.atTarget m k x).memoryAccess m k x)
      fun d => { s.atTarget m k x with dev := d } := by
  obtain ⟨host, csr⟩ := own
  have inside : ¬(k = 8 ∧ (!s.dev.hung 8) = true ∧ s.dev.targetTakes 8 x = true) := by
    rintro ⟨eight, answers, takes⟩
    rcases host eight with hung | misfit
    · simp [hung] at answers
    · simp [misfit] at takes
  have defined : ¬(k = 4 ∧ (!s.dev.hung 4) = true ∧ s.dev.targetTakes 4 x = true ∧ (!s.dev.decodes (x.addr - 0x40000000)) = true) := by
    rintro ⟨four, answers, takes, undefined⟩
    rcases csr four with hung | misfit | decodes
    · simp [hung] at answers
    · simp [misfit] at takes
    · simp [decodes] at undefined
  simp only [State.busAccess, decoded, if_neg inside, if_neg defined, ← State.atTarget.eq_def]
  cases (s.atTarget m k x).dev.refusedAccess m k x <;> rfl

variable (debug : m = 7 → s.dev.debugOn = true) (decoded : s.dev.targetOf x.addr = some k) (own : s.dev.OwnAccess k x)

include debug decoded own

theorem exec_targetError_refused {d : Dev} (refused : (s.atTarget m k x).dev.refusedAccess m k x = some d) :
    exec (.targetError m x) s = (s.atTarget m k x).becomes d := by
  rw [exec_targetError, State.access_of fun seven => debug (Fin.ext seven), State.busAccess_of decoded own, refused]
  rfl

theorem exec_targetError_memory (taken : (s.atTarget m k x).dev.refusedAccess m k x = none) (memory : k ≠ 4) :
    exec (.targetError m x) s = ((s.atTarget m k x).memoryAccess m k x).becomes ((s.atTarget m k x).memoryAccess m k x).dev := by
  rw [exec_targetError, State.access_of fun seven => debug (Fin.ext seven), State.busAccess_of decoded own, taken, Option.elim_none,
    if_neg memory]

theorem exec_targetError_csr (taken : (s.atTarget m k x).dev.refusedAccess m k x = none) (csr : k = 4) :
    exec (.targetError m x) s = (s.atTarget m k x).becomes ((s.atTarget m k x).dev.csrAccess m x) := by
  rw [exec_targetError, State.access_of fun seven => debug (Fin.ext seven), State.busAccess_of decoded own, taken, Option.elim_none,
    if_pos csr]
  rfl

end

section

variable {x : Access} {k : Nat} (whole : x.left = 0) (s : State) (m : Nat)

include whole

/-- An access of which no beat is to come is carried out and answered at once; the host's writes of Mere go their own way. -/
theorem State.memoryAccess_write (other : k ≠ 7) (write : x.write = true) : s.memoryAccess m k x =
    (({ s with dev := s.dev.transaction m }).writeTarget (s.dev.placeOf k) (x.addr - rowBase k) (accessBytes x)).answerAccess m
      (s.dev.placeOf k) (x.addr - rowBase k) (x.size * x.beats) true := by
  simp [State.memoryAccess, whole, write, other]

theorem State.memoryAccess_read (read : x.write = false) : s.memoryAccess m k x =
    ({ s with dev := s.dev.transaction m }).answerAccess m (s.dev.placeOf k) (x.addr - rowBase k) (x.size * x.beats) false := by
  simp [State.memoryAccess, whole, read]

end

/-! ### A target that stays silent (R84) -/

/-- BUS_TIMEOUT has passed, and the target is marked hung. -/
def Dev.fallsSilent (d : Dev) (k : Nat) : Dev :=
  ((d.pass (d.get F.BUS_TIMEOUT_CYCLES)).set F.BUS_HUNG_TARGETS 0 (d.get F.BUS_HUNG_TARGETS ||| 2 ^ k)).raise 898 [k]

/-- A burst in progress ends with TARGET_ERR on the beats that it has left. -/
def Dev.failBurst (d : Dev) (b : Burst) : Dev :=
  ((d.hset H.busOutstanding b.master (d.hget H.busOutstanding b.master - 1)).bump K.BUS_COMPLETED b.master).answerError b.master b.write
    .target (b.left * max 1 (b.size / 4)) none

/-- So end all bursts in progress at the target. -/
def Dev.failBursts (d : Dev) (k : Nat) : Dev :=
  let d := d.each (d.bursts.filter fun b => b.target == k) Dev.failBurst
  { d with bursts := d.bursts.filter fun b => b.target != k }

theorem Dev.targetTimeout_of {d : Dev} {x : Access} {k : Nat} (decoded : d.targetOf x.addr = some k) (answers : d.hung k = false)
    (takes : d.targetTakes k x = true) (m : Nat) :
    d.targetTimeout m x = ((d.fallsSilent k).failBursts k).busError m x .target none := by
  simp only [Dev.targetTimeout, decoded, answers, takes, Bool.not_true, Bool.or_false, Bool.false_eq_true, if_false]
  rfl

theorem Dev.lateResponse_of {d : Dev} {k : Nat} (hung : d.hung k = true) : d.lateResponse k = d.bump K.BUS_LATE_RESPONSES :=
  if_pos hung

/-! ### Outbound windows (R133) -/

/-- The window of host memory that an address lies in. -/
def outboundWindow (x : Access) : Nat := (x.addr - 0x1000000000) / 2 ^ 32

section

variable {d : Dev} {x : Access} {w : Nat}

theorem Dev.outboundRefusal_none (on : d.get F.PCI_OB_CTRL_EN w ≠ 0) (master : d.get F.PCI_LINK_STATUS_BME ≠ 0)
    (up : d.get F.PCI_LINK_STATUS_UP ≠ 0) : d.outboundRefusal w = none := by
  simp [Dev.outboundRefusal, on, master, up]

theorem Dev.outboundRefusal_disabled (off : d.get F.PCI_OB_CTRL_EN w = 0) : d.outboundRefusal w = some 0 := by
  simp [Dev.outboundRefusal, off]

variable (decoded : d.targetOf x.addr = some 8) (answers : d.hung 8 = false) (takes : d.targetTakes 8 x = true)

include decoded answers takes

theorem Dev.outbound_passes (permitted : d.outboundRefusal (outboundWindow x) = none) (m : Nat) (answer : List Nat) :
    d.outbound m x answer =
      ((d.emit (.host (d.get F.PCI_OB_BASE_HI_BASE (outboundWindow x) * 2 ^ 32 + d.get F.PCI_OB_BASE_LO_BASE (outboundWindow x) * 4096 +
        x.addr % 2 ^ 32) x.write (if x.write then x.words else []))).transaction m).answer m (if x.write then .done else .data answer) := by
  rw [outboundWindow] at permitted ⊢
  simp [-Nat.reducePow, Dev.outbound, decoded, answers, takes, permitted]

/-- The first refusal is raised with its cause. -/
theorem Dev.outbound_firstRefused {cause : Nat} (refused : d.outboundRefusal (outboundWindow x) = some cause)
    (first : d.evt.obErr = false) (m : Nat) (answer : List Nat) :
    d.outbound m x answer = (({ d with evt := { d.evt with obErr := true } }).raise 901 [outboundWindow x, cause]).busError m x .target
      (some (897, [m, 8])) := by
  rw [outboundWindow] at refused ⊢
  simp [-Nat.reducePow, Dev.outbound, decoded, answers, takes, refused, first]

end

/-- Settles O18: the sump by its capture, an access by what its target makes of it, a grant by starvation and turn, an outbound access by
its window. -/
theorem busMatrixActs : Obligations.BusMatrixActs := by
  refine ⟨fun m x s outside debug => ?sump, fun d e n owed => ⟨d.answerError_hostWrite e n owed, d.answerError_hostRead e n owed⟩,
    fun d m n owed plain => ?plain, fun m v s reaches asked => ?clear, fun m x s k debug decoded host csr => ?target,
    fun s m x whole => ?memory, fun d k m ws master => ?grant, fun m x s k debug decoded answers takes => ?timeout,
    fun k s hung => ?late, fun m v s reaches asked => ?remap, fun m x answer s debug decoded answers takes => ?outbound⟩
  case sump =>
    have go := Dev.access_of (d := s.dev) (m := m) fun seven => debug (Fin.ext seven)
    refine ⟨fun good armed => ?_, fun good holding => ?_, fun bad => ?_⟩ <;> rw [exec_sumpAccess, go]
    · rw [Dev.sumpAccess_good outside good, Dev.sumpAnswer_armed (by simpa using armed)]
      rfl
    · rw [Dev.sumpAccess_good outside good, Dev.sumpAnswer_holding (by simpa using holding)]
      simp only [Dev.get_transaction, Dev.get_arbitrate]
    · rw [Dev.sumpAccess_bad outside bad, Dev.busError]
  case plain =>
    exact ⟨(Dev.answerError_plain plain d false n owed).1, (Dev.answerError_plain plain d true n owed).1,
      fun w => (Dev.answerError_plain plain d w n owed).2⟩
  case clear => rw [exec_busSumpClear, Dev.busWrite_of reaches, Dev.clearSump_of _ asked]
  case target =>
    have own : s.dev.OwnAccess k x := ⟨host, csr⟩
    refine ⟨fun hung => ?_, fun answers misfit => ?_, fun answers takes other => ?_, fun answers takes four untested => ?_⟩
    · exact exec_targetError_refused debug decoded own (Dev.refusedAccess_hung hung)
    · exact exec_targetError_refused debug decoded own (Dev.refusedAccess_misfit answers misfit)
    · exact exec_targetError_memory debug decoded own (Dev.refusedAccess_none answers takes fun four => absurd four other) other
    · exact exec_targetError_csr debug decoded own (Dev.refusedAccess_none answers takes fun _ => untested) four
  case memory =>
    exact ⟨fun write => ⟨State.memoryAccess_write whole s m (by decide) write, State.memoryAccess_write whole s m (by decide) write⟩,
      fun read => ⟨State.memoryAccess_read whole s m read, State.memoryAccess_read whole s m read⟩⟩
  case grant =>
    refine ⟨Dev.grantNext_starved master, Dev.grantNext_turn, fun fed spent next => ?_⟩
    obtain ⟨i, near, rfl, asks, nearest⟩ := next
    exact Dev.grantNext_next fed spent near asks nearest
  case timeout =>
    rw [exec_targetTimeout, Dev.access_of fun seven => debug (Fin.ext seven), Dev.targetTimeout_of decoded answers takes]
    rfl
  case late => rw [exec_lateTargetResponse, Dev.lateResponse_of hung]
  case remap => rw [exec_remap, Dev.busWrite_of reaches, Dev.writeBusCtrl_of _ asked]
  case outbound =>
    have go := Dev.access_of (d := s.dev) (m := m) fun seven => debug (Fin.ext seven)
    refine ⟨fun on busMaster up => ?_, fun off first => ?_⟩ <;> rw [exec_outboundAccess, go]
    · rw [Dev.outbound_passes decoded answers takes (Dev.outboundRefusal_none on busMaster up)]
      rfl
    · rw [Dev.outbound_firstRefused decoded answers takes (Dev.outboundRefusal_disabled off) first]
      rfl

end Sys2Proof.Machine
end

/-! Proofs of the statements on register access by command, the command ports, the system commands and the pins. -/

/-! ## Register access by command (R118, R463) -/

section

namespace Sys2Proof.Machine

/-! ### Word by word -/

theorem Dev.csrReads_word {d : Dev} {off : Nat} (good : d.busFault off = none) (m k : Nat) (acc : List Nat) (n : Nat) :
    let r := (d.transaction m).readWord m off
    d.csrReads m off k acc (n + 1) = (r.2.answer m (.data [r.1])).csrReads m (off + 4) (k + 1) (r.1 :: acc) n := by
  simp only [Dev.csrReads, Dev.busFault_transaction, good]

theorem Dev.csrReads_stopped {d : Dev} {off : Nat} {e : BusErr} (bad : d.busFault off = some e) (m k : Nat) (acc : List Nat) (n : Nat) :
    d.csrReads m off k acc (n + 1) = ((d.transaction m).busFails m off false e,
      .stopped k ((d.transaction m).csrError e).1 ((d.transaction m).csrError e).2) := by
  simp only [Dev.csrReads, Dev.busFault_transaction, bad]

theorem Dev.csrWrites_word {d : Dev} {off : Nat} (good : d.busFault off = none) {m w : Nat}
    (admitted : ((d.transaction m).writeWord m off w).2 = .admitted) (k : Nat) (ws : List Nat) :
    d.csrWrites m off k (w :: ws) =
      ((((d.transaction m).writeWord m off w).1.mirror off w).answer m .done).csrWrites m (off + 4) (k + 1) ws := by
  simp only [Dev.csrWrites, Dev.busFault_transaction, good, admitted]

/-- A closed window of a target in service answers with DECODE_ERR (R63). -/
theorem Dev.busFault_closed {d : Dev} {off : Nat} (answers : d.csrHung = false) (closed : d.windowOpen off = false) :
    d.busFault off = some .decode := by
  simp [Dev.busFault, answers, closed]

/-! ### The lease condition of CSR_WRITE (R112, R118) -/

/-- A request that passes the checks of R112 up to its form is turned away when its port does not hold what it needs. -/
theorem Dev.judge_unheld {d : Dev} {q : Req} {sp : Spec} (ports : sp.ports.contains q.port = true) (ready : d.ready = true)
    (role : d.rolePermits q.port sp.op = true) :
    let r := parseTlvs (q.payload.length + 1) 0 q.payload
    sp.form r.1 r.2 = none → sp.unheld d q.port r.1 = true → d.judge q sp = .refuse St.leased [] := by
  intro r form unheld
  simp only [Dev.judge, ports, ready, role, Bool.not_true, Bool.false_and, Bool.false_eq_true, if_false]
  simp only [r] at form unheld
  simp only [form, unheld, Bool.or_true, if_true]

/-- Settles O19: a word at a time, by what the bus makes of it; and the lease condition of the check that precedes the values. -/
theorem csrCommandsAct : Obligations.CsrCommandsAct := by
  refine ⟨fun q s ts e acc => ?read, fun d m off k acc n good => Dev.csrReads_word good m k acc n, fun d m off k acc => rfl,
    fun d m off k acc n answers closed => Dev.csrReads_stopped (Dev.busFault_closed answers closed) m k acc n,
    fun q s ts e acc => ?write, fun q s e taken ready role => ?unheld,
    fun d m off k w ws good admitted => Dev.csrWrites_word good admitted k ws⟩
  case read => rw [exec_csrRead, Dev.csrRead, Dev.command_of acc]
  case write => rw [exec_csrWrite, Dev.csrWrite, Dev.command_of acc]
  case unheld =>
    intro r form unheld
    have ports : csrWriteSpec.ports.contains q.port.val = true := by
      match q.port with
      | 0 | 1 | 2 | 3 | 4 => rfl
    rw [exec_csrWrite, Dev.csrWrite, Dev.command_takesUp taken, Dev.judge_unheld ports ready role form unheld]
    rfl

end Sys2Proof.Machine
end

/-! ## The command ports (R84, R89–R107, R112) -/

section

namespace Sys2Proof.Machine

/-! ### The replay window (R101) -/

/-- The newest counter stands at the lowest bit of the window. -/
theorem bit_shifted_zero (w : Nat) {n : Nat} (shifted : 0 < n) : bit ((w * 2 ^ n + 1) % 2 ^ 64) 0 = true := by
  obtain ⟨k, rfl⟩ : ∃ k, n = k + 1 := ⟨n - 1, by omega⟩
  have odd : w * 2 ^ (k + 1) = 2 * (w * 2 ^ k) := by rw [Nat.pow_succ', Nat.mul_left_comm]
  simp only [bit, odd, Nat.pow_zero, Nat.div_one, beq_iff_eq]
  omega

theorem bit_eq_testBit (v n : Nat) : bit v n = v.testBit n := by
  rw [Nat.testBit_eq_decide_div_mod_eq]
  rfl

/-- A counter that is marked as used is not accepted again (R101). -/
theorem Sender.accepted_once {x : Sender} {c : Nat} (fresh : x.accepts c = true) (window : x.window < 2 ^ 64) :
    (x.accepted c).accepts c = false ∧ (x.accepted c).high = max x.high c ∧ (x.accepted c).window < 2 ^ 64 := by
  by_cases newer : c > x.high
  · have low := bit_shifted_zero x.window (n := min 64 (c - x.high)) (by omega)
    refine ⟨?_, ?_, ?_⟩
    · simp [-Nat.reducePow, Sender.accepts, Sender.accepted, newer, low]
    · simp only [Sender.accepted, if_pos newer]; omega
    · simp only [Sender.accepted, if_pos newer]; exact Nat.mod_lt _ (by decide)
  · obtain ⟨-, near, -⟩ : c ≠ 0 ∧ x.high < c + 64 ∧ bit x.window (x.high - c) = false := by
      simpa [Sender.accepts, newer] using fresh
    have used : bit (x.window ||| 2 ^ (x.high - c)) (x.high - c) = true := by
      simp [bit_eq_testBit]
    refine ⟨?_, ?_, ?_⟩
    · simp [Sender.accepts, Sender.accepted, newer, used]
    · simp only [Sender.accepted, if_neg newer]; omega
    · simp only [Sender.accepted, if_neg newer]
      exact Nat.or_lt_two_pow window (Nat.pow_lt_pow_right (by decide) (by omega))

/-! ### Receipt (R99, R102) -/

/-- A packet joins its port's queue with the CORE time of its arrival. -/
def Dev.queued (d : Dev) (p src op tag : Nat) (payload : List Byte) : Dev :=
  { d.acceptPacket p with cmd := { (d.acceptPacket p).cmd with
    queue := (d.acceptPacket p).cmd.queue ++ [⟨p, d.clock.core, src, op, tag, payload, none⟩] } }

theorem Dev.enqueue_room {d : Dev} {p : Nat} (room : (d.cmd.queue.filter fun k => k.port == p).length < 256) (src op tag : Nat)
    (payload : List Byte) : d.enqueue p src op tag payload = d.queued p src op tag payload :=
  if_neg (Nat.not_le.mpr room)

section

variable {d : Dev} {p src : Nat} {bs : List Byte} (up : d.portUp p = true)

include up

theorem Dev.receive_malformed (bad : goodPacket p bs = false) :
    d.receive p src bs = (d.bump C.CMD_RECEIVED p).bump C.CMD_MALFORMED p := by
  simp [Dev.receive, up, bad]

variable (good : goodPacket p bs = true)

include good

theorem Dev.receive_plain (plain : keyed p = false) (room : (d.cmd.queue.filter fun k => k.port == p).length < 256) :
    d.receive p src bs =
      (d.bump C.CMD_RECEIVED p).queued p src (beVal (slice 2 2 bs)) (beVal (slice 4 2 bs)) (bs.drop 16) := by
  rw [← Dev.enqueue_room (by exact room)]
  simp [Dev.receive, up, good, plain]

theorem Dev.receive_keyed (keys : keyed p = true) : d.receive p src bs = (d.bump C.CMD_RECEIVED p).receiveKeyed p src bs := by
  simp [Dev.receive, up, good, keys]

end

section

variable {d : Dev} {p : Nat} {bs key : List Byte} (loaded : (d.cmd.portKey p).key = some key)

include loaded

/-- A packet whose trailer is not that of the port's key. -/
theorem Dev.receiveKeyed_unauthentic (unauthentic : hmac key (bs.take (bs.length - 32)) ≠ bs.drop (bs.length - 32)) (src : Nat) :
    d.receiveKeyed p src bs = d.authFails p src (beVal (slice 2 2 bs)) (beVal (slice 4 2 bs)) :=
  if_pos (by simpa [loaded] using unauthentic)

/-- A packet of a known sender with a counter that its window accepts. -/
theorem Dev.receiveKeyed_accepted (authentic : hmac key (bs.take (bs.length - 32)) = bs.drop (bs.length - 32)) {src : Nat} {x : Sender}
    (known : d.sender? p src = some x) (fresh : x.accepts (beVal (slice 12 4 bs)) = true)
    (room : (d.cmd.queue.filter fun k => k.port == p).length < 256) :
    d.receiveKeyed p src bs = (d.setSender (x.accepted (beVal (slice 12 4 bs)))).queued p src (beVal (slice 2 2 bs))
      (beVal (slice 4 2 bs)) ((bs.take (bs.length - 32)).drop 16) := by
  rw [← Dev.enqueue_room (by exact room)]
  simp [Dev.receiveKeyed, loaded, authentic, known, fresh]

end

/-! ### The mailbox of P0 (R84, R92–R95) -/

theorem Dev.mailboxAccess_hung {d : Dev} (hung : d.mailboxHung = true) (f : Dev → Dev) :
    d.mailboxAccess f = (d.transaction 1).answerError 1 true .target 1 none := by
  have hung : (d.transaction 1).mailboxHung = true := by simpa [Dev.mailboxHung] using hung
  exact if_pos hung

theorem Dev.mailboxAccess_of {d : Dev} (answers : d.mailboxHung = false) (f : Dev → Dev) :
    d.mailboxAccess f = (f (d.transaction 1)).answer 1 .done := by
  have answers : (d.transaction 1).mailboxHung = false := by simpa [Dev.mailboxHung] using answers
  exact if_neg (by simp [answers])

@[simp] theorem Dev.portUp_transaction (d : Dev) (m p : Nat) : (d.transaction m).portUp p = d.portUp p := by
  simp [Dev.portUp, Dev.portOpen, Dev.mediumUp]

section

variable {d : Dev} {k : Nat} (up : d.portUp 0 = true)

include up

theorem Dev.doorbell_owned (owned : d.cmd.owned.contains k = true) (bytes : List Byte) :
    d.doorbell k bytes = (d.bump C.CMD_RECEIVED 0).bump C.CMD_MALFORMED 0 := by
  simp [Dev.doorbell, up, -List.contains_eq_mem, owned]

theorem Dev.doorbell_free (free : d.cmd.owned.contains k = false) (bytes : List Byte) :
    let bs := bytes.take 4096
    d.doorbell k bytes = Dev.receive { d with cmd := { d.cmd with
      owned := insertNat k d.cmd.owned, requests := setSlot d.cmd.requests k bs } } 0 k (bs.take (16 + beVal (slice 8 2 bs))) := by
  simp [Dev.doorbell, up, -List.contains_eq_mem, free]

end

theorem Dev.clearReady_final {d : Dev} {k : Nat} (ready : d.cmd.ready.contains k = true) (final : d.cmd.readyFinal.contains k = true)
    (idle : (d.cmd.waits.find? fun w => w.slot == k) = none) :
    d.clearReady k = { d with cmd := { d.cmd with
      ready := d.cmd.ready.filter (· != k)
      readyFinal := d.cmd.readyFinal.filter (· != k)
      owned := d.cmd.owned.filter (· != k) } } := by
  simp only [Dev.clearReady, ready, final, idle, Bool.not_true, Bool.false_eq_true, if_false, if_true]

/-! ### The other ports (R90, R91) -/

theorem Dev.datagram_own {d : Dev} {m : Nat} {x : Datagram} (whole : x.fragment = false)
    (address : x.dstAddr.toNat = d.get F.MGT_IPV4_IPV4 m) (port : x.dstPort.toNat = d.get F.CMD_UDP_PORT_PORT) :
    d.datagram m x = d.receive (m + 1) (x.srcAddr.toNat * 65536 + x.srcPort.toNat) x.bytes := by
  simp [Dev.datagram, whole, address, port]

theorem Dev.uartPacket_good {d : Dev} {bytes bs : List Byte} (takes : d.uartTakes = true) (up : d.portUp 4 = true)
    (framed : unslip (bytes.dropWhile (· == 0xC0#8)) = some bs) (checked : 4 ≤ bs.length)
    (crc : beBytes 4 (crc32c (bs.take (bs.length - 4))) = bs.drop (bs.length - 4)) :
    d.uartPacket bytes = d.receive 4 0 (bs.take (bs.length - 4)) := by
  simp only [Dev.uartPacket, takes, up, framed, crc, Nat.not_lt.mpr checked, Bool.not_true, Bool.or_self, Bool.false_eq_true, ne_eq,
    not_true_eq_false, or_self, if_false]

/-! ### The acceptance order (R106, R107) -/

/-- While another packet is next, a request is not taken up. -/
theorem Dev.takeUp_outOfTurn {d : Dev} {q : Req} {op : Nat} {h : Packet} (head : headPacket d.cmd.queue = some h)
    (other : h.is q op = false) : d.takeUp q op = none := by
  simp [Dev.takeUp, head, other]

/-- A request that is not taken up joins its port's queue. -/
theorem Dev.command_waits {d : Dev} {q : Req} {sp : Spec} (waits : d.takeUp q sp.op = none)
    (new : (d.cmd.queue.any fun p => p.is q sp.op) = false) (up : d.portUp q.port = true) (body : Dev → List Tlv → Dev) :
    d.command q sp body = (d.bump C.CMD_RECEIVED q.port).enqueue q.port q.src sp.op q.tag q.payload := by
  simp only [Dev.command, waits, Dev.arrives, new, up, Bool.false_eq_true, if_false, if_true]

/-- The firmware leaves a packet for the command of its opcode. -/
theorem Dev.refuseOpcodes_known {d : Dev} {p : Packet} (head : headPacket d.cmd.queue = some p)
    (known : opcodes.contains p.opcode = true) (n : Nat) : d.refuseOpcodes n = d := by
  cases n with
  | zero => rfl
  | succ n => simp only [Dev.refuseOpcodes, head, known, if_true]

theorem Dev.serveQueues_known {d : Dev} {p : Packet} (head : headPacket d.cmd.queue = some p)
    (known : opcodes.contains p.opcode = true) : d.serveQueues = d := by
  rw [Dev.serveQueues, Dev.refuseOpcodes_known head known, ite_self]

/-- A packet alone in the queues whose opcode no chapter defines, and whose tag is good, is refused (R112, R129). -/
theorem Dev.serveQueues_unknown {d : Dev} {q : Req} {op stamp : Nat} {key : Option (List Byte)} (runs : d.lathRuns = true)
    (alone : d.cmd.queue = [⟨q.port, stamp, q.src, op, q.tag, q.payload, key⟩]) (unknown : opcodes.contains op = false)
    (tag : d.tagFault q = none) :
    d.serveQueues = { d with cmd := { d.cmd with queue := [] } }.turnAway q op St.badOpcode [] key := by
  have port : Fin.ofNat 5 q.port = q.port := Fin.ofNat_val_eq_self q.port
  simp only [Dev.serveQueues, runs, alone, List.length_singleton, Dev.refuseOpcodes, headPacket, unknown, port, tag, Option.getD_none,
    List.erase_cons_head, Bool.false_eq_true, if_false, if_true]

/-- Settles O21: a packet by the first check of R99 that stops it, a request by its turn, and the queues' head by its opcode. -/
theorem portsTakePacketsInOrder : Obligations.PortsTakePacketsInOrder := by
  refine ⟨fun d p src bs up bad => Dev.receive_malformed up bad, fun d p src bs up good plain room => Dev.receive_plain up good plain room,
    fun d p src bs key x up good keys loaded authentic known fresh room => ?accepted,
    fun d p src bs key up good keys loaded unauthentic => ?unauthentic, fun x c => Sender.accepted_once,
    fun k bytes s answers up free => ?doorbell, fun k bytes s answers up owned => ?owned, fun k bytes v hi s hung => ?hung,
    fun v s answers => ?ready, fun q s h runs head other new up => ?waits, fun d k => Dev.clearReady_final,
    fun m x s whole address port => ?datagram, fun bytes bs s takes up framed checked crc => ?uart,
    fun d q op stamp key => Dev.serveQueues_unknown, fun d p => Dev.serveQueues_known⟩
  case accepted =>
    rw [Dev.receive_keyed up good keys]
    exact Dev.receiveKeyed_accepted (d := d.bump C.CMD_RECEIVED p) loaded authentic known fresh room
  case unauthentic =>
    rw [Dev.receive_keyed up good keys]
    exact Dev.receiveKeyed_unauthentic (d := d.bump C.CMD_RECEIVED p) loaded unauthentic src
  case doorbell =>
    rw [exec_p0Doorbell, Dev.mailboxAccess_of answers, Dev.doorbell_free (by simpa using up) (by rwa [Dev.transaction_cmd])]
  case owned =>
    rw [exec_p0Doorbell, Dev.mailboxAccess_of answers, Dev.doorbell_owned (by simpa using up) (by rwa [Dev.transaction_cmd])]
  case hung =>
    rw [exec_p0Doorbell, exec_rspReadyClear, Dev.mailboxAccess_hung hung, Dev.mailboxAccess_hung hung]
    exact ⟨rfl, rfl⟩
  case ready =>
    rw [exec_rspReadyClear, Dev.mailboxAccess_of answers]
    rfl
  case waits => rw [exec_nop, Dev.nop, Dev.command_waits (Dev.takeUp_outOfTurn head other) new up, nopSpec]
  case datagram => rw [exec_mgmtDatagram, Dev.datagram_own whole address port]
  case uart => rw [exec_uartPacket, Dev.uartPacket_good takes up framed checked crc]

end Sys2Proof.Machine
end

/-! ## System commands (R104, R128, R129) -/

section

namespace Sys2Proof.Machine

/-! ### Keys (R104) -/

/-- The key state of a port after it is changed. -/
theorem Dev.portKey_setKey_same {d : Dev} {p : Nat} (port : p < d.cmd.keys.length) (f : PortKey → PortKey) :
    (d.setKey p f).cmd.portKey p = f (d.cmd.portKey p) := by
  simp [Dev.setKey, Command.portKey, List.getD_eq_getElem?_getD, port]

/-- A loaded key replaces the old one, and its transmit counter starts again. -/
theorem Dev.portKey_loadKey {d : Dev} {p : Nat} (port : p < d.cmd.keys.length) (key : List Byte) :
    (d.loadKey p key).cmd.portKey p = { d.cmd.portKey p with key := some key, tx := 0, exhausted := false } := by
  rw [Dev.loadKey, Dev.set_cmd]
  exact Dev.portKey_setKey_same (by exact port) _

/-- The firmware enables the port whose key it loads. -/
theorem Dev.get_loadKey_enable (d : Dev) (p : Nat) (key : List Byte) : (d.loadKey p key).get F.CMD_PORT_CTRL_ENABLE p = 1 :=
  Dev.get_set_same ..

/-! ### Subscriptions (R129) -/

/-- The subscriptions of the other senders. -/
def Dev.otherSubs (d : Dev) (q : Req) : List Subscriber := d.cmd.subs.filter fun s => !(s.port == q.port.val && s.src == q.src)

section

variable {d e : Dev} {q : Req} {ts : List Tlv} (acc : d.Accepts q notifySubscribeSpec ts e)

include acc

theorem Dev.notifySubscribe_removes (zero : tlvNum ts 0x0101 = 0) :
    d.notifySubscribe q = Dev.reply { e with cmd := { e.cmd with subs := e.otherSubs q } } q 0x0106 St.ok := by
  rw [Dev.notifySubscribe, Dev.command_of acc]
  exact if_pos zero

theorem Dev.notifySubscribe_adds (groups : tlvNum ts 0x0101 ≠ 0)
    (room : ((e.otherSubs q).filter fun s => s.port == q.port.val).length < 4)
    (new : (e.cmd.subs.find? fun s => s.port == q.port.val && s.src == q.src) = none) :
    d.notifySubscribe q = Dev.reply { e with cmd := { e.cmd with
      subs := e.otherSubs q ++ [⟨q.port, q.src, tlvNum ts 0x0101, 0, 0⟩] } } q 0x0106 St.ok := by
  rw [Dev.notifySubscribe, Dev.command_of acc]
  rw [Dev.otherSubs] at room
  simp only [if_neg groups, ge_iff_le, if_neg (Nat.not_le.mpr room), new, Option.getD_none, Dev.otherSubs]

theorem Dev.notifySubscribe_full (groups : tlvNum ts 0x0101 ≠ 0)
    (full : 4 ≤ ((e.otherSubs q).filter fun s => s.port == q.port.val).length) :
    d.notifySubscribe q = e.reply q 0x0106 St.exhausted := by
  rw [Dev.notifySubscribe, Dev.command_of acc]
  exact (if_neg groups).trans (if_pos full)

end

end Sys2Proof.Machine
end

/-! ## Leases (R114–R120) -/

section

namespace Sys2Proof.Machine

theorem untouchedByCommits_clock : UntouchedByCommits Dev.clock where
  changes _ _ := rfl
  bump _ _ _ _ := rfl
  raise := Dev.raise_clock
  respond := Dev.respond_clock
  state _ _ := rfl
  epoch _ _ := rfl

/-! ### LEASE_TAKE (R115, R116) -/

/-- A unit that another port holds. -/
def Dev.heldByOther (d : Dev) (port u : Nat) : Bool := d.holder u != 7 && d.holder u != port

/-- The named units become the port's, and its timeout starts; the held changes that touch them end first. -/
def Dev.giveUnits (d : Dev) (port : Nat) (units : List Nat) : Dev :=
  ((((d.endChanges (·.touches units) St.leased).each units fun d u => d.set F.CMD_LEASE_HOLDER_HOLDER u port).hset H.leaseTime
    port d.clock.core).raise 963 [port, wordOfBits units])

section

variable {d e : Dev} {q : Req} {ts : List Tlv} (acc : d.Accepts q leaseTakeSpec ts e) (role : e.role = 0 ∨ e.role = 4)
  (allowed : e.get F.CMD_PORT_CTRL_LEASE_ALLOW q.port ≠ 0)

include acc role allowed

theorem Dev.leaseTake_granted (free : (unitList (tlvNum ts 0x0101)).find? (e.heldByOther q.port) = none) :
    d.leaseTake q = (e.giveUnits q.port (unitList (tlvNum ts 0x0101))).reply q 0x0901 St.ok := by
  have clock := untouchedByCommits_clock.endChanges e (·.touches (unitList (tlvNum ts 0x0101))) St.leased
  have permitted : (e.role != 0 && e.role != 4) = false := by rcases role with h | h <;> simp [h]
  unfold Dev.heldByOther at free
  rw [Dev.leaseTake, Dev.command_of acc]
  simp only [permitted, beq_iff_eq, allowed, free, clock, Bool.false_eq_true, if_false]
  rfl

theorem Dev.leaseTake_refused {u : Nat} (held : (unitList (tlvNum ts 0x0101)).find? (e.heldByOther q.port) = some u) :
    d.leaseTake q = e.reply q 0x0901 St.leased [statusDetail 0 (e.holder u) 0] := by
  have permitted : (e.role != 0 && e.role != 4) = false := by rcases role with h | h <;> simp [h]
  unfold Dev.heldByOther at held
  rw [Dev.leaseTake, Dev.command_of acc]
  simp only [permitted, beq_iff_eq, allowed, held, Bool.false_eq_true, if_false]

end

theorem Dev.find?_heldByOther_none {d : Dev} {port : Nat} {units : List Nat} (free : ∀ u ∈ units, d.holder u = 7 ∨ d.holder u = port) :
    units.find? (d.heldByOther port) = none := by
  refine List.find?_eq_none.mpr fun u hu => ?_
  rcases free u hu with h | h <;> simp [Dev.heldByOther, h]

/-! ### Their end (R119, R120) -/

/-- CORE passes without a change of the leases. -/
theorem Dev.unitsOf_passToCore (d : Dev) (c port : Nat) : (d.passToCore c).unitsOf port = d.unitsOf port := by
  simp [Dev.unitsOf, Dev.holder]

theorem Dev.endLease_some (d : Dev) (port : Nat) {units : List Nat} (held : units ≠ []) (cause : Nat) :
    d.endLease port units cause = (d.each units fun d u => d.freeUnit port u).raise 964 [port, wordOfBits units, cause] :=
  if_neg (by simpa using held)

theorem Dev.leaseTimeout_of {d : Dev} {port : Nat} (holds : d.unitsOf port ≠ []) :
    d.leaseTimeout port = ((d.passToCore (d.leaseEnd port)).each (d.unitsOf port) fun d u => d.freeUnit port u).raise 964
      [port, wordOfBits (d.unitsOf port), 1] := by
  have running : (d.unitsOf port).isEmpty = false := by simpa using holds
  simp only [Dev.leaseTimeout, running, Bool.false_eq_true, if_false, Dev.endPortLeases, Dev.unitsOf_passToCore]
  exact Dev.endLease_some _ port holds 1

/-- A unit without a commit group is freed in its holder alone. -/
theorem Dev.freeUnit_ungrouped (d : Dev) (port : Nat) {u : Nat} (ungrouped : 12 ≤ u) :
    d.freeUnit port u = d.set F.CMD_LEASE_HOLDER_HOLDER u 7 := if_neg (Nat.not_lt.mpr ungrouped)

end Sys2Proof.Machine
end

/-! ## Protection (R121–R123) -/

section

namespace Sys2Proof.Machine

section

variable {d e : Dev} {q : Req} {ts : List Tlv}

theorem Dev.protect_granted (acc : d.Accepts q protectSpec ts e) (free : e.barredDests q.port (tlvRange ts) = []) :
    d.protect q = (e.setProtection q.port (tlvRange ts) q.port).reply q 0x0220 St.ok := by
  rw [Dev.protect, Dev.command_of acc]
  simp only [free]

theorem Dev.protect_refused (acc : d.Accepts q protectSpec ts e) {i : Nat} {is : List Nat}
    (barred : e.barredDests q.port (tlvRange ts) = i :: is) :
    d.protect q = e.reply q 0x0220 St.protected_ [statusDetail (tlvIndex ts 2) (e.hget H.protectedBy i) 0] := by
  rw [Dev.protect, Dev.command_of acc]
  simp only [barred]

/-- The issuer may end the protection of a range: P0 by force, any other port where it bars none of it. -/
theorem Dev.unprotect_granted (acc : d.Accepts q unprotectSpec ts e)
    (may : (hasTlv ts 0x0101 = true ∧ q.port = 0) ∨ (hasTlv ts 0x0101 = false ∧ e.barredDests q.port (tlvRange ts) = []))
    (held : ((rangeList (tlvRange ts)).any fun i => e.hget H.protectedBy i != 0xFF) = true) :
    d.unprotect q = (e.setProtection q.port (tlvRange ts) 0xFF).reply q 0x0221 St.ok := by
  rw [Dev.unprotect, Dev.command_of acc]
  obtain ⟨force, host⟩ | ⟨plain, free⟩ := may
  · simp [force, host, held]
  · simp [plain, free, held]

end

/-- Settles O22: each command by what its own conditions find. -/
theorem systemCommandsAct : Obligations.SystemCommandsAct := by
  refine ⟨fun q s ts e acc => ?nop, fun q s ts e acc => ?portStatus, fun q s ts e acc => ?keySet, fun d p key port => ?key,
    fun q s ts e acc => ?subscribe, fun q s ts e acc role allowed => ?take, fun q s ts e acc => ?renew, fun q s ts e acc => ?release,
    fun q s ts e acc => ?leases, fun port s holds => ?timeout, fun d port u => d.freeUnit_ungrouped port,
    fun q s ts e acc => ?protect, fun q s ts e acc => ?unprotect, fun q s ts e acc => ?protection⟩
  case nop => rw [exec_nop, Dev.nop, Dev.command_of acc]
  case portStatus => rw [exec_portStatusGet, Dev.portStatusGet, Dev.command_of acc]
  case keySet => rw [exec_portKeySet, Dev.portKeySet, Dev.command_of acc]
  case key =>
    rw [Dev.portKey_loadKey port]
    exact ⟨rfl, rfl, d.get_loadKey_enable p key, rfl⟩
  case subscribe =>
    refine ⟨fun zero => ?_, fun groups room new => ?_, fun groups full => ?_⟩ <;> rw [exec_notifySubscribe]
    · rw [Dev.notifySubscribe_removes acc zero, Dev.otherSubs]
    · rw [Dev.notifySubscribe_adds acc groups room new, Dev.otherSubs]
    · rw [Dev.notifySubscribe_full acc groups full]
  case take =>
    refine ⟨fun free => ?_, fun u held => ?_⟩ <;> rw [exec_leaseTake]
    · rw [Dev.leaseTake_granted acc role allowed (Dev.find?_heldByOther_none free), Dev.giveUnits]
    · rw [Dev.leaseTake_refused acc role allowed held]
  case renew => rw [exec_leaseRenew, Dev.leaseRenew, Dev.command_of acc]
  case release => rw [exec_leaseRelease, Dev.leaseRelease, Dev.command_of acc]
  case leases => rw [exec_leaseStatus, Dev.leaseStatus, Dev.command_of acc]
  case timeout => rw [exec_leaseTimeout, Dev.leaseTimeout_of holds, Dev.leaseEnd]
  case protect =>
    refine ⟨fun free => ?_, fun i is barred => ?_⟩ <;> rw [exec_protect]
    · rw [Dev.protect_granted acc free, Dev.setProtection]
    · rw [Dev.protect_refused acc barred]
  case unprotect => exact fun may held => by rw [exec_unprotect, Dev.unprotect_granted acc may held, Dev.setProtection]
  case protection => rw [exec_protectGet, Dev.protectGet, Dev.command_of acc]

end Sys2Proof.Machine
end

/-! ## The pins (R124–R127, R548) -/

section

namespace Sys2Proof.Machine

/-- A field keeps its value when another one is set. -/
theorem Dev.get_set_other (d : Dev) {f g : Fld} (other : g.id ≠ f.id) (i v j : Nat) : (d.set f i v).get g j = d.get g j :=
  Dev.get_set_ne d v fun key => other key.1

/-- An implied value stays when another one is set. -/
theorem Dev.hget_hset_other (d : Dev) {f g : Fld} (other : g.id ≠ f.id) (i v j : Nat) : (d.hset f i v).hget g j = d.hget g j :=
  Dev.hget_hset_ne d v fun key => other key.1

/-! ### Edges (R124, R125) -/

/-- A ball that changes while no debounce window is open, to a level other than the pin's, is an accepted edge. -/
theorem Dev.ballChanges_accepted {d : Dev} {n : Nat} {level : Bool} (idle : d.hget H.gpioWindow n = 0)
    (differs : d.hget H.gpioPin n ≠ ofBool level) :
    d.ballChanges n level = ((d.hset H.gpioBall n (ofBool level)).hset H.gpioWindow n 0).acceptEdge n (ofBool level) := by
  have window : (d.hset H.gpioBall n (ofBool level)).hget H.gpioWindow n = 0 :=
    (d.hget_hset_other (by decide) ..).trans idle
  have pin : (d.hset H.gpioBall n (ofBool level)).hget H.gpioPin n = d.hget H.gpioPin n := d.hget_hset_other (by decide) ..
  simp [Dev.ballChanges, window, pin, differs]

/-- The level and the window of an accepted edge, before what it counts and raises. -/
def Dev.edgeLevel (d : Dev) (n level : Nat) : Dev :=
  let us := d.get F.GPIO_CFG_DEBOUNCE_US n
  let e := (d.hset H.gpioPin n level).hset H.gpioWindow n (if us = 0 then 0 else d.clock.core + 1000 * us + 1)
  (e.putBit F.GPIO_LEVEL_LEVEL n (d.activeLevel n level)).timeActive n (d.activeLevel n level)

/-- An edge counts for the chatter check. -/
def Dev.countEdge (d : Dev) (n : Nat) : Dev := d.hset H.gpioEdges n (d.hget H.gpioEdges n + 1)

theorem Dev.acceptEdge_unwatched {d : Dev} {n level : Nat} (off : (d.edgeLevel n level).watches n = false) :
    d.acceptEdge n level = d.edgeLevel n level := by
  rw [Dev.edgeLevel] at off
  simp only [Dev.acceptEdge, off, Dev.edgeLevel, Bool.not_false, if_true]

theorem Dev.acceptEdge_watched {d : Dev} {n level : Nat} (on : (d.edgeLevel n level).watches n = true)
    (quiet : bit (((d.edgeLevel n level).countEdge n).get F.GPIO_CHATTER_CHATTER) n = false) :
    d.acceptEdge n level =
      (let r := ((d.edgeLevel n level).countEdge n).raise (928 + n) [if d.activeLevel n level then 0 else 1]
       if d.activeLevel n level then r.edgeActs n else r) := by
  rw [Dev.countEdge, Dev.edgeLevel] at quiet
  rw [Dev.edgeLevel] at on
  simp only [Dev.acceptEdge, on, quiet, Dev.edgeLevel, Dev.countEdge, Bool.not_true, Bool.false_eq_true, if_false]

theorem Dev.debounceEnds_of {d : Dev} {n : Nat} (opened : d.hget H.gpioWindow n ≠ 0) :
    let e := (d.passToCore (d.hget H.gpioWindow n - 1)).hset H.gpioWindow n 0
    d.debounceEnds n = if e.hget H.gpioBall n == e.hget H.gpioPin n then e else e.acceptEdge n (e.hget H.gpioBall n) :=
  if_neg opened

/-! ### Chatter and stuck pins (R126, R127) -/

theorem Dev.chatterPin_begins {d : Dev} {n : Nat} (on : (d.hset H.gpioEdges n 0).watches n = true)
    (many : d.get F.GPIO_TIMING_CHATTER_LIMIT / 10 < d.hget H.gpioEdges n) (quiet : bit (d.get F.GPIO_CHATTER_CHATTER) n = false) :
    d.chatterPin n = (((d.hset H.gpioEdges n 0).hset H.gpioQuiet n 0).putBit F.GPIO_CHATTER_CHATTER n true).raise (928 + n) [2] := by
  simp only [Dev.chatterPin, on, gt_iff_lt, many, quiet, Bool.not_true, Bool.false_eq_true, if_false, if_true]

theorem Dev.stuckExpires_of {d : Dev} {n : Nat} (timed : d.get F.GPIO_TIMING_STUCK_TIME ≠ 0) (active : d.hget H.gpioActive n ≠ 0)
    (on : d.watches n = true) (free : bit (d.get F.GPIO_STUCK_STUCK) n = false) :
    d.stuckExpires n = (((d.passToCore (d.hget H.gpioActive n - 1 + 100000000 * d.get F.GPIO_TIMING_STUCK_TIME + 1)).putBit
      F.GPIO_STUCK_STUCK n true).raise (928 + n) [4]) := by
  simp [Dev.stuckExpires, timed, active, on, free]

/-! ### GPIO_CFG (R548) -/

/-- The fields of GPIO_CFG as a write stores them. -/
def Dev.storeGpioCfg (d : Dev) (n w : Nat) : Dev :=
  (((d.set F.GPIO_CFG_DEBOUNCE_US n (bits w 8 16)).set F.GPIO_CFG_OPEN_DRAIN n (bits w 4 1)).set F.GPIO_CFG_ACTIVE_LOW n
    (bits w 3 1)).set F.GPIO_CFG_FUNC n (if bits w 0 3 > 4 then 0 else bits w 0 3)

/-- The level and the active time follow the pin's polarity. -/
def Dev.renewLevel (d : Dev) (n : Nat) : Dev :=
  (d.putBit F.GPIO_LEVEL_LEVEL n (d.activeLevel n (d.hget H.gpioPin n))).timeActive n (d.activeLevel n (d.hget H.gpioPin n))

theorem Dev.writeGpioCfg_eq (d : Dev) (n w : Nat) : d.writeGpioCfg n w =
    if (d.storeGpioCfg n w).get F.GPIO_CFG_ACTIVE_LOW n == d.get F.GPIO_CFG_ACTIVE_LOW n then d.storeGpioCfg n w
    else (d.storeGpioCfg n w).renewLevel n := rfl

/-- What the sampling of the pins leaves, a write of GPIO_CFG leaves after its fields are stored. -/
theorem UntouchedBySampling.writeGpioCfg {β : Type} {P : Dev → β} (h : UntouchedBySampling P) (d : Dev) (n w : Nat) :
    P (d.writeGpioCfg n w) = P (d.storeGpioCfg n w) := by
  have renewed (e : Dev) : P (e.renewLevel n) = P e := by
    unfold Dev.renewLevel Dev.timeActive Dev.putBit
    split
    · rw [h.active, h.level]
    · rw [h.stuck, h.active, h.level]
  rw [Dev.writeGpioCfg_eq]
  split
  · rfl
  · exact renewed _

theorem Dev.get_writeGpioCfg (d : Dev) (n w : Nat) {f : Fld} (level : f.id ≠ F.GPIO_LEVEL_LEVEL.id) (stuck : f.id ≠ F.GPIO_STUCK_STUCK.id)
    (i : Nat) : (d.writeGpioCfg n w).get f i = (d.storeGpioCfg n w).get f i :=
  (untouchedBySampling_get i level stuck).writeGpioCfg d n w

theorem Dev.writeGpioCfg_evt (d : Dev) (n w : Nat) : (d.writeGpioCfg n w).evt = d.evt :=
  (congrArg Dev.evt (untouchedBySampling_besideTables.writeGpioCfg d n w) :)

/-- A field as wide as the bits that it takes stores them whole. -/
theorem bits_mod (v lo w : Nat) : bits v lo w % 2 ^ w = bits v lo w := Nat.mod_mod _ _

/-- FUNC 5 to 7 are stored as 0. -/
theorem storedFunc_mod (w : Nat) :
    (if bits w 0 3 > 4 then 0 else bits w 0 3) % 2 ^ F.GPIO_CFG_FUNC.width = if bits w 0 3 > 4 then 0 else bits w 0 3 := by
  split
  · rfl
  · exact bits_mod w 0 3

/-- Settles O23: each clause is the pin's rule above, or its command's. -/
theorem gpioActs : Obligations.GpioActs := by
  refine ⟨fun pin level s idle differs => ?edge, fun d n level => ⟨Dev.acceptEdge_unwatched, Dev.acceptEdge_watched⟩,
    fun pin s opened => ?window, fun s => exec_chatterWindowEnd s, fun d n _ on many quiet => Dev.chatterPin_begins on many quiet,
    fun pin s timed active on free => ?stuck, fun m pin v s reach => ?cfg, fun d n w => ?fields, fun m v s reach => ?arm,
    fun q s ts e acc plain => ?config, fun q s ts e acc tally => ?tally, fun q s ts e acc => ?set, fun q s ts e acc => ?get⟩
  case edge => rw [exec_acceptedEdge, Dev.ballChanges_accepted idle differs]
  case window => rw [exec_debounceWindowEnd, Dev.debounceEnds_of opened]
  case stuck => rw [exec_stuckTimeExpiry, Dev.stuckExpires_of timed active on free]
  case cfg => rw [exec_activeLowWrite, Dev.busWrite_of reach]
  case fields =>
    refine ⟨?_, ?_, ?_, ?_, d.writeGpioCfg_evt n w⟩ <;>
      rw [Dev.get_writeGpioCfg d n w (by decide) (by decide), Dev.storeGpioCfg] <;>
      simp (disch := decide) only [Dev.get_set_other, Dev.get_set_same]
    · exact storedFunc_mod w
    · exact bits_mod w 3 1
    · exact bits_mod w 4 1
    · exact bits_mod w 8 16
  case arm => rw [exec_gpioArmWrite, Dev.busWrite_of reach, Dev.writeGpioArm, Dev.get_transaction]
  case config =>
    rw [exec_gpioConfig, Dev.gpioConfig, Dev.command_of acc, plain]
    rfl
  case tally =>
    rw [exec_gpioConfig, Dev.gpioConfig, Dev.command_of acc, tally]
    rfl
  case set => rw [exec_gpioSet, Dev.gpioSet, Dev.command_of acc]
  case get => rw [exec_gpioGet, Dev.gpioGet, Dev.command_of acc]

end Sys2Proof.Machine
end

/-! Proofs of the statement on the event registers, the event log and the PCI Express link. -/

/-! ## Event registers, the log's readers and the PCI Express link (R59, R72, R130, R138–R151) -/

section

namespace Sys2Proof.Machine

/-! ### The log's readers (R148–R150) -/

/-- Making the host index active sets it to EVT_LOG_WR (R150). -/
theorem Dev.writeEvtCtrl_activates {d : Dev} {w : Nat} (inactive : d.get F.EVT_CTRL_HOST_READER = 0) (active : w % 2 = 1) :
    d.writeEvtCtrl w =
      { d.set F.EVT_CTRL_HOST_READER 0 w with evt := { (d.set F.EVT_CTRL_HOST_READER 0 w).evt with rdHost := d.evt.wr } } :=
  if_pos ⟨inactive, active⟩

theorem Dev.lathReads_runs {d : Dev} (runs : d.lathRuns = true) (count : Nat) :
    d.lathReads count = { d with evt := { d.evt with rdLath :=
      (d.evt.rdLath + min count (serialSub 32 d.evt.wr d.evt.rdLath)) % 2 ^ 32 } }.checkFull :=
  if_neg (by simp [runs])

theorem Dev.windowEnds_of {d : Dev} {n t : Nat} (logged : (d.evt.source n).last = some t) :
    d.windowEnds n = d.passTo ((t + d.window n) * 65536) := by
  simp only [Dev.windowEnds, logged]

/-- The records from the first asked for on that the ring still holds, as many as were asked for and one response takes. -/
def Dev.recordsFrom (d : Dev) (port first asked : Nat) : List LogRecord :=
  (List.range (min (serialSub 32 d.evt.wr first) (min asked (logReadLimit port)))).filterMap fun k =>
    d.evt.log.find? fun r => r.seq == (first + k) % 2 ^ 32

theorem Dev.eventLogRead_held {d e : Dev} {q : Req} {ts : List Tlv} (acc : d.Accepts q eventLogReadSpec ts e)
    (held : serialSub 32 e.evt.wr (tlvNum ts 0x0101) ≤ 4096) :
    d.eventLogRead q = e.reply q 0x0120 St.ok
      ((e.recordsFrom q.port (tlvNum ts 0x0101) (tlvNum ts 0x0102)).map fun r => data [r.bytes]) := by
  rw [Dev.eventLogRead, Dev.command_of acc]
  simp only [Nat.not_lt.mpr held, held, false_and, if_false, if_true, Dev.recordsFrom]

/-! ### PCI_LINK_STATUS (R143) -/

/-- The fields of PCI_LINK_STATUS take a value. -/
def Dev.storePciStatus (d : Dev) (bme width speed up : Nat) : Dev :=
  (((d.set F.PCI_LINK_STATUS_BME 0 bme).set F.PCI_LINK_STATUS_WIDTH 0 width).set F.PCI_LINK_STATUS_SPEED 0 speed).set
    F.PCI_LINK_STATUS_UP 0 up

section

variable (d : Dev) (bme width speed up : Nat)

/-- Whether or not the change is raised, the register tables are as the store leaves them. -/
theorem Dev.setPciStatus_reg : (d.setPciStatus bme width speed up).reg = (d.storePciStatus bme width speed up).reg := by
  simp only [Dev.setPciStatus]
  split
  · rfl
  · exact Dev.raise_reg ..

theorem Dev.setPciStatus_hid : (d.setPciStatus bme width speed up).hid = d.hid := by
  simp only [Dev.setPciStatus]
  split
  · rfl
  · exact Dev.raise_hid ..

theorem Dev.get_setPciStatus (f : Fld) (i : Nat) :
    (d.setPciStatus bme width speed up).get f i = (d.storePciStatus bme width speed up).get f i := by
  rw [Dev.get, Dev.setPciStatus_reg, Dev.get]

theorem Dev.hget_setPciStatus (f : Fld) (i : Nat) : (d.setPciStatus bme width speed up).hget f i = d.hget f i := by
  rw [Dev.hget, Dev.setPciStatus_hid, Dev.hget]

theorem Dev.get_setPciStatus_up : (d.setPciStatus bme width speed up).get F.PCI_LINK_STATUS_UP = up % 2 := by
  rw [Dev.get_setPciStatus]
  exact Dev.get_set_same ..

theorem Dev.get_setPciStatus_bme : (d.setPciStatus bme width speed up).get F.PCI_LINK_STATUS_BME = bme % 2 := by
  rw [Dev.get_setPciStatus, Dev.storePciStatus]
  simp (disch := decide) only [Dev.get_set_other]
  exact Dev.get_set_same ..

end

/-! ### The link (R59, R72, R143) -/

/-- A PCI Express reset ends with the link down and bus mastering off. -/
theorem Dev.pciReset_status (d : Dev) (bursts : List Nat) :
    (d.pciReset bursts).get F.PCI_LINK_STATUS_UP = 0 ∧ (d.pciReset bursts).get F.PCI_LINK_STATUS_BME = 0 := by
  simp only [Dev.pciReset]
  exact ⟨Dev.get_setPciStatus_up .., Dev.get_setPciStatus_bme ..⟩

theorem Dev.linkEvent_down (d : Dev) (speed width : Nat) : d.linkEvent false speed width = d.pciReset [] := if_pos rfl

/-- The link is up at a speed and a width, and the reset before it is past. -/
def Dev.linkTrained (d : Dev) (speed width : Nat) : Dev :=
  (d.setPciStatus (d.get F.PCI_LINK_STATUS_BME) width speed 1).hset H.pciWasReset 0 0

theorem Dev.hget_linkTrained (d : Dev) (speed width : Nat) {f : Fld} (other : f.id ≠ H.pciWasReset.id) (i : Nat) :
    (d.linkTrained speed width).hget f i = d.hget f i :=
  (Dev.hget_hset_other _ other ..).trans (Dev.hget_setPciStatus ..)

section

variable {d : Dev} (trained : 3 ≤ d.get F.BOOT_STATUS_STEP) (speed width : Nat)

include trained

/-- A link-up that follows no reset signals nothing. -/
theorem Dev.linkEvent_up (again : d.hget H.pciWasReset = 0) : d.linkEvent true speed width = d.linkTrained speed width := by
  simp only [Dev.linkEvent, Nat.not_lt.mpr trained, again, Dev.linkTrained, Bool.not_true, Bool.false_eq_true, if_false, if_true]

/-- The first link-up after a reset signals the pending groups where MSI-X is enabled (R143). -/
theorem Dev.linkEvent_first (first : d.hget H.pciWasReset = 1) (enabled : d.hget H.msixEnable = 1) :
    d.linkEvent true speed width = (d.linkTrained speed width).signalPending := by
  have enabled : (d.linkTrained speed width).hget H.msixEnable = 1 := (d.hget_linkTrained speed width (by decide) 0).trans enabled
  rw [Dev.linkTrained] at enabled ⊢
  simp only [Dev.linkEvent, Nat.not_lt.mpr trained, first, enabled, Bool.not_true, Bool.false_eq_true, Nat.one_ne_zero, beq_self_eq_true,
    if_false, if_true]

end

/-! ### Configuration space (R130) -/

/-- Words 4 to 9 are the base address registers. -/
theorem Dev.configWord_bar (d : Dev) {k : Nat} (bar : k < 6) :
    d.configWord (k + 4) = (d.hget H.pciBar k &&& barMask k ||| barType k, d) :=
  if_pos ⟨Nat.le_add_left 4 k, Nat.add_lt_add_right bar 4⟩

/-- Settles O20: each clause is what the register, the reader or the link does with what reaches it, as the rules above say. -/
theorem eventCommandsAct : Obligations.EventCommandsAct := by
  refine ⟨fun d => Dev.sameButReports_report d _, fun m g v s reach => ?status, fun m g v s reach => ?enable,
    fun n t s logged => ?window, fun m v s reach => ?host, fun m v s reach inactive active => ?reader, fun k s runs => ?lath,
    fun q s ts e acc held => ?read, fun q s ts e acc => ?counts, fun speed width s trained again => ?up,
    fun speed width s trained first enabled => ?first, fun speed width bursts s => ?down,
    fun on s => exec_pciConfigWrite (.busMaster on) s, fun k v s => ?config,
    fun n a b c s => exec_pciConfigWrite (.vector n a b c) s⟩
  case status => rw [exec_evtStatusWrite, Dev.busWrite_of reach, Dev.writeEvtStatus]
  case enable => rw [exec_evtIntEnWrite, Dev.busWrite_of reach, Dev.writeIntEn]
  case window => rw [exec_coalesceWindowEnd, Dev.windowEnds_of logged]
  case host =>
    rw [exec_evtLogRdHostWrite, Dev.busWrite_of reach, Dev.writeRdHost, Dev.transaction_evt]
    rfl
  case reader =>
    rw [exec_hostReaderWrite, Dev.busWrite_of reach, Dev.writeEvtCtrl_activates (by rwa [Dev.get_transaction]) active]
    rfl
  case lath => rw [exec_lathReaderAdvance, Dev.lathReads_runs runs]
  case read =>
    rw [exec_eventLogRead, Dev.eventLogRead_held acc held]
    rfl
  case counts => rw [exec_eventCountsGet, Dev.eventCountsGet, Dev.command_of acc]
  case up => rw [exec_pcieLinkEvent, Dev.linkEvent_up trained _ _ again, Dev.linkTrained]
  case first => rw [exec_pcieLinkEvent, Dev.linkEvent_first trained _ _ first enabled, Dev.linkTrained]
  case down =>
    refine ⟨?_, exec_perst bursts s, s.dev.pciReset_status bursts⟩
    rw [exec_pcieLinkEvent, Dev.linkEvent_down]
  case config =>
    refine ⟨exec_pciConfigWrite (.bar k v) s, exec_pciConfigWrite (.read 0) s, ?_⟩
    rw [exec_pciConfigWrite, Dev.pciConfig, Dev.configWord_bar s.dev k.isLt]

end Sys2Proof.Machine
end

/-! Proofs of the statements on the words and the code of the Reed lanes, and on their receivers. -/

/-! ## Big-endian bytes (R96) -/

section

namespace Sys2Proof.Machine

theorem foldl_eq_beVal (n : Nat) (bs : List Byte) : bs.foldl (fun v b => v * 256 + b.toNat) n = n * 256 ^ bs.length + beVal bs := by
  induction bs generalizing n with
  | nil => simp [beVal]
  | cons b bs ih =>
    rw [beVal, List.foldl_cons, List.foldl_cons, ih, ih, List.length_cons, Nat.zero_mul, Nat.zero_add, Nat.add_mul, Nat.mul_assoc,
      ← Nat.pow_succ', Nat.add_assoc]

theorem beVal_cons (b : Byte) (bs : List Byte) : beVal (b :: bs) = b.toNat * 256 ^ bs.length + beVal bs := by
  rw [beVal, List.foldl_cons, foldl_eq_beVal, Nat.zero_mul, Nat.zero_add]

theorem beVal_lt (bs : List Byte) : beVal bs < 256 ^ bs.length := by
  induction bs with
  | nil => exact Nat.one_pos
  | cons b bs ih =>
    have top : (b.toNat + 1) * 256 ^ bs.length ≤ 256 * 256 ^ bs.length := Nat.mul_le_mul_right _ b.isLt
    rw [Nat.succ_mul] at top
    rw [beVal_cons, List.length_cons, Nat.pow_succ']
    omega

@[simp] theorem length_beBytes (n v : Nat) : (beBytes n v).length = n := by
  induction n with
  | zero => rfl
  | succ n ih => rw [beBytes, List.length_cons, ih]

theorem beVal_beBytes (n v : Nat) : beVal (beBytes n v) = v % 256 ^ n := by
  induction n with
  | zero => rw [Nat.pow_zero, Nat.mod_one]; rfl
  | succ n ih =>
    rw [beBytes, beVal_cons, length_beBytes, ih, BitVec.toNat_ofNat, Nat.pow_succ 256 n, Nat.mod_mul, Nat.mul_comm, Nat.add_comm]

/-- What stands above the bytes asked for does not count. -/
theorem beBytes_mul_add (n a v : Nat) : beBytes n (a * 256 ^ n + v) = beBytes n v := by
  induction n generalizing a with
  | zero => rfl
  | succ n ih =>
    have top : (a * 256 ^ (n + 1) + v) / 256 ^ n = a * 256 + v / 256 ^ n := by
      rw [Nat.pow_succ', ← Nat.mul_assoc, Nat.add_comm, Nat.add_mul_div_right _ _ (Nat.pow_pos (by decide)), Nat.add_comm]
    have byte : BitVec.ofNat 8 (a * 256 + v / 256 ^ n) = BitVec.ofNat 8 (v / 256 ^ n) :=
      BitVec.eq_of_toNat_eq (by simp [Nat.add_mod])
    rw [beBytes, top, byte, Nat.pow_succ', ← Nat.mul_assoc, ih, beBytes]

theorem beBytes_beVal (bs : List Byte) : beBytes bs.length (beVal bs) = bs := by
  induction bs with
  | nil => rfl
  | cons b bs ih =>
    rw [List.length_cons, beBytes, beVal_cons, beBytes_mul_add, ih, Nat.add_comm, Nat.add_mul_div_right _ _ (Nat.pow_pos (by decide)),
      Nat.div_eq_of_lt (beVal_lt bs), Nat.zero_add, BitVec.ofNat_toNat, BitVec.setWidth_eq]

end Sys2Proof.Machine
end

/-! ## Packing (R157) -/

section

namespace Sys2Proof.Machine

theorem unpackWords_beBytes_append (v : Nat) (rest : List Byte) :
    unpackWords (beBytes 5 v ++ rest) = [bits v 30 10, bits v 20 10, bits v 10 10, bits v 0 10] ++ unpackWords rest := by
  have value : beVal (beBytes 5 v) = v % 2 ^ 40 := beVal_beBytes 5 v
  have kept : bits (v % 2 ^ 40) 30 10 = bits v 30 10 ∧ bits (v % 2 ^ 40) 20 10 = bits v 20 10 ∧
      bits (v % 2 ^ 40) 10 10 = bits v 10 10 ∧ bits (v % 2 ^ 40) 0 10 = bits v 0 10 := by
    simp only [bits]
    omega
  obtain ⟨first, second, third, fourth⟩ := kept
  rw [← first, ← second, ← third, ← fourth, ← value]
  rfl

theorem bits_words {a b c e : Nat} (ha : a < 1024) (hb : b < 1024) (hc : c < 1024) (he : e < 1024) :
    let v := ((a * 1024 + b) * 1024 + c) * 1024 + e
    [bits v 30 10, bits v 20 10, bits v 10 10, bits v 0 10] = [a, b, c, e] := by
  simp only [bits, List.cons.injEq, and_true]
  omega

theorem words_bits {v : Nat} (fits : v < 2 ^ 40) :
    ((bits v 30 10 * 1024 + bits v 20 10) * 1024 + bits v 10 10) * 1024 + bits v 0 10 = v := by
  simp only [bits]
  omega

theorem unpackWords_packWords : ∀ ws : List Nat, ws.length % 4 = 0 → (∀ w ∈ ws, w < 1024) → unpackWords (packWords ws) = ws
  | [], _, _ => rfl
  | [_], whole, _ | [_, _], whole, _ | [_, _, _], whole, _ => nomatch whole
  | a :: b :: c :: e :: rest, whole, fit => by
    simp only [List.forall_mem_cons] at fit
    obtain ⟨ha, hb, hc, he, fit⟩ := fit
    rw [packWords, unpackWords_beBytes_append, bits_words ha hb hc he,
      unpackWords_packWords rest ((Nat.add_mod_right ..).symm.trans whole) fit]
    rfl

theorem length_packWords : ∀ ws : List Nat, (packWords ws).length = ws.length / 4 * 5
  | [] | [_] | [_, _] | [_, _, _] => by simp [packWords]
  | a :: b :: c :: e :: rest => by
    rw [packWords, List.length_append, length_beBytes, length_packWords rest]
    simp only [List.length_cons]
    omega

theorem packWords_unpackWords : ∀ bs : List Byte, bs.length % 5 = 0 → packWords (unpackWords bs) = bs
  | [], _ => rfl
  | [_], whole | [_, _], whole | [_, _, _], whole | [_, _, _, _], whole => nomatch whole
  | a :: b :: c :: e :: f :: rest, whole => by
    have group : beBytes 5 (beVal [a, b, c, e, f]) = [a, b, c, e, f] := beBytes_beVal [a, b, c, e, f]
    have fits : beVal [a, b, c, e, f] < 2 ^ 40 := by
      simpa only [List.length_cons, List.length_nil, Nat.reduceAdd, Nat.reducePow] using beVal_lt [a, b, c, e, f]
    simp only [unpackWords, List.cons_append, List.nil_append]
    rw [packWords, words_bits fits, group, packWords_unpackWords rest ((Nat.add_mod_right ..).symm.trans whole)]
    rfl

end Sys2Proof.Machine
end

/-! ## The 8b/10b code (R153) -/

section

namespace Sys2Proof.Machine

/-- The characters that R153 allows are the data characters and the six control characters of a superframe. -/
theorem violation_eq_false {c : LaneChar} (clean : violation c = false) :
    (∃ b, c = .dat b) ∨ c ∈ [k285, k277, k281, k237, k280, k297] := by
  cases c with
  | bad => cases clean
  | dat b => exact .inl ⟨b, rfl⟩
  | ctl k => exact .inr (by simpa only [violation, Bool.not_eq_false', List.contains_iff_mem] using clean)

theorem fourOf_lt (plus : Bool) (x : Nat) {y : Nat} (hy : y < 8) : fourOf plus x y < 16 := by
  unfold fourOf
  generalize usesA7 plus x = alternative
  revert plus alternative y
  decide

/-- The fghj block tells the three high bits of a data character, whichever form of D.x.7 is used. -/
theorem find_fourOf (plus : Bool) (x : Nat) {y : Nat} (hy : y < 8) :
    ((List.range 8).find? fun i => fourOf plus x i == fourOf plus x y) = some y := by
  unfold fourOf
  generalize usesA7 plus x = alternative
  revert plus alternative y
  decide

/-- The abcdei block tells the five low bits of a data character. -/
theorem find_sixOf (plus : Bool) {x : Nat} (hx : x < 32) : ((List.range 32).find? fun i => sixOf plus i == sixOf plus x) = some x := by
  revert plus x
  decide

/-- No data character has the abcdei block of K.28. -/
theorem sixOf_ne_sixOf28 (plus : Bool) {x : Nat} (hx : x < 32) : sixOf plus x ≠ sixOf28 plus := by
  revert plus x
  decide

theorem decodeGroup_dat {plus : Bool} {g x y : Nat} (hx : x < 32) (hy : y < 8) (hi : g / 16 = sixOf plus x)
    (lo : g % 16 = fourOf (disparityAfter 6 plus (sixOf plus x)) x y) : decodeGroup plus g = .dat (BitVec.ofNat 8 (32 * y + x)) := by
  simp only [decodeGroup, hi, lo, sixOf_ne_sixOf28 plus hx, if_false, find_sixOf plus hx, find_fourOf _ x hy]

theorem decode_encodeChar_dat (plus : Bool) (b : Byte) :
    decodeGroup plus (encodeChar plus (.dat b)).1 = .dat b ∧
      groupDisparity plus (encodeChar plus (.dat b)).1 = (encodeChar plus (.dat b)).2 := by
  have hx : b.toNat % 32 < 32 := Nat.mod_lt _ (by decide)
  have hy : b.toNat / 32 < 8 := Nat.div_lt_of_lt_mul b.isLt
  have byte : BitVec.ofNat 8 (32 * (b.toNat / 32) + b.toNat % 32) = b := by
    rw [Nat.div_add_mod, BitVec.ofNat_toNat, BitVec.setWidth_eq]
  have lt := fourOf_lt (disparityAfter 6 plus (sixOf plus (b.toNat % 32))) (b.toNat % 32) hy
  have hi : (encodeChar plus (.dat b)).1 / 16 = sixOf plus (b.toNat % 32) := by
    rw [encodeChar, Nat.mul_add_div (by decide), Nat.div_eq_of_lt lt, Nat.add_zero]
  have lo : (encodeChar plus (.dat b)).1 % 16 =
      fourOf (disparityAfter 6 plus (sixOf plus (b.toNat % 32))) (b.toNat % 32) (b.toNat / 32) := by
    rw [encodeChar, Nat.mul_add_mod, Nat.mod_eq_of_lt lt]
  constructor
  · rw [decodeGroup_dat hx hy hi lo, byte]
  · rw [groupDisparity, hi, lo]
    rfl

theorem decode_encodeChar_control (plus : Bool) {c : LaneChar} (control : c ∈ [k285, k277, k281, k237, k280, k297]) :
    decodeGroup plus (encodeChar plus c).1 = c ∧ groupDisparity plus (encodeChar plus c).1 = (encodeChar plus c).2 := by
  revert plus c
  decide

theorem decode_encodeChar (plus : Bool) {c : LaneChar} (clean : violation c = false) :
    decodeGroup plus (encodeChar plus c).1 = c ∧ groupDisparity plus (encodeChar plus c).1 = (encodeChar plus c).2 := by
  rcases violation_eq_false clean with ⟨b, rfl⟩ | control
  · exact decode_encodeChar_dat plus b
  · exact decode_encodeChar_control plus control

theorem decodeGroups_encodeChars (plus : Bool) {cs : List LaneChar} (clean : ∀ c ∈ cs, violation c = false) :
    decodeGroups plus (encodeChars plus cs).1 = (cs, (encodeChars plus cs).2) := by
  induction cs generalizing plus with
  | nil => rfl
  | cons c cs ih =>
    obtain ⟨head, tail⟩ := List.forall_mem_cons.mp clean
    obtain ⟨char, disparity⟩ := decode_encodeChar plus head
    rw [encodeChars, decodeGroups, char, disparity, ih _ tail]

/-- Settles O24: packing group by group, and the code character by character under the disparity that it leaves. -/
theorem wordsAndBytesAgree : Obligations.WordsAndBytesAgree := by
  refine ⟨fun a b c e _ _ _ _ => ?_, fun ws whole fit => ⟨unpackWords_packWords ws whole fit, length_packWords ws⟩,
    packWords_unpackWords, fun cs plus clean => decodeGroups_encodeChars plus clean⟩
  exact List.append_nil _

end Sys2Proof.Machine
end

/-! ## The receive lanes (R161, R165–R170) -/

section

namespace Sys2Proof.Machine

/-! ### What a lane is: its state, and its state when the CORE cycle began -/

@[simp] theorem Dev.laneState_hset (d : Dev) (f : Fld) (i v n : Nat) : (d.hset f i v).laneState n = d.laneState n :=
  Dev.get_hset ..

theorem Dev.laneState_set_other (d : Dev) {f : Fld} (other : F.REED_LANE_STATUS_RX_STATE.id ≠ f.id) (i v n : Nat) :
    (d.set f i v).laneState n = d.laneState n :=
  Dev.get_set_other d other i v n

theorem Dev.cycleState_hset_other (d : Dev) {f : Fld} (since : H.reedSince.id ≠ f.id) (prev : H.reedPrev.id ≠ f.id)
    (origin : H.reedFrom.id ≠ f.id) (i v n : Nat) : (d.hset f i v).cycleState n = d.cycleState n := by
  simp only [Dev.cycleState, Dev.hget_hset_other d since, Dev.hget_hset_other d prev, Dev.hget_hset_other d origin, Dev.hset_clock,
    Dev.laneState_hset]

@[simp] theorem Dev.rxEnabled_hset (d : Dev) (f : Fld) (i v n : Nat) : (d.hset f i v).rxEnabled n = d.rxEnabled n := by
  simp only [Dev.rxEnabled, Dev.get_hset]

@[simp] theorem Dev.get_laneBump (d : Dev) (c : Ctr) (n k : Nat) (f : Fld) (i : Nat) : (d.laneBump c n k).get f i = d.get f i := by
  rw [Dev.laneBump]
  split
  · exact Dev.get_bump ..
  · rfl

/-! ### Transitions (R166, R167, R169) -/

section

variable {d : Dev} {n : Nat}

theorem Dev.trainingStart_down (down : d.laneState n = 0) (enabled : d.rxEnabled n = true) (signal : d.hget H.reedSignal n = 1) :
    d.trainingStart n = (d.passToCore (d.hget H.reedSince n + 10000000)).laneTo n 1 0 :=
  if_pos (by simp [down, enabled, signal])

theorem Dev.trainingTimeout_training (began : d.cycleState n = 1) (training : d.laneState n = 1) :
    d.trainingTimeout n = (d.passToCore (d.cycleSince n + 200000000)).laneDown n 5 :=
  if_pos ⟨began, .inl training⟩

theorem Dev.alignmentTimeout_unaligned (aligning : d.laneState n = 2) (automatic : d.get F.REED_LANE_CTRL_AUTO_ALIGN n = 1)
    (busy : d.get F.REED_LANE_STATUS_IDLE_SEEN n = 0) :
    d.alignmentTimeout n = (d.passToCore (d.hget H.reedAlign n + 50000000)).laneDown n 6 :=
  if_pos ⟨aligning, automatic, busy⟩

/-- A lane that receives only idle stays in ALIGNING (R168). -/
theorem Dev.alignmentTimeout_idle (aligning : d.laneState n = 2) (idle : d.get F.REED_LANE_STATUS_IDLE_SEEN n = 1) :
    d.alignmentTimeout n = d := by
  simp [Dev.alignmentTimeout, aligning, idle]

theorem Dev.signalLost_receiving (began : 1 ≤ d.cycleState n) :
    d.signalLost n = ((d.hset H.reedSignal n 0).hset H.reedCdr n 0).laneDown n 1 :=
  if_pos (by simpa (disch := decide) only [Dev.cycleState_hset_other] using began)

theorem Dev.cdrLost_trained (began : 2 ≤ d.cycleState n) :
    d.cdrLost n = ((d.hset H.reedCdr n 0).hset H.reedGood n 0).laneDown n 2 :=
  if_pos (by simpa (disch := decide) only [Dev.cycleState_hset_other] using began)

theorem Dev.rateTryEnd_unlocked (training : d.laneState n = 1) (detect : d.get F.REED_LANE_CFG_RX_RATE n = 0)
    (unlocked : d.hget H.reedCdr n = 0) :
    let e := d.passToCore (d.hget H.reedTrySince n + 10000000)
    d.rateTryEnd n = (e.hset H.reedTry n (if d.hget H.reedTry n ≤ 1 then 3 else d.hget H.reedTry n - 1)).hset H.reedTrySince n
      e.clock.core := by
  rw [Dev.rateTryEnd, if_pos (by simp [training, detect, unlocked])]
  simp only [Dev.hget_passToCore]

theorem Dev.signalDetected_early (early : d.clock.core < d.hget H.reedSince n + 10000000) :
    d.signalDetected n = d.hset H.reedSignal n 1 :=
  if_neg (by simpa (disch := decide) only [Dev.hget_hset_other, Dev.hset_clock, Nat.not_le] using early)

theorem Dev.signalDetected_rested (rested : d.hget H.reedSince n + 10000000 ≤ d.clock.core) (down : d.laneState n = 0)
    (enabled : d.rxEnabled n = true) :
    d.signalDetected n = ((d.hset H.reedSignal n 1).passToCore (d.hget H.reedSince n + 10000000)).laneTo n 1 0 := by
  have since : (d.hset H.reedSignal n 1).hget H.reedSince n = d.hget H.reedSince n := Dev.hget_hset_other d (by decide) ..
  have train := Dev.trainingStart_down (d := d.hset H.reedSignal n 1) (by rwa [Dev.laneState_hset]) (by rwa [Dev.rxEnabled_hset])
    (Dev.hget_hset_same ..)
  rw [since] at train
  exact (if_pos (since.symm ▸ rested)).trans train

/-! ### To DOWN (R167) -/

section

variable (cause : Nat)

theorem Dev.laneDown_first (first : d.cycleState n = d.laneState n) : d.laneDown n cause = d.laneTo n 0 cause := if_pos first

theorem Dev.laneDown_prevails (again : d.cycleState n ≠ d.laneState n) (up : d.laneState n ≠ 0) :
    d.laneDown n cause = (d.unraise (128 + n) 0).laneTo n 0 cause :=
  (if_neg again).trans (if_pos up)

theorem Dev.laneDown_recorded (again : d.cycleState n ≠ d.laneState n) (down : d.laneState n = 0)
    (lower : d.get F.REED_LANE_STATUS_CAUSE n ≤ cause) : d.laneDown n cause = d := by
  rw [Dev.laneDown, if_neg again, if_neg (not_not_intro down), if_neg (Nat.not_lt.mpr lower)]

theorem Dev.laneDown_lowers (again : d.cycleState n ≠ d.laneState n) (down : d.laneState n = 0)
    (lower : cause < d.get F.REED_LANE_STATUS_CAUSE n) (reed : n < 384) :
    let e := (d.unraise (128 + n) 0).set F.REED_LANE_STATUS_CAUSE n cause
    d.laneDown n cause = e.raise (128 + n) [0, 0, cause, e.get F.REED_LANE_EYE_FOM n] := by
  rw [Dev.laneDown, if_neg again, if_neg (not_not_intro down), if_pos lower]
  exact if_pos reed

end

/-! ### A reading (R166, R168) -/

@[simp] theorem Dev.laneState_readEye (m : Nat) (f : FomIn) : (d.readEye n f).laneState m = d.laneState m := by
  simp (disch := decide) only [Dev.readEye, apply_ite (Dev.laneState · m), Dev.laneState_set_other, Dev.laneState_hset, ite_self]

@[simp] theorem Dev.laneState_readLock (m : Nat) (f : FomIn) : (d.readLock n f).laneState m = d.laneState m := by
  simp (disch := decide) only [Dev.readLock, apply_ite (Dev.laneState · m), Dev.laneState_set_other, Dev.laneState_hset, ite_self]

/-- What a usable reading with lock does in state `st`. -/
def Dev.usableReading (d : Dev) (n st fom : Nat) : Dev :=
  if st = 1 then
    let k := if fom ≥ 40 then d.hget H.reedGood n + 1 else 0
    if k ≥ 10 then d.laneTo n 2 0 else d.readCounts n k
  else if st = 3 then
    if fom < 40 then ((d.laneTo n 4 0).set F.REED_LANE_STATUS_DEG_FOM n 1).readCounts n 0 else d.readCounts n 0
  else if st = 4 then
    let k := if fom ≥ 40 ∧ d.hget H.reedDiscards n ≤ d.get F.REED_DEG_CFG_DEG_DISCARDS then d.hget H.reedGood n + 1 else 0
    if k ≥ 1000 then (d.laneTo n 3 0).readCounts n 0 else d.readCounts n k
  else d.readCounts n 0

section

variable {f : FomIn} (began : d.cycleState n ≠ 0)

include began

theorem Dev.fomReading_unlocked (unlocked : f.cdr = false) (trained : 2 ≤ d.cycleState n) :
    d.fomReading n f = ((d.readEye n f).readLock n f).laneDown n 2 := by
  rw [Dev.fomReading, if_neg began]
  exact if_pos (by simp [unlocked, trained])

theorem Dev.fomReading_unusable (locked : f.cdr = true) (low : f.fom.toNat < 20) :
    d.fomReading n f = ((d.readEye n f).readLock n f).laneDown n 3 := by
  rw [Dev.fomReading, if_neg began]
  simp only [locked, low, Bool.not_true, Bool.false_and, Bool.false_eq_true, if_false, if_true]

theorem Dev.fomReading_usable (locked : f.cdr = true) (usable : 20 ≤ f.fom.toNat) (same : d.laneState n = d.cycleState n) :
    d.fomReading n f = ((d.readEye n f).readLock n f).usableReading n (d.laneState n) f.fom.toNat := by
  rw [Dev.fomReading, if_neg began]
  simp [locked, Nat.not_lt.mpr usable, same, Dev.usableReading]

end

section

variable {fom : Nat}

theorem Dev.usableReading_trained (fine : 40 ≤ fom) (enough : 10 ≤ d.hget H.reedGood n + 1) :
    d.usableReading n 1 fom = d.laneTo n 2 0 := by
  simp [Dev.usableReading, fine, enough]

theorem Dev.usableReading_degrades (poor : fom < 40) :
    d.usableReading n 3 fom = ((d.laneTo n 4 0).set F.REED_LANE_STATUS_DEG_FOM n 1).readCounts n 0 := by
  simp [Dev.usableReading, poor]

theorem Dev.usableReading_up (fine : 40 ≤ fom) : d.usableReading n 3 fom = d.readCounts n 0 := by
  simp [Dev.usableReading, Nat.not_lt.mpr fine]

theorem Dev.usableReading_recovers (fine : 40 ≤ fom) (few : d.hget H.reedDiscards n ≤ d.get F.REED_DEG_CFG_DEG_DISCARDS)
    (enough : 1000 ≤ d.hget H.reedGood n + 1) : d.usableReading n 4 fom = (d.laneTo n 3 0).readCounts n 0 := by
  simp [Dev.usableReading, fine, few, enough]

end

/-! ### A superframe (R165) -/

theorem checkSuperframe_code {cs : List LaneChar} (code : cs.any violation = true ∨ cs.length ≠ 1024) :
    checkSuperframe n cs = .inr 1 :=
  if_pos code.symm

theorem Dev.checkGroups_expected {start : Nat} (expected : d.startExpected n start = true) (gs : List Nat) :
    d.checkGroups n start gs = checkSuperframe n (decodeGroups (d.rxDisparity n start gs) gs).1 :=
  if_pos (by rw [expected, Bool.true_or])

theorem Dev.checkGroups_misplaced {start : Nat} {gs : List Nat} (elsewhere : d.startExpected n start = false)
    (clean : (decodeGroups (d.rxDisparity n start gs) gs).1.any violation = false) : d.checkGroups n start gs = .inr 2 :=
  if_neg (by simp [elsewhere, clean])

/-- A lane on whose boundary 1,024 code groups that began at `start` have been framed, with the disparity after them. -/
def Dev.framed (d : Dev) (n start : Nat) (plus : Bool) : Dev :=
  let e := ((d.laneBump C.REED_SF_FRAMED n).hset H.reedNext n (start + 1025)).hset H.reedPlus n (ofBool plus)
  let e := if d.get F.REED_LANE_CTRL_AUTO_ALIGN n = 1 then e.set F.REED_LANE_STATUS_COMMA_ALIGNED n 1 else e
  e.set F.REED_LANE_STATUS_IDLE_SEEN n 0

section

variable {start : Nat} {gs : List Nat} (aligned : 2 ≤ d.laneState n)

include aligned

theorem Dev.superframeIn_accepted {h : SfHeader} {ds : List LaneChar} (accepted : d.checkGroups n start gs = .inl (h, ds)) :
    d.superframeIn n start gs =
      ((d.framed n start (decodeGroups (d.rxDisparity n start gs) gs).2).hset H.reedStart n (start + 1)).sfAccept n start h ds := by
  rw [Dev.superframeIn, if_neg (Nat.not_lt.mpr aligned)]
  simp only [accepted, beq_iff_eq, Dev.get_hset, Dev.get_laneBump, Dev.framed]

theorem Dev.superframeIn_discarded {k : Nat} (failed : d.checkGroups n start gs = .inr k) :
    d.superframeIn n start gs = (d.framed n start (decodeGroups (d.rxDisparity n start gs) gs).2).sfDiscard n k := by
  rw [Dev.superframeIn, if_neg (Nat.not_lt.mpr aligned)]
  simp only [failed, beq_iff_eq, Dev.get_hset, Dev.get_laneBump, Dev.framed]

end

/-! ### REED_LANE_CTRL (R161, R166, R170) -/

/-- The stored bits of a write of REED_LANE_CTRL. -/
def Dev.storeLaneCtrl (d : Dev) (n w : Nat) : Dev :=
  (((d.set F.REED_LANE_CTRL_ADAPT_FREEZE n (fieldOf F.REED_LANE_CTRL_ADAPT_FREEZE w)).set F.REED_LANE_CTRL_TX_INVERT n
    (fieldOf F.REED_LANE_CTRL_TX_INVERT w)).set F.REED_LANE_CTRL_RX_INVERT n (fieldOf F.REED_LANE_CTRL_RX_INVERT w)).set
    F.REED_LANE_CTRL_AUTO_ALIGN n (fieldOf F.REED_LANE_CTRL_AUTO_ALIGN w)

section

variable {w : Nat} (comma : Bool)

theorem Dev.writeLaneCtrl_retrain (retrain : bit w 1 = true) (slip : bit w 2 = false) (send : bit w 6 = false)
    (began : (d.storeLaneCtrl n w).cycleState n ≠ 0) : d.writeLaneCtrl n w comma = (d.storeLaneCtrl n w).laneDown n 7 := by
  simp only [Dev.writeLaneCtrl, slip, send, Bool.false_eq_true, if_false]
  exact if_pos ⟨retrain, began⟩

theorem Dev.writeLaneCtrl_send (retrain : bit w 1 = false) (slip : bit w 2 = false) (send : bit w 6 = true) :
    d.writeLaneCtrl n w comma = (d.storeLaneCtrl n w).hset H.lcmPending n 1 := by
  simp only [Dev.writeLaneCtrl, retrain, slip, send, Bool.false_eq_true, false_and, if_false, if_true, Dev.storeLaneCtrl]

theorem Dev.writeLaneCtrl_slip (retrain : bit w 1 = false) (slip : bit w 2 = true) (send : bit w 6 = false) :
    d.writeLaneCtrl n w comma = (d.storeLaneCtrl n w).bitslip n comma := by
  simp only [Dev.writeLaneCtrl, retrain, slip, send, Bool.false_eq_true, false_and, if_false, if_true, Dev.storeLaneCtrl]

end

end

/-- Settles O25: each row by the lane's state, a reading by its level and the state, and a superframe by the check that it fails. -/
theorem lanesReceive : Obligations.LanesReceive := by
  refine ⟨fun lane s down enabled signal => ?_, fun lane s began training => ?_, fun lane s aligning automatic busy => ?_,
    fun lane s aligning idle => ?_, fun lane s began => ?_, fun lane s began => ?_,
    fun d n cause => ⟨Dev.laneDown_first cause, Dev.laneDown_prevails cause, Dev.laneDown_recorded cause, Dev.laneDown_lowers cause⟩,
    fun lane s training detect unlocked => ?_, fun lane s early => ?_, fun lane s rested down enabled => ?_,
    fun lane f s began same => ?reading, fun lane start groups s aligned => ?superframe, fun d n start gs => ?check,
    fun m lane v s reach => ?write,
    fun d n w comma => ⟨Dev.writeLaneCtrl_retrain comma, Dev.writeLaneCtrl_send comma, Dev.writeLaneCtrl_slip comma⟩⟩
  · rw [exec_laneTrainingStart, Dev.trainingStart_down down enabled signal]
  · rw [exec_trainingTimeout, Dev.trainingTimeout_training began training]
  · rw [exec_alignmentTimeout, Dev.alignmentTimeout_unaligned aligning automatic busy]
  · rw [exec_alignmentTimeout, Dev.alignmentTimeout_idle aligning idle]
  · rw [exec_lossOfSignal, Dev.signalLost_receiving began]
  · rw [exec_cdrUnlock, Dev.cdrLost_trained began]
  · rw [exec_rateTryEnd, Dev.rateTryEnd_unlocked training detect unlocked]
  · rw [exec_signalDetected, Dev.signalDetected_early early]
  · rw [exec_signalDetected, Dev.signalDetected_rested rested down enabled]
  case reading =>
    rw [exec_fomReading]
    refine ⟨fun unlocked trained => ?_, fun locked low => ?_, fun locked fine state enough => ?_, fun locked usable poor state => ?_,
      fun locked fine state few enough => ?_, fun locked fine state => ?_⟩
    · rw [Dev.fomReading_unlocked began unlocked (same ▸ trained)]
    · rw [Dev.fomReading_unusable began locked low]
    · rw [Dev.fomReading_usable began locked (by omega) same, state, Dev.usableReading_trained fine enough]
    · rw [Dev.fomReading_usable began locked usable same, state, Dev.usableReading_degrades poor]
    · rw [Dev.fomReading_usable began locked (by omega) same, state, Dev.usableReading_recovers fine few enough]
    · rw [Dev.fomReading_usable began locked (by omega) same, state, Dev.usableReading_up fine]
  case superframe =>
    rw [exec_reedSuperframe]
    exact ⟨fun h ds accepted => congrArg s.becomes (Dev.superframeIn_accepted aligned accepted),
      fun k failed => congrArg s.becomes (Dev.superframeIn_discarded aligned failed)⟩
  case check =>
    refine ⟨fun code expected => ?_, fun expected => Dev.checkGroups_expected expected gs, Dev.checkGroups_misplaced⟩
    rw [Dev.checkGroups_expected expected, checkSuperframe_code code]
  case write =>
    exact ⟨congrArg s.becomes (Dev.busWrite_of reach ..), fun comma => congrArg s.becomes (Dev.busWrite_of reach ..),
      congrArg s.becomes (Dev.busWrite_of reach ..)⟩

end Sys2Proof.Machine
end

/-! Proofs of the statement on takes and salvos. -/

/-! ## TAKE, salvos and trigger pins (R219–R230) -/

section

namespace Sys2Proof.Machine

/-! ### A frame too far ahead (R110, R219) -/

/-- FRAME is a parameter of the command, which every port may issue and which asks for no lease. -/
structure Spec.TakesFrame (sp : Spec) : Prop where
  frame : (sp.pars.find? fun p => p.typ == 0x0001) = some Par.frame
  ports : sp.ports = [0, 1, 2, 3, 4]
  units : ∀ ts, sp.units ts = []
  unheld : ∀ d port ts, sp.unheld d port ts = false

theorem takeSpec_takesFrame : takeSpec.TakesFrame := ⟨rfl, rfl, fun _ => rfl, fun _ _ _ => rfl⟩

theorem salvoSpec_takesFrame : salvoSpec.TakesFrame := ⟨rfl, rfl, fun _ => rfl, fun _ _ _ => rfl⟩

theorem fireSpec_takesFrame : fireSpec.TakesFrame := ⟨rfl, rfl, fun _ => rfl, fun _ _ _ => rfl⟩

/-- A parameter as it is checked in frame `n`. -/
def Par.boundAt (n : Nat) (p : Par) : Par :=
  if p.typ = 0x0001 then { p with ok := fun v => p.ok v && beVal v ≤ n + 2 ^ 20 } else p

@[simp] theorem Par.boundAt_typ (n : Nat) (p : Par) : (p.boundAt n).typ = p.typ := by
  unfold Par.boundAt; split <;> rfl

/-- The bound on FRAME leaves the place of every parameter. -/
theorem Spec.find?_parsAt (sp : Spec) (n typ : Nat) :
    ((sp.parsAt n).find? fun p => p.typ == typ) = (sp.pars.find? fun p => p.typ == typ).map (Par.boundAt n) := by
  show ((sp.pars.map (Par.boundAt n)).find? fun p => p.typ == typ) = _
  simp only [List.find?_map, Function.comp_def, Par.boundAt_typ]

/-- An absent TLV reads as 0. -/
theorem hasTlv_of_tlvNum_pos {ts : List Tlv} {typ : Nat} (pos : 0 < tlvNum ts typ) : hasTlv ts typ = true := by
  cases found : ts.find? fun t => t.typ == typ with
  | none =>
    have zero : tlvNum ts typ = 0 := by rw [tlvNum, tlv?, found, Option.map_none, Option.map_none, Option.getD_none]
    exact absurd zero (Nat.ne_of_gt pos)
  | some t => exact List.any_eq_true.mpr ⟨t, List.mem_of_find?_eq_some found, List.find?_some (p := fun t : Tlv => t.typ == typ) found⟩

/-- A FRAME more than 2²⁰ frames ahead is out of range. -/
theorem valueFault_of_frameTooFar {sp : Spec} (takes : sp.TakesFrame) {ts : List Tlv} {n : Nat} (far : n + 2 ^ 20 < frameTlv ts) :
    ∃ i, valueFault (sp.parsAt n) 0 ts = some i := by
  obtain ⟨t, ht, typ, val⟩ := exists_tlv_of_hasTlv (hasTlv_of_tlvNum_pos (Nat.zero_lt_of_lt far))
  have named : ((sp.parsAt n).find? fun p => p.typ == t.typ) = some (Par.frame.boundAt n) := by
    rw [typ, Spec.find?_parsAt, takes.frame, Option.map_some]
  have beyond : ¬beVal t.val ≤ n + 2 ^ 20 := val ▸ Nat.not_le.mpr far
  have bad : (Par.frame.boundAt n).ok t.val = false := by
    show (Par.frame.ok t.val && decide (beVal t.val ≤ n + 2 ^ 20)) = false
    rw [decide_eq_false beyond, Bool.and_false]
  exact Option.isSome_iff_exists.mp (valueFault_isSome ht named bad 0)

theorem Dev.command_frameTooFar {d e : Dev} {q : Req} {sp : Spec} (takes : sp.TakesFrame) (taken : d.TakesUp q sp.op e)
    (ready : e.ready = true) (role : e.rolePermits q.port sp.op = true) :
    let r := parseTlvs (q.payload.length + 1) 0 q.payload
    sp.form r.1 r.2 = none → e.frameNow + 2 ^ 20 < frameTlv r.1 →
    ∃ i, valueFault (sp.parsAt e.frameNow) 0 r.1 = some i ∧
      ∀ body, d.command q sp body = e.reply q sp.op St.badParam [statusDetail i 0xFF 0] := by
  intro r form far
  obtain ⟨i, fault⟩ := valueFault_of_frameTooFar takes far
  have ports : sp.ports.contains q.port.val = true := by
    rw [takes.ports]
    match q.port with
    | 0 | 1 | 2 | 3 | 4 => rfl
  have units : ((sp.units r.1).any fun u => e.holder u != 7) = false := by rw [takes.units, List.any_nil]
  refine ⟨i, fault, fun body => ?_⟩
  rw [Dev.command_takesUp taken, Dev.judge_valueFault ports ready role form units (takes.unheld ..) fault]
  rfl

end Sys2Proof.Machine
end

section

namespace Sys2Proof.Machine

/-! ### The checks of a route (R221) -/

/-- Check 2, of the target frame and of the effective frame. -/
theorem Dev.targetLate_iff (d : Dev) (target : Option Nat) (n : Nat) :
    (target.any fun t => d.isPast t || d.tooLate n) = true ↔ ∃ t, target = some t ∧ (t ≠ 0 ∧ t < d.frameNow ∨ d.tooLate n = true) := by
  cases target with
  | none => simp only [Option.any_none, Bool.false_eq_true, reduceCtorEq, false_and, exists_false]
  | some t =>
    simp only [Option.any_some, Dev.isPast, Bool.or_eq_true, Bool.and_eq_true, bne_iff_ne, ne_eq, decide_eq_true_eq, Option.some.injEq,
      exists_eq_left']

theorem Dev.checkRoute_eq (d : Dev) (port i src n : Nat) (target : Option Nat) : d.checkRoute port i src n target =
    if d.routeNamed d.inEffect i src = false then some St.badParam
    else if (∃ t, target = some t ∧ (t ≠ 0 ∧ t < d.frameNow ∨ d.tooLate n = true)) then some St.late
    else if d.barredBy port i = true then some St.protected_
    else if d.compatible (d.viewAt n) i src = false then some St.formatMismatch
    else if d.unreserved (d.viewAt n) i src = true then some St.bandwidth else none := by
  simp only [Dev.checkRoute, Dev.checkSource, Bool.not_eq_true', Dev.targetLate_iff]

/-! ### The commands, by what their own conditions find -/

section

variable {d e : Dev} {q : Req} {ts : List Tlv}

/-- The place of the first ROUTE that makes the list ill-formed: a destination is named twice, among `seen` too, or the routes are too
many. -/
def routesFault (seen : List Nat) (ts : List Tlv) : Option Nat := (twiceNamed 0 seen ts).orElse fun _ => routeOver ts

theorem Dev.salvo_started (acc : d.Accepts q salvoSpec ts e) (fits : routesFault [] ts = none) :
    d.salvo q = e.startSalvo (e.newTake q 0x0202 true true) (frameTlv ts) (routesOf (tlvAll ts 0x0101))
      fun d n r => d.checkRoute q.port r.1 r.2 n (some (frameTlv ts)) := by
  rw [routesFault] at fits
  rw [Dev.salvo, Dev.command_of acc]
  simp only [fits]

theorem Dev.salvo_refused (acc : d.Accepts q salvoSpec ts e) {i : Nat} (fault : routesFault [] ts = some i) :
    d.salvo q = e.reply q 0x0202 St.badParam [statusDetail i 0xFF 0] := by
  rw [routesFault] at fault
  rw [Dev.salvo, Dev.command_of acc]
  simp only [fault]

/-- The outcome of each route of a SALVO_PREPARE: checks 1, 3, 4 and 5, and an entry for every route that passes them or for none (R228). -/
def Dev.prepareChecks (d : Dev) (port : Nat) (routes : List (Nat × Nat)) : List (Option Nat) :=
  let cs := routes.map fun r => d.checkRoute port r.1 r.2 d.frameNow none
  if (passed (routes.map fun r => (r.1, r.2, d.frameNow)) cs).length > d.xpt.free then cs.map fun c => some (c.getD St.exhausted) else cs

theorem Dev.salvoPrepare_held (acc : d.Accepts q prepareSpec ts e)
    (joins : (e.xpt.heldOf (tlvNum ts 0x0102)).isEmpty = true ∨ hasTlv ts 0x0103 = true)
    (fits : routesFault ((e.xpt.heldOf (tlvNum ts 0x0102)).map HeldRoute.dest) ts = none)
    (few : (e.xpt.heldOf (tlvNum ts 0x0102)).length + (routesOf (tlvAll ts 0x0101)).length ≤ 1536) :
    let held := e.xpt.heldOf (tlvNum ts 0x0102)
    let routes := routesOf (tlvAll ts 0x0101)
    let cs := e.prepareChecks q.port routes
    let statuses := cs.map fun c => c.getD St.ok
    let h := e.holdRoutes (tlvNum ts 0x0102) (((held.map HeldRoute.port).head?).getD q.port)
      (((held.map HeldRoute.tag).head?).getD q.tag) (passed (routes.map fun r => (r.1, r.2, e.frameNow)) cs)
    d.salvoPrepare q = h.takeRespond { h.newTake q 0x0203 true false with
      routes := List.zipWith (fun r s => ⟨r.1, r.2, s⟩) routes statuses } ((statuses.find? (· != St.ok)).getD St.ok) true := by
  have may : (!(e.xpt.heldOf (tlvNum ts 0x0102)).isEmpty && !hasTlv ts 0x0103) = false := by
    rcases joins with empty | append
    · rw [empty]; rfl
    · rw [append, Bool.not_true, Bool.and_false]
  rw [routesFault] at fits
  rw [Dev.salvoPrepare, Dev.command_of acc]
  simp only [may, Bool.false_eq_true, if_false, fits, gt_iff_lt, if_neg (Nat.not_lt.mpr few), Dev.prepareChecks]

theorem Dev.salvoFire_empty (acc : d.Accepts q fireSpec ts e) (empty : e.xpt.heldOf (tlvNum ts 0x0102) = []) :
    d.salvoFire q = e.reply q 0x0204 St.badParam [statusDetail (tlvIndex ts 0x0102) 0xFF 0] := by
  rw [Dev.salvoFire, Dev.command_of acc]
  exact if_pos (List.isEmpty_iff.mpr empty)

theorem Dev.salvoFire_held (acc : d.Accepts q fireSpec ts e) (held : e.xpt.heldOf (tlvNum ts 0x0102) ≠ []) :
    d.salvoFire q = e.fire (e.newTake q 0x0204 true true) (tlvNum ts 0x0102) (frameTlv ts) := by
  rw [Dev.salvoFire, Dev.command_of acc]
  exact if_neg (mt List.isEmpty_iff.mp held)

theorem Dev.salvoDiscard_held (acc : d.Accepts q discardSpec ts e) (held : (e.xpt.heldOf (tlvNum ts 0x0102)).length ≠ 0) :
    d.salvoDiscard q = (((e.bump C.XPT_TL_CANCELLED 0 (e.xpt.heldOf (tlvNum ts 0x0102)).length).onXpt fun x => { x with
      held := x.held.filter fun h => h.salvo != tlvNum ts 0x0102 }).live (.discard (tlvNum ts 0x0102))).reply q 0x0205 St.ok := by
  rw [Dev.salvoDiscard, Dev.command_of acc]
  exact if_neg held

theorem Dev.takeCancel_late (acc : d.Accepts q cancelSpec ts e) (late : e.tooLate (frameTlv ts) = true) :
    d.takeCancel q = e.reply q 0x0206 St.late := by
  rw [Dev.takeCancel, Dev.command_of acc]
  exact if_pos late

/-- An entry is cancelled: it is counted, the partner learns of it, and its route settles. -/
def Dev.cancelEntry (n : Nat) (d : Dev) (t : Entry) : Dev :=
  ((d.bump C.XPT_TL_CANCELLED).live (.cancel t.dest n t.port t.tag)).entryEnds t St.superseded

theorem Dev.takeCancel_inTime (acc : d.Accepts q cancelSpec ts e) (inTime : e.tooLate (frameTlv ts) = false) :
    let r := tlvRange ts
    d.takeCancel q = ((e.xpt.entries.filter fun t => t.frame == frameTlv ts && r.1 ≤ t.dest && t.dest < r.1 + r.2).foldl
      (Dev.cancelEntry (frameTlv ts)) e).reply q 0x0206 St.ok := by
  rw [Dev.takeCancel, Dev.command_of acc]
  exact if_neg (Bool.eq_false_iff.mp inTime)

end

/-- Settles O31: a frame too far ahead by the check of FRAME's value, and each command by what its own conditions find. -/
theorem takeCommandsAct : Obligations.TakeCommandsAct := by
  refine ⟨fun q s ts e acc => ?take, fun p hp q s e taken ready role => ?far, Dev.checkRoute_eq,
    fun q s ts e acc fits => ?salvo, fun q s ts e i acc fault => ?refused, fun q s ts e acc => ?prepare, fun q s ts e acc => ?fire,
    fun q s ts e acc => ?discard, fun q s ts e acc => ?cancel, fun q s ts e acc => ?list, fun q s ts e acc => ?trigger⟩
  case take => rw [exec_take, Dev.take, Dev.command_of acc]
  case far =>
    intro r form far
    have refused : ∀ body, p.1.TakesFrame → exec (p.2 q) s = s.becomes (s.dev.command q p.1 body) →
        ∃ i, valueFault (p.1.parsAt e.frameNow) 0 r.1 = some i ∧
          exec (p.2 q) s = s.becomes (e.reply q p.1.op St.badParam [statusDetail i 0xFF 0]) := by
      intro body takes is
      obtain ⟨i, fault, answer⟩ := Dev.command_frameTooFar takes taken ready role form far
      exact ⟨i, fault, by rw [is, answer]⟩
    simp only [List.mem_cons, List.not_mem_nil, or_false] at hp
    rcases hp with rfl | rfl | rfl
    · exact refused _ takeSpec_takesFrame (exec_take q s)
    · exact refused _ salvoSpec_takesFrame (exec_salvo q s)
    · exact refused _ fireSpec_takesFrame (exec_salvoFire q s)
  case salvo => rw [exec_salvo, Dev.salvo_started acc fits, Dev.startSalvo]
  case refused => rw [exec_salvo, Dev.salvo_refused acc fault]
  case prepare =>
    intro held routes joins fits few
    rw [exec_salvoPrepare, Dev.salvoPrepare_held acc joins fits few]
    rfl
  case fire =>
    refine ⟨fun empty => ?_, fun held => ?_⟩ <;> rw [exec_salvoFire]
    · rw [Dev.salvoFire_empty acc empty]
    · rw [Dev.salvoFire_held acc held]
  case discard => exact fun held => by rw [exec_salvoDiscard, Dev.salvoDiscard_held acc held]
  case cancel =>
    refine ⟨fun late => ?_, fun inTime => ?_⟩ <;> rw [exec_takeCancel]
    · rw [Dev.takeCancel_late acc late]
    · rw [Dev.takeCancel_inTime acc inTime]
      rfl
  case list => rw [exec_takeListGet, Dev.takeListGet, Dev.command_of acc]
  case trigger => rw [exec_triggerBind, Dev.triggerBind, Dev.command_of acc]

end Sys2Proof.Machine
end

/-! Proofs of the statement on the multiviewer heads. -/

/-! ## Composition and scalers (R247, R253) -/

section

namespace Sys2Proof.Machine

theorem Dev.compositionComplete_composing {d : Dev} {h : Nat} (composing : d.hget H.mvComposing h = 1) :
    d.compositionComplete h = (((d.hset H.mvComposing h 0).hset H.mvReady h 1).hset H.mvDone h 1).set F.MV_HEAD_STATUS_RUN h 0 := by
  have busy : ¬(d.hget H.mvComposing h == 0) = true := by rw [composing]; decide
  exact if_neg busy

/-- A scaler is retired. -/
def Dev.retireScaler (d : Dev) : Dev := d.set F.MV_SCALER_POOL_RETIRED 0 (d.get F.MV_SCALER_POOL_RETIRED + 1)

/-- The heads with an enabled tile that logical scaler `n` serves. -/
def Dev.headsServed (d : Dev) (n : Nat) : List Nat :=
  (List.range 16).filter fun h => d.tilesOn.any fun i =>
    i / 64 == h && d.hget H.tileScaled i == 1 && d.get F.MV_TILE_STATUS_SCALER i == n

section

variable {d : Dev} (untested : d.get F.MV_SCALER_POOL_RETIRED + d.hget H.scalerTest ≠ 8)

include untested

theorem Dev.scalerFailure_untested (n : Nat) : d.scalerFailure n =
    if d.get F.MV_SCALER_POOL_RETIRED < 8 then d.retireScaler
    else (d.retireScaler.hset H.scalerFault n 1).each ((d.retireScaler.hset H.scalerFault n 1).headsServed n)
      fun d h => (d.set F.MV_HEAD_STATUS_SCALER_FAULT h 1).raise 807 [n, h] := by
  rw [Dev.scalerFailure, if_neg untested]
  rfl

theorem Dev.scalerFailure_spare (n : Nat) (spare : d.get F.MV_SCALER_POOL_RETIRED < 8) : d.scalerFailure n = d.retireScaler := by
  rw [Dev.scalerFailure_untested untested, if_pos spare]

theorem Dev.scalerFailure_noSpare (n : Nat) (spent : 8 ≤ d.get F.MV_SCALER_POOL_RETIRED) : d.scalerFailure n =
    (d.retireScaler.hset H.scalerFault n 1).each ((d.retireScaler.hset H.scalerFault n 1).headsServed n)
      fun d h => (d.set F.MV_HEAD_STATUS_SCALER_FAULT h 1).raise 807 [n, h] := by
  rw [Dev.scalerFailure_untested untested, if_neg (Nat.not_lt.mpr spent)]

end

end Sys2Proof.Machine
end

/-! ## The checks of a tile (R252) -/

section

namespace Sys2Proof.Machine

/-- The raster of the head that composes tile `i`. -/
def tileHeadRaster (v : View) (i : Nat) : Nat × Nat := headRaster (v F.MV_HEAD_CFG_FORMAT (i / 64))

/-- The size of the proxy from which tile `i` is scaled (R251). -/
def Dev.tileProxySize (d : Dev) (v : View) (i : Nat) : Nat × Nat :=
  let raster := d.tileRaster v (tileCfg v i).source
  proxySize raster ((tileCfg v i).proxy raster)

/-- The last checks of R252: the scale, the read units of the head and the scalers of all heads. -/
def Dev.checkTileLoad (d : Dev) (ws : List ShadowWrite) (v : View) (i : Nat) (c : Nat × Nat) : Except (Nat × Nat) (Nat × Nat) :=
  let others := fun k => (d.headTiles ws v k).filter (· != i)
  let shares := fun k => (others k).map (fun j => (d.tileCharge j).1) ++ if k = i / 64 then [c.1] else []
  if !(tileCfg v i).scales (d.tileProxySize v i) then .error (St.badParam, 0x11)
  else if ((others (i / 64)).map fun j => (d.tileCharge j).2).sum + c.2 > 208 then .error (St.bandwidth, 0x10)
  else if ((List.range 16).map fun k => scalersFor (shares k)).sum > d.scalerPool then .error (St.exhausted, 0x12)
  else .ok c

variable {d : Dev} {ws : List ShadowWrite} {v : View} {i : Nat}

theorem Dev.checkTile_eq : d.checkTile ws v i =
    if !(tileCfg v i).placed (tileHeadRaster v i) then .error (St.badParam, 0x15)
    else if (tileCfg v i).source ≥ 1536 then .error (St.badParam, 0x13)
    else match proxyCharge (d.tileProxySize v i).1 with
      | none => .error (St.linebuf, 0)
      | some c => d.checkTileLoad ws v i c := rfl

theorem Dev.checkTileLoad_ok {k c : Nat × Nat} (passes : d.checkTileLoad ws v i k = .ok c) :
    k = c ∧ (tileCfg v i).scales (d.tileProxySize v i) = true := by
  simp only [Dev.checkTileLoad] at passes
  split at passes
  case isTrue => cases passes
  case isFalse scales =>
    split at passes
    case isTrue => cases passes
    case isFalse =>
      split at passes
      case isTrue => cases passes
      case isFalse => exact ⟨Except.ok.inj passes, by simpa only [Bool.not_eq_true', Bool.not_eq_false] using scales⟩

theorem Dev.checkTile_misplaced (misplaced : (tileCfg v i).placed (tileHeadRaster v i) = false) :
    d.checkTile ws v i = .error (St.badParam, 0x15) := by
  rw [Dev.checkTile_eq, misplaced]
  rfl

theorem Dev.checkTile_ok {c : Nat × Nat} (passes : d.checkTile ws v i = .ok c) :
    (tileCfg v i).placed (tileHeadRaster v i) = true ∧ (tileCfg v i).source < 1536 ∧ proxyCharge (d.tileProxySize v i).1 = some c ∧
      (tileCfg v i).scales (d.tileProxySize v i) = true := by
  rw [Dev.checkTile_eq] at passes
  split at passes
  case isTrue => cases passes
  case isFalse placed =>
    split at passes
    case isTrue => cases passes
    case isFalse source =>
      split at passes
      case h_1 => cases passes
      case h_2 k charge =>
        obtain ⟨rfl, scales⟩ := Dev.checkTileLoad_ok passes
        exact ⟨by simpa only [Bool.not_eq_true', Bool.not_eq_false] using placed, Nat.not_le.mp source, charge, scales⟩

variable (placed : (tileCfg v i).placed (tileHeadRaster v i) = true)

include placed

theorem Dev.checkTile_noSource (beyond : 1536 ≤ (tileCfg v i).source) : d.checkTile ws v i = .error (St.badParam, 0x13) := by
  rw [Dev.checkTile_eq, placed]
  exact if_pos beyond

theorem Dev.checkTile_noProxy (source : (tileCfg v i).source < 1536) (wide : proxyCharge (d.tileProxySize v i).1 = none) :
    d.checkTile ws v i = .error (St.linebuf, 0) := by
  rw [Dev.checkTile_eq, placed, wide]
  exact if_neg (Nat.not_le.mpr source)

end Sys2Proof.Machine
end

/-! ## Configuration of heads, tiles and guarded regions (R246, R252, R263) -/

section

namespace Sys2Proof.Machine

/-- Why the firmware turns the writes away, where the command is one that is charged (R207, R208). -/
def Dev.chargeFault (e : Dev) (charged : Bool) (n : Nat) (ws : List ShadowWrite) : Option (Nat × Nat) :=
  if charged then e.admission n ws else none

theorem Dev.chargeFault_eq_none_iff {e : Dev} {charged : Bool} {n : Nat} {ws : List ShadowWrite} :
    e.chargeFault charged n ws = none ↔ charged = false ∨ e.admission n ws = none := by
  cases charged
  · simp only [Dev.chargeFault, Bool.false_eq_true, if_false, true_or]
  · simp only [Dev.chargeFault, if_true, Bool.true_eq_false, false_or]

theorem Dev.chargeFault_charged {e : Dev} {charged : Bool} (n : Nat) (ws : List ShadowWrite) (h : charged = true) :
    e.chargeFault charged n ws = e.admission n ws := if_pos h

variable {d e : Dev} {q : Req} {ts : List Tlv}

/-! ### HEAD_CONFIG -/

/-- The command names a FORMAT or a RATE that no head composes. -/
def Dev.headUncomposed (e : Dev) (ts : List Tlv) : Bool := hasTlv ts 0x0102 && !e.headFormat (tlvNum ts 0x0102)

section

variable (acc : d.Accepts q headConfigSpec ts e)

include acc

theorem Dev.headConfig_of : d.headConfig q =
    if e.headUncomposed ts then e.reply q 0x0601 St.badParam [statusDetail (tlvIndex ts 0x0102) 0xFF 0]
    else match e.chargeFault (e.raisesClaim (e.changeFrame (frameTlv ts)) (headWrites ts)) (e.changeFrame (frameTlv ts)) (headWrites ts) with
      | some st => e.refuse q 0x0601 st
      | none => e.holdChange q 0x0601 (frameTlv ts) (headWrites ts) :=
  Dev.command_of acc _

theorem Dev.headConfig_uncomposed (bad : e.headUncomposed ts = true) :
    d.headConfig q = e.reply q 0x0601 St.badParam [statusDetail (tlvIndex ts 0x0102) 0xFF 0] := by
  rw [Dev.headConfig_of acc, if_pos bad]

variable (composed : e.headUncomposed ts = false)

include composed

theorem Dev.headConfig_refused {st : Nat × Nat} (raises : e.raisesClaim (e.changeFrame (frameTlv ts)) (headWrites ts) = true)
    (refused : e.admission (e.changeFrame (frameTlv ts)) (headWrites ts) = some st) : d.headConfig q = e.refuse q 0x0601 st := by
  simp only [Dev.headConfig_of acc, composed, Dev.chargeFault_charged _ _ raises, refused, Bool.false_eq_true, if_false]

theorem Dev.headConfig_held (fits : e.raisesClaim (e.changeFrame (frameTlv ts)) (headWrites ts) = false ∨
      e.admission (e.changeFrame (frameTlv ts)) (headWrites ts) = none) :
    d.headConfig q = e.holdChange q 0x0601 (frameTlv ts) (headWrites ts) := by
  simp only [Dev.headConfig_of acc, composed, Dev.chargeFault_eq_none_iff.mpr fits, Bool.false_eq_true, if_false]

end

/-! ### TILE_CONFIG: its checks in their order -/

/-- The tile that the command names. -/
def tileOf (ts : List Tlv) : Nat := 64 * tlvNum ts 0x0101 + tlvNum ts 0x0106

/-- The configuration planned for the target frame, with the command's writes. -/
def Dev.tileView (e : Dev) (ts : List Tlv) : View := (e.plannedAt (e.changeFrame (frameTlv ts))).over (tileWrites ts)

/-- The checks of R252, where the tile is enabled; a disabled one charges nothing. -/
def Dev.tileCheck (e : Dev) (ts : List Tlv) : Except (Nat × Nat) (Nat × Nat) :=
  if (tileCfg (e.tileView ts) (tileOf ts)).en then e.checkTile (e.heldWrites (tileWrites ts)) (e.tileView ts) (tileOf ts) else .ok (0, 0)

/-- An enabled tile shows a slot of PATH 1. -/
def Dev.tileCharged (e : Dev) (ts : List Tlv) : Bool :=
  let v := e.tileView ts
  (tileCfg v (tileOf ts)).en && v F.ING_SLOT_CFG_PATH (gangBase v F.ING_SLOT_CFG_GANG (tileCfg v (tileOf ts)).source) == 1

/-- The tile meets a guarded region. -/
def Dev.tileGuarded (e : Dev) (ts : List Tlv) : Bool := e.onGuard (e.heldWrites (tileWrites ts)) (e.tileView ts) (tileOf ts)

/-- The writes are held, and with them the charges admitted, unless the target frame is late or no frame is free for them. -/
def Dev.holdTile (e : Dev) (q : Req) (ts : List Tlv) (c : Nat × Nat) : Dev :=
  let d := e.holdChange q 0x0602 (frameTlv ts) (tileWrites ts)
  if d.tick.changes.length > e.tick.changes.length then d.hset H.tilePlan (tileOf ts) (1 + 16 * c.1 + c.2) else d

section

variable (acc : d.Accepts q tileConfigSpec ts e)

include acc

theorem Dev.tileConfig_of : d.tileConfig q =
    match e.tileCheck ts with
    | .error st => e.refuse q 0x0602 st
    | .ok c =>
      match e.chargeFault (e.tileCharged ts || e.raisesClaim (e.changeFrame (frameTlv ts)) (tileWrites ts))
        (e.changeFrame (frameTlv ts)) (tileWrites ts) with
      | some st => e.refuse q 0x0602 st
      | none => if e.tileGuarded ts then e.refuse q 0x0602 (St.badParam, 0x14) else e.holdTile q ts c :=
  Dev.command_of acc _

theorem Dev.tileConfig_unfit {st : Nat × Nat} (unfit : e.tileCheck ts = .error st) : d.tileConfig q = e.refuse q 0x0602 st := by
  simp only [Dev.tileConfig_of acc, unfit]

variable {c : Nat × Nat} (passes : e.tileCheck ts = .ok c)

include passes

theorem Dev.tileConfig_refused {st : Nat × Nat}
    (charged : e.tileCharged ts = true ∨ e.raisesClaim (e.changeFrame (frameTlv ts)) (tileWrites ts) = true)
    (refused : e.admission (e.changeFrame (frameTlv ts)) (tileWrites ts) = some st) : d.tileConfig q = e.refuse q 0x0602 st := by
  simp only [Dev.tileConfig_of acc, passes, Dev.chargeFault_charged _ _ (Bool.or_eq_true_iff.mpr charged), refused]

variable (fits : (e.tileCharged ts = false ∧ e.raisesClaim (e.changeFrame (frameTlv ts)) (tileWrites ts) = false) ∨
  e.admission (e.changeFrame (frameTlv ts)) (tileWrites ts) = none)

include fits

theorem Dev.tileConfig_admitted :
    d.tileConfig q = if e.tileGuarded ts then e.refuse q 0x0602 (St.badParam, 0x14) else e.holdTile q ts c := by
  simp only [Dev.tileConfig_of acc, passes, Dev.chargeFault_eq_none_iff.mpr (fits.imp_left Bool.or_eq_false_iff.mpr)]

theorem Dev.tileConfig_guarded (guarded : e.tileGuarded ts = true) : d.tileConfig q = e.refuse q 0x0602 (St.badParam, 0x14) := by
  rw [Dev.tileConfig_admitted acc passes fits, if_pos guarded]

theorem Dev.tileConfig_held (free : e.tileGuarded ts = false) : d.tileConfig q = e.holdTile q ts c := by
  rw [Dev.tileConfig_admitted acc passes fits, if_neg (Bool.eq_false_iff.mp free)]

end

/-! ### GUARD_CONFIG -/

/-- The guarded region that the command names meets an enabled tile. -/
def Dev.guardTiled (e : Dev) (ts : List Tlv) : Bool :=
  e.onTile (e.heldWrites (guardWrites ts)) ((e.plannedAt (e.changeFrame (frameTlv ts))).over (guardWrites ts))
    (64 * tlvNum ts 0x0101 + tlvNum ts 0x010D)

section

variable (acc : d.Accepts q guardConfigSpec ts e)

include acc

theorem Dev.guardConfig_of : d.guardConfig q =
    if e.guardTiled ts then e.refuse q 0x0604 (St.badParam, 0x14) else e.holdChange q 0x0604 (frameTlv ts) (guardWrites ts) :=
  Dev.command_of acc _

theorem Dev.guardConfig_refused (tiled : e.guardTiled ts = true) : d.guardConfig q = e.refuse q 0x0604 (St.badParam, 0x14) := by
  rw [Dev.guardConfig_of acc, if_pos tiled]

theorem Dev.guardConfig_held (free : e.guardTiled ts = false) :
    d.guardConfig q = e.holdChange q 0x0604 (frameTlv ts) (guardWrites ts) := by
  rw [Dev.guardConfig_of acc, if_neg (Bool.eq_false_iff.mp free)]

end

/-- Settles O33: the composition and the scalers by their state, and each command by the checks that it passes. -/
theorem multiviewerActs : Obligations.MultiviewerActs := by
  refine ⟨fun h s composing => ?composition, fun n s untested => ?scaler, fun q s ts e acc => ?head, fun q s ts e acc => ?tile,
    fun d ws v i => ?checks, fun q s ts e acc => ?cornice, fun q s ts e acc => ?guard, fun q s ts e acc => ?cset,
    fun q s ts e acc => ?headStatus⟩
  case composition => rw [exec_compositionComplete, Dev.compositionComplete_composing composing]
  case scaler =>
    refine ⟨fun spare => ?_, fun spent => ?_⟩ <;> rw [exec_scalerFailure]
    · rw [Dev.scalerFailure_spare untested _ spare, Dev.retireScaler]
    · rw [Dev.scalerFailure_noSpare untested _ spent]
      rfl
  case head =>
    refine ⟨fun bad => ?_, fun st composed raises refused => ?_, fun composed fits => ?_⟩ <;> rw [exec_headConfig]
    · rw [Dev.headConfig_uncomposed acc bad]
    · rw [Dev.headConfig_refused acc composed raises refused]
    · rw [Dev.headConfig_held acc composed fits]
  case tile =>
    refine ⟨fun st unfit => ?_, fun c st passes charged refused => ?_, fun c passes fits guarded => ?_,
      fun c passes fits free => ?_⟩ <;> rw [exec_tileConfig]
    · rw [Dev.tileConfig_unfit acc unfit]
    · rw [Dev.tileConfig_refused acc passes charged refused]
    · rw [Dev.tileConfig_guarded acc passes fits guarded]
    · rw [Dev.tileConfig_held acc passes fits free]
      rfl
  case checks => exact ⟨Dev.checkTile_misplaced, Dev.checkTile_noSource, Dev.checkTile_noProxy, fun c => Dev.checkTile_ok⟩
  case cornice => rw [exec_corniceConfig, Dev.corniceConfig, Dev.command_of acc]
  case guard =>
    refine ⟨fun tiled => ?_, fun free => ?_⟩ <;> rw [exec_guardConfig]
    · rw [Dev.guardConfig_refused acc tiled]
    · rw [Dev.guardConfig_held acc free]
  case cset => rw [exec_csetConfig, Dev.csetConfig, Dev.command_of acc]
  case headStatus => rw [exec_headStatusGet, Dev.headStatusGet, Dev.command_of acc]

end Sys2Proof.Machine
end

/-! Proofs of the statements on the Ethernet MACs. -/

/-! ## Received frames (R278–R283, R296) -/

section

namespace Sys2Proof.Machine

/-- A frame and its codewords are counted as it is received (R281). -/
def Dev.countRx (d : Dev) (n : Nat) (x : EthIn) : Dev :=
  ((d.bump C.ETH_RX_FRAMES n).bump C.ETH_FEC_CORR_CW n x.corrected).bump C.ETH_FEC_UNCORR_CW n x.uncorrected

/-- Uncorrectable codewords of a media instance are raised. -/
def Dev.raiseCodewords (d : Dev) (n : Nat) (x : EthIn) : Dev :=
  if n < 32 && x.uncorrected > 0 then d.raise (608 + n) [3, x.uncorrected] else d

/-- The length of a frame that MAX_FRAME bounds: for a management port, without what MACsec adds (R278). -/
def sizeRx (n : Nat) (x : EthIn) : Nat := if n < 32 then x.length else x.inner

/-- Check 6, of a management port alone (R296), then the rest. -/
def Dev.checkSec (d : Dev) (n : Nat) (x : EthIn) : Dev :=
  if n < 32 then d.afterSec n x
  else if !d.secPasses (n - 32) x.secTag then d.secDrop (n - 32) x.secTag
  else (d.secAccept (n - 32) x.secTag).afterSec n x

/-- Check 5: a MAC control frame goes no further (R281, R285). -/
def Dev.checkControl (d : Dev) (n : Nat) (x : EthIn) : Dev :=
  match x.body with
  | .pause quanta =>
    if x.dst = pauseMac || (d.macAddr n != 0 && x.dst == d.macAddr n) then (d.bump C.ETH_RX_MAC_CTRL n).pauseFrame n quanta.toNat
    else d.bump C.ETH_RX_FILTERED n
  | .control => d.bump C.ETH_RX_CTRL_UNSUP n
  | _ => d.checkSec n x

/-- Checks 2 to 4, of the length and of the FCS, then the rest. -/
def Dev.checkLength (d : Dev) (n : Nat) (x : EthIn) : Dev :=
  if x.length < 64 then d.bump C.ETH_RX_RUNT n
  else if sizeRx n x > d.maxAtSfd n x then d.bump C.ETH_RX_OVERSIZE n
  else if !x.fcsOk then d.bump C.ETH_RX_FCS_ERR n
  else d.checkControl n x

section

variable {d : Dev} {n : Nat} {x : EthIn}

theorem Dev.raiseCodewords_clean (clean : x.uncorrected = 0) : d.raiseCodewords n x = d :=
  if_neg (by simp [clean])

theorem Dev.raiseCodewords_bad (bad : 0 < x.uncorrected) :
    d.raiseCodewords n x = if n < 32 then d.raise (608 + n) [3, x.uncorrected] else d := by
  rw [Dev.raiseCodewords, decide_eq_true bad, Bool.and_true]
  simp only [decide_eq_true_eq]

theorem Dev.macFrameRx_noLink (down : d.instLink n = false) : d.macFrameRx n x = d := if_pos (by rw [down]; rfl)

section

variable (up : d.instLink n = true)

include up

/-- Check 1, of the PHY, then the rest. -/
theorem Dev.macFrameRx_linked : d.macFrameRx n x =
    if x.uncorrected > 0 || x.pcsError then ((d.countRx n x).raiseCodewords n x).bump C.ETH_RX_PHY_ERR n
    else ((d.countRx n x).raiseCodewords n x).checkLength n x :=
  if_neg (by rw [up]; decide)

theorem Dev.macFrameRx_codewords (bad : 0 < x.uncorrected) : d.macFrameRx n x =
    (if n < 32 then (d.countRx n x).raise (608 + n) [3, x.uncorrected] else d.countRx n x).bump C.ETH_RX_PHY_ERR n := by
  rw [Dev.macFrameRx_linked up, if_pos (by simp [bad]), Dev.raiseCodewords_bad bad]

variable (clean : x.uncorrected = 0)

include clean

theorem Dev.macFrameRx_pcsError (bad : x.pcsError = true) : d.macFrameRx n x = (d.countRx n x).bump C.ETH_RX_PHY_ERR n := by
  rw [Dev.macFrameRx_linked up, if_pos (by simp [bad]), Dev.raiseCodewords_clean clean]

theorem Dev.macFrameRx_received (pcs : x.pcsError = false) : d.macFrameRx n x = (d.countRx n x).checkLength n x := by
  rw [Dev.macFrameRx_linked up, if_neg (by simp [clean, pcs]), Dev.raiseCodewords_clean clean]

end

theorem Dev.checkLength_runt (short : x.length < 64) : d.checkLength n x = d.bump C.ETH_RX_RUNT n := if_pos short

section

variable (whole : 64 ≤ x.length)

include whole

theorem Dev.checkLength_oversize (long : d.maxAtSfd n x < sizeRx n x) : d.checkLength n x = d.bump C.ETH_RX_OVERSIZE n := by
  rw [Dev.checkLength, if_neg (Nat.not_lt.mpr whole), if_pos long]

variable (fits : sizeRx n x ≤ d.maxAtSfd n x)

include fits

theorem Dev.checkLength_fcs (bad : x.fcsOk = false) : d.checkLength n x = d.bump C.ETH_RX_FCS_ERR n := by
  rw [Dev.checkLength, if_neg (Nat.not_lt.mpr whole), if_neg (Nat.not_lt.mpr fits), if_pos (by rw [bad]; rfl)]

theorem Dev.checkLength_passed (good : x.fcsOk = true) : d.checkLength n x = d.checkControl n x := by
  rw [Dev.checkLength, if_neg (Nat.not_lt.mpr whole), if_neg (Nat.not_lt.mpr fits), if_neg (by rw [good]; decide)]

end

theorem Dev.checkControl_pause {quanta : BitVec 16} (body : x.body = .pause quanta) (group : x.dst = pauseMac) :
    d.checkControl n x = (d.bump C.ETH_RX_MAC_CTRL n).pauseFrame n quanta.toNat := by
  have addressed : (decide (x.dst = pauseMac) || (d.macAddr n != 0 && x.dst == d.macAddr n)) = true := by
    rw [decide_eq_true group, Bool.true_or]
  simp only [Dev.checkControl, body, addressed, if_true]

theorem Dev.checkControl_unsupported (body : x.body = .control) : d.checkControl n x = d.bump C.ETH_RX_CTRL_UNSUP n := by
  simp only [Dev.checkControl, body]

theorem Dev.checkControl_data (notControl : x.body ≠ .control) (notPause : ∀ quanta, x.body ≠ .pause quanta) :
    d.checkControl n x = d.checkSec n x := by
  cases body : x.body with
  | pause quanta => exact absurd body (notPause quanta)
  | control => exact absurd body notControl
  | ptp | udp | lath | other => simp only [Dev.checkControl, body]

theorem Dev.checkSec_eq : d.checkSec n x =
    if n < 32 then d.afterSec n x
    else if d.secPasses (n - 32) x.secTag = false then d.secDrop (n - 32) x.secTag
    else (d.secAccept (n - 32) x.secTag).afterSec n x := by
  simp only [Dev.checkSec, Bool.not_eq_true']

theorem Dev.afterSec_eq : d.afterSec n x =
    if d.vlanPasses n x.vlan = false then d.bump C.ETH_RX_VLAN_DROP n
    else if d.addressed n x.dst = false then d.bump C.ETH_RX_FILTERED n else d.handOn n x := by
  simp only [Dev.afterSec, Bool.not_eq_true']

end

/-- Settles O35: a frame by its link and its codewords, then by the first check that it fails. -/
theorem receivedFramesAreChecked : Obligations.ReceivedFramesAreChecked := by
  refine ⟨fun n x s down => ?noLink, fun n x s up => ?linked, fun d n x => Dev.afterSec_eq,
    fun d n x => ⟨fun before => if_neg (Nat.not_lt.mpr before), fun after => if_pos after⟩⟩
  case noLink => rw [exec_macFrameRx, Dev.macFrameRx_noLink down]
  case linked =>
    intro d size
    obtain ⟨counted, sized⟩ : d = s.dev.countRx n x ∧ size = sizeRx n x := ⟨rfl, rfl⟩
    clear_value d size
    subst counted sized
    refine ⟨fun bad => ?codewords, fun clean bad => ?pcs, fun clean pcs short => ?runt, fun clean pcs whole long => ?oversize,
      fun clean pcs whole fits bad => ?fcs, fun clean pcs whole fits good =>
        ⟨fun quanta body group => ?pause, fun body => ?control, fun notControl notPause => ?data⟩⟩ <;> rw [exec_macFrameRx]
    case codewords => rw [Dev.macFrameRx_codewords up bad]
    case pcs => rw [Dev.macFrameRx_pcsError up clean bad]
    all_goals rw [Dev.macFrameRx_received up clean pcs]
    case runt => rw [Dev.checkLength_runt short]
    case oversize => rw [Dev.checkLength_oversize whole long]
    case fcs => rw [Dev.checkLength_fcs whole fits bad]
    all_goals rw [Dev.checkLength_passed whole fits good]
    case pause => rw [Dev.checkControl_pause body group]
    case control => rw [Dev.checkControl_unsupported body]
    case data => rw [Dev.checkControl_data notControl notPause, Dev.checkSec_eq]

end Sys2Proof.Machine
end

/-! ## Transmit and pause (R274, R280, R285, R289–R291) -/

section

namespace Sys2Proof.Machine

/-! ### What a count leaves of an instance -/

section

variable (d : Dev) (c : Ctr) (i k n : Nat)

@[simp] theorem Dev.instThere_bump : (d.bump c i k).instThere n = d.instThere n := by
  simp only [Dev.instThere, Dev.instValid, Dev.get_bump]

@[simp] theorem Dev.maxFrame_bump : (d.bump c i k).maxFrame n = d.maxFrame n := by simp only [Dev.maxFrame, Dev.get_bump]

@[simp] theorem Dev.byteTime_bump (bytes : Nat) : (d.bump c i k).byteTime n bytes = d.byteTime n bytes := by
  simp only [Dev.byteTime, Dev.macRate, Dev.get_bump]

end

/-! ### A frame offered for transmit -/

theorem Dev.macFrameTx_started {d : Dev} {n : Nat} {x : TxIn} (may : min x.length (256 * d.get F.ETH_TX_START_STEPS n) ≤ x.fifo) :
    d.macFrameTx n x = d.offerFrame n ⟨x.length, d.now10, txKind x⟩ :=
  if_pos (decide_eq_true may)

section

variable {d : Dev} {n : Nat} {f : TxFrame}

/-- A frame of the MAC's own, not one of a transmit leg's pacer, that is offered to an instance which its mode does not create. -/
theorem Dev.offerFrame_absent (own : f.paced = false) (absent : (d.macAdvance n).instThere n = false) :
    d.offerFrame n f = d.macAdvance n := by
  simp only [Dev.offerFrame, own, absent, Bool.false_eq_true, if_false, Bool.not_false, Bool.and_self, if_true]

section

variable (own : f.paced = false) (there : (d.macAdvance n).instThere n = true)

include own there

theorem Dev.offerFrame_oversize (long : (d.macAdvance n).maxFrame n < f.length) :
    d.offerFrame n f = ((d.macAdvance n).bump C.ETH_TX_FRAMES_IN n).frameLost n C.ETH_TX_OVERSIZE f := by
  simp only [Dev.offerFrame, own, there, Dev.instThere_bump, Dev.maxFrame_bump, Bool.false_eq_true, if_false, if_true, Bool.not_true,
    Bool.false_and, gt_iff_lt, if_pos long]

variable (media : n < 32) (fits : f.length ≤ (d.macAdvance n).maxFrame n)

include media fits

/-- A media instance keeps no frame while its link is down. -/
theorem Dev.offerFrame_media : d.offerFrame n f =
    let e := (d.macAdvance n).bump C.ETH_TX_FRAMES_IN n
    if e.instSends n = false then e.frameLost n C.ETH_TX_LINK_DROP f else (e.setFrames n (e.macFrames n ++ [f])).macAdvance n := by
  have notMgt : decide (n ≥ 32) = false := decide_eq_false (Nat.not_le.mpr media)
  simp only [Dev.offerFrame, own, there, Dev.instThere_bump, Dev.maxFrame_bump, Bool.false_eq_true, if_false, if_true, Bool.not_true,
    Bool.false_and, gt_iff_lt, if_neg (Nat.not_lt.mpr fits), notMgt, Bool.not_false, Bool.true_or, Bool.and_true, Bool.not_eq_true']

end

end

/-! ### Underrun and TX_START -/

section

variable {d : Dev} {n : Nat}

/-- A frame that has started is cut: it is counted, and ends with a wrong FCS after the bytes sent (R290). -/
def Dev.cutFrame (d : Dev) (n : Nat) (x : TxIn) : Dev :=
  ((d.bump C.ETH_TX_FRAMES_IN n).bump C.ETH_TX_UNDERRUN n).hset H.macBusy n
    (max d.now10 (d.hget H.macBusy n) + ((d.bump C.ETH_TX_FRAMES_IN n).bump C.ETH_TX_UNDERRUN n).byteTime n (8 + max 60 x.fifo + 4))

/-- The packet number of a frame that its port protects is spent. -/
def Dev.spendPn (d : Dev) (n : Nat) : Dev := if d.macsecOn n then d.nextPn (n - 32) else d

/-- TX_START is raised, and the underrun reported (R290). -/
def Dev.reportUnderrun (d : Dev) (n : Nat) : Dev :=
  (d.raiseStart n).raise (macEvent n) [if n < 32 then 2 else 4, (d.raiseStart n).get F.ETH_TX_START_STEPS n]

/-- A frame that the MAC starts to send, but of which not all bytes come. -/
structure Dev.Starves (d : Dev) (n : Nat) (x : TxIn) : Prop where
  sends : d.instSends n = true
  unpaused : d.hget H.pauseTimer n = 0
  fits : x.length ≤ d.maxFrame n
  may : d.mayStart n x = true
  short : x.fifo < x.length
  pn : d.pnSpent n = false

/-- An underrun of a frame that is no event message. -/
theorem Dev.underrun_plain {x : TxIn} (starves : (d.macAdvance n).Starves n x) (plain : x.event = none) :
    d.underrun n x = (((d.macAdvance n).cutFrame n x).spendPn n).reportUnderrun n := by
  obtain ⟨sends, unpaused, fits, may, short, pn⟩ := starves
  have begun : (!(d.macAdvance n).instSends n || (d.macAdvance n).hget H.pauseTimer n > 0 || x.length > (d.macAdvance n).maxFrame n ||
      !(d.macAdvance n).mayStart n x || x.fifo ≥ x.length || (d.macAdvance n).pnSpent n) = false := by
    simp [sends, unpaused, fits, may, short, pn]
  rw [Dev.underrun, plain]
  exact if_neg (Bool.eq_false_iff.mp begun)

theorem Dev.cutFrame_eq (x : TxIn) : d.cutFrame n x = ((d.bump C.ETH_TX_FRAMES_IN n).bump C.ETH_TX_UNDERRUN n).hset H.macBusy n
    (max d.now10 (d.hget H.macBusy n) + d.byteTime n (8 + max 60 x.fifo + 4)) := by
  simp only [Dev.cutFrame, Dev.byteTime_bump]

theorem Dev.spendPn_cutFrame (x : TxIn) :
    (d.cutFrame n x).spendPn n = if d.macsecOn n then (d.cutFrame n x).nextPn (n - 32) else d.cutFrame n x := by
  have same : (d.cutFrame n x).macsecOn n = d.macsecOn n := by
    simp only [Dev.macsecOn, Dev.cutFrame, Dev.get_hset, Dev.get_bump]
  rw [Dev.spendPn, same]

/-- The value that TX_START takes is cut to 6 bits only above 63. -/
theorem Dev.get_setStart {v : Nat} (small : v ≤ 32) (raised written : Nat) :
    (d.setStart n v raised written).get F.ETH_TX_START_STEPS n = v := by
  rw [Dev.setStart, Dev.get_set_same]
  exact Nat.mod_eq_of_lt (Nat.lt_of_le_of_lt small (by decide))

section

variable (first : d.hget H.txStartCycle n ≠ d.clock.core + 1)

include first

theorem Dev.startBefore_first : d.startBefore n = d.get F.ETH_TX_START_STEPS n := if_neg first

theorem Dev.startRaised_first : d.startRaised n = 0 := if_neg first

theorem Dev.startWritten_first : d.startWritten n = 0 := if_neg first

theorem Dev.get_raiseStart_first : (d.raiseStart n).get F.ETH_TX_START_STEPS n = min 32 (d.get F.ETH_TX_START_STEPS n + 1) := by
  simp only [Dev.raiseStart, Dev.startBefore_first first, Dev.startRaised_first first, Dev.startWritten_first first, Nat.max_zero]
  exact Dev.get_setStart (Nat.min_le_left ..) ..

theorem Dev.get_writeStart_first (w : Nat) : (d.writeStart n w).get F.ETH_TX_START_STEPS n = min 32 (max 1 (bits w 0 6)) := by
  simp only [Dev.writeStart, Dev.startRaised_first first, Nat.max_zero]
  exact Dev.get_setStart (Nat.min_le_left ..) ..

end

/-- A write in the cycle of a raise leaves the larger of the two (R291). -/
theorem Dev.get_writeStart_raised (same : d.hget H.txStartCycle n = d.clock.core + 1) (small : d.hget H.txStartRaised n ≤ 32) (w : Nat) :
    (d.writeStart n w).get F.ETH_TX_START_STEPS n = max (min 32 (max 1 (bits w 0 6))) (d.hget H.txStartRaised n) := by
  have raised : d.startRaised n = d.hget H.txStartRaised n := if_pos same
  simp only [Dev.writeStart, raised]
  exact Dev.get_setStart (Nat.max_le.mpr ⟨Nat.min_le_left .., small⟩) ..

/-! ### The pause timer -/

theorem Dev.quantumEnds_paused (paused : (d.macAdvance n).hget H.pauseTimer n ≠ 0) : d.quantumEnds n =
    let e := d.macAdvance n
    (e.passToCore ((e.hget H.pauseFrom n + e.quantum n + 99) / 100)).macAdvance n :=
  if_neg paused

end

end Sys2Proof.Machine
end

/-! ## Links (R276, R286, R295) -/

section

namespace Sys2Proof.Machine

/-- The locks of an instance's lanes show in its port's status. -/
def Dev.showLocks (d : Dev) (m : Nat) : Dev :=
  d.each (lanesOf (d.get F.ETH_PORT_CFG_MODE (m / 4)) (m % 4)) fun d j => d.setLane (m / 4) j true

section

variable {d : Dev} {m : Nat}

section

variable (media : m < 32) (valid : d.instValid m = true)

include media valid

theorem Dev.linkUp_tooSoon {held : Nat} (soon : held < d.get F.ETH_LINK_HOLD_HOLD_MS 0) (lane : Nat) (x : MgtLink) :
    d.linkUp m lane held x = d.showLocks m := by
  rw [Dev.linkUp, if_pos soon, decide_eq_true media, valid]
  rfl

theorem Dev.linkUp_media {held : Nat} (long : d.get F.ETH_LINK_HOLD_HOLD_MS 0 ≤ held) (enabled : d.get F.ETH_PORT_CFG_ENABLE (m / 4) ≠ 0)
    (down : d.get F.ETH_MAC_STATUS_LINK m ≠ 1) (lane : Nat) (x : MgtLink) :
    d.linkUp m lane held x = (((d.showLocks m).set F.ETH_MAC_STATUS_LINK m 1).raise (608 + m) [0, lane]).txLegs m true := by
  have comes : (!d.instValid m || d.get F.ETH_PORT_CFG_ENABLE (m / 4) == 0 || d.get F.ETH_MAC_STATUS_LINK m == 1) = false := by
    simp [valid, enabled, down]
  rw [Dev.linkUp, if_neg (Nat.not_lt.mpr long), if_pos media]
  exact if_neg (Bool.eq_false_iff.mp comes)

end

/-- A lane of a media instance whose link is up takes it down. -/
theorem Dev.linkDown_media {lane : Nat} (media : m < 32)
    (own : (lanesOf (d.get F.ETH_PORT_CFG_MODE (m / 4)) (m % 4)).contains lane = true)
    (up : (d.setLane (m / 4) lane false).get F.ETH_MAC_STATUS_LINK m ≠ 0) (bursts : List Nat) : d.linkDown m lane bursts =
      ((((d.setLane (m / 4) lane false).dropQueue m).set F.ETH_MAC_STATUS_LINK m 0).raise (608 + m) [1, lane]).txLegs m false := by
  rw [Dev.linkDown, if_pos media, if_pos own]
  exact if_neg (mt beq_iff_eq.mp up)

theorem Dev.linkDown_mgt (mgt : 32 ≤ m) (lane : Nat) (bursts : List Nat) : d.linkDown m lane bursts = d.mgtDown (m - 32) bursts :=
  if_neg (Nat.not_lt.mpr mgt)

/-- A management port whose link is up goes down, and with it the leases of its command port. -/
theorem Dev.mgtDown_up {i : Nat} (up : d.get F.MGT_STATUS_LINK i ≠ 0) (bursts : List Nat) :
    let e := (d.onBehalf 3 bursts).dropQueue (32 + i)
    let e := ((e.set F.MGT_STATUS_LINK i 0).set F.MGT_STATUS_SPEED i 0).set F.MGT_STATUS_DOWNSHIFTED i 0
    d.mgtDown i bursts = ((e.hset H.macIdle i 0).raise (648 + i) [1, 0]).endPortLeases (1 + i) 2 :=
  if_neg (mt beq_iff_eq.mp up)

theorem Dev.renegFails_pending {i : Nat} (pending : d.get F.MGT_STATUS_RENEG i ≠ 0) :
    let e := (d.passToCore (d.hget H.macReneg i + 2 * 10 ^ 9)).dropQueue (32 + i)
    d.renegFails i = (((e.set F.MGT_STATUS_RENEG i 0).set F.MGT_STATUS_DOWNSHIFTED i 0).raise (648 + i) [1, 0]).endPortLeases (1 + i) 2 :=
  if_neg (mt beq_iff_eq.mp pending)

end

end Sys2Proof.Machine
end

/-! ## The speeds of a management port (R293, R294) -/

section

namespace Sys2Proof.Machine

/-- The windows of low use in a row, up to 60, after one with `sent` and `received` bits (R293). -/
def Dev.idleRun (d : Dev) (i sent received : Nat) : Nat :=
  if 20 * max sent received < 10 ^ 10 then min 60 (d.hget H.macIdle i + 1) else 0

/-- The MAC's work up to the end of the utilisation window. -/
def Dev.windowEnd (d : Dev) (i : Nat) : Dev := (d.passToCore ((d.clock.core / 10 ^ 9 + 1) * 10 ^ 9)).macAdvance (32 + i)

section

variable {d : Dev} {i sent received : Nat}

theorem Dev.utilisation_slow (slow : (d.windowEnd i).get F.MGT_STATUS_SPEED i ≠ 2) :
    d.utilisation i sent received = (d.windowEnd i).hset H.macIdle i 0 :=
  if_pos (bne_iff_ne.mpr slow)

theorem Dev.utilisation_fast (fast : (d.windowEnd i).get F.MGT_STATUS_SPEED i = 2) : d.utilisation i sent received =
    let run := (d.windowEnd i).idleRun i sent received
    let e := (d.windowEnd i).hset H.macIdle i run
    if run = 60 && e.get F.MGT_CFG_DOWNSHIFT_EN i == 1 && e.get F.MGT_STATUS_PEER_KX i == 1 then e.renegotiate i 2 true else e :=
  if_neg (by rw [bne_iff_ne, not_not]; exact fast)

theorem Dev.utilisation_busy (fast : (d.windowEnd i).get F.MGT_STATUS_SPEED i = 2)
    (few : (d.windowEnd i).idleRun i sent received ≠ 60) :
    d.utilisation i sent received = (d.windowEnd i).hset H.macIdle i ((d.windowEnd i).idleRun i sent received) := by
  rw [Dev.utilisation_fast fast]
  exact if_neg (by simp [few])

theorem Dev.utilisation_downshift (fast : (d.windowEnd i).get F.MGT_STATUS_SPEED i = 2)
    (idle : (d.windowEnd i).idleRun i sent received = 60) (may : (d.windowEnd i).get F.MGT_CFG_DOWNSHIFT_EN i = 1)
    (peer : (d.windowEnd i).get F.MGT_STATUS_PEER_KX i = 1) : d.utilisation i sent received =
      ((d.windowEnd i).hset H.macIdle i ((d.windowEnd i).idleRun i sent received)).renegotiate i 2 true := by
  rw [Dev.utilisation_fast fast]
  exact if_pos (by simp [idle, may, peer])

theorem Dev.upshift_full (downshifted : (d.macAdvance (32 + i)).get F.MGT_STATUS_DOWNSHIFTED i = 1)
    (settled : (d.macAdvance (32 + i)).get F.MGT_STATUS_RENEG i = 0)
    (full : 1024 * (d.macAdvance (32 + i)).get F.MGT_SHIFT_CFG_UPSHIFT_KB i <
      (((d.macAdvance (32 + i)).macFrames (32 + i)).map TxFrame.length).sum) :
    d.upshift i = (d.macAdvance (32 + i)).renegotiate i 3 false :=
  if_pos (by simp [downshifted, settled, full])

end

end Sys2Proof.Machine
end

/-! ## MACsec keys (R297) -/

section

namespace Sys2Proof.Machine

/-- The direction and the number of the SA that a write of MGT_SA_CTRL names are stored. -/
def Dev.nameSa (d : Dev) (i w : Nat) : Dev := (d.set F.MGT_SA_CTRL_DIR i (bits w 8 1)).set F.MGT_SA_CTRL_AN i (bits w 0 2)

section

variable {d : Dev} {i w : Nat}

theorem Dev.writeSaCtrl_go (go : bit w 31 = true) :
    d.writeSaCtrl i w = (d.nameSa i w).installSa i (bits w 0 2) ((d.nameSa i w).sakData i) (bit w 8) :=
  if_pos go

theorem Dev.writeSaCtrl_idle (idle : bit w 31 = false) : d.writeSaCtrl i w = d.nameSa i w :=
  if_neg (Bool.eq_false_iff.mp idle)

end

/-- Settles O36: each row by the state of the instance, its link, its timer or its port, and each write by what it stores. -/
theorem macsTransmitAndPause : Obligations.MacsTransmitAndPause := by
  refine ⟨fun n x s may => ?offered, fun d n f own media => ?offer, fun n x s => ?underrun, fun d n first => Dev.get_raiseStart_first first,
    fun n s paused => ?quantum, fun m lane held x s media long valid enabled down => ?linkUp,
    fun m lane held x s media valid soon => ?tooSoon, fun m lane bursts s mgt up => ?mgtDown,
    fun m lane bursts s media own up => ?mediaDown, fun b m v s reach => ?cfg, fun _ _ _ => rfl, fun b m v s reach => ?txStart,
    fun d n w => ⟨fun first => Dev.get_writeStart_first first w, fun same small => Dev.get_writeStart_raised same small w⟩,
    fun i sent received s => ?window, fun i s downshifted settled full => ?upshift, fun _ _ _ _ => rfl, fun i s pending => ?reneg,
    fun b i v s reach => ?sa⟩
  case offered => rw [exec_macFrameTx, Dev.macFrameTx_started may]
  case offer =>
    intro e
    refine ⟨Dev.offerFrame_absent own, fun there long => ?_, fun there fits silent => ?_, fun there fits sends => ?_⟩
    · rw [Dev.maxFrame_bump] at long
      exact Dev.offerFrame_oversize own there long
    all_goals
      rw [Dev.maxFrame_bump] at fits
      rw [Dev.offerFrame_media own there media fits]
    · exact if_pos silent
    · exact if_neg (by rw [sends]; decide)
  case underrun =>
    intro d st e e' sends unpaused fits may short pn plain
    rw [exec_transmitUnderrun, Dev.underrun_plain ⟨sends, unpaused, fits, may, short, pn⟩ plain,
      Dev.spendPn_cutFrame, Dev.cutFrame_eq, Dev.reportUnderrun]
  case quantum =>
    intro d
    rw [exec_pauseQuantumEnd, Dev.quantumEnds_paused paused]
  case linkUp =>
    intro d
    rw [exec_linkUp, Dev.linkUp_media media valid long enabled down]
    rfl
  case tooSoon =>
    rw [exec_linkUp, Dev.linkUp_tooSoon media valid soon]
    rfl
  case mgtDown =>
    intro i d d'
    rw [exec_linkDown, Dev.linkDown_mgt mgt, Dev.mgtDown_up up, Nat.add_sub_cancel' mgt]
  case mediaDown =>
    rw [exec_linkDown, Dev.linkDown_media media own up]
  case cfg =>
    intro d
    have written : exec (.ignorePauseWrite b m v) s = s.becomes
        ((if m.val < 32 then d.writeMacCfg m v.toNat else d.writeMgtCfg (m - 32) v.toNat).written b (macCfgOff m) v.toNat) :=
      (exec_ignorePauseWrite ..).trans (congrArg s.becomes (Dev.busWrite_of reach ..))
    exact ⟨fun media => by rw [written, if_pos media], fun mgt => by rw [written, if_neg (Nat.not_lt.mpr mgt)]⟩
  case txStart =>
    rw [exec_txStartWrite, Dev.busWrite_of reach]
    rfl
  case window =>
    intro d run
    refine ⟨fun slow => ?_, fun fast few => ?_, fun fast idle may peer => ?_⟩ <;> rw [exec_utilisationWindow]
    · rw [Dev.utilisation_slow slow]
      rfl
    · rw [Dev.utilisation_busy fast few]
      rfl
    · rw [Dev.utilisation_downshift fast idle may peer]
      rfl
  case upshift => rw [exec_upshift, Dev.upshift_full downshifted settled full]
  case reneg => rw [exec_renegTimeout, Dev.renegFails_pending pending]
  case sa =>
    intro w an d
    refine ⟨fun go rx => ?_, fun go tx => ?_, fun idle => ?_⟩ <;> rw [exec_saInstall, Dev.busWrite_of reach]
    · rw [Dev.writeSaCtrl_go go, rx]
      rfl
    · rw [Dev.writeSaCtrl_go go, tx]
      rfl
    · rw [Dev.writeSaCtrl_idle idle]
      rfl

end Sys2Proof.Machine
end

/-! Proofs of the statements on every step, the Mere bytes and the order of the tables. -/

/-! ## Every command, the queue and the Mere bytes (R77, R132, R202, R204) -/

section

namespace Sys2Proof.Machine

/-- A command other than the six that reach the Mere bytes changes the device alone. -/
theorem exec_device {c : Instr} (bar2 : ∀ off bytes, c ≠ .bar2Write off bytes) (bus : ∀ m x, c ≠ .targetError m x)
    (line : ∀ b l, c ≠ .ingestLine b l) (frame : ∀ b f, c ≠ .sourceFrameEnd b f) (por : ∀ x, c ≠ .porRelease x)
    (thermal : ∀ x, c ≠ .thermalRecovery x) (s : State) : ∃ d, exec c s = s.becomes d := by
  cases c
  case bar2Write off bytes => exact absurd rfl (bar2 off bytes)
  case targetError m x => exact absurd rfl (bus m x)
  case ingestLine b l => exact absurd rfl (line b l)
  case sourceFrameEnd b f => exact absurd rfl (frame b f)
  case porRelease x => exact absurd rfl (por x)
  case thermalRecovery x => exact absurd rfl (thermal x)
  all_goals exact ⟨_, rfl⟩

/-- What is carried to `t` is carried to `t` with any device. -/
theorem State.Carries.becomes {s t : State} (h : s.Carries t) (d : Dev) :
    ∃ u, t.becomes d = .next u ∧ s.Carries u :=
  ⟨_, rfl, h.trans (t.carries_dev _)⟩

theorem liftMere_carries (b : Nat) (f : Dev → Dev) (s : State) : ∃ t, liftMere b f s = .next t ∧ s.Carries t := by
  obtain ⟨m, next, wf⟩ := liftMere_next b f s
  exact ⟨_, next, rfl, wf⟩

/-- A start-up leaves the Mere bytes as they were, or none listed. -/
theorem State.carries_cleared (s : State) (d : Dev) (cleared : Bool) :
    s.Carries { s with dev := d, mere := if cleared then [] else s.mere } := by
  cases cleared
  · exact s.carries_dev d
  · exact ⟨rfl, fun _ => rfl⟩

theorem execThermalRecovery_carries (x : BootIn) (s : State) : ∃ t, execThermalRecovery x s = .next t ∧ s.Carries t := by
  unfold execThermalRecovery
  split
  · exact ⟨_, rfl, State.carries_cleared s _ _⟩
  · exact ⟨s, rfl, .refl s⟩

/-- Every command answers a next state with the queue as it was and the Mere bytes in their form. -/
theorem exec_carries (c : Instr) (s : State) : ∃ t, exec c s = .next t ∧ s.Carries t := by
  by_cases bar2 : ∃ off bytes, c = .bar2Write off bytes
  · obtain ⟨off, bytes, rfl⟩ := bar2
    rw [exec_bar2Write]
    exact (bar2Write_carries off.toNat bytes s).becomes _
  by_cases bus : ∃ m x, c = .targetError m x
  · obtain ⟨m, x, rfl⟩ := bus
    rw [exec_targetError]
    exact (State.access_carries (fun s => s.busAccess_carries m x) s m).becomes _
  by_cases line : ∃ b l, c = .ingestLine b l
  · obtain ⟨b, l, rfl⟩ := line
    rw [exec_ingestLine]
    exact liftMere_carries _ _ s
  by_cases frame : ∃ b f, c = .sourceFrameEnd b f
  · obtain ⟨b, f, rfl⟩ := frame
    rw [exec_sourceFrameEnd]
    exact liftMere_carries _ _ s
  by_cases por : ∃ x, c = .porRelease x
  · obtain ⟨x, rfl⟩ := por
    exact ⟨_, exec_porRelease x s, s.carries_cleared _ _⟩
  by_cases thermal : ∃ x, c = .thermalRecovery x
  · obtain ⟨x, rfl⟩ := thermal
    rw [exec_thermalRecovery]
    exact execThermalRecovery_carries x s
  push Not at bar2 bus line frame por thermal
  obtain ⟨d, hd⟩ := exec_device bar2 bus line frame por thermal s
  rw [hd]
  exact (State.Carries.refl s).becomes d

theorem step_empty {s : State} (h : s.pending = []) : step s = .next s.idle := by
  rw [step, h]

theorem step_front {s : State} {c : Instr} {rest : List Instr} (h : s.pending = c :: rest) :
    step s = exec c { s with pending := rest } := by
  rw [step, h]

/-- Settles O3: by the queue; a command at its front keeps the form. -/
theorem mereStaysCanonical : Obligations.MereStaysCanonical := by
  intro s t wf next
  cases queue : s.pending with
  | nil => exact Host.Outcome.next.inj ((step_empty queue).symm.trans next) ▸ wf
  | cons c rest =>
    rw [step_front queue] at next
    obtain ⟨u, hu, -, keeps⟩ := exec_carries c { s with pending := rest }
    exact Host.Outcome.next.inj (hu.symm.trans next) ▸ keeps wf

/-- Settles O2: the queue by the command, the Mere bytes by the six. -/
theorem onlySixCommandsTouchMere : Obligations.OnlySixCommandsTouchMere := by
  intro c s
  obtain ⟨t, next, queue, -⟩ := exec_carries c s
  refine ⟨t, next, queue, fun bar2 bus line frame por thermal => ?_⟩
  obtain ⟨d, hd⟩ := exec_device bar2 bus line frame por thermal s
  exact (State.becomes_next (hd.symm.trans next)).1

/-- Settles O1: by the queue. -/
theorem stepRunsTheFrontCommand : Obligations.StepRunsTheFrontCommand :=
  ⟨fun _ _ _ => rfl, fun _ empty => step_empty empty⟩

/-- Settles O4: nothing is listed, which is in canonical form. -/
theorem resetMereIsCanonical : Obligations.ResetMereIsCanonical := ⟨rfl, rfl, rfl⟩

end Sys2Proof.Machine
end

/-! ## The tables stay in order -/

section

namespace Sys2Proof.Machine

theorem Dev.set_reg_sorted {d : Dev} (h : d.reg.sorted = true) (f : Fld) (i v : Nat) : (d.set f i v).reg.sorted = true :=
  Map.sorted_store h ..

theorem Dev.hset_hid_sorted {d : Dev} (h : d.hid.sorted = true) (f : Fld) (i v : Nat) : (d.hset f i v).hid.sorted = true :=
  Map.sorted_store h ..

theorem Dev.bump_ctr_sorted {d : Dev} (h : d.ctr.sorted = true) (c : Ctr) (i n : Nat) : (d.bump c i n).ctr.sorted = true :=
  Map.sorted_store h ..

/-- Cells stored into a table in order leave it in order. -/
theorem Map.sorted_foldl_store (dflt : Nat → Nat → Nat) (l : List Cell) {m : Map} (h : m.sorted = true) :
    Map.sorted (l.foldl (fun m c => m.store c.fld c.inst c.val (dflt c.fld c.inst)) m) = true := by
  induction l generalizing m with
  | nil => exact h
  | cons c l ih => exact ih (Map.sorted_store h ..)

/-- A commit keeps both tables: it stores what it takes, and leaves a part of the shadow copies. -/
theorem Dev.applyGroups_sorted {d : Dev} (mask : Nat) (reg : d.reg.sorted = true) (shadow : d.shadow.sorted = true) :
    (d.applyGroups mask).reg.sorted = true ∧ (d.applyGroups mask).shadow.sorted = true :=
  ⟨Map.sorted_foldl_store shadowDflt _ reg, Map.sorted_filter shadow _⟩

/-- Settles O13: by the operation. -/
theorem tableFormIsKept : Obligations.TableFormIsKept :=
  ⟨fun _ f i v h => Dev.set_reg_sorted h f i v, fun _ f i v h => Dev.hset_hid_sorted h f i v,
    fun _ f i v h => Dev.load_shadow_sorted h f i v, fun _ c i n h => Dev.bump_ctr_sorted h c i n,
    fun _ mask reg shadow => Dev.applyGroups_sorted mask reg shadow, fun _ _ h => Map.sorted_filter h _, by decide⟩

end Sys2Proof.Machine
end

/-! Proofs of the statements on the Fen engines. -/

/-! ## Units and their instructions (R425, R429, R434, R447) -/

section

namespace Sys2Proof.Machine

/-! ### Units apart -/

theorem find?_insertBy_neg {α : Type} (le : α → α → Bool) {p : α → Bool} {x : α} (h : ¬p x) (l : List α) :
    (insertBy le x l).find? p = l.find? p := by
  induction l with
  | nil => exact List.find?_cons_of_neg h
  | cons y l ih =>
    rw [insertBy]
    split
    · exact List.find?_cons_of_neg h
    · rw [List.find?_cons, List.find?_cons, ih]

theorem find?_insertBy_pos {α : Type} (le : α → α → Bool) {p : α → Bool} {x : α} (h : p x) {l : List α} (others : ∀ y ∈ l, ¬p y) :
    (insertBy le x l).find? p = some x := by
  induction l with
  | nil => exact List.find?_cons_of_pos h
  | cons y l ih =>
    rw [insertBy]
    split
    · exact List.find?_cons_of_pos h
    · rw [List.find?_cons_of_neg (others y (List.mem_cons_self ..))]
      exact ih fun z hz => others z (List.mem_cons_of_mem _ hz)

/-- The units without unit `n` list every other one as before. -/
theorem find?_units_without (l : List (Nat × FenUnit)) (n m : Nat) :
    ((l.filter fun e => e.1 != n).find? fun e => e.1 == m) = if m = n then none else l.find? fun e => e.1 == m := by
  rw [List.find?_filter]
  split
  · subst m
    simp
  · rename_i other
    congr 1
    funext e
    by_cases key : e.1 = m <;> simp [key, other]

/-- A unit set reads as it was set, and every other one as before (R425). -/
theorem Dev.unit_setUnit (d : Dev) (n m : Nat) (u : FenUnit) : (d.setUnit n u).unit m = if m = n then u else d.unit m := by
  have without := find?_units_without d.fen.units n m
  simp only [Dev.unit, Dev.setUnit]
  by_cases idle : u = FenUnit.reset
  · rw [if_pos idle, without]
    split
    · exact idle.symm
    · rfl
  rw [if_neg idle]
  by_cases same : m = n
  · subst m
    rw [find?_insertBy_pos _ (by simp) (by simp), if_pos rfl]
    rfl
  · rw [find?_insertBy_neg _ (by simpa using Ne.symm same), without, if_neg same, if_neg same]

@[simp] theorem Dev.unit_setUnit_same (d : Dev) (n : Nat) (u : FenUnit) : (d.setUnit n u).unit n = u := by
  rw [Dev.unit_setUnit, if_pos rfl]

/-! ### Traps (R447) -/

/-- A trap as it is recorded, counted and raised. -/
def Dev.recordTrap (d : Dev) (n cause : Nat) : Dev :=
  ((((d.set F.FEN_TRAP_CAUSE n cause).set F.FEN_TRAP_LEVEL n (d.unit n).level).set F.FEN_TRAP_PC n ((d.unit n).pc % 8192)).bump
    C.FEN_TRAPS (d.engineOf n)).raise 769 [d.engineOf n, (d.unit n).entry.getD 0, cause, (d.unit n).pc % 8192]

section

variable {d : Dev} {n : Nat} (cause : Nat)

theorem Dev.fenTrap_low (low : (d.unit n).level < 2) :
    d.fenTrap n cause = (d.recordTrap n cause).setUnit n (FenUnit.goto { d.unit n with
      trapCause := (d.unit n).trapCause.set 0 cause, trapPc := (d.unit n).trapPc.set 0 ((d.unit n).pc % 8192),
      level := 2, under := (d.unit n).level } 8) := by
  simp only [Dev.fenTrap, Dev.recordTrap, if_pos low, if_neg (show ¬(d.unit n).level = 3 by omega),
    if_neg (show ¬(d.unit n).level = 2 by omega)]

theorem Dev.fenTrap_two (two : (d.unit n).level = 2) :
    d.fenTrap n cause = (d.recordTrap n cause).setUnit n (FenUnit.goto { d.unit n with
      trapCause := (d.unit n).trapCause.set 1 cause, trapPc := (d.unit n).trapPc.set 1 ((d.unit n).pc % 8192), level := 3 } 12) := by
  simp [Dev.fenTrap, Dev.recordTrap, two]

theorem Dev.fenTrap_double (three : (d.unit n).level = 3) :
    d.fenTrap n cause = ((d.recordTrap n 8).setUnit n { d.unit n with
      trapCause := (d.unit n).trapCause.set 1 8, trapPc := (d.unit n).trapPc.set 1 ((d.unit n).pc % 8192) }).trapJob n := by
  simp [Dev.fenTrap, Dev.recordTrap, three]

end

/-! ### The fetch -/

section

variable {d : Dev} {n : Nat} (op : Nat) (f : Dev → Nat → Nat → Dev × FenFlow)

theorem Dev.fenRow_idle (idle : (d.unit n).running = false) : d.fenRow n op f = d := by
  simp [Dev.fenRow, idle]

theorem Dev.fenRow_beyond (runs : (d.unit n).running = true) (beyond : 8192 ≤ (d.unit n).pc) : d.fenRow n op f = d.fenTrap n 4 := by
  simp [Dev.fenRow, runs, beyond]

theorem Dev.fenRow_undefined (runs : (d.unit n).running = true) (inside : (d.unit n).pc < 8192)
    (undefined : fenOpcodes.contains (bits (d.fenWord n) 26 6) = false) : d.fenRow n op f = d.fenTrap n 1 := by
  rw [Dev.fenWord] at undefined
  simp only [Dev.fenRow, runs, undefined, Bool.not_true, Bool.not_false, Bool.false_eq_true, if_false, if_true,
    if_neg (Nat.not_le.mpr inside)]

theorem Dev.fenRow_another (runs : (d.unit n).running = true) (inside : (d.unit n).pc < 8192)
    (defined : fenOpcodes.contains (bits (d.fenWord n) 26 6) = true) (another : bits (d.fenWord n) 26 6 ≠ op) :
    d.fenRow n op f = d := by
  rw [Dev.fenWord] at defined another
  simp only [Dev.fenRow, runs, defined, Bool.not_true, Bool.false_eq_true, if_false, if_neg (Nat.not_le.mpr inside), if_pos another]

end

/-- Settles O47: the fetch by the unit and the word at its place, and a trap by the level. -/
theorem fenInstructionsAreFetched : Obligations.FenInstructionsAreFetched := by
  refine ⟨fun u s c hc => ?rows, fun d n op f => Dev.fenRow_another op f, fun d n cause => ?traps,
    fun d n m x => d.unit_setUnit n m x, fun u s runs => ?swi⟩
  case rows =>
    have row : ∃ op f, exec c s = s.becomes (s.dev.fenRow u op f) := by
      simp only [List.mem_cons, List.not_mem_nil, or_false] at hc
      rcases hc with rfl | rfl | rfl | rfl | rfl | rfl | rfl | rfl | rfl | rfl | rfl | rfl | rfl | rfl | rfl | rfl | rfl | rfl | rfl |
        rfl | rfl | rfl | rfl | rfl | rfl | rfl | rfl | rfl | rfl
      all_goals exact ⟨_, _, rfl⟩
    obtain ⟨op, f, hrow⟩ := row
    rw [hrow]
    exact ⟨fun idle => by rw [Dev.fenRow_idle op f idle], fun runs beyond => by rw [Dev.fenRow_beyond op f runs beyond],
      fun runs inside undefined => by rw [Dev.fenRow_undefined op f runs inside undefined]⟩
  case traps =>
    refine ⟨fun low => ?_, fun two => ?_, fun three => ?_⟩
    · simp only [if_neg (show ¬(d.unit n).level = 3 by omega)]
      exact Dev.fenTrap_low cause low
    · simp only [if_neg (show ¬(d.unit n).level = 3 by omega)]
      exact Dev.fenTrap_two cause two
    · simp only [if_pos three]
      exact Dev.fenTrap_double cause three
  case swi => rw [exec_swi, Dev.fenRow_trap runs rfl rfl]

end Sys2Proof.Machine
end

/-! ## Arithmetic of the Fen engines (R429–R434) -/

section

namespace Sys2Proof.Machine

/-! ### Signed numbers -/

theorem saturate_eq (w : Nat) (v : Int) : saturate w v =
    if v < -((2 ^ (w - 1) : Nat) : Int) then -((2 ^ (w - 1) : Nat) : Int)
    else if ((2 ^ (w - 1) : Nat) : Int) ≤ v then ((2 ^ (w - 1) : Nat) : Int) - 1 else v := by
  have : 0 < 2 ^ (w - 1) := Nat.two_pow_pos _
  unfold saturate clampInt
  split
  · omega
  · split <;> omega

theorem saturate_word (v : Int) : saturate 32 v = if v < -(2 ^ 31) then -(2 ^ 31) else if 2 ^ 31 ≤ v then 2 ^ 31 - 1 else v :=
  saturate_eq 32 v

theorem saturate_guard (v : Int) : saturate 72 v = if v < -(2 ^ 71) then -(2 ^ 71) else if 2 ^ 71 ≤ v then 2 ^ 71 - 1 else v :=
  saturate_eq 72 v

theorem toSigned_bounds {w : Nat} (h : 0 < w) (v : Nat) :
    -((2 ^ (w - 1) : Nat) : Int) ≤ toSigned w v ∧ toSigned w v < ((2 ^ (w - 1) : Nat) : Int) := by
  have half : 2 ^ w = 2 * 2 ^ (w - 1) := by rw [← Nat.pow_succ', Nat.succ_eq_add_one, Nat.sub_add_cancel h]
  have below := Nat.mod_lt v (Nat.two_pow_pos w)
  unfold toSigned
  split <;> omega

theorem FenUnit.sreg_bounds (u : FenUnit) (i : Nat) : -(2 ^ 31) ≤ u.sreg i ∧ u.sreg i < 2 ^ 31 := toSigned_bounds (w := 32) (by decide) _

/-! ### A row whose instruction changes its unit alone -/

section

variable {d : Dev} {n op : Nat} {f : FenUnit → Nat → FenUnit × FenFlow} {u : FenUnit}

theorem Dev.fenRow_onlyUnit_next (runs : d.FenRuns n op) (hop : fenOpcodes.contains op = true)
    (hf : f (d.unit n) (d.fenWord n) = (u, .next)) : d.fenRow n op (onlyUnit f) = (d.setUnit n u).onUnit n FenUnit.advance :=
  Dev.fenRow_next runs hop (by rw [onlyUnit, hf])

theorem Dev.fenRow_onlyUnit_trap {c : Nat} (runs : d.FenRuns n op) (hop : fenOpcodes.contains op = true)
    (hf : f (d.unit n) (d.fenWord n) = (u, .trap c)) : d.fenRow n op (onlyUnit f) = d.fenTrap n c :=
  Dev.fenRow_trap runs hop (e := d.setUnit n u) (by rw [onlyUnit, hf])

end

/-! ### The accumulators (R431–R434) -/

/-- The sign that SUB gives a product. -/
theorem FenUnit.product_eq (u : FenUnit) (x y sub : Nat) : u.product x y sub =
    (if sub = 1 then -1 else 1) * (toSigned 32 (u.g.getD x 0) * toSigned 32 (u.g.getD y 0)) := by
  simp only [FenUnit.product, FenUnit.sreg, FenUnit.reg]
  split
  · rw [neg_one_mul]
  · rw [one_mul]

section

variable {d : Dev} {n k : Nat} {p : Int}

theorem Dev.accumulateIn_held (held : (d.unit n).bank.hold.getD k 0 ≠ 0) : d.accumulateIn n k p = d := if_pos held

theorem Dev.accumulateIn_fits (free : (d.unit n).bank.hold.getD k 0 = 0) (low : -(2 ^ 71) ≤ (d.unit n).bank.acc.getD k 0 + p)
    (high : (d.unit n).bank.acc.getD k 0 + p < 2 ^ 71) : d.accumulateIn n k p =
      d.setUnit n ((d.unit n).onBank fun b => { b with acc := b.acc.set k ((d.unit n).bank.acc.getD k 0 + p) }) := by
  have fits : saturate 72 ((d.unit n).bank.acc.getD k 0 + p) = (d.unit n).bank.acc.getD k 0 + p := by
    rw [saturate_guard, if_neg (Int.not_lt.mpr low), if_neg (Int.not_le.mpr high)]
  simp only [Dev.accumulateIn, fits, if_true]
  exact if_neg (not_not.mpr free)

/-- The unit whose accumulator leaves its range: the bound, the hold at its depth, and the sticky bit (R433). -/
def FenUnit.guarded (u : FenUnit) (k : Nat) (v : Int) : FenUnit :=
  { u with guardOvf := 1 }.onBank fun b => { b with acc := b.acc.set k v, hold := b.hold.set k (u.holdMark b.depth) }

/-- The bound that a sum beyond 72 bits leaves. -/
theorem saturate_guard_beyond {t : Int} (out : t < -(2 ^ 71) ∨ 2 ^ 71 ≤ t) :
    saturate 72 t = (if t < 0 then -(2 ^ 71) else 2 ^ 71 - 1) ∧ saturate 72 t ≠ t := by
  rw [saturate_guard]
  split <;> rename_i low
  · exact ⟨(if_pos (by omega)).symm, by omega⟩
  · rw [if_pos (out.resolve_left low), if_neg (by omega)]
    exact ⟨rfl, by omega⟩

theorem Dev.accumulateIn_leaves (free : (d.unit n).bank.hold.getD k 0 = 0)
    (out : saturate 72 ((d.unit n).bank.acc.getD k 0 + p) ≠ (d.unit n).bank.acc.getD k 0 + p) :
    let e := (d.setUnit n ((d.unit n).guarded k (saturate 72 ((d.unit n).bank.acc.getD k 0 + p)))).bump C.FEN_GUARD_OVF_CNT (d.engineOf n)
    d.accumulateIn n k p = if e.get F.FEN_ENG_STATUS_GUARD_OVF n = 1 then e
      else (e.set F.FEN_ENG_STATUS_GUARD_OVF n 1).raise 768 [d.engineOf n, (d.unit n).entry.getD 0, (d.unit n).pc] := by
  simp only [Dev.accumulateIn, if_neg (not_not.mpr free), if_neg out, beq_iff_eq, FenUnit.guarded]
  congr

end

theorem Dev.fenMac2_illegal {d : Dev} {n w : Nat} (h : bits w 24 2 = bits w 22 2 ∨ bits w 16 6 % 2 = 1 ∨ bits w 10 6 % 2 = 1) :
    d.fenMac2 n w = (d, .trap 1) := if_pos h

theorem Dev.fenMac2_of {d : Dev} {n w : Nat} (h : ¬(bits w 24 2 = bits w 22 2 ∨ bits w 16 6 % 2 = 1 ∨ bits w 10 6 % 2 = 1)) :
    d.fenMac2 n w = ((d.accumulateIn n (bits w 24 2) ((d.unit n).product (bits w 16 6) (bits w 10 6) (bits w 0 1))).accumulateIn n
      (bits w 22 2) ((d.unit n).product (bits w 16 6 + 1) (bits w 10 6 + 1) (bits w 0 1)), .next) := if_neg h

/-! ### WB and MFS (R432) -/

/-- What WB leaves in its unit: the saturated value in its register, and WB_SAT where it differs. -/
def FenUnit.wroteBack (u : FenUnit) (g : Nat) (q : Int) : FenUnit :=
  let v := saturate 32 q
  let r := u.setReg g (ofSigned 32 v)
  if v = q then r else { r with wbSat := 1 }

theorem Dev.fenWb_of (d : Dev) {n w : Nat} (h : bits w 8 6 ≤ 40) :
    d.fenWb n w = (d.setUnit n ((d.unit n).wroteBack (bits w 20 6)
      (writeBack ((d.unit n).bank.acc.getD (bits w 18 2) 0) (bits w 8 6) (bit w 0))), .next) := by
  simp only [Dev.fenWb, FenUnit.wroteBack, if_pos h]

theorem Dev.fenWb_open (d : Dev) {n w : Nat} (h : 40 < bits w 8 6) :
    d.fenWb n w = (d.fresh.2.setUnit n ((d.unit n).wroteBack (bits w 20 6) (toSigned 72 d.fresh.1)), .next) := by
  simp only [Dev.fenWb, FenUnit.wroteBack, if_neg (Nat.not_le.mpr h)]

theorem Dev.fenMfs_listed (d : Dev) {n w v : Nat} (h : (d.unit n).special (bits w 0 12) = some v) :
    d.fenMfs n w = (d.setUnit n ((d.unit n).setReg (bits w 20 6) v), .next) := by
  simp only [Dev.fenMfs, h]

theorem Dev.fenMfs_open (d : Dev) {n w : Nat} (h : (d.unit n).special (bits w 0 12) = none) :
    d.fenMfs n w = (d.fresh.2.setUnit n ((d.unit n).setReg (bits w 20 6) d.fresh.1), .next) := by
  simp only [Dev.fenMfs, h]

/-! ### ALU -/

section

variable {d : Dev} {n w : Nat}

/-- ABS and NEG of a value other than 0x8000_0000. -/
theorem Dev.fenAlu_abs (fn : bits w 0 8 = 5) (h : (d.unit n).sreg (bits w 14 6) ≠ -(2 ^ 31)) :
    d.fenAlu n w = (d.setUnit n ((d.unit n).setReg (bits w 20 6) (ofSigned 32 (if (d.unit n).sreg (bits w 14 6) < 0 then
      -(d.unit n).sreg (bits w 14 6) else (d.unit n).sreg (bits w 14 6)))), .next) := by
  have range := (d.unit n).sreg_bounds (bits w 14 6)
  simp only [Dev.fenAlu, fn]
  exact if_neg (by split <;> omega)

theorem Dev.fenAlu_neg (fn : bits w 0 8 = 6) (h : (d.unit n).sreg (bits w 14 6) ≠ -(2 ^ 31)) :
    d.fenAlu n w = (d.setUnit n ((d.unit n).setReg (bits w 20 6) (ofSigned 32 (-(d.unit n).sreg (bits w 14 6)))), .next) := by
  simp only [Dev.fenAlu, fn]
  exact if_neg (by omega)

theorem Dev.fenAlu_open (fn : bits w 0 8 = 5 ∨ bits w 0 8 = 6) (h : (d.unit n).sreg (bits w 14 6) = -(2 ^ 31)) :
    d.fenAlu n w = (d.fresh.2.setUnit n ((d.unit n).setReg (bits w 20 6) d.fresh.1), .next) := by
  rcases fn with fn | fn
  all_goals
    simp only [Dev.fenAlu, fn, h]
    rfl

theorem Dev.fenAlu_undefined (fn : 8 < bits w 0 8) : d.fenAlu n w = (d, .trap 1) := by
  simp only [Dev.fenAlu]
  split
  case h_10 => rfl
  all_goals omega

end

/-- Settles O48: each instruction by its operands. -/
theorem fenArithmeticActs : Obligations.FenArithmeticActs := by
  refine ⟨fun u s runs => ?nop, fun u s runs => ?mac, fun u s runs => ?mac2, FenUnit.product_eq, fun d n k p => ?acc,
    fun u s runs => ?clr, fun u s runs => ?wb, fun u s runs => ?mfs, fun u s runs => ?mts, fun u s runs => ?alu, fun u s runs => ?shf,
    fun u s runs => ?ldi⟩
  case nop => rw [exec_fenNop, Dev.fenRow_next runs rfl rfl]
  case mac => 
    intro w
    rw [exec_mac, Dev.fenRow_next runs rfl rfl]
  case mac2 =>
    intro w U
    rw [exec_mac2]
    refine ⟨fun illegal => ?_, fun ab g h => ?_⟩
    · rw [Dev.fenRow_trap runs rfl (Dev.fenMac2_illegal illegal)]
    · have legal : ¬(bits w 24 2 = bits w 22 2 ∨ bits w 16 6 % 2 = 1 ∨ bits w 10 6 % 2 = 1) := by omega
      rw [Dev.fenRow_next runs rfl (Dev.fenMac2_of legal)]
  case acc =>
    refine ⟨Dev.accumulateIn_held, Dev.accumulateIn_fits, fun free out => ?_⟩
    obtain ⟨bound, differs⟩ := saturate_guard_beyond out
    rw [Dev.accumulateIn_leaves free differs, bound]
    rfl
  case clr => exact congrArg s.becomes (Dev.fenRow_onlyUnit_next runs rfl rfl)
  case wb =>
    intro w U a n out
    have gives (d : Dev) (q : Int) : s.becomes ((d.setUnit u (U.wroteBack (bits w 20 6) q)).onUnit u FenUnit.advance) = out d q := by
      simp only [FenUnit.wroteBack, saturate_word, out]
    rw [exec_wb]
    refine ⟨fun range cut => ?_, fun range round => ?_, fun beyond => ?_⟩
    · rw [Dev.fenRow_next runs rfl (s.dev.fenWb_of range), cut]
      exact gives _ _
    · rw [Dev.fenRow_next runs rfl (s.dev.fenWb_of range), round]
      exact gives _ _
    · rw [Dev.fenRow_next runs rfl (s.dev.fenWb_open beyond)]
      exact gives _ _
  case mfs =>
    intro w U
    rw [exec_mfs]
    exact ⟨fun v listed => by rw [Dev.fenRow_next runs rfl (s.dev.fenMfs_listed listed)],
      fun unlisted => by rw [Dev.fenRow_next runs rfl (s.dev.fenMfs_open unlisted)]⟩
  case mts => rw [exec_mts, Dev.fenRow_onlyUnit_next runs rfl rfl]
  case alu =>
    intro w U
    have gives {v : Nat} (h : s.dev.fenAlu u w = (s.dev.setUnit u (U.setReg (bits w 20 6) v), .next)) :
        exec (.alu u) s = s.becomes ((s.dev.setUnit u (U.setReg (bits w 20 6) v)).onUnit u FenUnit.advance) := by
      rw [exec_alu, Dev.fenRow_next runs rfl h]
    refine ⟨fun fn => gives ?_, fun fn => gives ?_, fun fn => gives ?_, fun fn => gives ?_, fun fn => gives ?_,
      fun fn h => gives (Dev.fenAlu_abs fn h), fun fn h => gives (Dev.fenAlu_neg fn h), fun fn h => ?_, fun fn => gives ?_, fun fn => gives ?_,
      fun fn => ?_⟩
    · simp only [Dev.fenAlu, fn, saturate_word, U]
    · simp only [Dev.fenAlu, fn, saturate_word, U]
    · simp only [Dev.fenAlu, fn, U]
    · simp only [Dev.fenAlu, fn, U]
    · simp only [Dev.fenAlu, fn, U]
    · rw [exec_alu, Dev.fenRow_next runs rfl (Dev.fenAlu_open fn h)]
    · simp only [Dev.fenAlu, fn, U]
    · simp only [Dev.fenAlu, fn, U]
    · rw [exec_alu, Dev.fenRow_trap runs rfl (Dev.fenAlu_undefined fn)]
  case shf =>
    intro w U
    have gives {v : Nat} (h : fenShf U w = (U.setReg (bits w 20 6) v, .next)) :
        exec (.shf u) s = s.becomes ((s.dev.setUnit u (U.setReg (bits w 20 6) v)).onUnit u FenUnit.advance) := by
      rw [exec_shf, Dev.fenRow_onlyUnit_next runs rfl h]
    refine ⟨fun fn => gives ?_, fun fn => gives ?_, fun fn => gives ?_, fun fn => ?_⟩
    · simp only [fenShf, fn, saturate_word]
    · simp only [fenShf, fn]
    · simp only [fenShf, fn]
    · have illegal : fenShf U w = (U, .trap 1) := by simp only [fenShf, fn]
      rw [exec_shf, Dev.fenRow_onlyUnit_trap runs rfl illegal]
  case ldi =>
    intro w U
    have gives {v : Nat} (h : fenLdi U w = (U.setReg (bits w 20 6) v, .next)) :
        exec (.ldi u) s = s.becomes ((s.dev.setUnit u (U.setReg (bits w 20 6) v)).onUnit u FenUnit.advance) := by
      rw [exec_ldi, Dev.fenRow_onlyUnit_next runs rfl h]
    exact ⟨fun low => gives (by simp [fenLdi, low]), fun high => gives (by simp [fenLdi, high])⟩

end Sys2Proof.Machine
end

/-! ## Pointers and searches of the Fen engines (R434, R437–R439) -/

section

namespace Sys2Proof.Machine

/-! ### The step of a pointer -/

theorem FenPtr.step_offset (p : FenPtr) (t : Nat) : ((p.step t).offset : Int) =
    ((p.offset : Int) + if t = 1 then toSigned 12 p.stepA else if t = 2 then toSigned 12 p.stepB else 0) %
      ((if p.span = 0 then 16384 else p.span : Nat) : Int) := by
  have range : ((if p.span = 0 then 16384 else p.span : Nat) : Int) ≠ 0 := by split <;> omega
  exact Int.toNat_of_nonneg (Int.emod_nonneg _ range)

theorem FenPtr.folds_iff (p : FenPtr) : p.folds = true ↔ p.span ≠ 0 ∧ p.span ≤ p.offset := by
  simp [FenPtr.folds]

theorem FenPtr.address_eq (p : FenPtr) :
    p.address = p.origin + (if p.span ≠ 0 ∧ p.span ≤ p.offset then p.offset % p.span else p.offset) := by
  simp only [FenPtr.address, FenPtr.folded, FenPtr.folds_iff]
  split <;> rfl

theorem FenPtr.folded_offset {p : FenPtr} (h : p.span ≠ 0 ∧ p.span ≤ p.offset) : p.folded.offset = p.offset % p.span := by
  rw [FenPtr.folded, if_pos (p.folds_iff.mpr h)]

section

variable {d : Dev} {n i : Nat}

theorem Dev.countFold_inside (h : ((d.unit n).ptr i).span = 0 ∨ ((d.unit n).ptr i).offset < ((d.unit n).ptr i).span) :
    d.countFold n i = d := by
  have inside : ((d.unit n).ptr i).folds = false := by
    rw [← Bool.not_eq_true, FenPtr.folds_iff]
    omega
  simp only [Dev.countFold, inside, Bool.not_false, if_true]

theorem Dev.countFold_folds (h : ((d.unit n).ptr i).span ≠ 0 ∧ ((d.unit n).ptr i).span ≤ ((d.unit n).ptr i).offset) :
    let e := d.bump C.FEN_FOLDS (d.engineOf n)
    let sec := d.clock.core / 1000000000 + 1
    d.countFold n i = if e.hget H.fenFoldSecond (d.engineOf n) = sec then e
      else (e.hset H.fenFoldSecond (d.engineOf n) sec).raise 772
        [d.engineOf n, i, ((d.unit n).ptr i).offset % ((d.unit n).ptr i).span] := by
  have folds := ((d.unit n).ptr i).folds_iff.mpr h
  simp only [Dev.countFold, folds, Bool.not_true, Bool.false_eq_true, if_false, FenPtr.folded_offset h]
  rfl

end

/-! ### LD, ST, LD2 -/

section

variable {d : Dev} {n w : Nat}

theorem Dev.fenLd_step (step : bits w 15 2 = 3) : d.fenLd n w = (d, .trap 1) := if_pos step

theorem Dev.fenLd_range (step : bits w 15 2 ≠ 3) (beyond : 16384 ≤ ((d.unit n).ptr (bits w 17 3)).address) :
    d.fenLd n w = (d, .trap 3) := (if_neg step).trans (if_pos beyond)

theorem Dev.fenLd_of (step : bits w 15 2 ≠ 3) (inside : ((d.unit n).ptr (bits w 17 3)).address < 16384) :
    d.fenLd n w = ((d.countFold n (bits w 17 3)).onUnit n fun u =>
      (u.setReg (bits w 20 6) (u.data ((d.unit n).ptr (bits w 17 3)).address)).stepPtr (bits w 17 3) (bits w 15 2), .next) :=
  (if_neg step).trans (if_neg (Nat.not_le.mpr inside))

theorem Dev.fenSt_step (step : bits w 15 2 = 3) : d.fenSt n w = (d, .trap 1) := if_pos step

theorem Dev.fenSt_range (step : bits w 15 2 ≠ 3) (beyond : 16384 ≤ ((d.unit n).ptr (bits w 17 3)).address) :
    d.fenSt n w = (d, .trap 3) := (if_neg step).trans (if_pos beyond)

theorem Dev.fenSt_of (step : bits w 15 2 ≠ 3) (inside : ((d.unit n).ptr (bits w 17 3)).address < 16384) :
    d.fenSt n w = ((d.countFold n (bits w 17 3)).onUnit n fun u =>
      (u.setData ((d.unit n).ptr (bits w 17 3)).address (u.reg (bits w 20 6))).stepPtr (bits w 17 3) (bits w 15 2), .next) :=
  (if_neg step).trans (if_neg (Nat.not_le.mpr inside))

theorem Dev.fenLd2_illegal (h : bits w 12 2 = 3 ∨ bits w 20 6 % 2 = 1 ∨ bits w 17 3 = bits w 14 3) :
    d.fenLd2 n w = (d, .trap 1) := if_pos h

section

variable (legal : ¬(bits w 12 2 = 3 ∨ bits w 20 6 % 2 = 1 ∨ bits w 17 3 = bits w 14 3))
include legal

theorem Dev.fenLd2_range
    (beyond : 16384 ≤ ((d.unit n).ptr (bits w 17 3)).address ∨ 16384 ≤ ((d.unit n).ptr (bits w 14 3)).address) :
    d.fenLd2 n w = (d, .trap 3) := (if_neg legal).trans (if_pos beyond)

theorem Dev.fenLd2_of
    (inside : ¬(16384 ≤ ((d.unit n).ptr (bits w 17 3)).address ∨ 16384 ≤ ((d.unit n).ptr (bits w 14 3)).address)) :
    d.fenLd2 n w = (((d.countFold n (bits w 17 3)).countFold n (bits w 14 3)).onUnit n fun u =>
      (((u.setReg (bits w 20 6) (u.data ((d.unit n).ptr (bits w 17 3)).address)).setReg (bits w 20 6 + 1)
        (u.data ((d.unit n).ptr (bits w 14 3)).address)).stepPtr (bits w 17 3) (bits w 12 2)).stepPtr (bits w 14 3) (bits w 12 2), .next) :=
  (if_neg legal).trans (if_neg inside)

end

end

/-! ### SETP -/

theorem bits_lt (v lo w : Nat) : bits v lo w < 2 ^ w := Nat.mod_lt _ (Nat.two_pow_pos w)

/-- The field of a pointer that SETP writes, by its number of two bits. -/
theorem FenPtr.write_eq (p : FenPtr) {f : Nat} (h : f < 4) (v : Nat) : p.write f v =
    if f = 0 then { p with origin := v % 2 ^ 14 } else if f = 1 then { p with span := v % 2 ^ 15 }
    else if f = 2 then { p with offset := v % 2 ^ 14 } else { p with stepA := v % 2 ^ 12, stepB := bits v 16 12 } := by
  interval_cases f <;> rfl

/-! ### MAXI and MINI (R439) -/

/-- The magnitude of 0x8000_0000 is taken as 0x7FFF_FFFF. -/
theorem FenUnit.searched_eq (u : FenUnit) (w : Nat) :
    let x := u.sreg (bits w 8 6)
    u.searched w = if bit w 0 then (if x = -(2 ^ 31) then 2 ^ 31 - 1 else if x < 0 then -x else x) else x := by
  have range := u.sreg_bounds (bits w 8 6)
  simp only [FenUnit.searched]
  split
  · split <;> split <;> omega
  · rfl

theorem Dev.fenFound_apart (d : Dev) {n w : Nat} (h : bits w 20 6 ≠ bits w 14 6) : d.fenFound n w = d.setUnit n
    (((d.unit n).setReg (bits w 20 6) (ofSigned 32 ((d.unit n).searched w))).setReg (bits w 14 6) (d.unit n).iteration) := if_neg h

theorem Dev.fenFound_open (d : Dev) {n w : Nat} (h : bits w 20 6 = bits w 14 6) :
    d.fenFound n w = d.fresh.2.setUnit n ((d.unit n).setReg (bits w 20 6) d.fresh.1) := if_pos h

section

variable {d : Dev} {n w : Nat}

theorem Dev.fenMaxi_kept (h : (d.unit n).searched w ≤ (d.unit n).sreg (bits w 20 6)) : d.fenMaxi n w = (d, .next) :=
  congrArg (·, FenFlow.next) (if_neg (Int.not_lt.mpr h))

theorem Dev.fenMaxi_found (h : (d.unit n).sreg (bits w 20 6) < (d.unit n).searched w) : d.fenMaxi n w = (d.fenFound n w, .next) :=
  congrArg (·, FenFlow.next) (if_pos h)

theorem Dev.fenMini_kept (h : (d.unit n).sreg (bits w 20 6) ≤ (d.unit n).searched w) : d.fenMini n w = (d, .next) :=
  congrArg (·, FenFlow.next) (if_neg (Int.not_lt.mpr h))

theorem Dev.fenMini_found (h : (d.unit n).searched w < (d.unit n).sreg (bits w 20 6)) : d.fenMini n w = (d.fenFound n w, .next) :=
  congrArg (·, FenFlow.next) (if_pos h)

end

/-- Settles O49: each access by its step, its address and its fold, each search by its comparison. -/
theorem fenPointersAct : Obligations.FenPointersAct := by
  refine ⟨fun u s runs => ?ld, fun u s runs => ?st, fun u s runs => ?ld2, fun p t => ⟨p.address_eq, fun _ => ⟨p.step_offset t, rfl⟩⟩,
    fun d n i => ?fold, fun u s runs => ?setp, fun u s => ?search⟩
  case ld =>
    rw [exec_ld]
    refine ⟨fun step => ?_, fun step beyond => ?_, fun step inside => ?_⟩
    · rw [Dev.fenRow_trap runs rfl (Dev.fenLd_step step)]
    · rw [Dev.fenRow_trap runs rfl (Dev.fenLd_range step beyond)]
    · exact congrArg s.becomes (Dev.fenRow_next runs rfl (Dev.fenLd_of step inside))
  case st =>
    rw [exec_st]
    refine ⟨fun step => ?_, fun step beyond => ?_, fun step inside => ?_⟩
    · rw [Dev.fenRow_trap runs rfl (Dev.fenSt_step step)]
    · rw [Dev.fenRow_trap runs rfl (Dev.fenSt_range step beyond)]
    · exact congrArg s.becomes (Dev.fenRow_next runs rfl (Dev.fenSt_of step inside))
  case ld2 =>
    intro w
    dsimp -zeta only
    intro a b
    rw [exec_ld2]
    refine ⟨fun illegal => ?_, fun step g ij beyond => ?_, fun step g ij ha hb => ?_⟩
    · rw [Dev.fenRow_trap runs rfl (Dev.fenLd2_illegal illegal)]
    all_goals have legal : ¬(bits w 12 2 = 3 ∨ bits w 20 6 % 2 = 1 ∨ bits w 17 3 = bits w 14 3) := by omega
    · rw [Dev.fenRow_trap runs rfl (Dev.fenLd2_range legal beyond)]
    · have inside : ¬(16384 ≤ a ∨ 16384 ≤ b) := by omega
      exact congrArg s.becomes (Dev.fenRow_next runs rfl (Dev.fenLd2_of legal inside))
  case fold =>
    refine ⟨Dev.countFold_inside, fun span beyond same => ?_, fun span beyond other => ?_⟩
    · rw [Dev.countFold_folds ⟨span, beyond⟩, if_pos same]
    · rw [Dev.countFold_folds ⟨span, beyond⟩, if_neg other]
  case setp =>
    intro w U v put
    have field : (fun p : FenPtr => p.write (bits w 21 2) v) = put := funext fun p => p.write_eq (bits_lt w 21 2) v
    rw [exec_setp, ← field]
    exact congrArg s.becomes (Dev.fenRow_onlyUnit_next runs rfl rfl)
  case search =>
    intro w U
    dsimp -zeta only
    intro x v index kept found opens
    have value : U.searched w = v := U.searched_eq w
    refine ⟨fun runs h => ?_, fun runs h mi => ?_, fun runs h mi => ?_, fun runs h => ?_, fun runs h mi => ?_, fun runs h mi => ?_⟩
    all_goals rw [← value] at h
    · rw [exec_maxi, Dev.fenRow_next runs rfl (Dev.fenMaxi_kept h)]
    · rw [exec_maxi, Dev.fenRow_next runs rfl (Dev.fenMaxi_found h), s.dev.fenFound_apart mi]
      simp only [found, ← value]
      rfl
    · rw [exec_maxi, Dev.fenRow_next runs rfl (Dev.fenMaxi_found h), s.dev.fenFound_open mi]
    · rw [exec_mini, Dev.fenRow_next runs rfl (Dev.fenMini_kept h)]
    · rw [exec_mini, Dev.fenRow_next runs rfl (Dev.fenMini_found h), s.dev.fenFound_apart mi]
      simp only [found, ← value]
      rfl
    · rw [exec_mini, Dev.fenRow_next runs rfl (Dev.fenMini_found h), s.dev.fenFound_open mi]

end Sys2Proof.Machine
end

/-! ## Control flow of the Fen engines (R433, R435, R436, R440, R442, R447) -/

section

namespace Sys2Proof.Machine

/-! ### The end of an iteration (R435, R436) -/

section

variable {u : FenUnit} {f pc : Nat}

theorem FenUnit.complete_inside (h : u.bank.depth = 0 ∨ u.bank.fin.getD (u.bank.depth - 1) 0 ≠ pc) :
    u.complete (f + 1) pc = u.goto (pc + 1) := if_pos h

section

variable (active : 0 < u.bank.depth) (last : u.bank.fin.getD (u.bank.depth - 1) 0 = pc)
include active last

theorem FenUnit.complete_again (more : 0 < u.bank.cnt.getD (u.bank.depth - 1) 0) : u.complete (f + 1) pc =
    ((if bit u.bank.shf (u.bank.depth - 1) then u.shift else u).onBank fun b => { b with
      cnt := b.cnt.modify (u.bank.depth - 1) (· - 1)
      iter := b.iter.modify (u.bank.depth - 1) fun i => (i + 1) % 65536 }).goto (u.bank.beg.getD (u.bank.depth - 1) 0) := by
  rw [FenUnit.complete, if_neg (by omega)]
  exact if_pos more

theorem FenUnit.complete_ends (done : u.bank.cnt.getD (u.bank.depth - 1) 0 = 0) : u.complete (f + 1) pc =
    ((if bit u.bank.shf (u.bank.depth - 1) then u.shift else u).onBank FenBank.endBlock).complete f pc := by
  rw [FenUnit.complete, if_neg (by omega)]
  exact if_neg (by omega)

end

end

section

variable {u : FenUnit} (full : u.g.length = 64)
include full

theorem FenUnit.shift_first : u.shift.reg 48 = u.reg 63 := by
  simp [FenUnit.shift, FenUnit.reg, full]

theorem FenUnit.shift_window {i : Nat} (low : 48 < i) (high : i < 64) : u.shift.reg i = u.reg (i - 1) := by
  obtain ⟨j, rfl⟩ : ∃ j, i = 48 + (j + 1) := ⟨i - 49, by omega⟩
  have at48 : (u.g.take 48).length = 48 := by simp [full]
  have inside : j < 15 := by omega
  simp only [FenUnit.shift, FenUnit.reg, List.getD_eq_getElem?_getD]
  rw [List.getElem?_append_right (by omega), at48, Nat.add_sub_cancel_left, List.getElem?_cons_succ, List.getElem?_take_of_lt inside,
    List.getElem?_drop]
  rfl

theorem FenUnit.shift_below {i : Nat} (h : i < 48) : u.shift.reg i = u.reg i := by
  simp only [FenUnit.shift, FenUnit.reg, List.getD_eq_getElem?_getD]
  rw [List.getElem?_append_left (by simp [full, h]), List.getElem?_take_of_lt h]

end

/-! ### Rows that do not go on to the next instruction -/

section

variable {d : Dev} {n op : Nat} {f : FenUnit → Nat → FenUnit × FenFlow} {u : FenUnit} (runs : d.FenRuns n op)
  (hop : fenOpcodes.contains op = true)
include runs hop

theorem Dev.fenRow_onlyUnit_jump {pc : Nat} (hf : f (d.unit n) (d.fenWord n) = (u, .jump pc)) :
    d.fenRow n op (onlyUnit f) = (d.setUnit n u).onUnit n fun u => u.goto pc :=
  Dev.fenRow_jump runs hop (by rw [onlyUnit, hf])

theorem Dev.fenRow_onlyUnit_stall (hf : f (d.unit n) (d.fenWord n) = (u, .stall)) : d.fenRow n op (onlyUnit f) = d :=
  Dev.fenRow_stall runs hop (e := d.setUnit n u) (by rw [onlyUnit, hf])

theorem Dev.fenRow_onlyUnit_done (hf : f (d.unit n) (d.fenWord n) = (u, .done)) : d.fenRow n op (onlyUnit f) = d.setUnit n u :=
  Dev.fenRow_done runs hop (by rw [onlyUnit, hf])

end

/-! ### Repeats -/

section

variable {u : FenUnit} {count len : Nat} {shf : Bool}

theorem fenRepeat_empty (empty : len = 0) : fenRepeat u count len shf = (u, .trap 1) := if_pos empty

variable (some : 0 < len)
include some

theorem fenRepeat_nest (full : 3 ≤ u.bank.depth) : fenRepeat u count len shf = (u, .trap 2) :=
  (if_neg (by omega)).trans (if_pos full)

theorem fenRepeat_none (room : u.bank.depth < 3) (none : count = 0) : fenRepeat u count len shf = (u, .jump (u.pc + 1 + len)) :=
  (if_neg (by omega)).trans ((if_neg (by omega)).trans (if_pos none))

/-- The repeat state that a repeat sets. -/
def FenBank.startBlock (b : FenBank) (e pc count len : Nat) (shf : Bool) : FenBank := { b with
  beg := b.beg.set e ((pc + 1) % 8192)
  fin := b.fin.set e ((pc + len) % 8192)
  iter := b.iter.set e 0
  cnt := b.cnt.set e (count - 1)
  depth := e + 1
  shf := if shf then b.shf ||| 2 ^ e else b.shf - (if bit b.shf e then 2 ^ e else 0) }

theorem fenRepeat_starts (room : u.bank.depth < 3) (more : 0 < count) : fenRepeat u count len shf =
    (u.onBank fun b => b.startBlock u.bank.depth u.pc count len shf, .jump (u.pc + 1)) :=
  (if_neg (by omega)).trans ((if_neg (by omega)).trans (if_neg (by omega)))

end

/-! ### BRK and BR (R435) -/

section

variable {u : FenUnit} {w : Nat}

theorem fenBrk_idle (idle : u.bank.depth = 0) : fenBrk u w = (u, .next) := if_pos idle

theorem fenBrk_inside (active : 0 < u.bank.depth) (inside : u.bank.fin.getD (u.bank.depth - 1) 0 ≠ u.pc) :
    fenBrk u w = (u.onBank FenBank.endBlock, .jump (u.bank.fin.getD (u.bank.depth - 1) 0 + 1)) :=
  (if_neg (by omega)).trans (if_neg inside)

theorem fenBrk_last (active : 0 < u.bank.depth) (last : u.bank.fin.getD (u.bank.depth - 1) 0 = u.pc) : fenBrk u w =
    (((if bit u.bank.shf (u.bank.depth - 1) then u.shift else u).onBank FenBank.endBlock).complete 2 u.pc, .done) :=
  (if_neg (by omega)).trans (if_pos last)

theorem FenUnit.endBlocks_within {f t : Nat} (h : u.bank.depth = 0 ∨
    u.bank.beg.getD (u.bank.depth - 1) 0 ≤ t ∧ t ≤ u.bank.fin.getD (u.bank.depth - 1) 0) : u.endBlocks (f + 1) t = u := if_pos h

theorem FenUnit.endBlocks_outside {f t : Nat} (active : 0 < u.bank.depth)
    (outside : ¬(u.bank.beg.getD (u.bank.depth - 1) 0 ≤ t ∧ t ≤ u.bank.fin.getD (u.bank.depth - 1) 0)) :
    u.endBlocks (f + 1) t = (u.onBank FenBank.endBlock).endBlocks f t :=
  if_neg fun h => h.elim (by omega) outside

/-- The condition of a branch, by its code. -/
def branchHolds (c : Nat) (x : Int) : Prop := c = 0 ∨ c = 1 ∧ x = 0 ∨ c = 2 ∧ x ≠ 0 ∨ c = 3 ∧ x < 0 ∨ c = 4 ∧ 0 ≤ x

theorem branchTaken_listed {c : Nat} (h : c ≤ 4) (x : Int) : ∃ b, branchTaken c x = some b ∧ (b = true ↔ branchHolds c x) := by
  interval_cases c
  all_goals exact ⟨_, rfl, by simp [branchHolds]⟩

theorem branchTaken_unlisted {c : Nat} (h : 4 < c) (x : Int) : branchTaken c x = none := by
  unfold branchTaken
  split
  case h_6 => rfl
  all_goals omega

theorem fenBr_unlisted (h : 4 < bits w 22 4) : fenBr u w = (u, .trap 1) := by
  rw [fenBr, branchTaken_unlisted h]

theorem fenBr_taken (listed : bits w 22 4 ≤ 4) (holds : branchHolds (bits w 22 4) (u.sreg (bits w 16 6))) :
    fenBr u w = (u.endBlocks 3 (bits w 0 13), .jump (bits w 0 13)) := by
  obtain ⟨b, hb, iff⟩ := branchTaken_listed listed (u.sreg (bits w 16 6))
  rw [fenBr, hb, iff.mpr holds]

theorem fenBr_passed (listed : bits w 22 4 ≤ 4) (fails : ¬branchHolds (bits w 22 4) (u.sreg (bits w 16 6))) :
    fenBr u w = (u, .next) := by
  obtain ⟨b, hb, iff⟩ := branchTaken_listed listed (u.sreg (bits w 16 6))
  rw [fenBr, hb, Bool.eq_false_iff.mpr (mt iff.mp fails)]

theorem fenWaitg_waits (h : bits w 0 2 < u.ops.length) : fenWaitg u w = (u, .stall) := congrArg (u, ·) (if_pos h)

theorem fenWaitg_passed (h : u.ops.length ≤ bits w 0 2) : fenWaitg u w = (u, .next) := congrArg (u, ·) (if_neg (Nat.not_lt.mpr h))

end

/-! ### RETI and JEND (R440, R443, R447) -/

section

variable {d : Dev} {n w : Nat}

theorem Dev.fenReti_zero (level : (d.unit n).level = 0) : d.fenReti n w = (d, .next) := by
  simp only [Dev.fenReti, level]

theorem Dev.fenReti_one (level : (d.unit n).level = 1) :
    d.fenReti n w = ((d.setUnit n { (d.unit n).freeHolds 1 with level := 0 }).dispatch n, .done) := by
  simp only [Dev.fenReti, level]

theorem Dev.fenReti_two (level : (d.unit n).level = 2) : d.fenReti n w =
    ((d.setUnit n (FenUnit.goto { (d.unit n).freeHolds 2 with level := (d.unit n).under } ((d.unit n).trapPc.getD 0 0))).dispatch n, .done) := by
  simp only [Dev.fenReti, level]

/-- The holds that end with level 3, which has no bank of its own (R433, R440). -/
def FenUnit.freeDoubleHolds (u : FenUnit) : FenUnit := u.onBank fun b => { b with hold := b.hold.map fun h => if h = 10 then 0 else h }

theorem Dev.fenReti_three (level : (d.unit n).level = 3) : d.fenReti n w =
    (d.setUnit n (FenUnit.goto { (d.unit n).freeDoubleHolds with level := 2 } ((d.unit n).freeDoubleHolds.trapPc.getD 1 0)), .done) := by
  simp only [Dev.fenReti, level]
  rfl

theorem Dev.fenJend_zero (level : (d.unit n).level = 0) : d.fenJend n w =
    (((d.bump C.FEN_JOBS_DONE (d.engineOf n)).setUnit n ((d.unit n).leave 0)).dispatch n, .done) := by
  simp [Dev.fenJend, level]

theorem Dev.fenJend_one (level : (d.unit n).level = 1) :
    let e := d.mixDone (d.engineOf n) ((d.unit n).entry.getD 64)
    d.fenJend n w = (((e.bump C.FEN_JOBS_DONE (e.engineOf n)).setUnit n ((d.unit n).leave 1)).dispatch n, .done) := by
  simp [Dev.fenJend, level]

theorem Dev.fenJend_handler (level : 2 ≤ (d.unit n).level) : d.fenJend n w = (d.trapJob n, .done) := if_pos level

end

/-- Settles O50: each instruction by the state of the block, the condition or the level. -/
theorem fenControlFlowActs : Obligations.FenControlFlowActs := by
  refine ⟨fun U f pc => ⟨rfl, FenUnit.complete_inside, FenUnit.complete_again, FenUnit.complete_ends⟩,
    fun U full => ⟨FenUnit.shift_first full, fun i => FenUnit.shift_window full, fun i => FenUnit.shift_below full⟩,
    fun u s => ?rep, fun u s runs => ?brk, fun u s runs => ?br,
    fun U f t => ⟨FenUnit.endBlocks_within, FenUnit.endBlocks_outside⟩, fun u s runs => ?call, fun u s runs => ?ret,
    fun u s runs => ?reti, fun u s runs => ?waitg, fun u s runs => ?jend, fun d n => rfl⟩
  case rep =>
    intro w U e len n sets skips p hp runs
    have row : ∃ f, exec p.1 s = s.becomes (s.dev.fenRow u p.2.1 (onlyUnit f)) ∧ f U w = fenRepeat U p.2.2.1 len p.2.2.2 ∧
        fenOpcodes.contains p.2.1 = true := by
      simp only [List.mem_cons, List.not_mem_nil, or_false] at hp
      rcases hp with rfl | rfl | rfl
      all_goals exact ⟨_, rfl, rfl, rfl⟩
    obtain ⟨f, hrow, hf, hop⟩ := row
    rw [hrow]
    refine ⟨fun empty => ?_, fun some full => ?_, fun some room none => ?_, fun some room more => ?_⟩
    · rw [Dev.fenRow_onlyUnit_trap runs hop (hf.trans (fenRepeat_empty empty))]
    · rw [Dev.fenRow_onlyUnit_trap runs hop (hf.trans (fenRepeat_nest some full))]
    · rw [Dev.fenRow_onlyUnit_jump runs hop (hf.trans (fenRepeat_none some room none))]
    · exact congrArg s.becomes (Dev.fenRow_onlyUnit_jump runs hop (hf.trans (fenRepeat_starts some room more)))
  case brk =>
    rw [exec_brk]
    refine ⟨fun idle => ?_, fun active inside => ?_, fun active last => ?_⟩
    · rw [Dev.fenRow_onlyUnit_next runs rfl (fenBrk_idle idle)]
    · rw [Dev.fenRow_onlyUnit_jump runs rfl (fenBrk_inside active inside)]
    · rw [Dev.fenRow_onlyUnit_done runs rfl (fenBrk_last active last)]
  case br =>
    intro w U x c taken
    rw [exec_br]
    refine ⟨fun unlisted => ?_, fun holds => ?_, fun listed fails => ?_⟩
    · rw [Dev.fenRow_onlyUnit_trap runs rfl (fenBr_unlisted unlisted)]
    · have listed : c ≤ 4 := by omega
      rw [Dev.fenRow_onlyUnit_jump runs rfl (fenBr_taken listed holds)]
    · rw [Dev.fenRow_onlyUnit_next runs rfl (fenBr_passed listed fails)]
  case call => exact congrArg s.becomes (Dev.fenRow_onlyUnit_jump runs rfl rfl)
  case ret => exact congrArg s.becomes (Dev.fenRow_onlyUnit_jump runs rfl rfl)
  case reti =>
    rw [exec_reti]
    refine ⟨fun level => ?_, fun level => ?_, fun level => ?_, fun level => ?_⟩
    · rw [Dev.fenRow_next runs rfl (Dev.fenReti_zero level)]
    · rw [Dev.fenRow_done runs rfl (Dev.fenReti_one level)]
    · rw [Dev.fenRow_done runs rfl (Dev.fenReti_two level)]
    · exact congrArg s.becomes (Dev.fenRow_done runs rfl (Dev.fenReti_three level))
  case waitg =>
    rw [exec_waitg]
    refine ⟨fun waits => ?_, fun passes => ?_⟩
    · rw [Dev.fenRow_onlyUnit_stall runs rfl (fenWaitg_waits waits)]
    · rw [Dev.fenRow_onlyUnit_next runs rfl (fenWaitg_passed passes)]
  case jend =>
    rw [exec_jend]
    refine ⟨fun level => ?_, fun level => ?_, fun level => ?_⟩
    · rw [Dev.fenRow_done runs rfl (Dev.fenJend_zero level)]
    · rw [Dev.fenRow_done runs rfl (Dev.fenJend_one level)]
    · rw [Dev.fenRow_done runs rfl (Dev.fenJend_handler level)]

end Sys2Proof.Machine
end

/-! ## Transfers, background jobs, swaps, failures and the host's writes (R425–R427, R433, R442, R443, R449) -/

section

namespace Sys2Proof.Machine

/-! ### GATHER and SCATTER (R442) -/

theorem FenUnit.descriptor_eq (u : FenUnit) (a : Nat) (scatter : Bool) :
    u.descriptor a scatter = ⟨scatter, u.data a / 2 ^ 28 % 16, u.data a % 65536, u.data (a + 1) % 65536, u.data (a + 1) / 65536 % 65536,
      u.data (a + 2) % 16384, u.data (a + 3) % 2048, u.entry.getD 0⟩ := by
  simp [FenUnit.descriptor, bits]

section

variable {d : Dev} {n w : Nat} {scatter : Bool}

theorem Dev.fenTransfer_waits (full : 4 ≤ (d.unit n).ops.length) : d.fenTransfer scatter n w = (d, .stall) := if_pos full

variable (room : (d.unit n).ops.length < 4)
include room

theorem Dev.fenTransfer_place (beyond : 16384 ≤ ((d.unit n).ptr (bits w 23 3)).address + 3) :
    d.fenTransfer scatter n w = (d, .trap 3) := (if_neg (Nat.not_le.mpr room)).trans (if_pos beyond)

variable (place : ((d.unit n).ptr (bits w 23 3)).address + 3 < 16384)
include place

theorem Dev.fenTransfer_bad
    (bad : ((d.unit n).descriptor ((d.unit n).ptr (bits w 23 3)).address scatter).wellFormed = false) :
    d.fenTransfer scatter n w = (d, .trap 5) := by
  simp only [Dev.fenTransfer, bad, if_neg (Nat.not_le.mpr room), if_neg (Nat.not_le.mpr place), Bool.not_false, if_true]

variable (good : ((d.unit n).descriptor ((d.unit n).ptr (bits w 23 3)).address scatter).wellFormed = true)
include good

theorem Dev.fenTransfer_reach {x : FenDesc} (hx : (d.unit n).descriptor ((d.unit n).ptr (bits w 23 3)).address scatter = x)
    (beyond : 16384 < x.dm + d.descWords x) : d.fenTransfer scatter n w = (d, .trap 3) := by
  subst hx
  simp only [Dev.fenTransfer, good, if_neg (Nat.not_le.mpr room), if_neg (Nat.not_le.mpr place), Bool.not_true, Bool.false_eq_true, if_false]
  exact if_pos beyond

theorem Dev.fenTransfer_of {x : FenDesc} (hx : (d.unit n).descriptor ((d.unit n).ptr (bits w 23 3)).address scatter = x)
    (inside : x.dm + d.descWords x ≤ 16384) : d.fenTransfer scatter n w =
      ((d.countFold n (bits w 23 3)).onUnit n fun u => { u.stepPtr (bits w 23 3) 0 with ops := u.ops ++ [x] }, .next) := by
  subst hx
  simp only [Dev.fenTransfer, good, if_neg (Nat.not_le.mpr room), if_neg (Nat.not_le.mpr place), Bool.not_true, Bool.false_eq_true, if_false]
  exact if_neg (Nat.not_lt.mpr inside)

end

/-! ### An operation completes -/

section

variable {d : Dev} {n i : Nat} {words : List Nat}

theorem Dev.gatherComplete_none (none : (d.unit n).ops[i]? = none) : d.gatherComplete n i words = d := by
  simp only [Dev.gatherComplete, none]

/-- The operation leaves the list. -/
def Dev.withoutOp (d : Dev) (n i : Nat) : Dev := d.onUnit n fun u => { u with ops := u.ops.eraseIdx i }

variable {x : FenDesc} (op : (d.unit n).ops[i]? = some x)
include op

theorem Dev.gatherComplete_scatter (scatter : x.scatter = true) :
    d.gatherComplete n i words = (d.withoutOp n i).scattered n x words := by
  simp only [Dev.gatherComplete, op, scatter, if_true]
  rfl

variable (gather : x.scatter = false)
include gather

theorem Dev.gatherComplete_fifo (kind : x.kind = 3) :
    let e := (d.withoutOp n i).fifoOut x.first x.count
    d.gatherComplete n i words = e.2.onUnit n fun u => u.fill x.dm (e.2.gathered x e.1) := by
  simp [Dev.gatherComplete, op, gather, kind, Dev.withoutOp]

theorem Dev.gatherComplete_line (kind : x.kind = 5) :
    let e := d.withoutOp n i
    d.gatherComplete n i words = e.onUnit n fun u => u.fill x.dm (e.gathered x ((e.lineWords x.first x.line).getD words)) := by
  simp [Dev.gatherComplete, op, gather, kind, Dev.withoutOp]

theorem Dev.gatherComplete_other (fifo : x.kind ≠ 3) (line : x.kind ≠ 5) :
    let e := d.withoutOp n i
    d.gatherComplete n i words = e.onUnit n fun u => u.fill x.dm (e.gathered x words) := by
  simp [Dev.gatherComplete, op, gather, fifo, line, Dev.withoutOp]

end

/-! ### BACKGROUND jobs (R443) -/

/-- A unit that may start a job, runs nothing and has nothing due. -/
def Dev.fenReady (d : Dev) (n : Nat) : Prop :=
  d.fenMayStart n = true ∧ (d.unit n).running = false ∧ (d.unit n).frameDue = [] ∧ (d.unit n).blockDue = []

/-- The entry whose turn it is. -/
def Dev.backgroundTurn (d : Dev) (l : Nat) : Option Nat :=
  ((d.entriesOf l 2).filter ((d.unit (d.unitFor l)).nextBg ≤ ·) ++ d.entriesOf l 2).head?

theorem Dev.fenReady_iff (d : Dev) (n : Nat) : (!d.fenMayStart n || (d.unit n).running || (d.unit n).frameDue != [] ||
    !(d.unit n).blockDue.isEmpty) = false ↔ d.fenReady n := by
  simp [Dev.fenReady, and_assoc]

section

variable {d : Dev} {l : Nat}

theorem Dev.backgroundDispatch_waits (busy : ¬d.fenReady (d.unitFor l)) : d.backgroundDispatch l = d :=
  if_pos (Bool.not_eq_false _ ▸ mt (d.fenReady_iff _).mp busy)

theorem Dev.backgroundDispatch_idle (none : d.backgroundTurn l = none) : d.backgroundDispatch l = d := by
  rw [Dev.backgroundTurn] at none
  simp only [Dev.backgroundDispatch, none, ite_self]

theorem Dev.backgroundDispatch_of {k : Nat} (ready : d.fenReady (d.unitFor l)) (turn : d.backgroundTurn l = some k) :
    d.backgroundDispatch l = ((d.bump C.FEN_JOBS_DUE l).setUnit (d.unitFor l)
      { d.unit (d.unitFor l) with nextBg := (k + 1) % 64 }).startJob (d.unitFor l) 0 k := by
  rw [Dev.backgroundTurn] at turn
  simp only [Dev.backgroundDispatch, (d.fenReady_iff _).mpr ready, Bool.false_eq_true, if_false, turn]

end

/-! ### Swaps (R426) -/

/-- An engine that has a unit may be swapped to the idle spare: its unit is idle with nothing outstanding, and 20 µs remain. -/
def Dev.swapReady (d : Dev) (l dst : Nat) : Prop := d.get F.FEN_MAP_VALID l ≠ 0 ∧ d.get F.FEN_ENG_STATUS_USE dst = 0 ∧
  (d.unit (d.unitFor l)).running = false ∧ (d.unit (d.unitFor l)).ops = [] ∧ d.swapTime = true

theorem Dev.swapReady_iff (d : Dev) (l dst : Nat) : (d.get F.FEN_MAP_VALID l == 0 || d.get F.FEN_ENG_STATUS_USE dst != 0 ||
    (d.unit (d.unitFor l)).running || (d.unit (d.unitFor l)).ops != [] || !d.swapTime) = false ↔ d.swapReady l dst := by
  simp [Dev.swapReady, and_assoc]

theorem Dev.fenSwap_waits {d : Dev} {l dst : Nat} (h : ¬d.swapReady l dst) : d.fenSwap l dst = d :=
  if_pos (Bool.not_eq_false _ ▸ mt (d.swapReady_iff ..).mp h)

theorem Dev.fenSwap_of {d : Dev} {l dst : Nat} (h : d.swapReady l dst) : d.fenSwap l dst =
    ((d.setUnit dst (d.unit (d.unitFor l))).onUnit (d.unitFor l) fun u => { u with job1 := none, blockDue := [], frameDue := [] }).remap
      l (d.unitFor l) dst 0 0 :=
  if_neg (by rw [(d.swapReady_iff ..).mpr h]; exact Bool.false_ne_true)

/-! ### Failure and reload (R427) -/

section

variable {d : Dev} {n : Nat} (mem : Bool) (spare : Nat) (ports slots : List Nat)

/-- What a failed unit leaves of its engine's state before the engine moves. -/
def Dev.lostUnit (d : Dev) (n : Nat) (mem : Bool) (ports slots : List Nat) : Dev :=
  (((if mem && (d.unit n).running then d.fenTrap n 6 else d).dropJobs n).each ports fun d p => d.restartRatio p).each slots
    fun d j => d.resetLoudness false j

variable (untested : d.poolUnit 0 ≠ n) (inPool : d.get F.FEN_ENG_STATUS_USE n ≠ 3)
include untested inPool

theorem Dev.fenUnitFailure_unused (unused : 256 ≤ d.engineOf n) :
    d.fenUnitFailure n mem spare ports slots = (d.retireFen n).healthReview := by
  have serves : ¬d.engineOf n < 256 := Nat.not_lt.mpr unused
  simp [Dev.fenUnitFailure, inPool, serves, unused, untested]

variable (serves : d.engineOf n < 256) (served : d.get F.FEN_MAP_VALID (d.engineOf n) ≠ 0)
include serves served

/-- Its engine goes to a spare, or stays on it. -/
theorem Dev.fenUnitFailure_serving :
    let g := d.lostUnit n mem ports slots
    d.fenUnitFailure n mem spare ports slots =
      (match (if g.idleUnits.contains spare then some spare else g.idleUnits.head?) with
        | some dst => g.takeSpare (d.engineOf n) n dst
        | none => g.set F.FEN_MAP_VALID (d.engineOf n) 0).healthReview := by
  have goes : ¬(d.get F.FEN_ENG_STATUS_USE n == 3 || decide (d.engineOf n < 256) && d.get F.FEN_MAP_VALID (d.engineOf n) == 0) = true := by
    simp [inPool, served]
  simp only [Dev.fenUnitFailure, if_neg goes, if_neg untested, if_neg (Nat.not_le.mpr serves)]
  rfl

theorem Dev.fenUnitFailure_spare (idle : (d.lostUnit n mem ports slots).idleUnits.contains spare = true) :
    d.fenUnitFailure n mem spare ports slots = ((d.lostUnit n mem ports slots).takeSpare (d.engineOf n) n spare).healthReview := by
  rw [Dev.fenUnitFailure_serving mem spare ports slots untested inPool serves served, if_pos idle]

theorem Dev.fenUnitFailure_none (empty : (d.lostUnit n mem ports slots).idleUnits = []) :
    d.fenUnitFailure n mem spare ports slots = ((d.lostUnit n mem ports slots).set F.FEN_MAP_VALID (d.engineOf n) 0).healthReview := by
  rw [Dev.fenUnitFailure_serving mem spare ports slots untested inPool serves served, empty]
  rfl

end

theorem Dev.reloadDone_of {d : Dev} {l : Nat} (image : List Nat) (due : d.hget H.fenReload l ≠ 0) (holder : d.holder 13 = 7)
    (runs : d.lathRuns = true) :
    d.reloadDone l image = (d.hset H.fenReload l 0).onUnit (d.unitFor l) fun u => u.load image := by
  simp [Dev.reloadDone, due, holder, runs]

/-! ### The window (R449) -/

section

variable {d : Dev} {n a w : Nat}

theorem Dev.writeFenWindow_program (page : d.get F.FEN_PAGE_PAGE n < 2) (halted : d.halted n = true) :
    d.writeFenWindow n a w = d.onUnit n fun u => u.setProgram (4096 * d.get F.FEN_PAGE_PAGE n + a) w :=
  (if_pos page).trans (if_pos halted)

theorem Dev.writeFenWindow_refused (page : d.get F.FEN_PAGE_PAGE n < 2) (runs : d.halted n = false) :
    d.writeFenWindow n a w = d.raise 774 [n, 4096 * d.get F.FEN_PAGE_PAGE n + a] :=
  (if_pos page).trans (if_neg (Bool.eq_false_iff.mp runs))

theorem Dev.writeFenWindow_data (page : 2 ≤ d.get F.FEN_PAGE_PAGE n) :
    d.writeFenWindow n a w = d.onUnit n fun u => u.setData (4096 * (d.get F.FEN_PAGE_PAGE n - 2) + a) w := if_neg (Nat.not_lt.mpr page)

end

/-- Settles O51: each row by the state of its unit, its operation, its engine or the page. -/
theorem fenUnitsActs : Obligations.FenUnitsActs := by
  refine ⟨fun u s => ?transfer, FenUnit.descriptor_eq, fun u i words s => ?complete,
    fun l s => ?background, fun d n k => rfl, fun l dst s => ?swap, fun d l n dst use kind => rfl,
    fun u mem spare ports slots s => ?failure, fun l image s due holder runs => ?reload, fun m u v s reach => ?halt,
    fun m u v s reach => ?guard, fun m u a v s reach => ?window⟩
  case transfer =>
    intro w U i a p hp runs x
    have row : exec p.1 s = s.becomes (s.dev.fenRow u p.2.1 fun d => d.fenTransfer p.2.2) ∧ fenOpcodes.contains p.2.1 = true := by
      simp only [List.mem_cons, List.not_mem_nil, or_false] at hp
      rcases hp with rfl | rfl
      all_goals exact ⟨rfl, rfl⟩
    obtain ⟨hrow, hop⟩ := row
    rw [hrow]
    refine ⟨fun full => ?_, fun room beyond => ?_, fun room place bad => ?_, fun room place good beyond => ?_,
      fun room place good inside => ?_⟩
    · rw [Dev.fenRow_stall runs hop (Dev.fenTransfer_waits full)]
    · rw [Dev.fenRow_trap runs hop (Dev.fenTransfer_place room beyond)]
    · rw [Dev.fenRow_trap runs hop (Dev.fenTransfer_bad room place bad)]
    · rw [Dev.fenRow_trap runs hop (Dev.fenTransfer_reach room place good rfl beyond)]
    · rw [Dev.fenRow_next runs hop (Dev.fenTransfer_of room place good rfl inside)]
  case complete =>
    intro d ws
    rw [exec_gatherComplete]
    refine ⟨fun none => ?_, fun x op scatter => ?_, fun x op gather => ⟨fun kind => ?_, fun kind => ?_, fun fifo line => ?_⟩⟩
    · rw [Dev.gatherComplete_none none]
    · exact congrArg s.becomes (Dev.gatherComplete_scatter op scatter)
    · exact congrArg s.becomes (Dev.gatherComplete_fifo op gather kind)
    · exact congrArg s.becomes (Dev.gatherComplete_line op gather kind)
    · exact congrArg s.becomes (Dev.gatherComplete_other op gather fifo line)
  case background =>
    intro n U ready turn
    rw [exec_backgroundDispatch]
    refine ⟨fun busy => ?_, fun none => ?_, fun k ready some => ?_⟩
    · rw [Dev.backgroundDispatch_waits busy]
    · rw [Dev.backgroundDispatch_idle none]
    · rw [Dev.backgroundDispatch_of ready some]
  case swap =>
    intro n U ready
    rw [exec_swap]
    refine ⟨fun waits => ?_, fun ready => ?_⟩
    · rw [Dev.fenSwap_waits waits]
    · rw [Dev.fenSwap_of ready]
  case failure =>
    intro l untested inPool served e f g
    rw [exec_fenUnitFailure]
    refine ⟨fun unused => ?_, fun serves idle => ?_, fun serves empty => ?_⟩
    · rw [Dev.fenUnitFailure_unused mem spare _ _ untested inPool unused]
    all_goals have valid : s.dev.get F.FEN_MAP_VALID l ≠ 0 := served.resolve_left (Nat.not_le.mpr serves)
    · exact congrArg s.becomes (Dev.fenUnitFailure_spare mem spare _ _ untested inPool serves valid idle)
    · exact congrArg s.becomes (Dev.fenUnitFailure_none mem spare _ _ untested inPool serves valid empty)
  case reload => rw [exec_fenReloadDone, Dev.reloadDone_of _ due holder runs]
  case halt =>
    rw [exec_haltWrite, Dev.busWrite_of reach]
    rfl
  case guard =>
    rw [exec_guardOvfClear, Dev.busWrite_of reach]
    rfl
  case window =>
    intro d page done
    have same : d.get F.FEN_PAGE_PAGE u = page := s.dev.get_transaction ..
    rw [exec_pmWindowWrite, Dev.busWrite_of reach]
    refine ⟨fun low halted => ?_, fun low runs => ?_, fun high => ?_⟩
    · rw [Dev.writeFenWindow_program (same.symm ▸ low) halted, same]
    · rw [Dev.writeFenWindow_refused (same.symm ▸ low) runs, same]
    · rw [Dev.writeFenWindow_data (same.symm ▸ high), same]

end Sys2Proof.Machine
end

/-! Proofs of the statements on the mix-tap matrix and the meters. -/

/-! ## Lists that are turned away, and lists that fit (R401, R407–R409, R413, R415) -/

section

namespace Sys2Proof.Machine

/-! ### One list -/

theorem reservedChannel_iff (n : Nat) : reservedChannel n = true ↔ 58112 ≤ n ∧ n ≤ 61439 := by
  simp [reservedChannel]

theorem repeatsSource_iff (ts : List (Nat × Int)) : repeatsSource ts = true ↔ ¬(ts.map Prod.fst).Nodup := by
  induction ts with
  | nil => simp [repeatsSource]
  | cons t ts ih =>
    rw [repeatsSource, Bool.or_eq_true, ih, List.map_cons, List.nodup_cons, not_and_or, not_not]
    simp [List.mem_map]

section

variable {b : Bool} {ts : List (Nat × Int)}

theorem listFault_reserved (h : ∃ t ∈ ts, 58112 ≤ t.1 ∧ t.1 ≤ 61439) : listFault b ts = some (St.badParam, 0x60) := by
  obtain ⟨t, mem, range⟩ := h
  exact if_pos (List.any_eq_true.mpr ⟨t, mem, (reservedChannel_iff t.1).mpr range⟩)

variable (free : ∀ t ∈ ts, reservedChannel t.1 = false)
include free

/-- The checks of a list that names no reserved source. -/
theorem listFault_free : listFault b ts =
    if ts.length > 4096 then some (St.badParam, 0x63)
    else if repeatsSource ts then some (St.badParam, 0x64)
    else if b && gainLoad ts > loadLimit then some (St.badParam, 0x61)
    else none :=
  if_neg fun h => by
    obtain ⟨t, mem, res⟩ := List.any_eq_true.mp h
    rw [free t mem] at res
    exact Bool.false_ne_true res

theorem listFault_long (long : 4096 < ts.length) : listFault b ts = some (St.badParam, 0x63) :=
  (listFault_free free).trans (if_pos long)

variable (short : ts.length ≤ 4096)
include short

theorem listFault_repeats (repeats : repeatsSource ts = true) : listFault b ts = some (St.badParam, 0x64) :=
  (listFault_free free).trans ((if_neg (Nat.not_lt.mpr short)).trans (if_pos repeats))

variable (once : repeatsSource ts = false)
include once

theorem listFault_load : listFault b ts = if b && gainLoad ts > loadLimit then some (St.badParam, 0x61) else none :=
  (listFault_free free).trans ((if_neg (Nat.not_lt.mpr short)).trans (if_neg (Bool.eq_false_iff.mp once)))

theorem listFault_loud (loud : loadLimit < gainLoad ts) : listFault true ts = some (St.badParam, 0x61) := by
  rw [listFault_load free short once, if_pos (by simp [loud])]

theorem listFault_none (quiet : b = false ∨ gainLoad ts ≤ loadLimit) : listFault b ts = none := by
  rw [listFault_load free short once, if_neg]
  rcases quiet with rfl | low
  · simp
  · simp [low]

end

theorem reservedChannel_false_of {ts : List (Nat × Int)} (h : ∀ t ∈ ts, t.1 < 58112 ∨ 61439 < t.1) :
    ∀ t ∈ ts, reservedChannel t.1 = false := fun t mem => by
  rw [← Bool.not_eq_true, reservedChannel_iff]
  have := h t mem
  omega

/-! ### Several lists -/

section

variable {d : Dev} {q : Req} {op : Nat} {ts : List Tlv} {ramp : Nat} {lists : List (Nat × List (Nat × Int))}

/-- The first fault of the lists. -/
def Dev.listsFault (d : Dev) (ts : List Tlv) (lists : List (Nat × List (Nat × Int))) : Option (Nat × Nat) :=
  lists.findSome? fun l => listFault (d.sounds (d.changeFrame (frameTlv ts)) l.1) l.2

/-- No list is for a channel that only a leased Fen's job could carry (R446). -/
def Dev.listsFree (d : Dev) (lists : List (Nat × List (Nat × Int))) : Prop :=
  d.holder 13 = 7 ∨ ∀ l ∈ lists, (d.jobOf l.1).isSome = true

/-- The table units that lists take. -/
def listSizes (lists : List (Nat × List (Nat × Int))) : List Nat := lists.map fun l => unitsFor l.2.length

/-- The writes of lists at their units. -/
def listsWrites (lists : List (Nat × List (Nat × Int))) (us : List Nat) (ramp : Nat) : List ShadowWrite :=
  (lists.zip us).flatMap fun p => listWrites p.1.1 p.2 ramp p.1.2

/-- The engines have room for the jobs of the planned lists with those writes. -/
def Dev.jobsFit (d : Dev) (n : Nat) (ws : List ShadowWrite) : Bool :=
  d.placeable (d.mixJobs (d.listLengths (d.heldWrites ws) ((d.plannedAt n).over ws)))

theorem Dev.listsFree_iff : ¬(d.holder 13 != 7 && lists.any fun l => (d.jobOf l.1).isNone) = true ↔ d.listsFree lists := by
  rw [Dev.listsFree]
  by_cases held : d.holder 13 = 7 <;> simp [held, Option.isSome_iff_ne_none]

theorem Dev.newLists_fault {e : Nat × Nat} (fault : d.listsFault ts lists = some e) :
    d.newLists q op ts ramp lists = d.reply q op e.1 [statusDetail 0xFFFF 0xFF e.2] := by
  rw [Dev.listsFault] at fault
  simp only [Dev.newLists, fault]

variable (good : d.listsFault ts lists = none)
include good

theorem Dev.newLists_leased (leased : ¬d.listsFree lists) : d.newLists q op ts ramp lists = d.reply q op St.leased := by
  rw [Dev.listsFault] at good
  simp only [Dev.newLists, good]
  exact if_pos (not_not.mp (mt Dev.listsFree_iff.mp leased))

variable (free : d.listsFree lists)
include free

theorem Dev.newLists_table (full : 131072 - unitsIn d.unitRuns < (listSizes lists).sum) :
    d.newLists q op ts ramp lists = d.reply q op St.exhausted [statusDetail 0xFFFF 0xFF 0x66] := by
  rw [Dev.listsFault] at good
  simp only [Dev.newLists, good, if_neg (Dev.listsFree_iff.mpr free)]
  exact if_pos full

variable (room : (listSizes lists).sum ≤ 131072 - unitsIn d.unitRuns) {us : List Nat}
  (units : allot d.unitRuns (d.fresh.1 % 131072) (listSizes lists) = some us)
include room units

theorem Dev.newLists_allotted : d.newLists q op ts ramp lists =
    if !d.fresh.2.jobsFit (d.changeFrame (frameTlv ts)) (listsWrites lists us ramp) then
      d.fresh.2.reply q op St.exhausted [statusDetail 0xFFFF 0xFF 0x70]
    else (d.fresh.2.holdChange q op (frameTlv ts) (listsWrites lists us ramp)).checkTable := by
  rw [Dev.listsFault] at good
  rw [listSizes] at room units
  simp only [Dev.newLists, good, if_neg (Dev.listsFree_iff.mpr free), if_neg (Nat.not_lt.mpr room), units]
  rfl

theorem Dev.newLists_jobs (full : d.fresh.2.jobsFit (d.changeFrame (frameTlv ts)) (listsWrites lists us ramp) = false) :
    d.newLists q op ts ramp lists = d.fresh.2.reply q op St.exhausted [statusDetail 0xFFFF 0xFF 0x70] := by
  rw [Dev.newLists_allotted good free room units, full, Bool.not_false, if_pos rfl]

theorem Dev.newLists_of (fits : d.fresh.2.jobsFit (d.changeFrame (frameTlv ts)) (listsWrites lists us ramp) = true) :
    d.newLists q op ts ramp lists = (d.fresh.2.holdChange q op (frameTlv ts) (listsWrites lists us ramp)).checkTable := by
  rw [Dev.newLists_allotted good free room units, fits, Bool.not_true, if_neg Bool.false_ne_true]

end

/-- Lists that fit are held for their frame. -/
theorem Dev.newLists_fit {d : Dev} {ts : List Tlv} {ramp : Nat} {lists : List (Nat × List (Nat × Int))} {us : List Nat}
    (fit : d.ListsFit ts ramp lists us) (q : Req) (op : Nat) :
    d.newLists q op ts ramp lists = (d.fresh.2.holdChange q op (frameTlv ts) (listsWrites lists us ramp)).checkTable := by
  obtain ⟨checks, free, room, units, jobs⟩ := fit
  have good : d.listsFault ts lists = none := List.findSome?_eq_none_iff.mpr fun l mem =>
    let ⟨sources, short, once, quiet⟩ := checks l mem
    listFault_none sources short once quiet
  have jobs : d.fresh.2.jobsFit (d.changeFrame (frameTlv ts)) (listsWrites lists us ramp) = true := jobs
  exact Dev.newLists_of good free room units jobs

/-! ### The commands -/

section

variable {d e : Dev} {q : Req} {ts : List Tlv}

theorem Dev.mixSet_of (h : d.Accepts q mixSetSpec ts e) :
    let k := tlvNum ts 0x0101
    let old := if hasTlv ts 0x0104 then tapsOf (e.plannedAt (e.changeFrame (frameTlv ts))) k else []
    d.mixSet q = e.newLists q 0x0301 ts (tlvNum ts 0x0102 480) [(k, old ++ (tlvAll ts 0x0103).map tapOf)] :=
  Dev.command_of h _

theorem Dev.tapGain_of (h : d.Accepts q tapGainSpec ts e) :
    let k := tlvNum ts 0x0101
    let src := tlvNum ts 0x0105
    let g := toSigned 32 (tlvNum ts 0x0106)
    let old := tapsOf (e.plannedAt (e.changeFrame (frameTlv ts))) k
    let new := if hasTlv ts 0x0107 then old.filter (·.1 != src)
      else if old.any (·.1 == src) then old.map fun t => if t.1 = src then (src, g) else t
      else old ++ [(src, g)]
    d.tapGain q = e.newLists q 0x0302 ts (tlvNum ts 0x0102 480) [(k, new)] :=
  Dev.command_of h _

theorem Dev.routeAudio_source (h : d.Accepts q routeSpec ts e) (crosses : crossesRow (tlvNum ts 0x0108) (tlvNum ts 0x010A) = true) :
    d.routeAudio q = e.reply q 0x0303 St.badParam [statusDetail (tlvIndex ts 0x0108) 0xFF 0x60] :=
  (Dev.command_of h _).trans (if_pos crosses)

theorem Dev.routeAudio_dest (h : d.Accepts q routeSpec ts e) (source : crossesRow (tlvNum ts 0x0108) (tlvNum ts 0x010A) = false)
    (crosses : crossesRow (tlvNum ts 0x0109) (tlvNum ts 0x010A) = true) :
    d.routeAudio q = e.reply q 0x0303 St.badParam [statusDetail (tlvIndex ts 0x0109) 0xFF 0x60] :=
  (Dev.command_of h _).trans ((if_neg (Bool.eq_false_iff.mp source)).trans (if_pos crosses))

theorem Dev.routeAudio_of (h : d.Accepts q routeSpec ts e) (source : crossesRow (tlvNum ts 0x0108) (tlvNum ts 0x010A) = false)
    (dest : crossesRow (tlvNum ts 0x0109) (tlvNum ts 0x010A) = false) :
    d.routeAudio q = e.newLists q 0x0303 ts (tlvNum ts 0x0102 480)
      ((List.range (tlvNum ts 0x010A)).map fun i => (tlvNum ts 0x0109 + i, [(tlvNum ts 0x0108 + i, 0x10000000)])) :=
  (Dev.command_of h _).trans ((if_neg (Bool.eq_false_iff.mp source)).trans (if_neg (Bool.eq_false_iff.mp dest)))

theorem Dev.mixGet_of (h : d.Accepts q mixGetSpec ts e) :
    let k := tlvNum ts 0x0101
    d.mixGet q = e.reply q 0x0304 St.ok (⟨0x0102, w4 (e.get F.AMX_DEST_RAMP_RAMP_LEN k) ++
      w4 (e.get F.AMX_DEST_RAMP_MUTE k)⟩ :: (tapsOf e.inEffect k).map fun t => data [w4 t.1, w4 (ofSigned 32 t.2)]) :=
  Dev.command_of h _

/-- DEST_MUTE would unmute a list above the gain load. -/
def Dev.unmutesLoud (d : Dev) (ts : List Tlv) : Bool :=
  tlvNum ts 0x010B == 0 && (List.range (tlvNum ts 0x010A)).any fun i => d.overloads (d.changeFrame (frameTlv ts)) (tlvNum ts 0x0109 + i)

theorem Dev.destMute_crosses (h : d.Accepts q destMuteSpec ts e) (crosses : crossesRow (tlvNum ts 0x0109) (tlvNum ts 0x010A) = true) :
    d.destMute q = e.reply q 0x0305 St.badParam [statusDetail (tlvIndex ts 0x0109) 0xFF 0x60] :=
  (Dev.command_of h _).trans (if_pos crosses)

theorem Dev.destMute_loud (h : d.Accepts q destMuteSpec ts e) (within : crossesRow (tlvNum ts 0x0109) (tlvNum ts 0x010A) = false)
    (loud : e.unmutesLoud ts = true) : d.destMute q = e.reply q 0x0305 St.badParam [statusDetail 0xFFFF 0xFF 0x61] :=
  (Dev.command_of h _).trans ((if_neg (Bool.eq_false_iff.mp within)).trans (if_pos loud))

theorem Dev.destMute_of (h : d.Accepts q destMuteSpec ts e) (within : crossesRow (tlvNum ts 0x0109) (tlvNum ts 0x010A) = false)
    (quiet : e.unmutesLoud ts = false) : d.destMute q = e.holdChange q 0x0305 (frameTlv ts)
      ((List.range (tlvNum ts 0x010A)).map fun i => sw F.AMX_DEST_RAMP_MUTE (tlvNum ts 0x0109 + i) (tlvNum ts 0x010B)) :=
  (Dev.command_of h _).trans ((if_neg (Bool.eq_false_iff.mp within)).trans (if_neg (Bool.eq_false_iff.mp quiet)))

theorem Dev.amxStatusGet_beyond (h : d.Accepts q amxStatusGetSpec ts e) (beyond : 65536 < tlvNum ts 0x0109 + tlvNum ts 0x010A) :
    d.amxStatusGet q = e.reply q 0x0306 St.badParam [statusDetail (tlvIndex ts 0x0109) 0xFF 0] :=
  (Dev.command_of h _).trans (if_pos beyond)

theorem Dev.amxStatusGet_of (h : d.Accepts q amxStatusGetSpec ts e) (within : tlvNum ts 0x0109 + tlvNum ts 0x010A ≤ 65536) :
    d.amxStatusGet q = e.reply q 0x0306 St.ok
      (⟨0x0102, w4 e.freeUnits⟩ :: (List.range (tlvNum ts 0x010A)).map fun i => e.amxStatusOf (tlvNum ts 0x0109 + i)) :=
  (Dev.command_of h _).trans (if_neg (Nat.not_lt.mpr within))

end

/-- Settles O45: each command by its ranges, and a list by the first check that it fails. -/
theorem mixCommandsAct : Obligations.MixCommandsAct := by
  refine ⟨fun q s ts e h => ?set, fun q s ts e h => ?gain, fun q s ts e h => ?route, fun d q op ts ramp lists => ?lists, fun b ts => ?list,
    fun q s ts e h => ?get, fun q s ts e h => ?mute, fun q s ts e h => ?status⟩
  case set => exact congrArg s.becomes (Dev.mixSet_of h)
  case gain => exact congrArg s.becomes (Dev.tapGain_of h)
  case route =>
    rw [exec_route]
    refine ⟨fun source => ?_, fun source dest => ?_, fun source dest => ?_⟩
    · rw [Dev.routeAudio_source h source]
    · rw [Dev.routeAudio_dest h source dest]
    · rw [Dev.routeAudio_of h source dest]
  case lists =>
    exact ⟨Dev.newLists_leased, fun _ => Dev.newLists_fault, Dev.newLists_table,
      fun us good free room units => ⟨Dev.newLists_jobs good free room units, Dev.newLists_of good free room units⟩⟩
  case list =>
    refine ⟨listFault_reserved, fun ok => listFault_long (reservedChannel_false_of ok), fun ok short repeats => ?_,
      fun ok short once loud => ?_, fun ok short once quiet => ?_⟩
    · exact listFault_repeats (reservedChannel_false_of ok) short ((repeatsSource_iff ts).mpr repeats)
    all_goals have once : repeatsSource ts = false := by rwa [← Bool.not_eq_true, repeatsSource_iff, not_not]
    · exact listFault_loud (reservedChannel_false_of ok) short once loud
    · exact listFault_none (reservedChannel_false_of ok) short once quiet
  case get => exact congrArg s.becomes (Dev.mixGet_of h)
  case mute =>
    rw [exec_destMute]
    refine ⟨fun crosses => ?_, fun within loud => ?_, fun within quiet => ?_⟩
    · rw [Dev.destMute_crosses h crosses]
    · rw [Dev.destMute_loud h within loud]
    · rw [Dev.destMute_of h within quiet]
  case status =>
    rw [exec_amxStatusGet]
    refine ⟨fun beyond => ?_, fun within => ?_⟩
    · rw [Dev.amxStatusGet_beyond h beyond]
    · rw [Dev.amxStatusGet_of h within]

end Sys2Proof.Machine
end

/-! ## Meter slots and loudness (R418–R420) -/

section

namespace Sys2Proof.Machine

section

variable {d e : Dev} {q : Req} {ts : List Tlv}

/-! ### METER_ENABLE and METER_DISABLE -/

/-- The group that METER_ENABLE names has 32 members beside the channel's own slot. -/
def Dev.groupFull (d : Dev) (ts : List Tlv) : Bool :=
  bits (tlvNum ts 0x0112) 16 7 != 0 && ((d.groupMembers (bits (tlvNum ts 0x0112) 16 7)).filter fun j =>
    d.meterOf (tlvNum ts 0x0110) (tlvNum ts 0x0111) != some j).length ≥ 32

theorem Dev.meterEnable_full (h : d.Accepts q meterEnableSpec ts e) (full : e.groupFull ts = true) :
    d.meterEnable q = e.reply q 0x0310 St.badParam [statusDetail (tlvIndex ts 0x0112) 0xFF 0x65] :=
  (Dev.command_of h _).trans (if_pos full)

theorem Dev.meterEnable_room (h : d.Accepts q meterEnableSpec ts e) (room : e.groupFull ts = false) : d.meterEnable q =
    match e.allotMeter (tlvNum ts 0x0110) (tlvNum ts 0x0111) with
    | (none, d) => d.reply q 0x0310 St.exhausted [statusDetail 0xFFFF 0xFF 0x67]
    | (some j, d) =>
      let d := (d.set F.AMX_METER_CFG_WEIGHT j (bits (tlvNum ts 0x0112) 28 1)).set F.AMX_METER_CFG_GROUP j (bits (tlvNum ts 0x0112) 16 7)
      let d := ((d.hset H.meterCmd j 1).hset H.meterCmdLoud j (bits (tlvNum ts 0x0112) 29 1)).trimMeters
      (d.mirrorReg (0x1E80000 + 16 * j)).reply q 0x0310 St.ok [data [w4 j]] :=
  (Dev.command_of h _).trans (if_neg (Bool.eq_false_iff.mp room))

theorem Dev.allotMeter_has {space ch j : Nat} (has : d.meterOf space ch = some j) : d.allotMeter space ch = (some j, d) := by
  simp only [Dev.allotMeter, has]

theorem Dev.meterDisable_eq (h : d.Accepts q meterDisableSpec ts e) : d.meterDisable q =
    match e.meterOf (tlvNum ts 0x0110) (tlvNum ts 0x0111) with
    | none => e.reply q 0x0311 St.badParam [statusDetail (tlvIndex ts 0x0111) 0xFF 0]
    | some j => (((((e.hset H.meterCmd j 0).hset H.meterCmdLoud j 0).trimMeters).mirrorReg (0x1E80000 + 16 * j)).reviewMeters).reply
        q 0x0311 St.ok :=
  Dev.command_of h _

/-! ### METER_GET -/

theorem Dev.meterGet_group (h : d.Accepts q meterGetSpec ts e) (group : hasTlv ts 0x0114 = true) (slot : hasTlv ts 0x0113 = false)
    (count : hasTlv ts 0x010A = false) :
    d.meterGet q = e.reply q 0x0312 St.ok [data [w4 (e.word [.fld F.AMX_LGROUP_LOUD_SHORT, .fld F.AMX_LGROUP_LOUD_MOMENTARY] (tlvNum ts 0x0114)),
      w4 (e.word [.fld F.AMX_LGROUP_INT_INTEGRATED] (tlvNum ts 0x0114) + (e.groupMembers (tlvNum ts 0x0114)).length)]] :=
  (Dev.command_of h _).trans (if_pos (by rw [group, slot, count]; rfl))

theorem Dev.meterGet_slots (h : d.Accepts q meterGetSpec ts e) (slot : hasTlv ts 0x0113 = true) (count : hasTlv ts 0x010A = true)
    (group : hasTlv ts 0x0114 = false) (within : tlvNum ts 0x0113 + tlvNum ts 0x010A ≤ 16384) :
    d.meterGet q = e.reply q 0x0312 St.ok
      ((List.range (tlvNum ts 0x010A)).map fun i => data (e.meterWords (tlvNum ts 0x0113 + i))) := by
  refine (Dev.command_of h _).trans ((if_neg ?_).trans (if_pos ?_))
  · simp [group]
  · simp [slot, count, group, within]

/-! ### Loudness starts again (R420) -/

theorem Dev.loudnessReset_slot (h : d.Accepts q loudnessResetSpec ts e) (slot : hasTlv ts 0x0113 = true) (group : hasTlv ts 0x0114 = false) :
    d.loudnessReset q = (e.resetLoudness false (tlvNum ts 0x0113)).reply q 0x0313 St.ok :=
  (Dev.command_of h _).trans ((if_neg (by simp [slot, group])).trans (if_pos slot))

theorem Dev.loudnessReset_group (h : d.Accepts q loudnessResetSpec ts e) (slot : hasTlv ts 0x0113 = false) (group : hasTlv ts 0x0114 = true) :
    d.loudnessReset q = (e.resetLoudness true (tlvNum ts 0x0114)).reply q 0x0313 St.ok :=
  (Dev.command_of h _).trans ((if_neg (by simp [slot, group])).trans (if_neg (Bool.eq_false_iff.mp slot)))

end

/-- AMX_LOUD_RESET as written. -/
def Dev.loudResetStored (d : Dev) (w : Nat) : Dev :=
  (d.set F.AMX_LOUD_RESET_GROUP 0 (bits w 30 1)).set F.AMX_LOUD_RESET_INDEX 0 (bits w 0 14)

section

variable (d : Dev) {w : Nat}

theorem Dev.writeLoudReset_idle (idle : bit w 31 = false) : d.writeLoudReset w = d.loudResetStored w := by
  simp only [Dev.writeLoudReset, idle, Bool.not_false, if_true]
  rfl

theorem Dev.writeLoudReset_slot (go : bit w 31 = true) (slot : bit w 30 = false) :
    d.writeLoudReset w = (d.loudResetStored w).resetLoudness false (bits w 0 14) := by
  simp only [Dev.writeLoudReset, go, slot, Bool.not_true, Bool.false_eq_true, if_false]
  rfl

theorem Dev.writeLoudReset_group (go : bit w 31 = true) (group : bit w 30 = true) (range : 1 ≤ bits w 0 14 ∧ bits w 0 14 ≤ 127) :
    d.writeLoudReset w = (d.loudResetStored w).resetLoudness true (bits w 0 14) := by
  simp only [Dev.writeLoudReset, go, group, Bool.not_true, Bool.false_eq_true, if_false, if_true, if_pos range]
  rfl

end

/-- Settles O46: each command by its slot, its group or its range; the mix commands by the lists that they give. -/
theorem metersAct : Obligations.MetersAct := by
  refine ⟨fun q s ts e us h => ?set, fun q s ts e us h => ?gain, fun q s ts e us h => ?route, fun q s ts e h => ?get,
    fun q s ts e h => ?mute, fun q s ts e h => ?status, fun q s ts e h => ?enable, fun d space ch j => Dev.allotMeter_has,
    fun q s ts e h => ?disable, fun q s ts e h => ?meters, fun q s ts e h => ?loudness, fun m v s reach => ?write⟩
  case set =>
    intro k old lists ramp ws fit
    rw [exec_mixSet, Dev.mixSet_of h]
    exact congrArg s.becomes (Dev.newLists_fit fit q 0x0301)
  case gain =>
    intro k src g old new ramp ws fit
    rw [exec_tapGain, Dev.tapGain_of h]
    exact congrArg s.becomes (Dev.newLists_fit fit q 0x0302)
  case route =>
    intro src k n lists ramp ws source dest fit
    rw [exec_route, Dev.routeAudio_of h source dest]
    exact congrArg s.becomes (Dev.newLists_fit fit q 0x0303)
  case get => exact congrArg s.becomes (Dev.mixGet_of h)
  case mute =>
    intro k n v within quiet
    have quiet : e.unmutesLoud ts = false := by
      rcases quiet with unmute | low
      · simp [Dev.unmutesLoud, show tlvNum ts 0x010B ≠ 0 from unmute]
      · have none : ((List.range n).any fun i => e.overloads (e.changeFrame (frameTlv ts)) (k + i)) = false := by
          simpa using low
        rw [Dev.unmutesLoud, none, Bool.and_false]
    rw [exec_destMute, Dev.destMute_of h within quiet]
  case status => exact fun within => congrArg s.becomes (Dev.amxStatusGet_of h within)
  case enable =>
    intro opts g space ch full
    rw [exec_meterEnable]
    refine ⟨fun isFull => ?_, fun d room none => ?_, fun j d room some => ?_⟩
    · rw [Dev.meterEnable_full h isFull]
    · rw [Dev.meterEnable_room h room, none]
    · rw [Dev.meterEnable_room h room, some]
  case disable =>
    rw [exec_meterDisable, Dev.meterDisable_eq h]
    exact ⟨fun none => by rw [none], fun j some => by rw [some]⟩
  case meters =>
    intro g
    rw [exec_meterGet]
    refine ⟨fun group slot count => ?_, fun slot count group within => ?_⟩
    · rw [Dev.meterGet_group h group slot count]
    · rw [Dev.meterGet_slots h slot count group within]
  case loudness =>
    rw [exec_loudnessReset]
    refine ⟨fun slot group => ?_, fun slot group => ?_⟩
    · rw [Dev.loudnessReset_slot h slot group]
      rfl
    · rw [Dev.loudnessReset_group h slot group]
      rfl
  case write =>
    intro i d
    have written : exec (.loudResetWrite m v) s =
        s.becomes (((s.dev.transaction m).writeLoudReset v.toNat).written m 0x1EE0000 v.toNat) :=
      (exec_loudResetWrite ..).trans (congrArg s.becomes (Dev.busWrite_of reach ..))
    rw [written]
    refine ⟨fun idle => ?_, fun go slot => ?_, fun go group low high => ?_⟩
    · rw [Dev.writeLoudReset_idle _ idle]
      rfl
    · rw [Dev.writeLoudReset_slot _ go slot]
      rfl
    · rw [Dev.writeLoudReset_group _ go group ⟨low, high⟩]
      rfl

end Sys2Proof.Machine
end

/-! Proofs of the statements on flows and network time. -/

/-! ## Receive legs, classes, playout and IGMP (R304–R311, R319, R320) -/

section

namespace Sys2Proof.Machine

section

variable {d : Dev} {r leg : Nat}

/-! ### Legs and contexts (R307) -/

theorem Dev.legTimeout_up (up : d.get (legUp leg) r ≠ 0) : d.legTimeout r leg =
    (d.passToCore ((d.rx r).valid.getD leg 0 + 10 ^ 6 * d.get F.IPM_TIMEOUT_LEG_MS)).setLeg r leg false :=
  if_neg (by simpa using up)

theorem Dev.setLeg_down (up : d.get (legUp leg) r = 1) :
    d.setLeg r leg false = (d.set (legUp leg) r 0).raise 673 [0, r, leg, 0] :=
  if_neg (by rw [up]; decide)

theorem Dev.flowLoss_receiving (receives : d.get F.IPM_RX_STATUS_STATE r = 2) :
    d.flowLoss r = (((d.passToCore ((d.rx r).used + 10 ^ 6 * d.get F.IPM_TIMEOUT_LOSS_MS)).set F.IPM_RX_STATUS_STATE r 3).raise
      672 [r, 1]).contextChanged r :=
  if_neg (by rw [receives]; decide)

/-! ### A datagram (R303, R304) and the class of a valid packet (R306) -/

/-- A datagram that a leg takes, as its instance and its leg count it. -/
def Dev.legTakes (d : Dev) (inst k : Nat) : Dev :=
  ((d.bump C.IPM_INST_OFFERED inst).bump C.IPM_INST_MATCHED inst).bump C.IPM_RX_LEG_RX k

/-- A packet with its numbers as the context counts them. -/
def Dev.asCounted (d : Dev) (r : Nat) (x : RtpIn) : RtpIn :=
  { x with seq := x.seq % 2 ^ seqBits (d.get F.IPM_RX_CFG_ESSENCE r), ts := x.ts % 2 ^ 32 }

theorem Dev.flowDatagram_matched {inst k : Nat} {x : RtpIn} (header : x.headerOk = true)
    (leg : (d.bump C.IPM_INST_OFFERED inst).matchLeg inst x = some k) :
    d.flowDatagram inst x = match (d.legTakes inst k).invalidCause (k / 2) ((d.legTakes inst k).asCounted (k / 2) x) with
      | some cause => (d.legTakes inst k).packetInvalid (k / 2) (k % 2) cause
      | none => (d.legTakes inst k).packetValid (k / 2) (k % 2) ((d.legTakes inst k).asCounted (k / 2) x) := by
  simp only [Dev.flowDatagram, header, leg, Bool.not_true, Bool.false_eq_true, if_false]
  rfl

/-- A valid packet's leg is up, and its arrival is noted (R307). -/
def Dev.legArrival (d : Dev) (r leg : Nat) : Dev :=
  ((d.bump C.IPM_RX_LEG_VALID (2 * r + leg)).setRx { d.rx r with valid := (d.rx r).valid.set leg d.clock.core }).setLeg r leg true

theorem Dev.packetValid_eq (d : Dev) (r leg : Nat) (x : RtpIn) : d.packetValid r leg x =
    match (d.legArrival r leg).mergeClass ((d.legArrival r leg).rx r) x with
    | .duplicate => (d.legArrival r leg).packetDuplicate r leg x
    | .late => (d.legArrival r leg).packetLate r x
    | .overflow => (d.legArrival r leg).bump C.IPM_RX_OVERFLOW r
    | .used => (d.legArrival r leg).packetUsed r leg x := rfl

/-! ### Playout of a line (R308, R309) -/

/-- Waiting for a line leaves the receiving contexts. -/
theorem Dev.awaitLine_ipm (d : Dev) (r n ta : Nat) : (d.awaitLine r n ta).ipm = d.ipm := by
  simp only [Dev.awaitLine]
  split
  · exact Dev.passTo_ipm ..
  · exact Dev.passToCore_ipm ..

theorem Dev.rx_awaitLine (d : Dev) (r n ta : Nat) : (d.awaitLine r n ta).rx r = d.rx r := by
  rw [Dev.rx, Dev.awaitLine_ipm, Dev.rx]

theorem Dev.linePlayout_of (enabled : d.get F.IPM_RX_CFG_EN r ≠ 0) (video : d.get F.IPM_RX_CFG_ESSENCE r = 0) (qs anc : List Nat)
    (l : PlayIn) :
    let ta := d.lineTa r l.number qs
    let e := d.awaitLine r l.number ta
    let p := (e.setRx { e.rx r with lineTa := ta, line := l.number }).playPackets r qs
    let a := match p.2.ancOf r with
      | some k => p.2.playPackets k anc
      | none => (false, p.2)
    d.linePlayout r qs anc l = a.2.each ((a.2.fedSlots r).filter fun i => l.member < sourceGang a.2.inEffect i) fun e i =>
      e.ingestLine (i + l.member) ⟨0, true, l.number, 0, false, l.damaged || p.1 || a.1, d.rebuilt r i l.member l.number qs anc, l.witness⟩ := by
  have plays : ¬(d.get F.IPM_RX_CFG_EN r == 0 || d.get F.IPM_RX_CFG_ESSENCE r != 0) = true := by simp [enabled, video]
  simp only [Dev.linePlayout, if_neg plays, Dev.rx_awaitLine] <;> rfl

/-! ### IGMP (R319) -/

section

variable (runs : d.lathRuns = true)
include runs

theorem Dev.igmpQuery_of {inst : Nat} (link : d.instLink inst = true) (version group maxResp : Nat) :
    let e := if version < 3 then (d.bump C.IPM_INST_IGMP_OLD_QUERIER inst).raise 678 [inst, group, version] else d
    d.igmpQuery inst version group maxResp =
      { e with ipm := { e.ipm with asked := e.ipm.asked ++ [⟨inst, group, e.clock.core + 10 ^ 6 * maxResp⟩] } } :=
  if_neg (by simp [runs, link])

/-- A query that has been answered. -/
def Dev.answered (d : Dev) (a : IgmpAsked) : Dev := { d with ipm := { d.ipm with asked := d.ipm.asked.erase a } }

theorem Dev.igmpAnswer_of {inst : Nat} {a : IgmpAsked} (due : (d.ipm.asked.find? fun a => a.inst == inst) = some a) :
    d.igmpAnswer inst = (d.answered a).each
      ((d.answered a).ipm.igmp.filter fun r => r.inst == inst && (a.group == 0 || r.group == a.group)) fun d r =>
        d.igmpSend ⟨inst, if r.exclude then 2 else 1, r.group, r.sources⟩ := by
  have runs : ¬(!(d.answered a).lathRuns) = true := by
    rw [show (d.answered a).lathRuns = d.lathRuns from rfl, runs]
    decide
  simp only [Dev.igmpAnswer, due]
  exact if_neg runs

theorem Dev.igmpRepeat_of {inst : Nat} {r : IgmpReport} (due : (d.ipm.repeats.find? fun r => r.inst == inst) = some r) :
    d.igmpRepeat inst = { d with ipm := { d.ipm with repeats := d.ipm.repeats.erase r } }.igmpSend r := by
  simp only [Dev.igmpRepeat, due, runs, if_true]

end

end

/-- Settles O37: each row by the state of its leg, its context or its query, a datagram by the first check that it fails. -/
theorem flowsReceiveAndPlay : Obligations.FlowsReceiveAndPlay := by
  refine ⟨fun r leg s up => ?legDown, fun d r leg => Dev.setLeg_down, fun r s receives => ?loss, fun d inst k x header leg => ?datagram,
    fun d r leg x => ?cls, fun r qs anc l s enabled video => ?play, fun n version group maxResp s runs link => ?query,
    fun n a s due runs => ?answer, fun n r s due runs => ?again⟩
  case legDown => rw [exec_legTimeout, Dev.legTimeout_up up]
  case loss => rw [exec_flowLossTimeout, Dev.flowLoss_receiving receives]
  case datagram =>
    intro e y
    rw [Dev.flowDatagram_matched header leg]
    refine ⟨fun cause invalid => ?_, fun valid => ?_⟩
    · rw [show (d.legTakes inst k).invalidCause (k / 2) ((d.legTakes inst k).asCounted (k / 2) x) = some cause from invalid]
      rfl
    · rw [show (d.legTakes inst k).invalidCause (k / 2) ((d.legTakes inst k).asCounted (k / 2) x) = none from valid]
      rfl
  case cls =>
    intro e
    rw [Dev.packetValid_eq]
    refine ⟨fun h => ?_, fun h => ?_, fun h => ?_, fun h => ?_⟩
    all_goals
      rw [show (d.legArrival r leg).mergeClass ((d.legArrival r leg).rx r) x = _ from h]
      rfl
  case play => exact congrArg s.becomes (Dev.linePlayout_of enabled video qs anc l)
  case query => exact congrArg s.becomes (Dev.igmpQuery_of runs link version group maxResp)
  case answer => exact congrArg s.becomes (Dev.igmpAnswer_of runs due)
  case again => rw [exec_igmpReportRepeat, Dev.igmpRepeat_of runs due]

end Sys2Proof.Machine
end

/-! ## Packets that are scheduled and sent (R300, R314–R317) -/

section

namespace Sys2Proof.Machine

section

variable {d : Dev} {x : Nat} {p : PktIn}

theorem Dev.packetSchedule_idle (h : d.get F.IPM_TX_CFG_EN x = 0 ∨ d.running = false ∨ d.schedule x p = none) :
    d.packetSchedule x p = d := by
  rcases h with off | stopped | none
  · exact if_pos (by simp [off])
  · exact if_pos (by simp [stopped])
  · simp only [Dev.packetSchedule, none, ite_self]

/-- The context's next sequence number is used up. -/
def Dev.takeSeq (d : Dev) (x : Nat) : Dev :=
  d.hset H.ipmTxSeq x ((d.hget H.ipmTxSeq x + 1) % 2 ^ seqBits (d.get F.IPM_TX_CFG_ESSENCE x))

theorem Dev.packetSchedule_of {due limit ts : Nat} (enabled : d.get F.IPM_TX_CFG_EN x ≠ 0) (runs : d.running = true)
    (scheduled : d.schedule x p = some (due, limit, ts)) :
    let seq := (d.passTo due).hget H.ipmTxSeq x
    let e := (d.passTo due).takeSeq x
    let b := e.txBody x p
    let red := e.sendPacket (2 * x) due limit (e.txPacket (2 * x) seq ts b.1 b.2)
    d.packetSchedule x p = red.sendPacket (2 * x + 1) due limit (red.txPacket (2 * x + 1) seq ts b.1 b.2) := by
  have goes : ¬(d.get F.IPM_TX_CFG_EN x == 0 || !d.running) = true := by simp [enabled, runs]
  simp only [Dev.packetSchedule, if_neg goes, scheduled]
  rfl

theorem Dev.schedule_audio (essence : d.get F.IPM_TX_CFG_ESSENCE x = 1) (ptime : d.get F.IPM_TX_CFG_PTIME x = 0) :
    d.schedule x p = some ((p.sample + 48) * (65536 * 10 ^ 9) / 48000, 6553600000, p.sample % 2 ^ 32) := by
  simp [Dev.schedule, essence, ptime]

end

section

variable {d : Dev} {leg due limit : Nat} {p : RtpOut}

/-- A leg's packet is counted made and offered to its instance. -/
def Dev.offerPacket (d : Dev) (leg due limit : Nat) (p : RtpOut) : Dev :=
  (d.bump C.IPM_TX_LEG_MADE leg).offerFrame (d.get F.IPM_TX_LEG_CTRL_INST leg) ⟨rtpLength p, d.now10, .flow leg due limit p⟩

theorem Dev.sendPacket_off (off : d.get F.IPM_TX_LEG_CTRL_LEG_EN leg = 0) : d.sendPacket leg due limit p = d :=
  if_pos (by simp [off])

variable (on : d.get F.IPM_TX_LEG_CTRL_LEG_EN leg ≠ 0)
include on

theorem Dev.sendPacket_on :
    let e := d.offerPacket leg due limit p
    d.sendPacket leg due limit p =
      if e.get F.IPM_TX_CFG_ESSENCE (leg / 2) == 0 && e.ipmQueued leg * rtpLength p > e.stagingBytes (leg / 2) then e.dropPackets leg 1 else e :=
  if_neg (by simpa using on)

theorem Dev.sendPacket_behind (video : (d.offerPacket leg due limit p).get F.IPM_TX_CFG_ESSENCE (leg / 2) = 0)
    (behind : (d.offerPacket leg due limit p).stagingBytes (leg / 2) < (d.offerPacket leg due limit p).ipmQueued leg * rtpLength p) :
    d.sendPacket leg due limit p = (d.offerPacket leg due limit p).dropPackets leg 1 :=
  (Dev.sendPacket_on on).trans (if_pos (by simp [video, behind]))

theorem Dev.sendPacket_other (other : (d.offerPacket leg due limit p).get F.IPM_TX_CFG_ESSENCE (leg / 2) ≠ 0) :
    d.sendPacket leg due limit p = d.offerPacket leg due limit p :=
  (Dev.sendPacket_on on).trans (if_neg (by simp [other]))

end

section

variable {d e : Dev} {q : Req} {ts : List Tlv}

theorem Dev.flowStatusGet_beyond (h : d.Accepts q flowStatusSpec ts e) (beyond : 2048 < tlvNum ts 0x0102 + tlvNum ts 0x0103) :
    d.flowStatusGet q = e.reply q 0x0404 St.badParam [statusDetail (tlvIndex ts 0x0103) 0xFF 0] :=
  (Dev.command_of h _).trans (if_pos beyond)

theorem Dev.flowStatusGet_of (h : d.Accepts q flowStatusSpec ts e) (within : tlvNum ts 0x0102 + tlvNum ts 0x0103 ≤ 2048) :
    d.flowStatusGet q = e.reply q 0x0404 St.ok
      ((List.range (tlvNum ts 0x0103)).map fun i => e.flowStatus (tlvNum ts 0x0102 + i) (tlvNum ts 0x0101)) :=
  (Dev.command_of h _).trans (if_neg (Nat.not_lt.mpr within))

theorem Dev.igmpStatusGet_of (h : d.Accepts q igmpStatusSpec ts e) : d.igmpStatusGet q = e.reply q 0x0405 St.ok
    ((e.ipm.igmp.filter fun r => r.inst == tlvNum ts 0x0101).map fun r =>
      data (w4 r.group :: w4 (if r.exclude then 2 else 1) :: w4 r.sources.length :: r.sources.map w4)) :=
  Dev.command_of h _

end

/-- Settles O38: a packet by its schedule and its leg, a command by its range. -/
theorem flowsAreSent : Obligations.FlowsAreSent := by
  refine ⟨fun x p due limit ts s enabled runs scheduled => ?due, fun x p s idle => ?idle, fun d x p => Dev.schedule_audio,
    fun d leg due limit p => ⟨Dev.sendPacket_off, Dev.sendPacket_behind, Dev.sendPacket_other⟩,
    fun d leg seq ts b mk => ⟨rfl, rfl, rfl, rfl, rfl, rfl, rfl, rfl, rfl, rfl⟩, fun q s ts e h => ?status, fun q s ts e h => ?igmp⟩
  case due => exact congrArg s.becomes (Dev.packetSchedule_of enabled runs scheduled)
  case idle => rw [exec_packetSchedule, Dev.packetSchedule_idle idle]
  case status =>
    rw [exec_flowStatusGet]
    refine ⟨fun beyond => ?_, fun within => ?_⟩
    · rw [Dev.flowStatusGet_beyond h beyond]
    · rw [Dev.flowStatusGet_of h within]
  case igmp => rw [exec_igmpStatusGet, Dev.igmpStatusGet_of h]

end Sys2Proof.Machine
end

/-! ## Network time (R323–R347) -/

section

namespace Sys2Proof.Machine

/-! ### Received messages (R333) -/

section

variable {d : Dev} {port ago i : Nat} {x : PtpMsg}

/-- The message fails check 2 of R333. -/
def failsForm (x : PtpMsg) : Bool := x.version != 2 || !x.whole || !([0, 1, 8, 9, 0xB].contains x.typ)

variable (bound : d.ifOf port = some i)
include bound

theorem Dev.ptpMessage_unbound (off : (d.bump C.PTP_IF_RX_ALL i).ptpOn i = false) :
    d.ptpMessage port ago x = (d.bump C.PTP_IF_RX_ALL i).bump C.PTP_IF_RX_UNBOUND i := by
  simp only [Dev.ptpMessage, bound, off, Bool.not_false, if_pos]

variable (on : (d.bump C.PTP_IF_RX_ALL i).ptpOn i = true)
include on

theorem Dev.ptpMessage_malformed (bad : failsForm x = true) :
    d.ptpMessage port ago x = (d.bump C.PTP_IF_RX_ALL i).bump C.PTP_IF_RX_MALFORMED i := by
  unfold failsForm at bad
  simp only [Dev.ptpMessage, bound, on, bad, Bool.not_true, if_neg Bool.false_ne_true, if_pos]

variable (good : failsForm x = false)
include good

theorem Dev.ptpMessage_otherDomain (other : x.domain ≠ (d.bump C.PTP_IF_RX_ALL i).get F.PTP_CFG_DOMAIN) :
    d.ptpMessage port ago x = (d.bump C.PTP_IF_RX_ALL i).bump C.PTP_IF_RX_DOMAIN i := by
  unfold failsForm at good
  simp only [Dev.ptpMessage, bound, on, good, Bool.not_true, if_neg Bool.false_ne_true, if_pos (bne_iff_ne.mpr other)]

variable (same : x.domain = (d.bump C.PTP_IF_RX_ALL i).get F.PTP_CFG_DOMAIN)
include same

theorem Dev.ptpMessage_notParent (stranger : (d.bump C.PTP_IF_RX_ALL i).fromParent i x = false)
    (selected : i = (d.bump C.PTP_IF_RX_ALL i).ifSel) :
    d.ptpMessage port ago x = (d.bump C.PTP_IF_RX_ALL i).bump C.PTP_IF_RX_NOT_PARENT i := by
  have here : i = ((d.bump C.PTP_IF_RX_ALL i).bump C.PTP_IF_RX_NOT_PARENT i).ifSel := selected.trans (Dev.get_bump ..).symm
  have stays : ¬(i != ((d.bump C.PTP_IF_RX_ALL i).bump C.PTP_IF_RX_NOT_PARENT i).ifSel &&
      ((d.bump C.PTP_IF_RX_ALL i).bump C.PTP_IF_RX_NOT_PARENT i).ownMaster i x) = true := by simp [← here]
  unfold failsForm at good
  simp only [Dev.ptpMessage, bound, on, good, Bool.not_true, if_neg Bool.false_ne_true, same, bne_self_eq_false,
    stranger, Bool.not_false, if_pos, if_neg stays]

theorem Dev.ptpMessage_used (parent : (d.bump C.PTP_IF_RX_ALL i).fromParent i x = true) (oneStep : x.twoStep = false) :
    d.ptpMessage port ago x = ((d.bump C.PTP_IF_RX_ALL i).bump C.PTP_IF_RX_USED i).ptpDeliver i port ago x true := by
  unfold failsForm at good
  simp only [Dev.ptpMessage, bound, on, good, Bool.not_true, if_neg Bool.false_ne_true, same, bne_self_eq_false,
    parent, oneStep, Bool.and_false, Bool.false_and]

end

/-! ### Timeouts and Delay_Req (R326, R330, R341) -/

section

variable {d : Dev} {i : Nat}

@[simp] theorem Dev.lathRuns_passToCore (d : Dev) (c : Nat) : (d.passToCore c).lathRuns = d.lathRuns := by simp [Dev.lathRuns]

theorem Dev.announceTimeout_of {a : Announce} {l : List Announce} (heard : (d.pif i).announces = a :: l) (runs : d.lathRuns = true) :
    d.announceTimeout i = (d.passToCore (l.foldl (fun m b => min m b.limit) a.limit)).chooseParent := by
  simp only [Dev.announceTimeout, heard, Dev.lathRuns_passToCore, runs, if_pos]

theorem Dev.syncTimeout_of {a : Announce} (runs : d.lathRuns = true) (follows : d.servo = 2 ∨ d.servo = 3)
    (parent : d.parentPort d.ifSel = some a) :
    d.syncTimeout = (d.passToCore ((d.pif d.ifSel).syncAt + 3 * logSeconds a.logInterval)).enterServo 4 := by
  have goes : ¬(!d.lathRuns || !(d.servo == 2 || d.servo == 3)) = true := by simpa [runs] using fun h => follows.resolve_left h
  simp only [Dev.syncTimeout, if_neg goes, parent]

/-- The interface takes its next sequence number for a Delay_Req. -/
def Dev.takeReqSeq (d : Dev) (i : Nat) : Dev :=
  d.setPif i fun p => { p with nextSeq := ((d.pif i).nextSeq + 1) % 65536, reqSeq := some (d.pif i).nextSeq, t3 := none, t4 := none }

theorem Dev.delayReqSend_of (runs : d.lathRuns = true) (on : d.ptpOn i = true) :
    let e := d.takeReqSeq i
    d.delayReqSend i = e.offerFrame (d.get F.PTP_IF_CFG_BIND i)
      ⟨if e.get F.PTP_IF_CFG_TRANSPORT i == 0 then 90 else 64, e.now10, .delayReq i (d.pif i).nextSeq⟩ :=
  if_neg (by simp [runs, on])

end

/-! ### The transmit timestamp queue (R344) -/

section

variable {d : Dev} {m k : Nat}

theorem Dev.popTxq_empty (empty : d.txq.getD k [] = []) : d.popTxq k = (0, d) := by simp only [Dev.popTxq, empty]

section

variable {e : TxStamp} {l : List TxStamp} (front : d.txq.getD k [] = e :: l)
include front

theorem Dev.popTxq_word : (d.popTxq k).1 = 2 ^ 31 + e.port * 2 ^ 24 + e.seq % 65536 * 2 ^ 8 + e.typ % 16 * 2 ^ 4 := by
  simp only [Dev.popTxq, front]

theorem Dev.popTxq_txq : (d.popTxq k).2.txq = d.txq.set k l := by
  simp only [Dev.popTxq, front, Dev.set_txq, Dev.bump_txq]

theorem Dev.popTxq_count : (d.popTxq k).2.count C.PTP_TXQ_READ k = (d.count C.PTP_TXQ_READ k + 1) % 2 ^ 64 := by
  simp only [Dev.popTxq, front, Dev.count_set, Dev.count_bump_same]
  rfl

end

theorem Dev.readTxq_of (other : m ≠ 0)
    (readable : (d.each (List.range 34) fun d n => if txQueueOf n = k then d.macAdvance n else d).Readable m (0x900400 + 0x20 * k)) :
    let r := ((d.each (List.range 34) fun d n => if txQueueOf n = k then d.macAdvance n else d).transaction m).popTxq k
    d.readTxq m k = r.2.answer m (.data [r.1]) := by
  simp only [Dev.readTxq, decide_eq_false other, Bool.false_and, if_neg Bool.false_ne_true]
  rw [Dev.busRead_of readable]
  simp only [if_neg other]
  split <;> rfl

end

/-! ### Adjustments and the step limit (R335–R340) -/

section

variable {d : Dev} {v : Int} {w : Nat}

theorem Dev.adjust_first (unset : d.advanceMacs.get F.PTP_STATUS_SET = 0) :
    d.adjust v = (d.advanceMacs.set F.PTP_STATUS_SET 0 1).applyStep 0 v :=
  if_pos (beq_iff_eq.mpr unset)

theorem Dev.adjust_beyond (set : d.advanceMacs.get F.PTP_STATUS_SET ≠ 0) (beyond : d.advanceMacs.stepLimit < v.natAbs) :
    d.adjust v = ((d.advanceMacs.setStepPend v).raise 97 (d.advanceMacs.ifSel :: signedWords v)).enterServo 5 :=
  (if_neg (mt beq_iff_eq.mp set)).trans (if_pos beyond)

theorem Dev.adjust_within (set : d.advanceMacs.get F.PTP_STATUS_SET ≠ 0) (within : v.natAbs ≤ d.advanceMacs.stepLimit) :
    d.adjust v = d.advanceMacs.phcMove v :=
  (if_neg (mt beq_iff_eq.mp set)).trans (if_neg (Nat.not_lt.mpr within))

theorem Dev.acceptStep_pending (pending : d.servo = 5) :
    d.acceptStep = ((d.advanceMacs.setStepPend 0).applyStep 1 d.stepPend).enterServo 2 :=
  if_neg (by simp [pending])

theorem Dev.acceptStep_none (none : d.servo ≠ 5) : d.acceptStep = d := if_pos (by simp [none])

theorem Dev.writeStepLimit_ends (pending : (d.set F.PTP_STEP_LIMIT_NS 0 (max 1 w)).servo = 5)
    (covered : (d.set F.PTP_STEP_LIMIT_NS 0 (max 1 w)).stepPend.natAbs ≤ (d.set F.PTP_STEP_LIMIT_NS 0 (max 1 w)).stepLimit) :
    d.writeStepLimit w = (d.set F.PTP_STEP_LIMIT_NS 0 (max 1 w)).enterServo 2 :=
  if_pos (by simp [pending, covered])

theorem Dev.writeStepLimit_none (none : (d.set F.PTP_STEP_LIMIT_NS 0 (max 1 w)).servo ≠ 5) :
    d.writeStepLimit w = d.set F.PTP_STEP_LIMIT_NS 0 (max 1 w) :=
  if_neg (by simp [none])

end

/-! ### Commands (R347) -/

section

variable {d e : Dev} {q : Req} {ts : List Tlv}

theorem Dev.ptpConfig_of (h : d.Accepts q ptpConfigSpec ts e) :
    let c := if hasTlv ts 0x0101 then e.writeDomain (tlvNum ts 0x0101) else e
    d.ptpConfig q = (if hasTlv ts 0x0102 then c.writeStepLimit (tlvNum ts 0x0102) else c).reply q 0x0520 St.ok :=
  Dev.command_of h _

/-- The interface is to be enabled on a port that another enabled interface has. -/
def Dev.takesBound (d : Dev) (i w : Nat) : Prop := bits w 31 1 = 1 ∧ d.bindTaken i (storedBind w) = true

theorem Dev.ptpIfConfig_taken (h : d.Accepts q ptpIfConfigSpec ts e) (taken : e.takesBound (tlvNum ts 0x0101) (tlvNum ts 0x0102)) :
    d.ptpIfConfig q = e.reply q 0x0521 St.badParam [statusDetail (tlvIndex ts 0x0102) 0xFF 0] := by
  obtain ⟨on, other⟩ := taken
  exact (Dev.command_of h _).trans (if_pos (by simp [on, other]))

theorem Dev.ptpIfConfig_of (h : d.Accepts q ptpIfConfigSpec ts e) (free : ¬e.takesBound (tlvNum ts 0x0101) (tlvNum ts 0x0102)) :
    d.ptpIfConfig q = ((if hasTlv ts 0x0103 then e.set F.PTP_IF_ASYM_A (tlvNum ts 0x0101) (tlvNum ts 0x0103) else e).writeIfCfg
      (tlvNum ts 0x0101) (tlvNum ts 0x0102)).reply q 0x0521 St.ok :=
  (Dev.command_of h _).trans (if_neg (by simpa [Dev.takesBound] using free))

theorem Dev.ptpStatusGet_of (h : d.Accepts q ptpStatusSpec ts e) :
    d.ptpStatusGet q = e.reply q 0x0522 St.ok [data ([w4 (e.storedAt 0x900004), w8 e.gmId, w4 (e.storedAt 0x900010),
      w4 (e.storedAt 0x900014), w4 (e.storedAt 0x900018)] ++ (List.range 4).flatMap fun i => [w4 (e.get F.PTP_IF_STATUS_STATE i),
      w8 (e.get F.PTP_IF_OFFSET_HI_OFFSET i * 2 ^ 32 + e.get F.PTP_IF_OFFSET_LO_OFFSET i), w4 (e.get F.PTP_IF_MPD_MPD i)])] :=
  Dev.command_of h _

/-- EXPECT is given and more than 1,000 ns off the pending step. -/
def Dev.expectOff (d : Dev) (ts : List Tlv) : Bool :=
  hasTlv ts 0x0101 && (d.stepPend - 65536 * toSigned 64 (tlvNum ts 0x0101)).natAbs > 65536000

theorem Dev.ptpStepAccept_none (h : d.Accepts q ptpStepAcceptSpec ts e) (none : e.servo ≠ 5) :
    d.ptpStepAccept q = e.reply q 0x0523 St.badParam [statusDetail 0xFFFF 0xFF 0x30] :=
  (Dev.command_of h _).trans (if_pos (by simp [none]))

theorem Dev.ptpStepAccept_off (h : d.Accepts q ptpStepAcceptSpec ts e) (pending : e.servo = 5) (off : e.expectOff ts = true) :
    d.ptpStepAccept q = e.reply q 0x0523 St.badParam [statusDetail (tlvIndex ts 0x0101) 0xFF 0x31] :=
  (Dev.command_of h _).trans ((if_neg (by simp [pending])).trans (if_pos off))

theorem Dev.ptpStepAccept_of (h : d.Accepts q ptpStepAcceptSpec ts e) (pending : e.servo = 5) (near : e.expectOff ts = false) :
    d.ptpStepAccept q = e.acceptStep.reply q 0x0523 St.ok :=
  (Dev.command_of h _).trans ((if_neg (by simp [pending])).trans (if_neg (Bool.eq_false_iff.mp near)))

end

/-- Settles O40: a message by the checks of R333, the PHC by its adjustments and the step limit, a command by its refusals. -/
theorem networkTimeActs : Obligations.NetworkTimeActs := by
  refine ⟨fun port x s i bound => ?message, fun i a l s heard runs => ?announce, fun a s runs follows parent => ?sync,
    fun i s runs on => ?delayReq, fun m k s other readable => ?pop, fun d k => Dev.popTxq_empty,
    fun d k e l front => ⟨Dev.popTxq_word front, Dev.popTxq_txq front, Dev.popTxq_count front⟩, fun m v s reach go => ?adjGo,
    fun d v => ⟨Dev.adjust_first, Dev.adjust_beyond, Dev.adjust_within⟩, fun d cause v => rfl, fun m v s reach accept => ?accept,
    fun m v s reach => ?limit, fun q s ts e h => ?config, fun q s ts e h => ?ifConfig, fun q s ts e h => ?status,
    fun q s ts e h => ?stepAccept⟩
  case message =>
    refine ⟨fun off => congrArg s.becomes ?_, fun on bad => congrArg s.becomes ?_, fun on good other => congrArg s.becomes ?_,
      fun on good same stranger selected => congrArg s.becomes ?_, fun on good same parent oneStep => congrArg s.becomes ?_⟩
    · exact Dev.ptpMessage_unbound bound off
    · exact Dev.ptpMessage_malformed bound on bad
    · exact Dev.ptpMessage_otherDomain bound on good other
    · exact Dev.ptpMessage_notParent bound on good same stranger selected
    · exact Dev.ptpMessage_used bound on good same parent oneStep
  case announce => exact congrArg s.becomes (Dev.announceTimeout_of heard runs)
  case sync => exact congrArg s.becomes (Dev.syncTimeout_of runs follows parent)
  case delayReq => exact congrArg s.becomes (Dev.delayReqSend_of runs on)
  case pop => exact congrArg s.becomes (Dev.readTxq_of (Fin.val_ne_of_ne other) readable)
  case adjGo =>
    rw [exec_phcAdjGo, Dev.busWrite_of reach, Dev.writePhcCtrl, if_pos go]
  case accept =>
    have written : exec (.stepAcceptWrite m v) s = s.becomes ((if v.toNat % 2 = 1 then (s.dev.transaction m).acceptStep else
        s.dev.transaction m).written m 0x90000C v.toNat) :=
      (exec_stepAcceptWrite ..).trans (congrArg s.becomes (Dev.busWrite_of reach ..))
    rw [written, if_pos accept]
    refine ⟨fun pending => ?_, fun none => ?_⟩
    · rw [Dev.acceptStep_pending pending]
    · rw [Dev.acceptStep_none none]
  case limit =>
    rw [exec_stepLimitWrite, Dev.busWrite_of reach]
    refine ⟨fun pending covered => ?_, fun none => ?_⟩
    · rw [Dev.writeStepLimit_ends pending covered]
    · rw [Dev.writeStepLimit_none none]
  case config => rw [exec_ptpConfig, Dev.ptpConfig_of h]
  case ifConfig =>
    rw [exec_ptpIfConfig]
    refine ⟨fun taken => ?_, fun free => ?_⟩
    · rw [Dev.ptpIfConfig_taken h taken]
    · rw [Dev.ptpIfConfig_of h free]
  case status => rw [exec_ptpStatusGet, Dev.ptpStatusGet_of h]
  case stepAccept =>
    rw [exec_ptpStepAccept]
    refine ⟨fun none => ?_, fun pending off => ?_, fun pending near => ?_⟩
    · rw [Dev.ptpStepAccept_none h none]
    · rw [Dev.ptpStepAccept_off h pending off]
    · rw [Dev.ptpStepAccept_of h pending near]

end Sys2Proof.Machine
end

/-! ## The reference inputs (R349–R354) -/

section

namespace Sys2Proof.Machine

section

variable {d : Dev}

theorem Dev.whileRef_on (on : d.refOn = true) (f : Dev → Dev) : d.whileRef f = f d := if_pos on

theorem Dev.whileRef_off (off : d.refOn = false) (f : Dev → Dev) : d.whileRef f = d := if_neg (Bool.eq_false_iff.mp off)

theorem Dev.whileRef_idle {f : Dev → Dev} (idle : f d = d) : d.whileRef f = d := by rw [Dev.whileRef, idle, ite_self]

end

section

variable {d : Dev} {p i : Nat} {falling : Bool}

theorem Dev.pinEdge_otherEdge (other : ofBool falling ≠ d.get F.REF_IN_CFG_FALLING (d.pinOwner p)) : d.pinEdge p falling = d :=
  if_pos (bne_iff_ne.mpr other)

/-- An edge counts towards two consecutive correct periods of its pin, or begins again. -/
def Dev.countPeriod (d : Dev) (p : Nat) : Dev :=
  let n := d.nominal p
  let gap := d.clock.core + 1 - d.hget H.refEdge p
  let good := d.hget H.refEdge p != 0 && n.1 ≤ 2 * gap * n.2 && 2 * gap * n.2 ≤ 5 * n.1
  d.hset H.refGood p (if good then min 2 (d.hget H.refGood p + 1) else 0)

theorem Dev.pinEdge_of (selected : ofBool falling = d.get F.REF_IN_CFG_FALLING (d.pinOwner p)) :
    let i := d.pinOwner p
    let e := ((d.countPeriod p).hset H.refEdge p ((d.countPeriod p).clock.core + 1)).reviewInput i
    d.pinEdge p falling = if e.carriesPhase i && (if e.refType i == 2 then p == i + 1 else p == i) then
      e.phaseMeasured i (e.edgePhase i e.clock.time16) else e :=
  if_neg (by simp [selected])

theorem Dev.edgeLate_of (seen : d.hget H.refEdge p ≠ 0) :
    let e := d.passToCore (d.hget H.refEdge p - 1 + 5 * (d.nominal p).1 / (2 * (d.nominal p).2) + 1)
    d.edgeLate p = ((e.hset H.refGood p 0).hset H.refEdge p 0).reviewInput (e.pinOwner p) :=
  if_neg seen

theorem Dev.phcSilent_of (written : d.hget H.refPhcWrite ≠ 0) :
    d.phcSilent = (d.passToCore (d.hget H.refPhcWrite + 4 * 10 ^ 9)).reviewInput 4 :=
  if_neg written

theorem Dev.soakEnds_of (soaks : (d.reviewInput i).refState i = 2) :
    let e := d.reviewInput i
    d.soakEnds i = (e.passToCore (e.hget H.refSoak i + e.get F.REF_IN_CFG_SOAK_S i * 10 ^ 9)).enterInput i 3 0 :=
  if_neg (by simp [soaks])

theorem Dev.enterInput_lost {st cause : Nat} (qualified : d.refState i = 3) (leaves : st ≠ 3) (fails : st ≠ 2) :
    d.enterInput i st cause = (((d.set F.REF_IN_STATUS_STATE i st).set F.REF_IN_STATUS_FAIL_CAUSE i cause).bump C.REF_IN_LOSSES i).raise
      66 [i, st, cause] := by
  simp only [Dev.enterInput, qualified, if_neg leaves.symm, if_neg fails, if_pos]

end

/-! ### Gates (R353, R354) -/

section

variable {d : Dev} {i : Nat} {v : Int}

theorem Dev.gateReading_idle (h : d.refState i = 0 ∨ d.refActive i = false ∨ (d.refBar i).isSome = true) : d.gateReading i v = d := by
  rcases h with disabled | inactive | barred
  · exact if_pos (by simp [disabled])
  · exact if_pos (by simp [inactive])
  · exact if_pos (by simp [barred])

/-- The gate has passed and its reading is stored. -/
def Dev.takeReading (d : Dev) (i : Nat) (v : Int) : Dev :=
  let e := d.passToCore (d.hget H.refGate i + d.gateLength i)
  (e.hset H.refGate i e.clock.core).set F.REF_IN_FREQ_VALUE i (ofSigned 32 (saturate 32 v))

/-- What a stored reading does, by the input's state (R354). -/
def Dev.judgeReading (d : Dev) (i : Nat) (v : Int) : Dev :=
  let low := v.natAbs ≤ 65536 * d.get F.REF_LIMITS_ACCEPT_PPB
  let high := v.natAbs > 65536 * d.get F.REF_LIMITS_REJECT_PPB
  match d.refState i with
  | 1 =>
    if low then d.enterInput i (if d.get F.REF_IN_CFG_SOAK_S i == 0 then 3 else 2) 0
    else if high then d
    else d.enterInput i 1 4
  | 2 => if high then d.enterInput i 1 3 else if low then d else d.enterInput i 1 4
  | _ => if high then d.enterInput i 1 3 else d

theorem Dev.gateReading_of (enabled : d.refState i ≠ 0) (active : d.refActive i = true) (free : d.refBar i = none) :
    d.gateReading i v = (d.takeReading i v).judgeReading i v :=
  if_neg (by simp [enabled, active, free])

/-- The reading is at most ACCEPT_PPB. -/
def Dev.accepts (d : Dev) (v : Int) : Prop := v.natAbs ≤ 65536 * d.get F.REF_LIMITS_ACCEPT_PPB

/-- The reading is above REJECT_PPB. -/
def Dev.rejects (d : Dev) (v : Int) : Prop := 65536 * d.get F.REF_LIMITS_REJECT_PPB < v.natAbs

section

variable (failed : d.refState i = 1)
include failed

theorem Dev.judgeReading_failed_low (low : d.accepts v) :
    d.judgeReading i v = d.enterInput i (if d.get F.REF_IN_CFG_SOAK_S i == 0 then 3 else 2) 0 := by
  unfold Dev.accepts at low
  simp only [Dev.judgeReading, failed, if_pos low]

theorem Dev.judgeReading_failed_between (low : ¬d.accepts v) (high : ¬d.rejects v) : d.judgeReading i v = d.enterInput i 1 4 := by
  unfold Dev.accepts at low
  unfold Dev.rejects at high
  simp only [Dev.judgeReading, failed, if_neg low, gt_iff_lt, if_neg high]

end

section

variable (soaks : d.refState i = 2)
include soaks

theorem Dev.judgeReading_soaking_high (high : d.rejects v) : d.judgeReading i v = d.enterInput i 1 3 := by
  unfold Dev.rejects at high
  simp only [Dev.judgeReading, soaks, gt_iff_lt, if_pos high]

theorem Dev.judgeReading_soaking_low (high : ¬d.rejects v) (low : d.accepts v) : d.judgeReading i v = d := by
  unfold Dev.accepts at low
  unfold Dev.rejects at high
  simp only [Dev.judgeReading, soaks, gt_iff_lt, if_neg high, if_pos low]

theorem Dev.judgeReading_soaking_between (high : ¬d.rejects v) (low : ¬d.accepts v) : d.judgeReading i v = d.enterInput i 1 4 := by
  unfold Dev.accepts at low
  unfold Dev.rejects at high
  simp only [Dev.judgeReading, soaks, gt_iff_lt, if_neg high, if_neg low]

end

section

variable (qualified : d.refState i = 3)
include qualified

theorem Dev.judgeReading_qualified_high (high : d.rejects v) : d.judgeReading i v = d.enterInput i 1 3 := by
  unfold Dev.rejects at high
  simp only [Dev.judgeReading, qualified, gt_iff_lt, if_pos high]

theorem Dev.judgeReading_qualified (high : ¬d.rejects v) : d.judgeReading i v = d := by
  unfold Dev.rejects at high
  simp only [Dev.judgeReading, qualified, gt_iff_lt, if_neg high]

end

end

/-- Settles O41: an edge by FALLING, a gate by the input's state and its reading. -/
theorem referenceInputsAct : Obligations.ReferenceInputsAct := by
  refine ⟨fun p falling s on selected => ?edge, fun p falling s h => ?noEdge, fun p s on seen => ?late, fun s written => ?silent,
    fun i v s on enabled active free => ?gate, fun i v s h => ?noGate, fun i s on soaks => ?soak,
    fun d i st cause => Dev.enterInput_lost⟩
  case edge =>
    refine congrArg s.becomes ((Dev.whileRef_on on _).trans ?_)
    exact Dev.pinEdge_of selected
  case noEdge =>
    refine congrArg s.becomes ?_
    rcases h with off | other
    · exact Dev.whileRef_off off _
    · exact Dev.whileRef_idle (Dev.pinEdge_otherEdge other)
  case late => exact congrArg s.becomes ((Dev.whileRef_on on _).trans (Dev.edgeLate_of seen))
  case silent => exact congrArg s.becomes (Dev.phcSilent_of written)
  case gate =>
    rw [exec_frequencyGate, Dev.whileRef_on on, Dev.gateReading_of enabled active free]
    exact ⟨fun failed low => congrArg s.becomes (Dev.judgeReading_failed_low failed low),
      fun failed low high => congrArg s.becomes (Dev.judgeReading_failed_between failed low high),
      fun soaks high => congrArg s.becomes (Dev.judgeReading_soaking_high soaks high),
      fun soaks high low => congrArg s.becomes (Dev.judgeReading_soaking_low soaks high low),
      fun soaks high low => congrArg s.becomes (Dev.judgeReading_soaking_between soaks high low),
      fun qualified high => congrArg s.becomes (Dev.judgeReading_qualified_high qualified high),
      fun qualified high => congrArg s.becomes (Dev.judgeReading_qualified qualified high)⟩
  case noGate =>
    refine congrArg s.becomes ?_
    rcases h with off | idle
    · exact Dev.whileRef_off off _
    · exact Dev.whileRef_idle (Dev.gateReading_idle idle)
  case soak => exact congrArg s.becomes ((Dev.whileRef_on on _).trans (Dev.soakEnds_of soaks))

end Sys2Proof.Machine
end

/-! ## The selector, the loop and phase adjustments (R356–R374) -/

section

namespace Sys2Proof.Machine

section

variable {d : Dev}

/-- The state that an evaluation selects in: slewed up to now, its holdover timer and its inputs reviewed. -/
def Dev.reviewed (d : Dev) : Dev :=
  ((d.passToCore ((d.clock.core / 10 ^ 6 + 1) * 10 ^ 6)).slewNow).holdNow.holdoverCheck.reviewInputs

/-- The selection takes effect, with what follows of it. -/
def Dev.takeSelection (d : Dev) (new : Nat) (forced : Bool) : Dev :=
  let e := ((d.select new forced).set F.REF_STATUS_FORCED 0 (ofBool forced)).conflictCheck
  e.set F.REF_STATUS_STANDBY 0 (e.choose (e.qualified.filter (· != new)))

/-- The evaluation aligns, and the next millisecond is slewed at the rate of now. -/
def Dev.endEvaluation (d : Dev) : Dev := (d.sampleInputs.alignSlew (10 ^ 6)).hset H.refSlewRate 0 (d.get F.REF_SLEW_NS_PER_S)

theorem Dev.evaluateRef_on (on : d.refOn = true) :
    d.evaluateRef = (d.reviewed.takeSelection d.reviewed.selection.1 d.reviewed.selection.2).endEvaluation := by
  rw [Dev.evaluateRef, Dev.whileRef_on on]
  simp only [Dev.reviewed, Dev.takeSelection, Dev.endEvaluation]

theorem Dev.selection_forced (forces : d.get F.REF_CTRL_FORCE_EN = 1) (qualified : d.qualified.contains (d.get F.REF_CTRL_FORCE_IN) = true) :
    d.selection = (d.get F.REF_CTRL_FORCE_IN, true) :=
  if_pos (by rw [forces, qualified]; rfl)

theorem Dev.selection_kept (free : d.get F.REF_CTRL_FORCE_EN = 0) (keeps : d.get F.REF_CTRL_REVERTIVE = 0)
    (qualified : d.qualified.contains (d.get F.REF_STATUS_SELECTED) = true) : d.selection = (d.get F.REF_STATUS_SELECTED, false) :=
  (if_neg (by simp [free])).trans (if_pos (by rw [keeps, qualified]; rfl))

end

/-! ### A second of TIME (R362, R366, R367) -/

section

variable {d : Dev} {x : LoopIn}

/-- TIME passes to the end of its second. -/
def Dev.toSecond (d : Dev) : Dev := d.passTo ((d.now / 10 ^ 9 + 1) * 10 ^ 9 * 65536)

/-- A second's mean, if it had one, is the newest of the 360 that are kept. -/
def Dev.remember (d : Dev) (v : Option Int) : Dev := { d with refHist := (v :: d.refHist).take 360 }

theorem Dev.get_remember (d : Dev) (v : Option Int) (f : Fld) (i : Nat) : (d.remember v).get f i = d.get f i := rfl

/-- The averages of a second that the loop held throughout. -/
def Dev.takeMean (d : Dev) (x : LoopIn) : Dev :=
  ((d.set F.REF_AVG_1S_VALUE 0 (ofSigned 32 x.mean)).set F.REF_PEAT_CTRL_AVG_VALID 0 1).remember (some x.mean)

theorem Dev.get_takeMean_loop (d : Dev) (x : LoopIn) : (d.takeMean x).get F.REF_STATUS_LOOP = d.get F.REF_STATUS_LOOP := by
  rw [Dev.takeMean, Dev.get_remember, Dev.get_set_ne _ _ (by decide), Dev.get_set_ne _ _ (by decide)]

/-- The loop's part in the end of a second: its holdover timer, or its lock criteria. -/
def Dev.loopJudged (d : Dev) (x : LoopIn) : Dev :=
  let e := if d.get F.REF_STATUS_LOOP == 3 || d.get F.REF_STATUS_LOOP == 4 then d.holdNow.holdoverCheck else d.lockSecond x
  e.hset H.refSteady 0 (ofBool (e.get F.REF_STATUS_LOOP == 2))

theorem Dev.loopJudged_locked (locked : d.get F.REF_STATUS_LOOP = 2) :
    d.loopJudged x = (d.lockSecond x).hset H.refSteady 0 (ofBool ((d.lockSecond x).get F.REF_STATUS_LOOP == 2)) := by
  have within : ¬(d.get F.REF_STATUS_LOOP == 3 || d.get F.REF_STATUS_LOOP == 4) = true := by simp [locked]
  simp only [Dev.loopJudged, if_neg within]

theorem Dev.loopSecond_notHeld (on : d.refOn = true) (unlocked : d.get F.REF_STATUS_LOOP ≠ 2) :
    d.loopSecond x = (d.toSecond.remember none).loopJudged x := by
  have held : (d.toSecond.hget H.refSteady == 1 && d.toSecond.get F.REF_STATUS_LOOP == 2) = false := by simp [Dev.toSecond, unlocked]
  unfold Dev.toSecond at held
  refine (Dev.whileRef_on on _).trans ?_
  simp only [held, if_neg Bool.false_ne_true]
  rfl

theorem Dev.loopSecond_held (on : d.refOn = true) (locked : d.get F.REF_STATUS_LOOP = 2) (steady : d.hget H.refSteady = 1) :
    d.loopSecond x = (d.toSecond.takeMean x).loopJudged x := by
  have held : (d.toSecond.hget H.refSteady == 1 && d.toSecond.get F.REF_STATUS_LOOP == 2) = true := by
    simp [Dev.toSecond, locked, steady]
  unfold Dev.toSecond at held
  refine (Dev.whileRef_on on _).trans ?_
  simp only [held, if_pos]
  rfl

section

variable (runs : d.lathRuns = true) (ours : d.holder 10 = 7)
include runs ours

/-- The means that the peat average is taken of. -/
def Dev.peatMeans (d : Dev) : List Int := (d.refHist.drop 60).filterMap id

theorem Dev.peatUpdate_few (few : d.peatMeans.length < 150) : d.peatUpdate = d.set F.REF_PEAT_CTRL_PEAT_VALID 0 0 :=
  (if_neg (by simp [runs, ours])).trans (if_pos few)

theorem Dev.peatUpdate_enough (enough : 150 ≤ d.peatMeans.length) :
    d.peatUpdate = (d.writePeat (ofSigned 32 (d.peatMeans.sum / (d.peatMeans.length : Int)))).set F.REF_PEAT_CTRL_PEAT_VALID 0 1 :=
  (if_neg (by simp [runs, ours])).trans (if_neg (Nat.not_lt.mpr enough))

end

end

/-! ### Phase adjustments (R368–R371) -/

section

variable {d : Dev} {v : Int}

theorem Dev.phaseAdjust_aligned (step : Bool) (aligned : d.aligned = true) :
    d.phaseAdjust step v = ((d.phaseTerm K.PHASE_REQUESTED v).phaseTerm K.PHASE_REFUSED v).raise 70 (2 :: signedWords v) :=
  if_pos aligned

theorem Dev.phaseAdjust_step (free : d.aligned = false) : d.phaseAdjust true v = d.stepTime 7 v :=
  (if_neg (Bool.eq_false_iff.mp free)).trans (if_pos rfl)

theorem Dev.phaseAdjust_slew (free : d.aligned = false) :
    let e := (d.slewNow.phaseTerm K.PHASE_REQUESTED v).addBuild 7 v
    d.phaseAdjust false v =
      e.setSplit F.REF_PHASE_REMAIN_LO_FRAC F.REF_PHASE_REMAIN_MID_NS F.REF_PHASE_REMAIN_HI_NS (e.phaseRemain + v) :=
  (if_neg (Bool.eq_false_iff.mp free)).trans (if_neg Bool.false_ne_true)

theorem Dev.slewEnds_done (done : d.slewNow.phaseRemain.natAbs = 0) : d.slewEnds = d.slewNow := if_pos done

theorem Dev.slewEnds_remains (remains : d.slewNow.phaseRemain.natAbs ≠ 0) :
    let r := d.slewNow
    d.slewEnds = (r.pass ((r.phaseRemain.natAbs * 10 ^ 9 + 65536 * r.hget H.refSlewRate - 1) / (65536 * r.hget H.refSlewRate))).slewNow :=
  if_neg remains

end

/-! ### Commands -/

section

variable {d e : Dev} {q : Req} {ts : List Tlv}

/-- A TYPE is given that the input does not take. -/
def badInputType (ts : List Tlv) : Bool := hasTlv ts 0x0102 && !goodType (tlvNum ts 0x0101) (bits (tlvNum ts 0x0102) 24 3)

theorem Dev.refInputConfig_bad (h : d.Accepts q refInputConfigSpec ts e) (bad : badInputType ts = true) :
    d.refInputConfig q = e.reply q 0x0530 St.badParam [statusDetail (tlvIndex ts 0x0102) 0xFF 0] :=
  (Dev.command_of h _).trans (if_pos bad)

/-- The writes of REF_INPUT_CONFIG. -/
def refInputWrites (ts : List Tlv) : List ShadowWrite :=
  (if hasTlv ts 0x0102 then refCfgWrites (tlvNum ts 0x0101) (tlvNum ts 0x0102) else []) ++
    (if hasTlv ts 0x0103 then writesOf [F.REF_IN_SYNC_RATE, F.REF_IN_SYNC_LINES] (tlvNum ts 0x0101) (tlvNum ts 0x0103) else []) ++
    tlvAtAll ts 0x0104 [tlvNum ts 0x0101] F.REF_IN_DELAY_NS ++ tlvAtAll ts 0x0105 [0] F.REF_SLOT_SEL_SLOT

theorem Dev.refInputConfig_of (h : d.Accepts q refInputConfigSpec ts e) (good : badInputType ts = false) :
    d.refInputConfig q = e.refChange q 0x0530 ts (refInputWrites ts) :=
  (Dev.command_of h _).trans (if_neg (Bool.eq_false_iff.mp good))

theorem Dev.refLoopConfig_of (h : d.Accepts q refLoopConfigSpec ts e) :
    d.refLoopConfig q = e.refChange q 0x0531 ts (refLoopWrites ts) :=
  Dev.command_of h _

theorem Dev.refStatusGet_of (h : d.Accepts q refStatusGetSpec ts e) :
    d.refStatusGet q = e.reply q 0x0532 St.ok (data [w4 e.refStatusView, w4 (e.get F.REF_CTRL_VALUE_VALUE), w4 (e.get F.REF_PEAT_VALUE),
      w4 (e.get F.REF_HOLDOVER_TIME_SECONDS)] ::
      (List.range 7).map fun i => data [w4 (e.refInView i), w4 (e.get F.REF_IN_FREQ_VALUE i), w4 (e.phaseView i)]) :=
  Dev.command_of h _

theorem Dev.refPhaseAdjust_of (h : d.Accepts q refPhaseAdjustSpec ts e) :
    let c := (e.setSplit F.REF_PHASE_ADJ_LO_FRAC F.REF_PHASE_ADJ_MID_NS F.REF_PHASE_ADJ_HI_NS
      (toSigned 64 (tlvNum ts 0x0101))).writePhaseCtrl (2 * tlvNum ts 0x0102 + 1)
    d.refPhaseAdjust q = if e.aligned then c.reply q 0x0533 St.badParam [statusDetail 0xFFFF 0xFF 0x40] else c.reply q 0x0533 St.ok :=
  Dev.command_of h _

theorem Dev.refForce_of (h : d.Accepts q refForceSpec ts e) :
    let v := tlvNum ts 0x0101
    let c := if v = 0xFF then e.set F.REF_CTRL_FORCE_EN 0 0 else (e.set F.REF_CTRL_FORCE_EN 0 1).set F.REF_CTRL_FORCE_IN 0 v
    d.refForce q = (c.mirrorReg 0x800000).reply q 0x0534 St.ok :=
  Dev.command_of h _

theorem Dev.xoTrimSet_of (h : d.Accepts q xoTrimSetSpec ts e) :
    d.xoTrimSet q = (e.writeTrim (tlvNum ts 0x0101)).reply q 0x0535 St.ok :=
  Dev.command_of h _

end

/-- Settles O42: an evaluation and a second while the block acts, an adjustment by ALIGN and its kind. -/
theorem referenceLoopActs : Obligations.ReferenceLoopActs := by
  refine ⟨fun x s off => ⟨congrArg s.becomes (Dev.whileRef_off off _), congrArg s.becomes (Dev.whileRef_off off _)⟩,
    fun s on => congrArg s.becomes (Dev.evaluateRef_on on), fun d => ⟨Dev.selection_forced, Dev.selection_kept⟩,
    fun x s on unlocked => congrArg s.becomes (Dev.loopSecond_notHeld on unlocked), fun x s on locked steady => ?held,
    fun s runs ours => ⟨fun few => congrArg s.becomes (Dev.peatUpdate_few runs ours few),
      fun enough => congrArg s.becomes (Dev.peatUpdate_enough runs ours enough)⟩,
    fun m v s reach => ?adjust, fun d step v => ⟨Dev.phaseAdjust_aligned step, Dev.phaseAdjust_step, Dev.phaseAdjust_slew⟩,
    fun s => ⟨fun done => congrArg s.becomes (Dev.slewEnds_done done), fun remains => congrArg s.becomes (Dev.slewEnds_remains remains)⟩,
    fun q s ts e h => ⟨fun bad => congrArg s.becomes (Dev.refInputConfig_bad h bad),
      fun good => congrArg s.becomes (Dev.refInputConfig_of h good)⟩,
    fun q s ts e h => congrArg s.becomes (Dev.refLoopConfig_of h), fun d q op ts ws => rfl,
    fun q s ts e h => congrArg s.becomes (Dev.refStatusGet_of h), fun q s ts e h => congrArg s.becomes (Dev.refPhaseAdjust_of h),
    fun q s ts e h => congrArg s.becomes (Dev.refForce_of h), fun q s ts e h => congrArg s.becomes (Dev.xoTrimSet_of h)⟩
  case held =>
    have still : (s.dev.toSecond.takeMean x).get F.REF_STATUS_LOOP = 2 := by
      rw [Dev.get_takeMean_loop, Dev.toSecond, Dev.get_passTo, locked]
    exact congrArg s.becomes ((Dev.loopSecond_held on locked steady).trans (Dev.loopJudged_locked still))
  case adjust =>
    rw [exec_phaseAdjustGo, Dev.busWrite_of reach]
    rfl

end Sys2Proof.Machine
end

/-! ## Frames, masks, mutes and groups of the serial audio ports (R375–R397) -/

section

namespace Sys2Proof.Machine

/-! ### Frames (R375, R378) -/

section

variable {d : Dev} {p : Nat} {x : PortFrame}

theorem Dev.portFrame_idle (h : (d.pass x.wait).portState p = 0 ∨ (d.pass x.wait).isFrame p x.cycles = false) :
    d.portFrame p x = d.pass x.wait := by
  rcases h with stopped | other
  · exact if_pos (by simp [stopped])
  · exact if_pos (by simp [other])

/-- The FS edge of a frame is measured, and the pending mask takes effect. -/
def Dev.atEdge (d : Dev) (p : Nat) (x : PortFrame) : Dev :=
  ((d.set F.APT_PORT_FS_PPB p (ofSigned 32 x.ppb)).hset H.aptEdge p (d.clock.core + 1)).applyMask p

/-- An output port that is not RUNNING drives its data pin low. -/
def Dev.driveLow (d : Dev) (p : Nat) : Dev :=
  if d.get F.APT_PORT_CFG_DIR p = 1 then d.serialise p (List.replicate (d.portSlots p) 0) else d

theorem Dev.portFrame_acquires (acquires : (d.pass x.wait).portState p = 1 ∨ (d.pass x.wait).portState p = 5)
    (frame : (d.pass x.wait).isFrame p x.cycles = true) :
    d.portFrame p x = (((d.pass x.wait).atEdge p x).driveLow p).acquire p x := by
  unfold Dev.driveLow Dev.atEdge
  rcases acquires with acquiring | lost
  · simp [Dev.portFrame, acquiring, frame]
  · simp [Dev.portFrame, lost, frame]

/-- A frame that counts. -/
def Dev.countGood (d : Dev) (p : Nat) : Dev :=
  (d.set F.APT_PORT_STATUS_ACQ_CAUSE p 0).hset H.aptRun p (d.hget H.aptRun p + 1)

section

variable (good : d.acqCause p x = 0)
include good

theorem Dev.acquire_counts (few : d.hget H.aptRun p + 1 < 16) : d.acquire p x = d.countGood p := by
  simp only [Dev.acquire, Dev.countGood, good, if_pos, Dev.hget_set, if_pos few]

theorem Dev.acquire_locks (enough : 16 ≤ d.hget H.aptRun p + 1) :
    d.acquire p x = (d.countGood p).portTo p (if (d.countGood p).portState p = 1 then 2 else 4) := by
  simp only [Dev.acquire, Dev.countGood, good, if_pos, Dev.hget_set, if_neg (Nat.not_lt.mpr enough)]
  rfl

end

section

variable (runs : (d.pass x.wait).portState p = 4) (frame : (d.pass x.wait).isFrame p x.cycles = true)
  (carries : ((d.pass x.wait).atEdge p x).hget H.aptRestart p = 0)
include runs frame carries

theorem Dev.portFrame_far (far : 5000000 < x.ppb.natAbs) :
    d.portFrame p x = (((d.pass x.wait).atEdge p x).pinFrame p x.cycles).clockLost p 0 := by
  unfold Dev.atEdge at *
  simp [Dev.portFrame, runs, frame, carries, far]

theorem Dev.portFrame_runs (near : x.ppb.natAbs ≤ 5000000)
    (single : (((d.pass x.wait).atEdge p x).pinFrame p x.cycles).get F.APT_PORT_CFG_GROUP p = 0) :
    d.portFrame p x = (((((d.pass x.wait).atEdge p x).pinFrame p x.cycles).countIndex p).checkDrift p).resumeAt p := by
  unfold Dev.atEdge at *
  simp [Dev.portFrame, runs, frame, carries, Nat.not_lt.mpr near, single]

end

theorem Dev.sampleCycle_fall (falls : d.get F.APT_PORT_CFG_BCLK_FALL p = 1) (c : BclkCycle) : d.sampleCycle p c = (c.fsFall, c.sdFall) :=
  if_pos falls

theorem Dev.sampleCycle_rise (rises : d.get F.APT_PORT_CFG_BCLK_FALL p = 0) (c : BclkCycle) : d.sampleCycle p c = (c.fsRise, c.sdRise) :=
  if_neg (by simp [rises])

section

variable {cycles : List BclkCycle} (lowest : 2 ≤ d.portState p) (highest : d.portState p ≤ 4)
include lowest highest

/-- Two nominal frame periods have passed since the last FS edge. -/
def Dev.toFsTimeout (d : Dev) (p : Nat) : Dev := d.passToCore (d.hget H.aptEdge p - 1 + 2 * d.portPeriod p)

theorem Dev.fsTimeout_of : d.fsTimeout p cycles =
    if (d.toFsTimeout p).portState p = 4 && (d.toFsTimeout p).hget H.aptRestart p == 0 then
      ((d.toFsTimeout p).partFrame p cycles).2.clockLost p ((d.toFsTimeout p).partFrame p cycles).1
    else (d.toFsTimeout p).clockLost p 0 :=
  if_neg (by simp [Nat.not_lt.mpr lowest, Nat.not_lt.mpr highest])

theorem Dev.fsTimeout_running (runs : (d.toFsTimeout p).portState p = 4) (carries : (d.toFsTimeout p).hget H.aptRestart p = 0) :
    d.fsTimeout p cycles = ((d.toFsTimeout p).partFrame p cycles).2.clockLost p ((d.toFsTimeout p).partFrame p cycles).1 :=
  (Dev.fsTimeout_of lowest highest).trans (if_pos (by simp [runs, carries]))

theorem Dev.fsTimeout_silent (silent : (d.toFsTimeout p).portState p ≠ 4 ∨ (d.toFsTimeout p).hget H.aptRestart p ≠ 0) :
    d.fsTimeout p cycles = (d.toFsTimeout p).clockLost p 0 :=
  (Dev.fsTimeout_of lowest highest).trans (if_neg (by simpa [imp_iff_not_or] using silent))

end

end

/-! ### The FIFO (R383) -/

section

variable {d : Dev} {p n : Nat} {ws : List Nat}

theorem Dev.fifoIn_fits (fits : (d.pfifo p).words.length + ws.length ≤ 4096) :
    d.fifoIn p ws = ((d.bump C.APT_RECEIVED p ws.length).bump C.APT_DROPPED p 0).setWords p ((d.pfifo p).words ++ ws) := by
  have all : min ws.length (4096 - (d.pfifo p).words.length) = ws.length := Nat.min_eq_left (by omega)
  simp only [Dev.fifoIn, all, Nat.sub_self, if_pos, List.take_length]

theorem Dev.fifoOut_holds (holds : n ≤ (d.pfifo p).words.length) :
    d.fifoOut p n = ((d.pfifo p).words.take n,
      ((d.bump C.APT_DELIVERED p n).bump C.APT_ZERO_INSERTED p 0).setWords p ((d.pfifo p).words.drop n)) := by
  simp only [Dev.fifoOut, Nat.sub_eq_zero_of_le holds, if_pos, List.replicate_zero, List.append_nil]

section

variable (lacks : (d.pfifo p).words.length < n)
include lacks

theorem Dev.fifoOut_lacks_words :
    (d.fifoOut p n).1 = (d.pfifo p).words ++ List.replicate (n - (d.pfifo p).words.length) 0 := by
  simp only [Dev.fifoOut, List.take_of_length_le lacks.le]

theorem Dev.fifoOut_lacks (output : d.get F.APT_PORT_CFG_DIR p = 1) :
    (d.fifoOut p n).2 = (((d.bump C.APT_DELIVERED p n).bump C.APT_ZERO_INSERTED p (n - (d.pfifo p).words.length)).setWords p []).slip p 2
      ((n - (d.pfifo p).words.length : Nat) : Int) := by
  have out : (((d.bump C.APT_DELIVERED p n).bump C.APT_ZERO_INSERTED p (n - (d.pfifo p).words.length)).setWords p []).get
      F.APT_PORT_CFG_DIR p = 1 := output
  simp only [Dev.fifoOut, List.drop_eq_nil_of_le lacks.le, if_neg (Nat.sub_ne_zero_of_lt lacks), out, if_neg one_ne_zero]

end

end

/-! ### Registers and mutes (R376, R385, R386, R389) -/

section

variable {d : Dev} {p c w : Nat}

/-- The fields of APT_PORT_CFG take a word. -/
def Dev.storePortCfg (d : Dev) (p w : Nat) : Dev := portCfgFields.foldl (fun d f => d.set f p (fieldOf f (portCfgWord w))) d

theorem Dev.writePortCfg_refused (refused : d.portCfgRefusal p w ≠ 0) : d.writePortCfg p w = d := if_pos (bne_iff_ne.mpr refused)

theorem Dev.writePortCfg_starts (taken : d.portCfgRefusal p w = 0) (on : bit w 31 = true) (stopped : (d.storePortCfg p w).portState p = 0) :
    d.writePortCfg p w = (d.storePortCfg p w).portTo p 1 :=
  (if_neg (by simp [taken])).trans ((if_pos on).trans (if_pos stopped))

theorem Dev.writePortCfg_stops (taken : d.portCfgRefusal p w = 0) (off : bit w 31 = false) :
    d.writePortCfg p w = (d.storePortCfg p w).portTo p 0 :=
  (if_neg (by simp [taken])).trans (if_neg (Bool.eq_false_iff.mp off))

theorem Dev.writePortCtrl_restart (restart : bit w 0 = true) : d.writePortCtrl p w = d.restartPort p := if_pos restart

theorem Dev.zcTimeout_of (waits : d.hget H.aptWait (chanIx p c) ≠ 0) :
    let k := chanIx p c
    let e := d.passToCore (d.hget H.aptSince k + 1000000 * d.get F.APT_ZC_CFG_ZC_TIMEOUT_MS)
    let e := ((e.beginFade p c (d.hget H.aptWait k)).bump C.APT_ZC_TIMEOUTS p).refreshMute p
    let sec := e.clock.core / 1000000000 + 1
    d.zcTimeout p c = if e.hget H.aptZcSecond p = sec then e else (e.hset H.aptZcSecond p sec).raise (704 + p) [2, c] := by
  simp only [Dev.zcTimeout, if_neg waits, beq_iff_eq]

end

/-! ### Groups (R392–R395) -/

section

variable {d : Dev} {g w : Nat}

/-- APT_GROUP_CTRL stores START_SRC and PIN. -/
def Dev.storeGroupCtrl (d : Dev) (g w : Nat) : Dev :=
  (d.set F.APT_GROUP_CTRL_START_SRC g (if bits w 20 3 > 4 then 0 else bits w 20 3)).set F.APT_GROUP_CTRL_PIN g (bits w 0 5)

theorem Dev.writeGroupCtrl_arm (arm : bit w 31 = true) (noFire : bit w 30 = false) :
    d.writeGroupCtrl g w = (d.storeGroupCtrl g w).armGroup g := by
  simp only [Dev.writeGroupCtrl, Dev.storeGroupCtrl, arm, noFire, Bool.false_and, if_neg Bool.false_ne_true, if_pos]

theorem Dev.writeGroupCtrl_fire (source : bits w 20 3 = 4) (noArm : bit w 31 = false) (fire : bit w 30 = true) :
    d.writeGroupCtrl g w = ((d.set F.APT_GROUP_CTRL_START_SRC g 4).set F.APT_GROUP_CTRL_PIN g (bits w 0 5)).trigger g := by
  have fires : ((d.set F.APT_GROUP_CTRL_START_SRC g 4).set F.APT_GROUP_CTRL_PIN g (bits w 0 5)).get F.APT_GROUP_CTRL_START_SRC g = 4 := by
    rw [Dev.get_set_ne _ _ (by simp [F.APT_GROUP_CTRL_START_SRC, F.APT_GROUP_CTRL_PIN]), Dev.get_set_same]
    rfl
  simp only [Dev.writeGroupCtrl, source, if_neg (lt_irrefl 4), noArm, fire, if_neg Bool.false_ne_true, fires, beq_self_eq_true, Bool.and_self, if_pos]

theorem Dev.groupStart_of (triggered : d.hget H.aptTrigger g ≠ 0) :
    let a := (d.passTo ((d.hget H.aptTrigger g - 1 + 1000) * 65536)).hset H.aptTrigger g 0
    let started := (a.members g).filter fun p => a.portState p == 3
    let missed := a.get F.APT_GROUP_MISSED_MISSED g ||| wordOfBits ((a.members g).filter fun p => !started.contains p)
    let e := (a.reviewLeader g).each started fun d p => d.portTo p 4
    let e := ((e.set F.APT_GROUP_MISSED_MISSED g missed).set F.APT_GROUP_INDEX_LO_INDEX g 0).set F.APT_GROUP_INDEX_HI_INDEX g 0
    let e := (e.set F.APT_GROUP_TIME_LO_NS g e.now).set F.APT_GROUP_TIME_HI_NS g (e.now / 2 ^ 32)
    d.groupStart g = e.raise 728 ([(g + 1) * 2 ^ 24 + wordOfBits started, missed] ++ words2 e.now) :=
  if_neg triggered

end

/-- Settles O43: a frame by the port's state, the FIFO by its level, a register by its bits, a group by its trigger. -/
theorem audioPortsAct : Obligations.AudioPortsAct := by
  refine ⟨fun p x s h => congrArg s.becomes (Dev.portFrame_idle h),
    fun p x s acquires frame => congrArg s.becomes (Dev.portFrame_acquires acquires frame),
    fun d p x good => ⟨Dev.acquire_counts good, Dev.acquire_locks good⟩, fun p x s runs frame carries => ?frame,
    fun d p c => ⟨fun falls => Dev.sampleCycle_fall falls c, fun rises => Dev.sampleCycle_rise rises c⟩, fun d p ws => Dev.fifoIn_fits,
    fun d p n => Dev.fifoOut_holds, fun d p n lacks output => ⟨Dev.fifoOut_lacks_words lacks, Dev.fifoOut_lacks lacks output⟩,
    fun p cycles s lowest highest => ?timeout, fun m p v s reach => ?config, fun m p v s reach restart => ?restart,
    fun m p v s reach => ?mask, fun m p v s reach => ?mute, fun p c s waits => congrArg s.becomes (Dev.zcTimeout_of waits),
    fun m g v s reach _ => ?arm, fun m g v s reach => ?fire, fun g s triggered => congrArg s.becomes (Dev.groupStart_of triggered)⟩
  case frame => exact ⟨fun far => congrArg s.becomes (Dev.portFrame_far runs frame carries far),
    fun near single => congrArg s.becomes (Dev.portFrame_runs runs frame carries near single)⟩
  case timeout => exact ⟨fun runs carries => congrArg s.becomes (Dev.fsTimeout_running lowest highest runs carries),
    fun silent => congrArg s.becomes (Dev.fsTimeout_silent lowest highest silent)⟩
  case config =>
    rw [exec_portCfgWrite, Dev.busWrite_of reach]
    refine ⟨fun refused => ?_, fun taken on stopped => ?_, fun taken off => ?_⟩
    · rw [Dev.writePortCfg_refused refused]
    · rw [Dev.writePortCfg_starts taken on stopped]
      rfl
    · rw [Dev.writePortCfg_stops taken off]
      rfl
  case restart => rw [exec_portRestart, Dev.busWrite_of reach, Dev.writePortCtrl_restart restart]
  case mask =>
    rw [exec_maskWrite, Dev.busWrite_of reach]
    rfl
  case mute =>
    rw [exec_muteWrite, Dev.busWrite_of reach]
    rfl
  case arm =>
    intro w src d arm noFire
    have written : exec (.groupArm m g v ()) s = s.becomes (((s.dev.transaction m).writeGroupCtrl g (v.toNat ||| 2 ^ 31)).written m
        (aptGroup g) (v.toNat ||| 2 ^ 31)) :=
      (exec_groupArm ..).trans (congrArg s.becomes (Dev.busWrite_of reach ..))
    rw [written, Dev.writeGroupCtrl_arm arm noFire]
    rfl
  case fire =>
    intro w d source noArm fire
    have written : exec (.groupFire m g v) s = s.becomes (((s.dev.transaction m).writeGroupCtrl g (v.toNat ||| 2 ^ 30)).written m
        (aptGroup g) (v.toNat ||| 2 ^ 30)) :=
      (exec_groupFire ..).trans (congrArg s.becomes (Dev.busWrite_of reach ..))
    rw [written, Dev.writeGroupCtrl_fire source noArm fire]

end Sys2Proof.Machine
end

/-! ## The serial audio port commands (R400) -/

section

namespace Sys2Proof.Machine

section

variable {d e : Dev} {q : Req} {ts : List Tlv}

/-- Why the configuration that a request carries is refused: 0 it carries none, or one that is stored. -/
def Dev.cfgRefusal (d : Dev) (ts : List Tlv) : Nat :=
  if hasTlv ts 0x0102 then d.portCfgRefusal (tlvNum ts 0x0101) (tlvNum ts 0x0102) else 0

theorem Dev.aportConfig_refused (h : d.Accepts q aportConfigSpec ts e) (refused : e.cfgRefusal ts ≠ 0) :
    d.aportConfig q = e.reply q 0x0350 St.badParam [statusDetail (tlvIndex ts 0x0102) 0xFF (e.cfgRefusal ts)] :=
  (Dev.command_of h _).trans (if_pos (bne_iff_ne.mpr refused))

theorem Dev.aportConfig_of (h : d.Accepts q aportConfigSpec ts e) (taken : e.cfgRefusal ts = 0) :
    let p := tlvNum ts 0x0101
    let c := if hasTlv ts 0x0102 then (e.writePortCfg p (tlvNum ts 0x0102)).mirrorReg (aptPort p) else e
    d.aportConfig q =
      (if hasTlv ts 0x0103 then (c.writePortMask p (tlvNum ts 0x0103)).mirrorReg (aptPort p + 4) else c).reply q 0x0350 St.ok :=
  (Dev.command_of h _).trans (if_neg (mt bne_iff_ne.mp (not_not.mpr taken)))

theorem Dev.aportMute_of (h : d.Accepts q aportMuteSpec ts e) :
    let p := tlvNum ts 0x0101
    let sel := tlvNum ts 0x0104
    let v := (e.get F.APT_PORT_MUTE_MUTE p &&& (0xFFFFFFFF ^^^ sel)) ||| (tlvNum ts 0x0105 &&& sel)
    d.aportMute q = ((e.writePortMute p v).mirrorReg (aptPort p + 0x10)).reply q 0x0351 St.ok :=
  Dev.command_of h _

theorem Dev.aportGroupConfig_of (h : d.Accepts q aportGroupConfigSpec ts e) :
    let g := tlvNum ts 0x0106 - 1
    let v := (tlv? ts 0x0107).getD []
    d.aportGroupConfig q = (((e.set F.APT_GROUP_CTRL_START_SRC g (beVal (v.take 2))).set F.APT_GROUP_CTRL_PIN g
      (beVal (v.drop 2))).mirrorReg (aptGroup g)).reply q 0x0352 St.ok :=
  Dev.command_of h _

section

variable (h : d.Accepts q aportArmSpec ts e)
include h

/-- The group starts on a pin, and the GPIO block is leased. -/
def Dev.pinsLeased (d : Dev) (g : Nat) : Bool := d.get F.APT_GROUP_CTRL_START_SRC g == 3 && d.holder 15 != 7

/-- A member of the group is READY. -/
def Dev.someReady (d : Dev) (g : Nat) : Bool := (d.members g).any fun p => d.portState p == 2

theorem Dev.aportArm_leased (leased : e.pinsLeased (tlvNum ts 0x0106 - 1) = true) : d.aportArm q = e.reply q 0x0353 St.leased :=
  (Dev.command_of h _).trans (if_pos leased)

variable (free : e.pinsLeased (tlvNum ts 0x0106 - 1) = false)
include free

theorem Dev.aportArm_noneReady (none : e.someReady (tlvNum ts 0x0106 - 1) = false) :
    d.aportArm q = e.reply q 0x0353 St.badParam [statusDetail (tlvIndex ts 0x0106) 0xFF 0x52] :=
  (Dev.command_of h _).trans ((if_neg (Bool.eq_false_iff.mp free)).trans (if_pos (congrArg not none)))

theorem Dev.aportArm_of (some : e.someReady (tlvNum ts 0x0106 - 1) = true) :
    d.aportArm q = ((e.armGroup (tlvNum ts 0x0106 - 1)).mirrorReg (aptGroup (tlvNum ts 0x0106 - 1))).reply q 0x0353 St.ok :=
  (Dev.command_of h _).trans ((if_neg (Bool.eq_false_iff.mp free)).trans (if_neg (Bool.eq_false_iff.mp (congrArg not some))))

end

/-- FIRE does nothing on the group: it is not armed, or starts by another source. -/
def Dev.firesNot (d : Dev) (g : Nat) : Bool := d.get F.APT_GROUP_CTRL_ARM g == 0 || d.get F.APT_GROUP_CTRL_START_SRC g != 4

theorem Dev.aportStart_refused (h : d.Accepts q aportStartSpec ts e) (no : e.firesNot (tlvNum ts 0x0106 - 1) = true) :
    d.aportStart q = e.reply q 0x0354 St.badParam [statusDetail (tlvIndex ts 0x0106) 0xFF 0x53] :=
  (Dev.command_of h _).trans (if_pos no)

theorem Dev.aportStart_of (h : d.Accepts q aportStartSpec ts e) (fires : e.firesNot (tlvNum ts 0x0106 - 1) = false) :
    d.aportStart q = ((e.trigger (tlvNum ts 0x0106 - 1)).mirrorReg (aptGroup (tlvNum ts 0x0106 - 1))).reply q 0x0354 St.ok :=
  (Dev.command_of h _).trans (if_neg (Bool.eq_false_iff.mp fires))

theorem Dev.aportRestart_of (h : d.Accepts q aportRestartSpec ts e) :
    d.aportRestart q = (e.restartPort (tlvNum ts 0x0101)).reply q 0x0355 St.ok :=
  Dev.command_of h _

theorem Dev.aportStatusGet_beyond (h : d.Accepts q aportStatusGetSpec ts e) (beyond : 24 < tlvNum ts 0x0108 + tlvNum ts 0x0109) :
    d.aportStatusGet q = e.reply q 0x0356 St.badParam [statusDetail (tlvIndex ts 0x0109) 0xFF 0] :=
  (Dev.command_of h _).trans (if_pos beyond)

theorem Dev.aportStatusGet_of (h : d.Accepts q aportStatusGetSpec ts e) (within : tlvNum ts 0x0108 + tlvNum ts 0x0109 ≤ 24) :
    d.aportStatusGet q = e.reply q 0x0356 St.ok ((rangeList (tlvNum ts 0x0108, tlvNum ts 0x0109)).map fun p =>
      data (w4 (e.portStatusWord p) :: [0x1C, 0x40, 0x44, 0x48, 0x4C, 0x50, 0x54, 0x58, 0x5C].map fun o =>
        w4 (e.storedAt (aptPort p + o)))) :=
  (Dev.command_of h _).trans (if_neg (Nat.not_lt.mpr within))

end

theorem Dev.trigger_armed {d : Dev} {g : Nat} (armed : d.get F.APT_GROUP_CTRL_ARM g ≠ 0) :
    d.trigger g = ((d.set F.APT_GROUP_CTRL_ARM g 0).hset H.aptTrigger g (d.now + 1)).set F.APT_GROUP_MISSED_MISSED g
      (wordOfBits ((d.members g).filter fun p => d.portState p != 3)) :=
  if_neg (mt beq_iff_eq.mp armed)

/-- Settles O44: each command by what its rules refuse. -/
theorem audioPortCommandsAct : Obligations.AudioPortCommandsAct := by
  refine ⟨fun q s ts e h => ?config, fun q s ts e h => congrArg s.becomes (Dev.aportMute_of h),
    fun q s ts e h => congrArg s.becomes (Dev.aportGroupConfig_of h), fun q s ts e h => ?arm, fun q s ts e h => ?start,
    fun q s ts e h => congrArg s.becomes (Dev.aportRestart_of h), fun q s ts e h => ?status, fun d g => Dev.trigger_armed⟩
  case config => exact ⟨fun refused => congrArg s.becomes (Dev.aportConfig_refused h refused),
    fun taken => congrArg s.becomes (Dev.aportConfig_of h taken)⟩
  case arm => exact ⟨fun leased => congrArg s.becomes (Dev.aportArm_leased h leased),
    fun free none => congrArg s.becomes (Dev.aportArm_noneReady h free none),
    fun free some => congrArg s.becomes (Dev.aportArm_of h free some)⟩
  case start => exact ⟨fun no => congrArg s.becomes (Dev.aportStart_refused h no),
    fun fires => congrArg s.becomes (Dev.aportStart_of h fires)⟩
  case status => exact ⟨fun beyond => congrArg s.becomes (Dev.aportStatusGet_beyond h beyond),
    fun within => congrArg s.becomes (Dev.aportStatusGet_of h within)⟩

end Sys2Proof.Machine
end

/-! ## The stream of a Causeway link and its frames (R458–R462, R483) -/

section

namespace Sys2Proof.Machine

theorem Dev.onCsw_csw (d : Dev) (f : Csw → Csw) : (d.onCsw f).csw = f d.csw := rfl

/-! ### Superframes and the stream (R458) -/

section

variable {d : Dev} {k : Nat}

/-- What lane `j` of a link holds of its superframe. -/
def Dev.laneHolds (d : Dev) (k j : Nat) : Option LaneSf := d.csw.laneIn.getD (4 * k + j) none

/-- The four lanes of a link are taken. -/
def Dev.takeLanes (d : Dev) (k : Nat) : Dev :=
  d.onCsw fun c => { c with laneIn := (List.range 4).foldl (fun l j => l.set (4 * k + j) none) c.laneIn }

variable (up : d.get F.CSW_LINK_STATUS_UP k = 1)
include up

theorem Dev.linkSuperframe_lost
    (lost : d.laneHolds k 0 = none ∨ d.laneHolds k 1 = none ∨ d.laneHolds k 2 = none ∨ d.laneHolds k 3 = none) :
    d.linkSuperframe k = (d.takeLanes k).dropFrame k := by
  have lanes : (List.range 4).map (fun j => d.csw.laneIn.getD (4 * k + j) none) =
      [d.laneHolds k 0, d.laneHolds k 1, d.laneHolds k 2, d.laneHolds k 3] := rfl
  have goes : ¬(d.get F.CSW_LINK_STATUS_UP k == 0) = true := by simp [up]
  simp only [Dev.linkSuperframe, if_neg goes, lanes]
  split
  next held =>
    simp only [List.cons.injEq, and_true] at held
    obtain ⟨zero, one, two, three⟩ := held
    simp [zero, one, two, three] at lost
  · rfl

section

variable {a b e f : LaneSf} (zero : d.laneHolds k 0 = some a) (one : d.laneHolds k 1 = some b) (two : d.laneHolds k 2 = some e)
  (three : d.laneHolds k 3 = some f) (equal : b.seq = a.seq ∧ e.seq = a.seq ∧ f.seq = a.seq)
  (follows : ∀ q, d.csw.linkSeq.getD k none = some q → serialSub 16 a.seq q = 1)
include zero one two three equal follows

/-- The lanes are taken, and the link's last SEQ with them. -/
def Dev.takeSuperframe (d : Dev) (k seq : Nat) : Dev := (d.takeLanes k).onCsw fun c => { c with linkSeq := c.linkSeq.set k (some seq) }

theorem Dev.linkSuperframe_of : d.linkSuperframe k =
    match d.csw.stream.getD k none with
    | some before => (d.takeSuperframe k a.seq).streamIn k before (a.bytes ++ b.bytes ++ e.bytes ++ f.bytes)
    | none =>
      if a.first < 4000 then (d.takeSuperframe k a.seq).streamIn k [] ((a.bytes ++ b.bytes ++ e.bytes ++ f.bytes).drop a.first)
      else d.takeSuperframe k a.seq := by
  obtain ⟨hb, he, hf⟩ := equal
  have lanes : (List.range 4).map (fun j => d.csw.laneIn.getD (4 * k + j) none) = [some a, some b, some e, some f] := by
    rw [← zero, ← one, ← two, ← three]
    rfl
  have goes : ¬(d.get F.CSW_LINK_STATUS_UP k == 0) = true := by simp [up]
  have whole : ¬(a.seq ≠ b.seq ∨ a.seq ≠ e.seq ∨ a.seq ≠ f.seq) := by simp [hb, he, hf]
  have next : ∀ q, d.csw.linkSeq.getD k none = some q → (serialSub 16 a.seq q == 1) = true := fun q last => beq_iff_eq.mpr (follows q last)
  obtain last | ⟨q, last⟩ := Option.eq_none_or_eq_some (d.csw.linkSeq.getD k none)
  · simp only [Dev.linkSuperframe, if_neg goes, lanes, if_neg whole, Dev.onCsw_csw, last, if_pos] <;> rfl
  · simp only [Dev.linkSuperframe, if_neg goes, lanes, if_neg whole, Dev.onCsw_csw, last, next q last, if_pos] <;> rfl

theorem Dev.linkSuperframe_continues {before : List Byte} (stream : d.csw.stream.getD k none = some before) :
    d.linkSuperframe k = (d.takeSuperframe k a.seq).streamIn k before (a.bytes ++ b.bytes ++ e.bytes ++ f.bytes) := by
  rw [Dev.linkSuperframe_of up zero one two three equal follows, stream]

theorem Dev.linkSuperframe_restarts (stream : d.csw.stream.getD k none = none) (starts : a.first < 4000) :
    d.linkSuperframe k = (d.takeSuperframe k a.seq).streamIn k [] ((a.bytes ++ b.bytes ++ e.bytes ++ f.bytes).drop a.first) := by
  rw [Dev.linkSuperframe_of up zero one two three equal follows, stream]
  exact if_pos starts

end

end

section

variable {n : Nat} {b c e f : Byte} {rest : List Byte}

theorem frames_zero : frames (n + 1) (0#8 :: rest) = frames n rest := if_pos rfl

theorem frames_otherByte (nonzero : b ≠ 0#8) (other : b ≠ 0xD5#8) : frames (n + 1) (b :: rest) = (0, none) :=
  (if_neg nonzero).trans (if_pos other)

theorem frames_delimiter : frames (n + 1) (0xD5#8 :: c :: e :: f :: rest) =
    if crc8 [0xD5#8, c, e] ≠ f.toNat then (0, none)
    else if (c :: e :: f :: rest).length < 3 + beVal [c, e] then (0, some (0xD5#8 :: c :: e :: f :: rest))
    else ((frames n ((c :: e :: f :: rest).drop (3 + beVal [c, e]))).1 + 1, (frames n ((c :: e :: f :: rest).drop (3 + beVal [c, e]))).2) := by
  have one : beVal (slice 2 1 (c :: e :: f :: rest)) = f.toNat := by simp [slice, beVal]
  have long : ¬(c :: e :: f :: rest).length < 3 := by simp
  rw [← one]
  exact (if_neg (by decide)).trans ((if_neg (by decide)).trans (if_neg long))

theorem frames_badDelimiter (bad : crc8 [0xD5#8, c, e] ≠ f.toNat) : frames (n + 1) (0xD5#8 :: c :: e :: f :: rest) = (0, none) := by
  rw [frames_delimiter, if_pos bad]

theorem frames_complete (good : crc8 [0xD5#8, c, e] = f.toNat) (complete : beVal [c, e] ≤ rest.length) :
    frames (n + 1) (0xD5#8 :: c :: e :: f :: rest) = ((frames n (rest.drop (beVal [c, e]))).1 + 1, (frames n (rest.drop (beVal [c, e]))).2) := by
  have whole : ¬(c :: e :: f :: rest).length < 3 + beVal [c, e] := by simp only [List.length_cons]; omega
  have beyond : (c :: e :: f :: rest).drop (3 + beVal [c, e]) = rest.drop (beVal [c, e]) := by simp only [Nat.add_comm 3, List.drop_succ_cons]
  rw [frames_delimiter, if_neg (not_not.mpr good), if_neg whole, beyond]

end

/-! ### Frames, KEEPALIVE, HELLO and TIME (R459–R462) -/

section

variable {d : Dev} {h : CswHead} {cls : Nat} {again : Bool} {use : Dev → Dev}

theorem Dev.frameIn_down (down : d.get F.CSW_LINK_STATUS_UP h.link = 0) : d.frameIn h cls again use = d := if_pos (beq_iff_eq.mpr down)

section

variable (up : d.get F.CSW_LINK_STATUS_UP h.link = 1)
include up

theorem Dev.frameIn_fault {c : Ctr} (fault : (d.frameArrives h.link).frameFault h cls again = some c) :
    d.frameIn h cls again use = (d.frameArrives h.link).bump c := by
  have goes : ¬(d.get F.CSW_LINK_STATUS_UP h.link == 0) = true := by simp [up]
  simp only [Dev.frameIn, if_neg goes, fault]

theorem Dev.frameIn_good (good : (d.frameArrives h.link).frameFault h cls again = none) :
    d.frameIn h cls again use = use ((d.frameArrives h.link).frameUsed h cls) := by
  have goes : ¬(d.get F.CSW_LINK_STATUS_UP h.link == 0) = true := by simp [up]
  simp only [Dev.frameIn, if_neg goes, good]

end

theorem Dev.frameFault_runt (runt : h.length ≤ 63) : d.frameFault h cls again = some C.CSW_FR_RUNT := if_pos runt

theorem Dev.frameFault_oversize (oversize : 1523 ≤ h.length) : d.frameFault h cls again = some C.CSW_FR_OVERSIZE :=
  (if_neg (by omega)).trans (if_pos oversize)

section

variable (long : 63 < h.length) (short : h.length < 1523)
include long short

theorem Dev.frameFault_fcs (bad : h.fcsOk = false) : d.frameFault h cls again = some C.CSW_FR_FCS :=
  (if_neg (Nat.not_le.mpr long)).trans ((if_neg (Nat.not_le.mpr short)).trans (if_pos (by rw [bad]; rfl)))

variable (fcs : h.fcsOk = true)
include fcs

theorem Dev.frameFault_insecure (insecure : d.frameSecure h cls = false) : d.frameFault h cls again = some C.CSW_FR_MACSEC := by
  simp only [Dev.frameFault, if_neg (Nat.not_le.mpr long), ge_iff_le, if_neg (Nat.not_le.mpr short), fcs, insecure, Bool.not_true,
    Bool.not_false, if_neg Bool.false_ne_true, if_pos]

theorem Dev.frameFault_secure (secure : d.frameSecure h cls = true) :
    d.frameFault h cls again = if again then some C.CSW_FR_DUP else none := by
  simp only [Dev.frameFault, if_neg (Nat.not_le.mpr long), ge_iff_le, if_neg (Nat.not_le.mpr short), fcs, secure, Bool.not_true,
    if_neg Bool.false_ne_true]

end

/-- A second copy is never used. -/
theorem Dev.frameFault_again : d.frameFault h cls true ≠ none := by
  simp only [Dev.frameFault, if_pos]
  split_ifs <;> exact Option.some_ne_none _

section

variable {k : CswKeep} (up : d.get F.CSW_LINK_STATUS_UP h.link = 1) (sound : d.frameFault h 0 false = none)
include up sound

theorem Dev.keepaliveIn_of : d.keepaliveIn h k =
    if d.frameAgain h 0 then (d.frameIn h 0 (d.frameAgain h 0) id).linkAlive h.link
    else ((d.frameIn h 0 (d.frameAgain h 0) id).linkAlive h.link).peerSays k := by
  have goes : ¬(!((d.frameFault h 0 false).isNone && d.get F.CSW_LINK_STATUS_UP h.link == 1)) = true := by simp [up, sound]
  simp only [Dev.keepaliveIn, if_neg goes]
  rfl

theorem Dev.keepaliveIn_first {e : Dev} (uses : d.FrameUses h 0 e) : d.keepaliveIn h k = (e.linkAlive h.link).peerSays k := by
  obtain ⟨_, good, rfl⟩ := uses
  have new : d.frameAgain h 0 = false := Bool.eq_false_iff.mpr fun again => Dev.frameFault_again (again ▸ good)
  rw [Dev.keepaliveIn_of up sound, Dev.frameIn_good up good, new, if_neg Bool.false_ne_true]
  rfl

theorem Dev.keepaliveIn_again (again : d.frameAgain h 0 = true) (dup : (d.frameArrives h.link).frameFault h 0 true = some C.CSW_FR_DUP) :
    d.keepaliveIn h k = ((d.frameArrives h.link).bump C.CSW_FR_DUP).linkAlive h.link := by
  rw [Dev.keepaliveIn_of up sound, again, if_pos rfl, Dev.frameIn_fault up dup]

end

theorem Dev.helloIn_new {salt : List Byte} (up : d.get F.CSW_LINK_STATUS_UP h.link = 1)
    (good : (d.frameArrives h.link).frameFault h 9 false = none) (new : d.csw.peerSalt ≠ salt) :
    d.helloIn h salt = ((d.frameArrives h.link).frameUsed h 9).onCsw fun c => { c with
      peerSalt := salt, rxN := 0, rxSak := c.sak salt 0, rxSakNext := c.sak salt 1, rxSeq := (List.replicate 10 0).set 9 h.cseq.toNat
      applied := [], cutKnown := true } := by
  rw [Dev.helloIn, beq_eq_false_iff_ne.mpr new, Dev.frameIn_good up good]

/-- Link delay and offset from the four stamps, and the partner's reference. -/
def Dev.measureTime (d : Dev) (x : TimeIn) : Dev :=
  let out : Int := (x.t2 : Int) - x.t1
  let back : Int := (x.t4 : Int) - x.t3
  let off := ofSigned 64 ((out - back) / 2)
  ((((d.set F.CSW_LINK_DELAY_DELAY 0 (ofSigned 32 ((out + back) / 2))).set F.CSW_TIME_OFFSET_LO_OFFSET 0 off).set
    F.CSW_TIME_OFFSET_HI_OFFSET 0 (off / 2 ^ 32)).hset H.refPeerLoop 0 x.loop).hset H.refPeerSel 0 x.selected

theorem Dev.timeIn_of (d : Dev) (x : TimeIn) : d.timeIn x = (d.measureTime x).onCsw fun c => { c with
    offsetSince := if (d.measureTime x).role = 1 ∧ 200 * 65536 < (d.measureTime x).timeOffset.natAbs then
      some (c.offsetSince.getD (d.measureTime x).clock.core) else none } := by
  simp only [Dev.timeIn, Bool.and_eq_true, beq_iff_eq, decide_eq_true_eq, gt_iff_lt]
  rfl

theorem Dev.controlIn_request {bs : List Byte} (request : bit (beVal (slice 1 1 bs)) 0 = false) : d.controlIn bs = d.receive 3 0 bs :=
  if_neg (Bool.eq_false_iff.mp request)

theorem Dev.controlIn_response {bs : List Byte} (response : bit (beVal (slice 1 1 bs)) 0 = true) (port : d.portUp 3 = true) :
    d.controlIn bs = d.peerAnswers bs :=
  (if_pos response).trans (if_pos port)

end

/-- Settles O52: a superframe by its lanes, the stream by its bytes, a frame by its checks, a KEEPALIVE by its copy. -/
theorem causewayFramesAct : Obligations.CausewayFramesAct := by
  refine ⟨fun k s => ?superframe,
    fun n b c e f rest => ⟨rfl, frames_zero, frames_otherByte, frames_badDelimiter, frames_complete⟩,
    fun d h cls again use => ⟨Dev.frameIn_down, fun up c => Dev.frameIn_fault up⟩,
    fun d h cls again => ⟨Dev.frameFault_runt, Dev.frameFault_oversize, fun long short =>
      ⟨Dev.frameFault_fcs long short, Dev.frameFault_insecure long short, Dev.frameFault_secure long short⟩⟩,
    fun h k s up sound => ⟨fun e uses => congrArg s.becomes (Dev.keepaliveIn_first up sound uses),
      fun again dup => congrArg s.becomes (Dev.keepaliveIn_again up sound again dup)⟩,
    fun h salt s up good new => congrArg s.becomes (Dev.helloIn_new up good new), fun h x s e uses => ?time,
    fun s => rfl, fun s => rfl, fun k s => rfl, fun h bs s e uses => ?control⟩
  case superframe =>
    intro d lane up
    refine ⟨fun lost => congrArg s.becomes (Dev.linkSuperframe_lost up lost), ?_⟩
    intro a b e f zero one two three hb he hf follows x bytes
    exact ⟨fun before stream =>
        congrArg s.becomes (Dev.linkSuperframe_continues up zero one two three ⟨hb, he, hf⟩ follows stream),
      fun stream starts => congrArg s.becomes (Dev.linkSuperframe_restarts up zero one two three ⟨hb, he, hf⟩ follows stream starts)⟩
  case time =>
    rw [exec_time, Dev.classIn_of uses, Dev.timeIn_of]
    rfl
  case control =>
    rw [exec_control, Dev.classIn_of uses]
    exact ⟨fun request => congrArg s.becomes (Dev.controlIn_request request),
      fun response port => congrArg s.becomes (Dev.controlIn_response response port)⟩

end Sys2Proof.Machine
end

/-! ## Live items, checkpoints and markers (R464–R468, R473) -/

section

namespace Sys2Proof.Machine

section

variable {d : Dev}

/-- The seat mirrors: it is STANDBY or SYNCING (R454). -/
def Dev.mirrors (d : Dev) : Prop := d.role = 1 ∨ d.role = 2

theorem Dev.mirrors_guard (mirrors : d.mirrors) : ¬(d.role != 1 && d.role != 2) = true := by
  rcases mirrors with standby | syncing
  · simp [standby]
  · simp [syncing]

theorem Dev.idle_guard (notStandby : d.role ≠ 1) (notSyncing : d.role ≠ 2) : (d.role != 1 && d.role != 2) = true := by
  simp [notStandby, notSyncing]

end

/-! ### Live items (R464, R468) -/

section

variable {d : Dev} {q : Nat} {gap : Bool} {x : LiveItem}

/-- A live item is counted, applied, counted as applied or late, and remembered. -/
def Dev.noteItem (d : Dev) (q : Nat) (x : LiveItem) : Dev :=
  let r := (d.bump C.CSW_LIVE_RX).applyItem q x
  (r.1.bump (if r.2 then C.CSW_LIVE_LATE else C.CSW_LIVE_APPLIED)).onCsw fun c => { c with applied := c.applied ++ [(q, x)] }

theorem Dev.liveIn_idle (notStandby : d.role ≠ 1) (notSyncing : d.role ≠ 2) : d.liveIn q gap x = d :=
  if_pos (Dev.idle_guard notStandby notSyncing)

theorem Dev.liveIn_of (mirrors : d.mirrors) :
    d.liveIn q gap x = if gap then (d.noteItem q x).liveGap else d.noteItem q x := by
  simp only [Dev.liveIn, if_neg (Dev.mirrors_guard mirrors), Dev.noteItem]

theorem Dev.liveGap_of (d : Dev) : d.liveGap = if d.role = 1 then d.enterRole 2 7 else d.startRole 2 := by
  simp only [Dev.liveGap, beq_iff_eq]

/-- The gap of a CSEQ as the model tests it. -/
theorem Dev.liveIn_serial (mirrors : d.mirrors) (step : Nat) : d.liveIn q (step != 1) x =
    if step = 1 then d.noteItem q x
    else if (d.noteItem q x).role = 1 then (d.noteItem q x).enterRole 2 7 else (d.noteItem q x).startRole 2 := by
  rw [Dev.liveIn_of mirrors]
  by_cases next : step = 1
  · rw [if_pos next, next, if_neg (by decide)]
  · rw [if_neg next, if_pos (bne_iff_ne.mpr next), Dev.liveGap_of]

end

/-! ### Checkpoints (R466) -/

section

variable {d : Dev} {epoch : Nat} {gap : Bool} {bs : List Byte} {content : Option Checkpoint}

theorem Dev.checkpointIn_idle (notStandby : d.role ≠ 1) (notSyncing : d.role ≠ 2) : d.checkpointIn epoch gap bs content = d :=
  if_pos (Dev.idle_guard notStandby notSyncing)

/-- An epoch begins with a checkpoint's first frame. -/
def Dev.beginEpoch (d : Dev) (epoch : Nat) (bs : List Byte) (content : Option Checkpoint) : Dev :=
  (d.bump C.CSW_EPOCHS_BEGUN).onCsw fun c => { c with
    receiving := some ⟨epoch, bs.foldl (crcByte 0x82F63B78) 0xFFFFFFFF, content, true⟩ }

section

variable (mirrors : d.mirrors)
include mirrors

theorem Dev.checkpointIn_first (none_ : d.csw.receiving = none) :
    d.checkpointIn epoch gap bs content = d.beginEpoch epoch bs content := by
  simp only [Dev.checkpointIn, if_neg (Dev.mirrors_guard mirrors), none_]
  cases content with
  | none => rfl
  | some c => rfl

theorem Dev.checkpointIn_other {x : EpochRx} (receives : d.csw.receiving = some x) (other : x.epoch ≠ epoch) :
    d.checkpointIn epoch gap bs content = (d.epochFails x 1 false).beginEpoch epoch bs content := by
  simp only [Dev.checkpointIn, if_neg (Dev.mirrors_guard mirrors), receives, if_neg other]
  cases content with
  | none => rfl
  | some c => rfl

theorem Dev.checkpointIn_more {x : EpochRx} (receives : d.csw.receiving = some x) (same : x.epoch = epoch) :
    d.checkpointIn epoch gap bs content = d.onCsw fun c => { c with receiving := some { x with
      crc := bs.foldl (crcByte 0x82F63B78) x.crc, content := content.orElse (fun _ => x.content), whole := x.whole && !gap } } := by
  simp only [Dev.checkpointIn, if_neg (Dev.mirrors_guard mirrors), receives, if_pos same]

end

end

/-! ### Markers (R467) -/

section

variable {d : Dev} {epoch crc : Nat}

theorem Dev.markerIn_idle (notStandby : d.role ≠ 1) (notSyncing : d.role ≠ 2) : d.markerIn epoch crc = d :=
  if_pos (Dev.idle_guard notStandby notSyncing)

/-- A marker's time is kept. -/
def Dev.noteMarker (d : Dev) : Dev := d.onCsw fun c => { c with markerAt := d.clock.core }

/-- A marker without its checkpoint. -/
def Dev.lostEpoch (d : Dev) (epoch : Nat) : Dev := (d.bump C.CSW_EPOCHS_BEGUN).epochFails ⟨epoch, 0, none, false⟩ 4 false

section

variable (mirrors : d.mirrors)
include mirrors

theorem Dev.markerIn_none (none_ : d.csw.receiving = none) : d.markerIn epoch crc = d.noteMarker.lostEpoch epoch := by
  simp only [Dev.markerIn, if_neg (Dev.mirrors_guard mirrors), Dev.onCsw_csw, none_]
  rfl

theorem Dev.markerIn_other {x : EpochRx} (receives : d.csw.receiving = some x) (other : x.epoch ≠ epoch) :
    d.markerIn epoch crc = (d.noteMarker.epochFails x 1 false).lostEpoch epoch := by
  simp only [Dev.markerIn, if_neg (Dev.mirrors_guard mirrors), Dev.onCsw_csw, receives, if_neg other]
  rfl

theorem Dev.markerIn_same {x : EpochRx} (receives : d.csw.receiving = some x) (same : x.epoch = epoch) :
    d.markerIn epoch crc = d.noteMarker.judgeEpoch x crc := by
  simp only [Dev.markerIn, if_neg (Dev.mirrors_guard mirrors), Dev.onCsw_csw, receives, if_pos same]
  rfl

end

section

variable {x : EpochRx}

theorem Dev.judgeEpoch_noContent (none_ : x.content = none) : d.judgeEpoch x crc = d.epochFails x 4 false := by
  simp only [Dev.judgeEpoch, none_]

variable {c : Checkpoint} (content : x.content = some c)
include content

/-- The marker came after half-frame + 100 µs. -/
def Dev.markerLate (d : Dev) : Prop := d.running = true ∧ d.markerLimit < d.clock.core

theorem Dev.judgeEpoch_late (late : d.markerLate) : d.judgeEpoch x crc = d.epochFails x 1 false := by
  obtain ⟨runs, after⟩ := late
  simp only [Dev.judgeEpoch, content, runs, decide_eq_true after, Bool.and_self, if_pos]

variable (inTime : ¬d.markerLate)
include inTime

theorem Dev.judgeEpoch_inTime : d.judgeEpoch x crc =
    if !x.whole then d.epochFails x 4 false
    else if x.crc ^^^ 0xFFFFFFFF ≠ crc then d.epochFails x 2 false
    else if !serialGe 32 (d.csw.rxSeq.getD 2 0) c.cut then d.epochFails x 3 false
    else if d.csw.cutKnown && d.csw.appliedCrc c.cut != c.crc then d.epochFails x 3 true
    else d.commitEpoch c := by
  have early : ¬(d.running && decide (d.markerLimit < d.clock.core)) = true := by simpa [Dev.markerLate] using inTime
  simp only [Dev.judgeEpoch, content, if_neg early]

theorem Dev.judgeEpoch_broken (broken : x.whole = false) : d.judgeEpoch x crc = d.epochFails x 4 false := by
  rw [Dev.judgeEpoch_inTime content inTime, broken, if_pos Bool.not_false]

variable (whole : x.whole = true)
include whole

theorem Dev.judgeEpoch_badCrc (bad : x.crc ^^^ 0xFFFFFFFF ≠ crc) : d.judgeEpoch x crc = d.epochFails x 2 false := by
  rw [Dev.judgeEpoch_inTime content inTime, whole, Bool.not_true, if_neg Bool.false_ne_true, if_pos bad]

variable (good : x.crc ^^^ 0xFFFFFFFF = crc)
include good

theorem Dev.judgeEpoch_behind (behind : serialGe 32 (d.csw.rxSeq.getD 2 0) c.cut = false) :
    d.judgeEpoch x crc = d.epochFails x 3 false := by
  rw [Dev.judgeEpoch_inTime content inTime, whole, Bool.not_true, if_neg Bool.false_ne_true, if_neg (not_not.mpr good), behind,
    if_pos Bool.not_false]

variable (level : ¬serialGe 32 (d.csw.rxSeq.getD 2 0) c.cut = false)
include level

theorem Dev.judgeEpoch_level : d.judgeEpoch x crc =
    if d.csw.cutKnown && d.csw.appliedCrc c.cut != c.crc then d.epochFails x 3 true else d.commitEpoch c := by
  rw [Dev.judgeEpoch_inTime content inTime, whole, Bool.not_true, if_neg Bool.false_ne_true, if_neg (not_not.mpr good),
    Bool.of_not_eq_false level, Bool.not_true, if_neg Bool.false_ne_true]

/-- The live items that were applied up to a cut are not those that were sent. -/
def Dev.itemsDiffer (d : Dev) (c : Checkpoint) : Prop := d.csw.cutKnown = true ∧ d.csw.appliedCrc c.cut ≠ c.crc

theorem Dev.judgeEpoch_differs (differs : d.itemsDiffer c) : d.judgeEpoch x crc = d.epochFails x 3 true := by
  obtain ⟨known, other⟩ := differs
  rw [Dev.judgeEpoch_level content inTime whole good level, if_pos (by simp [known, other])]

theorem Dev.judgeEpoch_commits (equal : ¬d.itemsDiffer c) : d.judgeEpoch x crc = d.commitEpoch c := by
  rw [Dev.judgeEpoch_level content inTime whole good level, if_neg (by simpa [Dev.itemsDiffer] using equal)]

end

theorem Dev.markerDeadline_none (none_ : d.csw.receiving = none) : d.markerDeadline = d := by
  simp only [Dev.markerDeadline, none_]

theorem Dev.markerDeadline_of {x : EpochRx} (receives : d.csw.receiving = some x) :
    d.markerDeadline = (if d.running then d.passToCore d.markerLimit else d).epochFails x 1 false := by
  simp only [Dev.markerDeadline, receives]

end

/-! ### No marker (R473) -/

section

variable {d : Dev} {cause : Nat}

theorem Dev.lathLoss_idle (h : d.role ≠ 1 ∨ d.get F.CSW_ROLE_TAKEOVER_OK = 0 ∨ d.causewayUp = false) : d.lathLoss = d := by
  rcases h with other | barred | down
  · exact if_pos (by simp [other])
  · exact if_pos (by simp [barred])
  · exact if_pos (by simp [down])

theorem Dev.askYieldOnce_again (asked : d.csw.yieldAsked = true) : d.askYieldOnce cause = d := if_neg (by simp [asked])

variable (standby : d.role = 1) (ready : d.get F.CSW_ROLE_TAKEOVER_OK = 1) (up : d.causewayUp = true)
include standby ready up

theorem Dev.lathLoss_of : d.lathLoss =
    (d.passToCore (d.csw.markerAt + 1000000 * d.get F.CSW_TIMING_LATH_LOSS_MS)).askYieldOnce 1 :=
  if_neg (by simp [standby, ready, up])

theorem Dev.askYieldOnce_first (first : d.csw.yieldAsked = false) :
    d.askYieldOnce cause = (d.onCsw fun c => { c with yieldAsked := true }).askYield cause :=
  if_pos (by simp [standby, ready, up, first])

end

/-- Settles O53: an item by its CSEQ, a checkpoint and a marker by the epoch in reception, a marker by the checks of R467. -/
theorem mirroringActs : Obligations.MirroringActs := by
  refine ⟨fun h x s e uses => ?live, fun h epoch bs content s e uses => ?checkpoint, fun h epoch crc s e uses => ?marker,
    fun d x crc => ⟨Dev.judgeEpoch_noContent, fun c content => ?judge⟩,
    fun s => ⟨fun none_ => congrArg s.becomes (Dev.markerDeadline_none none_),
      fun x receives => congrArg s.becomes (Dev.markerDeadline_of receives)⟩, fun d epoch cause => rfl,
    fun s => ⟨fun standby ready up => congrArg s.becomes (Dev.lathLoss_of standby ready up),
      fun h => congrArg s.becomes (Dev.lathLoss_idle h)⟩,
    fun d cause standby ready up => ⟨Dev.askYieldOnce_first standby ready up, Dev.askYieldOnce_again⟩⟩
  case live =>
    rw [exec_live, Dev.classIn_of uses]
    exact ⟨fun notStandby notSyncing => congrArg s.becomes (Dev.liveIn_idle notStandby notSyncing),
      fun mirrors => congrArg s.becomes (Dev.liveIn_serial mirrors _)⟩
  case checkpoint =>
    rw [exec_checkpoint, Dev.classIn_of uses]
    refine ⟨fun notStandby notSyncing => congrArg s.becomes (Dev.checkpointIn_idle notStandby notSyncing), fun mirrors => ⟨fun none_ =>
        congrArg s.becomes (Dev.checkpointIn_first mirrors none_), fun x receives other =>
        congrArg s.becomes (Dev.checkpointIn_other mirrors receives other), fun x receives same => ?_⟩⟩
    rw [Dev.checkpointIn_more mirrors receives same, decide_not]
    rfl
  case marker =>
    rw [exec_marker, Dev.classIn_of uses]
    exact ⟨fun notStandby notSyncing => congrArg s.becomes (Dev.markerIn_idle notStandby notSyncing), fun mirrors => ⟨fun none_ =>
        congrArg s.becomes (Dev.markerIn_none mirrors none_), fun x receives other =>
        congrArg s.becomes (Dev.markerIn_other mirrors receives other), fun x receives same =>
        congrArg s.becomes (Dev.markerIn_same mirrors receives same)⟩⟩
  case judge => exact ⟨Dev.judgeEpoch_late content, Dev.judgeEpoch_broken content, Dev.judgeEpoch_badCrc content,
    Dev.judgeEpoch_behind content, Dev.judgeEpoch_differs content, Dev.judgeEpoch_commits content⟩

end Sys2Proof.Machine
end

/-! ## Seals and the blame check (R470–R472) -/

section

namespace Sys2Proof.Machine

/-! ### Seals (R470) -/

section

variable {d : Dev} {i frame line value : Nat}

theorem Dev.sealsIn_other (other : d.role ≠ 1) (first : Nat) (seals : List Word) : d.sealsIn i frame first seals = d :=
  if_pos (bne_iff_ne.mpr other)

theorem Dev.sealsIn_standby (standby : d.role = 1) (first : Nat) (seals : List Word) : d.sealsIn i frame first seals =
    d.each seals.zipIdx fun d x => d.sealIn i frame (first + x.2) x.1.toNat :=
  if_neg (by simp [standby])

/-- This seat's own seal of a line. -/
def Dev.ownSeal (d : Dev) (i frame line : Nat) : Option OwnSeal :=
  d.csw.seals.find? fun o => o.dest == i && o.frame == frame && o.line == line

theorem Dev.sealIn_none (none_ : d.ownSeal i frame line = none) :
    d.sealIn i frame line value = (d.bump C.CSW_SEAL_RX).bump C.CSW_SEAL_UNCMP := by
  unfold Dev.ownSeal at none_
  simp only [Dev.sealIn, Dev.bump_csw, none_]

theorem Dev.sealIn_old (old : frame + 2 < d.tick.frame) :
    d.sealIn i frame line value = (d.bump C.CSW_SEAL_RX).bump C.CSW_SEAL_UNCMP := by
  simp only [Dev.sealIn, Dev.bump_tick, gt_iff_lt, if_pos old]
  split <;> rfl

section

variable {o : OwnSeal} (own : d.ownSeal i frame line = some o) (recent : d.tick.frame ≤ frame + 2)
include own recent

/-- A seal is received and compared. -/
def Dev.compareSeal (d : Dev) : Dev := (d.bump C.CSW_SEAL_RX).onCsw fun c => { c with compared := c.compared + 1 }

theorem Dev.sealIn_match (same : o.value = value) : d.sealIn i frame line value = d.compareSeal.bump C.CSW_SEAL_MATCH := by
  unfold Dev.ownSeal at own
  simp only [Dev.sealIn, Dev.bump_csw, own, Dev.bump_tick, gt_iff_lt, if_neg (Nat.not_lt.mpr recent), if_pos same]
  rfl

theorem Dev.sealIn_mismatch (differs : o.value ≠ value) :
    d.sealIn i frame line value = (d.compareSeal.bump C.CSW_SEAL_MISMATCH).sealMismatch i frame line := by
  unfold Dev.ownSeal at own
  simp only [Dev.sealIn, Dev.bump_csw, own, Dev.bump_tick, gt_iff_lt, if_neg (Nat.not_lt.mpr recent), if_neg differs]
  rfl

end

section

variable {v : Divergence}

/-- A destination's divergence with one more mismatch. -/
def Divergence.next (v : Divergence) (i frame line : Nat) : Divergence :=
  if v.frame = frame then { v with count := v.count + 1 }
  else ⟨i, frame, 1, line, if v.frame + 1 = frame then v.run + 1 else 1⟩

/-- A destination's divergence is noted in place of the one before. -/
def Dev.noteMismatch (d : Dev) (i : Nat) (w : Divergence) : Dev :=
  d.onCsw fun c => { c with mismatchInFrame := true, diverging := w :: c.diverging.filter fun x => x.dest != i }

variable (known : d.csw.diverging.find? (fun v => v.dest == i) = some v)
include known

theorem Dev.sealMismatch_of : d.sealMismatch i frame line =
    if ((v.next i frame line).count ≥ d.get F.CSW_TIMING_DIVERGE_LINES || (v.next i frame line).run ≥ 3) && !d.divergent i then
      (d.noteMismatch i (v.next i frame line)).diverges (v.next i frame line)
    else d.noteMismatch i (v.next i frame line) := by
  simp only [Dev.sealMismatch, known]
  rfl

theorem Dev.sealMismatch_diverges (many : d.get F.CSW_TIMING_DIVERGE_LINES ≤ (v.next i frame line).count ∨ 3 ≤ (v.next i frame line).run)
    (new : d.divergent i = false) :
    d.sealMismatch i frame line = (d.noteMismatch i (v.next i frame line)).diverges (v.next i frame line) :=
  (Dev.sealMismatch_of known).trans (if_pos (by simpa [new] using many))

theorem Dev.sealMismatch_notes (few : (v.next i frame line).count < d.get F.CSW_TIMING_DIVERGE_LINES ∧ (v.next i frame line).run < 3 ∨
    d.divergent i = true) : d.sealMismatch i frame line = d.noteMismatch i (v.next i frame line) := by
  refine (Dev.sealMismatch_of known).trans (if_neg ?_)
  rcases few with few | already
  · obtain ⟨count, run⟩ := few
    simp [count, run]
  · simp [already]

end

end

/-! ### The blame check (R471, R472) -/

section

variable {d : Dev} {i slot : Nat} {agree : Bool} {seals : List Nat} {b : Blame}

theorem Dev.blameIn_begins (none_ : d.csw.blame = none) (active : d.role = 0) (agrees : agree = true) (empty : seals = []) :
    d.blameIn i slot agree seals = d.beginBlame i slot := by
  simp only [Dev.blameIn, none_, Option.any_none, active, agrees, empty, List.isEmpty_nil, beq_self_eq_true, Bool.not_false,
    Bool.and_self, if_pos]

theorem Dev.blameIn_results (checks : d.csw.blame = some b) (dest : b.dest = i) (same : b.slot = slot) (results : agree = false ∨ seals ≠ []) :
    d.blameIn i slot agree seals = (d.onCsw fun c => { c with blame := some { b with peer := some (agree, seals) } }).blameCheck := by
  have goes : ¬(agree && seals.isEmpty) = true := by
    rcases results with disagrees | some_
    · simp [disagrees]
    · simp [some_]
  simp only [Dev.blameIn, checks, Option.any_some, dest, same, beq_self_eq_true, Bool.and_self, Bool.not_true, Bool.and_false,
    if_neg Bool.false_ne_true, if_neg goes, and_self, if_pos]

theorem Dev.blameTimeout_none (none_ : d.csw.blame = none) : d.blameTimeout = d := by simp only [Dev.blameTimeout, none_]

theorem Dev.blameTimeout_early (checks : d.csw.blame = some b) (early : d.tick.frame < b.began + 8) : d.blameTimeout = d := by
  simp only [Dev.blameTimeout, checks, if_neg (Nat.not_le.mpr early)]

theorem Dev.blameTimeout_ends (checks : d.csw.blame = some b) (due : b.began + 8 ≤ d.tick.frame) : d.blameTimeout = d.blameVerdict b := by
  simp only [Dev.blameTimeout, checks, if_pos due]

/-- The verdict is stored and raised, and the check has ended. -/
def Dev.reportVerdict (d : Dev) (b : Blame) : Dev :=
  (((d.set F.CSW_BLAME_VERDICT 0 (d.verdict b)).set F.CSW_BLAME_BUSY 0 0).onCsw fun c => { c with blame := none }).raise 836
    [b.dest, d.verdict b]

theorem Dev.concludeBlame_of (d : Dev) (b : Blame) :
    d.concludeBlame b = if (d.reportVerdict b).role = 1 then (d.reportVerdict b).blameOutcome b.dest (d.verdict b) else d.reportVerdict b := by
  by_cases standby : (d.reportVerdict b).role = 1
  · exact (if_neg (mt bne_iff_ne.mp (not_not.mpr standby))).trans (if_pos standby).symm
  · exact (if_pos (bne_iff_ne.mpr standby)).trans (if_neg standby).symm

theorem Dev.blameOutcome_yields (auto : d.get F.CSW_CFG_AUTO_TAKEOVER = 1) (ready : d.get F.CSW_ROLE_TAKEOVER_OK = 1) :
    d.blameOutcome i 1 = d.askYield 0 :=
  if_pos (by simp [auto, ready])

end

/-- The verdicts of R472 on a slot with an ingest, each by the results that give it. -/
theorem verdictOf_iff (a b same fresh : Bool) :
    (verdictOf a b same true fresh = 1 ↔ a = false ∧ b = true) ∧ (verdictOf a b same true fresh = 2 ↔ a = true ∧ b = false) ∧
    (verdictOf a b same true fresh = 3 ↔ a = false ∧ b = false) ∧ (verdictOf a b same true fresh = 4 ↔ a = true ∧ b = true ∧ same = false) ∧
    (verdictOf a b same true fresh = 5 ↔ a = true ∧ b = true ∧ same = true ∧ fresh = false) ∧
    (verdictOf a b same true fresh = 6 ↔ a = true ∧ b = true ∧ same = true ∧ fresh = true) := by
  revert a b same fresh
  decide

theorem Dev.blameStatus_of {d e : Dev} {q : Req} {ts : List Tlv} (h : d.Accepts q blameStatusSpec ts e) :
    d.blameStatus q = e.reply q 0x0704 St.ok
      [data (w4 (e.wordAt 0xF000A0) :: (List.range 48).map fun w => w4 (e.get F.CSW_DIVERGE_DIVERGENT w))] :=
  Dev.command_of h _

/-- Settles O54: a seal by this seat's own, a mismatch by its destination's divergence, a blame check by its results and its time. -/
theorem sealsAndBlameAct : Obligations.SealsAndBlameAct := by
  refine ⟨fun h i frame first seals s e uses => ?seals, fun d i frame line value => ⟨fun uncompared => ?uncompared,
      fun o own recent => ⟨Dev.sealIn_match own recent, Dev.sealIn_mismatch own recent⟩⟩,
    fun d v i frame line known => ⟨Dev.sealMismatch_diverges known, Dev.sealMismatch_notes known⟩,
    fun h i slot agree seals s e uses => ?blame,
    fun s => ⟨fun none_ => congrArg s.becomes (Dev.blameTimeout_none none_),
      fun b checks early => congrArg s.becomes (Dev.blameTimeout_early checks early),
      fun b checks due => congrArg s.becomes (Dev.blameTimeout_ends checks due)⟩,
    Dev.concludeBlame_of, verdictOf_iff, fun d i => ⟨Dev.blameOutcome_yields, rfl, rfl, rfl, rfl, rfl⟩,
    fun q s ts e h => congrArg s.becomes (Dev.blameStatus_of h)⟩
  case seals =>
    rw [exec_sealRx, Dev.classIn_of uses]
    exact ⟨fun other => congrArg s.becomes (Dev.sealsIn_other other _ _),
      fun standby => congrArg s.becomes (Dev.sealsIn_standby standby _ _)⟩
  case uncompared =>
    rcases uncompared with none_ | old
    · exact Dev.sealIn_none none_
    · exact Dev.sealIn_old old
  case blame =>
    rw [exec_blame, Dev.classIn_of uses]
    exact ⟨fun none_ active agrees empty => congrArg s.becomes (Dev.blameIn_begins none_ active agrees empty),
      fun b checks dest same results => congrArg s.becomes (Dev.blameIn_results checks dest same results)⟩

end Sys2Proof.Machine
end

/-! ## The commands of the twins (R455, R475, R476, R479, R484) -/

section

namespace Sys2Proof.Machine

/-! ### ROLE_STATUS (R455, R479) -/

section

variable {d e : Dev} {q : Req} {ts : List Tlv}

/-- The request sets a veto that its port or the role does not permit. -/
def Dev.badVeto (d : Dev) (q : Req) (ts : List Tlv) : Prop := hasTlv ts 0x0101 = true ∧ ((q.port ≠ 1 ∧ q.port ≠ 2) ∨ d.role = 0)

/-- The request asks for a role change that the role does not permit. -/
def Dev.badRequest (d : Dev) (ts : List Tlv) : Prop :=
  (tlvNum ts 0x0102 = 1 ∧ d.role = 0) ∨ (tlvNum ts 0x0102 = 2 ∧ d.role ≠ 4)

theorem Dev.badVeto_iff : (hasTlv ts 0x0101 && (!(q.port == 1 || q.port == 2) || d.role == 0)) = true ↔ d.badVeto q ts := by
  simp [Dev.badVeto]

theorem Dev.roleStatus_badVeto (h : d.Accepts q roleStatusSpec ts e) (bad : e.badVeto q ts) :
    d.roleStatus q = e.reply q 0x0701 St.badParam [statusDetail (tlvIndex ts 0x0101) 0xFF 0x72] :=
  (Dev.command_of h _).trans (if_pos (Dev.badVeto_iff.mpr bad))

theorem Dev.roleStatus_badRequest (h : d.Accepts q roleStatusSpec ts e) (good : ¬e.badVeto q ts) (bad : e.badRequest ts) :
    d.roleStatus q = e.reply q 0x0701 St.badParam [statusDetail (tlvIndex ts 0x0102) 0xFF 0x71] :=
  (Dev.command_of h _).trans ((if_neg (mt Dev.badVeto_iff.mp good)).trans (if_pos bad))

theorem Dev.roleStatus_of (h : d.Accepts q roleStatusSpec ts e) (good : ¬e.badVeto q ts) (permitted : ¬e.badRequest ts) :
    let c := (if hasTlv ts 0x0101 then e.setVeto (tlvNum ts 0x0101) else e).roleRequest (tlvNum ts 0x0102)
    d.roleStatus q = c.reply q 0x0701 St.ok [c.roleData] :=
  (Dev.command_of h _).trans ((if_neg (mt Dev.badVeto_iff.mp good)).trans (if_neg permitted))

end

section

variable {d : Dev}

theorem Dev.setVeto_of (d : Dev) (ms : Nat) : d.setVeto ms =
    (d.set F.CSW_ROLE_VETO 0 (if ms = 0 then 0 else 1)).onCsw fun c => { c with
      vetoEnd := if ms = 0 then none else some (d.clock.core + 1000000 * ms) } := by
  have bit : ofBool (ms != 0) = if ms = 0 then 0 else 1 := by
    by_cases ends : ms = 0
    · simp [ends, ofBool]
    · simp [ends, ofBool]
  rw [Dev.setVeto, bit]

theorem Dev.roleRequest_standby_down (down : d.causewayUp = false) : d.roleRequest 2 = d.enterRole 3 6 :=
  (if_neg (by decide)).trans ((if_pos rfl).trans (if_neg (by simp [down])))

theorem Dev.roleRequest_standby {k : CswKeep} (up : d.causewayUp = true) (peer : d.csw.peer = some k) (active : k.role = 0) :
    d.roleRequest 2 = (d.enterRole 2 6).claimIfSilent :=
  (if_neg (by decide)).trans ((if_pos rfl).trans (if_pos (by simp [up, peer, active])))

theorem Dev.peerReady_iff : d.peerReady = true ↔ d.causewayUp = true ∧ ∃ k, d.csw.peer = some k ∧ k.role = 1 ∧ k.takeoverOk = true := by
  have role (k : CswKeep) : k.role.val = 1 ↔ k.role = 1 := by rw [Fin.ext_iff]; rfl
  simp [Dev.peerReady, Option.any_eq_true, role]

end

/-! ### The other commands -/

section

variable {d e : Dev} {q : Req} {ts : List Tlv}

/-- The frame that a SWITCHOVER names, or the next one. -/
def Dev.switchTarget (d : Dev) (ts : List Tlv) : Nat := if frameTlv ts = 0 then d.tick.frame + 1 else frameTlv ts

theorem Dev.switchover_notReady (h : d.Accepts q switchoverSpec ts e) (lacks : e.peerReady = false) :
    d.switchover q = e.reply q 0x0702 St.badParam [statusDetail 0xFFFF 0xFF 0x70] :=
  (Dev.command_of h _).trans (if_pos (by simp [lacks]))

theorem Dev.switchover_past (h : d.Accepts q switchoverSpec ts e) (ready : e.peerReady = true) (past : e.switchTarget ts ≤ e.tick.frame) :
    d.switchover q = e.reply q 0x0702 St.badParam [statusDetail (tlvIndex ts 0x0001) 0xFF 0] :=
  (Dev.command_of h _).trans ((if_neg (by simp [ready])).trans (if_pos past))

theorem Dev.switchover_waits (h : d.Accepts q switchoverSpec ts e) (ready : e.peerReady = true) (ahead : e.tick.frame < e.switchTarget ts)
    (first : e.csw.switchover = none) :
    d.switchover q = (e.onCsw fun c => { c with switchover := some (e.switchTarget ts, q.port, q.src, q.tag) }).respond q.port q.src q.tag
      0x0702 St.pending [] false := by
  refine (Dev.command_of h _).trans ((if_neg (by simp [ready])).trans ((if_neg (Nat.not_le.mpr ahead)).trans ?_))
  simp only [first]
  rfl

/-- The tag of the next request to the partner. -/
def Dev.peerTag (d : Dev) : Nat := (d.csw.peerWaits.getLast?.map PeerWait.sent).getD 2 + 1

theorem Dev.redundancyConfig_down (h : d.Accepts q redundancyConfigSpec ts e) (down : e.causewayUp = false) :
    d.redundancyConfig q = (e.writePeerWords (tlvNum ts 0x0101) (tlvNum ts 0x0102)).reply q 0x0703 St.ok notUpdated :=
  (Dev.command_of h _).trans (if_pos (by simp [down]))

theorem Dev.redundancyConfig_up (h : d.Accepts q redundancyConfigSpec ts e) (up : e.causewayUp = true) :
    let cfg := tlvNum ts 0x0101
    let timing := tlvNum ts 0x0102
    d.redundancyConfig q = (e.onCsw fun c => { c with
        peerWaits := c.peerWaits ++ [⟨e.peerTag, cfg, timing, q.port, q.tag, q.src, e.clock.core + 100000000⟩] }).transmit
      3 0 0 0x0782 e.peerTag 0 (Tlv.bytes ⟨0x0101, w4 cfg⟩ ++ Tlv.bytes ⟨0x0102, w4 timing⟩) false :=
  (Dev.command_of h _).trans (if_neg (by simp [up]))

theorem Dev.peerTimeout_none (none_ : d.csw.peerWaits = []) : d.peerTimeout = d := by simp only [Dev.peerTimeout, none_]

theorem Dev.peerTimeout_first {w : PeerWait} {rest : List PeerWait} (waits : d.csw.peerWaits = w :: rest) :
    d.peerTimeout = (((d.passToCore w.limit).onCsw fun c => { c with peerWaits := rest }).writePeerWords w.cfg w.timing).respond
      w.port w.src w.tag 0x0703 St.ok notUpdated := by
  simp only [Dev.peerTimeout, waits]

/-- The header of a takeover report. -/
def Report.head (r : Report) : Tlv :=
  ⟨0x0102, w4 r.cause ++ w4 r.flags ++ w4 r.epoch ++ w8 r.epochFrame ++ w8 r.frame ++ w4 r.records.length ++ w4 r.overflow⟩

theorem Dev.reportGet_of (h : d.Accepts q reportGetSpec ts e) {r : Report} (report : e.csw.report = some r) :
    d.reportGet q = e.reply q 0x0705 St.ok
      (r.head :: (slice (tlvNum ts 0x0101) (tlvNum ts 0x0102) r.records).map fun x => data [x.bytes]) := by
  refine (Dev.command_of h _).trans ?_
  simp only [report, Option.getD_some, Report.head, List.flatten_cons, List.flatten_nil, List.append_nil, List.append_assoc]

theorem Dev.resyncRequest_active (h : d.Accepts q resyncRequestSpec ts e) (active : e.role = 0) :
    d.resyncRequest q = (e.onCsw fun c => { c with snapshotAsked := true }).reply q 0x0780 St.ok := by
  refine (Dev.command_of h _).trans ?_
  rw [if_pos (beq_iff_eq.mpr active)]

theorem Dev.resyncRequest_other (h : d.Accepts q resyncRequestSpec ts e) (other : e.role ≠ 0) :
    d.resyncRequest q = e.reply q 0x0780 St.ok := by
  refine (Dev.command_of h _).trans ?_
  rw [if_neg (mt beq_iff_eq.mp other)]

theorem Dev.resyncDone_syncing (h : d.Accepts q resyncDoneSpec ts e) (syncing : e.role = 2) :
    d.resyncDone q = (e.onCsw fun c => { c with resyncDone := some (tlvNum ts 0x0101) }).reply q 0x0781 St.ok := by
  refine (Dev.command_of h _).trans ?_
  rw [if_pos (beq_iff_eq.mpr syncing)]

theorem Dev.resyncDone_other (h : d.Accepts q resyncDoneSpec ts e) (other : e.role ≠ 2) :
    d.resyncDone q = e.reply q 0x0781 St.ok := by
  refine (Dev.command_of h _).trans ?_
  rw [if_neg (mt beq_iff_eq.mp other)]

theorem Dev.peerConfig_of (h : d.Accepts q peerConfigSpec ts e) :
    d.peerConfig q = (e.reply q 0x0782 St.ok).writePeerWords (tlvNum ts 0x0101) (tlvNum ts 0x0102) :=
  Dev.command_of h _

end

/-- Settles O56: each command by what its rules refuse, and by the role or the Causeway. -/
theorem redundancyCommandsAct : Obligations.RedundancyCommandsAct := by
  refine ⟨fun q s ts e h => ?roleStatus, Dev.setVeto_of, fun d => ⟨rfl, rfl, Dev.roleRequest_standby_down, fun k =>
      Dev.roleRequest_standby⟩, fun q s ts e h => ?switchover, fun d => Dev.peerReady_iff, fun q s ts e h => ?redundancyConfig,
    fun s => ⟨fun none_ => congrArg s.becomes (Dev.peerTimeout_none none_),
      fun w rest waits => congrArg s.becomes (Dev.peerTimeout_first waits)⟩,
    fun q s ts e h r report => ⟨r.head, rfl, congrArg s.becomes (Dev.reportGet_of h report)⟩,
    fun q s ts e h => ⟨fun active => congrArg s.becomes (Dev.resyncRequest_active h active),
      fun other => congrArg s.becomes (Dev.resyncRequest_other h other)⟩,
    fun q s ts e h => ⟨fun syncing => congrArg s.becomes (Dev.resyncDone_syncing h syncing),
      fun other => congrArg s.becomes (Dev.resyncDone_other h other)⟩,
    fun q s ts e h => congrArg s.becomes (Dev.peerConfig_of h)⟩
  case roleStatus => exact ⟨fun bad => congrArg s.becomes (Dev.roleStatus_badVeto h bad),
    fun good bad => congrArg s.becomes (Dev.roleStatus_badRequest h good bad),
    fun good permitted => congrArg s.becomes (Dev.roleStatus_of h good permitted)⟩
  case switchover => exact ⟨fun lacks => congrArg s.becomes (Dev.switchover_notReady h lacks),
    fun ready past => congrArg s.becomes (Dev.switchover_past h ready past),
    fun ready ahead first => congrArg s.becomes (Dev.switchover_waits h ready ahead first)⟩
  case redundancyConfig => exact ⟨fun down => congrArg s.becomes (Dev.redundancyConfig_down h down),
    fun up => congrArg s.becomes (Dev.redundancyConfig_up h up)⟩

end Sys2Proof.Machine
end

/-! ## Health, wear, ledgers, rails and temperature (R505–R531) -/

section

namespace Sys2Proof.Machine

/-! ### Readings (R507, R519) -/

section

variable {d : Dev} {tj : Int}

theorem Dev.tjTimeout_begins (hot : 1680 < tj) (cool : d.hget H.tjHot = 0) :
    d.tjTimeout tj = (((d.set F.HLT_TJ_TJ 0 (ofSigned 16 tj)).hset H.tjHot 0 1).raise 18 [ofSigned 32 tj]).healthReview :=
  if_neg (by simp [hot, cool])

theorem Dev.tjConditionEnd_ends (cool : tj ≤ 1680) (hot : d.hget H.tjHot = 1) :
    d.tjConditionEnd tj = ((d.set F.HLT_TJ_TJ 0 (ofSigned 16 tj)).hset H.tjHot 0 0).raise 18 [ofSigned 32 tj] :=
  if_neg (by simp [cool, hot])

/-- The temperatures of a second are stored. -/
def Dev.storeReadings (d : Dev) (tj a b : Int) : Dev :=
  let e := (d.set F.HLT_TJ_TJ 0 (ofSigned 16 tj)).set F.HLT_TJ_TJ_PEAK 0 (ofSigned 16 (max tj (toSigned 16 (d.get F.HLT_TJ_TJ_PEAK))))
  let e := (e.set F.TOP_THERM_HBM_A 0 (ofSigned 16 a)).set F.TOP_THERM_HBM_B 0 (ofSigned 16 b)
  (e.hset H.hbmFast 0 (ofBool (a > 1360))).hset H.hbmFast 1 (ofBool (b > 1360))

theorem Dev.get_storeReadings (d : Dev) (tj a b : Int) {f : Fld}
    (other : f.id ∉ [F.HLT_TJ_TJ, F.HLT_TJ_TJ_PEAK, F.TOP_THERM_HBM_A, F.TOP_THERM_HBM_B].map Fld.id) :
    (d.storeReadings tj a b).get f = d.get f := by
  simp only [List.map_cons, List.map_nil, List.mem_cons, List.not_mem_nil, or_false, not_or] at other
  obtain ⟨now, peak, first, second⟩ := other
  rw [Dev.storeReadings, Dev.get_hset, Dev.get_hset, Dev.get_set_ne _ _ fun key => second key.1, Dev.get_set_ne _ _ fun key => first key.1,
    Dev.get_set_ne _ _ fun key => peak key.1, Dev.get_set_ne _ _ fun key => now key.1]

theorem Dev.wear_storeReadings (d : Dev) (tj a b : Int) : (d.storeReadings tj a b).wear = d.wear := by
  rw [Dev.wear, Dev.get_storeReadings _ _ _ _ (by decide), Dev.get_storeReadings _ _ _ _ (by decide), Dev.wear]

theorem Dev.wearSecond_of {mean a b : Int} (powered : d.hget H.porLow = 0) :
    d.wearSecond mean tj a b = (d.storeReadings tj a b).setWear (d.wear + wearWeight mean) := by
  have runs : (d.storeReadings tj a b).hget H.porLow = 0 := by
    rw [Dev.storeReadings, Dev.hget_hset_ne _ _ fun key => absurd key.1 (by decide),
      Dev.hget_hset_ne _ _ fun key => absurd key.1 (by decide), Dev.hget_set, Dev.hget_set, Dev.hget_set, Dev.hget_set, powered]
  rw [← Dev.wear_storeReadings d tj a b]
  have goes : ¬((d.storeReadings tj a b).hget H.porLow == 1) = true := by simp [runs]
  exact if_neg goes

end

/-! ### Commands (R508, R520) -/

section

variable {d e : Dev} {q : Req} {ts : List Tlv}

theorem Dev.healthStatusGet_of (h : d.Accepts q healthStatusGetSpec ts e) : d.healthStatusGet q = e.reply q 0x0810 St.ok
    [data [w4 (e.storedAt 0xB00000 + e.healthStatusView), w4 (e.get F.HLT_TRIG_TRIG), w4 (e.storedAt 0xB00014), w8 e.wear]] :=
  Dev.command_of h _

theorem Dev.healthClear_of (h : d.Accepts q healthClearSpec ts e) :
    d.healthClear q = (e.clearTriggers (tlvNum ts 0x0101)).reply q 0x0811 St.ok :=
  Dev.command_of h _

theorem Dev.healthConfig_of (h : d.Accepts q healthConfigSpec ts e) :
    let a := if hasTlv ts 0x0101 then e.setSpareLow (tlvNum ts 0x0101) else e
    let b := if hasTlv ts 0x0102 then a.setRateLimits (tlvNum ts 0x0102) else a
    let c := if hasTlv ts 0x0103 then b.setWearCfg (tlvNum ts 0x0103) else b
    d.healthConfig q = c.healthReview.reply q 0x0812 St.ok :=
  Dev.command_of h _

theorem Dev.wearSet_first (h : d.Accepts q wearSetSpec ts e) (unset : e.get F.HLT_STATUS_WEAR_VALID = 0) :
    d.wearSet q = ((e.setWear (e.wear + tlvNum ts 0x0101)).set F.HLT_STATUS_WEAR_VALID 0 1).reply q 0x0813 St.ok :=
  (Dev.command_of h _).trans (if_neg (by simp [unset]))

theorem Dev.wearSet_again (h : d.Accepts q wearSetSpec ts e) (set : e.get F.HLT_STATUS_WEAR_VALID = 1) :
    d.wearSet q = e.reply q 0x0813 St.badParam [statusDetail 0xFFFF 0xFF 0x90] :=
  (Dev.command_of h _).trans (if_pos (by simp [set]))

theorem Dev.ledgerStatusGet_of (h : d.Accepts q ledgerStatusGetSpec ts e) : d.ledgerStatusGet q = e.reply q 0x0814 St.ok
    (⟨0x0102, w4 (e.get F.LDG_EPOCH_EPOCH) ++ w4 (e.storedAt 0xC00004 + e.ledgerStatusView)⟩ ::
      e.health.faults.map fun f => data [w4 f.id, w8 (ofSigned 64 f.imbalance), w4 (f.frame % 2 ^ 32)]) :=
  Dev.command_of h _

theorem Dev.ledgerRead_known (h : d.Accepts q ledgerReadSpec ts e) {l : LedgerDef} {i : Nat}
    (known : ledgerOf (tlvNum ts 0x0101) = some (l, i)) :
    d.ledgerRead q = e.reply q 0x0815 St.ok [data ((e.latchedTerms l i).map fun t => w8 (ofSigned 64 t))] := by
  refine (Dev.command_of h _).trans ?_
  simp only [known]

theorem Dev.ledgerRead_unknown (h : d.Accepts q ledgerReadSpec ts e) (unknown : ledgerOf (tlvNum ts 0x0101) = none) :
    d.ledgerRead q = e.reply q 0x0815 St.badParam [statusDetail (tlvIndex ts 0x0101) 0xFF 0] := by
  refine (Dev.command_of h _).trans ?_
  simp only [unknown]

end

/-! ### Rails and thermal trips (R528, R531) -/

section

variable {d : Dev} {x : BootIn}

/-- A rail is recorded as out of range. -/
def Dev.noteRail (d : Dev) (rail : Nat) : Dev := d.set F.TOP_VMON_RAILS 0 (d.get F.TOP_VMON_RAILS ||| 2 ^ rail)

theorem Dev.railExcursion_of (powered : d.hget H.porLow = 0) (rail : Nat) :
    d.railExcursion rail = (d.noteRail rail).raise 19 [(d.noteRail rail).get F.TOP_VMON_RAILS] :=
  if_neg (by simp [powered])

theorem Dev.thermalTrip_resets (powered : d.hget H.porLow = 0) (free : d.hget H.tripHeld = 0) (idle : d.bist.work = []) (sensor : Nat) :
    d.thermalTrip sensor = d.resetNow 8 sensor :=
  (if_neg (by simp [powered, free])).trans ((if_neg (by simp [powered])).trans (if_neg (by simp [Dev.fuseBusy, idle])))

theorem Dev.hget_resetNow_tripHeld (d : Dev) (cause domain : Nat) : (d.resetNow cause domain).hget H.tripHeld = ofBool (cause = 8) % 2 := by
  rw [Dev.resetNow_eq, (untouchedBySampling_hget 0 (by decide) (by decide)).samplePins,
    Dev.hget_hset_ne _ _ fun key => absurd key.1 (by decide), Dev.hget_set, Dev.hget_set,
    Dev.each_keeps (·.hget H.tripHeld) (fun n f => n.carryField d f) fieldsKept fun _ _ => Dev.hget_set .., Dev.resetStays,
    Dev.hget_hset_same]
  rfl

theorem Dev.startable_released (step : d.get F.BOOT_STATUS_STEP = 0) : (d.hset H.tripHeld 0 0).startable = true := by
  simp [Dev.startable, step]

theorem Dev.porRelease_released (step : d.get F.BOOT_STATUS_STEP = 0) (powered : d.hget H.porLow = 0) :
    (d.hset H.tripHeld 0 0).porRelease x = ((d.hset H.tripHeld 0 0).hset H.porLow 0 0).bootRun x false := by
  have starts : ((d.hset H.tripHeld 0 0).hset H.porLow 0 0).startable = true := by
    simp (disch := decide) [Dev.startable, step, Dev.hget_hset_ne]
  have high : (d.hset H.tripHeld 0 0).hget H.porLow = 0 := by
    rw [Dev.hget_hset_ne _ _ fun key => absurd key.1 (by decide), powered]
  simp [Dev.porRelease, high, starts]

theorem execThermalRecovery_of {s : State} (held : s.dev.hget H.tripHeld = 1) (step : s.dev.get F.BOOT_STATUS_STEP = 0)
    (powered : s.dev.hget H.porLow = 0) : execThermalRecovery x s = .next { s with
      dev := (((s.dev.hset H.tripHeld 0 0).hset H.porLow 0 0).bootRun x false).flush, mere := [] } := by
  rw [execThermalRecovery, if_pos held, bootWith]
  simp only [Dev.startable_released step, Dev.porRelease_released step powered, if_pos]

end

/-- Settles O59: a trigger by what is cleared, a reading by its bound, a command by what its rules refuse, a trip by its reset. -/
theorem healthActs : Obligations.HealthActs := by
  refine ⟨fun m v s reach => ?clear, fun d mask => rfl, fun d old => rfl,
    fun tj s hot cool => congrArg s.becomes (Dev.tjTimeout_begins hot cool),
    fun tj s cool hot => congrArg s.becomes (Dev.tjConditionEnd_ends cool hot),
    fun mean tj a b s powered => congrArg s.becomes (Dev.wearSecond_of powered),
    fun q s ts e h => congrArg s.becomes (Dev.healthStatusGet_of h), fun q s ts e h => congrArg s.becomes (Dev.healthClear_of h),
    fun q s ts e h => congrArg s.becomes (Dev.healthConfig_of h),
    fun q s ts e h => ⟨fun unset => congrArg s.becomes (Dev.wearSet_first h unset),
      fun set => congrArg s.becomes (Dev.wearSet_again h set)⟩,
    fun q s ts e h => congrArg s.becomes (Dev.ledgerStatusGet_of h),
    fun q s ts e h => ⟨fun l i known => congrArg s.becomes (Dev.ledgerRead_known h known),
      fun unknown => congrArg s.becomes (Dev.ledgerRead_unknown h unknown)⟩,
    fun rail s powered => congrArg s.becomes (Dev.railExcursion_of powered rail), fun sensor s powered free idle => ?trip,
    fun x s held step powered => (exec_thermalRecovery x s).trans (execThermalRecovery_of held step powered)⟩
  case clear => rw [exec_hltTrigWrite, Dev.busWrite_of reach]
  case trip =>
    exact ⟨congrArg s.becomes (Dev.thermalTrip_resets powered free idle sensor), Dev.hget_resetNow_tripHeld ..,
      Dev.get_resetNow_cause ..⟩

end Sys2Proof.Machine
end
